-- ==== Sys2Proof/Word.lean ====
section
/-! DEFINITION. Word and byte types and their plainest arithmetic (R11: multi-byte fields are little-endian). -/
namespace Sys2Proof

/-- One byte of a frame, a register or a record. -/
abbrev Byte := BitVec 8
/-- A 32-bit host port register (R51). -/
abbrev Word32 := BitVec 32
/-- A time in pack-time ticks of 10 ns (R10). -/
abbrev Tick := Nat

/-- Ticks in one microsecond (R10). -/
abbrev usT : Tick := 100
/-- Ticks in one millisecond (R10). -/
abbrev msT : Tick := 100000
/-- Ticks in one second (R10). -/
abbrev secT : Tick := 100000000

end Sys2Proof
end

