-- ==== Sys2Proof/Syntax.lean ====
section
/-! DEFINITION. The commands of the block: one constructor of `Instr` for each row of spec/opcode_table.json,
with the operands of the row. A mailbox command carries its frame header and the parameters its opcode's table
gives (R63, R563); an event carries what the part meets in it (a level, a measured value, a received frame). -/
namespace Sys2Proof

/-- The header of a mailbox command as the engine took it (R63, R69, R74, R83).
`origin` is 0 for this package's own host port and otherwise the chain address of the head whose frame brought it. -/
structure Hdr where
  origin : Nat
  prio : Nat
  tag : Nat
  target : Nat
  deriving DecidableEq, Repr, Inhabited

/-- The session proof that ends the parameters of a session command (R388). -/
structure Proof where
  session : Nat
  count : Nat
  mac : List Byte
  deriving DecidableEq, Repr, Inhabited

/-- One entry of a sequence table (R105). -/
structure SeqEntry where
  first : Nat
  last : Nat
  acq : Nat
  gain : Nat
  ref : Nat
  filt : Nat
  div : Nat
  flags : Nat
  deriving DecidableEq, Repr, Inhabited

/-- One filter set: order N and decimation D (R138). -/
structure FilterSet where
  order : Nat
  d : Nat
  deriving DecidableEq, Repr, Inhabited

/-- One SET_STREAM entry (R169): package, form (0 none, 1 full, 2 compact), divider. -/
structure StreamSel where
  pkg : Nat
  form : Nat
  div : Nat
  deriving DecidableEq, Repr, Inhabited

/-- One CAL_CELL_GAIN entry: die-local cell and its true voltage in µV (R179). -/
structure TrueCell where
  cell : Nat
  vtrue : Nat
  deriving DecidableEq, Repr, Inhabited

/-- One SET_SPANS entry (R235). -/
structure SpanEntry where
  die : Nat
  straddle : Nat
  fsw : Nat
  deriving DecidableEq, Repr, Inhabited

/-- One SET_DERATING entry (R250, R251); `knee` and `stop` are signed, in 0.01 °C. -/
structure DerateEntry where
  die : Nat
  therm : Nat
  cap : Nat
  knee : Int
  stop : Int
  deriving DecidableEq, Repr, Inhabited

/-- The three binary32 words A0, A1, A2 of one cell (R280). -/
structure TempCoeff where
  a0 : Nat
  a1 : Nat
  a2 : Nat
  deriving DecidableEq, Repr, Inhabited

/-- What the two converters of one die meet in one sweep: the voltage in µV at each of the 32 inputs
(cells 1 to 24, then A1 to A8, coded as R105), the voltage of each cell that the diagnostic converter sees,
and the cell-side current that each tap carries, in mA (R128). -/
structure DieMeas where
  die : Nat
  inputs : List Int
  diag : List Int
  tapCurrent : List Int
  deriving DecidableEq, Repr, Inhabited

/-- The three readings of one probe step, in µV: cell m, cell m+1, span or land (R213, R215). -/
structure ProbeReading where
  cellM : Int
  cellM1 : Int
  span : Int
  deriving DecidableEq, Repr, Inhabited

/-- What stands at a segment die while it reads cells: the cell voltages in µV, and the currents of its taps 0 to 24 in mA (R128, R204). -/
structure CellPoint where
  volts : List Int
  taps : List Int
  deriving DecidableEq, Repr, Inhabited

/-- What a check in SLEEP finds beside the cells: the temperature diode in 0.01 °C, whether the comparator self-test tripped and the diagnostic
reference settled (R208), and the temperature of the die's own thermistor input, if one is mapped (R250, R450). -/
structure CheckRound where
  temp : Int
  tripped : Bool
  refSettled : Bool
  therm : Option Int
  deriving DecidableEq, Repr, Inhabited

/-- A sleep Take (R254): the filtered main voltages and the last diagnostic readings of the die's cells, in µV. -/
structure SleepTake where
  volts : List Int
  diags : List Int
  deriving DecidableEq, Repr, Inhabited

/-- Consecutive non-blanked samples of a safety input's channel, 250 µs apart: the state they agree on, operate or safe, and their number (R371). -/
structure SampleRun where
  operate : Bool
  samples : Nat
  deriving DecidableEq, Repr, Inhabited

/-- What a Dolly's cell-side current sense gives for a cell it modulates (R262, R267): die code, die-local cell, and for each sweep its Clapper, its
period in ticks, and the mean current over that period in µA. -/
structure SenseRun where
  die : Nat
  cell : Nat
  samples : List (Nat × Nat × Int)
  deriving DecidableEq, Repr, Inhabited

/-- What ROM and Keeper find at a start of C (R480, R481, R193, R394, R407, R508, R515, R457): one entry per check. -/
structure BootFindings where
  keeperGood : List Bool
  studioGood : List Bool
  microGood : List Bool
  radioGood : List Bool
  patchRejected : List Nat
  trimBad : List Nat
  calBad : List Nat
  calBadB : List Nat
  safetyGood : List Bool
  reactionGood : List Bool
  lifeGood : List Bool
  bootSectorGood : List Bool
  lbistPass : List (Nat × Bool × Nat)
  bootrec : Bool
  crystal32 : Bool
  deriving DecidableEq, Repr, Inhabited

/-- The supply and clock conditions LBIST meets at one die (R512, R534) and how the run ends
(1 pass, 2 fail, 3 aborted) with the low half of its signature (R514). -/
structure LbistEnv where
  die : Nat
  supplyOk : Bool
  clockOk : Bool
  wakeFired : Bool
  result : Nat
  sigLow : Nat
  deriving DecidableEq, Repr, Inhabited

/-- The DeariLink frame header fields as received (R296; the type is the command's own), the port the copy came in on (0 A, 1 B), and whether its
check value is good. -/
structure FrameHdr where
  dest : Nat
  src : Nat
  flags : Nat
  seq : Nat
  hops : Nat
  port : Nat
  goodCrc : Bool
  deriving DecidableEq, Repr, Inhabited

/-- The commands, in the order of spec/opcode_table.json. -/
inductive Instr where
  -- Host port (chapter "Host port and mailboxes")
  /-- SPI_READ (R48): address, length, header CRC as received, clock count. -/
  | spiRead (addr len hdrCrc clocks : Nat)
  /-- SPI_WRITE (R48). -/
  | spiWrite (addr len hdrCrc : Nat) (data : List Byte) (dataCrc clocks : Nat)
  /-- QUAD_READ (R46). -/
  | quadRead (addr len hdrCrc clocks : Nat)
  /-- QUAD_WRITE (R46). -/
  | quadWrite (addr len hdrCrc : Nat) (data : List Byte) (dataCrc clocks : Nat)
  /-- REGISTER_WRITE (R13): bytes written from an address upward. -/
  | registerWrite (addr : Nat) (data : List Byte)
  /-- DOORBELL_IN (R65). -/
  | doorbellIn (n : Nat)
  /-- MAILBOX_TAKE_FRAME (R65). -/
  | mailboxTakeFrame
  /-- REPLY_WRITE (R67): priority. -/
  | replyWrite (n : Nat)
  /-- DOORBELL_OUTACK (R67). -/
  | doorbellOutack (n : Nat)
  /-- RAWRES_CODE_READ (R58). -/
  | rawresCodeRead
  /-- RAWRES_TAG_READ (R59). -/
  | rawresTagRead
  /-- RAW_RESULT_ARRIVAL (R59): the result that arrives, in the code and tag fields of R57. -/
  | rawResultArrival (code input die sweep : Nat) (urg nbr ovr : Bool)
  /-- URGGO (R123). -/
  | urggo
  /-- URGCLR (R61). -/
  | urgclr
  /-- URGENT_REQUEST_ARRIVAL (R123): the die that the request reaches. -/
  | urgentRequestArrival (die : Nat)
  /-- URGENT_CONVERSION (R124): voltage in µV at the input. -/
  | urgentConversion (microvolts : Int)
  /-- WDA_WRITE (R422): the bytes written and whether one write covers all four. -/
  | wdaWrite (token : Nat) (whole : Bool)
  /-- WD_TIMEOUT (R422). -/
  | wdTimeout
  /-- ABORT_WRITE (R81): the 32-bit word written. -/
  | abortWrite (word : Nat)
  /-- OPERATION_ABORT_STOP (R82): priority and tag of the aborted operation. -/
  | operationAbortStop (prio tag : Nat)
  /-- STRRD_WRITE (R80). -/
  | strrdWrite (value : Nat)
  /-- SWRST_WRITE (R88). -/
  | swrstWrite (value : Nat)
  /-- RSTN_ASSERT (R86). -/
  | rstnAssert
  /-- RSTN_RELEASE (R86). -/
  | rstnRelease
  /-- RSTN_STUCK (R87). -/
  | rstnStuck
  /-- RSTN_IGNORE_END (R87). -/
  | rstnIgnoreEnd
  /-- PART_START (R445). -/
  | partStart (b : BootFindings)
  /-- STUDIO_READY (R425): can the Studio read the active settings area (R497)? -/
  | studioReady (settingsReadable : Bool)
  -- Power, clocks and temperature
  /-- GET_IDENTITY (R472). -/
  | getIdentity (h : Hdr)
  /-- GET_POWER_STATUS (R472). -/
  | getPowerStatus (h : Hdr)
  /-- SET_POWER_STATE (R442). -/
  | setPowerState (h : Hdr) (state scope : Nat) (p : Option Proof)
  /-- SHUTDOWN_SEQUENCE (R444): what LBIST meets at each die. -/
  | shutdownSequence (lbist : List LbistEnv)
  /-- LBIST_SUPERVISION_RESUME (R513): the dies still silent. -/
  | lbistSupervisionResume (silent : List Nat)
  /-- SET_WAKE (R472). -/
  | setWake (h : Hdr) (mask state sleepchk waketime sleeptemp : Nat)
  /-- SET_MONITOR (R472). -/
  | setMonitor (h : Hdr) (period order dec : Nat)
  /-- SET_THERMAL (R461): four levels in 0.01 °C, RISE in 0.1 K/s. -/
  | setThermal (h : Hdr) (l1 l2 l3 l4 : Int) (rise : Nat)
  /-- GET_THERMAL (R472). -/
  | getThermal (h : Hdr)
  /-- SET_SCRUB (R471). -/
  | setScrub (h : Hdr) (mode : Nat)
  /-- SCRUB_NOW (R471). -/
  | scrubNow (h : Hdr)
  /-- SET_CLOCKS (R457). -/
  | setClocks (h : Hdr) (src32 : Nat)
  /-- SCRUB_STEP (R470): numbers of the weak and of the uncorrectable blocks among the 16 KiB read. -/
  | scrubStep (weak bad : List Nat)
  /-- SCRUB_DUE (R469). -/
  | scrubDue
  /-- WAKE (R452): code of the source. -/
  | wake (code : Nat)
  /-- VLV_LOW (R456): VLV in mV. -/
  | vlvLow (mv : Nat)
  /-- VLV_BROWN_OUT (R456). -/
  | vlvBrownOut (mv : Nat)
  /-- VLV_RETURN (R456). -/
  | vlvReturn (mv : Nat)
  /-- MONITOR_BURST (R447). -/
  | monitorBurst
  /-- RING_BURST (R449): the dies whose status word is good in this burst. -/
  | ringBurst (dies : List Nat)
  /-- GUARD_PASS (R449): cell voltages in µV of one die. -/
  | guardPass (die : Nat) (volts : List Int)
  /-- STUDIO_SLEEP (R448). -/
  | studioSleep
  /-- SLEEP_CHECK (R450): cell voltages in µV and die temperature in 0.01 °C. -/
  | sleepCheck (die : Nat) (volts : List Int) (found : CheckRound)
  /-- CLOCK_32K_FAULT (R457). -/
  | clock32kFault
  /-- PLL_LOCK (R458). -/
  | pllLock
  /-- PLL_UNLOCK (R459): 0 200 MHz, 1 50 MHz, 2 125 MHz. -/
  | pllUnlock (which : Nat)
  /-- HOUSEKEEPING_ROUND (R460): die, reading in 0.01 °C, did both comparator test values trip (R208), is the
  diagnostic reference settled. -/
  | housekeepingRound (die : Nat) (temp : Int) (tripped refSettled : Bool)
  /-- THERMAL_LEVEL (R461): die, level 1 to 4, upward. -/
  | thermalLevel (die level : Nat) (upward : Bool)
  /-- THERMAL_RESTART (R468). -/
  | thermalRestart (die : Nat)
  /-- SEGMENT_SUPPLY_LOW (R535). -/
  | segmentSupplyLow (die : Nat)
  /-- SEGMENT_SUPPLY_RESTART (R535). -/
  | segmentSupplyRestart (die : Nat)
  /-- CORE_SUPPLY_RESET (R534). -/
  | coreSupplyReset (die : Nat)
  -- Cell sweep and converters
  /-- SET_SEQUENCE (R105). -/
  | setSequence (h : Hdr) (dieMask : Nat) (entries : List SeqEntry)
  /-- GET_SEQUENCE (R133). -/
  | getSequence (h : Hdr) (die : Nat)
  /-- SET_TRIGGER (R115). -/
  | setTrigger (h : Hdr) (source edge watch delay period phase : Nat)
  /-- SCHEDULE_CLAPPERS (R112). -/
  | scheduleClappers (h : Hdr) (op : Nat) (times : List Nat)
  /-- SET_SCHEDULING_MODE (R103). -/
  | setSchedulingMode (h : Hdr) (mode : Nat)
  /-- SET_DOLLY_INTERACTION (R129). -/
  | setDollyInteraction (h : Hdr) (dieMask mode : Nat)
  /-- SWEEP_CONTROL (R135). -/
  | sweepControl (h : Hdr) (run : Nat)
  /-- GET_SWEEP_STATUS (R133). -/
  | getSweepStatus (h : Hdr)
  /-- SET_SELFTEST (R130). -/
  | setSelftest (h : Hdr) (period : Nat)
  /-- MODE_SWITCH_TAKES_EFFECT (R32). -/
  | modeSwitchTakesEffect
  /-- CLAP_PIN_EDGE (R109): rising or falling. -/
  | clapPinEdge (rising : Bool)
  /-- SCHEDULE_SEND (R112). -/
  | scheduleSend
  /-- CLAPPER (R99): what the converters of each die meet in the sweep. -/
  | clapper (meas : List DieMeas)
  /-- QUIET_GATE (R127): die, Dolly, input, cell-side current in mA at the sample. -/
  | quietGate (die dolly input : Nat) (current : Int)
  /-- SWEEP_END (R101). -/
  | sweepEnd
  /-- CLAP_PIN_SILENT (R114). -/
  | clapPinSilent
  /-- SELFTEST_START (R130). -/
  | selftestStart (die : Nat)
  /-- SELFTEST_END (R131): the failing step, or none; and for a test that R221 started, is the main and the
  diagnostic reading of the check source off by more than 0.15 %. -/
  | selftestEnd (die : Nat) (failStep : Option Nat) (mainOff diagOff : Bool)
  /-- REFOK_CHANGE (R118): reference 0 internal, 1 external, 2 supply, and its voltage in µV as the die reads it. -/
  | refokChange (die ref : Nat) (uv : Int)
  /-- REF_START_TIMEOUT (R120). -/
  | refStartTimeout (die ref : Nat)
  /-- STATUS_WORD_TIMER (R293). -/
  | statusWordTimer (die : Nat)
  /-- GUARD_GROUP (R204): what stands at the die's cells, of which the next group is read. -/
  | guardGroup (die : Nat) (at_ : CellPoint)
  -- Filters, Slates and the commit pipeline
  /-- SET_FILTERS (R138). -/
  | setFilters (h : Hdr) (takedec : Nat) (sets : List FilterSet)
  /-- GET_FILTERS (R172). -/
  | getFilters (h : Hdr)
  /-- SET_ALIGNMENT (R144). -/
  | setAlignment (h : Hdr) (mode irsrc subdie subin rmode : Nat)
  /-- SET_RESISTANCE (R146): values in µΩ. -/
  | setResistance (h : Hdr) (first : Nat) (values : List Nat)
  /-- GET_RESISTANCE (R172). -/
  | getResistance (h : Hdr) (first n : Nat)
  /-- SET_FILTER_MODE (R172). -/
  | setFilterMode (h : Hdr) (mode die : Nat)
  /-- SET_CONTINUITY (R165). -/
  | setContinuity (h : Hdr) (mode contthr verdicttmo : Nat)
  /-- SEND_VERDICT (R165). -/
  | sendVerdict (h : Hdr) (seq verdict : Nat)
  /-- SET_STREAM (R169). -/
  | setStream (h : Hdr) (entries : List StreamSel)
  /-- READ_HISTORY (R168). -/
  | readHistory (h : Hdr) (fromT toT : Nat)
  /-- HISTORY_RECORD_WRITE (R168). -/
  | historyRecordWrite
  /-- CHARGE (R172): value in mAs. -/
  | charge (h : Hdr) (op : Nat) (value : Int)
  /-- CHARGE_PRESET_APPLY (R172). -/
  | chargePresetApply
  /-- GET_SLATE_STATUS (R172). -/
  | getSlateStatus (h : Hdr)
  /-- DIE_BLOCK (R290): die, and did its CRC check. -/
  | dieBlock (die : Nat) (good : Bool)
  /-- SLATE_PUBLISH (R160). -/
  | slatePublish
  /-- CONTINUITY_WINDOW_CLOSE (R161). -/
  | continuityWindowClose (die : Nat)
  /-- CONTINUITY_VERDICT (R290): die, and did its CRC check. -/
  | continuityVerdict (die : Nat) (good : Bool)
  /-- COMMIT_NOTICE (R163). -/
  | commitNotice
  /-- WINDOW_INCOMPLETE (R163): the die whose result is missing. -/
  | windowIncomplete (die : Nat)
  /-- OPEN_WINDOW_FINISH (R164): the die and the diagnostic readings of the remaining window, in µV. -/
  | openWindowFinish (die : Nat) (volts : List Int)
  /-- VERDICT_TIMEOUT (R165). -/
  | verdictTimeout
  -- Calibration and accuracy
  /-- CAL_START (R182). -/
  | calStart (h : Hdr) (die input unit : Nat)
  /-- CAL_POINT (R183). -/
  | calPoint (h : Hdr) (kind ntakes : Nat) (value : Int)
  /-- CAL_COMMIT (R185). -/
  | calCommit (h : Hdr)
  /-- CAL_CANCEL (R182). -/
  | calCancel (h : Hdr)
  /-- CAL_CELL_GAIN (R179). -/
  | calCellGain (h : Hdr) (die ntakes : Nat) (cells : List TrueCell)
  /-- CAL_TAPS (R188): ITEST in mA. -/
  | calTaps (h : Hdr) (dieMask itest : Nat)
  /-- CAL_TAPS_STEP_END (R188): the cell-side currents that the Dollies measured in the step: die code, Dolly, mA. -/
  | calTapsStepEnd (currents : List (Nat × Nat × Nat))
  /-- SET_TAP_RESISTANCE (R189): µΩ. -/
  | setTapResistance (h : Hdr) (die tap value : Nat)
  /-- GET_CALIBRATION (R201). -/
  | getCalibration (h : Hdr) (die kind fromIdx : Nat)
  /-- CAL_ERASE (R193). -/
  | calErase (h : Hdr) (die kind input : Nat)
  /-- FLASH_STEP_COMPLETE (R428). -/
  | flashStepComplete
  -- Sense-path diagnostics
  /-- SET_OPEN_TAP (R220). -/
  | setOpenTap (h : Hdr) (mode otperiod jumpthr : Nat)
  /-- PROBE_TAP (R220). -/
  | probeTap (h : Hdr) (die tap : Nat)
  /-- GET_SENSE_STATUS (R228). -/
  | getSenseStatus (h : Hdr)
  /-- RUN_MATRIX_TEST (R222). -/
  | runMatrixTest (h : Hdr) (dieMask : Nat)
  /-- RUN_LEAKAGE_TEST (R224). -/
  | runLeakageTest (h : Hdr) (dieMask leakthr cin : Nat)
  /-- SET_THERMISTORS (R226). -/
  | setThermistors (h : Hdr) (die mask openlim shortlim : Nat)
  /-- OPEN_TAP_PROBE_START (R217): die, baseline readings, pack current in mA at the baseline. -/
  | openTapProbeStart (die : Nat) (baseline : ProbeReading) (current : Int)
  /-- OPEN_TAP_VERDICT (R214): die, check and restore readings, pack current in mA at the check. -/
  | openTapVerdict (die : Nat) (check restore : ProbeReading) (current : Int)
  /-- REF_XCHECK_BLOCK (R221): die. -/
  | refXcheckBlock (die : Nat)
  /-- MATRIX_TEST_STEP (R222): die, group and the VCS reading in mV, with the cell whose voltage it matches (0 none). -/
  | matrixTestStep (die group vcs seen : Nat)
  /-- LEAKAGE_TEST_END (R224): die, group, V0 and V1 in mV. -/
  | leakageTestEnd (die group v0 v1 : Nat)
  /-- GROUP_TEST_DUE (R225): die, group. -/
  | groupTestDue (die group : Nat)
  -- Dollies and balancing
  /-- SET_SPANS (R235). -/
  | setSpans (h : Hdr) (entries : List SpanEntry)
  /-- SET_GOAL (R243). -/
  | setGoal (h : Hdr) (goal imax target band horizon : Nat)
  /-- SET_CELL_CAPACITY (R243). -/
  | setCellCapacity (h : Hdr) (first : Nat) (values : List Nat)
  /-- SET_CHARGE_GOAL (R243). -/
  | setChargeGoal (h : Hdr) (first : Nat) (values : List Int)
  /-- SET_BALANCE_MODE (R248). -/
  | setBalanceMode (h : Hdr) (mode : Nat)
  /-- DOLLY_ORDER (R248). -/
  | dollyOrder (h : Hdr) (die dolly mode cell iset duration qlimit : Nat)
  /-- SET_DOLLY_LIMITS (R240). -/
  | setDollyLimits (h : Hdr) (cellhi celllo lease : Nat)
  /-- SET_DERATING (R250). -/
  | setDerating (h : Hdr) (mode : Nat) (entries : List DerateEntry)
  /-- SET_SLEEP_BALANCE (R256). -/
  | setSleepBalance (h : Hdr) (enable period target band isleep maxawake : Nat)
  /-- GET_PLAN (R258). -/
  | getPlan (h : Hdr) (die : Nat)
  /-- GET_BALANCE_STATUS (R258). -/
  | getBalanceStatus (h : Hdr) (die : Nat)
  /-- PLANNER_PREPARE (R244). -/
  | plannerPrepare
  /-- DOLLY_APPLY_ITEM (R246): die, Dolly. -/
  | dollyApplyItem (die dolly : Nat)
  /-- DOLLY_LEASE_EXPIRED (R247): die, Dolly, charge moved in mAs (positive into the cell) and loss in mJ. -/
  | dollyLeaseExpired (die dolly : Nat) (qcell : Int) (loss : Nat)
  /-- TRANSFER_LIMIT_END (R239): as for DOLLY_LEASE_EXPIRED. -/
  | transferLimitEnd (die dolly : Nat) (qcell : Int) (loss : Nat)
  /-- DOLLY_OVERCURRENT (R260). -/
  | dollyOvercurrent (die dolly : Nat)
  /-- DOLLY_REGULATION (R260). -/
  | dollyRegulation (die dolly : Nat)
  /-- DOLLY_SPAN_VOLTAGE (R260): span voltage in mV. -/
  | dollySpanVoltage (die dolly mv : Nat)
  /-- DOLLY_NO_TRANSFER (R260). -/
  | dollyNoTransfer (die dolly : Nat)
  /-- DOLLY_DRIVER_SUPPLY (R260). -/
  | dollyDriverSupply (die : Nat)
  /-- DOLLY_CHECK_TRANSFER_END (R241): die, Dolly, did the check transfer raise no fault. -/
  | dollyCheckTransferEnd (die dolly : Nat) (clean : Bool)
  /-- DOLLY_THERMAL_RESUME (R252). -/
  | dollyThermalResume (die : Nat)
  /-- SLEEP_BALANCE_WAKE (R254). -/
  | sleepBalanceWake (die : Nat)
  /-- SLEEP_TAKE_END (R254): die, filtered cell values in µV, and the cells whose diagnostic readings disagree. -/
  | sleepTakeEnd (die : Nat) (take : SleepTake) (mismatch : List Nat)
  /-- SLEEP_TAKE_REPEAT (R254). -/
  | sleepTakeRepeat (die : Nat)
  /-- SLEEP_AWAKE_LIMIT (R254). -/
  | sleepAwakeLimit (die : Nat)
  -- Cell impedance and sensorless temperature
  /-- DEFINE_SESSION (R274); `cells` is the 18-byte selection mask as one number. -/
  | defineSession (h : Hdr) (source settle nblocks auxdie auxin iamp imin cells : Nat) (freqs : List Nat)
  /-- START_SESSION (R282). -/
  | startSession (h : Hdr) (fromPoint : Nat)
  /-- GET_SESSION_STATUS (R285). -/
  | getSessionStatus (h : Hdr)
  /-- READ_POINTS (R285). -/
  | readPoints (h : Hdr) (fromPoint toPoint : Nat)
  /-- POINT_READBACK_WRITE (R285). -/
  | pointReadbackWrite
  /-- SET_TEMP_COEFFS (R280). -/
  | setTempCoeffs (h : Hdr) (ft first : Nat) (coeffs : List TempCoeff)
  /-- SET_IMPEDANCE_MODE (R284). -/
  | setImpedanceMode (h : Hdr) (mode : Nat)
  /-- MODULATE_ORDER (R284). -/
  | modulateOrder (h : Hdr) (die dolly cell freq iamp t0 duration : Nat)
  /-- MODULATE_ORDER_END (R284): die, Dolly, measured amplitude in mA and phase in 0.01°. -/
  | modulateOrderEnd (die dolly measured : Nat) (phase : Int)
  /-- LOCKIN_BLOCK (R269): the sums of each die for the block. -/
  | lockinBlock (senses : List SenseRun)
  -- In-package ring, DeariLink and pack radio
  /-- ENUMERATE (R306). -/
  | enumerate (h : Hdr) (expect : Nat)
  /-- ENUMERATION_TIMEOUT (R306). -/
  | enumerationTimeout
  /-- GET_CHAIN_MAP (R329). -/
  | getChainMap (h : Hdr) (first n : Nat)
  /-- GET_LINK_STATUS (R329). -/
  | getLinkStatus (h : Hdr)
  /-- SET_TIMEBASE (R309). -/
  | setTimebase (h : Hdr) (ref freq : Nat)
  /-- SET_PLACEMENT (R328). -/
  | setPlacement (h : Hdr) (cls pin : Nat)
  /-- SET_RADIO (R329); `txpwr` is signed dBm. -/
  | setRadio (h : Hdr) (enable : Nat) (txpwr : Int) (chmask : Nat)
  /-- RADIO_REKEY (R323). -/
  | radioRekey (h : Hdr)
  /-- SET_SERVICE (R316). -/
  | setService (h : Hdr) (op dieMask : Nat)
  /-- GET_RADIO_STATUS (R329). -/
  | getRadioStatus (h : Hdr) (first n : Nat)
  /-- CLAPPER_EVENT (R290): the die that the event code group reaches. -/
  | clapperEvent (die : Nat)
  /-- RING_PACK_TIME (R290): die, and did the message's CRC check. -/
  | ringPackTime (die : Nat) (good : Bool)
  /-- RING_CURRENT_SAMPLE (R290): pack time and current in mA, and did its CRC check. -/
  | ringCurrentSample (time : Nat) (current : Int) (good : Bool)
  /-- RING_CONFIGURATION_MESSAGE (R292): die, and did the message's CRC check. -/
  | ringConfigurationMessage (die : Nat) (good : Bool)
  /-- STATUS_WORD (R42): die, did its CRC check, its ring-input-lost flag. -/
  | statusWord (die : Nat) (good inputLost : Bool)
  /-- FAULT_MESSAGE (R405): the 32-bit message of R402. -/
  | faultMessage (msg : BitVec 32)
  /-- RING_INPUT_LOST (R293). -/
  | ringInputLost (die : Nat)
  /-- RING_LOSS (R42). -/
  | ringLoss
  /-- FULL_SLATE_FRAME (R297). -/
  | fullSlateFrame (f : FrameHdr) (payload : List Byte)
  /-- COMPACT_SLATE_FRAME (R297). -/
  | compactSlateFrame (f : FrameHdr) (payload : List Byte)
  /-- COMMIT_NOTICE_FRAME (R303). -/
  | commitNoticeFrame (f : FrameHdr) (payload : List Byte)
  /-- OTHER_STREAM_RECORD_FRAME (R297): record type and payload. -/
  | otherStreamRecordFrame (f : FrameHdr) (rtype : Nat) (payload : List Byte)
  /-- MAILBOX_COMMAND_FRAME (R74): priority and the frame of R63. -/
  | mailboxCommandFrame (f : FrameHdr) (prio : Nat) (payload : List Byte)
  /-- MAILBOX_REPLY_FRAME (R74): priority and the frame of R66. -/
  | mailboxReplyFrame (f : FrameHdr) (prio : Nat) (payload : List Byte)
  /-- FAULT_RECORD_FRAME (R412): 16-byte payload. -/
  | faultRecordFrame (f : FrameHdr) (payload : List Byte)
  /-- SUPERFRAME_FRAME (R304): the fields of its table. -/
  | superframeFrame (f : FrameHdr) (sfnum master count : Nat) (ack : List Nat) (admitMask placeb rsf : Nat) (slotmap : List (Nat × Nat))
  /-- HEARTBEAT (R297): state, class B queue length in bytes, port states. -/
  | heartbeat (f : FrameHdr) (state queue ports : Nat)
  /-- JOIN (R307): UID, chain identity, stored address, position from the head (0 unknown). -/
  | join (f : FrameHdr) (uid chainId addr time : Nat)
  /-- ENUMERATION (R306): chain identity, next address, expected count; port the frame came in on (0 A, 1 B). -/
  | enumeration (f : FrameHdr) (chainId next expect port : Nat)
  /-- SCHEDULE_FRAME (R112). -/
  | scheduleFrame (f : FrameHdr) (times : List Nat)
  /-- BULK_FRAME (R297): stream, transfer id, offset, data. -/
  | bulkFrame (f : FrameHdr) (stream tid offset : Nat) (data : List Byte)
  /-- CONFIGURATION_FRAME (R297): kind (0 chain key, 1 arming, 2 current source, 3 cancel, 4 power state, 5 chain
  identity, 6 answer to an arming) and its value and time. -/
  | configurationFrame (f : FrameHdr) (kind value time : Nat)
  /-- CLAP_SET (R301): low 32 bits of the edge's pack time, rising or falling, CRC-8 good. -/
  | clapSet (time : Nat) (rising good : Bool)
  /-- CURRENT_SET (R302): source address, low 32 bits of the sample's pack time, current in mA. -/
  | currentSet (src time : Nat) (current : Int) (good : Bool)
  /-- SYNC_SET (R310): pack time at departure, correction in 0.1 ns, port 0 A or 1 B, hops, from the primary head. -/
  | syncSet (time correction port hops : Nat) (primary good : Bool)
  /-- ALARM_SET (R325): source address, fault message, low 32 bits of pack time. -/
  | alarmSet (src : Nat) (msg : BitVec 32) (time : Nat) (good : Bool)
  /-- DELAY_REQ (R310): port and timestamp. -/
  | delayReq (port time : Nat)
  /-- DELAY_RESP (R310): port, timestamp, and the measured hop delay in 0.1 ns. -/
  | delayResp (port time delay : Nat)
  /-- DELAY_MEASUREMENT (R310). -/
  | delayMeasurement
  /-- SUPERFRAME_START (R304): spare capacity of both directions in kb/s averaged over 100 ms. -/
  | superframeStart (spare : Nat)
  /-- TIME_PORT_CHANGE (R310). -/
  | timePortChange
  /-- PACKTIME_UNLOCKED (R310). -/
  | packtimeUnlocked
  /-- TIME_MASTER_TAKEOVER (R311). -/
  | timeMasterTakeover
  /-- PACKTIME_REF_LOST (R309). -/
  | packtimeRefLost
  /-- PACK_TIME_SAVE (R312). -/
  | packTimeSave
  /-- NOTICE_GAP_TIMEOUT (R303). -/
  | noticeGapTimeout
  /-- LINK_DOWN (R313): port 0 A, 1 B. -/
  | linkDown (port : Nat)
  /-- LINK_UP (R313). -/
  | linkUp (port : Nat)
  /-- PACKAGE_LOST (R315). -/
  | packageLost (addr : Nat)
  /-- RADIO_SLOT (R320). -/
  | radioSlot
  /-- RADIO_BEACON (R320): sender, frame counter, MIC good, pack time, chain identity. -/
  | radioBeacon (src counter : Nat) (micGood : Bool) (time chainId : Nat)
  /-- RADIO_ALARM_FRAME (R325). -/
  | radioAlarmFrame (src counter : Nat) (micGood : Bool) (msg : BitVec 32) (time : Nat)
  /-- RADIO_DATA_FRAME (R323): sender, counter, MIC good, transfer header and data. -/
  | radioDataFrame (src counter : Nat) (micGood : Bool) (stream tid offset : Nat) (data : List Byte)
  /-- RADIO_ACKNOWLEDGEMENT (R324): did the acknowledgement arrive. -/
  | radioAcknowledgement (src : Nat) (arrived : Bool)
  -- Metrology die
  /-- READ_METRO (R361). -/
  | readMetro (h : Hdr) (addr len : Nat)
  /-- SIGN_STATEMENT (R353). -/
  | signStatement (h : Hdr) (regid : Nat)
  /-- SET_DISPLAY (R361). -/
  | setDisplay (h : Hdr) (param : Nat) (value : List Byte)
  /-- READ_EVENTS (R361). -/
  | readEvents (h : Hdr) (fromNum n : Nat)
  /-- GET_METRO_STATUS (R361). -/
  | getMetroStatus (h : Hdr)
  /-- SET_CURRENT_SOURCE (R360). -/
  | setCurrentSource (h : Hdr) (addr : Nat)
  /-- REGISTER_READ_REQUEST (R17): address and length on the return path. -/
  | registerReadRequest (addr len : Nat)
  /-- STATEMENT_REQUEST (R353): register and the pack time supplied by C. -/
  | statementRequest (regid time : Nat)
  /-- DISPLAY_REQUEST (R17). -/
  | displayRequest (param : Nat) (value : List Byte)
  /-- METRO_ANSWER (R361). -/
  | metroAnswer
  /-- METRO_WITHDRAWN (R362). -/
  | metroWithdrawn
  /-- LEGAL_SAMPLE (R338): current at the shunt in nV and voltage at MVIN in nV. -/
  | legalSample (shunt vin : Int)
  /-- STREAM_FRAME (R356, R358): the current of M's stream path in mA, and the frame as it reaches C: SAMPLE, CURRENT, VOLTAGE, MSTAT and CRC. -/
  | streamFrame (path : Int) (sample current voltage : BitVec 32) (mstat crc : BitVec 16)
  /-- METRO_STREAM_LOST (R359). -/
  | metroStreamLost
  /-- METRO_RESTORED (R359). -/
  | metroRestored
  /-- MSTATUS_POLL (R344). -/
  | mstatusPoll
  /-- M_START (R342): cause 0 power-up or 1 watchdog, HALTCAUSE of the failed check (0 none), newest slot incomplete,
  first four digest bytes. -/
  | mStart (cause failed : Nat) (incomplete : Bool) (swid : Nat)
  /-- M_PERIODIC_CHECK (R343): HALTCAUSE of the failed check (0 none), M temperature in 0.01 °C. -/
  | mPeriodicCheck (failed : Nat) (temp : Int)
  /-- M_IDLE_TIMEOUT (R342). -/
  | mIdleTimeout
  /-- M_DORMANT_TIMEOUT (R342). -/
  | mDormantTimeout
  /-- M_WAKE (R342): current of the first sample in mA. -/
  | mWake (current : Int)
  /-- JOURNAL_STORE (R345). -/
  | journalStore
  /-- POWER_FAIL_STORE (R345). -/
  | powerFailStore
  /-- METRO_CAL_READ (R347). -/
  | metroCalRead (addr len : Nat)
  /-- METRO_CAL_POINT (R347): input 0 current, 1 voltage, and the applied value. -/
  | metroCalPoint (input : Nat) (applied : Int)
  /-- METRO_CAL_POINT_DONE (R347): the input of the point, 0 current, 1 voltage. -/
  | metroCalPointDone (input : Nat)
  /-- CAL_STORE (R347). -/
  | calStore
  /-- SET_AUTHORITY (R347). -/
  | setAuthority (key : List Byte)
  /-- SEAL (R347). -/
  | sealMetro
  /-- UNSEAL (R347). -/
  | unsealMetro (token : List Byte)
  /-- M_TEST_ACCESS (R348). -/
  | mTestAccess (token : List Byte)
  -- Safety functions
  /-- SAFETY_LOGIN (R387). -/
  | safetyLogin (h : Hdr) (host : Nat) (password : List Byte)
  /-- SAFETY_LOGOUT (R389). -/
  | safetyLogout (h : Hdr) (p : Proof)
  /-- SAFETY_CONFIG_READ (R399). -/
  | safetyConfigRead (h : Hdr) (which : Nat)
  /-- SAFETY_CONFIG_STAGE (R392). -/
  | safetyConfigStage (h : Hdr) (offset : Nat) (data : List Byte) (p : Proof)
  /-- SAFETY_CONFIG_COMMIT (R392). -/
  | safetyConfigCommit (h : Hdr) (crc : Nat) (p : Proof)
  /-- SAFETY_CONFIG_APPLY (R393). -/
  | safetyConfigApply
  /-- SET_PASSWORD (R390). -/
  | setPassword (h : Hdr) (old new : List Byte) (p : Proof)
  /-- SO_COMMAND (R379). -/
  | soCommand (h : Hdr) (mask action : Nat) (p : Proof)
  /-- SAFETY_DECIDE (R385). -/
  | safetyDecide (h : Hdr) (decision : Nat) (p : Proof)
  /-- GET_SAFETY_STATUS (R399). -/
  | getSafetyStatus (h : Hdr)
  /-- READ_CHANGE_LOG (R395). -/
  | readChangeLog (h : Hdr) (fromSeq n : Nat)
  /-- CRASH_RELEASE (R376). -/
  | crashRelease (h : Hdr) (input : Nat) (p : Proof)
  /-- SESSION_TIMEOUT (R389): the head whose session ends (0 this port's, 1 the other's). -/
  | sessionTimeout (head : Nat)
  /-- LOGIN_LOCK_END (R390). -/
  | loginLockEnd
  /-- TEST_PULSE (R370): feed 0 TPA, 1 TPB; and for each input the two channels' reading while the pulse is low
  (own pulse reads high; other feed's channel reads low). -/
  | testPulse (feed : Nat) (ownHigh crossLow : List Bool)
  /-- SAFETY_CHANNEL_CHANGE (R371): input 1 to 4, channel 0 A, 1 B, new state and its samples. -/
  | safetyChannelChange (input channel : Nat) (change : SampleRun)
  /-- SI_DISCREPANCY (R373): input. -/
  | siDiscrepancy (input : Nat)
  /-- TP_OVERLOAD (R370): feed. -/
  | tpOverload (feed : Nat)
  /-- HVIL_SLOT (R378): current in mA sampled at 450 µs and at 950 µs, HVIL_OUT below 1.0 V in the pulse. -/
  | hvilSlot (inPulse inOff : Nat) (outLow : Bool)
  /-- SO_FEEDBACK_CHECK (R380): output 1 or 2 and SOnFB. -/
  | soFeedbackCheck (output : Nat) (fb : Bool)
  /-- OFF_PULSE_TEST (R381). -/
  | offPulseTest (output : Nat)
  /-- OFF_PULSE_TEST_END (R381): was SOnFB seen low in the test, and high within 200 µs after it. -/
  | offPulseTestEnd (output : Nat) (sawLow sawHigh : Bool)
  /-- SAFETY_CLOCK_CHECK (R368): measured error in 0.1 %. -/
  | safetyClockCheck (error : Int)
  /-- GRACE_EXPIRED (R383): die, die-local cell, under-voltage. -/
  | graceExpired (die cell : Nat) (under : Bool)
  -- Fault collection and watchdog
  /-- FAULT_READ (R433). -/
  | faultRead (h : Hdr) (which n fromIdx : Nat)
  /-- FAULT_CLEAR (R413). -/
  | faultClear (h : Hdr) (source all : Nat) (p : Option Proof)
  /-- GET_FAULT_STATUS (R433). -/
  | getFaultStatus (h : Hdr)
  /-- SET_REACTION (R406). -/
  | setReaction (h : Hdr) (kind cls : Nat) (p : Proof)
  /-- GET_REACTION (R433). -/
  | getReaction (h : Hdr) (first n : Nat)
  /-- FAULT_FORCE (R415). -/
  | faultForce (h : Hdr) (source kind detail hold suppress : Nat) (p : Proof)
  /-- FORCE_HOLD_END (R415). -/
  | forceHoldEnd (source : Nat)
  /-- INJECT_CHECK (R418). -/
  | injectCheck (h : Hdr) (target mode count : Nat) (p : Proof)
  /-- WD_CONFIG (R419). -/
  | wdConfig (h : Hdr) (arm period seed : Nat) (p : Proof)
  /-- WD_STATUS (R433). -/
  | wdStatus (h : Hdr)
  /-- GET_EVIDENCE (R427). -/
  | getEvidence (h : Hdr) (index : Nat)
  /-- FAULT_DECIDE (R408). -/
  | faultDecide (h : Hdr) (source action : Nat)
  /-- SET_REACTION_MODE (R408). -/
  | setReactionMode (h : Hdr) (mode : Nat)
  /-- GET_CHECKPOINTS (R433). -/
  | getCheckpoints (h : Hdr)
  /-- INFO_RECORD_CLOSE (R410): source. -/
  | infoRecordClose (source : Nat)
  /-- CHECKPOINT_CHECK_IN (R423): task. -/
  | checkpointCheckIn (task : Nat)
  /-- CHECKPOINT_WINDOW_END (R424): the Studio core's program counter. -/
  | checkpointWindowEnd (pc : Nat)
  /-- MPU_VIOLATION (R18): region and access 0 read, 1 write, 2 fetch. -/
  | mpuViolation (region access : Nat)
  /-- SRAM_ECC_ERROR (R437): 0 SRAM_A, 1 SRAM_B; address; uncorrectable; in Keeper memory. -/
  | sramEccError (ram addr : Nat) (uncorrectable keeper : Bool)
  /-- KEEPER_WATCHDOG (R426): the Studio core's program counter. -/
  | keeperWatchdog (pc : Nat)
  /-- DAILIES_BUCKET_REFILL (R431). -/
  | dailiesBucketRefill
  /-- DAILIES_READ (R435). -/
  | dailiesRead (h : Hdr) (fromSeq toSeq types : Nat)
  /-- DAILIES_RECORD_WRITE (R435). -/
  | dailiesRecordWrite
  /-- DAILIES_STATUS (R435). -/
  | dailiesStatus (h : Hdr)
  /-- DAILIES_MARK (R435). -/
  | dailiesMark (h : Hdr) (data : List Byte)
  -- Firmware, trust and update
  /-- UPDATE_BEGIN (R486). -/
  | updateBegin (h : Hdr) (half : Nat) (bytes : List Byte)
  /-- UPDATE_DATA (R486). -/
  | updateData (h : Hdr) (offset : Nat) (data : List Byte)
  /-- UPDATE_VERIFY (R486). -/
  | updateVerify (h : Hdr)
  /-- UPDATE_CANCEL (R487). -/
  | updateCancel (h : Hdr)
  /-- ACTIVATE (R490). -/
  | activate (h : Hdr) (tmask scope at_ : Nat)
  /-- ACTIVATION_COMMIT_POINT (R490): addresses of covered packages that fail the check. -/
  | activationCommitPoint (failed : List Nat)
  /-- ACTIVATION (R489). -/
  | activation
  /-- CONFIRMATION (R494): do the conditions on tasks, dies and radio hold; the outcomes of covered members
  (address, outcome, cause). -/
  | confirmation (healthy : Bool) (members : List (Nat × Nat × Nat))
  /-- CONFIRM_TIMEOUT (R495). -/
  | confirmTimeout
  /-- GET_UPDATE_STATUS (R504). -/
  | getUpdateStatus (h : Hdr)
  /-- SET_ACTIVATION_MODE (R493). -/
  | setActivationMode (h : Hdr) (mode : Nat)
  /-- ENTER_RECOVERY (R500): the level of BOOTREC is the part's own pin. -/
  | enterRecovery (h : Hdr) (p : Proof)
  /-- SET_CUSTOMER_KEY (R503). -/
  | setCustomerKey (h : Hdr) (key : List Byte) (p : Proof)
  -- Life cycle, self-test and returns
  /-- GET_LIFECYCLE (R521). -/
  | getLifecycle (h : Hdr)
  /-- LC_ADVANCE (R510). -/
  | lcAdvance (h : Hdr) (targetState : Nat) (token : List Byte) (p : Proof)
  /-- RETURN_CHALLENGE (R518). -/
  | returnChallenge (h : Hdr) (p : Proof)
  /-- ENTER_RETURN (R520). -/
  | enterReturn (h : Hdr) (token : List Byte) (p : Proof)
  /-- LC_SCRAP (R511). -/
  | lcScrap (h : Hdr) (confirm : Nat) (token : List Byte) (p : Proof)
  /-- LBIST_RUN (R521): what the run meets at each die is the part's own; the results come as operands. -/
  | lbistRun (h : Hdr) (dieMask : Nat) (env : List LbistEnv) (p : Proof)
  /-- NONCE_EXPIRY (R518). -/
  | nonceExpiry
  /-- TEST_ACCESS_ATTEMPT (R517): die. -/
  | testAccessAttempt (die : Nat)
  /-- ARBITRATION_WINDOW_CLOSE (R85). -/
  | arbitrationWindowClose
  /-- RING_INPUT_RETURN (R293). -/
  | ringInputReturn (die : Nat)
  /-- NOT_LOCKED (R330). -/
  | notLocked
  deriving DecidableEq, Repr

end Sys2Proof
end

