-- ==== Sys2Proof/Decode.lean ====
section
/-! DEFINITION. The table of commands gives its rows no bits, so no word spells a command: commands come from outside by their rows,
and a mailbox command comes as the bytes of a frame (Machine/Frames.lean, Machine/Spelling.lean). -/
namespace Sys2Proof

/-- The command that a word spells by the table's bits: no row has bits. -/
def decodeTableWord (_nbits _w : Nat) : Option Instr := none

end Sys2Proof
end

