-- ==== Sys2Proof/Config.lean ====
section
/-! DEFINITION. What an implementation fixes: the eight family members (R1), and the free values of the model: constants
without a body, so that no proof can see a value of them. -/
namespace Sys2Proof

/-- The eight members of the family (R1). -/
inductive Variant where
  | ish124 | ish124M | ish224 | ish224M | ish424 | ish424M | ish624 | ish624M
  deriving DecidableEq, Repr, Inhabited

/-- Segment dies fitted (R1). -/
def Variant.segments : Variant → Nat
  | .ish124 | .ish124M => 1
  | .ish224 | .ish224M => 2
  | .ish424 | .ish424M => 4
  | .ish624 | .ish624M => 6

/-- Is the metrology die fitted (R1)? -/
def Variant.hasM : Variant → Bool
  | .ish124M | .ish224M | .ish424M | .ish624M => true
  | _ => false

/-- The codes of the segment dies fitted, lowest first (R1, R6). -/
def Variant.segCodes (v : Variant) : List Nat := (List.range v.segments).map (· + 2)

/-- The fitted-die mask: bit n stands for die code n (R6). -/
def Variant.dieMask (v : Variant) : Nat :=
  1 + (if v.hasM then 2 else 0) + (2 ^ v.segments - 1) * 4

/-- The 16 characters of the part number as GET_IDENTITY returns it (R472), without padding. -/
def Variant.digits : Variant → List Nat
  | .ish124 => [1, 2, 4] | .ish124M => [1, 2, 4, 0x4D]
  | .ish224 => [2, 2, 4] | .ish224M => [2, 2, 4, 0x4D]
  | .ish424 => [4, 2, 4] | .ish424M => [4, 2, 4, 0x4D]
  | .ish624 => [6, 2, 4] | .ish624M => [6, 2, 4, 0x4D]

namespace Config

/-- A fresh free number, applied to the model's counter of free values (log entry 4). -/
opaque freeNat : Nat → Nat
/-- A fresh free integer (log entry 4). -/
opaque freeInt : Nat → Int
/-- A fresh free byte (log entry 4). -/
opaque freeByte : Nat → Byte

/-- SHA-256 of the standard (R480, R486); left without a body (log entry 5). -/
opaque sha256 : List Byte → List Byte
/-- HMAC-SHA-256 of key and message (R387, R388); left without a body (log entry 5). -/
opaque hmac : List Byte → List Byte → List Byte
/-- ECDSA P-256 verification of key, message and signature; left without a body (log entry 5). -/
opaque ecdsaVerify : List Byte → List Byte → List Byte → Bool
/-- ECDSA P-256 signature of a message with the device key of M; left without a body (log entry 5). -/
opaque ecdsaSign : List Byte → List Byte
/-- AES-CCM* of a radio frame (R323): key, nonce, authenticated data and payload give the encrypted payload with its MIC; left without a
body (log entry 5). -/
opaque ccm : List Byte → List Byte → List Byte → List Byte → List Byte

/-- The Folhary public key that the ROM holds (R476, R510); its value is in no document. -/
opaque folharyKey : List Byte
/-- The unit identifier UID, 64 bits, given at manufacture (R472, R482). -/
opaque unitId : Nat

/-- The fixed latency of M's stream in ticks, which M reports at its start (R358); its value is in no document (log entry 4). -/
opaque metroLatency : Nat

/-- Does a cell step of the matrix test that matches no span, by its `VCS` and the cell's reading in mV, fail as a switch stuck open (R222)?
Without a body (log entry 52). -/
opaque matrixUnmatched : Nat → Nat → Bool
/-- The value of a stored setting, by its place in the model, that a bundle's record of Studio settings gives; the record's format is in no
document (log entry 42). -/
opaque bundleSetting : List Byte → Nat → Nat

end Config
end Sys2Proof
end

