-- ==== Sys2Proof/Machine/FaultTable.lean ====
section
/-! DEFINITION. The default classes of the fault kinds and the blocks they come from (R89, R136, R174, R230, R260, R287, R331,
R363, R401, R437, R474, R506, R523, R564). -/
namespace Sys2Proof.Machine

/-- Default class of each kind, 16 kinds a line from 0x00: 0 INFO, 1 WARN, 2 DEGRADE, 3 SAFE, 4 FATAL (R405, R406).
Kinds that are not produced hold 0. -/
def defaultClasses : List Nat :=
  [1, 0, 1, 1, 2, 2, 2, 0, 2, 2, 2, 3, 0, 0, 0, 0] ++ List.replicate 16 0 ++
  [1, 1, 1, 1, 2, 0, 1, 0, 0, 0, 0, 0, 0, 0, 0, 0] ++
  [2, 2, 2, 2, 2, 0, 0, 1, 0, 1, 1, 0, 0, 0, 0, 0] ++
  [1, 0, 1, 1, 0, 0, 0, 0, 0, 0, 0, 0, 0, 0, 0, 0] ++
  [1, 0, 1, 1, 0, 2, 2, 1, 1, 1, 3, 0, 0, 0, 1, 2] ++
  [2, 2, 0, 0, 2, 1, 1, 1, 0, 0, 0, 0, 0, 0, 0, 0] ++
  [3, 3, 3, 3, 3, 3, 3, 1, 3, 3, 3, 1, 3, 0, 0, 0] ++
  [3, 3, 3, 2, 2, 2, 2, 4, 1, 0, 2, 4, 0, 1, 1, 0] ++
  [3, 3, 3, 3, 1, 2, 2, 3, 3, 2, 2, 1, 1, 1, 1, 0] ++
  [1, 1, 0, 2, 3, 3, 0, 2, 1, 1, 3, 0, 0, 1, 1, 0] ++
  [1, 1, 0, 1, 1, 1, 1, 2, 0, 0, 0, 1, 1, 1, 0, 0] ++
  [3, 1, 0, 0, 1, 1, 0, 0, 0, 0, 0, 0, 0, 0, 0, 0] ++
  [0, 0, 0, 0, 1, 0, 1, 0, 0, 0, 0, 0, 0, 0, 0, 0] ++ List.replicate 32 0

/-- Is `k` one of the kinds from `a` to `b`? -/
def between (a b k : Nat) : Bool := decide (a ≤ k) && decide (k ≤ b)

/-- The blocks of C that raise a kind (R403, R437, R506, R564). -/
def cBlocks (k : Nat) : List Nat :=
  if between 0x00 0x03 k then [2]
  else if k == 0x20 || between 0x22 0x26 k then [1]
  else if k == 0x39 then [17]
  else if between 0x40 0x43 k || k == 0x45 || k == 0x46 then [18]
  else if between 0x50 0x55 k || between 0x57 0x59 k || k == 0x5E then [4]
  else if k == 0x56 then [13]
  else if k == 0x5A || k == 0x5B then [3]
  else if k == 0x5C then [19]
  else if k == 0x5D || k == 0x5F then [5]
  else if between 0x60 0x63 k then [6]
  else if between 0x70 0x7A k || k == 0x7C then [7]
  else if k == 0x7B then [9]
  else if between 0x80 0x82 k || k == 0x88 then [8]
  else if k == 0x83 || k == 0x84 then [16, 17, 18, 19, 20, 21, 22, 23, 24, 25]
  else if k == 0x85 || k == 0x86 then [15]
  else if k == 0x87 || k == 0x8E then [9]
  else if between 0x89 0x8B k then [11, 12]
  else if k == 0x8C || k == 0x8D || k == 0xBD then [10]
  else if between 0xA0 0xA2 k || k == 0xA4 || between 0xA6 0xAE k then [13]
  else if between 0xB0 0xBC k || between 0xC0 0xC6 k then [9]
  else if between 0xD0 0xD9 k then [0]
  else []

/-- The blocks of M that raise a kind (R564). -/
def mBlocks (k : Nat) : List Nat :=
  if k == 0x64 then [0, 1, 3]
  else if k == 0x65 || k == 0x66 || k == 0x68 then [0]
  else if k == 0x67 then [1]
  else if k == 0x69 then [2]
  else []

/-- The blocks of a segment die that raise a kind (R564). -/
def sBlocks (k : Nat) : List Nat :=
  if between 0x04 0x06 k || k == 0x9C || k == 0x9D then [2]
  else if k == 0x07 || k == 0x08 || k == 0x0A || k == 0x96 then [0]
  else if k == 0x09 || between 0x30 0x33 k || k == 0x35 || k == 0x38 || k == 0x44 then [3, 4, 5, 6]
  else if k == 0x0B || k == 0x21 || between 0x90 0x92 k || k == 0x95 || k == 0x97 || k == 0x98 then [1]
  else if k == 0x34 || k == 0x36 || k == 0x37 || k == 0xA0 || k == 0xA1 || k == 0xA3 || between 0xA5 0xA7 k then [10]
  else if k == 0x3A || k == 0x3B then [11]
  else if k == 0x93 || k == 0x94 || k == 0x9E then [8]
  else if between 0x99 0x9B k then [7]
  else []

/-- Does a source (die code and block) raise a kind (R415, R564)? -/
def sourceRaises (die block kind : Nat) : Bool :=
  (if die = 0 then cBlocks kind else if die = 1 then mBlocks kind else sBlocks kind).contains block

end Sys2Proof.Machine
end

