-- ==== Sys2Proof/Machine/State.lean ====
section
/-! DEFINITION. The state of the part as plain data: every register, buffer, counter, mode and record that spec/ gives the
machine, the queue of waiting commands, the reasons a step can stop, and the state after reset. -/
namespace Sys2Proof.Machine

/-- The host port's registers and flip-flops (R46 to R62, R80, R81, R86 to R88). -/
structure Port where
  /-- HPSTAT[13:8], the W1C error flags CRCERR, ADDRERR, MBWRERR, PTRERR and RSTNSTUCK at their bit places; 32 bits (R53). Reset 0 (R53). -/
  hpErr : BitVec 32
  /-- HPSTAT.RSTNIGN; 1 bit (R53, R87). Reset 0 (R53). -/
  rstnIgn : Bool
  /-- The W1C bits of IRQSTAT at their bit places; 32 bits (R54). Reset 0 (R54). -/
  irq : BitVec 32
  /-- IRQEN; 32 bits, 14 used (R54). Reset 0x0000_3FFF (R54). -/
  irqEn : BitVec 32
  /-- HPCFG.QUADEN; 1 bit (R55). Reset 0 (R55). -/
  quadEn : Bool
  /-- HPCFG.IRQOD; 1 bit (R55). Reset 0 (R55). -/
  irqOd : Bool
  /-- RAWCTL.URGIN; 5 bits (R56). Reset 0 (R56). -/
  urgIn : BitVec 5
  /-- RAWCTL.URGDIE; 3 bits (R56). Reset 0 (R56). -/
  urgDie : BitVec 3
  /-- RAWSTAT.VALID, the holding register holds an unconsumed result; 1 bit (R60). Reset 0 (R60). -/
  rawValid : Bool
  /-- The holding register behind RAWRES, code in [15:0] and tag in [31:16]; 32 bits (R57). Reset 0x0000_8000 (R57). -/
  rawHold : BitVec 32
  /-- The tag shadow that a read of 0x002A returns; 16 bits (R58). Reset 0 (R57). -/
  shadowTag : BitVec 16
  /-- Is the shadow open; 1 bit (R59). Reset no (DESIGN CHOICE, log 3). -/
  shadowOpen : Bool
  /-- RAWSTAT.OVRN; 1 bit (R60). Reset 0 (R60). -/
  ovrn : Bool
  /-- RAWSTAT.LOST; 1 bit (R60). Reset 0 (R60). -/
  lost : Bool
  /-- RAWLAST.PAIR; 32 bits (R60). Reset 0x0000_8000 (R60). -/
  rawLast : BitVec 32
  /-- URGDROP.COUNT; 16 bits, saturating (R61). Reset 0 (R61). -/
  urgDrop : BitVec 16
  /-- XSTAT.PREV, the result of the previous transaction; 2 bits (R49). Reset 00 (R49). -/
  prev : BitVec 2
  /-- The XSTAT byte driven in the last transaction; 8 bits (R49). Reset 0x80 (R49). -/
  lastXstat : BitVec 8
  /-- The data bytes driven in the last read, in order; 0 to 4096 bytes (R45). Reset empty (DESIGN CHOICE, log 3). -/
  lastData : List Byte
  /-- The data CRC driven in the last read; 16 bits (R45, R48). Reset 0xFFFF, the CRC of no byte (DESIGN CHOICE, log 3). -/
  lastCrc : BitVec 16
  /-- ABORT.TAG; 16 bits (R81). Reset 0 (R81). -/
  abortTag : BitVec 16
  /-- ABORT.PRIO; 2 bits (R81). Reset 0 (R81). -/
  abortPrio : BitVec 2
  /-- ABORTSTAT.RESULT; 2 bits (R81). Reset 0 (R81). -/
  abortResult : BitVec 2
  /-- ABORTSTAT.TAG; 16 bits (R81). Reset 0 (R81). -/
  abortStatTag : BitVec 16
  /-- STRWR.OFFSET; 12 bits (R80). Reset 0 (R80). -/
  strWr : BitVec 12
  /-- STRRD.OFFSET; 12 bits (R80). Reset 0 (R80). -/
  strRd : BitVec 12
  /-- STRSTAT.DROPS; 16 bits, saturating (R80). Reset 0 (R80). -/
  drops : BitVec 16
  /-- Local time of the first key of an open SWRST sequence; a tick count or none (R88). Reset none (R88). -/
  swrstAt : Option Tick
  /-- The level of RSTN: is it low; 1 bit (R86). Reset high (DESIGN CHOICE, log 3). -/
  rstnLow : Bool
  /-- Is the part held in reset by RSTN; 1 bit (R86). Reset no (R86). -/
  inReset : Bool
  /-- Local time of the last edge of RSTN; a tick count (R86, R87). Reset 0 (DESIGN CHOICE, log 3). -/
  rstnEdge : Tick
  deriving DecidableEq, Repr

/-- A command that the mailbox engine has taken and that waits for its execution (R69). -/
structure Waiting where
  hdr : Hdr
  opcode : Nat
  params : List Byte
  deriving DecidableEq, Repr

/-- A reply that waits in the engine for its outbound mailbox (R66, R67). `final` is false for a QUEUED reply. -/
structure Reply where
  origin : Nat
  prio : Nat
  opcode : Nat
  tag : Nat
  status : Nat
  source : Nat
  result : List Byte
  final : Bool
  deriving DecidableEq, Repr

/-- An open operation (R70). `source` goes into its completion reply (R74). -/
structure Op where
  origin : Nat
  prio : Nat
  tag : Nat
  opcode : Nat
  source : Nat
  /-- Has the engine accepted an abort of it (R82)? -/
  stop : Bool
  deriving DecidableEq, Repr

/-- A resource that two heads may order to different values (R84), with the value ordered and whether the smaller value is
the safe direction (R85). -/
structure Order where
  resource : Nat
  unit_ : Nat
  value : Int
  directed : Bool
  deriving DecidableEq, Repr

/-- An order in its arbitration window (R84, R85): held, or executed at once in the safe direction (`held` false), with the
parameter bytes it carried and the local time at which its window closed. -/
structure Arb where
  hdr : Hdr
  opcode : Nat
  order : Order
  params : List Byte
  takenAt : Tick
  boundary : Nat
  held : Bool
  closed : Option Tick
  deriving DecidableEq, Repr

/-- What a switch command sets at its boundary (R32): the commands of R133, R172, R228, R258, R285 and R433 that name it. -/
inductive Setting where
  | sequence (dieMask : Nat) (entries : List SeqEntry)
  | trigger (source edge watch delay period phase : Nat)
  | scheduling (mode : Nat)
  | interaction (dieMask mode : Nat)
  | filters (takedec : Nat) (sets : List FilterSet)
  | alignment (mode irsrc subdie subin rmode : Nat)
  | filterMode (mode die : Nat)
  | continuity (mode contthr verdicttmo : Nat)
  | goal (goal imax target band horizon : Nat)
  | balanceMode (mode : Nat)
  | derating (mode : Nat) (entries : List DerateEntry)
  | impedanceMode (mode : Nat)
  | openTap (mode otperiod jumpthr : Nat)
  | reactionMode (mode : Nat)
  deriving DecidableEq, Repr

/-- A mode switch that waits for its boundary (R32, R33). -/
structure Switch where
  hdr : Hdr
  opcode : Nat
  setting : Setting
  func : Nat
  acceptedAt : Tick
  deriving DecidableEq, Repr

/-- A command that the head has forwarded and whose final reply has not come back; `open_` says that it became an operation (R67, R72,
R74). -/
structure Away where
  prio : Nat
  tag : Nat
  target : Nat
  open_ : Bool
  deriving DecidableEq, Repr

/-- The mailbox engine (R65 to R74, R81 to R85). -/
structure Mail where
  /-- DOORBELL.IN; 4 bits (R68). Reset 0 (R68). -/
  doorbell : BitVec 4
  /-- Which outbound mailboxes hold an unacknowledged reply; 4 bits (R54, R67). Reset 0 (R54). -/
  outFull : BitVec 4
  /-- Commands taken and not yet executed, in the order taken; a list (R69). Reset empty (DESIGN CHOICE, log 3). -/
  waiting : List Waiting
  /-- Replies that wait inside the engine, oldest first; a list (R67). Reset empty (DESIGN CHOICE, log 3). -/
  replies : List Reply
  /-- Open operations, up to 8 a priority; a list (R70). Reset empty (DESIGN CHOICE, log 3). -/
  ops : List Op
  /-- Orders of two heads in their arbitration windows; a list (R84, R85). Reset empty (DESIGN CHOICE, log 3). -/
  arb : List Arb
  /-- Mode switches accepted whose boundary has not come; a list (R32). Reset empty (DESIGN CHOICE, log 3). -/
  switches : List Switch
  /-- Forwarded commands whose final reply has not come back, in the order forwarded; a list (R67, R72, R74). Reset empty (DESIGN CHOICE, log 3). -/
  away : List Away
  deriving DecidableEq, Repr

/-- What the stream window keeps beside its bytes (R78, R79). -/
structure Stream where
  /-- U: package and sequence number of every Slate record written whose notice is not yet written; a list (R78). Reset empty (DESIGN CHOICE, log 3). -/
  undecided : List (Nat × Nat)
  /-- Runs of dropped Slates not yet named by a gap record: package, first sequence number, number dropped; a list (R79). Reset empty (DESIGN CHOICE, log 3). -/
  runs : List (Nat × Nat × Nat)
  /-- Records dropped in the running run of each package, for STREAM_DROP; a list of pairs (R89). Reset empty (DESIGN CHOICE, log 3). -/
  dropRuns : List (Nat × Nat)
  /-- Packages whose latest dropped record has not yet raised STREAM_DROP; a list (R79, R89). Reset empty (DESIGN CHOICE, log 3). -/
  owed : List Nat
  deriving DecidableEq, Repr

/-- One cause merged into a record: a kind with its detail, and for a forced cause the local time at which it ends (R413, R415, R417). -/
structure Cause where
  kind : Nat
  detail : Nat
  forced : Bool
  carried : Bool
  until_ : Tick
  deriving DecidableEq, Repr

/-- A fault record (R409), with the causes merged into it. -/
structure FRec where
  recid : Nat
  msg : BitVec 32
  first : Nat
  last : Nat
  lastKind : Nat
  cls : Nat
  lastDetail : Nat
  merges : Nat
  forced : Bool
  real : Bool
  open_ : Bool
  suppressed : Bool
  carried : Bool
  decide_ : Bool
  hostAct : Nat
  causes : List Cause
  /-- Local time of the latest message, for R410. -/
  heard : Tick
  deriving DecidableEq, Repr

/-- A FAULT_CLEAR that waits for the checks its records run first (R218, R223, R241, R382, R413): header, source, ALL, whether it
carried a good proof, and the open records at its start. -/
structure Clearing where
  hdr : Hdr
  source : Nat
  all : Nat
  proved : Bool
  before : Nat
  deriving DecidableEq, Repr

/-- The fault collector (R402 to R418). -/
structure Collector where
  /-- Open records, oldest first, up to 64; a list (R409). Reset empty (R29, R414). -/
  open_ : List FRec
  /-- The latest 256 closed records, oldest first; a list (R409). Reset empty (R409). -/
  closed : List FRec
  /-- NEXTRECID; 32 bits (R409). Reset 0 (R409). -/
  nextId : Nat
  /-- The class of each of the 256 kinds; 256 codes 0 to 4 (R405). Reset the default classes (R406). -/
  table : List Nat
  /-- Generation of the stored reaction table; 32 bits (R407). Reset 0 (DESIGN CHOICE, log 3). -/
  tableGen : Nat
  /-- Non-safety fault reactions in host-assisted mode; 1 bit (R408). Reset hardware (DESIGN CHOICE, log 3). -/
  hostMode : Bool
  /-- Force bits set: source and the local time at which each ends; a list (R415). Reset empty (R414). -/
  forces : List (Nat × Tick)
  /-- Armed injections: target, mode and count left; a list (R418). Reset empty (DESIGN CHOICE, log 3). -/
  injects : List (Nat × Nat × Nat)
  /-- The FAULT_CLEAR that waits for its checks, or none (R413). Reset none (DESIGN CHOICE, log 3). -/
  clearing : Option Clearing
  deriving DecidableEq, Repr

/-- The host watchdog (R419 to R422). -/
structure Watchdog where
  /-- Is it armed; 1 bit (R419). Reset no (R419). -/
  armed : Bool
  /-- PERIOD in ms of the question that runs; 10 bits (R419). Reset 100 (R419). -/
  period : Nat
  /-- SEED of the question that runs; 32 bits (R419). Reset 0 (R419). -/
  seed : Nat
  /-- PERIOD and SEED as WD_CONFIG set them, for the next question; 10 and 32 bits (R419). Reset 100 and 0 (R419). -/
  nextPeriod : Nat
  nextSeed : Nat
  /-- WDQ.QUESTION; 8 bits (R62). Reset 0x00 (R62). -/
  question : BitVec 8
  /-- WDQ.SEQ; 16 bits (R62). Reset 0x0000 (R62). -/
  seq : BitVec 16
  /-- Pack time of the period start; 64 bits (R420). Reset 0 (DESIGN CHOICE, log 3). -/
  start : Nat
  /-- GOOD, accepted answers since the last fault, saturating; 16 bits (R433). Reset 0 (DESIGN CHOICE, log 3). -/
  good : Nat
  /-- LASTGOOD, pack time of the last accepted answer; 64 bits (R427, R433). Reset 0 (DESIGN CHOICE, log 3). -/
  lastGood : Nat
  deriving DecidableEq, Repr

/-- One evidence record (R427); its CRC is computed when it is read. -/
structure Evidence where
  cause : Nat
  question : Nat
  seq : Nat
  pc : Nat
  lastGood : Nat
  at_ : Nat
  checkin : List Nat
  deriving DecidableEq, Repr

/-- Supervision of the Studio and of the Keeper (R423 to R426). -/
structure Supervision where
  /-- HPSTAT.READY, the Studio serves the mailboxes; 1 bit (R53). Reset 0 (R53). -/
  ready : Bool
  /-- HPSTAT.KEEPER, the Keeper runs; 1 bit (R53). Reset 0 (R53). -/
  keeper : Bool
  /-- HPSTAT.RECOVERY, Tadpole runs; 1 bit (R53). Reset 0 (R53). -/
  recovery : Bool
  /-- Is the Studio stopped: not started, halted by R425, stopped by FATAL, or asleep; 1 bit (R405, R425). Reset stopped (R445). -/
  stopped : Bool
  /-- Has STUDIO_HALTED left the Studio stopped until a part reset; 1 bit (R425). Reset no (R425). -/
  halted : Bool
  /-- Has a FATAL reaction executed since the part reset; 1 bit (R405, R414). Reset no (R414). -/
  fatal : Bool
  /-- Local time at which the running warm restart began, or none (R425). Reset none (DESIGN CHOICE, log 3). -/
  restartAt : Option Tick
  /-- Local times of the warm restarts in the last 600 s; a list (R425). Reset empty (DESIGN CHOICE, log 3). -/
  restarts : List Tick
  /-- Checkpoint window W in ms; 10 to 1000 (R423). Reset 100 (DESIGN CHOICE, log 11). -/
  window : Nat
  /-- Minimum and maximum check-ins a window of tasks 0 to 15; 16 pairs of 8 bits (R423). Reset 0 and 255 (DESIGN CHOICE, log 11). -/
  limits : List (Nat × Nat)
  /-- Check-ins of the running window, tasks 0 to 15; 16 counts (R424). Reset 0 (DESIGN CHOICE, log 3). -/
  counts : List Nat
  /-- LASTCOUNT, counts of the last window ended, tasks 0 to 15; 16 counts of 8 bits (R433). Reset 0 (DESIGN CHOICE, log 3). -/
  lastCounts : List Nat
  /-- CHECKIN, low 32 bits of the pack time of the last check-in, tasks 0 to 15, 0 never; 16 words (R427). Reset 0 (R427). -/
  lastCheckin : List Nat
  deriving DecidableEq, Repr

/-- One entry of the Dailies (R430); its CRC is computed when it is read. -/
structure DEntry where
  dseq : Nat
  at_ : Nat
  source : Nat
  kind : Nat
  dtype : Nat
  dflags : Nat
  data : List Byte
  deriving DecidableEq, Repr

/-- The Dailies' bookkeeping outside flash (R431, R435). -/
structure Dailies where
  /-- Entries in the bucket, 0 to 512; 10 bits (R431). Reset 512 (DESIGN CHOICE, log 12). -/
  bucket : Nat
  /-- Entries dropped since the last drop summary; 32 bits (R431). Reset 0 (DESIGN CHOICE, log 3). -/
  dropped : Nat
  /-- Local time of the last refill; a tick count (R431). Reset 0 (DESIGN CHOICE, log 3). -/
  refillAt : Tick
  /-- Entries a DAILIES_READ has yet to write, with its header and the entries written and the first DSEQ (R435). Reset none (DESIGN CHOICE, log 3). -/
  reads : List (Hdr × List Nat × Nat × Nat)
  deriving DecidableEq, Repr

/-- One safety input SIn (R369 to R376). A channel is true in its operate state. -/
structure SInput where
  chA : Bool
  chB : Bool
  /-- The change that waits for the second channel: which channel changed first (0 A, 1 B), and elapsed ticks start (R373). -/
  firstCh : Option Nat
  firstAt : Tick
  latched : Bool
  /-- Step 1 of R374 is done. -/
  bothSafe : Bool
  crash : Bool
  /-- Local time since which the input has been in operate (R376), while it is. -/
  operateAt : Tick
  /-- Consecutive occurrences of the verdicts of R370: short on A, short on B, cross-short on A, cross-short on B. -/
  tpCounts : List Nat
  /-- Consecutive sound pulses of A and of B (R370). -/
  tpSound : List Nat
  deriving DecidableEq, Repr

/-- A REQUEST trip that the stage follows: its cell, its grace period and what R384 needs (R383). -/
structure Grace where
  die : Nat
  cell : Nat
  under : Bool
  /-- Local time of the grace end. -/
  endAt : Tick
  running : Bool
  /-- Has the cause been gone since the trip (R384)? -/
  gone : Bool
  /-- Consecutive readings beyond HARDMARGIN (R384). -/
  hard : Nat
  /-- Does the stage act as DIRECT already (R384)? -/
  direct : Bool
  deriving DecidableEq, Repr

/-- The safety stage (R365 to R386). -/
structure Stage where
  /-- SO1 and SO2 as commanded: is the output energised; 2 bits (R41, R379). Reset both open (R41). -/
  so1 : Bool
  so2 : Bool
  /-- SO1FB and SO2FB as last read; 2 bits (R380, R399). Reset low (DESIGN CHOICE, log 3). -/
  fb1 : Bool
  fb2 : Bool
  /-- Local times of the last switching of SO1 and SO2; two tick counts (R380). Reset 0 (DESIGN CHOICE, log 3). -/
  at1 : Tick
  at2 : Tick
  /-- Is an off-pulse test of SO1, SO2 running, and its start; two optional tick counts (R381). Reset none (DESIGN CHOICE, log 3). -/
  test1 : Option Tick
  test2 : Option Tick
  /-- Is the output supply switch closed; 1 bit (R382). Reset closed (DESIGN CHOICE, log 3). -/
  supply : Bool
  /-- Local time since which both feedbacks have read low with the switch closed again, while a clear of SO_STUCK_ON runs; an optional tick count (R382). Reset none (DESIGN CHOICE, log 3). -/
  stuckLowAt : Option Tick
  /-- Are both drivers disabled by the clock check; 1 bit (R368). Reset no (DESIGN CHOICE, log 3). -/
  driversOff : Bool
  /-- The four safety inputs; 4 records (R369). Reset both channels in the safe state, no latch (DESIGN CHOICE, log 3; crash latch R376). -/
  inputs : List SInput
  /-- Does feed TPA, TPB fail to reach its levels; 2 bits (R370). Reset no (DESIGN CHOICE, log 3). -/
  overA : Bool
  overB : Bool
  /-- HVIL verdict as GET_SAFETY_STATUS codes it, 0 to 4; 3 bits (R399). Reset 0 (DESIGN CHOICE, log 3). -/
  hvil : Nat
  /-- Consecutive missed pulses, short-to-supply, short-to-ground observations and good slots; four counts (R378). Reset 0 (DESIGN CHOICE, log 3). -/
  hvilMiss : Nat
  hvilHigh : Nat
  hvilLow : Nat
  hvilGood : Nat
  /-- REQUEST trips followed by the stage; a list (R383). Reset empty (DESIGN CHOICE, log 3). -/
  graces : List Grace
  deriving DecidableEq, Repr

/-- An authorised session (R387, R389). -/
structure Session where
  /-- 0 for the head at this port, 1 for the other head. -/
  head : Nat
  host : Nat
  number : Nat
  challenge : List Byte
  key : List Byte
  lastN : Nat
  lastProof : Tick
  /-- The staging copy (R392), once a STAGE has opened it. -/
  staging : Option (List Byte)
  deriving DecidableEq, Repr

/-- What SAFETY_CONFIG_APPLY applies at the next 1 ms tick (R392). -/
structure PendingCfg where
  hdr : Hdr
  image : List Byte
  gen : Nat
  changed : Nat
  deriving DecidableEq, Repr

/-- One entry of the change log (R395); its CRC is computed when it is read. -/
structure LogEntry where
  seq : Nat
  at_ : Nat
  field : Nat
  host : Nat
  old : Nat
  new : Nat
  gen : Nat
  deriving DecidableEq, Repr

/-- The Keeper's safety configuration and sessions (R387 to R395). -/
structure SafetyCfg where
  /-- The active image; 128 bytes (R391). Reset the defaults of R391 (R394). -/
  image : List Byte
  /-- GEN of the active image; 32 bits (R392). Reset 0 (DESIGN CHOICE, log 3). -/
  gen : Nat
  /-- Committed at least once and loaded with a good CRC; 1 bit (R379 REASON 1). Reset no (R394). -/
  valid : Bool
  /-- Image waiting for the 1 ms tick, or none (R392). Reset none (DESIGN CHOICE, log 3). -/
  applying : Option PendingCfg
  /-- Open sessions, at most one a head; a list (R387). Reset none (R389). -/
  sessions : List Session
  /-- Local times of failed logins in the last 10 min; a list (R390). Reset empty (DESIGN CHOICE, log 3). -/
  failures : List Tick
  /-- End of the login lock as local time, or none (R390). Reset none (DESIGN CHOICE, log 3). -/
  lockEnd : Option Tick
  deriving DecidableEq, Repr

/-- The fields of the safety image as offset and size (R391): those that the change log names. -/
def safetyFields : List (Nat × Nat) :=
  [(2, 2), (4, 2), (6, 1), (7, 1), (8, 2), (10, 2), (12, 1), (13, 1), (14, 1), (15, 1), (16, 1), (17, 1), (18, 1), (19, 1)] ++
  [(24, 1), (25, 1), (26, 2), (32, 1), (33, 1), (34, 2), (40, 1), (41, 1), (42, 2), (48, 1), (49, 1), (50, 2)]

/-- The default safety image without its CRC (R391): bytes 0 to 123. -/
def safetyDefault : List Byte :=
  [3, 0, 0xCC, 0x10, 0xC4, 9, 0, 0, 0xE8, 3, 100, 0, 3, 3, 30, 3, 0, 3, 10, 3, 0, 0, 0, 0] ++
  (List.replicate 4 [0, 3, 100, 0, 0, 0, 0, 0]).flatten ++ List.replicate 68 0

/-- The power states (R440). -/
inductive PState where
  | ship | sleep | monitor | run | service
  deriving DecidableEq, Repr

/-- What a die keeps of its temperature (R460 to R468); C holds one too. -/
structure Therm where
  /-- Latest reading, 0.01 °C; 16 bits signed (R460, R472). Reset 2500 (DESIGN CHOICE, log 17). -/
  temp : Int
  /-- Local time and value of the readings of the last second, newest first; a list (R462). Reset empty (DESIGN CHOICE, log 3). -/
  hist : List (Tick × Int)
  /-- RATE, 0.1 K/s; 16 bits signed (R462, R472). Reset 0 (DESIGN CHOICE, log 3). -/
  rate : Int
  /-- Consecutive rounds with the rate at or above RISE; a count (R462). Reset 0 (DESIGN CHOICE, log 3). -/
  riseCount : Nat
  /-- Is THERMAL_RISE armed; 1 bit (R462). Reset armed (DESIGN CHOICE, log 3). -/
  riseArmed : Bool
  /-- Local time since which the rate has stayed below RISE/2; an optional tick count (R462). Reset none (DESIGN CHOICE, log 3). -/
  calmSince : Option Tick
  /-- Consecutive pairs of rounds that changed by more than 20 K; a count (R463). Reset 0 (DESIGN CHOICE, log 3). -/
  jumps : Nat
  /-- Is the sensor in fault; 1 bit (R463). Reset no (DESIGN CHOICE, log 3). -/
  fault : Bool
  /-- For levels 1 to 4: is the die above it; 4 bits (R461). Reset no (DESIGN CHOICE, log 3). -/
  above : List Bool
  /-- For levels 1 to 4: local time at which the running dwell began; 4 optional tick counts (R461). Reset none (DESIGN CHOICE, log 3). -/
  dwell : List (Option Tick)
  /-- Local time since which the die has read below 125 °C, while it is stopped; an optional tick count (R468). Reset none (DESIGN CHOICE, log 3). -/
  coolSince : Option Tick
  /-- Derating or throttle factor in %; 7 bits (R250, R464, R472). Reset 100 (DESIGN CHOICE, log 3). -/
  factor : Nat
  deriving DecidableEq, Repr

/-- A flash scrub pass (R470). -/
structure Scrub where
  /-- Header of the SCRUB_NOW that started it, or none for a scheduled pass. -/
  hdr : Option Hdr
  /-- Blocks, which are sectors of 4 KiB, read; 1024 make a pass (log entry 69). -/
  done : Nat
  rewritten : Nat
  failed : Nat
  /-- Local time of the last four blocks, or of the start: a background pass reads 16 KiB every 10 s (R470). -/
  stepAt : Tick
  deriving DecidableEq, Repr

/-- A transition into SLEEP or SHIP in progress (R444). -/
structure Shutdown where
  /-- The operation, none on a package that the head's order reached (R455). -/
  hdr : Option Hdr
  target : PState
  deriving DecidableEq, Repr

/-- Power, clocks and C's own temperature (R439 to R471). -/
structure Power where
  /-- The power state; one of five (R440). Reset RUN (DESIGN CHOICE, log 18). -/
  state : PState
  /-- The shutdown in progress, or none (R444). Reset none (DESIGN CHOICE, log 3). -/
  shutdown : Option Shutdown
  /-- A move of the whole chain waiting for the next superframe, with the local time of its acceptance, or none (R455). Reset none (DESIGN CHOICE, log 3). -/
  chainMove : Option (Shutdown × Tick)
  /-- Were the sweeps running before MONITOR; 1 bit (R447). Reset no (DESIGN CHOICE, log 3). -/
  sweptBefore : Bool
  /-- Is the Studio asleep in MONITOR; 1 bit (R448). Reset no (DESIGN CHOICE, log 3). -/
  studioAsleep : Bool
  /-- Local time of the last reply, for the 50 ms of R448; a tick count (R448). Reset 0 (DESIGN CHOICE, log 3). -/
  lastReply : Tick
  /-- CLOCKS[0], the 32.768 kHz crystal is in use; 1 bit (R457, R472). Reset no (DESIGN CHOICE, log 3). -/
  crystal32 : Bool
  /-- CLOCKS[1], the PLL is locked; 1 bit (R458, R472). Reset no (DESIGN CHOICE, log 3). -/
  pllLocked : Bool
  /-- CLOCKS[2], the PLL runs on its timebase or line clock; 1 bit (R458, R472). Reset no (DESIGN CHOICE, log 3). -/
  pllOnRef : Bool
  /-- VLV in mV as last read; 16 bits (R472). Reset 12000 (DESIGN CHOICE, log 19). -/
  vlv : Nat
  /-- C's own temperature (R460). -/
  therm : Therm
  /-- Has THERMAL_THROTTLE been raised while the factor is below 1; 1 bit (R464). Reset no (DESIGN CHOICE, log 3). -/
  throttled : Bool
  /-- The scrub pass in progress, or none (R470). Reset none (DESIGN CHOICE, log 3). -/
  scrub : Option Scrub
  deriving DecidableEq, Repr

/-- The settings that the Keeper stores and that survive every start (R472). -/
structure Settings where
  /-- WAKEMASK, bit c for code c; 16 bits (R452). Reset 0x005C: codes 2, 3, 4 and 6 (R452). -/
  wakeMask : Nat
  /-- WAKESTATE, 2 MONITOR or 3 RUN; 8 bits (R445). Reset 3 (R445). -/
  wakeState : Nat
  /-- SLEEPCHK in s; 8 bits (R450). Reset 1 (R450). -/
  sleepChk : Nat
  /-- WAKETIME, a pack time, 0 none; 64 bits (R452). Reset 0 (R452). -/
  wakeTime : Nat
  /-- Has WAKETIME still to fire: it lay ahead when it was set; 1 bit (R452, R475). Reset no (DESIGN CHOICE, log 3). -/
  wakeArmed : Bool
  /-- SLEEPTEMP in °C; 8 bits (R450). Reset 70 (R450). -/
  sleepTemp : Nat
  /-- MONPERIOD in ms; 32 bits (R447). Reset 1000 (R447). -/
  monPeriod : Nat
  /-- MONORDER; 8 bits (R447). Reset 1 (R447). -/
  monOrder : Nat
  /-- MONDEC; 16 bits (R447). Reset 64 (R447). -/
  monDec : Nat
  /-- The four LEVELs of SET_THERMAL in 0.01 °C, -32768 off; 4 times 16 bits (R461). Reset off (DESIGN CHOICE, log 3). -/
  levels : List Int
  /-- RISE in 0.1 K/s, 0 off; 16 bits (R462). Reset 0 (DESIGN CHOICE, log 3). -/
  rise : Nat
  /-- MODE of SET_SCRUB, 0 scheduled; 8 bits (R471). Reset 0 (DESIGN CHOICE, log 3). -/
  scrubMode : Nat
  /-- SRC32, 0 automatic; 8 bits (R457). Reset 0 (DESIGN CHOICE, log 3). -/
  src32 : Nat
  /-- Pack time of the last complete scrub pass; 64 bits (R469). Reset 0 (DESIGN CHOICE, log 3). -/
  scrubDate : Nat
  deriving DecidableEq, Repr

/-- An image in a place of flash: the header fields the part uses and the payload (R482). -/
structure Image where
  version : Nat
  rollback : Nat
  minKeeper : Nat
  length : Nat
  setFmt : Nat
  digest : List Byte
  payload : List Byte
  deriving DecidableEq, Repr

/-- The boot record (R488); its CRC is computed when it is written. -/
structure BootRecord where
  brgen : Nat
  active : Nat
  pending : Nat
  verified : Nat
  bootCount : Nat
  rollIdx : List Nat
  actAt : Nat
  complete : Nat
  migrate : Nat
  deriving DecidableEq, Repr

/-- An open download (R486). -/
structure Transfer where
  target : Nat
  /-- 0 place A, 1 place B. -/
  place : Nat
  length : Nat
  received : Nat
  lastOffset : Nat
  lastData : List Byte
  deriving DecidableEq, Repr

/-- An activation that this package has accepted (R490, R493). -/
structure Activation where
  /-- Header of the ACTIVATE, or none on a package that the head's arming frame reached. -/
  hdr : Option Hdr
  tmask : Nat
  scope : Nat
  /-- Pack time of the activation. -/
  at_ : Nat
  /-- Has the commit point passed? -/
  committed : Bool
  /-- Has the switch been made? -/
  done : Bool
  deriving DecidableEq, Repr

/-- Update engine of the Keeper outside flash (R486, R490, R493). -/
structure Fw where
  /-- Header bytes 0 to 127 from UPDATE_BEGIN with HALF 0, or none; 128 bytes (R486). Reset none (DESIGN CHOICE, log 3). -/
  head : Option (List Byte)
  /-- The open transfer, or none (R487). Reset none (DESIGN CHOICE, log 3). -/
  transfer : Option Transfer
  /-- Activation mode host-assisted; 1 bit (R493). Reset hardware (DESIGN CHOICE, log 3). -/
  hostMode : Bool
  /-- The activation accepted, or none (R490). Reset none (DESIGN CHOICE, log 3). -/
  activation : Option Activation
  /-- The places in use, coded as ACTIVE; 6 bits (R488, R491). Reset 0, places A (DESIGN CHOICE, log 20). -/
  running : Nat
  /-- Do the segment dies run ROM microcode; 1 bit (R481). Reset no (DESIGN CHOICE, log 3). -/
  romMicro : Bool
  /-- Is the radio controller without an image; 1 bit (R481). Reset no (DESIGN CHOICE, log 3). -/
  noRadio : Bool
  deriving DecidableEq, Repr

/-- A stored calibration record (R192). -/
structure CalRecord where
  kind : Nat
  die : Nat
  input : Nat
  modegr : Nat
  /-- GAIN, the bits of an IEEE 754 binary32 value. -/
  gain : Nat
  offset : Int
  temp : Int
  gen : Nat
  at_ : Nat
  deriving DecidableEq, Repr

/-- A flash job that the Keeper's flash gate has accepted; the head of the queue is the erase or program step in progress
(R19, R428). -/
inductive FlashJob where
  /-- A Dailies entry (R429). -/
  | dailies (e : DEntry)
  /-- Two copies of a safety image, and the change log entries of the commit (R392). -/
  | safetyImage (p : PendingCfg) (log : List LogEntry)
  /-- Two copies of the reaction table (R407). -/
  | reactionTable (table : List Nat) (gen : Nat)
  /-- Calibration records, the header of the operation that stores them, and what its completion returns where the store completes it
  (R192, R200). -/
  | calRecords (recs : List CalRecord) (hdr : Option Hdr) (result : List Byte)
  /-- The erase of a calibration channel, die, kind and input, and the header of its operation (R193, R200). -/
  | calErase (die kind input : Nat) (hdr : Hdr)
  deriving DecidableEq, Repr

/-- The flash manager (R428, R478). -/
structure Flash where
  /-- Jobs accepted, the step in progress first; a list (R428). Reset empty (DESIGN CHOICE, log 3). -/
  jobs : List FlashJob
  /-- Local time at which the step in progress began; a tick count (R428). Reset 0 (DESIGN CHOICE, log 3). -/
  stepAt : Tick
  /-- Local time since which a watchdog reset waits for the step in progress, or none (R428). Reset none (DESIGN CHOICE, log 3). -/
  deferred : Option Tick
  deriving DecidableEq, Repr

/-- Life cycle (R508 to R520). -/
structure Life where
  /-- LCSTATE: 0 BLANK, 1 MAKER_TEST, 2 CONFIGURED, 3 FIELD, 4 RETURN, 5 SCRAP; 3 bits (R508, R521). Reset 2 CONFIGURED (R510). -/
  state : Nat
  /-- LCGEN, generation of the life-cycle record; 32 bits (R508). Reset 1 (DESIGN CHOICE, log 21). -/
  gen : Nat
  /-- DEGRADED, die mask of the dies that failed at this start; 8 bits (R516). Reset 0 (DESIGN CHOICE, log 3). -/
  degraded : Nat
  /-- The nonce held, with the pack time of its issue, or none (R518). Reset none (R518). -/
  nonce : Option (List Byte × Nat)
  /-- Has a test access attempt been raised since this start; 1 bit (R517). Reset no (DESIGN CHOICE, log 3). -/
  attempted : Bool
  deriving DecidableEq, Repr

/-- The trigger settings (R108, R133). -/
structure Trigger where
  source : Nat
  edge : Nat
  watch : Nat
  delay : Nat
  period : Nat
  phase : Nat
  deriving DecidableEq, Repr

/-- A Clapper that a source event has set (R109): the event's pack time and the pack time of the Clapper. -/
structure ClapEvent where
  event : Nat
  clap : Nat
  deriving DecidableEq, Repr

/-- Trigger unit, schedule queue and sweep control of C (R99 to R115, R133, R135). -/
structure Sweep where
  /-- Trigger settings in force; SOURCE, EDGE, WATCH, DELAY, PERIOD, PHASE (R108, R133). Reset OFF, 0, 0, 0, 2500, 0 (R445). -/
  trig : Trigger
  /-- Are sweeps started; 1 bit (R135). Reset stopped (R445). -/
  running : Bool
  /-- Scheduling in host-assisted mode; 1 bit (R103). Reset hardware (DESIGN CHOICE, log 3). -/
  hostSched : Bool
  /-- Does a stop of the part's own wait for the next Take boundary: a shutdown, or the package out of service; 1 bit (R316, R444). Reset no
  (DESIGN CHOICE, log 3). -/
  stopPending : Bool
  /-- Headers of the stops by SWEEP_CONTROL that wait for the next Take boundary; a list (R135). Reset empty (DESIGN CHOICE, log 3). -/
  stops : List Hdr
  /-- Header of a start that waits for its first boundary, or none (R135). Reset none (DESIGN CHOICE, log 3). -/
  startPending : Option Hdr
  /-- Pack time at which that start was accepted; 64 bits (R135). Reset 0 (DESIGN CHOICE, log 3). -/
  startAt : Nat
  /-- The head's schedule queue, ascending pack times, up to 32; a list (R112). Reset empty (DESIGN CHOICE, log 3). -/
  queue : List Nat
  /-- Times of the queue that have been sent; a list (R112). Reset empty (DESIGN CHOICE, log 3). -/
  queueSent : List Nat
  /-- Scheduled pack times that this package has received; a list (R112). Reset empty (DESIGN CHOICE, log 3). -/
  times : List Nat
  /-- Clappers set by events and not yet fallen; a list (R109). Reset empty (DESIGN CHOICE, log 3). -/
  events : List ClapEvent
  /-- CLAPS; 32 bits (R133). Reset 0 (R133). -/
  claps : Nat
  /-- OVERRUNS; 32 bits (R133). Reset 0 (R133). -/
  overruns : Nat
  /-- Clappers skipped in the running run, for the detail of CLAPPER_OVERRUN; a count (R136). Reset 0 (DESIGN CHOICE, log 3). -/
  overrunRun : Nat
  /-- LASTCLAP, pack time of the last Clapper that started a sweep; 64 bits (R133). Reset 0 (DESIGN CHOICE, log 3). -/
  lastClap : Nat
  /-- The last eight intervals between Clappers, newest first; a list (R130). Reset empty (DESIGN CHOICE, log 3). -/
  intervals : List Nat
  /-- Local time of the last Clapper event of the source; a tick count (R114). Reset 0 (DESIGN CHOICE, log 3). -/
  lastEvent : Tick
  /-- Has CLAP_PIN_SILENT been recorded since events last came; 1 bit (R114). Reset no (DESIGN CHOICE, log 3). -/
  silent : Bool
  /-- Local time of the last edge of CLAP behind its glitch filter, or none (R109). Reset none (DESIGN CHOICE, log 3). -/
  edgeAt : Option Tick
  /-- Ticks from the arrival of the event at the dies to the last Clapper, 400 or more as 400; 9 bits (R116). Reset 400 (DESIGN CHOICE, log 3). -/
  lead : Nat
  /-- PERIOD of the analogue self-test in s; 8 bits (R130). Reset 10 (R130). -/
  selftest : Nat
  /-- Is a sweep between its Clapper and its end; 1 bit (R99, R101). Reset no (DESIGN CHOICE, log 3). -/
  inSweep : Bool
  /-- Did the last Clapper fall later than its edge plus DELAY (R37, R109, R151); 1 bit. Reset no (DESIGN CHOICE, log 3). -/
  late : Bool
  /-- Sweeps since the Take count last restarted; a count (R139, R141). Reset 0 (DESIGN CHOICE, log 3). -/
  sinceRestart : Nat
  /-- Take boundaries since reset, published or not; a count (R22). Reset 0 (DESIGN CHOICE, log 3). -/
  boundaries : Nat
  /-- Local and pack time of the last boundary; two tick counts (R22, R171). Reset 0 (DESIGN CHOICE, log 3). -/
  boundaryAt : Tick
  boundaryPack : Nat
  /-- Pack time of the boundary of the last published Take, or none (R171). Reset none (DESIGN CHOICE, log 3). -/
  publishedPack : Option Nat
  /-- Do sweeps wait for the PLL to relock; 1 bit (R459). Reset no (DESIGN CHOICE, log 3). -/
  pllHold : Bool
  /-- Is a MONITOR burst in progress; 1 bit (R447). Reset no (DESIGN CHOICE, log 3). -/
  burst : Bool
  deriving DecidableEq, Repr

/-- One sample of one input as it enters the filter (R121, R122, R128, R131, R142, R144). -/
structure Sample where
  /-- Number of its sweep on the die. -/
  sweep : Nat
  /-- Pack time of its Clapper, and of its sample instant. -/
  clap : Nat
  at_ : Nat
  /-- Value before alignment, and as it enters the filter, in nV (µA for a current input). -/
  raw : Int
  nv : Int
  /-- Did it read no data? -/
  noData : Bool
  /-- 0 in range, 1 saturated at the top, 2 at the bottom. -/
  ovr : Nat
  nbr : Bool
  sub : Bool
  /-- Was a quiet-window violation seen at it (R127)? -/
  quiet : Bool
  /-- Is it the stand-in of a cell under probe (R216)? Its `cur` is then the baseline current from the start. -/
  probed : Bool
  /-- Change of the pack current from the Clapper to the sample instant in mA, once both are known (R144). -/
  di : Option Int
  /-- Pack current at the sample instant in mA, once known (R146). -/
  cur : Option Int
  deriving DecidableEq, Repr

/-- The analogue self-test of one die (R130 to R132). -/
structure SelfTest where
  running : Bool
  /-- An urgent request held during the test (R124). -/
  heldUrgent : Option Nat
  /-- Was it started by the reference cross-check (R221)? -/
  xcheck : Bool
  failed : Bool
  /-- Local time at which the last test of the die's period started (R130). -/
  startedAt : Option Tick
  deriving DecidableEq, Repr

/-- One sample of the pack current with its pack time, its value in mA, and the integral of the current up to it in
mA·ticks, doubled so that the trapezoidal rule stays whole (R145, R166). -/
structure CurSample where
  at_ : Nat
  ma : Int
  int_ : Int
  deriving DecidableEq, Repr

/-- What a die's filters hold for one input at a Take boundary: order, decimation in its own samples, and the contributing
samples, newest first (R138, R142). -/
structure BlockInput where
  order : Nat
  d : Nat
  samples : List Sample
  deriving DecidableEq, Repr

/-- The block that a segment die forms at a Take boundary (R139, R150 to R154). -/
structure Block where
  die : Nat
  /-- Does the block carry data (R150)? -/
  live : Bool
  /-- DIEFLAGS bits known at the boundary (R154). -/
  flags : Nat
  first : Nat
  cells : Nat
  sets : Nat
  temp : Option Int
  /-- The 32 inputs: cells 1 to 24, then A1 to A8. -/
  inputs : List BlockInput
  /-- Has it reached C: none not yet, some good CRC (R292). -/
  got : Option Bool
  deriving DecidableEq, Repr

/-- A die's continuity window of one Take (R161 to R164). -/
structure Window where
  die : Nat
  /-- Window sweeps still to run. -/
  left : Nat
  /-- Local time at which it closed, or none while it is open (R163). -/
  closedAt : Option Tick
  /-- Inputs whose comparison failed, first one first. -/
  fails : List Nat
  /-- The result the die has sent: none, or some pass. -/
  sent : Option Bool
  /-- The result as C has it: none, 0 pass, 1 fail, 2 missing (R163). -/
  got : Option Nat
  deriving DecidableEq, Repr

/-- A Take from its boundary to its commit notice (R21 to R24, R139, R160 to R165). -/
structure Take where
  seq : Nat
  clap : Nat
  /-- Pack time of its boundary and local time of its publication. -/
  boundary : Nat
  publishedAt : Tick
  /-- STATEFLAGS known at the boundary (R151). -/
  flags : Nat
  filterId : Nat
  /-- Is its continuity decided by the host's verdict (R165)? -/
  hostCont : Bool
  blocks : List Block
  windows : List Window
  /-- Order, decimation and samples of the pack current (R144). -/
  current : BlockInput
  /-- For the timestamped sweep record: sweeps and skipped Clappers of the set-0 span, first Clapper of it (R159). -/
  spanSweeps : Nat
  spanSkips : Nat
  spanFirst : Nat
  /-- Clapper of the first of the sweeps since the boundary before it; 64 bits (R139). -/
  ownFirst : Nat
  /-- Formed: published, dropped or left out (R27). -/
  published : Bool
  /-- Was its record written into the window (R78)? -/
  written : Bool
  /-- Do notices of it go to the stream and the chain (R169)? -/
  selected : Bool
  /-- May work be prepared on it (R27)? -/
  prepared : Bool
  /-- Has the planner prepared its items on it (R244)? -/
  planned : Bool
  /-- The 660 bytes of the Slate, empty before publication (R150). -/
  bytes : List Byte
  dieMask : Nat
  /-- Verdict of the host: none, 0 commit, 1 void, 2 timed out (R165). -/
  verdict : Option Nat
  /-- For each part cell with qualifying sweep pairs: the cell, the sum of ΔI·ΔV, the sum of ΔI², and the pairs (R146). -/
  pairs : List (Nat × Int × Int × Nat)
  /-- CHARGE at its Clapper in doubled mA·ticks (R166). -/
  charge : Int
  deriving DecidableEq, Repr

/-- The resistance estimate of one part cell (R146). -/
structure Rho where
  /-- The value in use in nΩ; 20 µΩ to 20 mΩ while it is an estimate. -/
  nohm : Nat
  /-- Qualifying pairs, and the sums of the fit. -/
  count : Nat
  sxy : Int
  sxx : Int
  deriving DecidableEq, Repr

/-- A READ_HISTORY in progress (R168): its header, the records still to write, how many it wrote, the first CLAPTIME. -/
structure HistRead where
  hdr : Hdr
  left : List (List Byte)
  count : Nat
  firstTime : Nat
  deriving DecidableEq, Repr

/-- Filters, Slate engine, charge integrator and history (R138 to R173). -/
structure Slates where
  /-- The four filter sets; order and decimation each (R138). Reset sinc3 with D 40 (R138). -/
  sets : List FilterSet
  /-- TAKEDEC; 1 to 1024 (R139). Reset 40 (R139). -/
  takedec : Nat
  /-- FILTERID; 8 bits (R150). Reset 0 (DESIGN CHOICE, log 3). -/
  filterId : Nat
  /-- Alignment in host-assisted mode; 1 bit (R149). Reset hardware (DESIGN CHOICE, log 3). -/
  alignHost : Bool
  /-- IRSRC; 0 current source, 1 auxiliary, 2 none (R172). Reset 0 (DESIGN CHOICE, log 3). -/
  irsrc : Nat
  /-- SUBDIE and SUBIN; two codes (R172). Reset 0 (DESIGN CHOICE, log 3). -/
  subDie : Nat
  subIn : Nat
  /-- RMODE FIXED; 1 bit (R146). Reset RUNNING (R146). -/
  rFixed : Bool
  /-- Estimates of part cells 1 to 144; 144 records (R146). Reset 500 µΩ, no pairs (R146). -/
  rho : List Rho
  /-- Die that feeds the raw stream, 0 none; 3 bits (R172). Reset none (DESIGN CHOICE, log 3). -/
  rawDie : Nat
  /-- Continuity cross-check in host-assisted mode; 1 bit (R165). Reset hardware (DESIGN CHOICE, log 3). -/
  contHost : Bool
  /-- CONTTHR in mV; 16 bits (R161). Reset 20 (R161). -/
  contThr : Nat
  /-- VERDICTTMO in ms; 16 bits (R165). Reset 50 (R165). -/
  verdictTmo : Nat
  /-- SET_STREAM entries; a list (R169). Reset empty: full form, divider 1 (DESIGN CHOICE, log 22). -/
  sel : List StreamSel
  /-- The sequence number issued next; 32 bits (R24). Reset 0 (R24). -/
  nextSeq : Nat
  /-- Takes from boundary to notice, oldest first; a list (R23, R27). Reset empty (R29). -/
  takes : List Take
  /-- Committed Takes whose planner items are still to be prepared, oldest first; a list (R246). Reset empty (DESIGN CHOICE, log 3). -/
  late : List Take
  /-- Undecided own Slates on which this head holds a summary item (R25 to R27); sequence numbers. Reset empty (DESIGN CHOICE, log 3). -/
  summaries : List Nat
  /-- Does preparation wait for the next notice (R27)? Reset no (DESIGN CHOICE, log 3). -/
  prepHold : Bool
  /-- Dies of a void whose history mark is still to be made; a die mask (R163). Reset 0 (DESIGN CHOICE, log 3). -/
  contFail : Nat
  /-- Published Slates still to carry REJOIN after a package readmission; 0 to 2 (R318). Reset 0 (DESIGN CHOICE, log 3). -/
  rejoin : Nat
  /-- Clappers skipped in the running filter span: the sweep count at which each fell; a list (R143). Reset empty (DESIGN CHOICE, log 3). -/
  skips : List Nat
  /-- Samples of the pack current at the Clappers, newest first; a list (R144). Reset empty (DESIGN CHOICE, log 3). -/
  curHist : List Sample
  /-- The latest samples of the current stream at C, newest first; a list (R145, R166). Reset empty (DESIGN CHOICE, log 3). -/
  stream : List CurSample
  /-- The latest samples of the auxiliary substitute, newest first; a list (R148). Reset empty (DESIGN CHOICE, log 3). -/
  subst : List CurSample
  /-- Is alignment without current, with ALIGN_NO_CURRENT raised; 1 bit (R148). Reset no (DESIGN CHOICE, log 3). -/
  noCurrent : Bool
  /-- Integral at the integrator's zero and the preset it counts from, in doubled mA·ticks; two integers (R166). Reset 0 (R166). -/
  zeroInt : Int
  preset : Int
  /-- The stored charge total in mAs and the CLAPTIME it stands for; 64 bits each (R166). Reset 0 (R166). -/
  charge : Int
  chargeAt : Nat
  /-- A preset that waits for its Take and the local time of its acceptance; optional (R172). Reset none (DESIGN CHOICE, log 3). -/
  presetWait : Option (Int × Tick)
  /-- INTEGRATOR_GAP; 1 bit (R156, R166). Reset no (DESIGN CHOICE, log 3). -/
  gap : Bool
  /-- The last 512 committed full Slates, oldest first; up to 512 of 660 bytes (R167). Reset empty (R167). -/
  history : List (List Byte)
  /-- READ_HISTORY operations in progress; a list (R168). Reset empty (DESIGN CHOICE, log 3). -/
  reads : List HistRead
  /-- PUBLISHED, COMMITTED, VOIDED, CHAINDROPS; four counts of 32 bits (R172). Reset 0 (DESIGN CHOICE, log 3). -/
  published : Nat
  committed : Nat
  voided : Nat
  chainDrops : Nat
  /-- TAKEINT, last Take interval in ticks; 32 bits (R172). Reset 0 (DESIGN CHOICE, log 3). -/
  takeInt : Nat
  /-- Own Slates that wait for chain transfer, oldest first; up to 4 (R170). Reset empty (DESIGN CHOICE, log 3). -/
  chainQueue : List (List Byte)
  /-- Slates dropped from the chain in the running run; a count (R174). Reset 0 (DESIGN CHOICE, log 3). -/
  chainRun : Nat
  /-- The values of the last committed Slate, in µV, by part cell, for JUMPTHR and the planner; a list (R210, R243). Reset empty (DESIGN CHOICE, log 3). -/
  lastVals : List (Nat × Int)
  deriving DecidableEq, Repr

/-- A point of a calibration session: the applied value and the average X in µV (R182, R185). -/
structure CalPt where
  applied : Int
  mean : Int
  deriving DecidableEq, Repr

/-- The calibration session (R182). -/
structure CalSession where
  die : Nat
  input : Nat
  unit_ : Nat
  /-- Gain and reference of the entry when the session opened (R181). -/
  gain : Nat
  ref : Nat
  low : Option CalPt
  high : Option CalPt
  deriving DecidableEq, Repr

/-- A capture in progress: CAL_POINT (KIND 0, 1) or CAL_CELL_GAIN (R179, R183). -/
structure Capture where
  hdr : Hdr
  gainRun : Bool
  kind : Nat
  die : Nat
  ntakes : Nat
  applied : Int
  cells : List TrueCell
  /-- Pack time of acceptance; the capture starts at the first boundary that follows it by 100 µs (R179). -/
  acceptedAt : Nat
  /-- Takes counted, Takes skipped, and the boundaries seen (R183). -/
  counted : Nat
  skipped : Nat
  seen : Nat
  /-- Per counted Take: the values in µV. -/
  values : List (List Int)
  /-- Lowest and highest die temperature in the capture (R184). -/
  tmin : Int
  tmax : Int
  deriving DecidableEq, Repr

/-- What one step of a tap calibration sums for a tap: the samples of the neighbour cell in nV on even sweeps, with the Dolly gated, and on odd ones,
ungated (R188). -/
structure TapSum where
  die : Nat
  tap : Nat
  gated : Int
  gatedN : Nat
  free : Int
  freeN : Nat
  deriving DecidableEq, Repr

/-- A CAL_TAPS run on its dies (R188, R191). -/
structure TapRun where
  hdr : Hdr
  itest : Nat
  step : Nat
  /-- Local time at which the running step began. -/
  stepAt : Tick
  dies : List Nat
  /-- Dies stopped with TAP_CAL_CONDITIONS. -/
  failed : List Nat
  /-- Do the transfers of the running step run, how many sweeps it has had, and its sums. -/
  started : Bool
  sweeps : Nat
  sums : List TapSum
  /-- Results so far: die, tap, µΩ. -/
  found : List (Nat × Nat × Int)
  deriving DecidableEq, Repr

/-- System calibration (R179 to R201). -/
structure Cal where
  /-- The open session, or none (R182). Reset none (DESIGN CHOICE, log 3). -/
  session : Option CalSession
  /-- The capture in progress, or none (R183). Reset none (DESIGN CHOICE, log 3). -/
  capture : Option Capture
  /-- The CAL_TAPS run in progress, or none (R188). Reset none (DESIGN CHOICE, log 3). -/
  taps : Option TapRun
  /-- Records in force in the dies; a list (R192, R193). Reset empty, loaded at start (R193). -/
  live : List CalRecord
  /-- Stored records that wait for their boundary; a list with the header to complete and the local time of acceptance (R180, R185). Reset empty (DESIGN CHOICE, log 3). -/
  waiting : List (CalRecord × Option Hdr × Tick)
  /-- Channels whose two copies failed at start: die, kind, bit; a list (R201). Reset empty (DESIGN CHOICE, log 3). -/
  lost : List (Nat × Nat × Nat)
  deriving DecidableEq, Repr

/-- The comparator of one cell (R206, R207). -/
structure Comp where
  ovTrip : Bool
  uvTrip : Bool
  /-- Consecutive readings beyond each threshold. -/
  ovCount : Nat
  uvCount : Nat
  /-- Consecutive readings inside each threshold by at least 25 mV. -/
  ovInside : Nat
  uvInside : Nat
  /-- Consecutive sleep checks beyond each threshold (R450). -/
  ovSleep : Nat
  uvSleep : Nat
  /-- The latest diagnostic reading in µV, or none (R97). -/
  last : Option Int
  deriving DecidableEq, Repr

/-- A probe of one tap in progress (R213 to R216). -/
structure Probe where
  tap : Nat
  baseline : ProbeReading
  current : Int
  startedAt : Tick
  /-- Is it the schedule's (R217)? -/
  sched : Bool
  /-- Header of the PROBE_TAP that ordered it, with its retries, or none. -/
  hdr : Option Hdr
  retries : Nat
  deriving DecidableEq, Repr

/-- A test of the switch matrices or of the leakage on one group (R222, R224). -/
structure GroupTest where
  group : Nat
  leak : Bool
  /-- Steps of the matrix test done, 0 to 21. -/
  step : Nat
  /-- 0 pass so far, 1 stuck open, 2 stuck closed; tap and rail of the failure. -/
  result : Nat
  tap : Nat
  rail : Nat
  /-- Local time at which the running step began. -/
  at_ : Tick
  deriving DecidableEq, Repr

/-- A RUN_MATRIX_TEST or RUN_LEAKAGE_TEST in progress, with the results so far: die, group, and the result bytes (R228). -/
structure TestRun where
  hdr : Hdr
  leak : Bool
  dies : List Nat
  results : List (Nat × Nat × List Byte)
  deriving DecidableEq, Repr

/-- Sense-path settings of C (R210, R217, R220, R224, R228). -/
structure Sense where
  /-- Open-tap test host-stepped; 1 bit (R220). Reset hardware (DESIGN CHOICE, log 3). -/
  stepped : Bool
  /-- OTPERIOD in s; 16 bits (R217). Reset 60 (R217). -/
  otperiod : Nat
  /-- JUMPTHR in mV; 16 bits (R210). Reset 50 (R210). -/
  jumpThr : Nat
  /-- LEAKTHR in µA; 16 bits (R224). Reset 50 (R224). -/
  leakThr : Nat
  /-- CIN in 0.1 µF; 16 bits (R222, R228). Reset 100 (R222). -/
  cin : Nat
  /-- Test commands in progress; a list (R228). Reset empty (DESIGN CHOICE, log 3). -/
  runs : List TestRun
  deriving DecidableEq, Repr

/-- A transfer of one Dolly (R237 to R247). -/
structure DollyTransfer where
  /-- 1 CELL_TO_SPAN, 2 SPAN_TO_CELL, 3 MODULATE. -/
  mode : Nat
  /-- Die-local cell served. -/
  cell : Nat
  /-- Running current as set, and as limited, in mA. -/
  set_ : Nat
  running : Nat
  /-- Pack time of the start, and local time at which duration or lease runs out. -/
  start : Nat
  endAt : Tick
  /-- Is the end a lease (R247), or a duration (R248)? -/
  lease : Bool
  /-- Charge limit in mAs, 0 none. -/
  qlimit : Nat
  /-- Frequency in mHz, amplitude in mA and reference time of a MODULATE (R265, R284). -/
  freq : Nat
  iamp : Nat
  t0 : Nat
  /-- Header of the MODULATE_ORDER, or none. -/
  hdr : Option Hdr
  /-- Charge still to move in mAs, as the planner reports it, or none (R258). -/
  remain : Option Int
  /-- Is it the check transfer of a clear (R241)? -/
  check : Bool
  /-- IAMP of a MODULATE as asked for, in mA; its `set_` is this over the duty (R265). -/
  want : Nat := 0
  /-- Running current times time up to a local time, in mA·ticks, from which REMAIN of an order follows (R258). -/
  ran : Nat := 0
  ranAt : Tick := 0
  deriving DecidableEq, Repr

/-- An item that the planner has prepared, or that waits for its die to apply it (R26, R28, R246). -/
structure PlanItem where
  die : Nat
  dolly : Nat
  /-- 0 stop. -/
  mode : Nat
  cell : Nat
  iset : Nat
  remain : Option Int
  /-- Sequence numbers of its dependency set. -/
  deps : List Nat
  released : Bool
  deriving DecidableEq, Repr

/-- One Dolly (R232 to R242, R258). -/
structure Dolly where
  /-- The last word sent to its matrix driver and the local time of its latch; 16 bits and a tick count (R550). Reset 0x8000 and 0: every switch
  open (R550; DESIGN CHOICE, log 130). -/
  word : BitVec 16
  wordAt : Tick
  /-- Local time of the last gate that ended its switching cycle, or none (R127). Reset none (DESIGN CHOICE, log 3). -/
  gateAt : Option Tick
  /-- Straddling span; 1 bit (R235). Reset own span (R258). -/
  straddle : Bool
  /-- FSW in 10 kHz; 8 bits (R235). Reset 25 (R258). -/
  fsw : Nat
  /-- Faults that withdrew it, by kind, and whether its stuck-closed switch bars the group; a list (R223, R241). Reset empty (DESIGN CHOICE, log 3). -/
  withdrawn : List Nat
  /-- The transfer that runs, or none (R237). Reset none (DESIGN CHOICE, log 3). -/
  transfer : Option DollyTransfer
  /-- Is it stopped by temperature (R252); 1 bit. Reset no (DESIGN CHOICE, log 3). -/
  thermal : Bool
  /-- Does the planner hold it under rule 4 (R244, R258); 1 bit. Reset no (DESIGN CHOICE, log 3). -/
  waits : Bool
  /-- Group test in progress, or none (R222, R224). Reset none (DESIGN CHOICE, log 3). -/
  test : Option GroupTest
  /-- Local time of the last group tests, or none before the first (R225). Reset none (DESIGN CHOICE, log 3). -/
  testedAt : Option Tick
  /-- Are group tests due that wait for an idle moment (R225); 1 bit. Reset yes, at entry into RUN (R225). -/
  testDue : Bool
  /-- Has a transfer ended since the last group tests; 1 bit (R225). Reset no (DESIGN CHOICE, log 3). -/
  used : Bool
  /-- Its measured efficiency in ppm at each running current in mA it has had (R233, R244); a list. Reset empty (R233). -/
  effs : List (Nat × Nat)
  /-- QMOVED, absolute cell-side charge moved since reset in mAs; 32 bits (R258). Reset 0 (R258). -/
  moved : Nat
  deriving DecidableEq, Repr

/-- Sleep balancing of one die (R254, R255). -/
structure SleepBal where
  /-- Is the die awake for sleep balancing; 1 bit (R254). Reset no (DESIGN CHOICE, log 3). -/
  awake : Bool
  /-- Local time of this wake and of the last sleep Take; two tick counts (R254). Reset 0 (DESIGN CHOICE, log 3). -/
  wokeAt : Tick
  takeAt : Tick
  /-- Local time of the next wake, or none while disabled (R254). Reset none (DESIGN CHOICE, log 3). -/
  nextWake : Option Tick
  /-- The settings the die took at entry into SLEEP: PERIOD s, TARGET and BAND in µV, ISLEEP mA, MAXAWAKE s (R256). Reset none (DESIGN CHOICE, log 3). -/
  cfg : Option (Nat × Nat × Nat × Nat × Nat)
  /-- SLEEPWAKES and SLEEPSECONDS; 32 bits each (R258). Reset 0 (R258). -/
  wakes : Nat
  seconds : Nat
  deriving DecidableEq, Repr

/-- Balancing in C: goal, limits, planner (R240 to R258). -/
structure Balance where
  /-- GOAL; 0 to 3 (R243). Reset OFF (R258). -/
  goal : Nat
  /-- IMAX in mA; 16 bits (R243). Reset 3000 (DESIGN CHOICE, log 23). -/
  imax : Nat
  /-- TARGET in µV; 32 bits (R243, R258). Reset 3900000 (R258). -/
  target : Nat
  /-- BAND in µV; 32 bits (R243, R258). Reset 10000 (R258). -/
  band : Nat
  /-- HORIZON in s, 0 none; 32 bits (R243). Reset 0 (DESIGN CHOICE, log 3). -/
  horizon : Nat
  /-- Local time of the goal's start, and has PLANNER_SHORTFALL been recorded for it (R244, R245). Reset 0 and no (DESIGN CHOICE, log 3). -/
  goalAt : Tick
  shortDone : Bool
  /-- SHORTFALL of each die code 2 to 7 in mAs; six counts (R245, R258). Reset 0 (R258). -/
  shortfall : List Nat
  /-- DQDV of part cells 1 to 144 in 0.1 mAh/mV; 144 of 16 bits (R243). Reset 0 (R258). -/
  dqdv : List Nat
  /-- Remaining charge of part cells 1 to 144 in mAs; 144 signed (R243). Reset 0 (DESIGN CHOICE, log 3). -/
  charge : List Int
  /-- Balancing in host-assisted mode; 1 bit (R248). Reset hardware (R258). -/
  hostMode : Bool
  /-- CELLHI, CELLLO in µV and the lease in ms; 32, 32 and 16 bits (R240, R247). Reset 4250000, 2800000, 200 (R240, R247). -/
  cellHi : Nat
  cellLo : Nat
  lease : Nat
  /-- Host caps in place of derating; 1 bit (R253). Reset automatic (R258). -/
  hostCaps : Bool
  /-- SET_DERATING entries in force; a list (R250). Reset empty: no thermistor (R258). -/
  derate : List DerateEntry
  /-- Sleep balancing: enable, PERIOD s, TARGET, BAND µV, ISLEEP mA, MAXAWAKE s (R256). Reset disabled, 60, 3900000, 10000, 500, 600 (R254, R258). -/
  sleepOn : Bool
  sleepPeriod : Nat
  sleepTarget : Nat
  sleepBand : Nat
  isleep : Nat
  maxAwake : Nat
  /-- Items prepared or released and not yet applied; a list (R26, R28). Reset empty (R29). -/
  items : List PlanItem
  /-- May the planner start new actions: it has run since the last warm restart; 1 bit (R29). Reset yes (DESIGN CHOICE, log 3). -/
  planned : Bool
  /-- RECDROP, saturating; 16 bits (R257, R258). Reset 0 (R258). -/
  recDrop : Nat
  deriving DecidableEq, Repr

/-- The factory trim of a segment die, in its one-time-programmable memory (R176, R177, R194; its form is log entry 131). -/
structure Trim where
  /-- Offset in nV and gain in 10^-9 of cell channels 1 to 24. -/
  offsets : List Int
  gains : List Int
  /-- Linearity of the converter: a correction in nV for each sixteenth of its codes. -/
  linearity : List Int
  /-- Temperature coefficients of the internal and the diagnostic reference in 10^-9 per kelvin, from 25 °C. -/
  tempMain : Int
  tempDiag : Int
  /-- Those of the 32.768 kHz and the 40 MHz oscillator. -/
  tempRc32 : Int
  tempRc40 : Int
  deriving DecidableEq, Repr

/-- A segment die (R91 to R132, R204 to R226, R232 to R256, R293). -/
structure SegDie where
  /-- Die code, 2 to 7 (R6). Reset its position (R1). -/
  code : Nat
  /-- The factory trim (R176). Reset no correction (DESIGN CHOICE, log 131). -/
  trim : Trim
  /-- Did the trim's last check at a part reset fail; 1 bit (R178). Reset no (DESIGN CHOICE, log 3). -/
  trimBad : Bool
  /-- The die's copy of pack time, and its value one tick before; 64 bits each (R16). Reset 0 (DESIGN CHOICE, log 3). -/
  packTime : Nat
  packPrev : Nat
  /-- Mapped cells, 0 or 8 to 24 (R7). Reset from the configuration bundle (R484). -/
  cells : Nat
  /-- Is the die without its segment supply (R535); 1 bit. Reset supplied (DESIGN CHOICE, log 3). -/
  unpowered : Bool
  /-- Is the die out of service by SET_SERVICE (R317); 1 bit. Reset in service (DESIGN CHOICE, log 3). -/
  out : Bool
  /-- Slates still to carry the die flag REJOIN; 0 to 2 (R318). Reset 0 (DESIGN CHOICE, log 3). -/
  rejoin : Nat
  /-- The die's temperature (R460). -/
  therm : Therm
  /-- Local time of the latest housekeeping reading, or none (R154 TEMP_STALE); an optional tick count. Reset none (DESIGN CHOICE, log 3). -/
  tempAt : Option Tick
  /-- Is an orderly thermal stop in progress, and is the die stopped (R465); 2 bits. Reset no (DESIGN CHOICE, log 3). -/
  stopping : Bool
  stopped : Bool
  /-- Is DIAG off after a thermal cutoff (R466); 1 bit. Reset no (DESIGN CHOICE, log 3). -/
  cutOff : Bool
  /-- The sequence table in force; 1 to 16 entries (R105). Reset one entry with every mapped cell (R445). -/
  seq : List SeqEntry
  /-- COMPENSATED mode; 1 bit (R125). Reset QUIET (R125). -/
  compensated : Bool
  /-- REFOK of the internal, external and supply reference; 3 bits (R118). Reset 0 (DESIGN CHOICE, log 3). -/
  refOk : List Bool
  /-- Latest voltage of each reference in µV; three integers (R117, R118). Reset 3.000 V each (DESIGN CHOICE, log 132). -/
  refUv : List Int
  /-- Local time since which each reference lies in its window, or none (R118); three. Reset none (DESIGN CHOICE, log 3). -/
  refSince : List (Option Tick)
  /-- Local time from which each start bound counts (R118); three tick counts. Reset 0 (DESIGN CHOICE, log 3). -/
  refAt : List Tick
  /-- External entries fallen back to the internal reference; 1 bit (R120). Reset no (DESIGN CHOICE, log 3). -/
  fallback : Bool
  /-- Supply entries read no data until the substitute ends; 1 bit (R120). Reset no (DESIGN CHOICE, log 3). -/
  noSupply : Bool
  /-- Kinds of uncleared faults that keep the substitution of R131 running; a list (R120, R132, R178, R219, R221). Reset empty (DESIGN CHOICE, log 3). -/
  subKinds : List Nat
  /-- Group of the diagnostic rotation that the next sweep reads; a count (R97). Reset 0 (DESIGN CHOICE, log 3). -/
  diagIdx : Nat
  /-- Group of the guard rotation (R204); a count. Reset 0 (DESIGN CHOICE, log 3). -/
  guardIdx : Nat
  /-- Pack time of the latest diagnostic conversion outside a sweep; 64 bits (R204). Reset 0 (DESIGN CHOICE, log 3). -/
  diagAt : Nat
  /-- Samples of the last 1 ms outside the sweep slots that gate Dollies: local time, die-local cell, kind 0 guard, 1 urgent, 2 probe (R124, R125,
  R205, R213, R238); a list, oldest first. Reset empty (DESIGN CHOICE, log 3). -/
  gates : List (Tick × Nat × Nat)
  /-- Sweeps started on this die; its low 5 bits are RAWRES.SWEEP (R57, R131). Reset 0 (DESIGN CHOICE, log 3). -/
  sweepNo : Nat
  /-- Sweep number at which the table in force took effect, for the phases of slow inputs (R104). Reset 0 (DESIGN CHOICE, log 3). -/
  tableAt : Nat
  /-- Sweep number at which the die's filters last restarted (R141). Reset 0 (DESIGN CHOICE, log 3). -/
  restartAt : Nat
  /-- Pack time of the latest sample with OVR, for recovery (R122); optional. Reset none (DESIGN CHOICE, log 3). -/
  ovrAt : Option Nat
  /-- Does the next slot carry NBR (R122); 1 bit. Reset no (DESIGN CHOICE, log 3). -/
  nbrNext : Bool
  /-- Noise-shaping residue of the 32 inputs in nV; 32 integers (R96). Reset 0 (DESIGN CHOICE, log 3). -/
  residue : List Int
  /-- Samples in the filters of the 32 inputs, newest first; 32 lists (R138, R142). Reset empty (R141). -/
  hist : List (List Sample)
  /-- Inputs whose last main conversion was over range, for OVER_RANGE; a list (R136). Reset empty (DESIGN CHOICE, log 3). -/
  ovrNow : List Nat
  /-- The analogue self-test (R130). -/
  test : SelfTest
  /-- The 24 comparators (R206). -/
  comps : List Comp
  /-- Value of the last reading of each cell in a sweep or a window by either converter, before any correction, for R131 and R162; 24 integers
  in nV. Reset 0 (DESIGN CHOICE, log 3). -/
  lastRead : List Int
  /-- Sums of the reference cross-check: Σd, Σm in µV, pairs, sweeps, and e of the last block in 10 ppm (R221, R228). Reset 0 (DESIGN CHOICE, log 3). -/
  xcD : Int
  xcM : Int
  xcPairs : Nat
  xcSweeps : Nat
  /-- Did a sweep of the running block run substituted; 1 bit (R221). Reset no (DESIGN CHOICE, log 3). -/
  xcSub : Bool
  refErr : Int
  /-- Does an excess of the cross-check wait for its self-test; 1 bit (R221). Reset no (DESIGN CHOICE, log 3). -/
  xcWait : Bool
  /-- Are the die's comparators unproven after REF_XCHECK_DIAG or REF_XCHECK_UNRESOLVED; 1 bit (R221). Reset no (DESIGN CHOICE, log 3). -/
  unproven : Bool
  /-- Is the diagnostic reference settled, as the last housekeeping round found it; 1 bit (R208). Reset settled (DESIGN CHOICE, log 3). -/
  diagRefOk : Bool
  /-- Local time of the last guard pass of MONITOR or sleep check (R209, R449, R450); a tick count. Reset 0 (DESIGN CHOICE, log 3). -/
  checkAt : Tick
  /-- Local time of the last scheduled probe's start, and of the start of the last cycle of them; two optional tick counts (R217). Reset none
  (DESIGN CHOICE, log 3). -/
  probeAt : Option Tick
  cycleAt : Option Tick
  /-- The probe in progress, or none (R213). Reset none (DESIGN CHOICE, log 3). -/
  probe : Option Probe
  /-- A PROBE_TAP that waits for its probe: header, tap, retries; optional (R220). Reset none (DESIGN CHOICE, log 3). -/
  probeWait : Option (Hdr × Nat × Nat)
  /-- Tap the next scheduled probe takes (R217); 5 bits. Reset 0 (R217). -/
  nextTap : Nat
  /-- Suspect taps, oldest first; a list (R210). Reset empty (DESIGN CHOICE, log 3). -/
  suspects : List Nat
  /-- Suspect cells that wait for R219, with continuity failures left to see; a list (R210, R219). Reset empty (DESIGN CHOICE, log 3). -/
  suspectCells : List (Nat × Nat)
  /-- Taps with an open-tap fault (OPENTAPS); 25 bits as a list (R228). Reset empty (DESIGN CHOICE, log 3). -/
  openTaps : List Nat
  /-- Taps last found CONNECTED since they became suspect; a list (R219). Reset empty (DESIGN CHOICE, log 3). -/
  connected : List Nat
  /-- Consecutive INCONCLUSIVE verdicts of taps 0 to 24; 25 counts (R218). Reset 0 (DESIGN CHOICE, log 3). -/
  inconclusive : List Nat
  /-- Thermistor inputs (MASK), OPENLIM, SHORTLIM; 8, 16 and 16 bits (R226). Reset 0, 9850, 150 (R228). -/
  thermMask : Nat
  openLim : Nat
  shortLim : Nat
  /-- For A1 to A8: consecutive committed Slates above OPENLIM, below SHORTLIM, and inside each; 8 times 4 counts (R226). Reset 0 (DESIGN CHOICE, log 3). -/
  thermCnt : List (Nat × Nat × Nat × Nat)
  /-- Thermistors open, and shorted, now; two lists of inputs (R226). Reset empty (DESIGN CHOICE, log 3). -/
  thermOpen : List Nat
  thermShort : List Nat
  /-- The four Dollies (R9, R232). -/
  dollies : List Dolly
  /-- Local time since which the die has read 5 K below Tstop, after a Dolly thermal stop; optional (R252). Reset none (DESIGN CHOICE, log 3). -/
  calmAt : Option Tick
  /-- Derating limit of the die in mA as last computed; 16 bits (R250). Reset 3000 (DESIGN CHOICE, log 23). -/
  limit : Nat
  /-- Has DOLLY_DERATING been recorded while the limit is below IMAX; 1 bit (R252). Reset no (DESIGN CHOICE, log 3). -/
  derated : Bool
  /-- LOSS, conversion loss since reset in mJ; a count (R258). Reset 0 (R258). -/
  lossMj : Nat
  /-- Sleep balancing (R254). -/
  sleep : SleepBal
  /-- Local time of C's last good status word from the die (R42); a tick count. Reset 0 (DESIGN CHOICE, log 3). -/
  statusAt : Tick
  /-- Local time at which the die last sent one (R293); a tick count. Reset 0 (DESIGN CHOICE, log 3). -/
  sentAt : Tick
  /-- Is its ring input lost, as the die sees it (R293); 1 bit. Reset no (DESIGN CHOICE, log 3). -/
  ringLost : Bool
  /-- Local time since which C has heard it report its ring input lost; optional (R42). Reset none (DESIGN CHOICE, log 3). -/
  lostSince : Option Tick
  /-- Is supervision suspended for the die's LBIST (R513); 1 bit. Reset no (DESIGN CHOICE, log 3). -/
  lbist : Bool
  /-- Pack time of a held Clapper event the die has (R109, R290); optional. Reset none (DESIGN CHOICE, log 3). -/
  held : Option Nat
  /-- Ring messages to the die that failed, in a row (R292); a count. Reset 0 (DESIGN CHOICE, log 3). -/
  msgFails : Nat
  /-- AON_S: up to 8 records of SLEEP as kind and detail, oldest first (R255, R450); a list. Reset empty (DESIGN CHOICE, log 3). -/
  aonRecs : List (Nat × Nat)
  /-- AON_S: LBIST result word; 32 bits (R514). Reset 0 (R514). -/
  lbWord : BitVec 32
  deriving DecidableEq, Repr

/-- A session definition (R274, R285). -/
structure ImpDef where
  number : Nat
  source : Nat
  settle : Nat
  nblocks : Nat
  auxDie : Nat
  auxIn : Nat
  iamp : Nat
  imin : Nat
  cells : Nat
  freqs : List Nat
  rounds : Nat
  /-- Nominal duration in ms (R275). -/
  nominal : Nat
  deriving DecidableEq, Repr

/-- The lock-in sums X and Y of one quantity over one block (R268). -/
structure LockSum where
  x : Int
  y : Int
  deriving DecidableEq, Repr

/-- What the lock-in gives for one cell over one good block (R267, R268): the part cell, the sums of its voltage in nV and of the current that excites
it in µA with the corrections of R267, and that current's amplitude in mA. -/
structure LockinCell where
  cell : Nat
  v : LockSum
  c : LockSum
  ampl : Nat
  deriving DecidableEq, Repr

/-- The sums of one quantity over one block as they grow (R267, R268): a cell voltage in nV by die and part cell, the auxiliary current as cell 0 of its
die, the current stream as die 0, in µA. With q the quantity, t the time in the block, and the cosine and sine of the reference: the sums of t, t², q,
t·q, cos, sin, t·cos, t·sin, q·cos, q·sin, from which mean and linear trend come off. -/
structure LockAcc where
  block : Nat
  die : Nat
  cell : Nat
  /-- Samples, and the pack times of the first and the last. -/
  n : Nat
  first : Nat
  last : Nat
  st : Int
  stt : Int
  sq : Int
  stq : Int
  sc : Int
  ss : Int
  stc : Int
  sts : Int
  sqc : Int
  sqs : Int
  /-- Was the current away within the block (R269)? -/
  broken : Bool
  deriving DecidableEq, Repr

/-- What a point has gathered on one die (R269, R270). -/
structure PointDie where
  die : Nat
  good : Nat
  discarded : Nat
  /-- Sums of the good blocks, newest first. -/
  blocks : List (List LockinCell)
  /-- Smallest current amplitude in mA, and the pack times of the first and last sample. -/
  amp : Nat
  start : Nat
  last : Nat
  /-- Is its record of the point stored (R276)? -/
  stored : Bool
  deriving DecidableEq, Repr

/-- The running session (R274, R276, R282). -/
structure ImpRun where
  hdr : Hdr
  /-- The point in progress. -/
  point : Nat
  startedAt : Tick
  /-- Pack time at which the point started (t0). -/
  t0 : Nat
  tried : Nat
  dies : List PointDie
  /-- The sums of the blocks of the point that are not judged yet (R268). -/
  acc : List LockAcc
  deriving DecidableEq, Repr

/-- READ_POINTS in progress (R285). -/
structure PointRead where
  hdr : Hdr
  left : List (List Byte)
  count : Nat
  deriving DecidableEq, Repr

/-- A MODULATE_ORDER in progress (R284). -/
structure ModOrder where
  /-- The operation (R284). -/
  hdr : Hdr
  /-- Die code; 3 bits (R284). -/
  die : Nat
  /-- Dolly; 3 bits (R284). -/
  dolly : Nat
  /-- Frequency in mHz; 32 bits (R284). -/
  freq : Nat
  /-- Pack time of its start; 64 bits (R284). -/
  start : Nat
  /-- Pack time at which its transfer ended before the duration, if it did (R283). -/
  ended : Option Nat
  deriving DecidableEq, Repr

/-- The impedance engine (R262 to R286). -/
structure Imp where
  /-- Session number given last; 16 bits (R274). Reset 0 (R274). -/
  lastNumber : Nat
  /-- The current definition, or none (R274). Reset none (R282). -/
  def_ : Option ImpDef
  /-- The running session, or none (R282). Reset none (DESIGN CHOICE, log 3). -/
  run : Option ImpRun
  /-- NEXT, the first point not stored; 16 bits (R282). Reset 0 (DESIGN CHOICE, log 3). -/
  next : Nat
  /-- Stored point records of SRAM_B: point number and payload; a list (R277). Reset empty (R277). -/
  points : List (Nat × List Byte)
  /-- READ_POINTS in progress; a list (R285). Reset empty (DESIGN CHOICE, log 3). -/
  reads : List PointRead
  /-- FT in mHz; 32 bits (R280). Reset 0 (DESIGN CHOICE, log 3). -/
  ft : Nat
  /-- A0, A1, A2 of part cells 1 to 144; 144 times three binary32 words (R280). Reset 0 (R280). -/
  coeffs : List TempCoeff
  /-- Impedance in host-assisted mode; 1 bit (R284). Reset hardware (DESIGN CHOICE, log 3). -/
  hostMode : Bool
  /-- Stretches of pack time, while a session runs, whose sweeps cannot serve a block: from, to, and the dies as a mask (R269). Reset empty
  (R269). -/
  bad : List (Nat × Nat × Nat)
  /-- MODULATE_ORDERs in progress; a list (R284). Reset empty (DESIGN CHOICE, log 3). -/
  orders : List ModOrder
  deriving DecidableEq, Repr

/-- One package of the chain map, as the primary head keeps it (R307, R329). -/
structure MapEntry where
  addr : Nat
  uid : Nat
  /-- 0 absent, 1 running, 2 out of service, 3 joining, 4 unaddressed. -/
  state : Nat
  dieOut : Nat
  /-- Local time of its last frame (R315). -/
  heard : Tick
  lost : Bool
  locked : Bool
  /-- Class B queue in bytes, and port states with bit 0 for A and bit 1 for B, from its heartbeat (R297, R324). -/
  queue : Nat
  ports : Nat
  /-- Does it sweep, as its heartbeat says (R329)? -/
  sweeping : Bool
  /-- Is its class B traffic on DeariLink (R327)? -/
  placeB : Bool
  /-- Has it shown itself as a head: has it forwarded a command (R74, R83)? -/
  head : Bool
  deriving DecidableEq, Repr

/-- What a head keeps of each sender's Slates and notices (R79, R303). -/
structure NoticeTrack where
  addr : Nat
  /-- The notice frame SEQ expected next, none before the first. -/
  next : Option Nat
  /-- Notices received beyond a gap: frame SEQ and low 16 bits of the notice's SEQ. -/
  ahead : List (Nat × Nat)
  /-- Low 16 bits of the highest notice SEQ received without a gap. -/
  ack : Nat
  /-- Notices that wait for their Slate or a gap record: SEQ, payload, local time. -/
  waiting : List (Nat × List Byte × Tick)
  /-- Sequence numbers of Slates that a gap record has named, latest first, up to 64; a list (R39, R303). -/
  gone : List Nat
  /-- Sequence numbers of Slates received and not yet decided, each with: was it written into the window? -/
  open_ : List (Nat × Bool)
  deriving DecidableEq, Repr

/-- DeariLink, enumeration, roles and pack time (R294 to R318, R325 to R329). -/
structure Chain where
  /-- Has this package taken a head role (R308); 1 bit. Reset no (R53). -/
  isHead : Bool
  /-- Is it the secondary head; 1 bit (R308). Reset no (R53). -/
  secondary : Bool
  /-- Is it a head at another address (R308); 1 bit. Reset no (DESIGN CHOICE, log 3). -/
  badHead : Bool
  /-- Is pack time locked (R309, R310); 1 bit. Reset no (DESIGN CHOICE, log 3). -/
  locked : Bool
  /-- Chain identity and address in use, 0 none; 32 and 8 bits (R306). Reset as stored (R306). -/
  chainId : Nat
  addr : Nat
  /-- Enumerated packages; 8 bits (R329). Reset 0 (DESIGN CHOICE, log 3). -/
  count : Nat
  /-- The chain map, by address; a list (R307). Reset empty (DESIGN CHOICE, log 3). -/
  map : List MapEntry
  /-- An ENUMERATE that waits for its frame: header, EXPECT, local time; optional (R306). Reset none (DESIGN CHOICE, log 3). -/
  enumerating : Option (Hdr × Nat × Tick)
  /-- Ports A and B up; 2 bits (R313). Reset down (DESIGN CHOICE, log 3). -/
  upA : Bool
  upB : Bool
  /-- Address whose port A faces the break, 0 none, and pack time of the last LINK_DOWN; 8 and 64 bits (R329). Reset 0 (DESIGN CHOICE, log 3). -/
  breakAt : Nat
  lastBreak : Nat
  /-- Packages not reachable; a count (R314). Reset 0 (DESIGN CHOICE, log 3). -/
  unreachable : Nat
  /-- Is the package the time master; 1 bit (R311). Reset no (DESIGN CHOICE, log 3). -/
  master : Bool
  /-- Address of the time master, from the superframe frame; 8 bits (R304). Reset 0 (DESIGN CHOICE, log 3). -/
  masterAddr : Nat
  /-- Addresses of the other packages known to be heads; a list (R83, R308). Reset empty (DESIGN CHOICE, log 3). -/
  heads : List Nat
  /-- Address taken from an enumeration frame that is not complete yet; optional 8 bits (R306). Reset none (DESIGN CHOICE, log 3). -/
  addrNext : Option Nat
  /-- Ports known to be down: address and port, latest first; a list (R313, R329). Reset empty (DESIGN CHOICE, log 3). -/
  breaks : List (Nat × Nat)
  /-- Is the time port B; 1 bit (R310). Reset B (DESIGN CHOICE, log 3). -/
  portB : Bool
  /-- Consecutive SYNC sets, local time of the last one, and of the last on the time port (R310). Reset 0 (DESIGN CHOICE, log 3). -/
  syncs : Nat
  syncAt : Tick
  portSyncAt : Tick
  /-- Local times of the last delay measurement, of the last hourly save of pack time, and of the last failure of port A and B (R310, R312, R313).
  Reset 0 (DESIGN CHOICE, log 3). -/
  measuredAt : Tick
  savedAt : Tick
  downAtA : Tick
  downAtB : Tick
  /-- Does a secondary head take the master role at the next superframe; 1 bit (R311). Reset no (DESIGN CHOICE, log 3). -/
  takeover : Bool
  /-- Local time of the last SYNC from the primary head (R311). Reset 0 (DESIGN CHOICE, log 3). -/
  primaryAt : Tick
  /-- Hops of the latest SYNC copies on port A and port B (R310). Reset 0 (DESIGN CHOICE, log 3). -/
  hopsA : Nat
  hopsB : Nat
  /-- Correction of the last SYNC in 0.1 ns; 16 bits signed (R329). Reset 0 (DESIGN CHOICE, log 3). -/
  offset : Int
  /-- Slew still to make in ticks, towards the master's count (R312). Reset 0 (DESIGN CHOICE, log 3). -/
  slew : Int
  /-- Measured hop delays of port A and B in 0.1 ns, and the ports measured since they went down as a mask (R310, R313). Reset 0 (DESIGN CHOICE, log 3). -/
  delayA : Nat
  delayB : Nat
  delayDone : Nat
  /-- SET_TIMEBASE: REF CLKIN, and FREQ in kHz; 8 and 16 bits (R309). Reset crystal and 25000 (DESIGN CHOICE, log 24). -/
  refClkin : Bool
  freq : Nat
  /-- A SET_TIMEBASE that waits for lock; optional header (R309). Reset none (DESIGN CHOICE, log 3). -/
  timebaseOp : Option Hdr
  /-- Has the reference failed (R309); 1 bit. Reset no (DESIGN CHOICE, log 3). -/
  refLost : Bool
  /-- Number of the last superframe started; 32 bits (R304). Reset 0 (DESIGN CHOICE, log 3). -/
  sfnum : Nat
  /-- PIN of class B: 0 automatic, 1 DeariLink, 2 radio; and is class B on DeariLink now (R327, R328). Reset 0 and radio (DESIGN CHOICE, log 3). -/
  pin : Nat
  placeB : Bool
  /-- Placement decided for the next superframe: on DeariLink, and the local time of the decision; optional (R327, R328). Reset none (DESIGN CHOICE, log 3). -/
  placeNext : Option (Bool × Tick)
  /-- Spare capacity readings of the last 100 superframes in kb/s, newest first (R327). Reset empty (DESIGN CHOICE, log 3). -/
  spare : List Nat
  /-- Is the whole package out of service (R316); 1 bit. Reset in service (DESIGN CHOICE, log 3). -/
  out : Bool
  /-- SET_SERVICE orders that wait for their superframe: header, OP, DIEMASK, local time of acceptance (R316 to R318). Reset empty (DESIGN CHOICE, log 3). -/
  services : List (Hdr × Nat × Nat × Tick)
  /-- Does the package wait for admission, and has the primary head named it (R318); 2 bits. Reset no (DESIGN CHOICE, log 3). -/
  joining : Bool
  admitted : Bool
  /-- Packages the primary head admits at the next superframe; a list of addresses (R318). Reset empty (DESIGN CHOICE, log 3). -/
  toAdmit : List Nat
  /-- Frames with bad CRC since reset, and those of the last second by port and local time; 32 bits and a list (R313, R329). Reset 0 (DESIGN CHOICE, log 3). -/
  crcErr : Nat
  crcTimes : List (Nat × Tick)
  /-- Frames and express sets accepted of late, for the discard of second copies: source, type, sequence; a list (R300). Reset empty (DESIGN CHOICE, log 3). -/
  seen : List (Nat × Nat × Nat)
  /-- Next SEQ of each frame type 1 to 14 (R296); 14 of 16 bits. Reset 0 (DESIGN CHOICE, log 3). -/
  seqs : List Nat
  /-- Own notices not yet acknowledged; frame SEQ and payload (R303). Reset empty (DESIGN CHOICE, log 3). -/
  notices : List (Nat × List Byte)
  /-- What a head keeps of each member's Slates and notices (R303). Reset empty (DESIGN CHOICE, log 3). -/
  tracks : List NoticeTrack
  /-- Alarms written: source, message, pack time low half (R325). Reset empty (DESIGN CHOICE, log 3). -/
  alarms : List (Nat × Nat × Nat)
  /-- Chain address of the current source, 0 none; 8 bits (R360). Reset as stored (R360). -/
  source : Nat
  /-- Has SET_CURRENT_SOURCE ever been given (R360)? 1 bit. Reset as stored (R360). -/
  sourceSet : Bool
  /-- A change of the source that waits for its superframe, with the local time of its acceptance (R360); optional. Reset none (DESIGN CHOICE, log 3). -/
  sourceNext : Option (Nat × Tick)
  /-- Local time of the last CURRENT set (R302, R38); optional. Reset none (DESIGN CHOICE, log 3). -/
  currentAt : Option Tick
  /-- The slot map for the next radio superframe: sender and receiver of slots 5 to 39 (R304). Reset empty (DESIGN CHOICE, log 3). -/
  slotMap : List (Nat × Nat)
  deriving DecidableEq, Repr

/-- A class B transfer that is coming in: its sender, stream, transfer id and the bytes so far (R297). -/
structure BulkRx where
  src : Nat
  stream : Nat
  tid : Nat
  data : List Byte
  deriving DecidableEq, Repr

/-- One partner on the radio (R323, R324, R329). -/
structure RadioPeer where
  addr : Nat
  /-- Last counter accepted. -/
  counter : Option Nat
  rssi : Int
  sent : Nat
  /-- Frames of the last radio superframes, newest first: number of the radio superframe, and was it acknowledged? -/
  acks : List (Nat × Bool)
  deriving DecidableEq, Repr

/-- A class B frame that waits for the radio or for DeariLink: stream, transfer id, offset, data (R297, R324). -/
structure BulkItem where
  stream : Nat
  tid : Nat
  offset : Nat
  data : List Byte
  dest : Nat
  deriving DecidableEq, Repr

/-- The pack radio (R319 to R324). -/
structure Radio where
  /-- ENABLE, TXPWR in dBm and CHMASK; 8, 8 and 16 bits (R329). Reset 0, 0, 0xFFFF (DESIGN CHOICE, log 25). -/
  enable : Bool
  txpwr : Int
  chmask : Nat
  /-- The chain key in use, empty before one arrives; its generation; 16 bytes and 32 bits (R323). Reset as stored (DESIGN CHOICE, log 3). -/
  key : List Byte
  keyGen : Nat
  /-- Own frame counter; 32 bits (R323). Reset 0 (R323). -/
  counter : Nat
  /-- Partners; a list (R323). Reset empty (DESIGN CHOICE, log 3). -/
  peers : List RadioPeer
  /-- Slot number within the radio superframe; 0 to 39 (R320). Reset 0 (DESIGN CHOICE, log 3). -/
  slot : Nat
  /-- The slot map of the running radio superframe: sender and receiver of slots 5 to 39 (R304, R320). Reset empty (DESIGN CHOICE, log 3). -/
  map : List (Nat × Nat)
  /-- Alarm frames that wait, with the alarm slot drawn for each (R320). Reset empty (DESIGN CHOICE, log 3). -/
  alarms : List (Nat × List Byte)
  /-- Class B frames that wait (R324). Reset empty (DESIGN CHOICE, log 3). -/
  queue : List BulkItem
  /-- The frame sent that waits for its acknowledgement (R324); optional. Reset none (DESIGN CHOICE, log 3). -/
  inFlight : Option BulkItem
  /-- Class B transfers coming in; a list (R297). Reset empty (DESIGN CHOICE, log 3). -/
  rx : List BulkRx
  deriving DecidableEq, Repr

/-- The in-package ring in C (R289 to R293). -/
structure Ring where
  /-- Results of the raw stream on their way to the holding register, oldest first (R57, R105, R172); a list of 32-bit words. Reset empty (DESIGN
  CHOICE, log 3). -/
  raw : List (BitVec 32)
  /-- Urgent requests on their way: die and input, oldest first (R123); a list. Reset empty (DESIGN CHOICE, log 3). -/
  urgent : List (Nat × Nat)
  /-- Urgent requests that their die has accepted, oldest first: die and input (R123, R124); a list. Reset empty (DESIGN CHOICE, log 3). -/
  accepted : List (Nat × Nat)
  /-- Local times of message failures in the last second (R292); a list. Reset empty (DESIGN CHOICE, log 3). -/
  errors : List Tick
  /-- The latest current samples at the dies, newest first (R145, R290); a list. Reset empty (DESIGN CHOICE, log 3). -/
  current : List CurSample
  /-- Is the ring lost (R42); 1 bit. Reset no (DESIGN CHOICE, log 3). -/
  lost : Bool
  deriving DecidableEq, Repr

/-- One entry of M's event log (R350). -/
structure MEvent where
  num : Nat
  opsec : Nat
  code : Nat
  mstat : Nat
  data : List Byte
  deriving DecidableEq, Repr

/-- What M stores in a journal slot (R345). -/
structure MSlot where
  gen : Nat
  eimp : Nat
  eexp : Nat
  qimp : Nat
  qexp : Nat
  /-- Remainders below 1 mWh and 1 mAs, and the pulse remainder, in the units of Metro. -/
  rem : List Nat
  stmtCtr : Nat
  deriving DecidableEq, Repr

/-- The state of M (R342). -/
inductive MState where
  | starting | metering | idle | dormant | halted
  deriving DecidableEq, Repr

/-- The metrology die (R333 to R355). Nothing in C resets it (R86, R88, R334). -/
structure Metro where
  /-- Operating state; one of five (R342). Reset STARTING (R341). -/
  state : MState
  /-- HALTCAUSE; 8 bits (R341). Reset 0 (R341). -/
  haltCause : Nat
  /-- SEALED; 1 bit (R346). Reset UNSEALED (R346). -/
  sealed_ : Bool
  /-- SEAL_BROKEN; 1 bit (R346). Reset 0 (R341). -/
  sealBroken : Bool
  /-- OVERLOAD_I, OVERLOAD_U, with their starts in ms of OPSEC time; 2 bits (R337). Reset 0 (R341). -/
  overI : Bool
  overU : Bool
  overISamples : Nat
  overUSamples : Nat
  /-- TEMP_RANGE; 1 bit (R341). Reset 0 (R341). -/
  tempRange : Bool
  /-- STORE_LOSS; 1 bit (R341). Reset 0 (R341). -/
  storeLoss : Bool
  /-- EIMP, EEXP in mWh, QIMP, QEXP in mAs; 64 bits each (R340). Reset 0 (DESIGN CHOICE, log 3). -/
  eimp : Nat
  eexp : Nat
  qimp : Nat
  qexp : Nat
  /-- Remainders below 1 mWh and 1 mAs, in nW·(125 µs) and in µA·(125 µs) (R338). Reset 0 (DESIGN CHOICE, log 3). -/
  remEimp : Nat
  remEexp : Nat
  remQimp : Nat
  remQexp : Nat
  /-- STMTCTR; 64 bits (R340). Reset 0 (DESIGN CHOICE, log 3). -/
  stmtCtr : Nat
  /-- OPSEC in s and the samples of the running second; 32 bits (R340). Reset 0 (DESIGN CHOICE, log 3). -/
  opsec : Nat
  opsamples : Nat
  /-- UAVG mV, IAVG mA, PAVG W; 32 bits signed each, and their running sums (R340). Reset 0 (DESIGN CHOICE, log 3). -/
  uavg : Int
  iavg : Int
  pavg : Int
  sumU : Int
  sumI : Int
  sumP : Int
  sumN : Nat
  /-- CALGEN; 16 bits (R340). Reset 0 (R346). -/
  calGen : Nat
  /-- Shunt in nΩ and divider ratio times 1000 as calibrated, with offsets in nV (R346, R347). Reset 50000, 1250000, 0, 0 (R346). -/
  shunt : Int
  ratio : Int
  offI : Int
  offU : Int
  /-- BREAKREC; 64 bits (R340). Reset 0 (R340). -/
  breakRec : Nat
  /-- LABEL, AVGWIN, MPDIR; 16 bytes, 8 and 8 bits (R340). Reset 0, 1, 0 (R340; LABEL DESIGN CHOICE, log 3). -/
  label : List Byte
  avgWin : Nat
  mpDir : Nat
  /-- SWID; 32 bits (R349). Reset 0 (DESIGN CHOICE, log 3). -/
  swid : Nat
  /-- MUID, PUBKEY and CERT of OTP; 64 bits, 64 and 64 bytes (R340). Reset 0 (DESIGN CHOICE, log 26). -/
  muid : Nat
  pubkey : List Byte
  cert : List Byte
  /-- The calibration authority's key, empty while none is stored; 64 bytes (R347). Reset empty (R346). -/
  authority : List Byte
  /-- The event log, oldest first, up to 1024; EVCOUNT is the next number (R350). Reset empty and 0 (DESIGN CHOICE, log 3). -/
  events : List MEvent
  evCount : Nat
  /-- Journal slots of NVM, newest first, up to 4096; a list (R345). Reset one slot of zeros (DESIGN CHOICE, log 3). -/
  journal : List MSlot
  journalGen : Nat
  /-- Samples with |i| below Ist in a row, for IDLE; samples since the last request, for DORMANT (R342). Reset 0 (DESIGN CHOICE, log 3). -/
  quietSamples : Nat
  idleSamples : Nat
  /-- Local time of the entry into DORMANT; ticks (R340, R342). Reset 0 (DESIGN CHOICE, log 3). -/
  dormantAt : Tick
  /-- Samples since the last store, and has anything changed since it (R345). Reset 0 and no (DESIGN CHOICE, log 3). -/
  storeSamples : Nat
  dirty : Bool
  /-- CAL_POINT results of the input current and voltage: applied value and average, two of each; and the point in progress (R347). Reset none (DESIGN CHOICE, log 3). -/
  ptI : List (Int × Int)
  ptU : List (Int × Int)
  ptRun : Option (Nat × Int)
  /-- Legal samples of the point in progress: their sum in nV and their number (R347). Reset 0 (DESIGN CHOICE, log 3). -/
  ptSum : Int
  ptN : Nat
  /-- SAMPLE, the counter of legal samples since M's start; 32 bits (R356). Reset 0 (DESIGN CHOICE, log 3). -/
  sample : Nat
  /-- Has the return path shown activity in DORMANT; 1 bit (R342). Reset no (DESIGN CHOICE, log 3). -/
  called : Bool
  /-- MPULSE: energy towards the next impulse in nW·(125 µs), and is the impulse on (R355). Reset 0 (DESIGN CHOICE, log 3). -/
  pulseRem : Nat
  pulse : Bool
  /-- Bytes of the last reply on MCALTX (R347); a list. Reset empty (DESIGN CHOICE, log 3). -/
  uartOut : List Byte
  /-- Latest legal voltage sample in mV (R356). Reset 0 (DESIGN CHOICE, log 3). -/
  voltage : Int
  deriving DecidableEq, Repr

/-- A request of C to M with the command that waits for it (R17, R353, R361). -/
inductive MReqKind where
  | read (addr len : Nat) | statement (regid time : Nat) | display (param : Nat) (value : List Byte)
  /-- Events from a number on, with the bytes read so far: the log region is read in two parts where the entries wrap (R340, R361). -/
  | events (from_ n : Nat) (got : List Byte)
  deriving DecidableEq, Repr

/-- A request in C's queue. -/
structure MReq where
  hdr : Hdr
  opcode : Nat
  kind : MReqKind
  sentAt : Option Tick
  deriving DecidableEq, Repr

/-- C's metrology port (R344, R354, R358 to R362). -/
structure MPort where
  /-- Is M's stream withdrawn, and the fault kind of the withdrawal; 1 bit and 8 bits (R359, R361). Reset in use, cause 0 (R359 names the only
  withdrawals). -/
  withdrawn : Bool
  cause : Nat
  /-- FRAMES and CRCERR; 32 bits each (R361). Reset 0 (DESIGN CHOICE, log 3). -/
  frames : Nat
  crcErr : Nat
  /-- Local times of CRC errors of the last second (R359, R363); a list. Reset empty (DESIGN CHOICE, log 3). -/
  errTimes : List Tick
  /-- RATE, fitted clock error in 0.1 ppm; 32 bits signed (R361). Reset 0 (DESIGN CHOICE, log 3). -/
  rate : Int
  /-- Local time of the last good frame, or of C's start before the first; ticks (R359). Reset 0 (DESIGN CHOICE, log 3). -/
  goodAt : Tick
  /-- Since when frames have been good for a restore; optional ticks (R359). Reset none (DESIGN CHOICE, log 3). -/
  goodSince : Option Tick
  /-- The last SAMPLE counter (R356); optional. Reset none (DESIGN CHOICE, log 3). -/
  lastSample : Option Nat
  /-- SAMPLE and arrival in pack time of the good frames of the fit, newest first, at most 8000 (R358); a list. Reset empty (DESIGN CHOICE, log 3). -/
  arrivals : List (Nat × Nat)
  /-- Local time of the last read of MSTATUS; ticks (R344). Reset 0 (DESIGN CHOICE, log 3). -/
  polledAt : Tick
  /-- The stream is ready for use at the next Take boundary (R359); 1 bit. Reset no (DESIGN CHOICE, log 3). -/
  restoring : Bool
  /-- MSTATUS as last polled or streamed; 32 bits (R344, R361). Reset 0 (DESIGN CHOICE, log 3). -/
  mstatus : Nat
  /-- Requests to M, oldest first; the head one may be with M (R354, R361). Reset empty (DESIGN CHOICE, log 3). -/
  reqs : List MReq
  /-- M's answers that wait at C's port: to a statement request or another one, accepted or refused, data (R361); a list. Reset empty (DESIGN
  CHOICE, log 3). -/
  answers : List (Bool × Bool × List Byte)
  deriving DecidableEq, Repr

/-- What the part goes back to at a fallback (R497): the settings of the active area as they stood at the activation, with the format that the
new Studio writes into the inactive area. -/
structure Migration where
  fmt : Nat
  settings : Settings
  cal : List CalRecord
  reaction : Option (List Nat × Nat)
  cellMap : List Nat
  deriving DecidableEq, Repr

/-- What flash keeps over a part reset and over power loss (R478). -/
structure Nv where
  /-- The Dailies, oldest first, 48-byte entries, up to 3910; a list (R429). Reset empty (DESIGN CHOICE, log 3). -/
  dailies : List DEntry
  /-- The next DSEQ; 32 bits (R430). Reset 0 (DESIGN CHOICE, log 3). -/
  dseq : Nat
  /-- Entries dropped since manufacture; 32 bits (R435). Reset 0 (DESIGN CHOICE, log 3). -/
  dailiesDropped : Nat
  /-- The stored safety image with its generation, or none before the first commit (R392, R394). Reset none (DESIGN CHOICE, log 3). -/
  safety : Option (List Byte × Nat)
  /-- The password, empty while none is set; 0 to 16 bytes (R390). Reset empty (R390). -/
  password : List Byte
  /-- The change log, oldest first, up to 256 entries; a list (R395). Reset empty (DESIGN CHOICE, log 3). -/
  log : List LogEntry
  /-- The next LOGSEQ; 32 bits (R395). Reset 0 (DESIGN CHOICE, log 3). -/
  logSeq : Nat
  /-- The stored reaction table with its generation, or none before the first SET_REACTION (R407). Reset none (DESIGN CHOICE, log 3). -/
  reaction : Option (List Nat × Nat)
  /-- The stored settings of class 0x01 (R472). -/
  settings : Settings
  /-- Stored calibration records, first and second copy of each, in the same order; two lists (R192). Reset empty (DESIGN CHOICE, log 3). -/
  cal : List CalRecord
  calB : List CalRecord
  /-- Mapped cells of S1 to S6; six counts of 0 or 8 to 24 (R7, R484). Reset 24 each (R484). -/
  cellMap : List Nat
  /-- The customer public key, empty while none is stored; 64 bytes (R503). Reset empty (R508). -/
  customerKey : List Byte
  /-- A new customer key that waits for the confirmation of its bundle, or none (R503). Reset none (DESIGN CHOICE, log 3). -/
  newKey : Option (List Byte)
  /-- The boot record; 64 bytes (R488). Reset all places A, nothing pending (DESIGN CHOICE, log 20). -/
  boot : BootRecord
  /-- Images of targets 0 to 4, place A then place B of each; ten places (R476). Reset releases 3.0 and 1.0 in the places A (DESIGN CHOICE, log 20). -/
  images : List (Option Image)
  /-- SETFMT of the active settings area; 8 bits (R497). Reset 3 (DESIGN CHOICE, log 20). -/
  setFmt : Nat
  /-- The migration whose area is not yet active, or none (R497). Reset none (DESIGN CHOICE, log 3). -/
  migrated : Option Migration
  /-- Logical sectors mapped elsewhere than to themselves: logical and physical number; a list (R479). Reset empty (DESIGN CHOICE, log 20). -/
  sectorMap : List (Nat × Nat)
  /-- Physical sectors of the spare pool; a list (R479). Reset two sectors (R478; DESIGN CHOICE, log 20, for their numbers). -/
  spares : List Nat
  /-- Generation of the sector map; 32 bits (R479). Reset 0 (DESIGN CHOICE, log 3). -/
  mapGen : Nat
  /-- Life-cycle state as its record holds it, and its generation; 3 and 32 bits (R508). Reset 2 and 1 (R510; DESIGN CHOICE, log 21). -/
  lcState : Nat
  lcGen : Nat
  /-- Pack time last saved by the Keeper; 64 bits (R312). Reset 0 (DESIGN CHOICE, log 3). -/
  packSaved : Nat
  /-- Chain identity and address stored at enumeration, 0 none; 32 and 8 bits (R306). Reset 0 (DESIGN CHOICE, log 3). -/
  chainId : Nat
  chainAddr : Nat
  /-- The map that the primary head holds over its own resets: address and UID of each enumerated package; a list (R307, R478). Reset empty
  (DESIGN CHOICE, log 3). -/
  chainMap : List (Nat × Nat)
  /-- Packages of the chain that the chain identity was made for, stored with the address; 8 bits (R306, R308). Reset 0 (DESIGN CHOICE, log 3). -/
  chainCount : Nat
  /-- Chain key for the radio, empty before RADIO_REKEY; 16 bytes (R323). Reset empty (DESIGN CHOICE, log 3). -/
  chainKey : List Byte
  /-- Stored chain address of the current source, 0 none; 8 bits (R360). Reset 0 (DESIGN CHOICE, log 3). -/
  source : Nat
  /-- Has SET_CURRENT_SOURCE ever been given (R360)? 1 bit. Reset no (DESIGN CHOICE, log 3). -/
  sourceSet : Bool
  deriving DecidableEq, Repr

/-- C's always-on domain (R439). -/
structure Aon where
  /-- Records that the next start reports with CARRIED set; a list (R414, R426). Reset empty (DESIGN CHOICE, log 3). -/
  carried : List FRec
  /-- The latest two evidence records, latest first; a list (R427). Reset empty (DESIGN CHOICE, log 3). -/
  evidence : List Evidence
  /-- WAKECAUSE, code of R452 for the last start; 8 bits (R472). Reset 0 (R452). -/
  wakeCause : Nat
  /-- WAKES, wakes since AON powered up; 32 bits (R472). Reset 0 (R472). -/
  wakes : Nat
  /-- Local time from which the scrub age counts; a tick count (R469). Reset 0 (DESIGN CHOICE, log 3). -/
  scrubFrom : Tick
  /-- The state to return to after a scrub wake, or none (R469). Reset none (DESIGN CHOICE, log 3). -/
  scrubReturn : Option PState
  /-- A wake source that fired during a shutdown, or a sleep check's request, or none (R450, R474). Reset none (DESIGN CHOICE, log 3). -/
  wakeReq : Option Nat
  /-- Is C held by a brown-out of VLV; 1 bit (R456). Reset no (DESIGN CHOICE, log 3). -/
  brownOut : Bool
  /-- Is C stopped for temperature; 1 bit (R467). Reset no (DESIGN CHOICE, log 3). -/
  cStopped : Bool
  /-- The recovery flag; 1 bit (R500). Reset 0 (DESIGN CHOICE, log 3). -/
  recoveryFlag : Bool
  /-- The level of BOOTREC as last seen; 1 bit (R500). Reset low (DESIGN CHOICE, log 3). -/
  bootrec : Bool
  /-- Local time at which the confirmation timer expires, or none (R495). Reset none (DESIGN CHOICE, log 3). -/
  confirmEnd : Option Tick
  /-- C's LBIST result word; 32 bits (R514). Reset 0 (R514). -/
  lbWord : BitVec 32
  deriving DecidableEq, Repr

/-- The reasons a step can stop with a fault. -/
inductive Fault where
  /-- Raised by an event row that names a segment die which this member of the family does not have (R1, R6).
  Safe: such an event cannot occur, the model stops and claims nothing. -/
  | noSuchDie (code : Nat)
  deriving DecidableEq, Repr

/-- The reasons a step can be refused. -/
inductive Refusal where
  /-- Raised by an arm of exec whose command has no meaning yet. Safe: the model claims nothing of it. -/
  | notModelled (mnemonic : String)
  deriving DecidableEq, Repr

/-- Something the part has sent on a path: medium 0 ring, 1 DeariLink, 2 radio, 3 metrology port; message kind of that medium;
destination; content. The list of them is the model's own observation of what leaves C (log entry 10). -/
structure Sent where
  medium : Nat
  kind : Nat
  dest : Nat
  data : List Byte
  deriving DecidableEq, Repr

/-- The machine. -/
structure State where
  /-- The commands that wait, first in first out; the model's own field. Reset empty (block form). -/
  pending : List Instr
  /-- The member of the family; one of eight (R1). Reset ISH-624M (DESIGN CHOICE, log 2). -/
  part : Variant
  /-- Local time in ticks of 10 ns; the model's own field, which times every deadline. Reset 0 (DESIGN CHOICE, log 1). -/
  now : Tick
  /-- Pack time; 64 bits (R10). Reset 0 (DESIGN CHOICE, log 3). -/
  packTime : Nat
  /-- Counter of free values drawn; the model's own field. Reset 0 (DESIGN CHOICE, log 4). -/
  free : Nat
  /-- What C has sent; the model's own field. Reset empty (DESIGN CHOICE, log 10). -/
  sent : List Sent
  port : Port
  /-- The bytes of the mailboxes at 0x0100 to 0x08FF and of the stream window at 0x1000 to 0x1FFF; 8-bit cells (R50). Reset all 0 (DESIGN CHOICE, log 8). -/
  mem : List Host.Cell
  mail : Mail
  stream : Stream
  sweep : Sweep
  slates : Slates
  cal : Cal
  sense : Sense
  balance : Balance
  imp : Imp
  ring : Ring
  chain : Chain
  radio : Radio
  mport : MPort
  metro : Metro
  stage : Stage
  safety : SafetyCfg
  faults : Collector
  wd : Watchdog
  sup : Supervision
  dailies : Dailies
  power : Power
  fw : Fw
  flash : Flash
  life : Life
  nv : Nv
  aon : Aon
  /-- The segment dies fitted, S1 first (R1). -/
  segs : List SegDie
  deriving DecidableEq, Repr

/-! The state after reset, structure by structure. -/

def Port.reset : Port :=
  { hpErr := 0, rstnIgn := false, irq := 0, irqEn := 0x3FFF, quadEn := false, irqOd := false, urgIn := 0, urgDie := 0
    rawValid := false, rawHold := 0x8000, shadowTag := 0, shadowOpen := false, ovrn := false, lost := false, rawLast := 0x8000
    urgDrop := 0, prev := 0, lastXstat := 0x80, lastData := [], lastCrc := 0xFFFF, abortTag := 0, abortPrio := 0
    abortResult := 0, abortStatTag := 0, strWr := 0, strRd := 0, drops := 0, swrstAt := none, rstnLow := false
    inReset := false, rstnEdge := 0 }

def Mail.reset : Mail :=
  { doorbell := 0, outFull := 0, waiting := [], replies := [], ops := [], arb := [], switches := [], away := [] }

def Stream.reset : Stream := { undecided := [], runs := [], dropRuns := [], owed := [] }

/-- The trigger after every start (R445). -/
def Trigger.reset : Trigger := { source := 0, edge := 0, watch := 0, delay := 0, period := 2500, phase := 0 }

def Sweep.reset : Sweep :=
  { trig := Trigger.reset, running := false, hostSched := false, stopPending := false, stops := [], startPending := none, startAt := 0, queue := []
    queueSent := [], times := [], events := [], claps := 0, overruns := 0, overrunRun := 0, lastClap := 0, intervals := [], lastEvent := 0
    silent := false, edgeAt := none, lead := 400, selftest := 10, inSweep := false, late := false, sinceRestart := 0, boundaries := 0, boundaryAt := 0, boundaryPack := 0
    publishedPack := none, pllHold := false, burst := false }

def Rho.reset : Rho := { nohm := 500000, count := 0, sxy := 0, sxx := 0 }

def Slates.reset : Slates :=
  { sets := List.replicate 4 { order := 3, d := 40 }, takedec := 40, filterId := 0, alignHost := false, irsrc := 0, subDie := 0
    subIn := 0, rFixed := false, rho := List.replicate 144 Rho.reset, rawDie := 0, contHost := false, contThr := 20
    verdictTmo := 50, sel := [], nextSeq := 0, takes := [], late := [], summaries := [], prepHold := false, contFail := 0, rejoin := 0, skips := []
    curHist := [], stream := [], subst := [], noCurrent := false, zeroInt := 0, preset := 0, charge := 0, chargeAt := 0
    presetWait := none, gap := false, history := [], reads := [], published := 0, committed := 0, voided := 0, chainDrops := 0
    takeInt := 0, chainQueue := [], chainRun := 0, lastVals := [] }

def Cal.reset : Cal := { session := none, capture := none, taps := none, live := [], waiting := [], lost := [] }

def Sense.reset : Sense :=
  { stepped := false, otperiod := 60, jumpThr := 50, leakThr := 50, cin := 100, runs := [] }

def Balance.reset : Balance :=
  { goal := 0, imax := 3000, target := 3900000, band := 10000, horizon := 0, goalAt := 0, shortDone := false
    shortfall := List.replicate 6 0, dqdv := List.replicate 144 0, charge := List.replicate 144 0, hostMode := false
    cellHi := 4250000, cellLo := 2800000, lease := 200, hostCaps := false, derate := [], sleepOn := false, sleepPeriod := 60
    sleepTarget := 3900000, sleepBand := 10000, isleep := 500, maxAwake := 600, items := [], planned := true, recDrop := 0 }

def Imp.reset : Imp :=
  { lastNumber := 0, def_ := none, run := none, next := 0, points := [], reads := [], ft := 0
    coeffs := List.replicate 144 { a0 := 0, a1 := 0, a2 := 0 }, hostMode := false, bad := [], orders := [] }

def Ring.reset : Ring := { raw := [], urgent := [], accepted := [], errors := [], current := [], lost := false }

def Chain.reset : Chain :=
  { isHead := false, secondary := false, badHead := false, locked := false, chainId := 0, addr := 0, count := 0, map := []
    enumerating := none, upA := false, upB := false, breakAt := 0, lastBreak := 0, unreachable := 0, master := false, masterAddr := 0, heads := [], addrNext := none, breaks := []
    portB := true, syncs := 0, syncAt := 0, portSyncAt := 0, measuredAt := 0, savedAt := 0, downAtA := 0, downAtB := 0, takeover := false, primaryAt := 0, hopsA := 0, hopsB := 0, offset := 0, slew := 0
    delayA := 0, delayB := 0, delayDone := 0, refClkin := false, freq := 25000, timebaseOp := none, refLost := false
    sfnum := 0, pin := 0, placeB := false, placeNext := none, spare := [], out := false, services := [], joining := false
    admitted := false, toAdmit := [], crcErr := 0, crcTimes := [], seen := [], seqs := List.replicate 14 0, notices := []
    tracks := [], alarms := [], source := 0, sourceSet := false, sourceNext := none, currentAt := none, slotMap := [] }

def Radio.reset : Radio :=
  { enable := false, txpwr := 0, chmask := 0xFFFF, key := [], keyGen := 0, counter := 0, peers := [], slot := 0, map := [], alarms := []
    queue := [], inFlight := none, rx := [] }

def MSlot.reset : MSlot :=
  { gen := 0, eimp := 0, eexp := 0, qimp := 0, qexp := 0, rem := [0, 0, 0, 0, 0], stmtCtr := 0 }

def Metro.reset : Metro :=
  { state := .starting, haltCause := 0, sealed_ := false, sealBroken := false, overI := false, overU := false
    overISamples := 0, overUSamples := 0, tempRange := false, storeLoss := false, eimp := 0, eexp := 0, qimp := 0, qexp := 0
    remEimp := 0, remEexp := 0, remQimp := 0, remQexp := 0, stmtCtr := 0, opsec := 0, opsamples := 0, uavg := 0, iavg := 0
    pavg := 0, sumU := 0, sumI := 0, sumP := 0, sumN := 0, calGen := 0, shunt := 50000, ratio := 1250000, offI := 0, offU := 0
    breakRec := 0, label := List.replicate 16 0, avgWin := 1, mpDir := 0, swid := 0, muid := 0
    pubkey := List.replicate 64 0, cert := List.replicate 64 0, authority := [], events := [], evCount := 0, journal := [MSlot.reset]
    journalGen := 0, quietSamples := 0, idleSamples := 0, dormantAt := 0, storeSamples := 0, dirty := false, ptI := [], ptU := []
    ptRun := none, ptSum := 0, ptN := 0, sample := 0, called := false, pulseRem := 0, pulse := false, uartOut := [], voltage := 0 }

def MPort.reset : MPort :=
  { withdrawn := false, cause := 0, frames := 0, crcErr := 0, errTimes := [], rate := 0, goodAt := 0, goodSince := none
    lastSample := none, arrivals := [], polledAt := 0, restoring := false, mstatus := 0, reqs := [], answers := [] }

def SInput.reset : SInput :=
  { chA := false, chB := false, firstCh := none, firstAt := 0, latched := false, bothSafe := false, crash := false
    operateAt := 0, tpCounts := [0, 0, 0, 0], tpSound := [0, 0] }

def Stage.reset : Stage :=
  { so1 := false, so2 := false, fb1 := false, fb2 := false, at1 := 0, at2 := 0, test1 := none, test2 := none, supply := true
    stuckLowAt := none, driversOff := false, inputs := List.replicate 4 SInput.reset, overA := false, overB := false
    hvil := 0, hvilMiss := 0, hvilHigh := 0, hvilLow := 0, hvilGood := 0, graces := [] }

def SafetyCfg.reset : SafetyCfg :=
  { image := safetyDefault, gen := 0, valid := false, applying := none, sessions := [], failures := [], lockEnd := none }

def Collector.reset : Collector :=
  { open_ := [], closed := [], nextId := 0, table := defaultClasses, tableGen := 0, hostMode := false, forces := []
    injects := [], clearing := none }

def Watchdog.reset : Watchdog :=
  { armed := false, period := 100, seed := 0, nextPeriod := 100, nextSeed := 0, question := 0, seq := 0, start := 0, good := 0
    lastGood := 0 }

def Supervision.reset : Supervision :=
  { ready := false, keeper := false, recovery := false, stopped := true, halted := false, fatal := false, restartAt := none
    restarts := [], window := 100, limits := List.replicate 16 (0, 255), counts := List.replicate 16 0
    lastCounts := List.replicate 16 0, lastCheckin := List.replicate 16 0 }

def Dailies.reset : Dailies := { bucket := 512, dropped := 0, refillAt := 0, reads := [] }

def Therm.reset : Therm :=
  { temp := 2500, hist := [], rate := 0, riseCount := 0, riseArmed := true, calmSince := none, jumps := 0, fault := false
    above := List.replicate 4 false, dwell := List.replicate 4 none, coolSince := none, factor := 100 }

def Power.reset : Power :=
  { state := .run, shutdown := none, chainMove := none, sweptBefore := false, studioAsleep := false, lastReply := 0
    crystal32 := false, pllLocked := false, pllOnRef := false, vlv := 12000, therm := Therm.reset, throttled := false
    scrub := none }

def Settings.reset : Settings :=
  { wakeMask := 0x5C, wakeState := 3, sleepChk := 1, wakeTime := 0, wakeArmed := false, sleepTemp := 70, monPeriod := 1000, monOrder := 1
    monDec := 64, levels := List.replicate 4 (-32768), rise := 0, scrubMode := 0, src32 := 0, scrubDate := 0 }

def Fw.reset : Fw :=
  { head := none, transfer := none, hostMode := false, activation := none, running := 0, romMicro := false, noRadio := false }

def Flash.reset : Flash := { jobs := [], stepAt := 0, deferred := none }

def Life.reset : Life := { state := 2, gen := 1, degraded := 0, nonce := none, attempted := false }

/-- A factory image of a release (log entry 20). -/
def Image.factory (version : Nat) : Image :=
  { version := version, rollback := 0, minKeeper := 0, length := 0, setFmt := 3, digest := List.replicate 32 0, payload := [] }

def Nv.reset : Nv :=
  { dailies := [], dseq := 0, dailiesDropped := 0, safety := none, password := [], log := [], logSeq := 0, reaction := none
    settings := Settings.reset, cal := [], calB := [], cellMap := List.replicate 6 24, customerKey := [], newKey := none
    boot := { brgen := 0, active := 0, pending := 0, verified := 0, bootCount := 0, rollIdx := [0, 0, 0, 0, 0], actAt := 0
              complete := 0, migrate := 0 }
    images := [some (Image.factory 0x01000000), none, some (Image.factory 0x03000000), none, some (Image.factory 0x03000000), none,
               some (Image.factory 0x03000000), none, none, none]
    setFmt := 3, migrated := none, sectorMap := [], spares := [1022, 1023], mapGen := 0, lcState := 2, lcGen := 1
    packSaved := 0, chainId := 0, chainAddr := 0, chainMap := [], chainCount := 0, chainKey := [], source := 0, sourceSet := false }

def Aon.reset : Aon :=
  { carried := [], evidence := [], wakeCause := 0, wakes := 0, scrubFrom := 0, scrubReturn := none, wakeReq := none
    brownOut := false, cStopped := false, recoveryFlag := false, bootrec := false, confirmEnd := none, lbWord := 0 }

def Comp.reset : Comp :=
  { ovTrip := false, uvTrip := false, ovCount := 0, uvCount := 0, ovInside := 0, uvInside := 0, ovSleep := 0, uvSleep := 0
    last := none }

def Dolly.reset : Dolly :=
  { word := 0x8000, wordAt := 0, gateAt := none, straddle := false, fsw := 25, withdrawn := [], transfer := none, thermal := false, waits := false, test := none
    testedAt := none, testDue := true, used := false, effs := [], moved := 0 }

/-- The entry that names every mapped cell with the default fields (R105, R445). -/
def SeqEntry.allCells (cells : Nat) : SeqEntry :=
  { first := 0, last := cells - 1, acq := 2, gain := 0, ref := 0, filt := 0, div := 0, flags := 0 }

/-- A trim without any correction (log entry 131). -/
def Trim.none : Trim :=
  { offsets := List.replicate 24 0, gains := List.replicate 24 0, linearity := List.replicate 16 0, tempMain := 0, tempDiag := 0, tempRc32 := 0
    tempRc40 := 0 }

/-- A segment die after a start: its code, its mapped cells, its trim, and what its always-on domain keeps. -/
def SegDie.start (code cells : Nat) (trim : Trim) (recs : List (Nat × Nat)) (lb : BitVec 32) : SegDie :=
  { code := code, trim := trim, trimBad := false, packTime := 0, packPrev := 0, cells := cells, unpowered := false, out := false, rejoin := 0, therm := Therm.reset, tempAt := none
    stopping := false, stopped := false, cutOff := false, seq := if cells = 0 then [] else [SeqEntry.allCells cells]
    compensated := false, refOk := [false, false, false], refUv := [3000000, 3000000, 3000000], refSince := [none, none, none], refAt := [0, 0, 0]
    fallback := false, noSupply := false, subKinds := [], diagIdx := 0
    guardIdx := 0, diagAt := 0, gates := [], sweepNo := 0, tableAt := 0, restartAt := 0, ovrAt := none, nbrNext := false
    residue := List.replicate 32 0, hist := List.replicate 32 [], ovrNow := []
    test := { running := false, heldUrgent := none, xcheck := false, failed := false, startedAt := none }
    comps := List.replicate 24 Comp.reset, lastRead := List.replicate 24 0, xcD := 0, xcM := 0, xcPairs := 0, xcSweeps := 0, xcSub := false, xcWait := false, unproven := false
    diagRefOk := true, checkAt := 0, probeAt := none, cycleAt := none
    refErr := 0, probe := none, probeWait := none, nextTap := 0, suspects := [], suspectCells := [], openTaps := []
    connected := [], inconclusive := List.replicate 25 0, thermMask := 0, openLim := 9850, shortLim := 150
    thermCnt := List.replicate 8 (0, 0, 0, 0), thermOpen := [], thermShort := [], dollies := List.replicate 4 Dolly.reset
    calmAt := none, limit := 3000, derated := false, lossMj := 0
    sleep := { awake := false, wokeAt := 0, takeAt := 0, nextWake := none, cfg := none, wakes := 0, seconds := 0 }
    statusAt := 0, sentAt := 0, ringLost := false, lostSince := none, lbist := false, held := none, msgFails := 0
    aonRecs := recs, lbWord := lb }

/-- The machine right after reset: every field at the value its docstring gives. -/
def State.reset : State :=
  { pending := [], part := .ish624M, now := 0, packTime := 0, free := 0, sent := [], port := Port.reset, mem := []
    mail := Mail.reset, stream := Stream.reset, sweep := Sweep.reset, slates := Slates.reset, cal := Cal.reset
    sense := Sense.reset, balance := Balance.reset, imp := Imp.reset, ring := Ring.reset, chain := Chain.reset
    radio := Radio.reset, mport := MPort.reset, metro := Metro.reset, stage := Stage.reset, safety := SafetyCfg.reset
    faults := Collector.reset, wd := Watchdog.reset, sup := Supervision.reset, dailies := Dailies.reset
    power := Power.reset, fw := Fw.reset, flash := Flash.reset, life := Life.reset, nv := Nv.reset, aon := Aon.reset
    segs := (Variant.ish624M.segCodes).map fun c => SegDie.start c (Nv.reset.cellMap.getD (c - 2) 0) Trim.none [] 0 }

end Sys2Proof.Machine
end

