-- ==== Sys2Proof/Machine/Ops.lean ====
section
/-! DEFINITION. Named operations over bytes, the byte memory of the mailboxes and the stream window, and lists. -/
namespace Sys2Proof.Machine

/-- The low `n` bytes of `v`, least significant byte first (R11). -/
def le : Nat → Nat → List Byte
  | 0, _ => []
  | n + 1, v => BitVec.ofNat 8 v :: le n (v / 256)

/-- A signed value in two's complement, `n` bytes, least significant byte first (R11). -/
def leInt (n : Nat) (v : Int) : List Byte := le n (v % (256 ^ n : Nat)).toNat

/-- The unsigned value of bytes, least significant byte first (R11). -/
def leVal : List Byte → Nat
  | [] => 0
  | b :: r => b.toNat + 256 * leVal r

/-- The unsigned value of bytes, most significant byte first (R47). -/
def beVal (l : List Byte) : Nat := leVal l.reverse

/-- The two's complement reading of the low `bits` bits of `v`. -/
def signed (bits v : Nat) : Int :=
  if v % 2 ^ bits < 2 ^ (bits - 1) then (v % 2 ^ bits : Nat) else (v % 2 ^ bits : Nat) - (2 ^ bits : Nat)

/-- `n` zero bytes. -/
def zeros (n : Nat) : List Byte := List.replicate n 0

/-- The first `n` bytes of `l`, with zeros where `l` is shorter. -/
def fit (n : Nat) (l : List Byte) : List Byte := (l ++ zeros (n - l.length)).take n

/-- One byte of memory; an unlisted address reads as 0 (log entry 8). -/
def memRead : List Host.Cell → Nat → Byte
  | [], _ => 0
  | (x, b) :: r, a => if x = a then b else memRead r a

/-- Write one byte; the list stays sorted and lists no zero. -/
def memWrite : List Host.Cell → Nat → Byte → List Host.Cell
  | [], a, v => if v = 0 then [] else [(a, v)]
  | (x, b) :: r, a, v =>
    if a < x then (if v = 0 then (x, b) :: r else (a, v) :: (x, b) :: r)
    else if a = x then (if v = 0 then r else (a, v) :: r)
    else (x, b) :: memWrite r a v

/-- Write bytes at ascending addresses. -/
def memWriteList (m : List Host.Cell) (a : Nat) : List Byte → List Host.Cell
  | [] => m
  | v :: r => memWriteList (memWrite m a v) (a + 1) r

/-- Read `n` bytes at ascending addresses. -/
def memReadList (m : List Host.Cell) (a n : Nat) : List Byte := (List.range n).map fun k => memRead m (a + k)

/-- Write bytes into the stream window from an offset; offsets wrap at 4096 (R50, R75). -/
def winWrite (m : List Host.Cell) (off : Nat) : List Byte → List Host.Cell
  | [] => m
  | v :: r => winWrite (memWrite m (0x1000 + off % 4096) v) (off + 1) r

/-- The canonical form of a memory: addresses strictly rising, no entry equal to what an unlisted address reads as. -/
def Memory.wf : List Host.Cell → Bool
  | [] => true
  | [(_, v)] => v != 0
  | (a, v) :: (b, w) :: r => v != 0 && decide (a < b) && Memory.wf ((b, w) :: r)

/-- Change every element that satisfies `p`. -/
def upd {α : Type} (l : List α) (p : α → Bool) (f : α → α) : List α := l.map fun x => if p x then f x else x

/-- Change the element at index `k`. -/
def updAt {α : Type} (l : List α) (k : Nat) (f : α → α) : List α := l.modify k f

/-- The element at index `k`, or a default. -/
def nth {α : Type} (l : List α) (k : Nat) (d : α) : α := l.getD k d

/-- The largest number of `n` bits, or `v` where it is smaller: a saturating count. -/
def sat (bits v : Nat) : Nat := min v (2 ^ bits - 1)

/-- Bit `k` of a number used as a mask. -/
def bit (m k : Nat) : Bool := m.testBit k

/-- A Boolean as 0 or 1. -/
def b2n (b : Bool) : Nat := if b then 1 else 0

/-- Round `a / b` to the nearest integer, halves away from zero; 0 where `b` is 0. -/
def divRound (a : Int) (b : Nat) : Int :=
  if b = 0 then 0 else if 0 ≤ a then (a + (b : Int) / 2) / (b : Int) else -((-a + (b : Int) / 2) / (b : Int))

/-- Clamp an integer into a range. -/
def clamp (lo hi v : Int) : Int := max lo (min hi v)

/-- The segment die with a code. -/
def State.die? (s : State) (code : Nat) : Option SegDie := s.segs.find? fun d => d.code == code

/-- Change the segment die with a code. -/
def State.updDie (s : State) (code : Nat) (f : SegDie → SegDie) : State :=
  { s with segs := upd s.segs (fun d => d.code == code) f }

/-- Is the die with this code fitted (R1, R6)? -/
def State.fitted (s : State) (code : Nat) : Bool := bit s.part.dieMask code

/-- Take one fresh free value: the counter moves on (log entry 4). -/
def State.draw (s : State) : State := { s with free := s.free + 1 }

/-- The free number at the counter (log entry 4). -/
def State.freeNat (s : State) : Nat := Config.freeNat s.free

/-- `k` free bytes at the counter (log entry 4). -/
def State.freeBytes (s : State) (k : Nat) : List Byte := (List.range k).map fun i => Config.freeByte (256 * s.free + i)

/-- What an event row does at one segment die: no such die stops by name (log entry 9). -/
def onDie (s : State) (code : Nat) (f : SegDie → State) : Host.Outcome State Fault Refusal :=
  match s.die? code with
  | some d => .next (f d)
  | none => .fault (.noSuchDie code)

/-- Is a state one that powers C down? -/
def PState.dark (p : PState) : Bool := p == .sleep || p == .ship

/-- Is the part dark: in SLEEP or SHIP, with C down? -/
def isDark (s : State) : Bool := s.power.state.dark

end Sys2Proof.Machine
end

