-- ==== Sys2Proof/Machine/Flags.lean ====
section
/-! DEFINITION. Check values (CRC-16, CRC-32, CRC-8, FCS) and the status words of the host port that are computed from the state. -/
namespace Sys2Proof.Machine

/-- One bit of the CRC-16/CCITT register (R47). -/
def crc16Bit (c : BitVec 16) : BitVec 16 := if c.msb then (c <<< 1) ^^^ 0x1021 else c <<< 1

/-- `n` steps of a register. -/
def steps {α : Type} (f : α → α) : Nat → α → α
  | 0, a => a
  | n + 1, a => steps f n (f a)

/-- One byte of the CRC-16 (R47). -/
def crc16Byte (c : BitVec 16) (b : Byte) : BitVec 16 := steps crc16Bit 8 (c ^^^ (b.zeroExtend 16 <<< 8))

/-- CRC-16/CCITT: polynomial 0x1021, initial value 0xFFFF, no reflection, no final XOR (R47). -/
def crc16 (l : List Byte) : BitVec 16 := l.foldl crc16Byte 0xFFFF

/-- One bit of the reflected CRC-32 register (R64). -/
def crc32Bit (c : BitVec 32) : BitVec 32 := if c.getLsbD 0 then (c >>> 1) ^^^ 0xEDB88320 else c >>> 1

/-- One byte of the CRC-32 (R64). -/
def crc32Byte (c : BitVec 32) (b : Byte) : BitVec 32 := steps crc32Bit 8 (c ^^^ b.zeroExtend 32)

/-- CRC-32: IEEE polynomial, reflected, initial value and final XOR 0xFFFF_FFFF (R64). -/
def crc32 (l : List Byte) : BitVec 32 := (l.foldl crc32Byte 0xFFFFFFFF) ^^^ 0xFFFFFFFF

/-- The CRC-32 of bytes as four bytes, least significant first (R11, R64). -/
def crcTail (l : List Byte) : List Byte := le 4 (crc32 l).toNat

/-- One bit of the CRC-8 register (R298). -/
def crc8Bit (c : BitVec 8) : BitVec 8 := if c.msb then (c <<< 1) ^^^ 0x07 else c <<< 1

/-- CRC-8 of an express set: polynomial 0x07, initial value 0, no reflection, no final XOR (R298). -/
def crc8 (l : List Byte) : BitVec 8 := l.foldl (fun c b => steps crc8Bit 8 (c ^^^ b)) 0

/-- One bit of the reflected CRC-16 register of a radio frame (R322). -/
def fcsBit (c : BitVec 16) : BitVec 16 := if c.getLsbD 0 then (c >>> 1) ^^^ 0x8408 else c >>> 1

/-- FCS of a radio frame: polynomial 0x1021 reflected, initial value 0 (R322). -/
def fcs16 (l : List Byte) : BitVec 16 := l.foldl (fun c b => steps fcsBit 8 (c ^^^ b.zeroExtend 16)) 0

/-- HPSTAT as it reads (R53). -/
def hpstat (s : State) : BitVec 32 :=
  s.port.hpErr ||| BitVec.ofNat 32
    (b2n s.sup.ready + 2 * b2n s.sup.keeper + 4 * b2n s.sup.recovery + 8 * b2n s.chain.isHead +
      16 * b2n s.chain.secondary + 4096 * b2n s.port.rstnIgn)

/-- The W1C bits of HPSTAT: CRCERR, ADDRERR, MBWRERR, PTRERR, RSTNSTUCK (R53). -/
def hpW1c : BitVec 32 := 0x2F00

/-- The W1C bits of IRQSTAT (R54). -/
def irqW1c : BitVec 32 := 0x2B0F

/-- IRQSTAT as it reads: the stored bits with REPLY, RAW and HPERR (R54). -/
def irqstat (s : State) : BitVec 32 :=
  s.port.irq ||| (s.mail.outFull.zeroExtend 32 <<< 4) |||
    BitVec.ofNat 32 (1024 * b2n s.port.rawValid + 4096 * b2n (decide (s.port.hpErr &&& hpW1c ≠ 0)))

/-- The interrupt condition that drives HIRQ; it is released while the part is held in reset (R54, R86). -/
def irqLevel (s : State) : Bool := !s.port.inReset && decide (irqstat s &&& s.port.irqEn ≠ 0)

/-- The XSTAT byte that the part sends in the next transaction (R49). -/
def xstat (s : State) : Byte :=
  BitVec.ofNat 8 (128 + 16 * s.port.prev.toNat + 8 * b2n (irqLevel s) + 4 * b2n s.sup.ready)

/-- Pending bytes of the stream window (R75). -/
def pendingBytes (s : State) : Nat := (s.port.strWr - s.port.strRd).toNat

/-- Set bits of IRQSTAT (R54). -/
def State.setIrq (s : State) (m : BitVec 32) : State := { s with port := { s.port with irq := s.port.irq ||| m } }

/-- Set error flags of HPSTAT (R53). -/
def State.setHpErr (s : State) (m : BitVec 32) : State := { s with port := { s.port with hpErr := s.port.hpErr ||| m } }

abbrev irqReady : BitVec 32 := 0x0001
abbrev irqStream : BitVec 32 := 0x0002
abbrev irqNotice : BitVec 32 := 0x0004
abbrev irqGap : BitVec 32 := 0x0008
abbrev irqFault : BitVec 32 := 0x0100
abbrev irqWdq : BitVec 32 := 0x0200
abbrev irqUrg : BitVec 32 := 0x0800
abbrev irqAbortDone : BitVec 32 := 0x2000

end Sys2Proof.Machine
end

