-- ==== Sys2Proof/Machine/Stream.lean ====
section
/-! DEFINITION. Writing records into the circular stream window (R75 to R79). -/
namespace Sys2Proof.Machine

/-- Zero bytes that pad a length to a multiple of 4 (R76). -/
def padding (n : Nat) : List Byte := zeros ((4 - n % 4) % 4)

/-- The bytes of a record: header, payload, padding (R76). -/
def recordBytes (type pkg : Nat) (payload : List Byte) : List Byte :=
  [BitVec.ofNat 8 type, BitVec.ofNat 8 pkg] ++ le 2 payload.length ++ payload ++ padding payload.length

/-- Bytes that a record of `n` payload bytes takes (R76). -/
def recordSize (n : Nat) : Nat := 4 + n + (4 - n % 4) % 4

/-- The reserve that stays free after a record, with U as given (R78). -/
def reserve (u : Nat) : Nat := max 512 (12 * (u + 1))

/-- Write a record that has room, and set the interrupt causes of R54. -/
def streamWrite (s : State) (type pkg : Nat) (payload : List Byte) : State :=
  ({ s with
    mem := winWrite s.mem s.port.strWr.toNat (recordBytes type pkg payload)
    port := { s.port with strWr := s.port.strWr + BitVec.ofNat 12 (recordSize payload.length) } }).setIrq
    (if type = 3 then irqStream ||| irqNotice else irqStream)

/-- Is there room for a record of `n` payload bytes with `extra` bytes beside the reserve (R78, R168)? -/
def streamRoom (s : State) (type n extra : Nat) : Bool :=
  let u := s.stream.undecided.length + (if type = 1 ∨ type = 2 then 1 else 0)
  if type = 3 ∨ type = 0x7E then decide (pendingBytes s + recordSize n ≤ 4092)
  else decide (pendingBytes s + recordSize n + reserve u + extra ≤ 4092)

/-- The drops of a package's running run (R89). -/
def dropRun (s : State) (pkg : Nat) : Nat := ((s.stream.dropRuns.find? fun r => r.1 == pkg).map (·.2)).getD 0

/-- Count a dropped record (R79); it owes the collector a STREAM_DROP (R89). -/
def streamDrop (s : State) (pkg : Nat) : State :=
  ({ s with
    port := { s.port with drops := BitVec.ofNat 16 (sat 16 (s.port.drops.toNat + 1)) }
    stream := { s.stream with
      dropRuns := (pkg, dropRun s pkg + 1) :: s.stream.dropRuns.filter fun r => r.1 != pkg
      owed := pkg :: s.stream.owed.filter (· != pkg) } }).setIrq irqGap

/-- The run of drops of a package ends with a record written. -/
def endRun (s : State) (pkg : Nat) : State :=
  { s with stream := { s.stream with dropRuns := s.stream.dropRuns.filter fun r => r.1 != pkg } }

/-- Write a record under the space rule, or drop and count it (R78, R79). The STREAM_DROP that a drop owes is raised by `settle`, so that
the collector can write its own records (log entry 13). -/
def streamPut (s : State) (type pkg : Nat) (payload : List Byte) : State :=
  if streamRoom s type payload.length 0 then endRun (streamWrite s type pkg payload) pkg else streamDrop s pkg

end Sys2Proof.Machine
end

