-- ==== Sys2Proof/Machine/Safety0.lean ====
section
/-! DEFINITION. The safety configuration's fields, the safety stage's outputs and inputs: what the stage does at once
(R365, R366, R369, R379, R391, R509). -/
namespace Sys2Proof.Machine

/-- Life-cycle states in which the safety configuration can be valid: CONFIGURED and FIELD (R509). -/
def lifeInUse (s : State) : Bool := s.life.state == 2 || s.life.state == 3

/-- The image the stage and the comparators use: the defaults while the Keeper holds the configuration as invalid (R394, R509). -/
def safetyImage (s : State) : List Byte := if lifeInUse s then s.safety.image else safetyDefault

/-- A one-byte and a two-byte field of the safety image in use (R391). -/
def cfg8 (s : State) (off : Nat) : Nat := (nth (safetyImage s) off 0).toNat
def cfg16 (s : State) (off : Nat) : Nat := cfg8 s off + 256 * cfg8 s (off + 1)

/-- FUNC, OUTMASK and DISC of input n (R391). -/
def inFunc (s : State) (n : Nat) : Nat := cfg8 s (24 + 8 * (n - 1))
def inMask (s : State) (n : Nat) : Nat := cfg8 s (25 + 8 * (n - 1))
def inDisc (s : State) (n : Nat) : Nat := cfg16 s (26 + 8 * (n - 1))
def safeState (s : State) : Nat := cfg8 s 12
def hvilEn (s : State) : Bool := cfg8 s 16 != 0

/-- Is the safety configuration valid (R379 REASON 1, R509)? -/
def cfgValid (s : State) : Bool := s.safety.valid && lifeInUse s

/-- Open the outputs of a mask; an off-pulse test of one ends without a verdict (R365, R381). -/
def openOutputs (s : State) (mask : Nat) : State :=
  { s with stage := { s.stage with
    so1 := s.stage.so1 && !bit mask 0
    at1 := if bit mask 0 && s.stage.so1 then s.now else s.stage.at1
    test1 := if bit mask 0 then none else s.stage.test1
    so2 := s.stage.so2 && !bit mask 1
    at2 := if bit mask 1 && s.stage.so2 then s.now else s.stage.at2
    test2 := if bit mask 1 then none else s.stage.test2 } }

/-- Close the outputs of a mask (R379). -/
def closeOutputs (s : State) (mask : Nat) : State :=
  { s with stage := { s.stage with
    so1 := s.stage.so1 || bit mask 0
    at1 := if bit mask 0 && !s.stage.so1 then s.now else s.stage.at1
    so2 := s.stage.so2 || bit mask 1
    at2 := if bit mask 1 && !s.stage.so2 then s.now else s.stage.at2 } }

/-- The outputs that an input's safe state opens (R365): both for CRASH, none for DISABLED, else OUTMASK. -/
def inputOpens (s : State) (n : Nat) : Nat := if inFunc s n = 3 then 3 else if inFunc s n = 0 then 0 else inMask s n

/-- The outputs that a message of class SAFE or FATAL opens (R365). -/
def causeMask (s : State) (cls kind detail : Nat) : Nat :=
  if cls = 4 then 3
  else if kind = 0x70 then (if detail % 256 = 3 then 3 else inMask s (detail / 256))
  else if kind = 0x71 ∨ kind = 0x72 then inputOpens s (detail / 256) ||| safeState s
  else if kind = 0x74 ∨ kind = 0x75 then cfg8 s 19
  else safeState s

/-- Safety input n, 1 to 4. -/
def inputAt (s : State) (n : Nat) : Option SInput := s.stage.inputs[n - 1]?

/-- Change safety input n. -/
def updInput (s : State) (n : Nat) (f : SInput → SInput) : State :=
  { s with stage := { s.stage with inputs := updAt s.stage.inputs (n - 1) f } }

/-- Is an input in operate (R369, R370)? A feed that cannot reach its levels makes every input on it safe. -/
def inOperate (s : State) (i : SInput) : Bool := i.chA && i.chB && !i.latched && !s.stage.overA && !s.stage.overB

/-- Part cell of a die-local cell: cells are numbered contiguously upward (R7). -/
def partCell (s : State) (die cell : Nat) : Nat :=
  (s.segs.filter fun d => decide (d.code < die)).foldl (fun a d => a + d.cells) 0 + cell

/-- Mapped cells of the part: the highest mapped part cell (R3, R7). -/
def mappedCells (s : State) : Nat := s.segs.foldl (fun a d => a + d.cells) 0

/-- The die and die-local cell of a part cell (R7). -/
def cellOf (s : State) (n : Nat) : Option (Nat × Nat) :=
  match s.segs.find? fun d => decide (partCell s d.code 0 < n) && decide (n ≤ partCell s d.code 0 + d.cells) with
  | some d => some (d.code, n - partCell s d.code 0)
  | none => none

end Sys2Proof.Machine
end

