-- ==== Sys2Proof/Machine/Effects.lean ====
section
/-! DEFINITION. What a fault reaction and a clear reach into: flash queue, frames on the chain, Dolly stops, substitutions,
withdrawals, and the causes of the fault kinds (R120, R131, R223, R239, R241, R325, R405, R408, R413). -/
namespace Sys2Proof.Machine

/-- A job enters the Keeper's flash gate (R19, R428). -/
def flashPush (s : State) (j : FlashJob) : State :=
  { s with flash := { s.flash with
    jobs := s.flash.jobs ++ [j], stepAt := if s.flash.jobs.isEmpty then s.now else s.flash.stepAt } }

/-- Something leaves C (log entry 10). -/
def emit (s : State) (medium kind dest : Nat) (data : List Byte) : State :=
  { s with sent := s.sent ++ [{ medium := medium, kind := kind, dest := dest, data := data }] }

/-- Emit an express set both ways round the ring: type byte, body, CRC-8 (R298, R300). -/
def sendSet (s : State) (type : Nat) (body : List Byte) : State := emit s 1 type 0xFF (body ++ [crc8 (BitVec.ofNat 8 type :: body)])

/-- Use one count of an armed injection (R418). -/
def useInject (s : State) (target : Nat) : State :=
  { s with faults := { s.faults with
    injects := s.faults.injects.filterMap fun i =>
      if i.1 = target then (if i.2.2 ≤ 1 then none else some (i.1, i.2.1, i.2.2 - 1)) else some i } }

/-- Is an injection armed at a target (R418)? -/
def injected (s : State) (target : Nat) : Bool := s.faults.injects.any fun i => i.1 == target

/-- One copy of a DeariLink frame as it leaves port A (0, sent clockwise) or port B (1): header with no hop crossed, payload, CRC-32
(R296, R300). An injection inverts the CRC (R418). -/
def frameCopy (s : State) (port type dest flags seq : Nat) (payload : List Byte) : List Byte :=
  let b := le 1 dest ++ le 1 s.chain.addr ++ le 1 type ++ le 1 (flags + 4 * port) ++ le 2 seq ++ le 2 payload.length ++ payload
  b ++ (if injected s (3 + port) then (crcTail b).map (~~~ ·) else crcTail b)

/-- Emit one copy of a frame from a port. -/
def emitCopy (s : State) (port type dest flags seq : Nat) (payload : List Byte) : State :=
  useInject (emit s 1 type dest (frameCopy s port type dest flags seq payload)) (3 + port)

/-- Emit a DeariLink frame both ways round the ring; class B uses priority 3 only (R300, R328). -/
def linkFrame (s : State) (type dest prio : Nat) (classB repeat_ : Bool) (seq : Nat) (payload : List Byte) : State :=
  let flags := (if classB then 3 else prio) + 8 * b2n repeat_ + 16 * b2n classB
  emitCopy (emitCopy s 0 type dest flags seq payload) 1 type dest flags seq payload

/-- A transfer cut into the data of radio frames: at most 102 bytes after the transfer header (R297, R322). -/
def bulkItems (stream tid dest : Nat) (payload : List Byte) : List BulkItem :=
  (List.range ((payload.length + 101) / 102)).map fun k =>
    { stream := stream, tid := tid, offset := 102 * k, data := (payload.drop (102 * k)).take 102, dest := dest }

/-- The next sequence number of a frame type (R296). -/
def nextFrameSeq (s : State) (type : Nat) : Nat := nth s.chain.seqs (type - 1) 0

/-- The sequence number of a frame type moves on (R296). -/
def stepFrameSeq (s : State) (type : Nat) : State :=
  { s with chain := { s.chain with seqs := updAt s.chain.seqs (type - 1) fun n => (n + 1) % 65536 } }

/-- Send a frame: class B waits for the radio, as a transfer of a stream, while it is not placed on DeariLink (R326); everything else leaves
on DeariLink. -/
def sendFrameAs (s : State) (type dest prio stream : Nat) (classB repeat_ : Bool) (payload : List Byte) : State :=
  let seq := nextFrameSeq s type
  let s := stepFrameSeq s type
  if classB && !s.chain.placeB then
    { s with radio := { s.radio with queue := s.radio.queue ++ bulkItems stream (seq % 256) dest payload } }
  else linkFrame s type dest prio classB repeat_ seq payload

/-- Send a frame whose transfer, if it becomes one, has the frame type as its stream (log entry 71). -/
def sendFrame (s : State) (type dest prio : Nat) (classB repeat_ : Bool) (payload : List Byte) : State :=
  sendFrameAs s type dest prio type classB repeat_ payload

/-- Link priority of a forwarded command or reply: 1 for mailbox 0, otherwise 2 (R297). -/
def linkPrio (n : Nat) : Nat := if n = 0 then 1 else 2

/-- Do commands of a class go as class B (R297)? -/
def classB (op : Nat) : Bool := [0x06, 0x0C, 0x0E].contains (op / 256)

/-- Send a mailbox frame, type 5 or 6, of mailbox `n` (R74, R297); its transfer's stream also says the mailbox (log entry 71). -/
def sendMail (s : State) (type dest n op : Nat) (payload : List Byte) : State :=
  sendFrameAs s type dest (linkPrio n) (type + 16 * n) (classB op) false payload

/-- An enumerated package sends a frame of priority 1 to the heads (R404). -/
def toHeads (s : State) (type : Nat) (payload : List Byte) : State :=
  if s.chain.addr = 0 then s else sendFrame s type 0 1 false false payload

/-- Is this package one of an enumerated chain of two or more? -/
def inChain (s : State) : Bool := decide (s.chain.addr ≠ 0) && decide (1 < s.chain.count)

/-- A package of a chain sends a stream record of its own to the heads: point records and Dailies are class B (R297, R326, R435). -/
def sendRecord (s : State) (type : Nat) (payload : List Byte) : State :=
  if inChain s then sendFrame s 0x04 0 2 (type == 7 || type == 9) false (recordBytes type 0 payload) else s

/-- The Dolly j of a die, 1 to 4. -/
def SegDie.dolly? (d : SegDie) (j : Nat) : Option Dolly := if j = 0 then none else d.dollies[j - 1]?

/-- Change Dolly j of a die. -/
def State.updDolly (s : State) (die j : Nat) (f : Dolly → Dolly) : State :=
  s.updDie die fun d => { d with dollies := updAt d.dollies (j - 1) f }

/-- The payload of a transfer end record (R257). -/
def endRecord (die j : Nat) (t : DollyTransfer) (endc : Nat) (q : Int) (loss : Nat) : List Byte :=
  le 1 die ++ le 1 j ++ le 1 t.cell ++ le 1 t.mode ++ le 1 endc ++ zeros 3 ++ le 8 t.start ++ leInt 4 q ++ le 4 loss

/-- Voltage of a die-local cell in mV by its latest diagnostic reading, 0 before the first (R97, R222). -/
def cellMv (d : SegDie) (cell : Nat) : Nat := ((((d.comps[cell - 1]?).bind (·.last)).getD 0) / 1000).toNat

/-- The efficiency in ppm of a transfer that moved a charge in mAs at a cell voltage in mV, with a loss in mJ: the output over the input (R233). -/
def effOf (mode mv : Nat) (q : Int) (loss : Nat) : Nat :=
  let e := q.natAbs * mv / 1000
  if mode = 1 then (e - loss) * 1000000 / max 1 e else e * 1000000 / max 1 (e + loss)

/-- A measured efficiency replaces the one of the same running current (R233). -/
def noteEff (l : List (Nat × Nat)) (ma eff : Nat) : List (Nat × Nat) := (l.filter fun x => x.1 != ma) ++ [(ma, eff)]

/-- Sweeps of a stretch of pack time cannot serve a lock-in block of the dies of a mask (R269); noted while a session runs. -/
def noteBad (s : State) (from_ to_ mask : Nat) : State :=
  if s.imp.run.isNone ∨ mask = 0 then s else { s with imp := { s.imp with bad := s.imp.bad ++ [(from_, to_, mask)] } }

/-- A Dolly of a die changes its delivered current, other than by its MODULATE waveform (R264, R269); a duty that moves with the Clapper interval alone
is no change (log entry 119). -/
def dollyChanged (s : State) (die : Nat) : State := noteBad s s.packTime s.packTime (2 ^ die)

/-- A transfer of a Dolly has ended with a charge and a loss: totals, the Dolly's measured efficiency, and the end record where one is due (R233,
R239, R255, R257, R258, R266). -/
def stopDolly (s : State) (die j endc : Nat) (q : Int) (loss : Nat) : State :=
  match (s.die? die).bind (·.dolly? j) with
  | none => s
  | some y =>
    match y.transfer with
    | none => s
    | some t =>
      let mv := ((s.die? die).map fun d => cellMv d t.cell).getD 0
      let s := s.updDolly die j fun y => { y with
        transfer := none, moved := (y.moved + q.natAbs) % 2 ^ 32, used := true
        effs := if t.mode = 3 ∨ q = 0 ∨ mv = 0 then y.effs else noteEff y.effs t.running (effOf t.mode mv q loss) }
      let s := s.updDie die fun d => { d with lossMj := d.lossMj + loss }
      let s := if t.mode = 3 then s else dollyChanged s die
      let s := if t.hdr.isSome then
          { s with imp := { s.imp with orders := upd s.imp.orders (fun o => some o.hdr == t.hdr && o.ended.isNone) fun o => { o with ended := some s.packTime } } } else s
      let s := if t.lease ∧ t.mode ≠ 3 ∧ s.balance.goal = 3 then
          { s with balance := { s.balance with charge := updAt s.balance.charge (partCell s die t.cell - 1) (· + q) } } else s
      if s.power.state = .sleep then
        s.updDie die fun d => { d with sleep := { d.sleep with seconds := d.sleep.seconds + (s.packTime - t.start) / secT } }
      else if t.mode = 3 then s
      else
        let s := sendRecord s 6 (endRecord die j t endc q loss)
        let s := if streamRoom s 6 24 0 then s else { s with balance := { s.balance with recDrop := sat 16 (s.balance.recDrop + 1) } }
        streamPut s 6 0 (endRecord die j t endc q loss)

/-- A transfer ends at a cause that brings no measured charge with it: charge and loss are free values (log entry 4). -/
def stopFree (s : State) (die j endc : Nat) : State :=
  match (s.die? die).bind fun d => (d.dolly? j).bind (·.transfer) with
  | none => s
  | some _ => (stopDolly s die j endc (Config.freeInt s.free) (Config.freeNat s.free)).draw

/-- Every transfer of a die ends (R239). -/
def stopDie (s : State) (die endc : Nat) : State := [1, 2, 3, 4].foldl (fun s j => stopFree s die j endc) s

/-- Every transfer of the part ends (R239). -/
def stopAllDollies (s : State) (endc : Nat) : State := s.segs.foldl (fun s d => stopDie s d.code endc) s

/-- Withdraw a Dolly for a fault kind (R241). -/
def withdrawDolly (s : State) (die j kind : Nat) : State :=
  stopFree (s.updDolly die j fun y => { y with withdrawn := if y.withdrawn.contains kind then y.withdrawn else y.withdrawn ++ [kind] })
    die j 5

/-- The Dollies whose matrix includes a tap (R234). -/
def dolliesOfTap (tap : Nat) : List Nat := [1, 2, 3, 4].filter fun j => decide (6 * j - 6 ≤ tap) && decide (tap ≤ 6 * j)

/-- The substitution of R131 runs on a die until faults of a kind are cleared. -/
def substitute (s : State) (die kind : Nat) : State :=
  s.updDie die fun d => { d with subKinds := if d.subKinds.contains kind then d.subKinds else d.subKinds ++ [kind] }

/-- The substitute of a reference that is not usable (R120): 0 internal, 1 external, 2 supply. -/
def refSubstitute (s : State) (die ref kind : Nat) : State :=
  if ref = 0 then substitute s die kind
  else if ref = 1 then s.updDie die fun d => { d with fallback := true }
  else s.updDie die fun d => { d with noSupply := true }

/-- M's stream is withdrawn from use in C (R359). -/
def withdrawMetro (s : State) (kind : Nat) : State :=
  { s with mport := { s.mport with withdrawn := true, cause := kind, restoring := false, goodSince := none } }

/-- The withdrawal or substitute that a kind's chapter names (R405). -/
def withdraw (s : State) (kind die detail : Nat) : State :=
  match kind with
  | 0x04 | 0x05 => refSubstitute s die (detail / 256) kind
  | 0x06 => refSubstitute s die 2 kind
  | 0x08 | 0x0A | 0x95 | 0x96 => substitute s die kind
  | 0x09 | 0x30 | 0x31 | 0x32 | 0x33 | 0x99 | 0x9A => withdrawDolly s die (detail / 256) kind
  | 0x34 => [1, 2, 3, 4].foldl (fun s j => withdrawDolly s die j kind) s
  | 0x93 =>
    (dolliesOfTap detail).foldl (fun s j => withdrawDolly s die j kind)
      (s.updDie die fun d => { d with openTaps := if d.openTaps.contains detail then d.openTaps else d.openTaps ++ [detail] })
  | 0x5F => { s with chain := { s.chain with placeB := true } }
  | 0x60 | 0x61 | 0x64 => withdrawMetro s kind
  | _ => s

/-- Does a kind's withdrawal belong to its block's own function, so that it runs in both reaction modes (R408)? -/
def ownKind (kind : Nat) : Bool := [0x09, 0x0A, 0x30, 0x31, 0x32, 0x33, 0x34, 0x60, 0x61, 0x64, 0x93, 0x99, 0x9A].contains kind

/-- Does a kind have a withdrawal that waits for FAULT_DECIDE in host-assisted mode (R408)? -/
def hasWithdrawal (kind : Nat) : Bool := [0x04, 0x05, 0x06, 0x08, 0x5F, 0x95, 0x96].contains kind

/-- Payload of an alarm record (R325). -/
def alarmPayload (addr path : Nat) (msg : BitVec 32) (at_ : Nat) : List Byte :=
  le 1 addr ++ le 1 path ++ zeros 2 ++ le 4 msg.toNat ++ le 8 at_

/-- The package sends an alarm: the ALARM set, the alarm frames in two random slots, and as a head its own record (R320, R325). -/
def alarmSend (s : State) (msg : BitVec 32) : State :=
  let body := le 1 s.chain.addr ++ le 4 msg.toNat ++ le 4 (s.packTime % 2 ^ 32)
  let s := sendSet s 0x40 body
  let s := if s.radio.enable then
      { s.draw with radio := { s.radio with
        alarms := s.radio.alarms ++ [(1 + s.freeNat % 4, body), (1 + (s.freeNat % 4 + 1 + s.freeNat / 4 % 3) % 4, body)] } }
    else s
  if s.chain.isHead then streamPut s 0x08 0 (alarmPayload 0 0 msg s.packTime) else s

/-- The FATAL reaction: the Studio is stopped, sweeps and Dollies stop (R405, R414). -/
def fatalStop (s : State) : State :=
  let s := stopAllDollies s 8
  { s with
    sup := { s.sup with ready := false, stopped := true, fatal := true, restartAt := none }
    sweep := { s.sweep with running := false } }

/-- Is a comparator tripped and not yet gone under R207? -/
def compHolds (s : State) (die cell : Nat) (under : Bool) : Bool :=
  match (s.die? die).bind fun d => if cell = 0 then none else d.comps[cell - 1]? with
  | some c => if under then c.uvTrip && decide (c.uvInside < 2) else c.ovTrip && decide (c.ovInside < 2)
  | none => false

/-- Does the cause of an input fault persist (R370, R374 to R376)? -/
def inputHolds (s : State) (kind n : Nat) : Bool :=
  match (if n = 0 then none else inputAt s n) with
  | none => false
  | some i =>
    if inFunc s n = 0 then false
    else if kind = 0x70 then (if inFunc s n = 3 then i.crash else !inOperate s i)
    else i.latched || (kind == 0x72 && !(decide (2 ≤ nth i.tpSound 0 0) && decide (2 ≤ nth i.tpSound 1 0))) ||
      (inFunc s n == 3 && i.crash)

/-- Is a Dolly of a die still withdrawn for a kind (R223, R241)? -/
def dollyHolds (s : State) (die kind j : Nat) : Bool :=
  match s.die? die with
  | some d => d.dollies.zipIdx.any fun p => (decide (j = 0) || p.2 + 1 == j) && p.1.withdrawn.contains kind
  | none => false

/-- Does the cause of a kind at a die persist (R413, R422)? A kind whose chapter states no persisting cause is gone. -/
def causePersists (s : State) (kind die detail : Nat) : Bool :=
  match kind with
  | 0x04 | 0x05 => (s.die? die).any fun d => !nth d.refOk (detail / 256) true
  | 0x24 => s.slates.noCurrent
  | 0x30 | 0x31 | 0x32 | 0x33 | 0x99 | 0x9A => dollyHolds s die kind (detail / 256)
  | 0x34 => dollyHolds s die kind 0
  | 0x5A => s.ring.lost
  | 0x70 | 0x71 | 0x72 => inputHolds s kind (detail / 256)
  | 0x73 => if detail = 0 then s.stage.overA else s.stage.overB
  | 0x74 | 0x75 => hvilEn s && decide (1 < s.stage.hvil)
  | 0x76 => !(s.stage.stuckLowAt.any fun t => decide (t + 10 * msT ≤ s.now)) || s.stage.fb1 || s.stage.fb2
  | 0x80 | 0x81 | 0x82 => decide (s.wd.good < 2)
  | 0x90 => compHolds s die detail false
  | 0x91 => compHolds s die detail true
  | 0x93 => (s.die? die).any fun d => d.openTaps.contains detail
  | 0x9C => (s.die? die).any fun d => d.thermOpen.contains detail
  | 0x9D => (s.die? die).any fun d => d.thermShort.contains detail
  | 0xA7 => if die = 0 then s.power.therm.fault else (s.die? die).any fun d => d.therm.fault
  | 0xC0 => bit s.life.degraded detail
  | _ => false

/-- Take a kind out of what keeps a Dolly of a die withdrawn; `j` 0 stands for all (R241). -/
def releaseDolly (s : State) (die j kind : Nat) : State :=
  [1, 2, 3, 4].foldl (fun s k =>
    if j = 0 ∨ j = k then s.updDolly die k fun y => { y with withdrawn := y.withdrawn.filter (· != kind) } else s) s

/-- A comparator is cleared (R207): its trip and the grace period it belongs to end (R383). -/
def clearComp (s : State) (die cell : Nat) (under : Bool) : State :=
  let s := s.updDie die fun d => { d with comps := updAt d.comps (cell - 1) fun c =>
    if under then { c with uvTrip := false, uvCount := 0 } else { c with ovTrip := false, ovCount := 0 } }
  { s with stage := { s.stage with
    graces := s.stage.graces.filter fun g => !(g.die == die && g.cell == cell && g.under == under) } }

/-- What the clear of one cause gives back (R120, R131, R207, R218, R221, R223, R241, R382). -/
def releaseCause (s : State) (die : Nat) (c : Cause) : State :=
  match c.kind with
  | 0x04 | 0x05 | 0x06 =>
    let ref := if c.kind = 0x06 then 2 else c.detail / 256
    s.updDie die fun d => { d with
      subKinds := if ref = 0 then d.subKinds.filter (· != c.kind) else d.subKinds
      fallback := d.fallback && ref != 1, noSupply := d.noSupply && ref != 2 }
  | 0x08 | 0x0A | 0x95 | 0x96 => s.updDie die fun d => { d with subKinds := d.subKinds.filter (· != c.kind) }
  | 0x97 | 0x98 => s.updDie die fun d => { d with unproven := false }
  | 0x09 | 0x30 | 0x31 | 0x32 | 0x33 | 0x99 | 0x9A => releaseDolly s die (c.detail / 256) c.kind
  | 0x34 => releaseDolly s die 0 c.kind
  | 0x76 => { s with stage := { s.stage with stuckLowAt := none } }
  | 0x90 => clearComp s die c.detail false
  | 0x91 => clearComp s die c.detail true
  | 0x93 =>
    let s := s.updDie die fun d => { d with openTaps := d.openTaps.filter (· != c.detail) }
    (dolliesOfTap c.detail).foldl (fun s j =>
      if (s.die? die).any fun d => d.openTaps.any fun t => (dolliesOfTap t).contains j then s else releaseDolly s die j 0x93) s
  | _ => s

/-- What the clear of a record gives back: every cause merged into it. A suppressed forced cause took nothing away, so the clear
changes nothing for it. -/
def afterClear (s : State) (r : FRec) : State :=
  let die := r.msg.toNat / 2 ^ 29
  r.causes.foldl (fun s c => releaseCause s die c) s

/-- Does the Studio sleep (R448)? -/
def studioAsleep (s : State) : Bool := s.power.studioAsleep

/-- A doorbell wakes the Studio; its checkpoint windows start afresh (R448). -/
def wakeStudio (s : State) : State :=
  if s.power.studioAsleep then
    { s with power := { s.power with studioAsleep := false, lastReply := s.now }
             sup := { s.sup with counts := List.replicate 16 0 } }
  else s

/-- Does the host port sleep: HOSTPORT is off in SLEEP and SHIP, under a brown-out and after C's thermal stop (R446, R453, R456, R467)? -/
def portAsleep (s : State) : Bool :=
  s.power.state == .sleep || s.power.state == .ship || s.aon.brownOut || s.aon.cStopped

/-- RAWCTL.RAWON and RAWDIE as they read (R56). -/
def rawctlLow (s : State) : Nat := if s.slates.rawDie = 0 then 0 else 1 + 2 * s.slates.rawDie

/-- An urgent request is dropped (R61). -/
def urgDropped (s : State) : State :=
  ({ s with port := { s.port with urgDrop := BitVec.ofNat 16 (sat 16 (s.port.urgDrop.toNat + 1)) } }).setIrq irqUrg

end Sys2Proof.Machine
end

