-- ==== Sys2Proof/Machine/Collector.lean ====
section
/-! DEFINITION. The fault collector (R402 to R417, R565, R566): one message is recorded or merged and its class reaction
executed. -/
namespace Sys2Proof.Machine

/-- The fields of a fault message (R402). -/
def faultMsg (die block kind detail : Nat) : BitVec 32 :=
  BitVec.ofNat 32 ((die % 8) * 2 ^ 29 + (block % 32) * 2 ^ 24 + (kind % 256) * 2 ^ 16 + detail % 65536)
def msgSource (m : BitVec 32) : Nat := m.toNat / 2 ^ 24
def msgDie (m : BitVec 32) : Nat := m.toNat / 2 ^ 29
def msgBlock (m : BitVec 32) : Nat := m.toNat / 2 ^ 24 % 32
def msgKind (m : BitVec 32) : Nat := m.toNat / 2 ^ 16 % 256
def msgDetail (m : BitVec 32) : Nat := m.toNat % 65536

/-- The class that a message of a kind has now: the reaction table, but for COMP_OV and COMP_UV the safety configuration
(R405, R566). -/
def classOf (s : State) (kind : Nat) : Nat :=
  if kind = 0x90 then (if cfg8 s 6 = 1 then 1 else 3)
  else if kind = 0x91 then (if cfg8 s 7 = 1 then 1 else 3)
  else nth s.faults.table kind 0

/-- A Dailies entry enters the flash queue if the bucket allows it (R431). `strong` marks entries of class WARN or higher,
start markers and evidence. -/
def dailiesPut (s : State) (e : DEntry) (strong : Bool) : State :=
  if s.dailies.bucket = 0 ∨ (s.dailies.bucket < 64 ∧ strong = false) then
    { s with dailies := { s.dailies with dropped := s.dailies.dropped + 1 }
             nv := { s.nv with dailiesDropped := s.nv.dailiesDropped + 1 } }
  else
    flashPush { s with dailies := { s.dailies with bucket := s.dailies.bucket - 1 }
                       nv := { s.nv with dseq := s.nv.dseq + 1 } } (.dailies { e with dseq := s.nv.dseq })

/-- A Dailies entry enters the region; a full region loses its oldest sector of 85 (R429). -/
def dailiesStore (s : State) (e : DEntry) : State :=
  { s with nv := { s.nv with dailies := (if 3910 ≤ s.nv.dailies.length then s.nv.dailies.drop 85 else s.nv.dailies) ++ [e] } }

/-- The Dailies entries that wait behind the first `n` flash jobs enter the region, and those jobs stay (DESIGN CHOICE, log entry 153). -/
def keepDailies (s : State) (n : Nat) : State :=
  (s.flash.jobs.drop n).foldl (fun u j => match j with
    | .dailies e => dailiesStore u e
    | _ => u) { s with flash := { s.flash with jobs := s.flash.jobs.take n } }

/-- RFLAGS of a record; `cause` says whether a cause of it persists (R409). -/
def rflags (r : FRec) (cause : Bool) : Nat :=
  b2n r.forced + 2 * b2n r.real + 4 * b2n r.open_ + 8 * b2n cause + 16 * b2n r.suppressed + 32 * b2n r.carried +
    64 * b2n r.decide_

/-- The 32 bytes of a record (R409). -/
def frecBytes (r : FRec) (cause : Bool) : List Byte :=
  le 4 r.recid ++ le 4 r.msg.toNat ++ le 8 r.first ++ le 8 r.last ++ le 1 r.lastKind ++ le 1 r.cls ++ le 2 r.lastDetail ++
    le 2 r.merges ++ le 1 (rflags r cause) ++ le 1 r.hostAct

/-- Write the Dailies entry of a record's open or close (R430, R431). -/
def dailiesRecord (s : State) (r : FRec) (dtype : Nat) : State :=
  dailiesPut s
    { dseq := 0, at_ := s.packTime, source := msgSource r.msg, kind := msgKind r.msg, dtype := dtype
      dflags := b2n r.forced + 2 * b2n r.real + 4 * b2n r.carried + 8 * b2n (!s.chain.locked)
      data := (frecBytes r false).take 28 } (decide (1 ≤ r.cls))

/-- The payload of a record of type 0x0A (R412). -/
def faultPayload (s : State) (r : FRec) (event cls : Nat) : List Byte :=
  le 4 r.msg.toNat ++ le 8 s.packTime ++ le 1 event ++ le 1 cls ++ zeros 2

/-- Write the stream record of a record's open or close; a member also sends it to the heads (R404, R412). -/
def faultRecordOut (s : State) (r : FRec) (event cls : Nat) : State :=
  let p := faultPayload s r event cls
  toHeads (streamPut s 0x0A 0 p) 0x07 p

/-- How a message reaches the collector: forced, suppressed, until when a forced cause persists. -/
structure MsgKind where
  forced : Bool
  suppressed : Bool
  until_ : Tick
  deriving DecidableEq, Repr

/-- A real message. -/
def realMsg : MsgKind := { forced := false, suppressed := false, until_ := 0 }

/-- The reaction of a class (R405): IRQ, withdrawal, outputs and alarm, FATAL stop. -/
def reaction (s : State) (cls : Nat) (msg : BitVec 32) : State :=
  let s := if 1 ≤ cls then s.setIrq irqFault else s
  let s := if 3 ≤ cls ∨ (cls = 2 ∧ (s.faults.hostMode = false ∨ ownKind (msgKind msg))) then
      withdraw s (msgKind msg) (msgDie msg) (msgDetail msg) else s
  let s := if 3 ≤ cls then alarmSend (openOutputs s (causeMask s cls (msgKind msg) (msgDetail msg))) msg else s
  if cls = 4 then fatalStop s else s

/-- Does the record of a message wait for FAULT_DECIDE (R408)? -/
def waitsDecision (s : State) (cls kind : Nat) : Bool := cls == 2 && s.faults.hostMode && hasWithdrawal kind

/-- A new open record of a message. -/
def newRec (s : State) (msg : BitVec 32) (cls : Nat) (k : MsgKind) : FRec :=
  { recid := s.faults.nextId, msg := msg, first := s.packTime, last := s.packTime, lastKind := msgKind msg, cls := cls
    lastDetail := msgDetail msg, merges := 0, forced := k.forced, real := !k.forced, open_ := true
    suppressed := k.suppressed, carried := false, decide_ := !k.suppressed && waitsDecision s cls (msgKind msg), hostAct := 0
    causes := [{ kind := msgKind msg, detail := msgDetail msg, forced := k.forced, carried := false, until_ := k.until_ }]
    heard := s.now }

/-- The record after a message of its source is merged into it (R410, R417). -/
def mergeRec (s : State) (r : FRec) (msg : BitVec 32) (cls : Nat) (k : MsgKind) : FRec :=
  { r with
    merges := sat 16 (r.merges + 1), last := s.packTime, lastKind := msgKind msg, lastDetail := msgDetail msg
    cls := max r.cls cls, forced := r.forced || k.forced, real := r.real || !k.forced
    suppressed := r.suppressed || k.suppressed
    decide_ := if 3 ≤ max r.cls cls then false else r.decide_ || (!k.suppressed && waitsDecision s cls (msgKind msg))
    causes := r.causes.filter (fun c => !(c.kind == msgKind msg && c.detail == msgDetail msg && c.forced == k.forced)) ++
      [{ kind := msgKind msg, detail := msgDetail msg, forced := k.forced, carried := false, until_ := k.until_ }]
    heard := s.now }

/-- A fatal record also goes to C's always-on domain (R414). -/
def keepFatal (s : State) (r : FRec) : State :=
  if r.cls = 4 then { s with aon := { s.aon with carried := s.aon.carried ++ [{ r with carried := true }] } } else s

/-- Open a record for a message and write it out (R409, R412, R431). -/
def openRec (s : State) (r : FRec) : State :=
  let s := { s with faults := { s.faults with open_ := s.faults.open_ ++ [r], nextId := s.faults.nextId + 1 } }
  let s := if 1 ≤ r.cls then faultRecordOut s r 0 r.cls else s
  keepFatal (if 1 ≤ r.cls then dailiesRecord s r 0 else s) r

/-- Merge a message into an open record, and write the record when the merge brings it to WARN or higher (R410, R412). -/
def mergeInto (s : State) (r r' : FRec) : State :=
  let s := { s with faults := { s.faults with open_ := upd s.faults.open_ (fun x => x.recid == r.recid) fun _ => r' } }
  let s := if r.cls = 0 ∧ 1 ≤ r'.cls then dailiesRecord (faultRecordOut s r' 0 r'.cls) r' 0 else s
  if r.cls < 4 then keepFatal s r' else s

/-- A message whose record decision let the withdrawal wait executes it when the class rises (R408, R410). -/
def releaseWaiting (s : State) (r r' : FRec) : State :=
  if r.decide_ ∧ 3 ≤ r'.cls then
    r.causes.foldl (fun s c => withdraw s c.kind (msgDie r.msg) c.detail) s
  else s

/-- Does a merged message execute its reaction (R410, R415 to R417)? A higher class, or a real message in a record that held
only forced ones, executes it; a forced message in a record with a real cause does not. -/
def mergeReacts (r : FRec) (cls : Nat) (k : MsgKind) : Bool :=
  !k.suppressed && !(k.forced && r.real) && (decide (r.cls < cls) || (!k.forced && !r.real))

/-- Does a merged message of the same or a lower class execute its withdrawal again, for a further Dolly, tap or die (R408, R410)? -/
def mergeWithdraws (s : State) (cls kind : Nat) (k : MsgKind) : Bool :=
  !k.suppressed && !k.forced && (decide (3 ≤ cls) || (cls == 2 && (!s.faults.hostMode || ownKind kind)))

/-- A record that is suppressed raises HIRQ even though its reaction does not execute (R416). -/
def suppressedIrq (s : State) : State := s.setIrq irqFault

/-- Record a message of a source that has no open record while there is room for it. -/
def collectNew (s : State) (msg : BitVec 32) (k : MsgKind) : State :=
  let cls := classOf s (msgKind msg)
  let r := newRec s msg cls k
  let s := openRec s r
  if k.suppressed then suppressedIrq s else reaction s cls msg

/-- Merge a message into the open record of its source. -/
def collectMerge (s : State) (r : FRec) (msg : BitVec 32) (k : MsgKind) : State :=
  let cls := classOf s (msgKind msg)
  let r' := mergeRec s r msg cls k
  let s := releaseWaiting (mergeInto s r r') r r'
  if k.suppressed then suppressedIrq s
  else if mergeReacts r cls k then reaction s cls msg
  else if mergeWithdraws s cls (msgKind msg) k then withdraw s (msgKind msg) (msgDie msg) (msgDetail msg) else s

/-- The open record of a source. -/
def openOf (s : State) (source : Nat) : Option FRec := s.faults.open_.find? fun r => msgSource r.msg == source

/-- A message that finds 64 open records: its reaction executes and it is merged into the overflow record (R411). -/
def collectOverflow (s : State) (msg : BitVec 32) (k : MsgKind) : State :=
  let o := faultMsg 0 8 0x88 (msgSource msg)
  let s := if k.suppressed then suppressedIrq s else reaction s (classOf s (msgKind msg)) msg
  match openOf s 8 with
  | some r => collectMerge s r o realMsg
  | none => collectNew s o realMsg

/-- The collector receives one message (R405, R410, R411). -/
def collect (s : State) (msg : BitVec 32) (k : MsgKind) : State :=
  match openOf s (msgSource msg) with
  | some r => collectMerge s r msg k
  | none => if s.faults.open_.length < 64 then collectNew s msg k else collectOverflow s msg k

/-- One dropped record raises STREAM_DROP with the package and the run of its drops (R89). -/
def raiseDrop (s : State) (pkg : Nat) : State := collect s (faultMsg 0 0 0xD4 (256 * pkg + sat 8 (dropRun s pkg))) realMsg

/-- Every STREAM_DROP that dropped records owe is raised (R79, R89). A drop of the record that tells of a drop is raised with the next one
(log entry 13). -/
def settle (s : State) : State := s.stream.owed.foldl raiseDrop { s with stream := { s.stream with owed := [] } }

/-- A block of a die raises a fault kind (R402, R564). The message reaches the collector within the step (log entry 14). -/
def raise (s : State) (die block kind detail : Nat) : State := settle (collect s (faultMsg die block kind detail) realMsg)

/-- A record enters with CARRIED set: recorded and written, its reaction not executed again; into the open record of its source
where one is open (R410, R565). -/
def collectCarried (s : State) (r : FRec) : State :=
  let cs := r.causes.map fun c => { c with carried := true }
  match openOf s (msgSource r.msg) with
  | some o =>
    let o' := { o with
      merges := sat 16 (o.merges + 1), last := r.last, lastKind := r.lastKind, lastDetail := r.lastDetail
      cls := max o.cls r.cls, carried := true, causes := o.causes ++ cs, heard := s.now }
    let s := mergeInto s o o'
    if 1 ≤ r.cls then s.setIrq irqFault else s
  | none =>
    let r := { r with recid := s.faults.nextId, carried := true, open_ := true, decide_ := false, causes := cs, heard := s.now }
    let s := { s with faults := { s.faults with open_ := s.faults.open_ ++ [r], nextId := s.faults.nextId + 1 } }
    if 1 ≤ r.cls then (dailiesRecord (faultRecordOut s r 0 r.cls) r 0).setIrq irqFault else s

/-- Does one cause of a record of a die persist (R413, R415, R565)? -/
def causeHolds (s : State) (die : Nat) (c : Cause) : Bool :=
  if c.forced then decide (s.now < c.until_)
  else if c.carried && !(c.kind == 0x90 || c.kind == 0x91) then false
  else causePersists s c.kind die c.detail

/-- Does any cause of a record persist (R413)? -/
def recPersists (s : State) (r : FRec) : Bool := r.causes.any fun c => causeHolds s (msgDie r.msg) c

/-- Close a record: into the ring of 256, out to the stream, into the Dailies (R409, R412, R431). -/
def closeRec (s : State) (r : FRec) : State :=
  let r' := { r with open_ := false, decide_ := false }
  let s := { s with faults := { s.faults with
    open_ := s.faults.open_.filter fun x => x.recid != r.recid
    closed := (s.faults.closed ++ [r']).drop (s.faults.closed.length + 1 - 256) } }
  let s := if 1 ≤ r.cls then faultRecordOut s r' 1 r.cls else s
  afterClear (dailiesRecord s r' 1) r'

/-- Open records of class SAFE or FATAL, each an active cause for R366 and R379 (R416, R565). -/
def activeCauses (s : State) : List FRec := s.faults.open_.filter fun r => decide (3 ≤ r.cls)

/-- A transfer ends, with the STREAM_DROP of an end record that found no room (R79, R89, R239). -/
def endFree (s : State) (die j endc : Nat) : State := settle (stopFree s die j endc)

/-- A transfer ends with its measured charge and loss. -/
def endMeasured (s : State) (die j endc : Nat) (q : Int) (loss : Nat) : State := settle (stopDolly s die j endc q loss)

/-- Every transfer of a die ends (R239). -/
def endDie (s : State) (die endc : Nat) : State := settle (stopDie s die endc)

/-- Every transfer of the part ends (R239). -/
def endAll (s : State) (endc : Nat) : State := settle (stopAllDollies s endc)

/-- Write a record; a dropped one raises STREAM_DROP with the run of its package (R79, R89). -/
def streamRec (s : State) (type pkg : Nat) (payload : List Byte) : State := settle (streamPut s type pkg payload)

end Sys2Proof.Machine
end

