-- ==== Sys2Proof/Machine/Mailbox.lean ====
section
/-! DEFINITION. Replies, operations, the gate that every mailbox command passes and the session proof (R67, R70 to R74, R82,
R308, R388, R501, R511). -/
namespace Sys2Proof.Machine

/-- Status codes (R72). -/
abbrev stOk : Nat := 0x00
abbrev stCompletedBeforeAbort : Nat := 0x01
abbrev stAborted : Nat := 0x02
abbrev stConflict : Nat := 0x03
abbrev stQueued : Nat := 0x04
abbrev stRejected : Nat := 0x05
abbrev stAuthFailed : Nat := 0x06
abbrev stNotFitted : Nat := 0x07
abbrev stStillActive : Nat := 0x08
abbrev stBusy : Nat := 0x09
abbrev stUnknown : Nat := 0x0A
abbrev stFrameInvalid : Nat := 0x0B
abbrev stWrongMailbox : Nat := 0x0C

/-- A reply of a command. -/
def mkReply (h : Hdr) (op status : Nat) (result : List Byte) : Reply :=
  { origin := h.origin, prio := h.prio, opcode := op, tag := h.tag, status := status, source := h.target
    result := result, final := status != stQueued }

/-- A reply enters the engine's queue (R67). -/
def reply (s : State) (h : Hdr) (op status : Nat) (result : List Byte) : State :=
  { s with mail := { s.mail with replies := s.mail.replies ++ [mkReply h op status result] } }

/-- A refusal: a status without a result. FRAME_INVALID is recorded with the frame's TAG (R89, log entry 38). -/
def refuse (s : State) (h : Hdr) (op status : Nat) : State :=
  if status = stFrameInvalid then raise (reply s h op status []) 0 0 0xD3 h.tag else reply s h op status []

/-- Is this operation the one of a header? -/
def Op.is (o : Op) (h : Hdr) : Bool := o.origin == h.origin && o.prio == h.prio && o.tag == h.tag

/-- The open operation of a header. -/
def opOf (s : State) (h : Hdr) : Option Op := s.mail.ops.find? fun o => o.is h

/-- Open an operation: reply QUEUED, or RESOURCE_BUSY while 8 of that priority are open (R70). -/
def startOp (s : State) (h : Hdr) (op : Nat) (body : State → State) : State :=
  if 8 ≤ (s.mail.ops.filter fun o => o.prio == h.prio).length then refuse s h op stBusy
  else
    let o : Op := { origin := h.origin, prio := h.prio, tag := h.tag, opcode := op, source := h.target, stop := false }
    body (reply { s with mail := { s.mail with ops := s.mail.ops ++ [o] } } h op stQueued [])

/-- Remove the open operation of a header. -/
def dropOp (s : State) (h : Hdr) : State :=
  { s with mail := { s.mail with ops := s.mail.ops.filter fun o => !o.is h } }

/-- The final status of an operation that completes: once its abort was accepted it is ABORTED (R82). -/
def finalStatus (o : Op) (status : Nat) : Nat := if o.stop then stAborted else status

/-- An operation completes: its completion reply with the final status (R70). Nothing where it is no longer open. -/
def completeOp (s : State) (h : Hdr) (status : Nat) (result : List Byte) : State :=
  match opOf s h with
  | none => s
  | some o =>
    let st := finalStatus o status
    reply (dropOp s h) h o.opcode st (if st = status then result else [])

/-- An operation ends with the flash step that was in progress at its abort (R82). -/
def completeOpFlash (s : State) (h : Hdr) (result : List Byte) : State :=
  match opOf s h with
  | none => s
  | some o => reply (dropOp s h) h o.opcode (if o.stop then stCompletedBeforeAbort else stOk) result

/-- The mailboxes in which a class is accepted (R71). -/
def classMailboxes (cls : Nat) : List Nat :=
  match cls with
  | 0x09 | 0x0A => [0, 1, 3]
  | 0x0C => [2, 3]
  | 0x0D => [3]
  | _ => [1, 2, 3]

/-- Commands that Tadpole accepts (R501). -/
def tadpoleAccepts (op : Nat) : Bool := [0x0101, 0x0C01, 0x0C02, 0x0C03, 0x0C04, 0x0C05, 0x0C06].contains op

/-- Commands that a part in SCRAP accepts (R511). -/
def scrapAccepts (op : Nat) : Bool := [0x0101, 0x0102, 0x0D01, 0x0A01].contains op || op / 256 == 0x0E

/-- The status with which the engine turns a command away before it executes (R71, R73, R308, R501, R504, R511). -/
def gate (s : State) (h : Hdr) (op : Nat) : Option Nat :=
  if s.sup.recovery && !tadpoleAccepts op then some stRejected
  else if !s.sup.recovery && !s.sup.ready then some stBusy
  else if !(classMailboxes (op / 256)).contains h.prio then some stWrongMailbox
  else if s.life.state = 5 && !scrapAccepts op then some stRejected
  else if op / 256 = 0x0C && op != 0x0C06 && (s.power.state == .sleep || s.power.state == .ship) then some stRejected
  else if s.chain.badHead && h.origin == 0 && op / 256 != 1 && op / 256 != 7 then some stRejected
  else none

/-- Take the command out of the queue of waiting commands (R69). -/
def dequeue (s : State) (h : Hdr) (op : Nat) : State :=
  { s with mail := { s.mail with waiting := s.mail.waiting.eraseP fun w => w.hdr == h && w.opcode == op } }

/-- The command that starts next: the oldest of the highest priority that waits (R69). -/
def nextStart (s : State) : Option Waiting :=
  ((List.range 4).filterMap fun n => s.mail.waiting.find? fun w => w.hdr.prio == n).head?

/-- Is it a command's turn: does it not wait in the queue, or is it the one that starts next (R69; log entry 128)? -/
def turn (s : State) (h : Hdr) (op : Nat) : Bool :=
  !(s.mail.waiting.any fun w => w.hdr == h && w.opcode == op) || (nextStart s).any fun w => w.hdr == h && w.opcode == op

/-- Execute a mailbox command: at its turn it leaves the queue, passes the gate, and has its effect or the gate's status. -/
def runCmd (s : State) (h : Hdr) (op : Nat) (body : State → State) : State :=
  if !turn s h op then s
  else
    let s := dequeue s h op
    match gate s h op with
    | some st => refuse s h op st
    | none => body s

/-- Which head sent a command: 0 the head at this port, otherwise the address of another (R83, R387). -/
def headOf (h : Hdr) : Nat := h.origin

/-- The open session of a head (R387). -/
def sessionOf (s : State) (head : Nat) : Option Session := s.safety.sessions.find? fun x => x.head == head

/-- The bytes that the MAC of a proof covers (R388): frame bytes 0 to 7, the parameters before the proof, and n. -/
def proofMessage (h : Hdr) (op : Nat) (pre : List Byte) (n : Nat) : List Byte :=
  le 2 op ++ le 2 h.tag ++ le 2 (pre.length + 16) ++ le 1 h.target ++ [0] ++ pre ++ le 4 n

/-- Does the Keeper accept a proof: of the open session, which 60 s without one end (R388, R389)? -/
def proofGood (s : State) (h : Hdr) (op : Nat) (pre : List Byte) (p : Proof) : Bool :=
  match sessionOf s (headOf h) with
  | none => false
  | some x => decide (s.now < x.lastProof + 60 * secT) && x.number == p.session && decide (x.lastN < p.count) &&
      p.mac == (Config.hmac x.key (proofMessage h op pre p.count)).take 8

/-- An accepted proof moves the session's count and its time-out (R388, R389). -/
def useProof (s : State) (h : Hdr) (p : Proof) : State :=
  { s with safety := { s.safety with
    sessions := upd s.safety.sessions (fun x => x.head == headOf h) fun x => { x with lastN := p.count, lastProof := s.now } } }

/-- A session command: AUTH_FAILED without effect unless the proof is accepted (R388). -/
def withProof (s : State) (h : Hdr) (op : Nat) (pre : List Byte) (p : Proof) (body : State → State) : State :=
  if proofGood s h op pre p then body (useProof s h p) else refuse s h op stAuthFailed

/-- Host identity of the session of a head, 0 without one. -/
def sessionHost (s : State) (h : Hdr) : Nat := ((sessionOf s (headOf h)).map (·.host)).getD 0

/-- Accept a mode switch (R32, R33): it becomes an operation, an earlier switch of the same function from the same head
completes with ABORTED, and while sweeps are stopped it takes effect at acceptance. -/
def queueSwitch (s : State) (h : Hdr) (op func : Nat) (x : Setting) : State :=
  startOp s h op fun s =>
    let old := s.mail.switches.filter fun w => w.func == func && headOf w.hdr == headOf h
    let s := old.foldl (fun s w => completeOp s w.hdr stAborted []) s
    { s with mail := { s.mail with
      switches := (s.mail.switches.filter fun w => !(w.func == func && headOf w.hdr == headOf h)) ++
        [{ hdr := h, opcode := op, setting := x, func := func, acceptedAt := s.now }] } }

end Sys2Proof.Machine
end

