-- ==== Sys2Proof/Machine/Modes.lean ====
section
/-! DEFINITION. Filter restarts, the end of an impedance session, what an abort or a warm restart discards, and the mode switches
with what each does at its boundary (R29 to R33, R82, R106, R115, R141, R248, R283, R408). -/
namespace Sys2Proof.Machine

/-- A package-wide filter restart (R141): Take counting starts again. -/
def restartFilters (s : State) : State :=
  { s with
    segs := s.segs.map fun d => { d with hist := List.replicate 32 [], restartAt := d.sweepNo }
    sweep := { s.sweep with sinceRestart := 0 }
    slates := { s.slates with curHist := [], skips := [] } }

/-- A die-only filter restart (R141). -/
def restartDie (s : State) (die : Nat) : State :=
  s.updDie die fun d => { d with hist := List.replicate 32 [], restartAt := d.sweepNo }

/-- Is a transfer one that the impedance engine or an operation runs, not balancing? -/
def DollyTransfer.modulates (t : DollyTransfer) : Bool := t.mode == 3 && t.hdr.isNone && !t.check

/-- End every transfer that satisfies a test. -/
def stopWhere (s : State) (p : DollyTransfer → Bool) (endc : Nat) : State :=
  s.segs.foldl (fun s d => [1, 2, 3, 4].foldl (fun s j =>
    if ((d.dolly? j).bind (·.transfer)).any p then endFree s d.code j endc else s) s) s

/-- Points of a definition (R274). -/
def ImpDef.points (d : ImpDef) : Nat := d.rounds * d.freqs.length

/-- The result bytes of a START_SESSION completion (R285). -/
def sessionResult (number next endc : Nat) : List Byte := le 2 number ++ le 2 next ++ le 1 endc ++ zeros 3

/-- The status that goes with an END of a session (R285). -/
def sessionStatus (endc : Nat) : Nat := if endc = 0 then stOk else if endc ≤ 2 then stAborted else 0x85

/-- The running session ends with an END code (R283, R285, R287): the point in progress is discarded, modulating Dollies ramp to zero
unless the Studio restarts, and an interruption is recorded. -/
def endSession (s : State) (endc : Nat) : State :=
  match s.imp.run with
  | none => s
  | some r =>
    let s := if endc = 2 then s else stopWhere s DollyTransfer.modulates 8
    let s := { s with imp := { s.imp with run := none, next := r.point, bad := [] } }
    let s := if 3 ≤ endc then raise s 0 18 0x42 (256 * endc + r.point % 256) else s
    let n := (s.imp.def_.map (·.number)).getD 0
    match opOf s r.hdr with
    | none => s
    | some o => reply (dropOp s r.hdr) r.hdr o.opcode (sessionStatus endc) (sessionResult n r.point endc)

/-- Prepared planner items are discarded; released ones run on (R29). -/
def discardPlans (s : State) : State :=
  { s with
    balance := { s.balance with items := s.balance.items.filter (·.released) }, slates := { s.slates with late := [] } }

/-- Every planner item is discarded; the transfers that run go on to their ends, and no new action starts until the planner runs again
(R29). -/
def stopPlanner (s : State) : State :=
  { s with balance := { s.balance with items := [], planned := false }, slates := { s.slates with late := [] } }

/-- The header under which an operation was opened. -/
def Op.hdr (o : Op) : Hdr := { origin := o.origin, prio := o.prio, tag := o.tag, target := o.source }

/-- An activation in a configuration frame (R490, R297): 1 arm, 3 cancel, 6 answer; targets, activation time (log entry 62). -/
def armFrame (code tmask at_ : Nat) : List Byte := le 1 code ++ le 1 tmask ++ zeros 2 ++ le 8 at_

/-- The abort of an ACTIVATE before its commit point cancels it on every package covered (R492). -/
def cancelArmed (s : State) (h : Hdr) : State :=
  match s.fw.activation with
  | some a =>
    if a.hdr = some h ∧ a.committed = false ∧ a.scope = 1 then sendFrame s 0x0E 0xFF 2 false false (armFrame 3 a.tmask a.at_) else s
  | none => s

/-- The operation that a flash job belongs to. -/
def FlashJob.hdr? : FlashJob → Option Hdr
  | .safetyImage p _ => some p.hdr
  | .calRecords _ x _ => x
  | .calErase _ _ _ x => some x
  | .dailies _ => none
  | .reactionTable _ _ => none

/-- The flash jobs that an aborted operation leaves: its steps not yet begun are taken out (R82). -/
def jobsLeft (h : Hdr) : List FlashJob → List FlashJob
  | [] => []
  | j :: r => j :: r.filter fun x => x.hdr? != some h

/-- The work of one operation, dropped at its stop point (R29, R82). -/
def cancelWork (s : State) (h : Hdr) : State :=
  let s := cancelArmed (stopWhere s (fun t => t.hdr == some h) 3) h
  let s := match s.cal.taps with
    | some t => if t.hdr == h then
        (t.dies.filter fun c => !t.failed.contains c).foldl restartDie { s with cal := { s.cal with taps := none } } else s
    | none => s
  { s with
    mail := { s.mail with switches := s.mail.switches.filter fun w => w.hdr != h }
    flash := { s.flash with jobs := jobsLeft h s.flash.jobs }
    faults := { s.faults with clearing := s.faults.clearing.filter fun c => c.hdr != h }
    sweep := { s.sweep with
      stops := s.sweep.stops.filter fun x => x != h
      startPending := if s.sweep.startPending == some h then none else s.sweep.startPending }
    slates := { s.slates with reads := s.slates.reads.filter fun r => r.hdr != h }
    cal := { s.cal with
      capture := s.cal.capture.filter fun c => c.hdr != h
      waiting := s.cal.waiting.map fun w => if w.2.1 == some h then (w.1, none, w.2.2) else w }
    sense := { s.sense with runs := s.sense.runs.filter fun r => r.hdr != h }
    imp := { s.imp with reads := s.imp.reads.filter (fun r => r.hdr != h), orders := s.imp.orders.filter fun o => o.hdr != h }
    chain := { s.chain with
      enumerating := s.chain.enumerating.filter fun e => e.1 != h
      timebaseOp := s.chain.timebaseOp.filter fun t => t != h
      services := s.chain.services.filter fun x => x.1 != h }
    power := { s.power with
      scrub := s.power.scrub.filter fun c => c.hdr != some h
      chainMove := s.power.chainMove.filter fun m => m.1.hdr != some h }
    fw := { s.fw with activation := s.fw.activation.filter fun a => a.committed || a.hdr != some h }
    mport := { s.mport with reqs := s.mport.reqs.filter fun r => r.hdr != h }
    dailies := { s.dailies with reads := s.dailies.reads.filter fun r => r.1 != h } }

/-- An operation is stopped before its work ended: its completion carries ABORTED, and for a session its END (R82, R285). -/
def abortOp (s : State) (o : Op) (endc : Nat) : State :=
  if (s.imp.run.map (·.hdr)) = some o.hdr then endSession s endc
  else completeOp (cancelWork s o.hdr) o.hdr stAborted []

/-- Is an operation of the calibration session, which a warm restart of the Studio closes (R182, log entry 15)? -/
def calOp (op : Nat) : Bool := op / 256 == 4

/-- What a warm restart of the Studio discards (R29, R283): all planner items, the impedance lock-in in progress, and the calibration session
with its open operations, which end with ABORTED (log entry 15). Everything else stays. -/
def warmDiscard (s : State) : State :=
  let s := stopPlanner (endSession s 2)
  let s := { s with cal := { s.cal with session := none } }
  s.mail.ops.foldl (fun s o => if calOp o.opcode then abortOp s o 2 else s) s

/-- What SET_REACTION_MODE does at its boundary: at the switch to hardware mode every record that waits executes its withdrawal
(R408, R433). -/
def reactionModeSet (s : State) (mode : Nat) : State :=
  let recs := s.faults.open_
  let s := { s with faults := { s.faults with hostMode := mode == 1 } }
  if mode = 1 then s
  else
    recs.foldl (fun s r =>
      if r.decide_ then
        r.causes.foldl (fun s c => withdraw s c.kind (msgDie r.msg) c.detail)
          { s with faults := { s.faults with
            open_ := upd s.faults.open_ (fun x => x.recid == r.recid) fun x => { x with decide_ := false } } }
      else s) s |> settle

/-- The die that streams raw results changes; the die that streamed before returns with a die-only restart (R141, R172). -/
def rawDieSet (s : State) (die : Nat) : State :=
  let old := s.slates.rawDie
  let s := { s with slates := { s.slates with rawDie := die } }
  if old = die ∨ old = 0 then s else restartDie s old

/-- The limit of a die's running currents in mA (R250, R253). -/
def dieLimit (s : State) (d : SegDie) : Nat :=
  if s.balance.hostCaps then ((s.balance.derate.find? fun e => e.die == d.code).map (·.cap)).getD d.limit else d.limit

/-- A running transfer under a limit: at most the limit, and back with it. A MODULATE lowers its amplitude so that its running peak equals the limit
(R250, R253, R265). -/
def DollyTransfer.limited (now : Tick) (limit : Nat) (t : DollyTransfer) : DollyTransfer :=
  let r := min t.set_ (if t.mode = 3 then min 3000 limit else limit)
  { t with
    running := r, ran := t.ran + t.running * (now - t.ranAt), ranAt := now
    iamp := if t.mode ≠ 3 then t.iamp else if r < t.set_ then t.want * r / t.set_ else t.want }

/-- Is a MODULATE clipped: does its running peak stand below its setting (R265)? -/
def DollyTransfer.clipped (t : DollyTransfer) : Bool := t.mode == 3 && decide (t.running < t.set_)

/-- The transfers of a die move to a limit; a MODULATE that it clips anew is recorded while C is there to hear of it (R250, R253, R265, R287). -/
def limitDie (s : State) (die limit : Nat) : State :=
  match s.die? die with
  | none => s
  | some d =>
    let s' := s.updDie die fun d => { d with dollies := d.dollies.map fun y => { y with transfer := y.transfer.map (·.limited s.now limit) } }
    let moved := d.dollies.any fun y => y.transfer.any fun t => t.mode != 3 && (t.limited s.now limit).running != t.running
    let s' := if moved then dollyChanged s' die else s'
    [1, 2, 3, 4].foldl (fun s j =>
      match (d.dolly? j).bind (·.transfer) with
      | some t =>
        if !t.clipped && (t.limited s.now limit).clipped && s.power.state == .run then raise s die (2 + j) 0x44 (256 * j + t.cell) else s
      | none => s) s'

/-- The caps or the derating mode change: every running transfer takes its limit (R253). -/
def limitAll (s : State) : State := s.segs.foldl (fun s d => limitDie s d.code (dieLimit s d)) s

/-- A table that uses the external reference for the first time starts its bound of 10 ms (R118). -/
def firstUse (now : Tick) (d : SegDie) (entries : List SeqEntry) : SegDie :=
  if (entries.any fun e => e.ref == 1) && !(d.seq.any fun e => e.ref == 1) then { d with refAt := d.refAt.set 1 now } else d

/-- Linear interpolation of a current between two samples. -/
def interp2 (a b : CurSample) (t : Nat) : Int :=
  if b.at_ ≤ a.at_ then a.ma else a.ma + divRound ((b.ma - a.ma) * ((t : Int) - a.at_)) (b.at_ - a.at_)

/-- The integral of the current up to a pack time, in doubled mA·ticks: trapezoids between samples, the last current held (R145, R166). -/
def integralAt : List CurSample → Nat → Option Int
  | [], _ => none
  | [a], t => some (a.int_ + 2 * a.ma * ((t : Int) - a.at_))
  | b :: a :: r, t =>
    if b.at_ ≤ t then some (b.int_ + 2 * b.ma * ((t : Int) - b.at_))
    else if a.at_ ≤ t then some (a.int_ + (a.ma + interp2 a b t) * ((t : Int) - a.at_))
    else integralAt (a :: r) t

/-- Doubled mA·ticks in one mAs: twice 10^8 ticks a second. -/
abbrev mAsUnit : Nat := 2 * secT

/-- The samples that CHARGE integrates: the auxiliary substitute's where IRSRC names one, else the current source's stream (R166, R187). -/
def chargeSamples (s : State) : List CurSample := if s.slates.irsrc = 1 then s.slates.subst else s.slates.stream

/-- IRSRC changes what CHARGE integrates: the total goes on from the last sample of the old source (R166, R187). -/
def chargeFrom (s : State) (old : List CurSample) : State :=
  match old with
  | a :: _ =>
    { s with slates := { s.slates with
      preset := s.slates.preset + a.int_ - s.slates.zeroInt, zeroInt := (integralAt (chargeSamples s) a.at_).getD 0 } }
  | [] => { s with slates := { s.slates with zeroInt := ((chargeSamples s).head?.map (·.int_)).getD 0 } }

/-- SET_ALIGNMENT at its boundary (R144 to R149, R187): another substitute begins with no sample, and CHARGE goes on across the change. -/
def alignmentSet (s : State) (mode irsrc subdie subin rmode : Nat) : State :=
  let old := chargeSamples s
  let other := decide ((irsrc = 1) ≠ (s.slates.irsrc = 1)) || (irsrc == 1 && (subdie != s.slates.subDie || subin != s.slates.subIn))
  let s := { s with slates := { s.slates with
      alignHost := mode == 1, irsrc := irsrc, subDie := subdie, subIn := subin, rFixed := rmode == 1
      subst := if other then [] else s.slates.subst
      noCurrent := if irsrc = s.slates.irsrc then s.slates.noCurrent else false } }
  if other then chargeFrom s old else s

/-- The effect of a switch at its boundary (R106, R115, R129, R138, R144, R165, R172, R220, R243, R248, R253, R284, R408). -/
def switchEffect (s : State) (c : Setting) : State :=
  match c with
  | .sequence mask entries =>
    restartFilters { s with
      segs := s.segs.map fun d => if bit mask d.code then { firstUse s.now d entries with seq := entries, tableAt := d.sweepNo } else d
      slates := { s.slates with filterId := (s.slates.filterId + 1) % 256 } }
  | .trigger source edge watch delay period phase =>
    { s with sweep := { s.sweep with
      trig := { source := source, edge := edge, watch := watch, delay := delay, period := period, phase := phase }
      events := [], lastEvent := s.now, silent := false } }
  | .scheduling mode => restartFilters { s with sweep := { s.sweep with hostSched := mode == 1 } }
  | .interaction mask mode =>
    let mask' := ((s.segs.filter fun d => bit mask d.code && d.compensated != (mode == 1)).map fun d => 2 ^ d.code).sum
    noteBad { s with segs := s.segs.map fun d => if bit mask d.code then { d with compensated := mode == 1 } else d } s.packTime s.packTime mask'
  | .filters takedec sets =>
    restartFilters { s with slates := { s.slates with
      takedec := takedec, sets := sets, filterId := (s.slates.filterId + 1) % 256 } }
  | .alignment mode irsrc subdie subin rmode =>
    alignmentSet s mode irsrc subdie subin rmode
  | .filterMode mode die => rawDieSet s (if mode = 1 then die else 0)
  | .continuity mode thr tmo =>
    { s with slates := { s.slates with contHost := mode == 1, contThr := thr, verdictTmo := tmo } }
  | .goal goal imax target band horizon =>
    { s with balance := { s.balance with
      goal := goal, imax := imax, target := target, band := band, horizon := horizon, goalAt := s.now, shortDone := false
      shortfall := List.replicate 6 0 } }
  | .balanceMode mode =>
    let s := { s with balance := { s.balance with hostMode := mode == 1 } }
    if mode = 1 then discardPlans s else s
  | .derating mode entries =>
    limitAll { s with balance := { s.balance with
      hostCaps := mode == 1
      derate := (s.balance.derate.filter fun e => !(entries.any fun x => x.die == e.die)) ++ entries } }
  | .impedanceMode mode =>
    let s := { s with imp := { s.imp with hostMode := mode == 1 } }
    if mode = 1 then endSession s 3 else s
  | .openTap mode otperiod jumpthr =>
    { s with sense := { s.sense with stepped := mode == 1, otperiod := otperiod, jumpThr := jumpthr } }
  | .reactionMode mode => reactionModeSet s mode

/-- What the completion of a switch returns: FIRST_TAKE, and for SET_FILTERS the new FILTERID (R32, R172). -/
def switchResult (s : State) (opcode : Nat) : List Byte :=
  le 4 s.slates.nextSeq ++ (if opcode = 0x0301 then le 1 s.slates.filterId ++ zeros 3 else [])

/-- A switch takes effect and completes; one whose abort was accepted has no effect (R32, R82). -/
def applySwitch (s : State) (w : Switch) : State :=
  let s := { s with mail := { s.mail with switches := s.mail.switches.filter fun x => x.hdr != w.hdr } }
  match opOf s w.hdr with
  | none => s
  | some o =>
    if o.stop then completeOp s w.hdr stAborted []
    else
      let s := switchEffect s w.setting
      completeOp s w.hdr stOk (switchResult s w.opcode)

/-- The switches that take effect at the latest boundary: accepted at least 100 µs before it (R32). -/
def boundarySwitches (s : State) : State :=
  (s.mail.switches.filter fun w => decide (w.acceptedAt + 100 * usT ≤ s.sweep.boundaryAt)).foldl applySwitch s

/-- Every switch that waits takes effect: while sweeps are stopped there is no boundary to wait for (R32). -/
def allSwitches (s : State) : State := s.mail.switches.foldl applySwitch s

/-- Accept a switch command (R32, R33). -/
def switchCmd (s : State) (h : Hdr) (op func : Nat) (cmd : Setting) : State :=
  let s := queueSwitch s h op func cmd
  if s.sweep.running then s else allSwitches s

end Sys2Proof.Machine
end

