-- ==== Sys2Proof/Machine/Watch.lean ====
section
/-! DEFINITION. The host watchdog, evidence and the supervision of the Studio (R419 to R428). -/
namespace Sys2Proof.Machine

/-- Draw a question from 0x01 to 0xFF that differs from the previous one: a free value within the limits of R420. -/
def drawQuestion (prev : BitVec 8) (k : Nat) : BitVec 8 :=
  if prev = 0 then BitVec.ofNat 8 (1 + k % 255)
  else BitVec.ofNat 8 (1 + (prev.toNat - 1 + 1 + k % 254) % 255)

/-- Issue a question and start a period (R420); settings made while armed apply from here (R419). -/
def wdIssue (s : State) : State :=
  ({ s.draw with wd := { s.wd with
    question := drawQuestion s.wd.question s.freeNat, seq := s.wd.seq + 1, start := s.packTime
    period := s.wd.nextPeriod, seed := s.wd.nextSeed } }).setIrq irqWdq

/-- The token of a question (R421). -/
def wdToken (w : Watchdog) : Nat := (crc32 (le 1 w.question.toNat ++ le 4 w.seed ++ le 2 w.seq.toNat)).toNat

/-- Arm the watchdog and issue the first question; nothing while it is armed (R419, R420). -/
def wdArm (s : State) : State := if s.wd.armed then s else wdIssue { s with wd := { s.wd with armed := true } }

/-- Ticks since the period start (R420). -/
def wdElapsed (s : State) : Nat := s.packTime - s.wd.start

/-- When the window opens and closes, in ticks after the period start: 0.4 P and P (R420). -/
def wdOpens (s : State) : Nat := s.wd.period * msT * 2 / 5
def wdCloses (s : State) : Nat := s.wd.period * msT

/-- The evidence record at this moment (R427). -/
def evidenceNow (s : State) (cause pc : Nat) : Evidence :=
  { cause := cause, question := s.wd.question.toNat, seq := s.wd.seq.toNat
    pc := if s.sup.stopped then 0xFFFFFFFF else pc
    lastGood := s.wd.lastGood, at_ := s.packTime, checkin := s.sup.lastCheckin }

/-- The 92 bytes of an evidence record before its CRC (R427). -/
def evidenceBody (e : Evidence) : List Byte :=
  le 1 e.cause ++ le 1 e.question ++ le 2 e.seq ++ le 4 e.pc ++ le 8 e.lastGood ++ le 8 e.at_ ++
    fit 64 (e.checkin.flatMap (le 4)) ++ zeros 4

/-- The 96 bytes of an evidence record (R427). -/
def evidenceBytes (e : Evidence) : List Byte := evidenceBody e ++ crcTail (evidenceBody e)

/-- The four Dailies entries of an evidence record (R427, R430). -/
def evidenceDailies (s : State) (e : Evidence) (source : Nat) : State :=
  (List.range 4).foldl (fun s k =>
    dailiesPut s
      { dseq := 0, at_ := s.packTime, source := source, kind := e.cause, dtype := 4, dflags := 8 * b2n (!s.chain.locked)
        data := le 1 k ++ fit 27 ((evidenceBytes e).drop (27 * k)) } true) s

/-- Capture an evidence record into C's always-on domain and the Dailies (R427). -/
def capture (s : State) (source cause pc : Nat) : State :=
  let e := evidenceNow s cause pc
  evidenceDailies { s with aon := { s.aon with evidence := (e :: s.aon.evidence).take 2 } } e source

/-- A watchdog fault: its record and reaction, the evidence, and a new question (R422, R427). -/
def wdFault (s : State) (kind detail pc : Nat) : State :=
  let s := capture { s with wd := { s.wd with good := 0 } } 8 kind pc
  wdIssue (raise s 0 8 kind detail)

/-- The Studio core's program counter is not part of any interface: a free value (R427, log entry 4). -/
def studioPc (s : State) : Nat := s.freeNat

/-- An accepted answer (R420, R422). -/
def wdAccept (s : State) : State :=
  wdIssue { s with wd := { s.wd with good := sat 16 (s.wd.good + 1), lastGood := s.packTime } }

/-- Judge a write to WDA (R62, R422). While the watchdog is disarmed there is no period and no effect. -/
def wdAnswer (s : State) (token : Nat) (whole : Bool) : State :=
  if !s.wd.armed then s
  else if wdElapsed s < wdOpens s then wdFault s 0x82 (wdElapsed s / msT) (studioPc s)
  else if wdCloses s < wdElapsed s then s
  else if whole && token == wdToken s.wd then wdAccept s
  else wdFault s 0x81 s.wd.seq.toNat (studioPc s)

/-- A period ends with no accepted answer (R422). -/
def wdExpire (s : State) : State :=
  if s.wd.armed && decide (wdCloses s ≤ wdElapsed s) then wdFault s 0x80 s.wd.seq.toNat (studioPc s) else s

end Sys2Proof.Machine
end

