-- ==== Sys2Proof/Machine/PartReset.lean ====
section
/-! DEFINITION. The part reset: what a reset of C, of the dies, and a wake keep and what they lose (R29, R86, R88, R426, R439,
R445, R456). -/
namespace Sys2Proof.Machine

/-- A comparator after a start: a trip stays until its clear (R207, R565; log entry 138). -/
def Comp.kept (c : Comp) : Comp := { Comp.reset with ovTrip := c.ovTrip, uvTrip := c.uvTrip }

/-- A segment die that starts again: its trim and its comparators' trips stay, its always-on domain keeps the records of SLEEP and the LBIST word, and a segment without its
supply stays without it. The first pack time message has set its copy (log entry 74), and its references start now (R118). -/
def dieStart (s : State) (d : SegDie) : SegDie :=
  { SegDie.start d.code (nth s.nv.cellMap (d.code - 2) 0) d.trim d.aonRecs d.lbWord with
    unpowered := d.unpowered, statusAt := s.now, sentAt := s.now, packTime := s.packTime, packPrev := s.packTime
    comps := d.comps.map Comp.kept, refAt := [s.now, s.now, s.now] }

/-- Dies whose trim fails its check (R178): the substitution runs until a part reset finds the trim good. -/
def trimFails (s : State) (bad : List Nat) : State :=
  bad.foldl (fun s c =>
    if (s.die? c).isSome then
      raise (s.updDie c fun d => { d with trimBad := true, subKinds := d.subKinds.filter (· != 0xFF) ++ [0xFF] }) c 0 0x08 0xFF00
    else s) s

/-- A package of the stored map, silent so far (R307). -/
def MapEntry.stored (now : Tick) (x : Nat × Nat) : MapEntry :=
  { addr := x.1, uid := x.2, state := 0, dieOut := 0, heard := now, lost := false, locked := false, queue := 0, ports := 0, sweeping := false
    placeB := false, head := false }

/-- C is reset with a start cause of R452: everything volatile goes to its reset value; flash, the always-on domain, M, the
pin RSTN and pack time stay (R29, R86, R312, R334). -/
def resetC (s : State) (code : Nat) : State :=
  { State.reset with
    pending := s.pending, part := s.part, now := s.now, packTime := s.packTime, free := s.free, sent := s.sent
    port := { Port.reset with rstnIgn := s.port.rstnIgn, rstnLow := s.port.rstnLow, rstnEdge := s.port.rstnEdge }
    metro := s.metro, mport := { MPort.reset with goodAt := s.now, polledAt := s.now }
    power := { Power.reset with
      vlv := s.power.vlv, crystal32 := s.power.crystal32, therm := { Therm.reset with temp := s.power.therm.temp } }
    nv := s.nv
    chain := { Chain.reset with
      chainId := s.nv.chainId, addr := s.nv.chainAddr, source := s.nv.source, sourceSet := s.nv.sourceSet, count := s.nv.chainCount
      map := s.nv.chainMap.map (MapEntry.stored s.now), savedAt := s.now, downAtA := s.now, downAtB := s.now }
    radio := { Radio.reset with key := s.nv.chainKey }
    fw := { Fw.reset with running := s.fw.running }
    life := { Life.reset with state := s.nv.lcState, gen := s.nv.lcGen }
    aon := { s.aon with
      wakeCause := code, wakeReq := none, brownOut := false, cStopped := false
      wakes := if s.power.state = .sleep ∨ s.power.state = .ship then (s.aon.wakes + 1) % 2 ^ 32 else s.aon.wakes }
    segs := s.segs }

/-- A part reset: C and every segment die (R29, R86). -/
def partReset (s : State) (code : Nat) : State :=
  let t := resetC s code
  { t with segs := s.segs.map (dieStart s) }

end Sys2Proof.Machine
end

