-- ==== Sys2Proof/Machine/Attempt.lean ====
section
/-! DEFINITION. Warm restarts of the Studio, attempts of an unconfirmed set and the fallback (R425, R488, R494 to R497). -/
namespace Sys2Proof.Machine

/-- The Keeper writes a boot record; its generation moves on (R488). The write is taken as complete in the step (log entry 28). -/
def writeBoot (s : State) (r : BootRecord) : State := { s with nv := { s.nv with boot := { r with brgen := (s.nv.boot.brgen + 1) % 2 ^ 32 } } }

/-- Does a pending set run that is not yet confirmed (R494)? -/
def unconfirmed (s : State) : Bool := s.nv.boot.pending != 0 && s.fw.running != s.nv.boot.active

/-- Does a set of places need a part reset: does it hold KEEPER or S_MICROCODE (R489)? -/
def partLevel (set_ : Nat) : Bool := bit set_ 0 || bit set_ 2

/-- The Studio restarts: what R29 says is discarded, and the Studio serves no mailbox until it is back (R425). -/
def studioRestart (s : State) (halt : Bool) : State :=
  let s := warmDiscard s
  { s with sup := { s.sup with
    ready := false, stopped := true, restartAt := if halt then none else some s.now, halted := s.sup.halted || halt
    counts := List.replicate 16 0 } }

/-- The record of an outcome in the completion of ACTIVATE (R504). -/
def outcomeBytes (addr outcome cause : Nat) : List Byte := le 1 addr ++ le 1 outcome ++ le 1 cause ++ [0]

/-- The ACTIVATE operation of an activation ends (R504). -/
def endActivation (s : State) (status : Nat) (result : List Byte) : State :=
  let s' := { s with fw := { s.fw with activation := none } }
  match s.fw.activation.bind (·.hdr) with
  | some h => completeOp s' h status result
  | none => s'

/-- A record that the next start reports with CARRIED set (R414, R565). -/
def carry (s : State) (block kind detail : Nat) : State :=
  let msg := faultMsg 0 block kind detail
  { s with aon := { s.aon with carried := s.aon.carried ++ [{ newRec s msg (classOf s kind) realMsg with carried := true }] } }

/-- The fallback (R496, R497): one boot record clears PENDING, the previous places run, a migrated area is discarded with what was
stored after the activation, and the restart of R489 follows. -/
def fallback (s : State) (cause : Nat) : State :=
  let b := s.nv.boot
  let s := writeBoot s { b with pending := 0, bootCount := 0, actAt := 0, migrate := 0 }
  let nv := match s.nv.migrated with
    | some m =>
      { s.nv with settings := m.settings, cal := m.cal, calB := m.cal, reaction := m.reaction, cellMap := m.cellMap, migrated := none }
    | none => s.nv
  let s := { s with
    nv := { nv with newKey := none }, fw := { s.fw with running := b.active }, aon := { s.aon with confirmEnd := none }
    faults := { s.faults with
      table := ((nv.reaction.map (·.1)).getD defaultClasses), tableGen := (nv.reaction.map (·.2)).getD 0 }
    segs := s.segs.map fun d => { d with cells := nth nv.cellMap (d.code - 2) 0 } }
  if partLevel b.pending then partReset (carry s 9 0xB5 (256 * cause + b.pending)) 1
  else
    let s := raise s 0 9 0xB5 (256 * cause + b.pending)
    studioRestart (endActivation s 0x8D (le 1 1 ++ zeros 3 ++ outcomeBytes s.chain.addr 1 cause)) false

/-- An attempt of the unconfirmed set has failed (R495). A part-level set counts its next attempt at the start that follows (R499). -/
def attemptFailed (s : State) (cause : Nat) : State :=
  let b := s.nv.boot
  if 3 ≤ b.bootCount then fallback s cause
  else if partLevel b.pending then partReset s 1
  else
    let s := writeBoot s { b with bootCount := b.bootCount + 1 }
    studioRestart { s with aon := { s.aon with confirmEnd := some (s.now + 60 * secT) } } false

/-- A warm restart of the Studio for a fault kind, or its halt at the third within 600 s (R425, log entry 16); for an unconfirmed set
the failed attempt takes the place of the halt (R495). -/
def warmRestart (s : State) (cause : Nat) : State :=
  let recent := s.sup.restarts.filter fun t => decide (s.now < t + 600 * secT)
  let s := { s with sup := { s.sup with restarts := recent ++ [s.now] } }
  if unconfirmed s then attemptFailed s cause
  else if 2 ≤ recent.length then raise (studioRestart s true) 0 15 0x86 (recent.length + 1)
  else studioRestart s false

end Sys2Proof.Machine
end

