-- ==== Sys2Proof/Machine/Compare.lean ====
section
/-! DEFINITION. The diagnostic comparators, the end guard, the REQUEST grace periods, and what a block does of its own at a fault
(R97, R206, R207, R240, R308, R383, R384, R415). -/
namespace Sys2Proof.Machine

/-- The 12-bit code of the diagnostic converter for a cell voltage in µV: 0 V to 5.000 V, saturating (R97). -/
def diagCode (uv : Int) : Int := clamp 0 4095 (uv * 4096 / 5000000)

/-- A diagnostic reading in nV, at the converter's resolution (R97). -/
def diagNv (uv : Int) : Int := diagCode uv * 5000000000 / 4096

/-- A diagnostic reading in µV (R97). -/
def diagRead (uv : Int) : Int := diagNv uv / 1000

/-- Does the diagnostic reading of a cell voltage lie beyond the over- or under-voltage threshold, with an extra margin in mV? A reading at an end
of the range is beyond in its direction (R97, R206, R384). -/
def beyond (s : State) (under : Bool) (margin : Nat) (uv : Int) : Bool :=
  if under then decide (diagNv uv < ((cfg16 s 4 : Int) - margin) * 1000000) || (margin == 0 && diagCode uv == 0)
  else decide (((cfg16 s 2 : Int) + margin) * 1000000 < diagNv uv) || (margin == 0 && diagCode uv == 4095)

/-- Does the diagnostic reading of a cell voltage lie inside a threshold by at least 25 mV (R97, R207)? -/
def inside (s : State) (under : Bool) (uv : Int) : Bool :=
  if under then decide (((cfg16 s 4 : Int) + 25) * 1000000 ≤ diagNv uv) else decide (diagNv uv ≤ ((cfg16 s 2 : Int) - 25) * 1000000)

/-- One reading in one direction: trip flag, readings beyond, readings inside (R206, R207). -/
def compDir (trip : Bool) (count ins : Nat) (out in_ : Bool) : Bool × Nat × Nat :=
  let n := if out then count + 1 else 0
  (trip || decide (2 ≤ n), n, if in_ then ins + 1 else 0)

/-- A comparator after one reading of its cell (R206, R207). -/
def compRead (s : State) (uv : Int) (c : Comp) : Comp :=
  let o := compDir c.ovTrip c.ovCount c.ovInside (beyond s false 0 uv) (inside s false uv)
  let u := compDir c.uvTrip c.uvCount c.uvInside (beyond s true 0 uv) (inside s true uv)
  { c with ovTrip := o.1, ovCount := o.2.1, ovInside := o.2.2, uvTrip := u.1, uvCount := u.2.1, uvInside := u.2.2
           last := some (diagRead uv) }

/-- The latest diagnostic reading of a cell in µV, 0 before the first (R97; log entry 3). -/
def cellUv (d : SegDie) (cell : Nat) : Int := ((d.comps[cell - 1]?).bind (·.last)).getD 0

/-- The Dolly that serves the group of a die-local cell (R234). -/
def dollyOfCell (cell : Nat) : Nat := (cell - 1) / 6 + 1

/-- Word of a matrix driver with a list of switches closed: bit 2m the lower, bit 2m + 1 the upper switch of the group's tap m, for m from 0
to 6; bits [15:14] are 10 (R550). -/
def switchWord (closed : List Nat) : BitVec 16 := closed.foldl (fun w b => w ||| BitVec.ofNat 16 (2 ^ b)) 0x8000

/-- The switches that connect the cell at a place 0 to 5 of the group: the lower switch of its bottom tap, the upper switch of its top tap (R222). -/
def cellSwitches (k : Nat) : List Nat := [2 * k, 2 * k + 3]

/-- The word that a Dolly's matrix driver is to get (R222, R224, R550): the switches of the cell that a transfer serves, those of a test step, or
none. -/
def Dolly.matrixWord (y : Dolly) (now : Tick) : BitVec 16 :=
  match y.test, y.transfer with
  | some t, _ =>
    if t.leak then switchWord (if now < t.at_ + msT then cellSwitches 0 else [])
    else if t.step = 0 then switchWord [] else if t.step ≤ 6 then switchWord (cellSwitches (t.step - 1)) else switchWord [(t.step - 7) % 14]
  | none, some t => switchWord (cellSwitches ((t.cell + 5) % 6))
  | none, none => switchWord []

/-- The transfer that serves a die-local cell, with its Dolly. -/
def servedBy (s : State) (die cell : Nat) : Option DollyTransfer :=
  ((s.die? die).bind fun d => (d.dolly? (dollyOfCell cell)).bind (·.transfer)).filter fun t => t.cell == cell

/-- A grace period as a REQUEST trip starts it (R383). -/
def graceStart (s : State) (die cell : Nat) (under : Bool) : State :=
  { s with stage := { s.stage with
    graces := s.stage.graces ++
      [{ die := die, cell := cell, under := under, endAt := s.now + cfg16 s 8 * msT, running := true, gone := false, hard := 0
         direct := false }] } }

/-- A comparator trips: the transfer on its cell ends, the message goes out, and under REQUEST a grace period starts
(R206, R239, R383). -/
def tripComp (s : State) (die cell : Nat) (under : Bool) : State :=
  let s := if (servedBy s die cell).isSome then endFree s die (dollyOfCell cell) 7 else s
  let s := if cfg8 s (if under then 7 else 6) = 1 then graceStart s die cell under else s
  raise s die 1 (if under then 0x91 else 0x90) cell

/-- What a grace period follows in each reading (R384): the cause gone, its return, readings beyond HARDMARGIN. The second part
says whether the stage now acts as DIRECT. -/
def graceStep (s : State) (c : Comp) (uv : Int) (g : Grace) : Grace × Bool :=
  let hard := if beyond s g.under (cfg16 s 10) uv then g.hard + 1 else 0
  let n := if g.under then c.uvCount else c.ovCount
  let ins := if g.under then c.uvInside else c.ovInside
  let overr := !g.direct && (decide (2 ≤ hard) || (g.gone && decide (2 ≤ n)))
  ({ g with hard := hard, gone := g.gone || decide (2 ≤ ins), direct := g.direct || overr }, overr)

/-- The stage follows the grace periods of a cell through one reading (R384). -/
def graceRead (s : State) (die cell : Nat) (uv : Int) (c : Comp) : State :=
  let hits := s.stage.graces.filter fun g => g.die == die && g.cell == cell
  let s := { s with stage := { s.stage with
    graces := upd s.stage.graces (fun g => g.die == die && g.cell == cell) fun g => (graceStep s c uv g).1 } }
  hits.foldl (fun s g =>
    if (graceStep s c uv g).2 then raise s 0 7 0x79 (partCell s die cell + (if g.under then 0x8000 else 0)) else s) s

/-- The end guard: a diagnostic reading of the served cell at its limit ends the transfer (R97, R240). -/
def endGuard (s : State) (die cell : Nat) (uv : Int) : State :=
  match servedBy s die cell with
  | none => s
  | some t =>
    if (t.mode ≠ 1 ∧ 1000 * (s.balance.cellHi : Int) ≤ diagNv uv) ∨ (t.mode ≠ 2 ∧ diagNv uv ≤ 1000 * (s.balance.cellLo : Int)) then
      let j := dollyOfCell cell
      raise (endFree s die j 4) die (2 + j) 0x35 (256 * j + cell)
    else s

/-- Does a probe in progress change how a cell is sampled: is the cell next to the probed tap (R216)? -/
def SegDie.probed (d : SegDie) (cell : Nat) : Bool := d.probe.any fun p => p.tap == cell || p.tap + 1 == cell

/-- One diagnostic reading of one cell by a die, of a cell voltage in µV: comparator, grace periods, end guard (R206, R240, R384); one
taken while the diagnostic reference is not settled raises COMP_SELFTEST_FAIL (R208). A reading taken during a probe next to the cell is not used (R216), and nothing is read once the die's diagnostic domain is off (R466). -/
def diagReading (s : State) (die cell : Nat) (uv : Int) : State :=
  match (s.die? die).bind fun d =>
    if cell = 0 ∨ d.cells < cell ∨ d.probed cell ∨ d.cutOff ∨ d.unpowered then none else d.comps[cell - 1]? with
  | none => s
  | some c =>
    let c' := compRead s uv c
    let s := s.updDie die fun d => { d with
      comps := d.comps.set (cell - 1) c' }
    let s := if (s.die? die).any fun d => d.diagRefOk then s else raise s die 1 0x92 1
    let s := graceRead s die cell uv c'
    let s := if c'.ovTrip && !c.ovTrip then tripComp s die cell false else s
    let s := if c'.uvTrip && !c.uvTrip then tripComp s die cell true else s
    endGuard s die cell uv

/-- The die-local cells of group `g` of the rotation of R97, counted from 0. -/
def rotationGroup (cells g : Nat) : List Nat := (List.range 4).filterMap fun k => if 4 * g + k < cells then some (4 * g + k + 1) else none

/-- Groups in the rotation of a die (R97). -/
def rotationLen (cells : Nat) : Nat := (cells + 3) / 4

/-- Pack time of a head that starts without a running chain: the larger of its own count and of the saved value plus 3600 s, where one has been
saved (R312, log entry 68). -/
def packAtStart (s : State) : Nat := if s.nv.packSaved = 0 then s.packTime else max s.packTime (s.nv.packSaved + 3600 * secT)

/-- The package takes its role as a head when its host port accepts its first transaction (R308, R311, R312). -/
def takeHeadRole (s : State) : State :=
  if s.chain.isHead || s.chain.badHead then s
  else if s.chain.addr ≤ 1 then
    let alone := decide (s.chain.syncs = 0)
    { s with
      packTime := if alone then packAtStart s else s.packTime
      chain := { s.chain with isHead := true, master := s.chain.master || alone, locked := s.chain.locked || alone } }
  else if s.chain.addr = s.chain.count then { s with chain := { s.chain with isHead := true, secondary := true } }
  else raise { s with chain := { s.chain with badHead := true } } 0 4 0x5E s.chain.addr

/-- A temperature stop of every Dolly of a die (R252, R253). -/
def thermalDollies (s : State) (die : Nat) : State :=
  (endDie s die 6).updDie die fun d => { d with dollies := d.dollies.map fun y => { y with thermal := true }, calmAt := none }

/-- What the block of a source does of its own at a kind, beside the class reaction: with a real fault the row that finds it does
this; a forced message does it here (R415). -/
def ownAction (s : State) (die kind detail : Nat) : State :=
  match kind with
  | 0x37 => thermalDollies s die
  | 0x55 => { s with chain := { s.chain with locked := false, syncs := 0 } }
  | 0x56 => { s with chain := { s.chain with refLost := true } }
  | 0x71 | 0x72 => updInput s (detail / 256) fun i => { i with latched := true, bothSafe := false }
  | 0x76 => openOutputs { s with stage := { s.stage with supply := false, stuckLowAt := none } } 3
  | 0x77 => openOutputs s (if detail = 1 then 1 else 2)
  | 0x7C => openOutputs { s with stage := { s.stage with driversOff := true } } 3
  | 0x80 | 0x81 | 0x82 => wdIssue ((capture { s with wd := { s.wd with good := 0 } } 8 kind (studioPc s)).draw)
  | 0x83 | 0x84 | 0x85 | 0x8A => warmRestart s kind
  | 0xA3 => (thermalDollies s die).updDie die fun d => { d with stopping := true }
  | 0xA5 => s.updDie die fun d => { d with cutOff := true }
  | _ => s

end Sys2Proof.Machine
end

