-- ==== Sys2Proof/Machine/Clear.lean ====
section
/-! DEFINITION. Clearing fault records, with the checks that a clear runs first (R218, R223, R241, R382, R413). -/
namespace Sys2Proof.Machine

/-- The lowest mapped cell of group `j` of a die, 0 where the group holds none (R234, R241). -/
def lowestCell (d : SegDie) (j : Nat) : Nat := if 6 * j - 5 ≤ d.cells then 6 * j - 5 else 0

/-- Can a die run a check: powered, in a state that keeps its Dollies and converters (R446)? -/
def canCheck (s : State) (d : SegDie) : Bool :=
  !d.unpowered && !d.stopped && !d.cutOff && (s.power.state == .run)

/-- Is the comparator of a cell tripped, so that no transfer starts on it (R239)? -/
def cellTripped (d : SegDie) (cell : Nat) : Bool := (d.comps[cell - 1]?).any fun c => c.ovTrip || c.uvTrip

/-- Does a cell's latest reading let a transfer start: 2.0 V to 4.6 V (R232)? -/
def cellStartable (d : SegDie) (cell : Nat) : Bool :=
  let v := cellUv d cell
  decide (2000000 ≤ v) && decide (v ≤ 4600000)

/-- The next higher fitted segment die of a part (R235). -/
def dieAbove (s : State) (code : Nat) : Option SegDie := s.die? (code + 1)

/-- The part cells of a Dolly's span (R235). -/
def spanCells (s : State) (d : SegDie) (straddle : Bool) : List Nat :=
  if !straddle then (List.range d.cells).map fun k => partCell s d.code (k + 1)
  else
    (List.range (d.cells - d.cells / 2)).map (fun k => partCell s d.code (d.cells / 2 + 1 + k)) ++
      match dieAbove s d.code with
      | some e => (List.range (e.cells / 2)).map fun k => partCell s e.code (k + 1)
      | none => []

/-- The voltage of a Dolly's span in mV, as the sum of its cells' latest diagnostic readings (R232; log entry 139). -/
def spanMv (s : State) (d : SegDie) (straddle : Bool) : Nat :=
  ((spanCells s d straddle).map fun c => match cellOf s c with
    | some (k, x) => ((s.die? k).map fun e => cellMv e x).getD 0
    | none => 0).sum

/-- Does a span voltage in mV lie in the window of 2.0 V to 4.6 V a cell (R232)? -/
def spanInside (s : State) (d : SegDie) (straddle : Bool) (mv : Nat) : Bool :=
  let ns := (spanCells s d straddle).length
  decide (2000 * ns ≤ mv) && decide (mv ≤ 4600 * ns)

/-- Does a Dolly transfer of a die use a tap: is a cell next to it served (R217)? -/
def tapInUse (d : SegDie) (tap : Nat) : Bool :=
  d.dollies.any fun y => y.transfer.any fun t => t.cell == tap || t.cell == tap + 1

/-- The records that a FAULT_CLEAR may clear: the one it names, or all; without a proof only those below SAFE (R413). -/
def clearMay (c : Clearing) (r : FRec) : Bool :=
  (decide (c.all ≠ 0) || msgSource r.msg == c.source) && (c.proved || decide (r.cls < 3))

/-- The real causes of a die that the clear in progress may clear (R413). -/
def clearCauses (s : State) (die : Nat) : List Cause :=
  match s.faults.clearing with
  | none => []
  | some c => (s.faults.open_.filter fun r => clearMay c r && msgDie r.msg == die).flatMap fun r => r.causes.filter fun x => !x.forced && !x.carried

/-- Does the clear in progress probe a tap of a die again (R218)? -/
def clearProbes (s : State) (die tap : Nat) : Bool := (clearCauses s die).any fun c => c.kind == 0x93 && c.detail == tap

/-- Is a scheduled probe of a die due: the next tap of a cycle, or a new cycle OTPERIOD after the last one began (R217)? -/
def cycleDue (s : State) (d : SegDie) : Bool :=
  !s.sense.stepped && decide (d.cells ≠ 0) &&
    (decide (d.nextTap ≠ 0) || d.cycleAt.all fun t => decide (t + s.sense.otperiod * secT ≤ s.now))

/-- The taps of a die that wait for a probe: PROBE_TAP's, the suspects, the schedule's (R210, R217, R218, R220). In host-stepped mode the suspects
wait for no probe, but for a clear's. -/
def waitingTaps (s : State) (d : SegDie) : List Nat :=
  (d.probeWait.map (·.2.1)).toList ++ (d.suspects.filter fun t => !s.sense.stepped || clearProbes s d.code t) ++
    (if cycleDue s d then [d.nextTap] else [])

/-- Is a Dolly held (R225, R242, R266): a test of its group, also one that is due, a tap calibration, a probe of a tap in its matrix, also one that
waits for its transfer to end, or a MODULATE transfer? -/
def dollyHeld (s : State) (d : SegDie) (j : Nat) : Bool :=
  ((d.dolly? j).any fun y => y.test.isSome || y.transfer.any (fun t => t.mode == 3) || (y.testDue && !s.sense.stepped)) ||
    (s.cal.taps.any fun t => t.dies.contains d.code && !t.failed.contains d.code) ||
    (d.probe.any fun p => (dolliesOfTap p.tap).contains j) ||
    ((d.dolly? j).bind (·.transfer)).any fun t => (waitingTaps s d).any fun k => t.cell == k || t.cell == k + 1

/-- Can the check transfer of a clear start: inside the limits of R232, on a cell without a trip, with nothing that holds the Dolly (R239, R241,
R242)? The group tests that are only due do not hold it: they wait for a Dolly that is not withdrawn. -/
def checkStartable (s : State) (d : SegDie) (j : Nat) (y : Dolly) : Bool :=
  let c := lowestCell d j
  canCheck s d && decide (c ≠ 0) && y.transfer.isNone && y.test.isNone && !y.withdrawn.isEmpty && !y.thermal && cellStartable d c && !cellTripped d c &&
    spanInside s d y.straddle (spanMv s d y.straddle) && !(s.cal.taps.any fun t => t.dies.contains d.code && !t.failed.contains d.code) &&
    !(d.probe.any fun p => (dolliesOfTap p.tap).contains j)

/-- The check transfer of a clear: 2 ms at 100 mA in CELL_TO_SPAN on the group's lowest mapped cell (R241). -/
def startDollyCheck (s : State) (die j : Nat) : State :=
  match s.die? die with
  | none => s
  | some d =>
    if (d.dolly? j).any (checkStartable s d j) then
      (dollyChanged s die).updDolly die j fun y => { y with
        transfer := some { mode := 1, cell := lowestCell d j, set_ := 100, running := 100, start := s.packTime
                           endAt := s.now + 2 * msT, lease := false, qlimit := 0, freq := 0, iamp := 0, t0 := 0, hdr := none
                           remain := none, check := true, ranAt := s.now } }
    else s

/-- The matrix test of a group starts again for a clear (R222, R223). A leakage test that it meets starts anew after it. -/
def startMatrix (s : State) (die j : Nat) : State :=
  match s.die? die with
  | none => s
  | some d =>
    if canCheck s d && ((d.dolly? j).any fun y => y.transfer.isNone && y.test.all (·.leak)) then
      s.updDolly die j fun y => { y with
        testDue := y.testDue || y.test.isSome
        test := some { group := j, leak := false, step := 0, result := 0, tap := 0, rail := 0, at_ := s.now } }
    else s

/-- What a clear sets going for one real cause of a record of a die (R218, R223, R241, R382). The Dolly of a group without a mapped cell has nothing to
check after DOLLY_DRIVER_SUPPLY (log entry 140). -/
def startCheck (s : State) (die : Nat) (c : Cause) : State :=
  if c.forced || c.carried then s
  else
  match c.kind with
  | 0x30 | 0x31 | 0x32 | 0x33 => startDollyCheck s die (c.detail / 256)
  | 0x34 => [1, 2, 3, 4].foldl (fun s j =>
      if (s.die? die).any fun d => decide (lowestCell d j = 0) then releaseDolly s die j 0x34 else startDollyCheck s die j) s
  | 0x76 => openOutputs { s with stage := { s.stage with supply := true, stuckLowAt := some s.now } } 3
  | 0x93 =>
    s.updDie die fun d => { d with
      openTaps := if d.openTaps.contains c.detail then d.openTaps else d.openTaps ++ [c.detail]
      suspects := if canCheck s d then c.detail :: d.suspects.filter (· != c.detail) else d.suspects }
  | 0x99 | 0x9A => startMatrix s die (c.detail / 256)
  | _ => s

/-- A clear of a record starts: every cause that a check decides gets its check. -/
def startClear (s : State) (r : FRec) : State := r.causes.foldl (fun s c => startCheck s (msgDie r.msg) c) s

/-- Does a check of one cause still run? -/
def checkRuns (s : State) (die : Nat) (c : Cause) : Bool :=
  match c.kind with
  | 0x30 | 0x31 | 0x32 | 0x33 | 0x34 =>
    (s.die? die).any fun d => d.dollies.any fun y => y.transfer.any (·.check)
  | 0x76 => s.stage.stuckLowAt.any fun t => decide (s.now < t + 10 * msT)
  | 0x93 => (s.die? die).any fun d => d.suspects.contains c.detail || d.probe.any fun p => p.tap == c.detail
  | 0x99 | 0x9A => (s.die? die).any fun d => (d.dolly? (c.detail / 256)).any fun y => y.test.any fun t => !t.leak
  | _ => false

/-- The answer of a FAULT_CLEAR: the completion of its operation, or its reply (R70). -/
def clearAnswer (s : State) (h : Hdr) (status : Nat) (result : List Byte) : State :=
  if (opOf s h).isSome then completeOp s h status result else reply s h 0x0A02 status result

/-- The FAULT_CLEAR that waits is decided and answered: records whose causes are all gone are closed (R413). -/
def clearNow (s : State) (c : Clearing) : State :=
  let s := { s with faults := { s.faults with clearing := none } }
  let s := s.faults.open_.foldl (fun s r => if clearMay c r && !recPersists s r then closeRec s r else s) s
  let cleared := c.before - s.faults.open_.length
  if c.all ≠ 0 then
    match s.faults.open_ with
    | [] => clearAnswer s c.hdr stOk (le 1 cleared ++ le 1 0 ++ zeros 2)
    | r :: _ => clearAnswer s c.hdr stStillActive (le 1 cleared ++ le 1 (msgSource r.msg) ++ zeros 2)
  else if (openOf s c.source).isSome then clearAnswer s c.hdr stStillActive (le 1 0 ++ le 1 c.source ++ zeros 2)
  else clearAnswer s c.hdr stOk (le 1 1 ++ le 1 0 ++ zeros 2)

/-- The FAULT_CLEAR that waits ends once none of its checks runs. Rows that end a check call this. -/
def finishClear (s : State) : State :=
  match s.faults.clearing with
  | none => s
  | some c =>
    if s.faults.open_.any fun r => clearMay c r && r.causes.any fun x => checkRuns s (msgDie r.msg) x then s else clearNow s c

/-- Can the check of one cause outlast 10 ms: the output's 10 ms low, a probe, the 21 steps of the matrix test (R213, R222, R382)? -/
def longCheck (c : Cause) : Bool := [0x76, 0x93, 0x99, 0x9A].contains c.kind

/-- The records of a FAULT_CLEAR start their checks, and it is decided at once where none runs. -/
def runClear (s : State) (c : Clearing) : State :=
  let s := s.faults.open_.foldl (fun s r => if clearMay c r then startClear s r else s) s
  finishClear { s with faults := { s.faults with clearing := some c } }

/-- A FAULT_CLEAR that has passed its checks of record and proof: it starts the checks that its records run, and ends at once
where there is none. One whose checks can outlast 10 ms is an operation (R70, R413, log entry 27). -/
def beginClear (s : State) (h : Hdr) (source all : Nat) (proved : Bool) : State :=
  let c : Clearing := { hdr := h, source := source, all := all, proved := proved, before := s.faults.open_.length }
  if s.faults.open_.any fun r => clearMay c r && r.causes.any longCheck then startOp s h 0x0A02 fun s => runClear s c else runClear s c

end Sys2Proof.Machine
end

