-- ==== Sys2Proof/Machine/SafetyRows.lean ====
section
/-! DEFINITION. The commands and events of the safety functions (R365 to R400). -/
namespace Sys2Proof.Machine

/-- The image with its CRC: 128 bytes (R391). -/
def imageBytes (img : List Byte) : List Byte := fit 124 img ++ crcTail (fit 124 img)

/-- Does an offset of the image take writes? FORMAT and reserved bytes do not (R12, R391). -/
def imageWritable (k : Nat) : Bool := safetyFields.any fun f => decide (f.1 ≤ k) && decide (k < f.1 + f.2)

/-- Write bytes into a staging copy (R392). -/
def stageWrite (img : List Byte) (off : Nat) : List Byte → List Byte
  | [] => img
  | b :: r => stageWrite (if imageWritable off then img.set off b else img) (off + 1) r

/-- The value of a field of an image. -/
def fieldVal (img : List Byte) (f : Nat × Nat) : Nat := leVal ((img.drop f.1).take f.2)

/-- The bytes of a change log entry (R395). -/
def logBytes (e : LogEntry) : List Byte :=
  let b := le 4 e.seq ++ le 8 e.at_ ++ le 1 e.field ++ [0] ++ le 2 e.host ++ le 4 e.old ++ le 4 e.new ++ le 4 e.gen
  b ++ crcTail b

/-- The change log with entries added; it holds the latest 256 (R395). -/
def logAdd (s : State) (l : List LogEntry) : State :=
  let es := l.zipIdx.map fun p => { p.1 with seq := s.nv.logSeq + p.2 }
  { s with nv := { s.nv with
    log := (s.nv.log ++ es).drop ((s.nv.log ++ es).length - 256), logSeq := s.nv.logSeq + l.length } }

/-- Is any login locked now (R390)? -/
def loginLocked (s : State) : Bool := match s.safety.lockEnd with | some t => decide (s.now < t) | none => false

/-- A failed login: the third within 10 min locks logins for 60 s (R390). -/
def loginFailed (s : State) (host : Nat) : State :=
  let recent := (s.safety.failures.filter fun t => decide (s.now < t + 600 * secT)) ++ [s.now]
  if 3 ≤ recent.length then
    raise { s with safety := { s.safety with failures := [], lockEnd := some (s.now + 60 * secT) } } 0 9 0x7B host
  else { s with safety := { s.safety with failures := recent } }

/-- SAFETY_LOGIN (R387, R390). -/
def execSafetyLogin (h : Hdr) (host : Nat) (password : List Byte) (s : State) : Host.Outcome State Fault Refusal :=
  .next <| runCmd s h 0x0901 fun s =>
    if loginLocked s then refuse s h 0x0901 0x83
    else if password ≠ s.nv.password then refuse (loginFailed s host) h 0x0901 stAuthFailed
    else
      let number := s.freeNat % 2 ^ 32
      let challenge := s.freeBytes 16
      let x : Session := { head := headOf h, host := host, number := number, challenge := challenge
                           key := Config.sha256 (challenge ++ password), lastN := 0, lastProof := s.now, staging := none }
      let s := { s.draw with safety := { s.safety with
        sessions := (s.safety.sessions.filter fun y => y.head != headOf h) ++ [x] } }
      reply s h 0x0901 stOk (le 4 number ++ challenge)

/-- SAFETY_LOGOUT (R389). -/
def execSafetyLogout (h : Hdr) (p : Proof) (s : State) : Host.Outcome State Fault Refusal :=
  .next <| runCmd s h 0x0902 fun s => withProof s h 0x0902 [] p fun s =>
    reply { s with safety := { s.safety with sessions := s.safety.sessions.filter fun x => x.head != headOf h } } h 0x0902 stOk []

/-- The staging copy of a head's session, the active image before its first STAGE (R392). -/
def stagingOf (s : State) (h : Hdr) : List Byte := ((sessionOf s (headOf h)).bind (·.staging)).getD s.safety.image

/-- SAFETY_CONFIG_READ (R399). -/
def execSafetyConfigRead (h : Hdr) (which : Nat) (s : State) : Host.Outcome State Fault Refusal :=
  .next <| runCmd s h 0x0903 fun s =>
    reply s h 0x0903 stOk (imageBytes (if which = 1 then stagingOf s h else safetyImage s) ++ le 4 s.safety.gen)

/-- SAFETY_CONFIG_STAGE (R392). -/
def execSafetyConfigStage (h : Hdr) (offset : Nat) (data : List Byte) (p : Proof) (s : State) :
    Host.Outcome State Fault Refusal :=
  .next <| runCmd s h 0x0904 fun s =>
    withProof s h 0x0904 (le 1 offset ++ le 1 data.length ++ zeros 2 ++ data) p fun s =>
      let img := stageWrite (stagingOf s h) offset data
      reply { s with safety := { s.safety with
        sessions := upd s.safety.sessions (fun x => x.head == headOf h) fun x => { x with staging := some img } } } h 0x0904 stOk []

/-- The change log entries of a commit: one for each field whose value changes (R395). -/
def commitLog (s : State) (h : Hdr) (img : List Byte) (gen : Nat) : List LogEntry :=
  (safetyFields.filter fun f => fieldVal img f != fieldVal s.safety.image f).map fun f =>
    { seq := 0, at_ := s.packTime, field := f.1, host := sessionHost s h
      old := fieldVal s.safety.image f, new := fieldVal img f, gen := gen }

/-- SAFETY_CONFIG_COMMIT (R392): an operation whose image goes through the flash gate. -/
def execSafetyConfigCommit (h : Hdr) (crc : Nat) (p : Proof) (s : State) : Host.Outcome State Fault Refusal :=
  .next <| runCmd s h 0x0905 fun s => withProof s h 0x0905 (le 4 crc) p fun s =>
    let img := stagingOf s h
    if s.nv.password = [] then refuse s h 0x0905 0x82
    else if crc ≠ (crc32 (fit 124 img)).toNat then refuse s h 0x0905 0x81
    else startOp s h 0x0905 fun s =>
      let gen := s.safety.gen + 1
      let log := commitLog s h img gen
      flashPush s (.safetyImage { hdr := h, image := img, gen := gen, changed := log.length } log)

/-- An input as though it had just reached its present state: where its channels differ, the one in its safe state has just changed (R373, R393;
DEDUCED, log 148). -/
def restartInput (now : Tick) (i : SInput) : SInput :=
  { i with firstCh := if i.chA = i.chB then none else some (b2n i.chA), firstAt := now }

/-- Evaluate a newly applied image as though inputs and HVIL had just reached their present states (R393). -/
def reevaluate (s : State) : State :=
  let s := openOutputs s (3 - cfg8 s 13 % 4)
  let s := { s with stage := { s.stage with
    hvil := if hvilEn s then max 1 s.stage.hvil else 0
    hvilMiss := 0, hvilHigh := 0, hvilLow := 0, hvilGood := if hvilEn s then s.stage.hvilGood else 0 } }
  [1, 2, 3, 4].foldl (fun s n =>
    match inputAt s n with
    | some i =>
      let s := if inFunc s n = 0 then s else updInput s n (restartInput s.now)
      if inFunc s n ≠ 0 ∧ inOperate s i = false then
        raise (if inFunc s n = 3 then updInput s n fun i => { i with crash := true } else s) 0 7 0x70 (256 * n + inFunc s n)
      else s
    | none => s) s

/-- SAFETY_CONFIG_APPLY (R392, R393): the stored image is applied at the 1 ms tick and the commit completes. -/
def execSafetyConfigApply (s : State) : Host.Outcome State Fault Refusal :=
  .next <|
    match s.safety.applying with
    | none => s
    | some p =>
      let s := { s with safety := { s.safety with image := p.image, gen := p.gen, valid := true, applying := none } }
      completeOp (reevaluate s) p.hdr stOk (le 4 p.gen ++ le 1 p.changed ++ zeros 3)

/-- Is a password 0 to 16 bytes of ASCII from 0x20 to 0x7E (R390)? -/
def passwordOk (l : List Byte) : Bool := decide (l.length ≤ 16) && l.all fun b => decide (0x20 ≤ b.toNat) && decide (b.toNat ≤ 0x7E)

/-- SET_PASSWORD (R390, R395): it ends every session. -/
def execSetPassword (h : Hdr) (old new : List Byte) (p : Proof) (s : State) : Host.Outcome State Fault Refusal :=
  .next <| runCmd s h 0x0906 fun s =>
    withProof s h 0x0906 (le 1 old.length ++ le 1 new.length ++ zeros 2 ++ old ++ new) p fun s =>
      if !passwordOk new then refuse s h 0x0906 stFrameInvalid
      else if old ≠ s.nv.password then refuse (loginFailed s (sessionHost s h)) h 0x0906 stAuthFailed
      else
        let s := logAdd s [{ seq := 0, at_ := s.packTime, field := 0xFF, host := sessionHost s h, old := 0, new := 0, gen := s.safety.gen }]
        reply { s with nv := { s.nv with password := new }, safety := { s.safety with sessions := [] } } h 0x0906 stOk []

/-- The OUTPUTS byte of GET_SAFETY_STATUS (R399). -/
def outputsByte (s : State) : Nat :=
  b2n s.stage.so1 + 2 * b2n s.stage.so2 + 4 * b2n s.stage.fb1 + 8 * b2n s.stage.fb2 + 16 * b2n s.stage.supply + 32 * b2n (cfgValid s)

/-- Has either output a read-back fault whose record is open (R379 REASON 7)? -/
def readbackFault (s : State) : Bool := s.faults.open_.any fun r => r.causes.any fun c => c.kind == 0x76 || c.kind == 0x77

/-- Is any comparator tripped (R207)? -/
def anyTrip (s : State) : Bool := s.segs.any fun d => d.comps.any fun c => c.ovTrip || c.uvTrip

/-- REASON of a close: 0 where every condition of R379 holds, else the first that fails; outside RUN it is 8 (R400). -/
def closeReason (s : State) (mask : Nat) : Nat :=
  if s.power.state ≠ .run then 8
  else if !cfgValid s then 1
  else if (cfg8 s 13) &&& mask ≠ mask then 2
  else if !(activeCauses s).isEmpty then 3
  else if (s.stage.graces.any fun g => g.running) || anyTrip s then 4
  else if [1, 2, 3, 4].any fun n => inFunc s n != 0 && !((inputAt s n).any fun i => inOperate s i) then 5
  else if hvilEn s && s.stage.hvil != 1 then 6
  else if readbackFault s || !s.stage.supply || s.stage.driversOff then 7
  else 0

/-- SO_COMMAND (R379, R400, R419): an open is never refused; the first accepted close arms the host watchdog. -/
def execSoCommand (h : Hdr) (mask action : Nat) (p : Proof) (s : State) : Host.Outcome State Fault Refusal :=
  .next <| runCmd s h 0x0907 fun s => withProof s h 0x0907 (le 1 mask ++ le 1 action ++ zeros 2) p fun s =>
    let m := mask % 4
    if action = 1 then
      let r := closeReason s m
      if r ≠ 0 then reply s h 0x0907 0x80 (le 1 r ++ le 1 (outputsByte s) ++ zeros 2)
      else
        let s := closeOutputs s m
        let s := if m = 0 then s else wdArm s
        reply s h 0x0907 stOk (le 1 0 ++ le 1 (outputsByte s) ++ zeros 2)
    else
      let s := openOutputs s m
      reply s h 0x0907 stOk (le 1 0 ++ le 1 (outputsByte s) ++ zeros 2)

/-- End every running grace period (R385). -/
def endGraces (s : State) : State :=
  { s with stage := { s.stage with graces := s.stage.graces.map fun g => { g with running := false } } }

/-- SAFETY_DECIDE (R385). -/
def execSafetyDecide (h : Hdr) (decision : Nat) (p : Proof) (s : State) : Host.Outcome State Fault Refusal :=
  .next <| runCmd s h 0x0908 fun s => withProof s h 0x0908 (le 1 decision ++ zeros 3) p fun s =>
    if !(s.stage.graces.any fun g => g.running) then refuse s h 0x0908 0x84
    else if decision = 1 then reply (endGraces (openOutputs s (safeState s))) h 0x0908 stOk []
    else reply s h 0x0908 stOk []

/-- Milliseconds from now to a local time, rounded up; 0 where it has passed. -/
def msUntil (s : State) (t : Tick) : Nat := (t - s.now + (msT - 1)) / msT

/-- Ms to the nearest grace end, 0xFFFF_FFFF where none runs (R399). -/
def graceEnd (s : State) : Nat :=
  ((s.stage.graces.filter fun g => g.running).map fun g => msUntil s g.endAt).foldl min 0xFFFFFFFF

/-- GET_SAFETY_STATUS (R399). -/
def execGetSafetyStatus (h : Hdr) (s : State) : Host.Outcome State Fault Refusal :=
  .next <| runCmd s h 0x0909 fun s =>
    let ins := s.stage.inputs
    let ops := (ins.zipIdx.map fun p => b2n (inOperate s p.1) * 2 ^ p.2 + b2n p.1.latched * 2 ^ (p.2 + 4)).sum
    let chs := (ins.zipIdx.map fun p => b2n p.1.chA * 4 ^ p.2 + b2n p.1.chB * 2 * 4 ^ p.2).sum
    let crash := (ins.zipIdx.map fun p => b2n p.1.crash * 2 ^ p.2).sum
    let sess := b2n (sessionOf s (headOf h)).isSome + 2 * b2n (s.safety.sessions.any fun x => x.head != headOf h) + 4 * b2n (loginLocked s)
    reply s h 0x0909 stOk
      (le 1 ops ++ le 1 chs ++ le 1 (outputsByte s) ++ le 1 s.stage.hvil ++ le 2 (sat 16 (activeCauses s).length) ++
        le 2 (s.stage.graces.filter fun g => g.running).length ++ le 4 (graceEnd s) ++ le 4 s.safety.gen ++
        crcTail (fit 124 (safetyImage s)) ++ le 4 s.nv.logSeq ++ le 1 sess ++ le 1 crash ++ zeros 2)

/-- READ_CHANGE_LOG (R395, R399). -/
def execReadChangeLog (h : Hdr) (fromSeq n : Nat) (s : State) : Host.Outcome State Fault Refusal :=
  .next <| runCmd s h 0x090A fun s =>
    let es := (s.nv.log.filter fun e => decide (fromSeq ≤ e.seq)).take (min n 7)
    reply s h 0x090A stOk (le 1 es.length ++ zeros 3 ++ es.flatMap logBytes)

/-- CRASH_RELEASE (R376, R400). -/
def execCrashRelease (h : Hdr) (input : Nat) (p : Proof) (s : State) : Host.Outcome State Fault Refusal :=
  .next <| runCmd s h 0x090B fun s => withProof s h 0x090B (le 1 input ++ zeros 3) p fun s =>
    match (if 1 ≤ input then inputAt s input else none) with
    | some i =>
      if !i.crash then refuse s h 0x090B 0x85
      else if !inOperate s i || decide (s.now < i.operateAt + secT) then refuse s h 0x090B 0x86
      else reply (updInput s input fun i => { i with crash := false }) h 0x090B stOk []
    | none => refuse s h 0x090B 0x85

/-- SESSION_TIMEOUT (R389): 60 s without an accepted proof. -/
def execSessionTimeout (head : Nat) (s : State) : Host.Outcome State Fault Refusal :=
  .next { s with safety := { s.safety with
    sessions := s.safety.sessions.filter fun x => !(x.head == head && decide (x.lastProof + 60 * secT ≤ s.now)) } }

/-- LOGIN_LOCK_END (R390). -/
def execLoginLockEnd (s : State) : Host.Outcome State Fault Refusal :=
  .next <|
    match s.safety.lockEnd with
    | some t => if t ≤ s.now then { s with safety := { s.safety with lockEnd := none } } else s
    | none => s

/-- The test-pulse counts of one input after one pulse of a feed (R370): `own` a high reading during its own feed's pulse, `cross`
a low reading of the other channel while its own feed is high. Counts 0 and 1 are shorts of A and B, 2 and 3 cross-shorts
seen on A and B. -/
def pulseInput (feed : Nat) (own cross : Bool) (i : SInput) : SInput :=
  let opOwn := if feed = 0 then i.chA else i.chB
  let opOther := if feed = 0 then i.chB else i.chA
  let short := own && opOwn
  let crossed := cross && opOther
  let c := i.tpCounts
  let c := c.set feed (if short then sat 8 (nth c feed 0 + 1) else 0)
  let c := c.set (3 - feed) (if crossed then sat 8 (nth c (3 - feed) 0 + 1) else 0)
  { i with
    tpCounts := c
    tpSound := if short || crossed then [0, 0] else i.tpSound.set feed (min 2 (nth i.tpSound feed 0 + 1)) }

/-- A test-pulse verdict latches the input in its safe state (R370). -/
def pulseVerdict (s : State) (n channel kind : Nat) : State :=
  let s := updInput s n fun i => { i with latched := true, bothSafe := false, crash := i.crash || inFunc s n == 3 }
  raise s 0 7 0x72 (256 * n + 16 * channel + kind)

/-- One input at a pulse of a feed: an enabled one counts what the pulse shows, and a count of 2 is a verdict (R370). -/
def pulseStep (feed : Nat) (ownHigh crossLow : List Bool) (s : State) (n : Nat) : State :=
  if inFunc s n = 0 then s
  else
    let s := updInput s n (pulseInput feed (nth ownHigh (n - 1) false) (nth crossLow (n - 1) false))
    match inputAt s n with
    | some i =>
      let s := if nth i.tpCounts feed 0 = 2 then pulseVerdict s n feed 1 else s
      if nth i.tpCounts (3 - feed) 0 = 2 then pulseVerdict s n (1 - feed) 2 else s
    | none => s

/-- TEST_PULSE (R370): a feed that pulses reaches its levels again. -/
def execTestPulse (feed : Nat) (ownHigh crossLow : List Bool) (s : State) : Host.Outcome State Fault Refusal :=
  let f := feed % 2
  let s := { s with stage := { s.stage with
    overA := s.stage.overA && decide (f = 1), overB := s.stage.overB && decide (f = 0) } }
  .next ([1, 2, 3, 4].foldl (pulseStep f ownHigh crossLow) s)

/-- TP_OVERLOAD (R370): every enabled input on the feed counts as safe. -/
def execTpOverload (feed : Nat) (s : State) : Host.Outcome State Fault Refusal :=
  let s := { s with stage := { s.stage with
    overA := s.stage.overA || decide (feed = 0), overB := s.stage.overB || decide (feed ≠ 0)
    inputs := s.stage.inputs.zipIdx.map fun p => { p.1 with crash := p.1.crash || inFunc s (p.2 + 1) == 3 } } }
  let s := openOutputs s ([1, 2, 3, 4].foldl (fun m n => m ||| inputOpens s n) 0)
  .next (raise s 0 7 0x73 (if feed = 0 then 0 else 1))

/-- A discrepancy latches the input in its safe state; the detail names the lagging channel (R373, R401). -/
def discrepancy (s : State) (n lagging : Nat) : State :=
  let s := updInput s n fun i => { i with latched := true, bothSafe := false, firstCh := none, crash := i.crash || inFunc s n == 3 }
  raise s 0 7 0x71 (256 * n + lagging)

/-- A channel takes its recognised state; what the pair then shows, with time in the stage's ticks of 1 ms (R373, R374). -/
def channelSet (now : Tick) (disc channel : Nat) (operate : Bool) (i : SInput) : SInput × Bool :=
  let i := if channel = 0 then { i with chA := operate } else { i with chB := operate }
  match i.firstCh with
  | none =>
    if i.chA = i.chB then (i, false) else ({ i with firstCh := some channel, firstAt := now }, false)
  | some c =>
    if c = channel then (i, true)
    else if now / msT ≤ i.firstAt / msT + disc then
      ({ i with firstCh := none
                bothSafe := i.bothSafe && !(i.latched && i.bothSafe && operate)
                latched := i.latched && !(i.bothSafe && operate) }, false)
    else (i, true)

/-- Samples that recognise a change of a channel: INFILT ms of them, 1 ms for a CRASH input (R370, R371). -/
def filterSamples (s : State) (input : Nat) : Nat := 4 * (if inFunc s input = 3 then 1 else cfg8 s 15)

/-- SAFETY_CHANNEL_CHANGE (R371 to R375): a change of one channel, recognised once enough samples agree. -/
def execSafetyChannelChange (input channel : Nat) (change : SampleRun) (s : State) : Host.Outcome State Fault Refusal :=
  .next <|
    match (if 1 ≤ input ∧ input ≤ 4 then inputAt s input else none) with
    | none => s
    | some i =>
      if (if channel = 0 then i.chA else i.chB) = change.operate ∨ change.samples < filterSamples s input then s
      else
        let was := inOperate s i
        let r := channelSet s.now (inDisc s input) channel change.operate i
        let i' := { r.1 with bothSafe := r.1.bothSafe || (r.1.latched && !r.1.chA && !r.1.chB) }
        let i' := { i' with operateAt := if inOperate s i' && !was then s.now else i'.operateAt }
        let func := inFunc s input
        if func = 0 then updInput s input fun _ => { i' with firstCh := none }
        else
          let s := updInput s input fun _ => { i' with crash := i'.crash || (was && !change.operate && func == 3) }
          let s := if was && !change.operate then raise s 0 7 0x70 (256 * input + func) else s
          if r.2 then discrepancy s input (if i'.firstCh == some channel then 1 - channel else channel) else s

/-- SI_DISCREPANCY (R373): the second channel has not changed by tick DISC + 1. -/
def execSiDiscrepancy (input : Nat) (s : State) : Host.Outcome State Fault Refusal :=
  .next <|
    match (if 1 ≤ input ∧ input ≤ 4 then inputAt s input else none) with
    | some i =>
      match i.firstCh with
      | some c => if i.firstAt / msT + inDisc s input + 1 ≤ s.now / msT then discrepancy s input (1 - c) else s
      | none => s
    | none => s

/-- Is the slot of this pack time the seventh of eight, which carries no pulse (R377)? -/
def emptySlot (s : State) : Bool := s.packTime / msT % 8 == 6

/-- The counts of the interlock loop after a slot: a pulse missed, a current where none may be, a low end at a missed pulse, and good slots
(R377, R378). -/
def hvilCounts (s : State) (inPulse inOff : Nat) (outLow : Bool) : Stage :=
  let back (i : Nat) : Bool := decide (cfg8 s 18 ≤ 2 * i)
  let expected := !emptySlot s
  let high := back inOff || (!expected && back inPulse)
  let missed := expected && !back inPulse
  let low := missed && outLow
  let st := s.stage
  { st with
    hvilMiss := if missed then st.hvilMiss + 1 else if expected then 0 else st.hvilMiss
    hvilHigh := if high then st.hvilHigh + 1 else 0
    hvilLow := if low then st.hvilLow + 1 else if expected then 0 else st.hvilLow
    hvilGood := if missed || high then 0 else min 16 (st.hvilGood + 1) }

/-- HVIL_SLOT (R377, R378). -/
def execHvilSlot (inPulse inOff : Nat) (outLow : Bool) (s : State) : Host.Outcome State Fault Refusal :=
  .next <|
    if !hvilEn s then s
    else
      let st := hvilCounts s inPulse inOff outLow
      let v := if st.hvilHigh = 2 then 4 else if st.hvilLow = 2 then 3 else if st.hvilMiss = cfg8 s 17 then 2 else 0
      let s := { s with stage := { st with hvil := if v ≠ 0 then v else if st.hvilGood = 16 then 1 else max 1 st.hvil } }
      if v = 4 then raise s 0 7 0x75 1 else if v = 3 then raise s 0 7 0x75 0 else if v = 2 then raise s 0 7 0x74 0 else s

/-- An output that cannot switch off (R382): the other output and the supply switch open. -/
def stuckOn (s : State) (n : Nat) : State :=
  let s := openOutputs s 3
  raise { s with stage := { s.stage with supply := false, stuckLowAt := none } } 0 7 0x76 n

/-- An output that does not switch on counts as open (R380, R381, R382). -/
def stuckOff (s : State) (n : Nat) : State := raise (openOutputs s (if n = 1 then 1 else 2)) 0 7 0x77 n

/-- Record a feedback level (R380). -/
def setFb (s : State) (n : Nat) (fb : Bool) : State :=
  { s with stage := { s.stage with
    fb1 := if n = 1 then fb else s.stage.fb1, fb2 := if n = 1 then s.stage.fb2 else fb
    stuckLowAt := if fb then none else s.stage.stuckLowAt } }

/-- SO_FEEDBACK_CHECK (R380): 2 ms after the last switching of the output. -/
def execSoFeedbackCheck (output : Nat) (fb : Bool) (s : State) : Host.Outcome State Fault Refusal :=
  .next <|
    if output ≠ 1 ∧ output ≠ 2 then s
    else
      let on := if output = 1 then s.stage.so1 else s.stage.so2
      let since := if output = 1 then s.stage.at1 else s.stage.at2
      let testing := if output = 1 then s.stage.test1.isSome else s.stage.test2.isSome
      if testing || decide (s.now < since + 2 * msT) then s
      else
        let s := setFb s output fb
        finishClear (if on && !fb then stuckOff s output else if !on && fb then stuckOn s output else s)

/-- OFF_PULSE_TEST (R381): SO1 at multiples of 500 ms of pack time, SO2 250 ms later. -/
def execOffPulseTest (output : Nat) (s : State) : Host.Outcome State Fault Refusal :=
  .next <|
    if output = 1 ∧ s.stage.so1 ∧ s.packTime % (500 * msT) = 0 then { s with stage := { s.stage with test1 := some s.now } }
    else if output = 2 ∧ s.stage.so2 ∧ s.packTime % (500 * msT) = 250 * msT then
      { s with stage := { s.stage with test2 := some s.now } }
    else s

/-- End the off-pulse test of an output. -/
def endTest (s : State) (n : Nat) : State :=
  { s with stage := { s.stage with
    test1 := if n = 1 then none else s.stage.test1, test2 := if n = 1 then s.stage.test2 else none } }

/-- OFF_PULSE_TEST_END (R381): the test of OPDUR and the 200 µs after it are judged. -/
def execOffPulseTestEnd (output : Nat) (sawLow sawHigh : Bool) (s : State) : Host.Outcome State Fault Refusal :=
  .next <|
    match (if output = 1 then s.stage.test1 else if output = 2 then s.stage.test2 else none) with
    | none => s
    | some t =>
      if s.now < t + cfg8 s 14 * 10 * usT + (if sawLow && !sawHigh then 200 * usT else 0) then s
      else
        let s := setFb (endTest s output) output sawHigh
        if !sawLow then stuckOn s output else if !sawHigh then stuckOff s output else s

/-- SAFETY_CLOCK_CHECK (R368): beyond ±5 % both drivers are disabled directly. -/
def execSafetyClockCheck (error : Int) (s : State) : Host.Outcome State Fault Refusal :=
  let bad := decide (error < -50) || decide (50 < error)
  let s := { s with stage := { s.stage with driversOff := bad } }
  .next (if bad then raise (openOutputs s 3) 0 7 0x7C (leVal (leInt 2 error)) else s)

/-- GRACE_EXPIRED (R383): the outputs open only if the cause is still present. -/
def execGraceExpired (die cell : Nat) (under : Bool) (s : State) : Host.Outcome State Fault Refusal :=
  .next <|
    match s.stage.graces.find? fun g => g.die == die && g.cell == cell && g.under == under && g.running && decide (g.endAt ≤ s.now) with
    | none => s
    | some g =>
      let s := { s with stage := { s.stage with graces := upd s.stage.graces (fun x => x == g) fun x => { x with running := false } } }
      if compHolds s die cell under then raise s 0 7 0x78 (partCell s die cell + (if under then 0x8000 else 0)) else s

end Sys2Proof.Machine
end

