-- ==== Sys2Proof/Machine/Convert.lean ====
section
/-! DEFINITION. The slot timetable of a sweep and the conversion of one input (R92, R95, R96, R99 to R104, R117 to R125,
R177, R194, R238). -/
namespace Sys2Proof.Machine

/-- One slot: its input (none for the slow slot and the diagnostic-only slots), its kind (0 fast, 1 slow, 2 diagnostic-only), and
its sample instant after the Clapper in ticks (R99, R133). -/
structure Slot where
  input : Option Nat
  kind : Nat
  sample : Tick
  deriving DecidableEq, Repr

/-- Does an entry name an input? -/
def entryNames (e : SeqEntry) (input : Nat) : Bool := decide (e.first ≤ input) && decide (input ≤ e.last)

/-- The entry that names an input, the first one where several do. -/
def SegDie.entry? (d : SegDie) (input : Nat) : Option SeqEntry := d.seq.find? fun e => entryNames e input

/-- Is an input one that the die has: a mapped cell or an auxiliary input (R95)? -/
def SegDie.hasInput (d : SegDie) (input : Nat) : Bool := decide (input < d.cells) || (decide (24 ≤ input) && decide (input < 32))

/-- Inputs sampled in every sweep, in slot order: cells then auxiliary inputs in hardware mode, table order in host-assisted
mode (R102, R103). -/
def fastInputs (d : SegDie) (host : Bool) : List Nat :=
  if host then
    (d.seq.filter fun e => e.div == 0).flatMap fun e =>
      ((List.range 32).filter fun k => entryNames e k && d.hasInput k)
  else (List.range 32).filter fun k => d.hasInput k && (d.entry? k).any fun e => e.div == 0

/-- Slow inputs with their k, in the order in which they get their phases: smallest k first, then ascending input (R104). -/
def slowInputs (d : SegDie) : List (Nat × Nat) :=
  (List.range 11).flatMap fun k =>
    if k = 0 then []
    else ((List.range 32).filter fun x => d.hasInput x && (d.entry? x).any fun e => e.div == k).map fun x => (x, k)

/-- A phase for each slow input: the lowest that meets no earlier input's sweeps (R104; the order is log entry 29). -/
def slowPhases (l : List (Nat × Nat)) : List (Nat × Nat × Nat) :=
  l.foldl (fun acc x =>
    match (List.range (2 ^ x.2)).find? fun p => acc.all fun y => p % 2 ^ y.2.1 != y.2.2 with
    | some p => acc ++ [(x.1, x.2, p)]
    | none => acc) []

/-- Do the slow inputs of a table fit the slow slot (R104)? -/
def slowFits (d : SegDie) : Bool := decide (((slowInputs d).map fun x => 2 ^ (10 - x.2)).sum ≤ 1024)

/-- The slow input that a sweep carries, counted from the boundary at which the table took effect (R104). -/
def slowAt (d : SegDie) (sweepNo : Nat) : Option Nat :=
  ((slowPhases (slowInputs d)).find? fun x => (sweepNo - d.tableAt) % 2 ^ x.2.1 == x.2.2).map (·.1)

/-- Acquisition time of an input's entry in ticks (R105). -/
def acqOf (d : SegDie) (input : Nat) : Tick := ((d.entry? input).map fun e => 25 * e.acq).getD 50

/-- Does the sequence leave out a mapped cell, so that diagnostic-only slots run (R100)? -/
def leavesOut (d : SegDie) : Bool := (List.range d.cells).any fun k => (d.entry? k).isNone

/-- Inputs, kinds and acquisition times of the slots in order (R100, R102, R103). The four diagnostic-only slots take 1.0 µs
each (log entry 30). -/
def slotPlan (d : SegDie) (host : Bool) : List (Option Nat × Nat × Tick) :=
  (fastInputs d host).map (fun x => (some x, 0, acqOf d x)) ++
  (match (slowInputs d).map fun x => acqOf d x.1 with
   | [] => []
   | l => [(none, 1, l.foldl max 0)]) ++
  (if leavesOut d then List.replicate 4 (none, 2, 50) else [])

/-- Lay slots out from a start time (R99). -/
def layOut (t : Tick) : List (Option Nat × Nat × Tick) → List Slot
  | [] => []
  | (x, k, a) :: r => { input := x, kind := k, sample := t + a } :: layOut (t + a + 50) r

/-- The slot timetable of a die (R99 to R103, R133). -/
def timetable (d : SegDie) (host : Bool) : List Slot := layOut 0 (slotPlan d host)

/-- The sweep duration of a die in ticks (R100). -/
def duration (d : SegDie) (host : Bool) : Tick := ((slotPlan d host).map fun x => x.2.2 + 50).sum

/-- Is a die one that sweeps: supplied, in service, not stopped, its ring input there (R293, R317, R465, R535)? -/
def SegDie.sweeps (d : SegDie) : Bool := !d.unpowered && !d.out && !d.stopped && !d.ringLost && decide (0 < d.cells)

/-- A die's ANALOG domain goes off: it stops, and no reference of it is settled (R118, R465). -/
def SegDie.analogOff (d : SegDie) : SegDie :=
  { d with stopping := false, stopped := true, refOk := [false, false, false], refSince := [none, none, none] }

/-- The sweep duration of the package: the longest of its dies. -/
def sweepDuration (s : State) : Tick := (s.segs.map fun d => duration d s.sweep.hostSched).foldl max 0

/-- The shortest interval between Clappers that starts a sweep (R101, R113). -/
def minPeriod (s : State) : Tick := max 2500 (sweepDuration s + 100)

/-- The gain of an input as a factor: 1, 2 or 4; cells ignore GAIN (R105). -/
def gainOf (d : SegDie) (input : Nat) : Nat := if input < 24 then 1 else ((d.entry? input).map fun e => 2 ^ (min e.gain 2)).getD 1

/-- The reference of an input: 0 internal, 1 external, 2 supply, with the fallback of R120. -/
def refOf (d : SegDie) (input : Nat) : Nat :=
  match (d.entry? input).map (·.ref) with
  | some 1 => if d.fallback then 0 else 1
  | some 2 => 2
  | _ => 0

/-- One LSB of an input in nV (R121). -/
def lsbOf (d : SegDie) (input : Nat) : Nat := if input < 24 then 200000 else 100000 / gainOf d input

/-- Top and bottom of the valid span of an input in nV (R91, R92, R121). -/
def topOf (d : SegDie) (input : Nat) : Int := if input < 24 then 5600000000 else 3200000000 / (gainOf d input : Int)
def bottomOf (d : SegDie) (input : Nat) : Int := if input < 24 then -400000000 else -200000000 / (gainOf d input : Int)

/-- A conversion: raw code, direction of over-range (0 none, 1 top, 2 bottom), new residue in nV. -/
structure Conv where
  code : Int
  ovr : Nat
  residue : Int
  deriving DecidableEq, Repr

/-- The voltage of an input in nV as its reference counts it: the supply and the external reference scale it to 3.000 V (R117, R121, R137). -/
def referred (d : SegDie) (input : Nat) (nv : Int) : Int :=
  match refOf d input with
  | 0 => nv
  | r => divRound (nv * 3000000) (nth d.refUv r 3000000).toNat

/-- The trim step after the converter core (R96, R176, R177, R194): gain and offset of the cell channel, linearity, and the internal reference at
the die's temperature. -/
def trimmed (d : SegDie) (input : Nat) (nv : Int) : Int :=
  let gain := if input < 24 then nth d.trim.gains input 0 else 0
  let temp := if refOf d input = 0 then d.trim.tempMain * (d.therm.temp - 2500) / 100 else 0
  nv + divRound (nv * (gain + temp)) 1000000000 + (if input < 24 then nth d.trim.offsets input 0 else 0) +
    nth d.trim.linearity ((nv / (lsbOf d input : Int) + 32768) / 4096).toNat 0

/-- The noise-shaped conversion of a voltage in nV at an input: the core resolves 14 bits, four codes of the 16, on the voltage and the residue of
the input's last conversion, and the trim step widens its result to 16 bits (R96, R121, R177; log entry 31). -/
def convert (d : SegDie) (input : Nat) (volts : Int) : Conv :=
  let nv := referred d input volts
  if topOf d input ≤ nv then { code := 0x7FFF, ovr := 1, residue := 0 }
  else if nv ≤ bottomOf d input then { code := -0x7FFF, ovr := 2, residue := 0 }
  else
    let x := nv + nth d.residue input 0
    let core := divRound x (4 * lsbOf d input) * (4 * lsbOf d input : Nat)
    let c := divRound (trimmed d input core) (lsbOf d input)
    { code := clamp (bottomOf d input / (lsbOf d input : Int)) (topOf d input / (lsbOf d input : Int)) c, ovr := 0, residue := x - core }

/-- Is the reference of an input usable: settled, and its substitute not in force (R119, R120)? -/
def refUsable (d : SegDie) (input : Nat) : Bool :=
  nth d.refOk (refOf d input) false && !(refOf d input == 2 && d.noSupply)

/-- Do the taps of a sampled cell and of a served cell meet: the same cell or a neighbour (R125)? -/
def meetsCell (served sampled : Nat) : Bool := decide (sampled + 1 = served) || decide (sampled = served) || decide (sampled = served + 1)

/-- Do quiet windows apply to the samples of a cell in a sweep: in host-assisted scheduling only where a QUIET entry names it (R103)? -/
def quietCell (d : SegDie) (host : Bool) (cell : Nat) : Bool := !host || (d.entry? (cell - 1)).any fun e => bit e.flags 0

/-- The cells sampled in a sweep with their sample instants after the Clapper (R125): the cells of the slots, the cell that the slow slot carries
in sweep `n`, and in the diagnostic-only slots those cells of group `g` of the rotation that no entry names. -/
def cellSamples (d : SegDie) (host : Bool) (n g : Nat) : List (Tick × Nat) :=
  let tt := timetable d host
  (tt.filterMap fun x => (if x.kind = 1 then slowAt d n else x.input).bind fun i => if i < 24 then some (x.sample, i + 1) else none) ++
    (((tt.filter fun x => x.kind == 2).zip (rotationGroup d.cells g)).filter fun x => (d.entry? (x.2 - 1)).isNone).map fun x => (x.1.sample, x.2)

/-- Sample instants of a sweep that gate the Dolly of a served cell (R103, R125). -/
def gateInstants (d : SegDie) (host : Bool) (cell n g : Nat) : List Tick :=
  ((cellSamples d host n g).filter fun x => meetsCell cell x.2 && quietCell d host x.2).map (·.1)

/-- Gated time: gates from 4 µs before to 1 µs after each instant, the first one not before the event has arrived `lead` ticks ahead of the
Clapper, merged where less than 3 µs lie between (R116, R125, R126). -/
def gatedTime (lead : Nat) : Option Tick → List Tick → Tick
  | _, [] => 0
  | none, t :: r => min 400 (t + lead) + 100 + gatedTime lead (some t) r
  | some p, t :: r => (if t < p + 500 + 300 then t - p else 500) + gatedTime lead (some t) r

/-- Sweeps over which the gated time is averaged: one rotation where diagnostic-only slots run, times the period of the slow cells (R238; log
entry 133). -/
def gateSweeps (d : SegDie) : Nat :=
  (if leavesOut d then max 1 (rotationLen d.cells) else 1) * 2 ^ (((slowInputs d).filter fun x => decide (x.1 < 24)).map (·.2)).foldl max 0

/-- The duty d of R238 as a fraction: 1 less the gated time of one sweep over the last Clapper interval. -/
def dutyOf (d : SegDie) (host : Bool) (lead cell interval : Nat) : Nat × Nat :=
  let n := gateSweeps d
  let g := ((List.range n).map fun k => gatedTime lead none (gateInstants d host cell (d.tableAt + k) (k % max 1 (rotationLen d.cells)))).sum
  if d.compensated then (1, 1) else if interval = 0 then (0, 1) else (n * interval - g, n * interval)

/-! The next Clapper. -/

/-- The instant of a TIMER Clapper that a copy of pack time has crossed in its last tick: an event of R111 and DELAY (R37, R109). -/
def timerCrossed (t : Trigger) (p prev : Nat) : Option Nat :=
  if t.period = 0 then none
  else
    let last : Int := (p : Int) - ((p : Int) - t.delay - t.phase) % t.period
    if (prev : Int) < last then some last.toNat else none

/-- The copy of pack time that times the package's TIMER Clappers: that of its lowest die that sweeps (R16, R111; log entry 74). -/
def timerCopy (s : State) : Nat × Nat :=
  match s.segs.find? (·.sweeps) with
  | some d => (d.packTime, d.packPrev)
  | none => (s.packTime, s.packTime - 1)

/-- Ticks that a die expects until the next Clapper, none where it expects none: from the timer, from the schedule queue, or for PIN and CHAIN from
an event it holds, else from the shortest of the last eight intervals (R123, R130). -/
def nextClapIn (s : State) : Option Nat :=
  if !(s.sweep.running || s.sweep.burst) then none
  else
    let t := s.sweep.trig
    match t.source with
    | 1 | 2 =>
      match s.sweep.events with
      | e :: _ => some (e.clap - s.packTime)
      | [] => s.sweep.intervals.min?.map fun i => s.sweep.lastClap + i - s.packTime
    | 3 => if t.period = 0 then none else some (t.period - (((timerCopy s).1 : Int) - t.delay - t.phase).toNat % t.period)
    | 4 => s.sweep.times.head?.map fun x => x + t.delay - s.packTime
    | _ => none

/-- Clapper interval that a die expects (R130). -/
def nextInterval (s : State) : Option Nat :=
  match s.sweep.trig.source with
  | 1 | 2 => s.sweep.intervals.min?
  | 3 => some s.sweep.trig.period
  | 4 => match s.sweep.times with
    | a :: b :: _ => some (b - a)
    | _ => none
  | _ => none

/-- Is the main converter of a die idle: no sweep of it in progress, no urgent conversion before it (R123)? -/
def mainIdle (s : State) (d : SegDie) : Bool :=
  !(s.sweep.inSweep && d.sweeps && decide (s.packTime < s.sweep.lastClap + duration d s.sweep.hostSched)) &&
    s.ring.accepted.all fun x => x.1 != d.code

/-- A sample outside the sweep slots gates the Dollies: it joins the samples of the last 1 ms (R124, R125, R205, R213, R238). -/
def noteGateAt (s : State) (die cell kind : Nat) (t : Tick) : State :=
  s.updDie die fun d => { d with gates := (d.gates.filter fun g => decide (s.now < g.1 + msT)) ++ [(t, cell, kind)] }

/-- Such a sample at this instant. -/
def noteGate (s : State) (die cell kind : Nat) : State := noteGateAt s die cell kind s.now

end Sys2Proof.Machine
end

