-- ==== Sys2Proof/Machine/Values.lean ====
section
/-! DEFINITION. Arithmetic of the measured values: binary32 coefficients, system calibration, interpolated current, the sinc filters and
the alignment of a sample (R128, R138, R142, R144 to R146, R148, R155, R181, R185, R186). -/
namespace Sys2Proof.Machine

/-- The significand of a binary32 word with its hidden bit, and the power of 2 it is scaled by, plus 150 (IEEE 754). -/
def f32Parts (w : Nat) : Nat × Nat :=
  let e := w / 2 ^ 23 % 256
  if e = 0 then (w % 2 ^ 23, 1) else (w % 2 ^ 23 + 2 ^ 23, e)

/-- Round a signed number times `m · 2^(e - 150)` to an integer. -/
def scaleRound (x : Int) (m e : Nat) : Int := if 150 ≤ e then x * m * 2 ^ (e - 150) else divRound (x * m) (2 ^ (150 - e))

/-- A number times a binary32 word, rounded to an integer. -/
def f32Mul (w : Nat) (x : Int) : Int :=
  let v := scaleRound x (f32Parts w).1 (f32Parts w).2
  if w / 2 ^ 31 % 2 = 1 then -v else v

/-- The binary32 word nearest to `a / b` for a positive quotient in the normal range, halves away from zero. -/
def f32Pos (a b : Nat) : Nat :=
  if a = 0 ∨ b = 0 then 0
  else
    -- k: the exponent guess with 2^k near a / b, in an offset of 200 so that it stays a natural number
    let g := 200 + Nat.log2 a - Nat.log2 b
    let q (k : Nat) : Nat := -- a / b · 2^(223 - k), rounded
      if k ≤ 223 then (2 * (a * 2 ^ (223 - k)) + b) / (2 * b) else (2 * a + b * 2 ^ (k - 223)) / (2 * b * 2 ^ (k - 223))
    let k := if q g < 2 ^ 23 then g - 1 else g
    let m := q k
    if 2 ^ 24 ≤ m then (k + 1 - 200 + 127) * 2 ^ 23 + (m / 2 - 2 ^ 23) else (k + 127 - 200) * 2 ^ 23 + (m - 2 ^ 23)

/-- The binary32 word nearest to `a / b`. -/
def f32Of (a : Int) (b : Nat) : Nat := (if a < 0 then 2 ^ 31 else 0) + f32Pos a.natAbs b

/-- The 28 bytes of a calibration record (R192). -/
def calBytes (r : CalRecord) : List Byte :=
  let b := le 1 r.kind ++ le 1 r.die ++ le 1 r.input ++ le 1 r.modegr ++ le 4 r.gain ++ leInt 4 r.offset ++ leInt 2 r.temp ++ le 2 r.gen ++
    le 8 r.at_
  b ++ crcTail b

/-- The record in force for a channel (R192, R193). -/
def calOf (s : State) (kind die input : Nat) : Option CalRecord :=
  s.cal.live.find? fun r => r.kind == kind && r.die == die && r.input == input

/-- MODEGR of an input's entry without its UNIT: gain code and the reference it converts on (R120, R181, R192). -/
def modeOf (d : SegDie) (input : Nat) : Nat := ((d.entry? input).map fun e => e.gain % 4 + 4 * refOf d input).getD 0

/-- The coefficients in force for an auxiliary input: only while its entry has their gain and reference (R181). -/
def auxCal (s : State) (d : SegDie) (input : Nat) : Option CalRecord :=
  (calOf s 0 d.code input).filter fun r => r.modegr % 16 == modeOf d input

/-- Resistance of a tap in µΩ, where it is calibrated (R128, R189). -/
def tapRes (s : State) (die tap : Nat) : Option Int := (calOf s 2 die tap).map (·.offset)

/-- Has a die every tap from T0 to the top mapped tap calibrated (R129, R189)? -/
def tapsCalibrated (s : State) (d : SegDie) : Bool := (List.range (d.cells + 1)).all fun t => (tapRes s d.code t).isSome

/-- A cell voltage in nV after the system gain factor (R180). -/
def cellGain (s : State) (die : Nat) (nv : Int) : Int :=
  match calOf s 1 die 0 with
  | some r => f32Mul r.gain nv
  | none => nv

/-- Does CAL_TAPS run on a die (R188, R191)? -/
def tapRunOn (s : State) (d : SegDie) : Bool := s.cal.taps.any fun t => t.dies.contains d.code && !t.failed.contains d.code

/-- The tap correction of COMPENSATED mode in nV, with the cell-side currents of the taps in mA (R128). The samples of a tap calibration, which
reach no Slate, carry none (R188, R191). -/
def tapCorrection (s : State) (d : SegDie) (cell : Nat) (taps : List Int) : Int :=
  if d.compensated && !tapRunOn s d then
    nth taps cell 0 * (tapRes s d.code cell).getD 0 - nth taps (cell - 1) 0 * (tapRes s d.code (cell - 1)).getD 0
  else 0

/-- An auxiliary sample in thousandths of its LSB: calibrated where coefficients are in force (R155, R181, R185). -/
def auxValue (s : State) (d : SegDie) (input : Nat) (nv : Int) : Int :=
  match auxCal s d input with
  | some r => f32Mul r.gain nv + r.offset * 1000
  | none => nv

/-- A sample value as it enters alignment and filtering: 0 to 23 are cells (R128, R180, R185). -/
def sampleValue (s : State) (d : SegDie) (input : Nat) (taps : List Int) (nv : Int) : Int :=
  if input < 24 then cellGain s d.code nv - tapCorrection s d (input + 1) taps else auxValue s d input nv

/-- Has an auxiliary input a system current calibration (R187)? -/
def currentCal (s : State) (die input : Nat) : Bool :=
  (s.die? die).any fun d => (auxCal s d input).any fun r => r.modegr / 16 % 4 == 1

/-- The current at a pack time from samples, newest first: between the two that bracket it, held at the ends (R145). -/
def currentAt : List CurSample → Nat → Option Int
  | [], _ => none
  | [a], _ => some a.ma
  | b :: a :: r, t =>
    if b.at_ ≤ t then some b.ma else if a.at_ ≤ t then some (interp2 a b t) else currentAt (a :: r) t

/-- Is a pack time bracketed: has a sample at or after it arrived? -/
def bracketed (l : List CurSample) (t : Nat) : Bool := l.head?.any fun b => decide (t ≤ b.at_)

/-- The current samples that alignment uses: the source's, or the auxiliary substitute's (R148). -/
def alignCurrents (s : State) : List CurSample := if s.slates.irsrc = 0 then s.ring.current else s.slates.subst

/-- Does this package's own M supply the current: unenumerated or alone, or named as the source (R38, R360)? -/
def ownSource (s : State) : Bool := s.part.hasM && 
  (if s.chain.sourceSet then s.chain.source == s.chain.addr && decide (s.chain.addr ≠ 0) else decide (s.chain.count ≤ 1))

/-- Does another package of the chain supply the current (R38, R360)? -/
def chainSource (s : State) : Bool := decide (1 < s.chain.count) && s.chain.source != 0 && s.chain.source != s.chain.addr

/-- Does the current source of R38 provide current now (R145, R148, R359)? -/
def sourceThere (s : State) : Bool :=
  if ownSource s then !s.mport.withdrawn && !s.ring.current.isEmpty
  else chainSource s && s.chain.currentAt.any fun t => decide (s.now ≤ t + msT)

/-- Does the source that alignment uses provide current now (R148)? -/
def currentThere (s : State) : Bool :=
  if s.slates.irsrc = 2 then false
  else if s.slates.irsrc = 1 then currentCal s s.slates.subDie s.slates.subIn && !s.slates.subst.isEmpty
  else sourceThere s

/-- Alignment of one sample of a cell with its resistance in nΩ (R144): the change of the current from the Clapper to the sample
instant, none in host-assisted alignment (R149). A stand-in of a probed cell carries its baseline to the sample instant, with or without the
correction of R144 after it (R216). `force` holds the last current (R145). -/
def alignSample (l : List CurSample) (host force : Bool) (nohm : Nat) (x : Sample) : Sample :=
  if x.di.isSome || !(force || bracketed l x.at_) then x
  else
    match currentAt l x.clap, currentAt l x.at_ with
    | some i0, some i1 =>
      let to_ := if host then i1 else i0
      let di := if x.probed then x.cur.getD i0 - to_ else i1 - to_
      { x with di := some di, cur := some (if x.probed then x.cur.getD i1 else i1), nv := x.raw - divRound ((nohm : Int) * di) 1000 }
    | _, _ => x

/-- One moving average over `d` successive samples, newest first: the running sums. -/
def slide : Int → List Int → List Int → List Int
  | acc, x :: r, y :: q => acc :: slide (acc + x - y) r q
  | acc, _, _ => [acc]

/-- The sums over `d` successive samples, newest first; none where there are fewer. -/
def boxSums (d : Nat) (l : List Int) : List Int := if l.length < d then [] else slide ((l.take d).sum) (l.drop d) l

/-- A sinc filter of order `n` and decimation `d` over samples, newest first: the sum that stands over `d^n` (R138). -/
def sincSum : Nat → Nat → List Int → Int
  | 0, _, l => l.headD 0
  | n + 1, d, l => sincSum n d (boxSums d l)

/-- The filter output, in the samples' unit (R138). -/
def sincOut (n d : Nat) (l : List Int) : Int := divRound (sincSum n d l) (d ^ n)

/-- A Slate value code: the output in its LSB, no data, or a saturation code (R142, R155, R186); and whether it is a saturation code. -/
def slateValue (b : BlockInput) : Int × Bool :=
  let l := b.samples.take (b.order * b.d)
  if l.length < b.order * b.d ∨ l.any (·.noData) ∨ b.d = 0 then (-0x800000, false)
  else
    match l.find? fun x => x.ovr != 0 with
    | some x => (if x.ovr = 1 then 0x7FFFFF else -0x7FFFFF, true)
    | none =>
      let v := divRound (sincSum b.order b.d (l.map (·.nv))) (b.d ^ b.order * 1000)
      if 0x7FFFFE < v then (0x7FFFFF, true) else if v < -0x7FFFFE then (-0x7FFFFF, true) else (v, false)

end Sys2Proof.Machine
end

