-- ==== Sys2Proof/Machine/SlateOps.lean ====
section
/-! DEFINITION. The Slate engine's arithmetic and layouts: the pack current and its integral, the alignment of a Take, DIEFLAGS, and the
bytes of full and compact Slates (R138, R142 to R157, R166, R169). -/
namespace Sys2Proof.Machine

/-- The current samples from which C forms the pack current: its stream, or the auxiliary substitute (R144, R148). -/
def packCurrents (s : State) : List CurSample := if s.slates.irsrc = 0 then s.slates.stream else s.slates.subst

/-- A sample of the pack current at a Clapper, filled from the stream once the stream brackets it, or at the latest moment (R144, R145). -/
def fillCurrent (l : List CurSample) (there force : Bool) (x : Sample) : Sample :=
  if x.di.isSome || !(force || (there && bracketed l x.at_)) then x
  else
    match (if there then currentAt l x.at_ else none) with
    | some i => { x with di := some 0, cur := some i, nv := 1000 * i, raw := 1000 * i, noData := false }
    | none => { x with di := some 0, noData := true }

/-- Does the current that CHARGE integrates come now (R148, R166, R187)? -/
def chargeThere (s : State) : Bool := if s.slates.irsrc = 1 then currentThere s else sourceThere s

/-- CHARGE at a Clapper in doubled mA·ticks: the integral from the integrator's zero; while no current comes it stands at the last sample (R156,
R166). -/
def chargeAt (s : State) (clap : Nat) : Int :=
  let l := chargeSamples s
  match integralAt l (if chargeThere s then clap else min clap ((l.head?.map (·.at_)).getD 0)) with
  | some i => s.slates.preset + i - s.slates.zeroInt
  | none => s.slates.preset

/-- Is an input of a block a mapped one: a mapped cell, or an auxiliary input that an entry names (R154; log entry 45)? -/
def mappedInput (b : Block) (i : Nat) : Bool := if i < 24 then decide (i < b.cells) else (b.inputs[i]?).any fun x => x.d != 0

/-- The value code of an input of a block. -/
def blockValue (b : Block) (i : Nat) : Int × Bool := ((b.inputs[i]?).map slateValue).getD (-0x800000, false)

/-- Samples that contribute to a value (R142). -/
def contributing (b : BlockInput) : List Sample := b.samples.take (b.order * b.d)

/-- Does some contributing sample of the mapped inputs satisfy a test? -/
def blockAny (b : Block) (p : Sample → Bool) : Bool :=
  (List.range 32).any fun i => mappedInput b i && (b.inputs[i]?).any fun x => (contributing x).any p

/-- DIEFLAGS of a block that carries data, or of one that does not (R132, R150, R154). -/
def dieFlags (b : Block) (data : Bool) : Nat :=
  if !data then b.flags + 16
  else
    b.flags + b2n (blockAny b (·.sub)) + 4 * b2n (blockAny b (·.nbr)) + 8 * b2n ((List.range 32).any fun i => (blockValue b i).2) +
      16 * b2n ((List.range 32).any fun i => mappedInput b i && (blockValue b i).1 == -0x800000) + 64 * b2n (blockAny b (·.quiet))

/-- The 104 bytes of a block of a fitted die (R152, R153). -/
def blockBytes (b : Block) (data : Bool) : List Byte :=
  le 1 b.die ++ le 1 b.first ++ le 1 b.cells ++ le 1 (b.sets % 16) ++
    (List.range 32).flatMap (fun i => leInt 3 (if data then (blockValue b i).1 else -0x800000)) ++ leInt 2 (b.temp.getD (-0x8000)) ++
    le 2 (dieFlags b data)

/-- The block of a die that is not fitted (R150). -/
def absentBlock (die : Nat) : List Byte :=
  le 1 die ++ zeros 3 ++ (List.range 32).flatMap (fun _ => leInt 3 (-0x800000)) ++ leInt 2 (-0x8000) ++ zeros 2

/-- Does a block carry data in its Slate: formed with data, and arrived with a good check value (R150, R292)? -/
def blockData (b : Block) : Bool := b.live && b.got == some true

/-- The pack current in mA, none for no data (R144, R148, R156). -/
def packCurrent (b : BlockInput) : Option Int :=
  let l := b.samples.take (b.order * b.d)
  if l.length < b.order * b.d ∨ l.any (·.noData) ∨ b.d = 0 then none
  else some (divRound (sincSum b.order b.d (l.map (·.nv))) (b.d ^ b.order * 1000))

/-- The 16 bytes of the current block (R156). -/
def currentBlock (s : State) (t : Take) : List Byte :=
  leInt 4 ((packCurrent t.current).getD (-0x80000000)) ++ leInt 8 (divRound t.charge mAsUnit) ++
    le 1 (b2n (!currentThere s) + 2 * b2n (s.slates.irsrc == 1 && currentThere s) + 4 * b2n (s.slates.irsrc == 0 && chainSource s) +
      8 * b2n s.slates.gap) ++
    le 1 (if chainSource s then s.chain.source else 0) ++ zeros 2

/-- DIEMASK of a Take at publication (R150). -/
def takeMask (s : State) (t : Take) : Nat :=
  1 + 2 * b2n (s.slates.irsrc == 0 && ownSource s && currentThere s) + (t.blocks.filter blockData).foldl (fun a b => a + 2 ^ b.die) 0

/-- A record with its check value at the end. -/
def withCrc (l : List Byte) : List Byte := l ++ crcTail l

/-- The 660 bytes of a full Slate (R150). -/
def slateBytes (s : State) (t : Take) : List Byte :=
  withCrc (le 4 t.seq ++ le 8 t.clap ++ le 2 t.flags ++ le 1 t.dieMask ++ le 1 t.filterId ++
    [2, 3, 4, 5, 6, 7].flatMap (fun c => match t.blocks.find? fun b => b.die == c with
      | some b => blockBytes b (blockData b)
      | none => absentBlock c) ++ currentBlock s t)

/-- `n` bytes of a record at an offset. -/
def fieldAt (l : List Byte) (off n : Nat) : List Byte := (l.drop off).take n

/-- The code of a cell in a full Slate, 24 bits signed (R155). -/
def slateCell (l : List Byte) (die cell : Nat) : Int := signed 24 (leVal (fieldAt l (16 + 104 * (die - 2) + 4 + 3 * (cell - 1)) 3))

/-- DIEFLAGS of a die in a full Slate (R152). -/
def slateFlags (l : List Byte) (die : Nat) : Nat := leVal (fieldAt l (16 + 104 * (die - 2) + 102) 2)

/-- A compact cell code (R157). -/
def compactCode (v : Int) : Nat :=
  if v = -0x800000 then 0 else if v = 0x7FFFFF then 0xFFFF else if v = -0x7FFFFF then 1 else (clamp 0 0xFFFF (divRound (v + 500000) 100)).toNat

/-- The 324 bytes of the compact form of a full Slate (R157). -/
def compactBytes (l : List Byte) : List Byte :=
  withCrc (l.take 16 ++
    [2, 3, 4, 5, 6, 7].flatMap (fun c => le 2 (slateFlags l c) ++ (List.range 24).flatMap fun k => le 2 (compactCode (slateCell l c (k + 1)))) ++
    fieldAt l 640 4)

/-- What SET_STREAM selects for this package: form and divider (R169; the state before any SET_STREAM is log entry 22). -/
def ownSelection (s : State) : Nat × Nat :=
  match s.slates.sel.find? fun e => e.pkg == 0 || e.pkg == s.chain.addr with
  | some e => (e.form, e.div)
  | none => (1, 1)

/-- Is a Slate selected for publication (R169)? -/
def selectedSeq (s : State) (seq : Nat) : Bool :=
  let f := ownSelection s
  decide (f.1 = 1 ∨ f.1 = 2) && decide (f.2 ≠ 0) && decide (seq % f.2 = 0)

/-- The resistance estimate of a part cell in nΩ (R146). -/
def rhoOf (s : State) (n : Nat) : Nat := ((if n = 0 then none else s.slates.rho[n - 1]?).map (·.nohm)).getD 500000

/-- Is every mapped cell's estimate converged (R146, R148)? -/
def rhoConverged (s : State) : Bool := (s.slates.rho.take (mappedCells s)).all fun r => decide (4096 ≤ r.count)

/-- Align the cell samples of one die's lists, up to a Clapper (R144, R145). -/
def alignLists (s : State) (die : Nat) (host force : Bool) (clap : Nat) (l : List (List Sample)) : List (List Sample) :=
  l.zipIdx.map fun p =>
    if p.2 < 24 then p.1.map fun x => if x.clap ≤ clap then alignSample (alignCurrents s) host force (rhoOf s (partCell s die (p.2 + 1))) x else x
    else p.1

/-- Align a block's inputs (R144, R149). -/
def alignBlock (s : State) (host : Bool) (b : Block) : Block :=
  { b with inputs := b.inputs.zipIdx.map fun p =>
      if p.2 < 24 then { p.1 with samples := p.1.samples.map (alignSample (alignCurrents s) host true (rhoOf s (b.first + p.2))) } else p.1 }

/-- Align a Take and the samples the dies hold, at the latest moment before publication (R144, R145, R148, R149). -/
def alignTake (s : State) (t : Take) : State × Take :=
  if !currentThere s then (s, t)
  else
    ({ s with segs := s.segs.map fun d => { d with hist := alignLists s d.code (bit t.flags 2) true t.clap d.hist } },
     { t with blocks := t.blocks.map (alignBlock s (bit t.flags 2)) })

/-- Fill the pack current of a Take, and what C holds of it (R144, R145). -/
def fillTake (s : State) (t : Take) : State × Take :=
  let f := fillCurrent (packCurrents s) (currentThere s) true
  ({ s with slates := { s.slates with curHist := s.slates.curHist.map fun x => if x.clap ≤ t.clap then f x else x } },
   { t with current := { t.current with samples := t.current.samples.map f } })

/-- Does a sample take part in the resistance fit (R146)? -/
def fitsRho (x : Sample) : Bool := !x.noData && x.ovr == 0 && !x.sub && !x.probed && x.cur.isSome

/-- Sums of the qualifying sweep pairs of one input: ΔI·ΔV and ΔI² over consecutive sweeps, in mA·nV and mA² (R146). -/
def pairSums : List Sample → Int × Int × Nat
  | y :: x :: r =>
    let a := pairSums (x :: r)
    let di := y.cur.getD 0 - x.cur.getD 0
    if fitsRho x && fitsRho y && x.sweep + 1 == y.sweep && decide (500 ≤ di.natAbs) then (a.1 + di * (y.raw - x.raw), a.2.1 + di * di, a.2.2 + 1)
    else a
  | _ => (0, 0, 0)

/-- The sweep pairs that a Take adds to the fit: those of its own sweeps, cell by cell (R146). -/
def takePairs (s : State) (t : Take) : List (Nat × Int × Int × Nat) :=
  if s.slates.rFixed then []
  else
    (t.blocks.filter blockData).flatMap fun b => (List.range b.cells).filterMap fun k =>
      match b.inputs[k]? with
      | some x =>
        let p := pairSums (x.samples.take (s.slates.takedec + 1))
        if p.2.2 = 0 then none else some (b.first + k, p.1, p.2.1, p.2.2)
      | none => none

end Sys2Proof.Machine
end

