-- ==== Sys2Proof/Machine/CalOps.lean ====
section
/-! DEFINITION. Calibration captures over committed Takes, and the store of calibration records through the flash gate (R179 to R187,
R192, R193). -/
namespace Sys2Proof.Machine

/-- The integer square root, by the bits of the result from the highest down. -/
def isqrt (n : Nat) : Nat := ((List.range 64).reverse).foldl (fun r k => if (r + 2 ^ k) * (r + 2 ^ k) ≤ n then r + 2 ^ k else r) 0

/-- The mean of values. -/
def meanOf (l : List Int) : Int := divRound l.sum l.length

/-- The standard deviation of values, and the same in thousandths, so that small ones count (R184). -/
def sigmaMilli (l : List Int) : Nat :=
  let n := l.length
  if n = 0 then 0 else isqrt (((n : Int) * (l.map fun x => x * x).sum - l.sum * l.sum).toNat * 1000000 / (n * n))

/-- The input span of an auxiliary input at its gain in µV (R92). -/
def spanOf (d : SegDie) (input : Nat) : Nat := 3400000 / gainOf d input

/-- A number divided by a positive binary32 word, rounded. -/
def f32Div (w : Nat) (x : Int) : Int :=
  let p := f32Parts w
  if p.1 = 0 then x else if p.2 ≤ 150 then divRound (x * 2 ^ (150 - p.2)) p.1 else divRound x (p.1 * 2 ^ (p.2 - 150))

/-- The filtered value of an input in a Take in µV, before system calibration (R183). -/
def rawOut (x : BlockInput) : Int := divRound (sincSum x.order x.d (x.samples.map (·.raw))) (x.d ^ x.order * 1000)

/-- The filtered value of a cell in a Take in µV, with an earlier gain trim removed (R179). -/
def untrimmed (s : State) (die : Nat) (x : BlockInput) : Int :=
  let v := divRound (sincSum x.order x.d (x.samples.map (·.nv))) (x.d ^ x.order * 1000)
  match calOf s 1 die 0 with
  | some r => f32Div r.gain v
  | none => v

/-- The values that a Take gives a capture: the session's input, or the named cells (R179, R183). -/
def captureValues (s : State) (c : Capture) (b : Block) : List Int :=
  if c.gainRun then c.cells.map fun x => ((b.inputs[x.cell - 1]?).map (untrimmed s c.die)).getD 0
  else
    match s.cal.session with
    | some q => [((b.inputs[q.input]?).map rawOut).getD 0]
    | none => [0]

/-- The completion of a capture that ends without a result (R183, R184). -/
def endCapture (s : State) (c : Capture) (status : Nat) : State :=
  completeOp { s with cal := { s.cal with capture := none } } c.hdr status []

/-- The generation that the next store of a channel gets (R192). -/
def nextGen (s : State) (kind die input : Nat) : Nat :=
  (((s.nv.cal.find? fun r => r.kind == kind && r.die == die && r.input == input).map (·.gen)).getD 0 + 1) % 65536

/-- A record of a channel, at this moment's temperature of its die; the store gives it GEN and AT (R192). -/
def calRecord (s : State) (kind die input modegr gain : Nat) (offset : Int) : CalRecord :=
  { kind := kind, die := die, input := input, modegr := modegr, gain := gain, offset := offset
    temp := ((s.die? die).map (·.therm.temp)).getD 0, gen := 0, at_ := 0 }

/-- A record as the store writes it: the channel's next generation, and the pack time of the store (R192). -/
def stampCal (s : State) (r : CalRecord) : CalRecord := { r with gen := nextGen s r.kind r.die r.input, at_ := s.packTime }

/-- Store records through the Keeper's flash gate (R19, R192). -/
def storeCal (s : State) (recs : List CalRecord) (h : Option Hdr) (result : List Byte) : State := flashPush s (.calRecords recs h result)

/-- Bit of a channel in LOSTMASK (R201). -/
def calBitOf (kind input : Nat) : Nat := if kind = 0 then input - 24 else if kind = 1 then 0 else input

/-- A record replaces its channel's in one copy of the region. -/
def putCal (l : List CalRecord) (r : CalRecord) : List CalRecord := (l.filter fun x => !(x.kind == r.kind && x.die == r.die && x.input == r.input)) ++ [r]

/-- A record enters the settings region: both copies of its channel's record are replaced, and the channel is no longer lost (R192, R193). -/
def calStored (s : State) (r : CalRecord) : State :=
  { s with
    nv := { s.nv with cal := putCal s.nv.cal r, calB := putCal s.nv.calB r }
    cal := { s.cal with lost := s.cal.lost.filter fun x => x != (r.die, r.kind, calBitOf r.kind r.input) } }

/-- A capture has its Takes: CAL_CELL_GAIN computes and stores the factor (R179, R180). -/
def finishGain (s : State) (c : Capture) : State :=
  let means := (List.range c.cells.length).map fun k => meanOf (c.values.map fun v => nth v k 0)
  let vs := c.cells.map fun x => (x.vtrue : Int)
  let num := (List.zipWith (· * ·) vs means).sum
  let den : Nat := (means.map fun m => m.natAbs * m.natAbs).sum
  let dev := (num - den).natAbs
  if means.any (fun m => decide (m < 2500000)) ∨ den * 500 < dev * 1000000 ∨ den = 0 then endCapture s c 0x81
  else
    storeCal { s with cal := { s.cal with capture := none } } [calRecord s 1 c.die 0 0 (f32Of num den) 0] (some c.hdr) []

/-- A point capture has its Takes: the point is recorded unless it was unstable (R183, R184, R200). -/
def finishPoint (s : State) (c : Capture) : State :=
  let vs := c.values.map fun v => nth v 0 0
  match s.cal.session, s.die? c.die with
  | some q, some d =>
    if spanOf d q.input < sigmaMilli vs ∨ 200 < c.tmax - c.tmin then endCapture s c 0x82
    else
      let p : CalPt := { applied := c.applied, mean := meanOf vs }
      let q' := if c.kind = 0 then { q with low := some p } else { q with high := some p }
      completeOp { s with cal := { s.cal with capture := none, session := some q' } } c.hdr stOk
        (leInt 4 p.mean ++ le 4 ((sigmaMilli vs + 500) / 1000) ++ le 2 c.counted ++ le 2 c.skipped)
  | _, _ => endCapture s c 0x80

/-- Why the open session cannot go on: no entry names its input any more, or the input converts at another gain or reference than at its start
(R181, R202). -/
def sessionBreak (s : State) (q : CalSession) : Option Nat :=
  match (s.die? q.die).bind fun d => (d.entry? q.input).map fun _ => modeOf d q.input with
  | none => some 0x85
  | some m => if m = q.gain + 4 * q.ref then none else some 0x84

/-- Does a committed Take give a capture its values: for a point no flag of R183 on the die's block, for CAL_CELL_GAIN data of every named cell
(R179, R183; log entry 137)? -/
def captureGood (c : Capture) (t : Take) : Bool :=
  if c.gainRun then
    t.blocks.any fun b => b.die == c.die && blockData b && c.cells.all fun x => (blockValue b (x.cell - 1)).1 != -0x800000
  else decide (slateFlags t.bytes c.die &&& 0x1D = 0)

/-- A capture after one Take of its run (R179, R183). -/
def captureStep (s : State) (c : Capture) (t : Take) (committed : Bool) : Capture :=
  let good := committed && captureGood c t
  let temp := ((s.die? c.die).map (·.therm.temp)).getD 0
  let tmin := if c.seen = 0 then temp else min c.tmin temp
  let tmax := if c.seen = 0 then temp else max c.tmax temp
  match (if good then t.blocks.find? fun b => b.die == c.die else none) with
  | some b => { c with counted := c.counted + 1, seen := c.seen + 1, values := c.values ++ [captureValues s c b], tmin := tmin, tmax := tmax }
  | none => { c with skipped := c.skipped + 1, seen := c.seen + 1, tmin := tmin, tmax := tmax }

/-- A point capture has seen 2 × NTAKES Take boundaries without NTAKES counted Takes (R183). -/
def captureOver (s : State) (c : Capture) : State :=
  if !c.gainRun && decide (2 * c.ntakes ≤ c.seen) then endCapture s c 0x83 else s

/-- A Take boundary without a published Take: a point capture skips it (R171, R183). -/
def captureMiss (s : State) : State :=
  match s.cal.capture with
  | none => s
  | some c =>
    if c.gainRun || decide (s.packTime < c.acceptedAt + 100 * usT) then s
    else
      let c := { c with seen := c.seen + 1, skipped := c.skipped + 1 }
      captureOver { s with cal := { s.cal with capture := some c } } c

/-- A Take is decided: the capture in progress counts or skips it, and may complete (R179, R183, R184). -/
def captureTake (s : State) (t : Take) (committed : Bool) : State :=
  match s.cal.capture with
  | none => s
  | some c =>
    if t.boundary < c.acceptedAt + 100 * usT then s
    else
      match (if c.gainRun then none else s.cal.session.bind (sessionBreak s)) with
      | some st => endCapture s c st
      | none =>
      let c := captureStep s c t committed
      let s := { s with cal := { s.cal with capture := some c } }
      if c.ntakes ≤ c.counted then (if c.gainRun then finishGain s c else finishPoint s c)
      else captureOver s c

end Sys2Proof.Machine
end

