-- ==== Sys2Proof/Machine/LockIn.lean ====
section
/-! DEFINITION. The lock-in of the impedance engine: the reference of R267 in fixed point, the sums of R268 as they grow sample by sample, and the
quantities that feed them (R262, R267 to R269, R271, R274, R283). -/
namespace Sys2Proof.Machine

/-! Sine, cosine and phase in fixed point (log entry 6). -/

/-- The unit of the sine and cosine values. -/
abbrev trigOne : Nat := 10 ^ 9

/-- A number in 2^-40 times another, in 2^-40. -/
def mulFix (a b : Int) : Int := a * b / 2 ^ 40

/-- The series 1 - x²/(a(a+1)) · (1 - x²/((a+2)(a+3)) · …), with `n` factors, of a squared angle in 2^-40. -/
def trigSeries (x2 : Int) : Nat → Nat → Int
  | _, 0 => 2 ^ 40
  | a, n + 1 => 2 ^ 40 - mulFix x2 (trigSeries x2 (a + 2) n) / (a * (a + 1) : Nat)

/-- Cosine and sine of `r` parts of 2^38 of a quarter turn, in 2^-40. -/
def quarterTrig (r : Nat) : Int × Int :=
  let x : Int := r * 1727108826179 / 2 ^ 38
  let x2 := mulFix x x
  (trigSeries x2 1 9, mulFix x (trigSeries x2 2 9))

/-- Cosine and sine of `num / den` of a turn, in units of 1/`trigOne`. -/
def turnTrig (num den : Nat) : Int × Int :=
  let u := num % den * 2 ^ 40 / den
  let p := quarterTrig (u % 2 ^ 38)
  let q := match u / 2 ^ 38 with
    | 0 => p
    | 1 => (-p.2, p.1)
    | 2 => (-p.1, -p.2)
    | _ => (p.2, -p.1)
  (q.1 * trigOne / 2 ^ 40, q.2 * trigOne / 2 ^ 40)

/-- The phase of `x + jy` in 0.01°, from -18000 to 18000 (R271): the nearest step in the first quadrant, then the quadrant. -/
def phaseOf (x y : Int) : Int :=
  let k := ((List.range 14).reverse).foldl (fun r i =>
    let n := r + 2 ^ i
    let t := turnTrig (2 * n - 1) 72000
    if n ≤ 9000 ∧ (x.natAbs : Int) * t.2 ≤ (y.natAbs : Int) * t.1 then n else r) 0
  let a : Int := if x < 0 then 18000 - k else k
  if y < 0 then -a else a

/-! The cells of a point. -/

/-- Is a cell a mapped cell of a group (R234)? -/
def inGroup (d : SegDie) (j cell : Nat) : Bool :=
  decide (6 * j - 5 ≤ cell) && decide (cell ≤ 6 * j) && decide (cell ≤ d.cells) && decide (1 ≤ j) && decide (j ≤ 4)

/-- Is a part cell selected (R285)? -/
def cellSelected (mask n : Nat) : Bool := decide (0 < n) && bit mask (n - 1)

/-- The selected mapped die-local cells of a die. -/
def dieCells (s : State) (mask : Nat) (d : SegDie) : List Nat :=
  (List.range d.cells).filterMap fun k => if cellSelected mask (partCell s d.code (k + 1)) then some (k + 1) else none

/-- The selected mapped cells of a group, in ascending order (R274). -/
def groupCells (s : State) (mask : Nat) (d : SegDie) (j : Nat) : List Nat := (dieCells s mask d).filter (inGroup d j)

/-- Periods in a block: the smallest whole number that lasts at least 100 ms (R268). -/
def blockPeriods (f : Nat) : Nat := (f + 9999) / 10000

/-- The frequency of a point in mHz (R274). -/
def pointFreq (d : ImpDef) (point : Nat) : Nat := nth d.freqs (point % d.freqs.length) 1

/-- The die-local cells that a point measures on a die: all selected ones, or with LOCAL the round's cell of each group (R262, R274). -/
def pointCells (s : State) (f : ImpDef) (point : Nat) (d : SegDie) : List Nat :=
  if f.source ≠ 2 then dieCells s f.cells d
  else [1, 2, 3, 4].filterMap fun j => (groupCells s f.cells d j)[point / f.freqs.length]?

/-- The pack times at which the block of a number of a point begins and ends (R268, R270). -/
def blockSpan (f : ImpDef) (r : ImpRun) (n : Nat) : Nat × Nat :=
  let freq := pointFreq f r.point
  let at_ := fun n => r.t0 + (f.settle + n * blockPeriods freq) * 10 ^ 11 / freq
  (at_ n, at_ (n + 1))

/-- The block of a point in which an instant lies, none while the point settles (R268, R270). -/
def blockOf (f : ImpDef) (r : ImpRun) (t : Nat) : Option Nat :=
  let freq := pointFreq f r.point
  let periods := (t - r.t0) * freq / 10 ^ 11
  if t < r.t0 ∨ periods < f.settle then none else some ((periods - f.settle) / blockPeriods freq)

/-! The sums of a block. -/

/-- The longest pause between samples of the current stream that leaves the reference present: one and a half of its periods (R166, R269). -/
abbrev streamPause : Nat := 18750

/-- The sums of one quantity before its first sample in a block. -/
def LockAcc.start (block die cell : Nat) : LockAcc :=
  { block := block, die := die, cell := cell, n := 0, first := 0, last := 0, st := 0, stt := 0, sq := 0, stq := 0, sc := 0, ss := 0, stc := 0, sts := 0
    sqc := 0, sqs := 0, broken := false }

/-- One sample of a quantity at an instant enters its sums, with the reference of the instant, and with time counted from `from_` (R267, R268). -/
def LockAcc.add (freq t0 from_ : Nat) (a : LockAcc) (t : Nat) (q : Int) : LockAcc :=
  let ref := turnTrig (freq * (t - t0)) (10 ^ 11)
  let u : Int := (t : Int) - from_
  { a with
    n := a.n + 1, first := if a.n = 0 then t else a.first, last := t
    st := a.st + u, stt := a.stt + u * u, sq := a.sq + q, stq := a.stq + u * q
    sc := a.sc + ref.1, ss := a.ss + ref.2, stc := a.stc + u * ref.1, sts := a.sts + u * ref.2
    sqc := a.sqc + q * ref.1, sqs := a.sqs + q * ref.2
    broken := a.broken || (decide (0 < a.n) && decide (a.last + streamPause < t) && decide (a.die = 0)) }

/-- The sums X and Y of a quantity less its mean and linear trend over the block (R268), over the number of samples (log entry 57), in the quantity's
unit over `trigOne`. -/
def LockAcc.sums (a : LockAcc) : LockSum :=
  let d : Int := a.n * a.stt - a.st * a.st
  if d ≤ 0 then { x := 0, y := 0 }
  else
    let mean := a.sq * a.stt - a.st * a.stq
    let slope := a.n * a.stq - a.st * a.sq
    { x := divRound (a.sqc * d - mean * a.sc - slope * a.stc) (d.toNat * a.n)
      y := divRound (a.sqs * d - mean * a.ss - slope * a.sts) (d.toNat * a.n) }

/-- Is it the sums of a block of a quantity: a cell of a die, cell 0 its auxiliary current, die 0 the current stream? -/
def LockAcc.is (a : LockAcc) (block die cell : Nat) : Bool := a.block == block && a.die == die && a.cell == cell

/-- Samples of a quantity enter the blocks of the point in progress, oldest first: instant and value (R267, R268). -/
def lockFeed (f : ImpDef) (r : ImpRun) (die cell : Nat) (l : List (Nat × Int)) : ImpRun :=
  l.foldl (fun r x =>
    match blockOf f r x.1 with
    | none => r
    | some b =>
      if b < r.tried then r
      else
        let a := (r.acc.find? fun a => a.is b die cell).getD (LockAcc.start b die cell)
        { r with acc := a.add (pointFreq f r.point) r.t0 (blockSpan f r b).1 x.1 x.2 :: r.acc.filter fun a => !a.is b die cell }) r

/-- Change the running session. -/
def updRun (s : State) (g : ImpDef → ImpRun → ImpRun) : State :=
  match s.imp.run, s.imp.def_ with
  | some r, some f => { s with imp := { s.imp with run := some (g f r) } }
  | _, _ => s

/-- A sample of the current stream enters the lock-in, in µA, not interpolated, at its pack time (R267). -/
def lockStream (s : State) (at_ : Nat) (ma : Int) : State :=
  updRun s fun f r => if f.source = 0 then lockFeed f r 0 0 [(at_, 1000 * ma)] else r

/-- The samples of an input over the sweeps of a Take, oldest first. -/
def takeSamples (d : SegDie) (input : Nat) (t : Take) : List Sample :=
  ((nth d.hist input []).filter fun x => decide (t.ownFirst ≤ x.clap) && decide (x.clap ≤ t.clap)).reverse

/-- The cell voltages of a die over the sweeps of a Take enter the lock-in, aligned, at the Clapper or with LOCAL at the sample instant (R267). -/
def lockCells (s : State) (t : Take) (f : ImpDef) (r : ImpRun) (d : SegDie) : ImpRun :=
  (pointCells s f r.point d).foldl (fun r c =>
    lockFeed f r d.code (partCell s d.code c)
      (((takeSamples d (c - 1) t).filter fun x => !x.noData).map fun x => (if f.source = 2 then x.at_ else x.clap, x.nv))) r

/-- The auxiliary current over the sweeps of a Take, at its sample instants, in µA; a sweep without one breaks the reference (R262, R267, R269). -/
def lockAux (t : Take) (f : ImpDef) (r : ImpRun) (d : SegDie) : ImpRun :=
  let l := takeSamples d f.auxIn t
  let r := lockFeed f r d.code 0 ((l.filter fun x => !x.noData).map fun x => (x.at_, x.nv))
  let lost := (l.filter fun x => x.noData || x.ovr != 0).filterMap fun x => blockOf f r x.at_
  { r with acc := r.acc.map fun a => if a.die = d.code ∧ a.cell = 0 ∧ lost.contains a.block then { a with broken := true } else a }

/-- The sweeps of a Take that is formed enter the lock-in (R267). -/
def lockTake (s : State) (t : Take) : State :=
  updRun s fun f r =>
    let r := (s.segs.filter fun d => r.dies.any fun x => x.die == d.code).foldl (lockCells s t f) r
    match (if f.source = 1 then s.die? f.auxDie else none) with
    | some d => lockAux t f r d
    | none => r

/-! The current reference (R269, R283). -/

/-- The current reference of a running session is lost (R283, R287): the source and the detail. -/
def refLost (s : State) (f : ImpDef) : Option Nat :=
  if f.source = 0 ∧ !sourceThere s then some s.chain.source
  else if f.source = 1 ∧ !currentCal s f.auxDie f.auxIn then some f.auxIn
  else none

/-- A session whose current reference is lost ends after its last stored point (R283). -/
def checkRef (s : State) : State :=
  match s.imp.run, s.imp.def_ with
  | some _, some f =>
    match refLost s f with
    | some x => endSession (raise s 0 18 0x43 x) 6
    | none => s
  | _, _ => s

end Sys2Proof.Machine
end

