-- ==== Sys2Proof/Machine/Frames.lean ====
section
/-! DEFINITION. Frames: the layout of each opcode's parameters and the reading and building of parameter bytes (R11, R12, R63, R66,
R563, and the opcode tables R133, R172, R200, R228, R258, R285, R329, R361, R399, R433, R435, R472, R504, R521). -/
namespace Sys2Proof.Machine

/-- A field of one entry of a repeated group: unsigned, signed or reserved, with its bytes. -/
inductive Cel where
  | u (n : Nat) | i (n : Nat) | z (n : Nat)
  deriving DecidableEq, Repr

/-- A field of a parameter layout: unsigned, signed and reserved fields of n bytes, n plain bytes, a count of n bytes, as many
bytes or group entries as the first count not yet used says, k entries, a proof, a proof only where the k-th value is v, and a
proof that may be there or not. -/
inductive Fld where
  | u (n : Nat) | i (n : Nat) | z (n : Nat) | raw (n : Nat) | cnt (n : Nat) | bytes | rows (l : List Cel)
  | fix (k : Nat) (l : List Cel) | proof | proofIf (k v : Nat) | optProof
  deriving DecidableEq, Repr

/-- A value read from the parameters. -/
inductive Val where
  | n (v : Nat) | i (v : Int) | b (l : List Byte) | g (rows : List (List Int)) | p (x : Option Proof)
  deriving DecidableEq, Repr

/-- Take n bytes from the front. -/
def takeN (n : Nat) (l : List Byte) : Option (List Byte × List Byte) := if n ≤ l.length then some (l.take n, l.drop n) else none

/-- The bytes of a proof (R388): session, count, MAC. -/
def proofBytes (p : Proof) : List Byte := le 4 p.session ++ le 4 p.count ++ fit 8 p.mac

/-- Read a proof (R388). -/
def readProof (l : List Byte) : Option (Proof × List Byte) :=
  (takeN 16 l).map fun x => ({ session := leVal (x.1.take 4), count := leVal ((x.1.drop 4).take 4), mac := x.1.drop 8 }, x.2)

/-- Read one entry of a group; a reserved byte that is not 0 refuses it (R72). -/
def readRow : List Cel → List Byte → Option (List Int × List Byte)
  | [], l => some ([], l)
  | .u n :: cs, l => (takeN n l).bind fun x => (readRow cs x.2).map fun y => ((leVal x.1 : Int) :: y.1, y.2)
  | .i n :: cs, l => (takeN n l).bind fun x => (readRow cs x.2).map fun y => (signed (8 * n) (leVal x.1) :: y.1, y.2)
  | .z n :: cs, l => (takeN n l).bind fun x => if x.1 = zeros n then readRow cs x.2 else none

/-- Read k entries of a group. -/
def readRows (cs : List Cel) : Nat → List Byte → Option (List (List Int) × List Byte)
  | 0, l => some ([], l)
  | k + 1, l => (readRow cs l).bind fun x => (readRows cs k x.2).map fun y => (x.1 :: y.1, y.2)

/-- Does the k-th value equal v? -/
def valIs (vs : List Val) (k v : Nat) : Bool := vs[k]? == some (.n v)

/-- Read parameters by a layout: every byte must be used (R563). `cs` are the counts not yet used, `vs` the values read. -/
def readParams : List Fld → List Nat → List Val → List Byte → Option (List Val)
  | [], _, vs, l => if l = [] then some vs else none
  | .u n :: fs, cs, vs, l => (takeN n l).bind fun x => readParams fs cs (vs ++ [.n (leVal x.1)]) x.2
  | .i n :: fs, cs, vs, l => (takeN n l).bind fun x => readParams fs cs (vs ++ [.i (signed (8 * n) (leVal x.1))]) x.2
  | .z n :: fs, cs, vs, l => (takeN n l).bind fun x => if x.1 = zeros n then readParams fs cs vs x.2 else none
  | .raw n :: fs, cs, vs, l => (takeN n l).bind fun x => readParams fs cs (vs ++ [.b x.1]) x.2
  | .cnt n :: fs, cs, vs, l => (takeN n l).bind fun x => readParams fs (cs ++ [leVal x.1]) (vs ++ [.n (leVal x.1)]) x.2
  | .bytes :: fs, cs, vs, l => (takeN cs.headI l).bind fun x => readParams fs cs.tail (vs ++ [.b x.1]) x.2
  | .rows c :: fs, cs, vs, l => (readRows c cs.headI l).bind fun x => readParams fs cs.tail (vs ++ [.g x.1]) x.2
  | .fix k c :: fs, cs, vs, l => (readRows c k l).bind fun x => readParams fs cs (vs ++ [.g x.1]) x.2
  | .proof :: fs, cs, vs, l => (readProof l).bind fun x => readParams fs cs (vs ++ [.p (some x.1)]) x.2
  | .proofIf k v :: fs, cs, vs, l =>
    if valIs vs k v then (readProof l).bind fun x => readParams fs cs (vs ++ [.p (some x.1)]) x.2
    else readParams fs cs (vs ++ [.p none]) l
  | .optProof :: fs, cs, vs, l =>
    if l = [] then readParams fs cs (vs ++ [.p none]) l
    else (readProof l).bind fun x => readParams fs cs (vs ++ [.p (some x.1)]) x.2

/-- The bytes of one entry of a group. -/
def rowBytes : List Cel → List Int → List Byte
  | .u n :: cs, v :: vs => le n v.toNat ++ rowBytes cs vs
  | .i n :: cs, v :: vs => leInt n v ++ rowBytes cs vs
  | .z n :: cs, vs => zeros n ++ rowBytes cs vs
  | _, _ => []

/-- The parameter bytes of values by a layout. -/
def writeParams : List Fld → List Val → List Byte
  | .u n :: fs, .n v :: vs => le n v ++ writeParams fs vs
  | .i n :: fs, .i v :: vs => leInt n v ++ writeParams fs vs
  | .z n :: fs, vs => zeros n ++ writeParams fs vs
  | .raw _ :: fs, .b l :: vs => l ++ writeParams fs vs
  | .cnt n :: fs, .n v :: vs => le n v ++ writeParams fs vs
  | .bytes :: fs, .b l :: vs => l ++ writeParams fs vs
  | .rows c :: fs, .g r :: vs => r.flatMap (rowBytes c) ++ writeParams fs vs
  | .fix _ c :: fs, .g r :: vs => r.flatMap (rowBytes c) ++ writeParams fs vs
  | .proof :: fs, .p x :: vs => (x.map proofBytes).getD [] ++ writeParams fs vs
  | .proofIf _ _ :: fs, .p x :: vs => (x.map proofBytes).getD [] ++ writeParams fs vs
  | .optProof :: fs, .p x :: vs => (x.map proofBytes).getD [] ++ writeParams fs vs
  | _, _ => []

/-- Does an entry of a group fit its fields? -/
def rowFits : List Cel → List Int → Bool
  | [], [] => true
  | .u n :: cs, v :: vs => decide (0 ≤ v) && decide (v < (256 ^ n : Nat)) && rowFits cs vs
  | .i n :: cs, v :: vs =>
    decide (0 < n) && decide (-(256 ^ n : Nat) ≤ 2 * v) && decide (2 * v < (256 ^ n : Nat)) && rowFits cs vs
  | .z _ :: cs, vs => rowFits cs vs
  | _, _ => false

/-- Does a proof fit its 16 bytes? -/
def proofFits (p : Proof) : Bool := decide (p.session < 2 ^ 32) && decide (p.count < 2 ^ 32) && p.mac.length == 8

/-- Do values fit a layout: every number in its field, every group and byte list as long as its count says? -/
def fits : List Fld → List Nat → List Val → List Val → Bool
  | [], _, _, [] => true
  | .u n :: fs, cs, vs, .n v :: r => decide (v < 256 ^ n) && fits fs cs (vs ++ [.n v]) r
  | .i n :: fs, cs, vs, .i v :: r =>
    decide (0 < n) && decide (-(256 ^ n : Nat) ≤ 2 * v) && decide (2 * v < (256 ^ n : Nat)) && fits fs cs (vs ++ [.i v]) r
  | .z _ :: fs, cs, vs, r => fits fs cs vs r
  | .raw n :: fs, cs, vs, .b l :: r => l.length == n && fits fs cs (vs ++ [.b l]) r
  | .cnt n :: fs, cs, vs, .n v :: r => decide (v < 256 ^ n) && fits fs (cs ++ [v]) (vs ++ [.n v]) r
  | .bytes :: fs, cs, vs, .b l :: r => l.length == cs.headI && fits fs cs.tail (vs ++ [.b l]) r
  | .rows c :: fs, cs, vs, .g l :: r => l.length == cs.headI && l.all (rowFits c) && fits fs cs.tail (vs ++ [.g l]) r
  | .fix k c :: fs, cs, vs, .g l :: r => l.length == k && l.all (rowFits c) && fits fs cs (vs ++ [.g l]) r
  | .proof :: fs, cs, vs, .p x :: r => x.any proofFits && fits fs cs (vs ++ [.p x]) r
  | .proofIf k v :: fs, cs, vs, .p x :: r =>
    (if valIs vs k v then x.any proofFits else x.isNone) && fits fs cs (vs ++ [.p x]) r
  | .optProof :: fs, cs, vs, .p x :: r => x.all proofFits && fs.isEmpty && fits fs cs (vs ++ [.p x]) r
  | _, _, _, _ => false

/-- Parameter layouts of class 0x01. -/
def layouts01 : List (Nat × List Fld) :=
  [(0x0101, []),
   (0x0102, []),
   (0x0103, [.u 1, .u 1, .z 2, .proofIf 0 0]),
   (0x0104, [.u 2, .u 1, .u 1, .u 8, .u 1, .z 3]),
   (0x0105, [.u 4, .u 1, .z 1, .u 2]),
   (0x0106, [.i 2, .i 2, .i 2, .i 2, .u 2, .z 2]),
   (0x0107, []),
   (0x0108, [.u 1, .z 3]),
   (0x0109, []),
   (0x010A, [.u 1, .z 3])]

/-- Parameter layouts of class 0x02. -/
def layouts02 : List (Nat × List Fld) :=
  [(0x0201, [.u 1, .cnt 1, .z 2, .rows [.u 1, .u 1, .u 1, .u 1, .u 1, .u 1, .u 1, .u 1]]),
   (0x0202, [.u 1, .z 3]),
   (0x0203, [.u 1, .u 1, .u 2, .u 4, .u 4, .u 8]),
   (0x0204, [.u 1, .cnt 1, .z 2, .rows [.u 8]]),
   (0x0205, [.u 1, .z 3]),
   (0x0206, [.u 1, .u 1, .z 2]),
   (0x0207, [.u 1, .z 3]),
   (0x0208, []),
   (0x0209, [.u 1, .z 3])]

/-- Parameter layouts of class 0x03. -/
def layouts03 : List (Nat × List Fld) :=
  [(0x0301, [.u 2, .z 2, .fix 4 [.u 1, .z 1, .u 2]]),
   (0x0302, []),
   (0x0303, [.u 1, .u 1, .u 1, .u 1, .u 1, .z 3]),
   (0x0304, [.u 1, .cnt 1, .z 2, .rows [.u 2]]),
   (0x0305, [.u 1, .u 1, .z 2]),
   (0x0306, [.u 1, .u 1, .z 2]),
   (0x0307, [.u 1, .z 1, .u 2, .u 2, .z 2]),
   (0x0308, [.u 4, .u 1, .z 3]),
   (0x0309, [.cnt 1, .z 3, .rows [.u 1, .u 1, .u 2]]),
   (0x030A, [.u 8, .u 8]),
   (0x030B, [.u 1, .z 3, .i 8]),
   (0x030C, [])]

/-- Parameter layouts of class 0x04. -/
def layouts04 : List (Nat × List Fld) :=
  [(0x0401, [.u 1, .u 1, .u 1, .z 1]),
   (0x0402, [.u 1, .z 1, .u 2, .i 4]),
   (0x0403, []),
   (0x0404, []),
   (0x0405, [.u 1, .cnt 1, .u 2, .rows [.u 1, .z 3, .u 4]]),
   (0x0406, [.u 1, .z 1, .u 2]),
   (0x0407, [.u 1, .u 1, .z 2, .u 4]),
   (0x0408, [.u 1, .u 1, .u 1, .z 1]),
   (0x0409, [.u 1, .u 1, .u 1, .z 1])]

/-- Parameter layouts of class 0x05. -/
def layouts05 : List (Nat × List Fld) :=
  [(0x0501, [.cnt 1, .z 3, .rows [.u 1, .u 1, .u 1, .z 1]]),
   (0x0502, [.u 1, .z 1, .u 2, .u 4, .u 4, .u 4]),
   (0x0503, [.u 1, .cnt 1, .z 2, .rows [.u 2]]),
   (0x0504, [.u 1, .cnt 1, .z 2, .rows [.i 4]]),
   (0x0505, [.u 1, .z 3]),
   (0x0506, [.u 1, .u 1, .u 1, .u 1, .u 2, .z 2, .u 4, .u 4]),
   (0x0507, [.u 4, .u 4, .u 2, .z 2]),
   (0x0508, [.u 1, .cnt 1, .z 2, .rows [.u 1, .u 1, .u 2, .i 2, .i 2]]),
   (0x0509, [.u 1, .z 1, .u 2, .u 4, .u 4, .u 2, .u 2]),
   (0x050A, [.u 1, .z 3]),
   (0x050B, [.u 1, .z 3])]

/-- Parameter layouts of class 0x06. -/
def layouts06 : List (Nat × List Fld) :=
  [(0x0601, [.u 1, .cnt 1, .u 1, .u 1, .u 1, .u 1, .u 2, .u 2, .z 2, .u 18, .z 2, .rows [.u 4]]),
   (0x0602, [.u 2, .z 2]),
   (0x0603, []),
   (0x0604, [.u 2, .u 2]),
   (0x0605, [.u 4, .u 1, .cnt 1, .z 2, .rows [.u 4, .u 4, .u 4]]),
   (0x0606, [.u 1, .z 3]),
   (0x0607, [.u 1, .u 1, .u 1, .z 1, .u 4, .u 2, .z 2, .u 8, .u 4])]

/-- Parameter layouts of class 0x07. -/
def layouts07 : List (Nat × List Fld) :=
  [(0x0701, [.u 1, .z 3]),
   (0x0702, [.u 1, .u 1, .z 2]),
   (0x0703, []),
   (0x0704, [.u 1, .z 1, .u 2]),
   (0x0705, [.u 1, .u 1, .z 2]),
   (0x0706, [.u 1, .i 1, .u 2]),
   (0x0707, []),
   (0x0708, [.u 1, .u 1, .z 2]),
   (0x0709, [.u 1, .u 1, .z 2])]

/-- Parameter layouts of class 0x08. -/
def layouts08 : List (Nat × List Fld) :=
  [(0x0801, [.u 2, .u 1, .z 1]),
   (0x0802, [.u 1, .z 3]),
   (0x0803, [.u 1, .cnt 1, .z 2, .bytes]),
   (0x0804, [.u 4, .u 1, .z 3]),
   (0x0805, []),
   (0x0806, [.u 1, .z 3])]

/-- Parameter layouts of class 0x09. -/
def layouts09 : List (Nat × List Fld) :=
  [(0x0901, [.u 2, .cnt 1, .z 1, .bytes]),
   (0x0902, [.proof]),
   (0x0903, [.u 1, .z 3]),
   (0x0904, [.u 1, .cnt 1, .z 2, .bytes, .proof]),
   (0x0905, [.u 4, .proof]),
   (0x0906, [.cnt 1, .cnt 1, .z 2, .bytes, .bytes, .proof]),
   (0x0907, [.u 1, .u 1, .z 2, .proof]),
   (0x0908, [.u 1, .z 3, .proof]),
   (0x0909, []),
   (0x090A, [.u 4, .u 1, .z 3]),
   (0x090B, [.u 1, .z 3, .proof])]

/-- Parameter layouts of class 0x0A. -/
def layouts0A : List (Nat × List Fld) :=
  [(0x0A01, [.u 1, .u 1, .u 2, .z 4]),
   (0x0A02, [.u 1, .u 1, .z 2, .optProof]),
   (0x0A03, []),
   (0x0A04, [.u 1, .u 1, .z 2, .proof]),
   (0x0A05, [.u 1, .u 1, .z 2]),
   (0x0A06, [.u 1, .u 1, .u 2, .u 2, .u 1, .z 1, .proof]),
   (0x0A07, [.u 1, .u 1, .u 1, .z 1, .proof]),
   (0x0A08, [.u 1, .z 1, .u 2, .u 4, .proof]),
   (0x0A09, []),
   (0x0A0A, [.u 1, .z 3]),
   (0x0A0B, [.u 1, .u 1, .z 2]),
   (0x0A0C, [.u 1, .z 3]),
   (0x0A0D, [])]

/-- Parameter layouts of class 0x0B. -/
def layouts0B : List (Nat × List Fld) :=
  [(0x0B01, [.u 1, .z 1, .u 2, .u 2, .z 2]),
   (0x0B02, [.u 1, .u 1, .z 2]),
   (0x0B03, []),
   (0x0B04, [.u 1, .z 3]),
   (0x0B05, [.u 1, .z 1, .u 2, .u 2, .z 2]),
   (0x0B06, [.u 1, .u 1, .u 2, .u 2, .z 2])]

/-- Parameter layouts of class 0x0C. -/
def layouts0C : List (Nat × List Fld) :=
  [(0x0C01, [.u 1, .z 3, .raw 128]),
   (0x0C02, [.u 4, .cnt 2, .z 2, .bytes]),
   (0x0C03, []),
   (0x0C04, []),
   (0x0C05, [.u 1, .u 1, .z 2, .u 8]),
   (0x0C06, []),
   (0x0C07, [.u 1, .z 3]),
   (0x0C08, [.z 4, .proof]),
   (0x0C09, [.z 4, .raw 64, .proof])]

/-- Parameter layouts of class 0x0D. -/
def layouts0D (inReturn : Bool) : List (Nat × List Fld) :=
  [(0x0D01, []),
   (0x0D02, [.u 1, .z 3] ++ (if inReturn then [.raw 168] else []) ++ [.proof]),
   (0x0D03, [.proof]),
   (0x0D04, [.raw 168, .proof]),
   (0x0D05, [.u 4] ++ (if inReturn then [.raw 168] else []) ++ [.proof]),
   (0x0D06, [.u 1, .z 3, .proof])]

/-- Parameter layouts of class 0x0E. -/
def layouts0E : List (Nat × List Fld) :=
  [(0x0E01, [.u 4, .u 4, .u 1, .z 3]),
   (0x0E02, []),
   (0x0E03, [.raw 16])]

/-- Every layout; `inReturn` says whether the part is in RETURN, where two commands carry a token (R521). -/
def layouts (inReturn : Bool) : List (Nat × List Fld) :=
  layouts01 ++ layouts02 ++ layouts03 ++ layouts04 ++ layouts05 ++ layouts06 ++ layouts07 ++ layouts08 ++ layouts09 ++ layouts0A ++
    layouts0B ++ layouts0C ++ layouts0D inReturn ++ layouts0E

/-- The layout of an opcode, none where it is not defined (R72 UNKNOWN_OPCODE). -/
def layoutOf (inReturn : Bool) (op : Nat) : Option (List Fld) := ((layouts inReturn).find? fun x => x.1 == op).map (·.2)

/-- The bytes of a command frame (R63). -/
def frameBytes (op tag target : Nat) (params : List Byte) : List Byte :=
  let b := le 2 op ++ le 2 tag ++ le 2 params.length ++ le 1 target ++ [0] ++ params
  b ++ crcTail b

/-- A command frame as the engine reads it (R63). -/
structure Frame where
  op : Nat
  tag : Nat
  plen : Nat
  target : Nat
  reserved : Nat
  params : List Byte
  crcGood : Bool
  deriving DecidableEq, Repr

/-- Read a frame from the bytes of a mailbox (R63, R64). -/
def readFrame (l : List Byte) : Frame :=
  let plen := leVal ((l.drop 4).take 2)
  { op := leVal (l.take 2), tag := leVal ((l.drop 2).take 2), plen := plen, target := leVal ((l.drop 6).take 1)
    reserved := leVal ((l.drop 7).take 1), params := (l.drop 8).take plen
    crcGood := decide (plen ≤ 244) && (l.drop (8 + plen)).take 4 == crcTail (l.take (8 + plen)) }

/-- The bytes of a reply frame (R66). -/
def replyBytes (r : Reply) : List Byte :=
  let b := le 2 r.opcode ++ le 2 r.tag ++ le 1 r.status ++ le 1 r.source ++ le 2 r.result.length ++ r.result
  b ++ crcTail b

end Sys2Proof.Machine
end

