-- ==== Sys2Proof/Machine/HostPort.lean ====
section
/-! DEFINITION. The host port: register access, raw results, doorbells, stream pointer, aborts, the reset key and SPI
transactions (R43 to R68, R75 to R90). -/
namespace Sys2Proof.Machine

/-- The four bytes of a 32-bit register, lowest address first (R51). -/
def wordBytes (w : BitVec 32) : List Byte := le 4 w.toNat

/-- RAWRES as a read of all four bytes returns it: the held pair, or no data with the shadow tag (R57, R58). -/
def rawresWord (s : State) : BitVec 32 :=
  if s.port.rawValid then s.port.rawHold else (s.port.shadowTag.zeroExtend 32 <<< 16) ||| 0x8000

/-- The value of the 32-bit register at an address (R51); reserved addresses read 0. `withCode` says whether the read includes
address 0x0028, which decides the tag half of RAWRES; CODE reads the held code, or 0x8000 while nothing is held (R58). -/
def regWord (s : State) (a : Nat) (withCode : Bool) : BitVec 32 :=
  match a with
  | 0x00 => BitVec.ofNat 32 (0x15A6 + s.part.dieMask * 65536 + 0x1000000)
  | 0x04 => hpstat s
  | 0x08 => irqstat s
  | 0x0C => s.port.irqEn
  | 0x10 => s.mail.doorbell.zeroExtend 32
  | 0x14 => BitVec.ofNat 32 (b2n s.port.quadEn + 2 * b2n s.port.irqOd)
  | 0x20 => BitVec.ofNat 32 (rawctlLow s + 256 * s.port.urgIn.toNat + 8192 * s.port.urgDie.toNat)
  | 0x24 => BitVec.ofNat 32 (b2n s.port.rawValid + 2 * b2n s.port.ovrn + 4 * b2n s.port.lost)
  | 0x28 => if withCode then rawresWord s else (s.port.shadowTag.zeroExtend 32 <<< 16) ||| (rawresWord s &&& 0xFFFF)
  | 0x2C => s.port.rawLast
  | 0x30 => s.port.urgDrop.zeroExtend 32
  | 0x34 => BitVec.ofNat 32 (s.wd.question.toNat + 65536 * s.wd.seq.toNat)
  | 0x40 => BitVec.ofNat 32 (s.port.abortTag.toNat + 65536 * s.port.abortPrio.toNat)
  | 0x44 => BitVec.ofNat 32 (s.port.abortResult.toNat + 65536 * s.port.abortStatTag.toNat)
  | 0x48 => s.port.strWr.zeroExtend 32
  | 0x4C => s.port.strRd.zeroExtend 32
  | 0x50 => BitVec.ofNat 32 (pendingBytes s + 65536 * s.port.drops.toNat)
  | _ => 0

/-- The byte of the register space at an address (R51). -/
def regByte (s : State) (withCode : Bool) (a : Nat) : Byte :=
  BitVec.ofNat 8 ((regWord s (a - a % 4) withCode).toNat / 256 ^ (a % 4))

/-- A read of 0x0028 consumes the held result and opens the shadow; while nothing is held it does nothing (R58, R59, R60). -/
def consumeRaw (s : State) : State :=
  if s.port.rawValid then
    { s with port := { s.port with
      rawValid := false, rawLast := s.port.rawHold
      shadowTag := (s.port.rawHold >>> 16).truncate 16, shadowOpen := true } }
  else s

/-- A read of 0x002A or 0x002B closes the shadow (R59). -/
def closeShadow (s : State) : State := { s with port := { s.port with shadowOpen := false } }

/-- A raw or urgent result arrives at the port (R59, R60). -/
def rawArrive (s : State) (pair : BitVec 32) : State :=
  let held := s.port.rawValid
  let old := s.port.rawHold
  let s := { s with port := { s.port with
    rawValid := true, rawHold := pair
    ovrn := s.port.ovrn || held || s.port.shadowOpen, lost := s.port.lost || held } }
  if held then raise s 0 0 0xD5 (old.toNat / 65536) else s

/-- The RAWRES pair of a result (R57). -/
def rawPair (code input die sweep : Nat) (urg nbr ovr : Bool) : BitVec 32 :=
  BitVec.ofNat 32 (code % 65536 + 65536 * (b2n ovr + 2 * b2n nbr + 4 * b2n urg + 8 * (sweep % 32) + 256 * (die % 8) + 2048 * (input % 32)))

/-- URGGO: the request goes to its die; an unfitted die, or code 0 or 1, drops it at once (R56, R123). -/
def urgIssue (s : State) : State :=
  let d := s.port.urgDie.toNat
  if (s.die? d).isSome then { s with ring := { s.ring with urgent := s.ring.urgent ++ [(d, s.port.urgIn.toNat)] } }
  else urgDropped s

/-- Submit inbound mailbox n (R65, R68). In MONITOR a doorbell wakes the Studio (R448). -/
def ring_ (s : State) (n : Nat) : State :=
  if n < 4 then wakeStudio { s with mail := { s.mail with doorbell := s.mail.doorbell ||| BitVec.ofNat 4 (2 ^ n) } } else s

/-- Release outbound mailbox n (R67, R68). -/
def outAck (s : State) (n : Nat) : State :=
  if n < 4 then { s with mail := { s.mail with outFull := s.mail.outFull &&& ~~~(BitVec.ofNat 4 (2 ^ n)) } } else s

/-- Is a value acceptable for STRRD (R80)? -/
def strrdOk (s : State) (v : Nat) : Bool :=
  decide (v % 4 = 0) && decide (v < 4096) && decide ((BitVec.ofNat 12 v - s.port.strRd).toNat ≤ pendingBytes s)

/-- A write to STRRD (R80). -/
def strrdSet (s : State) (v : Nat) : State :=
  if strrdOk s (v % 4096) then { s with port := { s.port with strRd := BitVec.ofNat 12 v } }
  else raise (s.setHpErr 0x800) 0 0 0xD9 v

/-- An SWRST sequence that is open is discarded and recorded (R88). -/
def swrstBreak (s : State) (v : Nat) : State :=
  raise { s with port := { s.port with swrstAt := none } } 0 0 0xD8 v

/-- A write to SWRST (R88). -/
def swrstSet (s : State) (v : Nat) : State :=
  match s.port.swrstAt with
  | none =>
    if v = 0xC1A9 then { s with port := { s.port with swrstAt := some s.now } } else swrstBreak s v
  | some t =>
    if v = 0xC1A9 then
      let s := swrstBreak s v
      { s with port := { s.port with swrstAt := some s.now } }
    else if v = 0x3E56 ∧ s.now ≤ t + msT then partReset s 1
    else swrstBreak s v

/-- Zero-fill an inbound mailbox and clear its doorbell (R65). -/
def clearInbound (s : State) (n : Nat) : State :=
  { s with
    mem := memWriteList s.mem (0x100 + 256 * n) (zeros 256)
    mail := { s.mail with doorbell := s.mail.doorbell &&& ~~~(BitVec.ofNat 4 (2 ^ n)) } }

/-- Set the abort result (R81). -/
def abortAnswer (s : State) (tag : Nat) (result : Nat) : State :=
  { s with port := { s.port with abortResult := BitVec.ofNat 2 result, abortStatTag := BitVec.ofNat 16 tag } }.setIrq irqAbortDone

/-- Where an abort meets its operation (R82): a frame still in the inbound mailbox, a command taken and not started, a switch
whose boundary has not come, an open operation, a final reply that still waits, or nothing. An operation that runs at another package is
none of this engine's (log entry 125). -/
def abortFind (s : State) (prio tag : Nat) : State :=
  let inb := memReadList s.mem (0x100 + 256 * prio) 8
  let hdr : Hdr := { origin := 0, prio := prio, tag := tag, target := 0 }
  if s.mail.doorbell.getLsbD prio ∧ leVal ((inb.drop 2).take 2) = tag then
    let op := leVal (inb.take 2)
    abortAnswer (refuse (clearInbound s prio) { hdr with target := ((inb.drop 6).headD 0).toNat } op stAborted) tag 2
  else match s.mail.waiting.find? fun w => w.hdr.origin == 0 && w.hdr.prio == prio && w.hdr.tag == tag with
  | some w => abortAnswer (refuse (dequeue s w.hdr w.opcode) w.hdr w.opcode stAborted) tag 2
  | none =>
    match s.mail.arb.find? fun a => a.held && a.hdr.origin == 0 && a.hdr.prio == prio && a.hdr.tag == tag with
    | some a =>
      abortAnswer (refuse { s with mail := { s.mail with arb := s.mail.arb.filter fun x => x.hdr != a.hdr } } a.hdr a.opcode stAborted) tag 2
    | none =>
      match s.mail.ops.find? fun o => o.origin == 0 && o.prio == prio && o.tag == tag with
      | some o =>
        let s := { s with mail := { s.mail with
          ops := upd s.mail.ops (fun x => x == o) fun x => { x with stop := true } } }
        abortAnswer s tag 2
      | none =>
        if s.mail.replies.any fun r => r.origin == 0 && r.prio == prio && r.tag == tag && r.final then
          let s := { s with mail := { s.mail with
            replies := upd s.mail.replies (fun r => r.origin == 0 && r.prio == prio && r.tag == tag && r.final)
              fun r => if r.status = stOk then { r with status := stCompletedBeforeAbort } else r } }
          abortAnswer s tag 2
        else abortAnswer s tag 3

/-- A write to ABORT (R81): the word's TAG and PRIO are kept, and GO submits the abort, which stays pending to the end of the engine cycle,
so that a completion in the same cycle counts as first (R82; log entry 126). Refused while one is pending. -/
def abortSet (s : State) (w : BitVec 32) : State :=
  if s.port.abortResult = 1 then s
  else
    let s := { s with port := { s.port with abortTag := w.truncate 16, abortPrio := (w >>> 16).truncate 2 } }
    if w.msb then { s with port := { s.port with abortResult := 1, abortStatTag := s.port.abortTag } } else s

/-- The pending abort is answered at the end of an engine cycle of 20 ns (R81, R82; log entry 126). -/
def abortCycle (s : State) : State :=
  if s.port.abortResult = 1 ∧ s.now % 2 = 0 then abortFind s s.port.abortPrio.toNat s.port.abortTag.toNat else s

/-- Keep the bits outside a mask, take the bits inside it. -/
def merge32 (old new mask : BitVec 32) : BitVec 32 := (old &&& ~~~mask) ||| (new &&& mask)

/-- Set the RAWCTL fields, then the triggers in it (R56). A write with both triggers issues the request first and then clears URGDROP (log
entry 120). -/
def rawctlSet (s : State) (v mask : BitVec 32) : State :=
  let w := merge32 (BitVec.ofNat 32 (256 * s.port.urgIn.toNat + 8192 * s.port.urgDie.toNat)) v mask
  let s := { s with port := { s.port with urgIn := (w >>> 8).truncate 5, urgDie := (w >>> 13).truncate 3 } }
  let s := if (v &&& mask).getLsbD 16 then urgIssue s else s
  if (v &&& mask).getLsbD 17 then { s with port := { s.port with urgDrop := 0 } } else s

/-- Apply a permitted write to the register word at an address; `mask` covers the bytes written (R13, R51 to R68). The bytes of SWRST that a
write leaves out count as 0 (log entry 122). -/
def regWriteWord (s : State) (a : Nat) (v mask : BitVec 32) : State :=
  let w := v &&& mask
  match a with
  | 0x04 => { s with port := { s.port with hpErr := s.port.hpErr &&& ~~~(w &&& hpW1c) } }
  | 0x08 => { s with port := { s.port with irq := s.port.irq &&& ~~~(w &&& irqW1c) } }
  | 0x0C => { s with port := { s.port with irqEn := merge32 s.port.irqEn v (mask &&& 0x3FFF) } }
  | 0x10 =>
    let s := (List.range 4).foldl (fun s n => if w.getLsbD n then ring_ s n else s) s
    (List.range 4).foldl (fun s n => if w.getLsbD (8 + n) then outAck s n else s) s
  | 0x14 => { s with port := { s.port with
      quadEn := if mask.getLsbD 0 then v.getLsbD 0 else s.port.quadEn
      irqOd := if mask.getLsbD 0 then v.getLsbD 1 else s.port.irqOd } }
  | 0x20 => rawctlSet s v mask
  | 0x24 => { s with port := { s.port with ovrn := s.port.ovrn && !w.getLsbD 1, lost := s.port.lost && !w.getLsbD 2 } }
  | 0x38 => wdAnswer s w.toNat (decide (mask = 0xFFFFFFFF))
  | 0x40 => abortSet s (merge32 (regWord s 0x40 false) v mask)
  | 0x4C => strrdSet s (merge32 (regWord s 0x4C false) v (mask &&& 0xFFF)).toNat
  | 0x54 => swrstSet s w.toNat
  | _ => s

/-- The part of the bytes written from `a` that falls into the word at `wa`, as value and mask. -/
def wordSlice (a : Nat) (data : List Byte) (wa : Nat) : BitVec 32 × BitVec 32 :=
  (List.range 4).foldl (fun acc k =>
    if a ≤ wa + k ∧ wa + k < a + data.length then
      (acc.1 ||| BitVec.ofNat 32 ((data.getD (wa + k - a) 0).toNat * 256 ^ k), acc.2 ||| BitVec.ofNat 32 (255 * 256 ^ k))
    else acc) (0, 0)

/-- The register words that a write of `n` bytes from `a` touches, in ascending order. -/
def wordsTouched (a n : Nat) : List Nat :=
  (List.range 64).filterMap fun k => if a < 4 * k + 4 ∧ 4 * k < a + n then some (4 * k) else none

/-- Bytes written into the register region, word by word at ascending addresses (R13). -/
def regWrite (s : State) (a : Nat) (data : List Byte) : State :=
  (wordsTouched a data.length).foldl (fun s wa => regWriteWord s wa (wordSlice a data wa).1 (wordSlice a data wa).2) s

/-- Region of an address range of `n` bytes: 0 registers, 1 inbound, 2 outbound, 3 stream window (R50). -/
def regionOf (a n : Nat) : Option Nat :=
  if a + n ≤ 0x100 then some 0
  else if 0x100 ≤ a ∧ a + n ≤ 0x500 then some 1
  else if 0x500 ≤ a ∧ a + n ≤ 0x900 then some 2
  else if 0x1000 ≤ a ∧ a ≤ 0x1FFF then some 3
  else none

/-- Address of byte `k` of a transaction: the stream window wraps (R50). -/
def byteAddr (region a k : Nat) : Nat := if region = 3 then 0x1000 + (a - 0x1000 + k) % 4096 else a + k

/-- The `SCK` clocks of a transaction (R45). -/
def clockCount (read quad : Bool) (n : Nat) : Nat :=
  (if quad then 8 + 4 + 4 + 4 + 2 * n + 4 else 8 + 16 + 16 + 16 + 8 * n + 16) + (if read then 8 else 0)

/-- The instruction byte (R46). -/
def instrByte (read quad : Bool) : Byte := if quad then (if read then 0x4B else 0x4A) else (if read then 0x0B else 0x0A)

/-- CRC-16 over instruction, address and length (R45). -/
def headerCrc (read quad : Bool) (a n : Nat) : BitVec 16 :=
  crc16 ([instrByte read quad] ++ (le 2 a).reverse ++ (le 2 n).reverse)

/-- How a transaction is judged: accepted, CRC error, invalid, refused, as PREV codes it (R49). -/
def judge (s : State) (read quad : Bool) (a n clocks : Nat) (crcOk refused : Bool) : Nat :=
  if clocks ≠ clockCount read quad n then 2
  else if !crcOk then 1
  else if (quad && !s.port.quadEn) || decide (n = 0) || decide (4096 < n) || (regionOf a n).isNone then 2
  else if refused then 3 else 0

/-- Would a write be refused: read-only region, mailbox whose doorbell is set, stream pointer, pending abort (R50, R65, R80, R81)? -/
def writeRefused (s : State) (a : Nat) (data : List Byte) : Bool :=
  match regionOf a data.length with
  | some 0 =>
    (wordsTouched a data.length).any fun wa =>
      (wa == 0x4C && !strrdOk s (merge32 (regWord s 0x4C false) (wordSlice a data wa).1 ((wordSlice a data wa).2 &&& 0xFFF)).toNat) ||
      (wa == 0x40 && s.port.abortResult == 1)
  | some 1 => (List.range 4).any fun n => s.mail.doorbell.getLsbD n && decide (a < 0x200 + 256 * n) && decide (0x100 + 256 * n < a + data.length)
  | some _ => true
  | none => false

/-- XSTAT has been sent (R49). -/
def xstatSent (s : State) : State := { s with port := { s.port with lastXstat := xstat s } }

/-- PREV takes the result of a transaction (R49). -/
def setPrev (s : State) (verdict : Nat) : State := { s with port := { s.port with prev := BitVec.ofNat 2 verdict } }

/-- What every transaction does first: XSTAT is sent, a pending SWRST sequence is broken unless the transaction is a write of
SWRST (R49, R88). -/
def beginTransaction (s : State) (isSwrst : Bool) : State :=
  let s := xstatSent s
  if s.port.swrstAt.isSome && !isSwrst then swrstBreak s 0xC1A9 else s

/-- The consequences of the judgement: PREV, the error flags and the fault records (R48, R53, R65, R80, R89). -/
def endTransaction (s : State) (a verdict : Nat) (data : List Byte) : State :=
  let s := setPrev s verdict
  match verdict with
  | 1 => raise (s.setHpErr 0x100) 0 0 0xD0 a
  | 2 => raise (s.setHpErr 0x200) 0 0 0xD1 a
  | 3 =>
    match regionOf a data.length with
    | some 0 =>
      if (wordsTouched a data.length).contains 0x4C then
        raise (s.setHpErr 0x800) 0 0 0xD9
          (merge32 (regWord s 0x4C false) (wordSlice a data 0x4C).1 ((wordSlice a data 0x4C).2 &&& 0xFFFF)).toNat
      else s
    | some 1 =>
      match (List.range 4).find? fun n => s.mail.doorbell.getLsbD n && decide (a < 0x200 + 256 * n) && decide (0x100 + 256 * n < a + data.length) with
      | some n => raise (s.setHpErr 0x400) 0 0 0xD2 n
      | none => s
    | _ => s
  | _ => s

/-- The bytes that an accepted read returns (R50, R51, R58). -/
def readBytes (s : State) (a n : Nat) : List Byte :=
  match regionOf a n with
  | some 0 => (List.range n).map fun k => regByte s (decide (a ≤ 0x28) && decide (0x28 < a + n)) (a + k)
  | some r => (List.range n).map fun k => memRead s.mem (byteAddr r a k)
  | none => zeros n

/-- The side effects of an accepted read: RAWRES alone has any (R58, R59). -/
def readEffects (s : State) (a n : Nat) : State :=
  if regionOf a n = some 0 then
    let s := if a ≤ 0x28 ∧ 0x28 < a + n then consumeRaw s else s
    if a ≤ 0x2B ∧ 0x2A < a + n then closeShadow s else s
  else s

/-- Put read data and their CRC on the lines (R45, R48). -/
def drive (s : State) (l : List Byte) (crc : BitVec 16) : State := { s with port := { s.port with lastData := l, lastCrc := crc } }

/-- Is the header of a read rejected: a wrong check value, or an instruction, a length or an address that is not valid (R46, R48, R50)? -/
def headerRejected (s : State) (quad : Bool) (a n hdrCrc : Nat) : Bool :=
  decide (hdrCrc ≠ (headerCrc true quad a n).toNat) || (quad && !s.port.quadEn) || decide (n = 0) || decide (4096 < n) || (regionOf a n).isNone

/-- How many of the `n` data bytes of a read the clocks reach (R45, R48). -/
def bytesClocked (quad : Bool) (n clocks : Nat) : Nat :=
  min n ((clocks - (clockCount true quad 0 - if quad then 4 else 16)) / if quad then 2 else 8)

/-- What a read that is not accepted puts on the lines: zeros and the complement of their CRC where its header is rejected; where only its
clocks are wrong, the bytes that they reach, with no side effect (R48). -/
def driveRefused (s : State) (quad : Bool) (a n hdrCrc clocks : Nat) : State :=
  if headerRejected s quad a n hdrCrc then drive s (zeros n) (~~~(crc16 (zeros n)))
  else drive s ((readBytes s a n).take (bytesClocked quad n clocks)) (crc16 (readBytes s a n))

/-- A read transaction (R45 to R50, R58, R308). While the part is held in reset the port answers nothing (R86); a transaction
that wakes the part has no effect and its read data is free (R453). -/
def spiReadT (s : State) (quad : Bool) (a n hdrCrc clocks : Nat) : State :=
  if s.port.inReset then s
  else if portAsleep s then (drive s (s.freeBytes n) (BitVec.ofNat 16 s.freeNat)).draw
  else
    let s := beginTransaction s false
    let v := judge s true quad a n clocks (decide (hdrCrc = (headerCrc true quad a n).toNat)) false
    let s := if v = 0 then
        let l := readBytes s a n
        takeHeadRole (readEffects (drive s l (crc16 l)) a n)
      else driveRefused s quad a n hdrCrc clocks
    endTransaction s a v []

/-- An accepted write (R48). -/
def writeEffects (s : State) (a : Nat) (data : List Byte) : State :=
  match regionOf a data.length with
  | some 0 => regWrite s a data
  | some 1 => { s with mem := memWriteList s.mem a data }
  | _ => s

/-- A write transaction: it takes effect only when both CRCs, the instruction, the length and the permission are good (R48). -/
def spiWriteT (s : State) (quad : Bool) (a n hdrCrc : Nat) (data : List Byte) (dataCrc clocks : Nat) : State :=
  if s.port.inReset then s
  else if portAsleep s then s
  else
    let s := beginTransaction s (decide (a = 0x54) && decide (data.length = 4))
    let good := decide (hdrCrc = (headerCrc false quad a n).toNat) && decide (dataCrc = (crc16 data).toNat)
    let v := if data.length ≠ n then 2 else judge s false quad a n clocks good (writeRefused s a data)
    let s := endTransaction s a v data
    if v = 0 then writeEffects (takeHeadRole s) a data
    else if s.port.swrstAt.isSome then swrstBreak s (leVal data) else s

end Sys2Proof.Machine
end

