-- ==== Sys2Proof/Machine/HostRows.lean ====
section
/-! DEFINITION. The commands of the host port: SPI transactions, direct register accesses, raw and urgent results, the watchdog
answer and the pin RSTN (R48 to R62, R80, R81, R86 to R88, R123, R124, R419 to R422). -/
namespace Sys2Proof.Machine

/-- SPI_READ (R48). -/
def execSpiRead (addr len hdrCrc clocks : Nat) (s : State) : Host.Outcome State Fault Refusal :=
  .next (spiReadT s false addr len hdrCrc clocks)

/-- SPI_WRITE (R48). -/
def execSpiWrite (addr len hdrCrc : Nat) (data : List Byte) (dataCrc clocks : Nat) (s : State) : Host.Outcome State Fault Refusal :=
  .next (spiWriteT s false addr len hdrCrc data dataCrc clocks)

/-- QUAD_READ (R46, R48). -/
def execQuadRead (addr len hdrCrc clocks : Nat) (s : State) : Host.Outcome State Fault Refusal :=
  .next (spiReadT s true addr len hdrCrc clocks)

/-- QUAD_WRITE (R46, R48). -/
def execQuadWrite (addr len hdrCrc : Nat) (data : List Byte) (dataCrc clocks : Nat) (s : State) : Host.Outcome State Fault Refusal :=
  .next (spiWriteT s true addr len hdrCrc data dataCrc clocks)

/-- A write of bytes whose transaction passed its CRCs: refused, invalid, or executed (R48 to R50). While the port is off or the part
is held in reset it answers nothing (R86, R446). -/
def hostWrite (s : State) (a : Nat) (data : List Byte) : State :=
  if s.port.inReset || portAsleep s then s
  else
    let s := beginTransaction s (decide (a = 0x54) && decide (data.length = 4))
    let v := if decide (data.length = 0) || decide (4096 < data.length) || (regionOf a data.length).isNone then 2
      else if writeRefused s a data then 3 else 0
    let s := endTransaction s a v data
    if v = 0 then writeEffects (takeHeadRole s) a data else s

/-- A read of bytes whose transaction passed its CRC. -/
def hostRead (s : State) (a n : Nat) : State :=
  spiReadT s false a n (headerCrc true false a n).toNat (clockCount true false n)

/-- REGISTER_WRITE (R13). -/
def execRegisterWrite (addr : Nat) (data : List Byte) (s : State) : Host.Outcome State Fault Refusal :=
  .next (hostWrite s addr data)

/-- DOORBELL_IN (R65, R68). -/
def execDoorbellIn (n : Nat) (s : State) : Host.Outcome State Fault Refusal := .next (hostWrite s 0x10 (le 1 (2 ^ n)))

/-- DOORBELL_OUTACK (R67, R68). -/
def execDoorbellOutack (n : Nat) (s : State) : Host.Outcome State Fault Refusal := .next (hostWrite s 0x11 (le 1 (2 ^ n)))

/-- RAWRES_CODE_READ: a read of 0x0028 and 0x0029 (R58). -/
def execRawresCodeRead (s : State) : Host.Outcome State Fault Refusal := .next (hostRead s 0x28 2)

/-- RAWRES_TAG_READ: a read of 0x002A and 0x002B (R59). -/
def execRawresTagRead (s : State) : Host.Outcome State Fault Refusal := .next (hostRead s 0x2A 2)

/-- Is C up: not held in reset, and its core domain powered (R86, R446, R456, R467)? -/
def cUp (s : State) : Bool := !s.port.inReset && !portAsleep s

/-- RAW_RESULT_ARRIVAL (R57, R59): the oldest result of the raw stream, the only one that can arrive, reaches the holding register. -/
def execRawResultArrival (code input die sweep : Nat) (urg nbr ovr : Bool) (s : State) : Host.Outcome State Fault Refusal :=
  .next <|
    match s.ring.raw with
    | w :: r =>
      if cUp s && w == rawPair code input die sweep urg nbr ovr then rawArrive { s with ring := { s.ring with raw := r } } w else s
    | [] => s

/-- URGGO (R56, R123). -/
def execUrggo (s : State) : Host.Outcome State Fault Refusal := .next (hostWrite s 0x22 [1])

/-- URGCLR (R56, R61). -/
def execUrgclr (s : State) : Host.Outcome State Fault Refusal := .next (hostWrite s 0x22 [2])

/-- Does a die drop every urgent request: stopped, asleep, or in its orderly thermal stop (R124)? -/
def urgRefuses (s : State) (d : SegDie) : Bool :=
  d.unpowered || d.stopped || d.stopping || portAsleep s

/-- Is the main converter of a die idle, and stays idle for 1.5 µs before the next scheduled sweep start (R123)? -/
def urgIdle (s : State) (d : SegDie) : Bool := mainIdle s d && (nextClapIn s).all fun g => decide (150 ≤ g)

/-- An urgent request reaches its die (R123, R124). -/
def urgArrive (s : State) (d : SegDie) (input : Nat) : State :=
  if urgRefuses s d || d.test.heldUrgent.isSome then urgDropped s
  else if d.test.running then s.updDie d.code fun d => { d with test := { d.test with heldUrgent := some input } }
  else if urgIdle s d then { s with ring := { s.ring with accepted := s.ring.accepted ++ [(d.code, input)] } }
  else urgDropped s

/-- URGENT_REQUEST_ARRIVAL (R123): the oldest request on its way, the only one that can arrive, reaches its die. -/
def execUrgentRequestArrival (die : Nat) (s : State) : Host.Outcome State Fault Refusal :=
  .next <|
    match s.ring.urgent with
    | [] => s
    | (c, x) :: r =>
      if c ≠ die then s
      else
        let s := { s with ring := { s.ring with urgent := r } }
        match s.die? c with
        | some d => urgArrive s d x
        | none => urgDropped s

/-- The reference an urgent conversion uses: a cell the internal one, an auxiliary input that of its entry (R124). -/
def urgRefOk (d : SegDie) (input : Nat) : Bool := if input < 24 then nth d.refOk 0 false else refUsable d input

/-- The urgent request that converts next: the oldest accepted one, else one held through a self-test once its die is idle (R124). -/
def nextUrgent (s : State) : Option (Nat × Nat × State) :=
  match s.ring.accepted with
  | (c, x) :: r => some (c, x, { s with ring := { s.ring with accepted := r } })
  | [] =>
    (s.segs.find? fun d => d.test.heldUrgent.isSome && !d.test.running && !urgRefuses s d && urgIdle s d).map fun d =>
      (d.code, d.test.heldUrgent.getD 0, s.updDie d.code fun d => { d with test := { d.test with heldUrgent := none } })

/-- URGENT_CONVERSION (R124): the next urgent request converts the voltage in µV at its input; the sample of a cell gates its Dollies. -/
def execUrgentConversion (microvolts : Int) (s : State) : Host.Outcome State Fault Refusal :=
  .next <|
    match nextUrgent s with
    | none => s
    | some (c, x, s) =>
      match s.die? c with
      | none => s
      | some d =>
        if !d.hasInput x || !urgRefOk d x then rawArrive s (rawPair 0x8000 x c d.sweepNo true false false)
        else
          let v := convert d x (microvolts * 1000)
          let s := if x < 24 then noteGate s c (x + 1) 1 else s
          rawArrive (s.updDie c fun d => { d with residue := d.residue.set x v.residue })
            (rawPair (v.code % 65536).toNat x c d.sweepNo true false (decide (v.ovr ≠ 0)))

/-- WDA_WRITE (R62, R422): `whole` says that one write covers all four bytes. -/
def execWdaWrite (token : Nat) (whole : Bool) (s : State) : Host.Outcome State Fault Refusal :=
  .next (hostWrite s 0x38 (if whole then le 4 token else le 1 token))

/-- WD_TIMEOUT (R420, R422): it happens when a period ends with no accepted answer. -/
def execWdTimeout (s : State) : Host.Outcome State Fault Refusal := .next (if cUp s then wdExpire s else s)

/-- ABORT_WRITE (R81). -/
def execAbortWrite (word : Nat) (s : State) : Host.Outcome State Fault Refusal := .next (hostWrite s 0x40 (le 4 word))

/-- STRRD_WRITE (R80). -/
def execStrrdWrite (value : Nat) (s : State) : Host.Outcome State Fault Refusal := .next (hostWrite s 0x4C (le 2 value))

/-- SWRST_WRITE (R88). -/
def execSwrstWrite (value : Nat) (s : State) : Host.Outcome State Fault Refusal := .next (hostWrite s 0x54 (le 4 value))

/-- RSTN_ASSERT: a low on RSTN has passed the 200 ns filter (R86), or restarts the 20 ms count while RSTN is ignored (R87). -/
def execRstnAssert (s : State) : Host.Outcome State Fault Refusal :=
  .next <|
    if s.port.rstnLow then s
    else
      let s := { s with port := { s.port with rstnLow := true, rstnEdge := s.now } }
      if s.port.rstnIgn then s
      else
        let t := partReset s 1
        { t with port := { t.port with inReset := true }
                 aon := { t.aon with brownOut := s.aon.brownOut } }

/-- RSTN_RELEASE: RSTN rises; a part held in reset starts (R86). -/
def execRstnRelease (s : State) : Host.Outcome State Fault Refusal :=
  .next <|
    if s.port.rstnLow then { s with port := { s.port with rstnLow := false, rstnEdge := s.now, inReset := false } } else s

/-- RSTN_STUCK: RSTN has stayed low beyond 200 ms, so the part leaves reset, records it and ignores the pin (R87). -/
def execRstnStuck (s : State) : Host.Outcome State Fault Refusal :=
  .next <|
    if s.port.inReset && s.port.rstnLow && decide (s.port.rstnEdge + 200 * msT ≤ s.now) then
      raise ({ s with port := { s.port with inReset := false, rstnIgn := true } }.setHpErr 0x2000) 0 0 0xD6 0
    else s

/-- RSTN_IGNORE_END: RSTN has been high for 20 ms without a break (R87). -/
def execRstnIgnoreEnd (s : State) : Host.Outcome State Fault Refusal :=
  .next <|
    if s.port.rstnIgn && !s.port.rstnLow && decide (s.port.rstnEdge + 20 * msT ≤ s.now) then
      { s with port := { s.port with rstnIgn := false } }
    else s

end Sys2Proof.Machine
end

