-- ==== Sys2Proof/Machine/EngineRows.lean ====
section
/-! DEFINITION. The mailbox engine: taking a frame, forwarding it, writing a reply, stopping an operation, and the arbitration of two
heads (R63 to R74, R82 to R85, R563). -/
namespace Sys2Proof.Machine

/-- Replies of one priority of this head that wait inside the engine, and the commands taken that have still to reply: waiting, held in
arbitration, waiting for the checks of a clear, or forwarded and not answered (R67). -/
def waitingReplies (s : State) (prio : Nat) : Nat :=
  (s.mail.replies.filter fun r => r.origin == 0 && r.prio == prio).length +
    (s.mail.waiting.filter fun w => w.hdr.origin == 0 && w.hdr.prio == prio).length +
    (s.mail.arb.filter fun a => a.held && a.hdr.origin == 0 && a.hdr.prio == prio).length +
    (s.mail.away.filter fun a => !a.open_ && a.prio == prio).length

/-- The pending frame that the engine takes next: lowest mailbox number first, none of a priority with 16 replies waiting or to come, so
that never more than 16 wait beside the completions of open operations (R67, R69). -/
def nextMailbox (s : State) : Option Nat :=
  (List.range 4).find? fun n => s.mail.doorbell.getLsbD n && decide (waitingReplies s n < 16)

/-- Is a frame malformed: bad check value or length, a reserved byte, a bad TARGET, or the TAG of one of this head's open operations, here or at
another package (R72, R563)? -/
def frameBad (s : State) (f : Frame) : Bool :=
  !f.crcGood || decide (f.reserved ≠ 0) || decide (32 < f.target) ||
    (s.mail.ops.any fun o => o.origin == 0 && o.tag == f.tag) || s.mail.away.any fun a => a.open_ && a.tag == f.tag

/-- The header under which this package itself answers: SOURCE is 0 unless the frame named this package's own address (R66, R74). -/
def ownHdr (s : State) (h : Hdr) : Hdr := if h.target = s.chain.addr then h else { h with target := 0 }

/-- A frame whose TARGET names another package: forwarded, or NOT_FITTED where no package has the address (R74). A forwarded command is
kept until its final reply comes back. -/
def forward (s : State) (h : Hdr) (f : Frame) : State :=
  if s.chain.addr = 0 ∨ s.chain.count < f.target then refuse s (ownHdr s h) f.op stNotFitted
  else
    sendMail { s with mail := { s.mail with
      away := s.mail.away ++ [{ prio := h.prio, tag := f.tag, target := f.target, open_ := false }] } } 0x05 f.target h.prio f.op
      (frameBytes f.op f.tag f.target f.params)

/-- The first byte of parameters and a byte, a 16-bit word at an offset. -/
def parU8 (p : List Byte) (k : Nat) : Nat := (p.getD k 0).toNat
def parU16 (p : List Byte) (k : Nat) : Nat := parU8 p k + 256 * parU8 p (k + 1)

/-- The resource that an order sets (R84): number of the resource, the units it names as a mask, the value, and whether the smaller
value is the safe direction (R85). ENTER_RETURN opens both outputs (R520). Resources are SO1 and SO2 (1), the start or stop of a function (2 sweeps, 3 a session, 4 power),
a Dolly (5), the service of a die or the package, a mode switch and a configuration table (their opcode). -/
def orderOf (op : Nat) (p : List Byte) : Option Order :=
  if op = 0x0907 then some { resource := 1, unit_ := parU8 p 0, value := parU8 p 1, directed := true }
  else if op = 0x0D04 then some { resource := 1, unit_ := 3, value := 0, directed := true }
  else if op = 0x0207 then some { resource := 2, unit_ := 1, value := parU8 p 0, directed := true }
  else if op = 0x0602 then some { resource := 3, unit_ := 1, value := 1, directed := true }
  else if op = 0x0103 then
    some { resource := 4, unit_ := 1, value := if parU8 p 0 ≤ 1 then 0 else (parU8 p 0 : Int), directed := true }
  else if op = 0x0506 then
    some { resource := 5, unit_ := 2 ^ (4 * parU8 p 0 + parU8 p 1), value := if parU8 p 2 = 0 then 0 else (parU16 p 4 : Int), directed := true }
  else if op = 0x0607 then
    some { resource := 5, unit_ := 2 ^ (4 * parU8 p 0 + parU8 p 1), value := (parU16 p 8 : Int), directed := true }
  else if op = 0x0708 then
    some { resource := op, unit_ := if parU8 p 1 = 0 then 255 else parU8 p 1, value := parU8 p 0, directed := true }
  else if [0x0201, 0x0206].contains op then some { resource := op, unit_ := parU8 p 0, value := leVal p, directed := false }
  else if [0x0108, 0x0203, 0x0205, 0x0301, 0x0303, 0x0304, 0x0306, 0x0307, 0x0309, 0x0501, 0x0502, 0x0503, 0x0504, 0x0505, 0x0507, 0x0508,
      0x0509, 0x0605, 0x0606, 0x0705, 0x0706, 0x0A04, 0x0A0C, 0x0B01, 0x0B06, 0x0C07].contains op then
    some { resource := op, unit_ := 1, value := leVal p, directed := false }
  else none

/-- Has a second head shown itself (R83, R85)? Until then no order is held. -/
def twoHeads (s : State) : Bool := decide (2 ≤ b2n s.chain.isHead + (s.chain.heads.filter (· != s.chain.addr)).length)

/-- What an order sets: its parameters without a session proof (R84, R388). -/
def ordered (op : Nat) (p : List Byte) : List Byte := if [0x0103, 0x0907, 0x0A04].contains op then p.take 4 else p

/-- Do two orders set one unit of one resource (R84)? -/
def sameUnit (a b : Order) : Bool := a.resource == b.resource && decide (a.unit_ &&& b.unit_ ≠ 0)

/-- Are two orders contradictory: from different heads, on one resource and unit, to different values (R84)? -/
def contradicts (a b : Arb) : Bool :=
  headOf a.hdr != headOf b.hdr && sameUnit a.order b.order && (a.opcode != b.opcode || ordered a.opcode a.params != ordered b.opcode b.params)

/-- A command enters the queue of waiting commands (R69). -/
def enqueue (s : State) (h : Hdr) (op : Nat) (p : List Byte) : State :=
  { s with mail := { s.mail with waiting := s.mail.waiting ++ [{ hdr := h, opcode := op, params := p }] } }

/-- Has an arbitration window closed: at the next Take boundary or after 10 ms (R84)? -/
def windowOver (s : State) (a : Arb) : Bool :=
  decide (a.boundary < s.sweep.boundaries) || decide (a.takenAt + 10 * msT ≤ s.now)

/-- Did two windows overlap? `e` is the end of the earlier one, none while it is open. -/
def overlaps (a b : Arb) : Bool :=
  (a.closed.all fun e => decide (b.takenAt ≤ e)) && (b.closed.all fun e => decide (a.takenAt ≤ e))

/-- Is an order the primary head's (R83, R85)? -/
def fromPrimary (s : State) (h : Hdr) : Bool := if h.origin = 0 then decide (s.chain.addr ≤ 1) else h.origin == 1

/-- Does an order lose to a contradictory one in its window: to a smaller value of a directed resource, else to the primary head's
(R85)? -/
def losesTo (s : State) (a b : Arb) : Bool :=
  overlaps a b && contradicts b a &&
    (if a.order.directed && a.order.value != b.order.value then decide (b.order.value < a.order.value)
     else fromPrimary s b.hdr && !fromPrimary s a.hdr)

/-- A held order whose window closes: it executes, or completes with CONFLICT and is recorded (R85, R89). -/
def closeArb (s : State) (a : Arb) : State :=
  let loses := s.mail.arb.any fun b => b.hdr != a.hdr && losesTo s a b
  let s := { s with mail := { s.mail with
    arb := upd s.mail.arb (fun x => x.hdr == a.hdr && x.opcode == a.opcode) fun x => { x with held := false, closed := some s.now } } }
  if !a.held then s
  else if loses then raise (refuse s a.hdr a.opcode stConflict) 0 0 0xD7 a.opcode
  else enqueue s a.hdr a.opcode a.params

/-- The held orders of one head on the resource of a new order of it: they go first, so that the later one overrides them (R85; log entry
127). -/
def closeOwn (s : State) (h : Hdr) (o : Order) : State :=
  (s.mail.arb.filter fun a => a.held && headOf a.hdr == headOf h && sameUnit a.order o).foldl closeArb s

/-- An order is taken (R84, R85): it executes at once in its safe direction, and is held otherwise. -/
def arbitrate (s : State) (h : Hdr) (op : Nat) (p : List Byte) : State :=
  match orderOf op p with
  | none => enqueue s h op p
  | some o =>
    if !twoHeads s then enqueue s h op p
    else
      let safe := o.directed && decide (o.value = 0)
      let s := if safe then closeOwn s h o else s
      let a : Arb := { hdr := h, opcode := op, order := o, params := p, takenAt := s.now, boundary := s.sweep.boundaries
                       held := !safe, closed := none }
      let s := { s with mail := { s.mail with arb := s.mail.arb ++ [a] } }
      if safe then enqueue s h op p else s

/-- A frame with a good form is judged and dispatched (R71 to R74, R84, R563). -/
def takeCommand (s : State) (h : Hdr) (f : Frame) : State :=
  match layoutOf (decide (s.life.state = 4)) f.op with
  | none => refuse s h f.op stUnknown
  | some l =>
    match gate s h f.op with
    | some st => refuse s h f.op st
    | none =>
      match readParams l [] [] f.params with
      | none => refuse s h f.op stFrameInvalid
      | some _ => arbitrate s h f.op f.params

/-- MAILBOX_TAKE_FRAME (R65, R67, R69, R72 to R74, R563). A `PLEN` above 244 fails the check as a bad FCRC does. The order of the
checks is log entry 37. -/
def execMailboxTakeFrame (s : State) : Host.Outcome State Fault Refusal :=
  .next <|
    if !cUp s then s
    else
      match nextMailbox s with
      | none => s
      | some n =>
        let f := readFrame (memReadList s.mem (0x100 + 256 * n) 256)
        let h : Hdr := { origin := 0, prio := n, tag := f.tag, target := f.target }
        let s := clearInbound s n
        if frameBad s f then refuse s (ownHdr s h) f.op stFrameInvalid
        else if f.target ≠ 0 ∧ f.target ≠ s.chain.addr then forward s h f
        else takeCommand s h f

/-- The reply that goes out next for a priority of this head. -/
def nextReply (s : State) (n : Nat) : Option Reply := s.mail.replies.find? fun r => r.origin == 0 && r.prio == n

/-- REPLY_WRITE (R66, R67): the oldest waiting reply of a priority enters its outbound mailbox once that is free. Replies of commands
that another head sent go out over DeariLink (R74). -/
def execReplyWrite (n : Nat) (s : State) : Host.Outcome State Fault Refusal :=
  .next <|
    if !cUp s then s
    else
      let far := s.mail.replies.filter fun r => r.origin != 0 && r.prio == n
      let s := { s with mail := { s.mail with replies := s.mail.replies.filter fun r => !(r.origin != 0 && r.prio == n) } }
      let s := far.foldl (fun s r => sendMail s 0x06 r.origin n r.opcode (replyBytes r)) s
      let s := if far.isEmpty then s else { s with power := { s.power with lastReply := s.now } }
      match nextReply s n with
      | none => s
      | some r =>
        if decide (4 ≤ n) || s.mail.outFull.getLsbD n then s
        else
          { s with
            mem := memWriteList s.mem (0x500 + 256 * n) (replyBytes r)
            mail := { s.mail with
              replies := s.mail.replies.erase r, outFull := s.mail.outFull ||| BitVec.ofNat 4 (2 ^ n) }
            power := { s.power with lastReply := s.now } }

/-- Does the flash step in progress, the first of the queue, belong to an operation (R82, R428)? -/
def inFlashStep (s : State) (h : Hdr) : Bool := (s.flash.jobs.head?.bind FlashJob.hdr?) == some h

/-- Has an activation of an operation passed its commit point, so that nothing cancels it (R490)? -/
def isCommitted (s : State) (h : Hdr) : Bool := s.fw.activation.any fun a => a.committed && a.hdr == some h

/-- OPERATION_ABORT_STOP (R82): an operation whose abort was accepted reaches its stop point. One inside a flash step ends with that
step, and a committed activation runs on. -/
def execOperationAbortStop (prio tag : Nat) (s : State) : Host.Outcome State Fault Refusal :=
  .next <|
    match s.mail.ops.find? fun o => o.stop && o.prio == prio && o.tag == tag with
    | none => s
    | some o => if inFlashStep s o.hdr || isCommitted s o.hdr then s else abortOp s o 1

/-- ARBITRATION_WINDOW_CLOSE (R84, R85). -/
def execArbitrationWindowClose (s : State) : Host.Outcome State Fault Refusal :=
  .next <|
    let due := s.mail.arb.filter fun a => a.closed.isNone && windowOver s a
    let s := due.foldl closeArb s
    { s with mail := { s.mail with
      arb := s.mail.arb.filter fun a => a.closed.isNone || s.mail.arb.any fun b => b.closed.isNone && overlaps a b } }

end Sys2Proof.Machine
end

