-- ==== Sys2Proof/Machine/SweepRows.lean ====
section
/-! DEFINITION. The commands and events of the cell sweep and the converters (R95 to R136, R204, R205). -/
namespace Sys2Proof.Machine

/-- Class 0x02 and 0x03 operations need RUN or SERVICE (R134, R173). -/
def sweepState (s : State) : Bool := s.power.state == .run || s.power.state == .service

/-- Does a die mask name an unfitted segment die; bits 0 and 1 are ignored (R3, R107)? -/
def maskUnfitted (s : State) (mask : Nat) : Bool := [2, 3, 4, 5, 6, 7].any fun c => bit mask c && (s.die? c).isNone

/-- The same where M counts as a die that the mask may name (R3, R200). -/
def maskAbsent (s : State) (mask : Nat) : Bool := maskUnfitted s mask || (bit mask 1 && !s.part.hasM)

/-- Settings that a sequence of entries would give a die. -/
def withSeq (d : SegDie) (entries : List SeqEntry) : SegDie := { d with seq := entries }

/-- Is a sequence too long for the TIMER period in force (R134)? -/
def tooLong (s : State) (segs : List SegDie) (source period : Nat) : Bool :=
  source == 3 && decide (period < (segs.map fun d => duration d s.sweep.hostSched).foldl max 0 + 100)

/-- SET_SEQUENCE (R104 to R107, R133, R134). Outside RUN and SERVICE REJECTED_STATE comes before NOT_FITTED (DESIGN CHOICE, log 116); tables of
different die masks are different functions of R33 (DESIGN CHOICE, log 93). -/
def execSetSequence (h : Hdr) (dieMask : Nat) (entries : List SeqEntry) (s : State) : Host.Outcome State Fault Refusal :=
  .next <| runCmd s h 0x0201 fun s =>
    let segs := s.segs.map fun d => if bit dieMask d.code then withSeq d entries else d
    if !sweepState s then refuse s h 0x0201 stRejected
    else if maskUnfitted s dieMask then refuse s h 0x0201 stNotFitted
    else if segs.any fun d => bit dieMask d.code && !slowFits d then refuse s h 0x0201 0x81
    else if tooLong s segs s.sweep.trig.source s.sweep.trig.period then refuse s h 0x0201 0x80
    else switchCmd s h 0x0201 (0x0201 * 256 + dieMask) (.sequence dieMask entries)

/-- The slot timetable that GET_SEQUENCE returns (R133). -/
def timetableBytes (s : State) (d : SegDie) : List Byte :=
  let t := timetable d s.sweep.hostSched
  le 1 d.code ++ le 1 t.length ++ le 2 (duration d s.sweep.hostSched) ++
    t.flatMap fun x => le 1 (x.input.getD 0xFF) ++ le 1 x.kind ++ le 2 x.sample

/-- GET_SEQUENCE (R133). A code that is no segment die, C or M among them, is NOT_FITTED (DESIGN CHOICE, log 118). -/
def execGetSequence (h : Hdr) (die : Nat) (s : State) : Host.Outcome State Fault Refusal :=
  .next <| runCmd s h 0x0202 fun s =>
    match s.die? die with
    | none => refuse s h 0x0202 stNotFitted
    | some d => reply s h 0x0202 stOk (timetableBytes s d)

/-- Is a TIMER Take rate outside 0.1 Hz to 4 kHz: Take interval outside 25 000 ticks to 10 s (R171)? -/
def takeRateBad (source period takedec : Nat) : Bool :=
  source == 3 && (decide (period * takedec < 25000) || decide (10 * secT < period * takedec))

/-- SET_TRIGGER (R115, R134, R171). -/
def execSetTrigger (h : Hdr) (source edge watch delay period phase : Nat) (s : State) : Host.Outcome State Fault Refusal :=
  .next <| runCmd s h 0x0203 fun s =>
    if !sweepState s then refuse s h 0x0203 stRejected
    else if tooLong s s.segs source period then refuse s h 0x0203 0x80
    else if takeRateBad source period s.slates.takedec then refuse s h 0x0203 0x85
    else switchCmd s h 0x0203 0x0203 (.trigger source edge watch delay period phase)

/-- Insert a time into an ascending list; equal times merge (R112). -/
def insertTime (t : Nat) : List Nat → List Nat
  | [] => [t]
  | x :: r => if t < x then t :: x :: r else if t = x then x :: r else x :: insertTime t r

/-- Times of the schedule queue that are pending: not yet past, or not yet sent (R112). -/
def pendingTimes (s : State) : List Nat := s.sweep.queue.filter fun t => decide (s.packTime ≤ t) || !s.sweep.queueSent.contains t

/-- SCHEDULE_CLAPPERS (R112, R133). It needs RUN or SERVICE only where it is an operation, which it is not. -/
def execScheduleClappers (h : Hdr) (op : Nat) (times : List Nat) (s : State) : Host.Outcome State Fault Refusal :=
  .next <| runCmd s h 0x0204 fun s =>
    if op = 1 then reply { s with sweep := { s.sweep with queue := [], queueSent := [] } } h 0x0204 stOk (le 1 32 ++ zeros 3)
    else if times.any fun t => decide (t < s.packTime + 25000) then refuse s h 0x0204 0x83
    else
      let q := times.foldl (fun q t => insertTime t q) (pendingTimes s)
      if 32 < q.length then refuse s h 0x0204 0x82
      else reply { s with sweep := { s.sweep with queue := q } } h 0x0204 stOk (le 1 (32 - q.length) ++ zeros 3)

/-- SET_SCHEDULING_MODE (R103, R141). -/
def execSetSchedulingMode (h : Hdr) (mode : Nat) (s : State) : Host.Outcome State Fault Refusal :=
  .next <| runCmd s h 0x0205 fun s =>
    if !sweepState s then refuse s h 0x0205 stRejected else switchCmd s h 0x0205 0x0205 (.scheduling mode)

/-- SET_DOLLY_INTERACTION (R125, R129). Modes of different die masks are different functions of R33 (DESIGN CHOICE, log 93). -/
def execSetDollyInteraction (h : Hdr) (dieMask mode : Nat) (s : State) : Host.Outcome State Fault Refusal :=
  .next <| runCmd s h 0x0206 fun s =>
    if !sweepState s then refuse s h 0x0206 stRejected
    else if maskUnfitted s dieMask then refuse s h 0x0206 stNotFitted
    else if mode = 1 ∧ s.segs.any fun d => bit dieMask d.code && !tapsCalibrated s d then refuse s h 0x0206 0x84
    else switchCmd s h 0x0206 (0x0206 * 256 + dieMask) (.interaction dieMask mode)

/-- The sequence number of the last Take that received one, 0xFFFF_FFFF before the first (R135). -/
def lastTake (s : State) : Nat := if s.slates.nextSeq = 0 ∧ s.slates.published = 0 then 0xFFFFFFFF else (s.slates.nextSeq + 2 ^ 32 - 1) % 2 ^ 32

/-- A stop of sweeps is ordered (R135): it cancels a start that waits, completes at once while sweeps are stopped, and otherwise waits
for its Take boundary. -/
def stopSweeps (s : State) (h : Hdr) : State :=
  let s := match s.sweep.startPending with
    | some w => if headOf w = headOf h then completeOp { s with sweep := { s.sweep with startPending := none } } w stAborted [] else s
    | none => s
  if s.sweep.running then { s with sweep := { s.sweep with stops := s.sweep.stops ++ [h] } }
  else completeOp s h stOk (le 4 (lastTake s))

/-- A start of sweeps is ordered (R135). With sweeps running already there is nothing to wait for. -/
def startSweeps (s : State) (h : Hdr) : State :=
  if s.sweep.running then completeOp s h stOk (le 4 s.slates.nextSeq)
  else
    let s := match s.sweep.startPending with
      | some w => completeOp s w stAborted []
      | none => s
    { s with sweep := { s.sweep with startPending := some h, startAt := s.packTime } }

/-- SWEEP_CONTROL (R134, R135). A stop is accepted in every state (log entry 77). -/
def execSweepControl (h : Hdr) (run : Nat) (s : State) : Host.Outcome State Fault Refusal :=
  .next <| runCmd s h 0x0207 fun s =>
    if run ≠ 0 ∧ !sweepState s then refuse s h 0x0207 stRejected
    else startOp s h 0x0207 fun s => if run = 0 then stopSweeps s h else startSweeps s h

/-- Does the substitution of R131 run on a die? -/
def SegDie.substituted (d : SegDie) : Bool := d.test.running || !d.subKinds.isEmpty

/-- One die record of GET_SWEEP_STATUS (R133). -/
def sweepRecord (s : State) (d : SegDie) : List Byte :=
  let t := duration d s.sweep.hostSched
  le 1 d.code ++ le 1 (b2n (nth d.refOk 0 false) + 2 * b2n (nth d.refOk 1 false) + 4 * b2n (nth d.refOk 2 false)) ++
    le 1 (b2n s.sweep.hostSched + 2 * b2n d.compensated + 4 * b2n d.substituted + 8 * b2n d.test.failed + 16 * b2n d.fallback) ++ [0] ++
    le 2 t ++ le 2 (max 2500 (t + 100))

/-- GET_SWEEP_STATUS (R133). -/
def execGetSweepStatus (h : Hdr) (s : State) : Host.Outcome State Fault Refusal :=
  .next <| runCmd s h 0x0208 fun s =>
    reply s h 0x0208 stOk (le 4 s.sweep.claps ++ le 4 s.sweep.overruns ++ le 8 s.sweep.lastClap ++ s.segs.flatMap (sweepRecord s))

/-- SET_SELFTEST (R130). -/
def execSetSelftest (h : Hdr) (period : Nat) (s : State) : Host.Outcome State Fault Refusal :=
  .next <| runCmd s h 0x0209 fun s => reply { s with sweep := { s.sweep with selftest := period } } h 0x0209 stOk []

/-- What a calibration operation returns when its record is in force: the record of CAL_COMMIT, the factor of CAL_CELL_GAIN in ppm
from 1 (R200). -/
def calResult (op : Nat) (r : CalRecord) : List Byte :=
  if op = 0x0403 then calBytes r else if op = 0x0405 then leInt 4 (f32Mul r.gain 1000000 - 1000000) else []

/-- Stored calibration records whose boundary has come are in force, and their operations complete (R180, R185). -/
def applyCal (s : State) (all : Bool) : State :=
  let due := s.cal.waiting.filter fun w => all || decide (w.2.2 + 100 * usT ≤ s.sweep.boundaryAt)
  due.foldl (fun s w =>
    let s := { s with cal := { s.cal with
      waiting := s.cal.waiting.filter (· != w)
      live := (s.cal.live.filter fun r => !(r.kind == w.1.kind && r.die == w.1.die && r.input == w.1.input)) ++ [w.1] } }
    match w.2.1 with
    | some h => completeOpFlash s h (calResult (((opOf s h).map (·.opcode)).getD 0) w.1)
    | none => s) s

/-- MODE_SWITCH_TAKES_EFFECT (R32, R33): what waits for the latest Take boundary takes effect; while sweeps are stopped everything that
waits does. -/
def execModeSwitchTakesEffect (s : State) : Host.Outcome State Fault Refusal :=
  .next <| if s.sweep.running || s.sweep.burst then applyCal (boundarySwitches s) false else applyCal (allSwitches s) true

/-- The pack time of the Clapper that an event sets (R37, R109, R110): the edge plus DELAY, and not before the event reaches the dies, 1 µs
after a pin edge or 20 µs after an edge that came over the chain. -/
def clapOf (event delay lead : Nat) : Nat := event + max delay lead

/-- An edge that this package uses: the selected one of the source (R108). -/
def edgeSelected (s : State) (rising : Bool) : Bool := s.sweep.trig.edge == (if rising then 0 else 1)

/-- A Clapper event arrives from the source (R108, R114). On CHAIN a DELAY below 20 µs is recorded: the sample falls when the event arrives (R37,
R110, R116, R136). -/
def clapEvent (s : State) (event clap : Nat) : State :=
  let d := s.sweep.trig.delay
  let s := { s with sweep := { s.sweep with
    events := s.sweep.events ++ [{ event := event, clap := clap }], lastEvent := s.now, silent := false } }
  if s.sweep.trig.source = 2 ∧ d < 2000 then raise s 0 2 0x01 (2000 - d) else s

/-- Does this package lead the chain's Clapper with its pin: a head, and a secondary one only while no primary head is known (R110, R301)? -/
def leadsClap (s : State) : Bool := s.chain.isHead && !(s.chain.secondary && s.chain.map.any fun e => e.addr == 1 && e.head)

/-- An edge behind the glitch filter of CLAP (R109, R110): a head on PIN or CHAIN forwards it, and the selected edge sets a Clapper. -/
def clapEdge (s : State) (rising : Bool) : State :=
  let src := s.sweep.trig.source
  let s := if leadsClap s && (src == 1 || src == 2) then
      sendSet s (0x10 + b2n (!rising)) (le 4 (s.packTime % 2 ^ 32)) else s
  if !edgeSelected s rising then s
  else if src = 1 then clapEvent s s.packTime (clapOf s.packTime s.sweep.trig.delay 100)
  else if src = 2 ∧ leadsClap s then clapEvent s s.packTime (clapOf s.packTime s.sweep.trig.delay 2000)
  else s

/-- CLAP_PIN_EDGE (R109, R110): the 50 ns glitch filter passes no edge within 50 ns of the edge before (log entry 134). -/
def execClapPinEdge (rising : Bool) (s : State) : Host.Outcome State Fault Refusal :=
  .next <|
    if !cUp s || s.sweep.edgeAt.any fun t => decide (s.now < t + 5) then s
    else clapEdge { s with sweep := { s.sweep with edgeAt := some s.now } } rising

/-- A package on SCHEDULE receives times: one that it does not have 50 µs ahead is skipped and recorded (R112, R116, R136). -/
def takeTimes (s : State) (ts : List Nat) : State :=
  ts.foldl (fun s t =>
    if t < s.packTime + 5000 then raise s 0 2 0x02 (t / 100 % 65536)
    else { s with sweep := { s.sweep with times := insertTime t s.sweep.times } }) s

/-- SCHEDULE_SEND (R112): the head sends the times of its queue that have not been sent yet to every package, itself included. -/
def execScheduleSend (s : State) : Host.Outcome State Fault Refusal :=
  .next <|
    if !cUp s then s
    else
      match (pendingTimes s).filter fun t => !s.sweep.queueSent.contains t with
      | [] => s
      | q =>
        let s := { s with sweep := { s.sweep with queueSent := s.sweep.queue } }
        let s := { s with sweep := { s.sweep with queue := pendingTimes s } }
        let s := if s.sweep.trig.source = 4 then takeTimes s q else s
        if s.chain.isHead && decide (1 < s.chain.count) then sendFrame s 0x0C 0xFF 1 false false (q.flatMap (le 8)) else s

/-- A Clapper that is due now: its pack time, and the source without it (R37, R108, R109, R111, R112, R310, R447). -/
def dueClapper (s : State) : Option (Nat × Sweep) :=
  let t := s.sweep.trig
  if s.sweep.burst then some (s.packTime, { s.sweep with late := false, lead := 400 })
  else if !(s.chain.locked || t.source == 1) then none
  else
    match t.source with
    | 1 | 2 =>
      match s.sweep.events with
      | e :: r =>
        if e.clap ≤ s.packTime then
          some (e.clap, { s.sweep with
            events := r, late := decide (e.event + t.delay < e.clap), lead := min 400 (e.clap - (e.event + if t.source = 1 then 100 else 2000)) })
        else none
      | [] => none
    | 3 => (timerCrossed t (timerCopy s).1 (timerCopy s).2).map fun c => (c, { s.sweep with late := false, lead := 400 })
    | 4 =>
      match s.sweep.times with
      | x :: r => if x + t.delay ≤ s.packTime then some (x + t.delay, { s.sweep with times := r, late := false, lead := 400 }) else none
      | [] => none
    | _ => none

/-- Does a Clapper start a sweep: sweeps started, or a start accepted at least 100 µs before it; no wait for the PLL (R135, R459)? -/
def sweepsNow (s : State) (clap : Nat) : Bool :=
  !s.sweep.pllHold && cUp s &&
    (s.sweep.burst || (s.sweep.running && sweepState s) ||
      (s.sweep.startPending.isSome && sweepState s && decide (s.sweep.startAt + 10000 ≤ clap)))

/-- Has an abort of an operation been accepted (R82)? -/
def stopped_ (s : State) (h : Hdr) : Bool := (opOf s h).any (·.stop)

/-- The first Clapper of a start (R82, R135, R141): sweeps run, filters restart, and the start completes with the first Take it will number. A start
whose abort was accepted has no effect. -/
def beginSweeps (s : State) : State :=
  match s.sweep.startPending with
  | none => s
  | some h =>
    if stopped_ s h then completeOp { s with sweep := { s.sweep with startPending := none } } h stAborted []
    else
      let s := restartFilters { s with sweep := { s.sweep with running := true, startPending := none, stopPending := false } }
      completeOp s h stOk (le 4 s.slates.nextSeq)

/-- A Clapper is skipped: counted and recorded (R113, R136, R143). -/
def skipClapper (s : State) : State :=
  let n := s.sweep.overrunRun + 1
  raise { s with
    sweep := { s.sweep with overruns := (s.sweep.overruns + 1) % 2 ^ 32, overrunRun := n }
    slates := { s.slates with skips := s.slates.skips ++ [s.sweep.sinceRestart] } } 0 2 0x00 (sat 8 n)

/-- Samples that an input keeps: what the longest filter and a Take need. -/
def histLen (s : State) : Nat := max (s.slates.sets.foldl (fun a f => max a (f.order * f.d)) 256) s.slates.takedec + 64

/-- A sample enters its input's list, newest first (R138, R142). -/
def pushSample (s : State) (die input : Nat) (x : Sample) : State :=
  s.updDie die fun d => { d with hist := updAt d.hist input fun l => (x :: l).take (histLen s) }

/-- Where a die stands while the slots of one sweep run: NBR for the next slot, and the pack time of the last over-range (R122). -/
structure SlotRun where
  nbrNext : Bool
  ovrAt : Option Nat
  deriving DecidableEq, Repr

/-- Does a slot carry NBR (R122)? -/
def slotNbr (r : SlotRun) (at_ : Nat) : Bool := r.nbrNext || r.ovrAt.any fun o => decide (at_ < o + 200)

/-- A sample without a value. -/
def emptySample (sweep clap at_ : Nat) (noData sub : Bool) : Sample :=
  { sweep := sweep, clap := clap, at_ := at_, raw := 0, nv := 0, noData := noData, ovr := 0, nbr := false, sub := sub, quiet := false
    probed := false, di := none, cur := none }

/-- What the converters of one die meet in a sweep, with defaults where the operand is short. -/
def inputUv (m : DieMeas) (input : Nat) : Int := nth m.inputs input 0
def diagUv (m : DieMeas) (cell : Nat) : Int := nth m.diag (cell - 1) 0

/-- The baseline of a cell under probe: its latest aligned sample from before the probe, its latest sample while no current aligns them, or the
baseline reading where there is none (R216; log entry 51). -/
def probeBase (s : State) (d : SegDie) (input : Nat) (uv : Int) : Int :=
  match (nth d.hist input []).find? fun x => !x.probed && !x.noData && (x.di.isSome || !currentThere s) with
  | some x => x.nv
  | none => 1000 * uv

/-- The stand-in of a cell under probe (R216). -/
def probeStand (s : State) (d : SegDie) (input : Nat) (x : Sample) : Sample :=
  match d.probe with
  | some p =>
    if input < 24 ∧ (input + 1 = p.tap ∨ input = p.tap) then
      let v := probeBase s d input (if input + 1 = p.tap then p.baseline.cellM else p.baseline.cellM1)
      { x with raw := v, nv := v, noData := false, ovr := 0, probed := true, cur := some p.current }
    else x
  | none => x

/-- The main conversion of one slot (R95, R96, R119 to R122, R128, R180, R185, R216): the sample, the conversion with the residue it leaves, and
the next slot's flags. -/
def mainSample (s : State) (d : SegDie) (m : DieMeas) (sweep clap at_ input : Nat) (r : SlotRun) : Sample × Conv × SlotRun :=
  let b := emptySample sweep clap at_ true false
  if !refUsable d input then (b, { code := -0x8000, ovr := 0, residue := nth d.residue input 0 }, { r with nbrNext := false })
  else
    let c := convert d input (1000 * inputUv m input)
    let v := sampleValue s d input m.tapCurrent (c.code * (lsbOf d input : Int))
    let x := { b with raw := if input < 24 then v else c.code * (lsbOf d input : Int), nv := v, noData := false, ovr := c.ovr, nbr := slotNbr r at_ }
    (probeStand s d input x, c, { nbrNext := decide (c.ovr ≠ 0), ovrAt := if c.ovr ≠ 0 then some at_ else r.ovrAt })

/-- Does the diagnostic converter read this cell in a substituted sweep: the lower half on even sweeps (R131)? -/
def subReads (d : SegDie) (sweep cell : Nat) : Bool :=
  if sweep % 2 = 0 then decide (cell ≤ (d.cells + 1) / 2) else decide ((d.cells + 1) / 2 < cell)

/-- The sample of one input in a substituted sweep (R131): a diagnostic reading, the cell's last reading, or the last main sample. A reading gets
the corrections of a sample once, when it enters the filter (R128, R180). -/
def subSample (s : State) (d : SegDie) (m : DieMeas) (sweep clap at_ input : Nat) : Sample :=
  let b := emptySample sweep clap at_ false true
  if input < 24 then
    let nv := if subReads d sweep (input + 1) then diagNv (diagUv m (input + 1)) else nth d.lastRead input 0
    let v := sampleValue s d input m.tapCurrent nv
    probeStand s d input { b with raw := v, nv := v }
  else
    match (nth d.hist input []).head? with
    | some x => { x with sweep := sweep, clap := clap, at_ := at_, sub := true, di := none, cur := none }
    | none => { b with noData := true }

/-- A main conversion joins the raw stream where its die feeds it and its entry is marked RAW (R105, R132, R172). -/
def rawStream (s : State) (d : SegDie) (input : Nat) (word : BitVec 32) : State :=
  if s.slates.rawDie = d.code ∧ (d.entry? input).any fun e => bit e.flags 1 then { s with ring := { s.ring with raw := s.ring.raw ++ [word] } } else s

/-- One slot of a die's sweep (R99, R100, R104, R136). -/
def runSlot (die : Nat) (m : DieMeas) (clap : Nat) (acc : State × SlotRun) (x : Slot) : State × SlotRun :=
  let s := acc.1
  match s.die? die with
  | none => acc
  | some d =>
    match (if x.kind = 1 then slowAt d d.sweepNo else x.input) with
    | none => (s, { acc.2 with nbrNext := false })
    | some i =>
      if d.substituted then (pushSample s die i (subSample s d m d.sweepNo clap (clap + x.sample) i), acc.2)
      else
        let (y, c, r) := mainSample s d m d.sweepNo clap (clap + x.sample) i acc.2
        let s := pushSample (s.updDie die fun d => { d with
          residue := d.residue.set i c.residue
          lastRead := if i < 24 ∧ c.code ≠ -0x8000 then d.lastRead.set i (c.code * (lsbOf d i : Int)) else d.lastRead }) die i y
        let s := rawStream s d i (rawPair (c.code % 65536).toNat i die d.sweepNo false y.nbr (decide (c.ovr ≠ 0)))
        let sat := decide (y.ovr ≠ 0)
        let s' := s.updDie die fun d => { d with ovrNow := if sat then i :: d.ovrNow.filter (· != i) else d.ovrNow.filter (· != i) }
        (if sat && !d.ovrNow.contains i then raise s' die 0 0x07 i else s', r)

/-- A continuity comparison of one cell in a window sweep (R161, R162): the reading against the main sample of the same sweep, or in a
substituted sweep against the cell's previous reading. Cells under probe are left out (R216), and so is a cell without a main sample of the sweep or
with one that reads no data (R119; DESIGN CHOICE, log 123). -/
def compareCell (s : State) (d : SegDie) (m : DieMeas) (prev : List Int) (cell : Nat) : Bool :=
  let ref : Option Int :=
    if d.substituted then some (nth prev (cell - 1) 0)
    else ((nth d.hist (cell - 1) []).head?).bind fun x => if x.sweep = d.sweepNo ∧ !x.noData then some x.raw else none
  d.probed cell || ref.all fun r => decide ((diagNv (diagUv m cell) - r).natAbs ≤ 1000000 * s.slates.contThr)

/-- A continuity comparison of a cell that waits under R219: a pass ends the wait, and so does the failure that leaves none to see, which
is CHANNEL_MISMATCH. -/
def suspectCellSeen (s : State) (die cell : Nat) (bad : Bool) : State :=
  match (s.die? die).bind fun d => d.suspectCells.find? fun x => x.1 == cell && decide (0 < x.2) with
  | none => s
  | some x =>
    let drop := s.updDie die fun d => { d with suspectCells := d.suspectCells.filter fun y => y.1 != cell }
    if !bad then drop
    else if x.2 ≤ 1 then raise drop die 1 0x95 cell
    else s.updDie die fun d => { d with suspectCells := upd d.suspectCells (fun y => y.1 == cell) fun y => (y.1, y.2 - 1) }

/-- One window sweep of a die with its failed cells, in every open window (R161). -/
def stepWindows (s : State) (die : Nat) (bad : List Nat) : State :=
  { s with slates := { s.slates with
    takes := s.slates.takes.map fun t => { t with
      windows := upd t.windows (fun w => w.die == die && decide (0 < w.left)) fun w =>
        { w with left := w.left - 1, closedAt := if w.left = 1 then some s.now else w.closedAt
                 fails := w.fails ++ bad.filter fun c => !w.fails.contains c } } } }

/-- Has a die an open continuity window? -/
def windowOpen (s : State) (die : Nat) : Bool := s.slates.takes.any fun t => t.windows.any fun w => w.die == die && decide (0 < w.left)

/-- One window sweep of a die (R161, R162, R219). -/
def windowSweep (s : State) (d : SegDie) (m : DieMeas) (prev : List Int) (cells : List Nat) : State :=
  if !windowOpen s d.code then s
  else
    let bad := cells.filter fun c => !compareCell s d m prev c
    stepWindows (cells.foldl (fun s c => suspectCellSeen s d.code c (bad.contains c)) s) d.code bad

/-- The sums of the reference cross-check over one sweep (R221): pairs of one cell and sweep from 2.5 V upward, without OVR or NBR. -/
def xcheckSweep (d : SegDie) (m : DieMeas) (cells : List Nat) : SegDie :=
  let d := { d with xcSweeps := d.xcSweeps + 1, xcSub := d.xcSub || d.substituted }
  if d.substituted then d
  else cells.foldl (fun d c =>
    match (nth d.hist (c - 1) []).head? with
    | some x =>
      if x.sweep = d.sweepNo ∧ !x.noData ∧ x.ovr = 0 ∧ !x.nbr ∧ !x.probed ∧ 2500000000 ≤ x.raw then
        { d with xcD := d.xcD + diagNv (diagUv m c) / 1000, xcM := d.xcM + x.raw / 1000, xcPairs := d.xcPairs + 1 }
      else d
    | none => d) d

/-- The readings of a sweep or a window become the cells' last ones (R131, R162). -/
def keepReads (d : SegDie) (cells : List Nat) (volts : Nat → Int) : SegDie :=
  { d with lastRead := cells.foldl (fun l c => l.set (c - 1) (diagNv (volts c))) d.lastRead }

/-- One die's sweep (R97 to R104, R131, R161, R206). Sweeps since a table took effect count from 1 (DESIGN CHOICE, log 124). -/
def dieSweep (clap : Nat) (meas : List DieMeas) (s : State) (code : Nat) : State :=
  match s.die? code with
  | none => s
  | some d0 =>
    if !d0.sweeps then s
    else
      let m := (meas.find? fun m => m.die == code).getD { die := code, inputs := [], diag := [], tapCurrent := [] }
      let s := s.updDie code fun d => { d with sweepNo := d.sweepNo + 1, held := none }
      let r := (timetable d0 s.sweep.hostSched).foldl (runSlot code m clap) (s, { nbrNext := d0.nbrNext, ovrAt := d0.ovrAt })
      let s := r.1.updDie code fun d => { d with nbrNext := r.2.nbrNext, ovrAt := r.2.ovrAt }
      match s.die? code with
      | none => s
      | some d =>
        let cells := rotationGroup d.cells d.diagIdx
        let read := if d.substituted then (List.range d.cells).map (· + 1) |>.filter (subReads d d.sweepNo) else cells
        let s := windowSweep s d m d0.lastRead read
        let s := s.updDie code fun d => { keepReads (xcheckSweep d m cells) read (diagUv m) with
          diagIdx := (d.diagIdx + 1) % max 1 (rotationLen d.cells) }
        read.foldl (fun s c => diagReading s code c (diagUv m c)) s

/-- The samples of the current substitute enter its list (R148, R187). -/
def substSample (s : State) : State :=
  if s.slates.irsrc = 1 ∧ currentCal s s.slates.subDie s.slates.subIn then
    match (s.die? s.slates.subDie).bind fun d => (nth d.hist s.slates.subIn []).head? with
    | some x =>
      let ma := x.nv / 1000
      match s.slates.subst with
      | y :: _ =>
        if x.at_ ≤ y.at_ then s
        else { s with slates := { s.slates with
          subst := ({ at_ := x.at_, ma := ma, int_ := y.int_ + (y.ma + ma) * ((x.at_ : Int) - y.at_) } :: s.slates.subst).take (histLen s) } }
      | [] => { s with slates := { s.slates with subst := [{ at_ := x.at_, ma := ma, int_ := 0 }] } }
    | none => s
  else s

/-- The cells that a tap calibration serves on a die in a step: cell 6j - 5 + step of each group, where it is mapped (R188). -/
def tapServed (d : SegDie) (step : Nat) : List (Nat × Nat) :=
  [1, 2, 3, 4].filterMap fun j => if 6 * j - 5 + step ≤ d.cells then some (j, 6 * j - 5 + step) else none

/-- A tap calibration step starts its transfers once no other runs on its dies: SPAN_TO_CELL at ITEST (R188, R242). A Dolly that cannot start a
transfer leaves its taps without a result (R239). -/
def tapStepDie (t : TapRun) (s : State) (code : Nat) : State :=
  match s.die? code with
  | none => s
  | some d => (tapServed d t.step).foldl (fun s x => s.updDolly code x.1 fun y =>
      if !y.withdrawn.isEmpty || y.thermal || cellTripped d x.2 || d.unpowered || d.stopped then y
      else
        let n : DollyTransfer :=
          { mode := 2, cell := x.2, set_ := t.itest, running := min t.itest (dieLimit s d), start := s.packTime, endAt := s.now, lease := false
            qlimit := 0, freq := 0, iamp := 0, t0 := 0, hdr := some t.hdr, remain := none, check := false, ranAt := s.now }
        { y with transfer := some n }) s

/-- The dies on which a tap calibration still runs (R191). -/
def TapRun.live (t : TapRun) : List Nat := t.dies.filter fun c => !t.failed.contains c

/-- The step of a tap calibration that waits starts (R188, R242). -/
def tapStepStart (s : State) : State :=
  match s.cal.taps with
  | none => s
  | some t =>
    if t.started || t.live.any (fun c => (s.die? c).any fun d => d.dollies.any fun y => y.transfer.isSome) then s
    else
      let u := t.live.foldl (tapStepDie t) (t.live.foldl dollyChanged s)
      { u with cal := { u.cal with taps := some { t with started := true, sweeps := 0, sums := [] } } }

/-- A sample joins the sum of a tap: gated on even sweeps of the die, ungated on odd ones (R188). -/
def tapAdd (l : List TapSum) (die tap : Nat) (odd : Bool) (nv : Int) : List TapSum :=
  let x := (l.find? fun x => x.die == die && x.tap == tap).getD { die := die, tap := tap, gated := 0, gatedN := 0, free := 0, freeN := 0 }
  let y := if odd then { x with free := x.free + nv, freeN := x.freeN + 1 } else { x with gated := x.gated + nv, gatedN := x.gatedN + 1 }
  y :: l.filter fun x => !(x.die == die && x.tap == tap)

/-- The sample of a die-local cell in the latest sweep, without no data and over-range. -/
def sweepSample (d : SegDie) (cell : Nat) : Option Int :=
  if cell = 0 ∨ d.cells < cell then none
  else ((nth d.hist (cell - 1) []).head?).bind fun x => if x.sweep = d.sweepNo ∧ !x.noData ∧ x.ovr = 0 then some x.raw else none

/-- What one sweep of a die adds to a tap calibration: for each served cell k, cell k - 1 for tap k - 1 and cell k + 1 for tap k (R188). -/
def tapSweepDie (t : TapRun) (l : List TapSum) (d : SegDie) : List TapSum :=
  let on := (tapServed d t.step).filter fun x => ((d.dolly? x.1).bind (·.transfer)).any fun y => y.hdr == some t.hdr
  on.foldl (fun l x => [(x.2 - 1, x.2 - 1), (x.2, x.2 + 1)].foldl (fun l p =>
    match sweepSample d p.2 with
    | some v => tapAdd l d.code p.1 (decide (d.sweepNo % 2 = 1)) v
    | none => l) l) l

/-- A sweep of the step of a tap calibration that runs (R188). -/
def tapSweep (s : State) : State :=
  match s.cal.taps with
  | none => s
  | some t =>
    if !t.started then s
    else { s with cal := { s.cal with taps := some { t with
      sweeps := t.sweeps + 1, sums := (s.segs.filter fun d => t.live.contains d.code && d.sweeps).foldl (tapSweepDie t) t.sums } } }

/-- A sweep starts at a Clapper (R99, R133, R142, R188): counts, the dies' sweeps, and the instant for the pack current. -/
def startSweep (s : State) (clap : Nat) (meas : List DieMeas) : State :=
  let s := { s with
    sweep := { s.sweep with
      claps := (s.sweep.claps + 1) % 2 ^ 32, overrunRun := 0, lastClap := clap, inSweep := true
      intervals := if s.sweep.claps = 0 then [] else ((clap - s.sweep.lastClap) :: s.sweep.intervals).take 8 }
    slates := { s.slates with
      curHist := (emptySample s.sweep.sinceRestart clap clap false false :: s.slates.curHist).take (histLen s) } }
  substSample (tapSweep ((s.segs.map (·.code)).foldl (dieSweep clap meas) (tapStepStart s)))

/-- CLAPPER (R99, R101, R113, R135, R310, R447): the Clapper that is due falls; `meas` is what the converters meet in the sweep. -/
def execClapper (meas : List DieMeas) (s : State) : Host.Outcome State Fault Refusal :=
  .next <|
    match dueClapper s with
    | none => s
    | some (clap, sw) =>
      let s := { s with sweep := sw }
      if !sweepsNow s clap then s
      else
        let s := beginSweeps s
        if !(s.sweep.burst || s.sweep.running) then s
        else if 0 < s.sweep.claps ∧ clap < s.sweep.lastClap + minPeriod s then skipClapper s else startSweep s clap meas

/-- Does a sample of an input gate a Dolly: it runs a transfer on a cell whose taps the sampled cell uses, in QUIET mode, and quiet windows apply to
the sample (a tap calibration gates on even sweeps only, R188); they always apply to guard groups, urgent conversions and probes (R103, R124, R125, R205, R213). -/
def gatesDolly (s : State) (d : SegDie) (dolly input : Nat) : Bool :=
  (if tapRunOn s d then decide (d.sweepNo % 2 = 0) else !d.compensated) && decide (input < 24) && ((d.dolly? dolly).bind (·.transfer)).any (fun t => meetsCell t.cell (input + 1)) &&
    (quietCell d s.sweep.hostSched (input + 1) || d.gates.any fun g => g.2.1 == input + 1 && decide (s.now ≤ g.1 + 500))

/-- QUIET_GATE (R127): a gate has ended the switching cycle of a Dolly, and the die reads its cell-side current in mA at the gated sample. -/
def execQuietGate (die dolly input : Nat) (current : Int) (s : State) : Host.Outcome State Fault Refusal :=
  onDie s die fun d =>
    if !gatesDolly s d dolly input then s
    else
      let s := s.updDolly die dolly fun y => { y with gateAt := some s.now }
      if current ≤ 20 then s
      else
        let s := s.updDie die fun d => { d with hist := updAt d.hist input fun l => match l with
          | x :: r => { x with quiet := true } :: r
          | [] => [] }
        raise s die (2 + dolly) 0x09 (256 * dolly + input)

/-- The filter of an input at a boundary: its set, or the burst's, counted in its own samples (R105, R138, R139, R447). -/
def filterOf (s : State) (d : SegDie) (input : Nat) : FilterSet :=
  if s.sweep.burst then { order := s.nv.settings.monOrder, d := s.nv.settings.monDec }
  else
    match d.entry? input with
    | some e =>
      let f := nth s.slates.sets (e.filt % 4) { order := 3, d := 40 }
      { order := f.order, d := f.d / 2 ^ e.div }
    | none => { order := 1, d := 0 }

/-- Set 0, which filters the pack current (R141, R144). -/
def set0 (s : State) : FilterSet :=
  if s.sweep.burst then { order := s.nv.settings.monOrder, d := s.nv.settings.monDec } else nth s.slates.sets 0 { order := 3, d := 40 }

/-- TAKEDEC in force (R139, R447). -/
def takeDec (s : State) : Nat := if s.sweep.burst then s.nv.settings.monDec else s.slates.takedec

/-- Sets that the entries of a die name, as a mask (R153). -/
def setsOf (d : SegDie) : Nat := (List.range 4).foldl (fun a k => if d.seq.any fun e => e.filt % 4 == k then a + 2 ^ k else a) 0

/-- Sweeps that the sets a die uses need to settle (R141). -/
def settleOf (s : State) (d : SegDie) : Nat :=
  if s.sweep.burst then s.nv.settings.monOrder * s.nv.settings.monDec
  else (d.seq.map fun e => let f := nth s.slates.sets (e.filt % 4) { order := 3, d := 40 }; f.order * f.d).foldl max 0

/-- Do a die's sets count since the last package-wide restart: it has not restarted alone since (R141)? -/
def sinceWide (s : State) (d : SegDie) : Bool := decide (s.sweep.sinceRestart ≤ d.sweepNo - d.restartAt)

/-- Sweeps after a package-wide restart until the first published Take (R141): a die that rejoins later settles on its own. -/
def settlePack (s : State) : Nat :=
  ((s.segs.filter fun d => d.sweeps && sinceWide s d).map (settleOf s)).foldl max ((set0 s).order * (set0 s).d)

/-- Does a die's block carry data at this boundary (R141, R150, R172, R191)? -/
def blockLive (s : State) (d : SegDie) : Bool :=
  d.sweeps && s.slates.rawDie != d.code && decide (settleOf s d ≤ d.sweepNo - d.restartAt) &&
    !(s.cal.taps.any fun t => t.dies.contains d.code)

/-- Sweeps in the longest filter span of a Slate: set 0 and the dies whose blocks carry data (R143). -/
def spanPack (s : State) : Nat := ((s.segs.filter (blockLive s)).map (settleOf s)).foldl max ((set0 s).order * (set0 s).d)

/-- The flags of DIEFLAGS that the boundary fixes (R154): COMPENSATED, REF_FALLBACK, HOST_SCHEDULED, RAW_STREAM, REJOIN, TEMP_STALE. -/
def blockFlags (s : State) (d : SegDie) : Nat :=
  let round := if s.power.state = .monitor then secT else 10 * msT
  2 * b2n d.compensated + 32 * b2n d.fallback + 128 * b2n s.sweep.hostSched + 256 * b2n (s.slates.rawDie == d.code) +
    1024 * b2n (decide (0 < d.rejoin)) + 2048 * b2n (d.therm.fault || !(d.tempAt.any fun t => decide (s.now ≤ t + 2 * round)))

/-- The block of one die at a boundary (R139, R150 to R154). -/
def formBlock (s : State) (d : SegDie) : Block :=
  { die := d.code, live := blockLive s d, flags := blockFlags s d, first := if d.cells = 0 then 0 else partCell s d.code 1, cells := d.cells
    sets := setsOf d, temp := if d.tempAt.isSome then some d.therm.temp else none
    inputs := (List.range 32).map fun i =>
      let f := filterOf s d i
      { order := f.order, d := f.d, samples := (nth d.hist i []).take (max (f.order * f.d) (takeDec s) + 1) }
    got := none }

/-- The Clapper of the first sweep since the boundary before this one. -/
def ownFirst (s : State) : Nat := ((s.slates.curHist.take (takeDec s)).getLast?.map (·.clap)).getD s.sweep.lastClap

/-- The Take that a boundary forms (R21, R22, R139, R151, R161, R165). -/
def formTake (s : State) : Take :=
  let bs := s.segs.map (formBlock s)
  let f := set0 s
  let span := f.order * f.d
  { seq := s.slates.nextSeq, clap := s.sweep.lastClap, boundary := s.packTime, publishedAt := 0
    flags := 4 * b2n s.slates.alignHost + 32 * b2n (s.slates.skips.any fun k => decide (s.sweep.sinceRestart ≤ k + spanPack s)) +
      64 * b2n s.sweep.late + 128 * b2n (decide (0 < s.slates.rejoin)) + 256 * b2n s.slates.contHost
    filterId := s.slates.filterId, hostCont := s.slates.contHost, blocks := bs
    windows := if s.slates.contHost then [] else (bs.filter (·.live)).map fun b => { die := b.die, left := 8, closedAt := none, fails := [], sent := none, got := none }
    current := { order := f.order, d := f.d, samples := s.slates.curHist.take (max span (takeDec s)) }
    spanSweeps := min span s.sweep.sinceRestart
    spanSkips := (s.slates.skips.filter fun k => decide (s.sweep.sinceRestart ≤ k + span)).length
    spanFirst := ((s.slates.curHist.take span).getLast?.map (·.clap)).getD s.sweep.lastClap
    ownFirst := ownFirst s
    published := false, written := false, selected := false, prepared := false, planned := false, bytes := [], dieMask := 0
    verdict := none, pairs := [], charge := 0 }

/-- M's stream comes back into use at a Take boundary (R359). -/
def restoreMetro (s : State) : State :=
  if s.mport.restoring then
    raise { s with mport := { s.mport with withdrawn := false, cause := 0, restoring := false, goodSince := none } } 0 6 0x63 0
  else s

/-- A Take boundary (R22, R139, R141, R171, R183, R359): a Take is formed when the filters have settled and 250 µs have passed since the last one. -/
def takeBoundary (s : State) : State :=
  let s := restoreMetro s
  let s := { s with
    sweep := { s.sweep with boundaries := s.sweep.boundaries + 1, boundaryAt := s.now, boundaryPack := s.packTime }
    slates := { s.slates with takeInt := (s.packTime - s.sweep.boundaryPack) % 2 ^ 32 } }
  if s.sweep.sinceRestart < settlePack s then captureMiss (noteBad s (ownFirst s) s.sweep.lastClap 0xFC)
  else if s.sweep.publishedPack.any fun p => decide (s.packTime < p + 25000) then
    raise (captureMiss (noteBad s (ownFirst s) s.sweep.lastClap 0xFC)) 0 1 0x23 (min 65535 ((s.packTime - s.sweep.publishedPack.getD 0) / 100))
  else
    let t := formTake s
    { s with
      sweep := { s.sweep with publishedPack := some s.packTime, burst := false }
      slates := { s.slates with
        takes := s.slates.takes ++ [t], nextSeq := (s.slates.nextSeq + 1) % 2 ^ 32, rejoin := s.slates.rejoin - 1 }
      segs := s.segs.map fun d => { d with rejoin := if blockLive s d then d.rejoin - 1 else d.rejoin } }

/-- Stops that waited complete with the last Take that received a number (R135). -/
def finishStops (s : State) : State :=
  let hs := s.sweep.stops
  hs.foldl (fun s h => completeOp s h stOk (le 4 (lastTake s))) { s with sweep := { s.sweep with stops := [] } }

/-- Stops whose abort was accepted are cancelled (R82, R133). -/
def cancelStops (s : State) : State :=
  (s.sweep.stops.filter (stopped_ s)).foldl (fun s h => completeOp s h stAborted [])
    { s with sweep := { s.sweep with stops := s.sweep.stops.filter fun h => !stopped_ s h } }

/-- Stops that waited take effect at the boundary; a stop ends an impedance session (R135, R283, R444). -/
def stopAtBoundary (s : State) : State :=
  let s := cancelStops s
  if s.sweep.stops.isEmpty && !s.sweep.stopPending then s
  else finishStops (endSession { s with sweep := { s.sweep with running := false, stopPending := false } } 4)

/-- Dies in an orderly thermal stop power down ANALOG and DOLLY after the boundary: their references are no longer settled (R118, R465). -/
def thermalAtBoundary (s : State) : State :=
  { s with segs := s.segs.map fun d => if d.stopping then d.analogOff else d }

/-- SWEEP_END (R101, R139, R293): the last conversion of a sweep ends; every die that swept sends its status word. -/
def execSweepEnd (s : State) : Host.Outcome State Fault Refusal :=
  .next <|
    if !s.sweep.inSweep then s
    else
      let s := { s with
        sweep := { s.sweep with inSweep := false, sinceRestart := s.sweep.sinceRestart + 1 }
        segs := upd s.segs (fun d => d.sweeps && !d.lbist) fun d => { d with sentAt := s.now } }
      if takeDec s ≠ 0 ∧ s.sweep.sinceRestart % takeDec s = 0 then thermalAtBoundary (stopAtBoundary (takeBoundary s)) else s

/-- CLAP_PIN_SILENT (R114). -/
def execClapPinSilent (s : State) : Host.Outcome State Fault Refusal :=
  .next <|
    let t := s.sweep.trig
    if (t.source == 1 || t.source == 2) && decide (t.watch ≠ 0) && !s.sweep.silent && cUp s && decide (s.sweep.lastEvent + t.watch * msT ≤ s.now) then
      raise { s with sweep := { s.sweep with silent := true } } 0 2 0x03 t.watch
    else s

/-- Can a die run its analogue self-test: powered, not stopped (R130, R446)? -/
def canTest (s : State) (d : SegDie) : Bool := !d.unpowered && !d.stopped && cUp s && !d.test.running

/-- The self-test that the reference cross-check asks for starts, outside its period (R221). -/
def startXcheck (s : State) (die : Nat) : State :=
  s.updDie die fun d => { d with xcWait := false, test := { d.test with running := true, xcheck := true } }

/-- Is the test of a die's period due: (d - 2) · 100 ms after a period mark, marks at multiples of the period in local time (R130; log
entry 135)? -/
def testMark (s : State) (d : SegDie) : Bool :=
  let p := s.sweep.selftest * secT
  let off := (d.code - 2) * 100 * msT
  decide (p ≠ 0) && decide (off ≤ s.now) && d.test.startedAt.all fun t => decide (t + (s.now - off) % p < s.now)

/-- Does a test fit here: idle time with at least 260 µs expected before the next Clapper, or at a sweep start where no such gap exists (R130)? -/
def testFits (s : State) (d : SegDie) : Bool :=
  (mainIdle s d && (nextClapIn s).all fun g => decide (26000 ≤ g)) ||
    ((dueClapper s).isSome && (nextInterval s).any fun i => decide (i < duration d s.sweep.hostSched + 26000))

/-- SELFTEST_START (R130). -/
def execSelftestStart (die : Nat) (s : State) : Host.Outcome State Fault Refusal :=
  onDie s die fun d =>
    if canTest s d && d.xcWait then startXcheck s die
    else if canTest s d && testMark s d && testFits s d then
      s.updDie die fun d => { d with test := { d.test with running := true, startedAt := some s.now } }
    else s

/-- The verdict of a test that the reference cross-check started (R221). -/
def xcheckVerdict (s : State) (die : Nat) (mainOff diagOff : Bool) : State :=
  let e := ((((s.die? die).map (·.refErr)).getD 0) % 65536).toNat
  let doubt := fun s : State => s.updDie die fun d => { d with unproven := true }
  if mainOff && !diagOff then raise s die 0 0x96 e
  else if !mainOff && diagOff then raise (doubt s) die 1 0x97 e
  else raise (doubt s) die 1 0x98 e

/-- SELFTEST_END (R124, R131, R132, R221): a failed step is recorded; the urgent request held converts in the first idle gap after it. -/
def execSelftestEnd (die : Nat) (failStep : Option Nat) (mainOff diagOff : Bool) (s : State) : Host.Outcome State Fault Refusal :=
  onDie s die fun d =>
    if !d.test.running then s
    else
      let s := s.updDie die fun d => { d with test := { d.test with running := false, xcheck := false, failed := failStep.isSome } }
      let s := match failStep with
        | some k => raise s die 0 0x08 k
        | none => s
      let s := if d.test.xcheck then xcheckVerdict s die mainOff diagOff else s
      if d.xcWait && cUp s then startXcheck s die else s

/-- Is a reference in use on a die: the internal one always, the others where an entry names them (R120)? -/
def refInUse (d : SegDie) (ref : Nat) : Bool := decide (ref = 0) || d.seq.any fun e => e.ref == ref

/-- Does a voltage of a reference in µV lie in its window (R118)? -/
def refWindow (ref : Nat) (uv : Int) : Bool :=
  if ref = 0 then decide ((uv - 3000000).natAbs ≤ 50)
  else if ref = 1 then decide (2950000 ≤ uv) && decide (uv ≤ 3050000) else decide (2850000 ≤ uv) && decide (uv ≤ 3150000)

/-- REFOK_CHANGE (R118, R120): a die reads a reference, in µV. The internal one is good once it is in its window, the others after 100 µs there; the
flag clears when its condition fails. -/
def execRefokChange (die ref : Nat) (uv : Int) (s : State) : Host.Outcome State Fault Refusal :=
  onDie s die fun d =>
    if d.unpowered || d.stopped then s
    else
      let since := if refWindow ref uv then some ((nth d.refSince ref none).getD s.now) else none
      let ok := since.any fun t => decide (ref = 0) || decide (t + 100 * usT ≤ s.now)
      let s := s.updDie die fun d => { d with refOk := d.refOk.set ref ok, refSince := d.refSince.set ref since, refUv := d.refUv.set ref uv }
      if nth d.refOk ref false && !ok && refInUse d ref && cUp s then raise s die 2 0x05 (256 * ref) else s

/-- REF_START_TIMEOUT (R118, R120): a reference in use has missed its start bound of 10 ms. -/
def execRefStartTimeout (die ref : Nat) (s : State) : Host.Outcome State Fault Refusal :=
  onDie s die fun d =>
    if !nth d.refOk ref true && refInUse d ref && !d.unpowered && !d.stopped && decide (nth d.refAt ref 0 + 10 * msT ≤ s.now) then
      raise s die 2 0x04 (256 * ref)
    else s

/-- STATUS_WORD_TIMER (R42, R293): a die that has sent no status word for 250 µs sends one. It reaches C as STATUS_WORD. -/
def execStatusWordTimer (die : Nat) (s : State) : Host.Outcome State Fault Refusal :=
  onDie s die fun d =>
    if !d.unpowered && !d.lbist && decide (d.sentAt + 250 * usT ≤ s.now) then s.updDie die fun d => { d with sentAt := s.now } else s

/-- Pack times of the diagnostic conversions in the latest sweep of a die (R97, R131). -/
def sweepDiags (s : State) (d : SegDie) : List Nat :=
  let n := max 1 (rotationLen d.cells)
  let g := (d.diagIdx + n - 1) % n
  ((cellSamples d s.sweep.hostSched d.sweepNo g).filter fun x =>
    if d.substituted then subReads d d.sweepNo x.2 else (rotationGroup d.cells g).contains x.2).map fun x => s.sweep.lastClap + x.1

/-- Pack time of the latest diagnostic conversion of a die so far (R204). -/
def lastDiag (s : State) (d : SegDie) : Nat :=
  ((if 0 < s.sweep.claps then sweepDiags s d else []).filter fun t => decide (t ≤ s.packTime)).foldl max d.diagAt

/-- Does a guard group of 4 µs end before the next diagnostic conversion of a sweep (R204; log entry 30)? -/
def guardFits (s : State) (d : SegDie) : Bool :=
  !(s.sweep.inSweep && (sweepDiags s d).any fun t => decide (s.packTime < t) && decide (t < s.packTime + 400)) &&
    (nextClapIn s).all fun g => decide (400 ≤ g)

/-- Are guard groups the rule here: in RUN and SERVICE, with the diagnostic domain on (R134, R204, R466)? -/
def guardRuns (s : State) (d : SegDie) : Bool := sweepState s && cUp s && !d.unpowered && !d.cutOff && !d.lbist

/-- GUARD_GROUP (R204, R205): 20 µs without a diagnostic conversion make the die convert the next four cells of the guard rotation for the
comparators; the currents of its taps correct the readings in COMPENSATED mode (R128). -/
def execGuardGroup (die : Nat) (at_ : CellPoint) (s : State) : Host.Outcome State Fault Refusal :=
  onDie s die fun d =>
    if !guardRuns s d || decide (s.packTime < lastDiag s d + 2000) || !guardFits s d then s
    else
      let cells := rotationGroup d.cells d.guardIdx
      let s := s.updDie die fun d => { d with guardIdx := (d.guardIdx + 1) % max 1 (rotationLen d.cells), diagAt := s.packTime }
      let s := cells.foldl (fun s c => noteGate s die c 0) s
      cells.foldl (fun s c => diagReading s die c (nth at_.volts (c - 1) 0 - tapCorrection s d c at_.taps / 1000)) s

end Sys2Proof.Machine
end

