-- ==== Sys2Proof/Machine/SlateRows.lean ====
section
/-! DEFINITION. The commands and events of filters, Slates and the commit pipeline (R21 to R28, R138 to R174, R210, R226, R567). -/
namespace Sys2Proof.Machine

/-- Is a value outside a range? -/
def outside (lo hi v : Nat) : Bool := decide (v < lo) || decide (hi < v)

/-- SET_FILTERS (R138, R141, R171). -/
def execSetFilters (h : Hdr) (takedec : Nat) (sets : List FilterSet) (s : State) : Host.Outcome State Fault Refusal :=
  .next <| runCmd s h 0x0301 fun s =>
    if !sweepState s then refuse s h 0x0301 stRejected
    else if takeRateBad s.sweep.trig.source s.sweep.trig.period takedec then refuse s h 0x0301 0x80
    else switchCmd s h 0x0301 0x0301 (.filters takedec sets)

/-- GET_FILTERS (R172). -/
def execGetFilters (h : Hdr) (s : State) : Host.Outcome State Fault Refusal :=
  .next <| runCmd s h 0x0302 fun s =>
    reply s h 0x0302 stOk
      (le 2 s.slates.takedec ++ zeros 2 ++ s.slates.sets.flatMap (fun f => le 1 f.order ++ [0] ++ le 2 f.d) ++ le 1 s.slates.filterId ++ zeros 3)

/-- SET_ALIGNMENT (R144 to R149, R172, R173, R567). -/
def execSetAlignment (h : Hdr) (mode irsrc subdie subin rmode : Nat) (s : State) : Host.Outcome State Fault Refusal :=
  .next <| runCmd s h 0x0303 fun s =>
    if !sweepState s then refuse s h 0x0303 stRejected
    else if 1 < mode ∨ 2 < irsrc ∨ 1 < rmode then refuse s h 0x0303 stFrameInvalid
    else if irsrc = 1 ∧ (s.die? subdie).isNone then refuse s h 0x0303 stNotFitted
    else if irsrc = 1 ∧ !currentCal s subdie subin then refuse s h 0x0303 0x83
    else switchCmd s h 0x0303 0x0303 (.alignment mode irsrc subdie subin rmode)

/-- Does a range of part cells lie outside the mapped cells (R3, R7)? Cells count from 1; a range that begins at 0 counts as outside (DESIGN CHOICE, log
117). -/
def rangeUnmapped (s : State) (first n : Nat) : Bool := decide (first = 0) || decide (mappedCells s + 1 < first + n)

/-- SET_RESISTANCE (R146): the value replaces the cell's, and the fit starts from it (log entry 48). -/
def execSetResistance (h : Hdr) (first : Nat) (values : List Nat) (s : State) : Host.Outcome State Fault Refusal :=
  .next <| runCmd s h 0x0304 fun s =>
    if !sweepState s then refuse s h 0x0304 stRejected
    else if outside 1 120 values.length then refuse s h 0x0304 stFrameInvalid
    else if rangeUnmapped s first values.length then refuse s h 0x0304 stNotFitted
    else
      let rho := values.zipIdx.foldl (fun l v => l.set (first - 1 + v.2) { nohm := 1000 * v.1, count := 0, sxy := 0, sxx := 0 }) s.slates.rho
      reply { s with slates := { s.slates with rho := rho } } h 0x0304 stOk []

/-- GET_RESISTANCE (R172). -/
def execGetResistance (h : Hdr) (first n : Nat) (s : State) : Host.Outcome State Fault Refusal :=
  .next <| runCmd s h 0x0305 fun s =>
    if outside 1 80 n then refuse s h 0x0305 stFrameInvalid
    else if rangeUnmapped s first n then refuse s h 0x0305 stNotFitted
    else
      reply s h 0x0305 stOk ((List.range n).flatMap fun k =>
        le 2 (sat 16 ((rhoOf s (first + k) + 500) / 1000)) ++ le 1 (b2n ((s.slates.rho[first + k - 1]?).any fun r => decide (4096 ≤ r.count))))

/-- SET_FILTER_MODE (R172, R567). -/
def execSetFilterMode (h : Hdr) (mode die : Nat) (s : State) : Host.Outcome State Fault Refusal :=
  .next <| runCmd s h 0x0306 fun s =>
    if !sweepState s then refuse s h 0x0306 stRejected
    else if 1 < mode then refuse s h 0x0306 stFrameInvalid
    else if mode = 1 ∧ (s.die? die).isNone then refuse s h 0x0306 stNotFitted
    else switchCmd s h 0x0306 0x0306 (.filterMode mode die)

/-- SET_CONTINUITY (R161, R165, R567). -/
def execSetContinuity (h : Hdr) (mode contthr verdicttmo : Nat) (s : State) : Host.Outcome State Fault Refusal :=
  .next <| runCmd s h 0x0307 fun s =>
    if !sweepState s then refuse s h 0x0307 stRejected
    else if decide (1 < mode) || outside 10 200 contthr || outside 1 1000 verdicttmo then refuse s h 0x0307 stFrameInvalid
    else switchCmd s h 0x0307 0x0307 (.continuity mode contthr verdicttmo)

/-- Does a Take wait for the host's verdict (R165)? -/
def awaitsVerdict (t : Take) : Bool := t.published && t.hostCont && t.verdict.isNone

/-- Record the verdict of a Slate. -/
def setVerdict (s : State) (seq v : Nat) : State :=
  { s with slates := { s.slates with
    takes := upd s.slates.takes (fun t => t.seq == seq && awaitsVerdict t) fun t => { t with verdict := some v } } }

/-- SEND_VERDICT (R165, R172, R173, R567). -/
def execSendVerdict (h : Hdr) (seq verdict : Nat) (s : State) : Host.Outcome State Fault Refusal :=
  .next <| runCmd s h 0x0308 fun s =>
    if !sweepState s then refuse s h 0x0308 stRejected
    else if verdict > 1 then refuse s h 0x0308 stFrameInvalid
    else if s.slates.takes.any fun t => t.seq == seq && awaitsVerdict t then reply (setVerdict s seq verdict) h 0x0308 stOk []
    else if !s.slates.contHost then refuse s h 0x0308 stRejected
    else refuse s h 0x0308 0x82

/-- SET_STREAM (R169, R567): the entries replace those of the same packages. -/
def execSetStream (h : Hdr) (entries : List StreamSel) (s : State) : Host.Outcome State Fault Refusal :=
  .next <| runCmd s h 0x0309 fun s =>
    if !sweepState s then refuse s h 0x0309 stRejected
    else if outside 1 33 entries.length || entries.any fun e => decide (2 < e.form) || outside 1 1000 e.div then
      refuse s h 0x0309 stFrameInvalid
    else
      let sel := entries.foldl (fun l e => (l.filter fun x => x.pkg != e.pkg) ++ [e]) s.slates.sel
      reply { s with slates := { s.slates with sel := sel } } h 0x0309 stOk []

/-- CLAPTIME of a stored Slate (R150). -/
def slateClap (l : List Byte) : Nat := leVal (fieldAt l 4 8)

/-- READ_HISTORY (R168, R173). -/
def execReadHistory (h : Hdr) (fromT toT : Nat) (s : State) : Host.Outcome State Fault Refusal :=
  .next <| runCmd s h 0x030A fun s =>
    if !sweepState s then refuse s h 0x030A stRejected
    else
      match s.slates.history.filter fun l => decide (fromT ≤ slateClap l) && decide (slateClap l ≤ toT) with
      | [] => reply s h 0x030A 0x81 (zeros 12)
      | x :: r => startOp s h 0x030A fun s =>
        { s with slates := { s.slates with reads := s.slates.reads ++ [{ hdr := h, left := x :: r, count := 0, firstTime := slateClap x }] } }

/-- HISTORY_RECORD_WRITE (R168): the next held Slate, once the reserve and 664 bytes stay free after it. -/
def execHistoryRecordWrite (s : State) : Host.Outcome State Fault Refusal :=
  .next <|
    match s.slates.reads with
    | [] => s
    | r :: rest =>
      match r.left with
      | [] => { s with slates := { s.slates with reads := rest } }
      | x :: l =>
        if !streamRoom s 5 660 664 then s
        else
          let s := sendRecord (endRun (streamWrite s 5 0 x) 0) 5 x
          if l.isEmpty then
            completeOp { s with slates := { s.slates with reads := rest } } r.hdr stOk (le 2 (r.count + 1) ++ zeros 2 ++ le 8 r.firstTime)
          else { s with slates := { s.slates with reads := { r with left := l, count := r.count + 1 } :: rest } }

/-- CHARGE (R38, R166, R172, R173, R567): a preset on a part that is not the current source is refused. -/
def execCharge (h : Hdr) (op : Nat) (value : Int) (s : State) : Host.Outcome State Fault Refusal :=
  .next <| runCmd s h 0x030B fun s =>
    if !sweepState s then refuse s h 0x030B stRejected
    else if 1 < op then refuse s h 0x030B stFrameInvalid
    else if op = 1 ∧ !ownSource s then refuse s h 0x030B stRejected
    else
      let r := leInt 8 s.slates.charge ++ le 8 s.slates.chargeAt
      reply (if op = 1 then { s with slates := { s.slates with presetWait := some (value, s.now) } } else s) h 0x030B stOk r

/-- CHARGE_PRESET_APPLY (R172): the integral restarts from the preset at the Clapper of the first Take whose boundary follows the acceptance
by 100 µs. -/
def execChargePresetApply (s : State) : Host.Outcome State Fault Refusal :=
  .next <|
    match s.slates.presetWait, s.slates.takes.getLast? with
    | some (v, t), some k =>
      if t + 100 * usT ≤ s.sweep.boundaryAt ∧ k.boundary = s.sweep.boundaryPack then
        { s with slates := { s.slates with
          presetWait := none, preset := v * mAsUnit, zeroInt := (integralAt (chargeSamples s) k.clap).getD 0, gap := false } }
      else s
    | _, _ => s

/-- GET_SLATE_STATUS (R172). -/
def execGetSlateStatus (h : Hdr) (s : State) : Host.Outcome State Fault Refusal :=
  .next <| runCmd s h 0x030C fun s =>
    reply s h 0x030C stOk
      (le 4 s.slates.published ++ le 4 s.slates.committed ++ le 4 s.slates.voided ++ le 4 s.slates.chainDrops ++
        le 1 (s.slates.takes.filter (·.published)).length ++ le 1 s.slates.filterId ++ le 2 s.slates.history.length ++ le 4 s.slates.takeInt)

/-- A ring message has failed its check: more than 10 within 1 s raise RING_ERRORS (R292, R331). -/
def ringFailure (s : State) (die : Nat) : State :=
  let l := s.now :: s.ring.errors.filter fun t => decide (s.now < t + secT)
  let s := { s with ring := { s.ring with errors := l } }
  if 10 < l.length then raise s 0 3 0x5B die else s

/-- A die's block of the oldest unpublished Take that still misses it arrives, or fails (R292). -/
def blockGot (die : Nat) (good : Bool) : List Take → List Take
  | [] => []
  | t :: r =>
    if !t.published && t.blocks.any (fun b => b.die == die && b.got.isNone) then
      { t with blocks := upd t.blocks (fun b => b.die == die) fun b => { b with got := some good } } :: r
    else t :: blockGot die good r

/-- DIE_BLOCK (R290, R292). -/
def execDieBlock (die : Nat) (good : Bool) (s : State) : Host.Outcome State Fault Refusal :=
  onDie s die fun _ =>
    let s := { s with slates := { s.slates with takes := blockGot die good s.slates.takes } }
    if good then s else ringFailure s die

/-- The run of dropped Slates of a package that no gap record names yet (R79). -/
def runOf (s : State) (pkg : Nat) : Option (Nat × Nat × Nat) := s.stream.runs.find? fun r => r.1 == pkg

/-- Write the gap record of a package's run, if there is one (R79). -/
def writeGap (s : State) (pkg : Nat) : State :=
  match runOf s pkg with
  | none => s
  | some r =>
    streamWrite { s with stream := { s.stream with runs := s.stream.runs.filter fun x => x.1 != pkg } } 0x7E pkg (le 4 r.2.1 ++ le 4 r.2.2)

/-- A dropped Slate joins the run of its package (R79). -/
def extendRun (s : State) (pkg seq : Nat) : State :=
  let r := match runOf s pkg with
    | some r => (pkg, r.2.1, r.2.2 + 1)
    | none => (pkg, seq, 1)
  { s with stream := { s.stream with runs := (s.stream.runs.filter fun x => x.1 != pkg) ++ [r] } }

/-- Write a Slate of a package into the stream window, with the gap record that is due before it, or drop it (R78, R79, R89). The Boolean
says whether it was written. -/
def slateToStream (s : State) (pkg type seq : Nat) (payload : List Byte) : State × Bool :=
  if streamRoom s type payload.length (if (runOf s pkg).isSome then 12 else 0) then
    let s := endRun (streamWrite (writeGap s pkg) type pkg payload) pkg
    ({ s with stream := { s.stream with undecided := s.stream.undecided ++ [(pkg, seq)] } }, true)
  else
    (settle (streamDrop (extendRun s pkg seq) pkg), false)

/-- A Slate waits for chain transfer; a fifth one drops the oldest (R170). -/
def chainQueuePut (s : State) (payload : List Byte) : State :=
  let q := s.slates.chainQueue ++ [payload]
  if q.length ≤ 4 then { s with slates := { s.slates with chainQueue := q } }
  else
    let n := s.slates.chainRun + 1
    raise { s with slates := { s.slates with chainQueue := q.drop 1, chainDrops := (s.slates.chainDrops + 1) % 2 ^ 32, chainRun := n } } 0 1 0x26
      (256 * s.chain.addr + sat 8 n)

/-- ALIGN_NO_CURRENT, once for each loss (R148). -/
def currentWatch (s : State) (t : Take) : State :=
  if s.slates.irsrc = 2 ∨ bit t.flags 2 then s
  else if currentThere s then { s with slates := { s.slates with noCurrent := false } }
  else if s.slates.noCurrent then s
  else raise { s with slates := { s.slates with noCurrent := true } } 0 1 0x24 s.chain.source

/-- The Take as published: aligned, flagged, packed, with the windows of the dies in its mask (R144 to R157, R163). -/
def formSlate (s : State) (t : Take) : State × Take :=
  let a := alignTake s t
  let b := fillTake a.1 a.2
  let s := currentWatch b.1 b.2
  let hw := !bit t.flags 2
  let t := { b.2 with
    flags := b.2.flags + 8 * b2n (hw && !currentThere s) + 16 * b2n (hw && !s.slates.rFixed && !rhoConverged s)
    dieMask := takeMask s b.2, charge := chargeAt s b.2.clap, pairs := takePairs s b.2
    windows := b.2.windows.filter fun w => bit (takeMask s b.2) w.die
    published := true, publishedAt := s.now, selected := selectedSeq s b.2.seq
    prepared := !s.slates.prepHold && decide ((s.slates.takes.filter fun (x : Take) => x.published && x.prepared).length < 4) }
  (s, { t with bytes := slateBytes s t })

/-- The payload of a timestamped sweep record (R159). -/
def sweepRecordBytes (t : Take) : List Byte := le 4 t.seq ++ le 2 t.spanSweeps ++ le 2 t.spanSkips ++ le 8 t.spanFirst ++ le 8 t.clap

/-- The Slate leaves: into the stream window and onto the chain, with the sweep record of host-assisted alignment (R149, R160, R169, R170). -/
def sendSlate (s : State) (t : Take) : State × Bool :=
  if !t.selected then (s, false)
  else
    let compact := (ownSelection s).1 == 2
    let payload := if compact then compactBytes t.bytes else t.bytes
    let r := slateToStream s 0 (if compact then 2 else 1) t.seq payload
    let s := if inChain r.1 then chainQueuePut r.1 payload else r.1
    (if bit t.flags 2 then sendRecord (streamRec s 4 0 (sweepRecordBytes t)) 4 (sweepRecordBytes t) else s, r.2)

/-- SLATE_PUBLISH (R21, R24 to R27, R144 to R160, R169, R170): the oldest Take not yet published. A head prepares its summary item on it. -/
def execSlatePublish (s : State) : Host.Outcome State Fault Refusal :=
  .next <|
    match s.slates.takes.find? fun t => !t.published with
    | none => s
    | some t0 =>
      let r := formSlate s t0
      let w := sendSlate (checkRef (lockTake r.1 r.2)) r.2
      let t := { r.2 with written := w.2 }
      let s := w.1
      { s with slates := { s.slates with
        takes := upd s.slates.takes (fun x => x.seq == t.seq && !x.published) fun _ => t
        published := (s.slates.published + 1) % 2 ^ 32, prepHold := s.slates.prepHold || !t.prepared
        summaries := if s.chain.isHead && t.prepared then s.slates.summaries ++ [t.seq] else s.slates.summaries } }

/-- A tap becomes suspect (R210). -/
def suspectTap (s : State) (die tap : Nat) : State :=
  s.updDie die fun d => { d with
    suspects := if d.suspects.contains tap then d.suspects else d.suspects ++ [tap], connected := d.connected.filter (· != tap) }

/-- A cell becomes suspect with the taps on both its sides (R210). -/
def suspectCell (s : State) (die cell : Nat) : State :=
  (suspectTap (suspectTap s die (cell - 1)) die cell).updDie die fun d => { d with
    suspectCells := (d.suspectCells.filter fun x => x.1 != cell) ++ [(cell, 0)] }

/-- Change the oldest Take's window of a die that satisfies a test. -/
def updWindow (die : Nat) (p : Window → Bool) (f : Window → Window) : List Take → List Take
  | [] => []
  | t :: r =>
    if t.windows.any fun w => w.die == die && p w then { t with windows := upd t.windows (fun w => w.die == die && p w) f } :: r
    else t :: updWindow die p f r

/-- The oldest window of a die that satisfies a test. -/
def findWindow (s : State) (die : Nat) (p : Window → Bool) : Option Window :=
  s.slates.takes.findSome? fun t => t.windows.find? fun w => w.die == die && p w

/-- Has a window run its eight sweeps with its result still to send? -/
def windowDone (w : Window) : Bool := decide (w.left = 0) && w.sent.isNone

/-- CONTINUITY_WINDOW_CLOSE (R161, R163, R210): the die sends the result of its oldest window that is over. -/
def execContinuityWindowClose (die : Nat) (s : State) : Host.Outcome State Fault Refusal :=
  onDie s die fun _ =>
    match findWindow s die windowDone with
    | none => s
    | some w =>
      let s := { s with slates := { s.slates with
        takes := updWindow die windowDone (fun w => { w with sent := some w.fails.isEmpty }) s.slates.takes } }
      match w.fails with
      | [] => s
      | c :: _ => w.fails.foldl (fun s c => suspectCell s die c) (raise s die 1 0x21 (c - 1))

/-- Does a window's result still have to reach C? -/
def windowSent (w : Window) : Bool := w.sent.isSome && w.got.isNone

/-- CONTINUITY_VERDICT (R163, R290, R292): a verdict with a bad check value counts as missing. -/
def execContinuityVerdict (die : Nat) (good : Bool) (s : State) : Host.Outcome State Fault Refusal :=
  onDie s die fun _ =>
    if !good then ringFailure s die
    else
      { s with slates := { s.slates with
        takes := updWindow die windowSent (fun w => { w with got := some (b2n (w.sent == some false)) }) s.slates.takes } }

/-- Has a window been closed for 10 µs without its result at C (R163)? -/
def windowLate (now : Tick) (w : Window) : Bool := w.got.isNone && w.closedAt.any fun t => decide (t + 10 * usT ≤ now)

/-- WINDOW_INCOMPLETE (R163): a die's result has not reached C within 10 µs of its window's close. -/
def execWindowIncomplete (die : Nat) (s : State) : Host.Outcome State Fault Refusal :=
  onDie s die fun _ =>
    { s with slates := { s.slates with
      takes := updWindow die (windowLate s.now) (fun w => { w with got := some 2 }) s.slates.takes } }

/-- Has no sweep started within twice the last Clapper interval (R164)? -/
def sweepsQuiet (s : State) : Bool := s.sweep.intervals.head?.any fun i => decide (s.sweep.lastClap + 2 * i ≤ s.packTime)

/-- One window reading of a die alone, against the previous readings of the same cells (R162, R164). -/
def aloneReading (die : Nat) (volts : List Int) (s : State) (_k : Nat) : State :=
  match s.die? die with
  | none => s
  | some d =>
    let cells := rotationGroup d.cells d.diagIdx
    let uv := fun c => nth volts (c - 1) 0
    let bad := cells.filter fun c => !d.probed c && decide (1000000 * s.slates.contThr < (diagNv (uv c) - nth d.lastRead (c - 1) 0).natAbs)
    let s := stepWindows s die bad
    let s := s.updDie die fun d => { keepReads d cells uv with diagIdx := (d.diagIdx + 1) % max 1 (rotationLen d.cells) }
    cells.foldl (fun s c => diagReading s die c (nth volts (c - 1) 0)) s

/-- OPEN_WINDOW_FINISH (R164, R465): the die completes its open windows alone: no sweep has started for twice the last interval, or the die makes
an orderly thermal stop. -/
def execOpenWindowFinish (die : Nat) (volts : List Int) (s : State) : Host.Outcome State Fault Refusal :=
  onDie s die fun d =>
    if !(sweepsQuiet s || d.stopped) || d.cutOff || d.unpowered then s
    else
      let n := (s.slates.takes.flatMap (·.windows)).foldl (fun a w => if w.die = die then max a w.left else a) 0
      (List.range n).foldl (aloneReading die volts) s

/-- VERDICT_TIMEOUT (R165). -/
def execVerdictTimeout (s : State) : Host.Outcome State Fault Refusal :=
  .next <|
    match s.slates.takes.find? fun t => awaitsVerdict t && decide (t.publishedAt + s.slates.verdictTmo * msT ≤ s.now) with
    | none => s
    | some t => raise (setVerdict s t.seq 2) 0 1 0x22 (t.seq % 65536)

/-- How a Take is decided: REASON and FAILMASK, or none while something is missing (R163, R165). -/
def decision (t : Take) : Option (Nat × Nat) :=
  if !t.published then none
  else if t.hostCont then t.verdict.map fun v => (if v = 0 then 0 else if v = 1 then 3 else 4, 0)
  else if t.windows.any fun w => w.got.isNone then none
  else
    let bad := t.windows.filter fun w => w.got != some 0
    let mask := bad.foldl (fun a w => a + 2 ^ w.die) 0
    some (if bad.isEmpty then 0 else if bad.any fun w => w.got == some 1 then 1 else 2, mask)

/-- The payload of a commit notice (R158). -/
def noticeBytes (seq reason mask : Nat) : List Byte := le 4 seq ++ le 1 (if reason = 0 then 1 else 2) ++ le 1 reason ++ le 1 mask ++ [0]

/-- The notice leaves: into the window where its Slate is, and onto the chain until it is acknowledged (R78, R79, R169, R303). -/
def sendNotice (s : State) (t : Take) (reason mask : Nat) : State :=
  let p := noticeBytes t.seq reason mask
  let s := if t.written then
      endRun (streamWrite { s with stream := { s.stream with undecided := s.stream.undecided.erase (0, t.seq) } } 3 0 p) 0 else s
  if t.selected && inChain s then
    sendFrame { s with chain := { s.chain with notices := s.chain.notices ++ [(nth s.chain.seqs 2 0, p)] } } 0x03 0 1 false false p
  else s

/-- A Slate is voided (R26, R29, R163): prepared items that depend on it are discarded. -/
def voidTake (s : State) (t : Take) (reason mask : Nat) : State :=
  let s := { s with
    slates := { s.slates with voided := (s.slates.voided + 1) % 2 ^ 32, contFail := s.slates.contFail ||| mask }
    balance := { s.balance with items := s.balance.items.filter fun i => i.released || !i.deps.contains t.seq } }
  captureTake (raise s 0 1 0x20 (256 * mask + reason)) t false

/-- The history copy of a committed Slate (R151, R154, R163, R167): COMMITTED, HISTORY, and CONTINUITY_FAIL on the dies of the voids before it. -/
def historyBytes (l : List Byte) (fail : Nat) : List Byte :=
  let body := l.take 12 ++ le 2 (leVal (fieldAt l 12 2) + 1 + 512) ++ fieldAt l 14 2 ++
    [2, 3, 4, 5, 6, 7].flatMap (fun c => fieldAt l (16 + 104 * (c - 2)) 102 ++ le 2 (slateFlags l c + 512 * b2n (bit fail c))) ++ fieldAt l 640 16
  withCrc body

/-- One cell's estimate after a committed Take (R146). -/
def rhoStep (s : State) (p : Nat × Int × Int × Nat) : State :=
  match (if p.1 = 0 then none else s.slates.rho[p.1 - 1]?) with
  | none => s
  | some r =>
    let sxy := r.sxy + p.2.1
    let sxx := r.sxx + p.2.2.1
    let v := divRound (1000 * sxy) sxx.toNat
    let c := (clamp 20000 20000000 v).toNat
    let s := { s with slates := { s.slates with
      rho := s.slates.rho.set (p.1 - 1) { nohm := c, count := r.count + p.2.2.2, sxy := sxy, sxx := sxx } } }
    if (c : Int) = v ∨ c = r.nohm then s else raise s 0 1 0x25 p.1

/-- Items whose dependency set the commit completes are released (R28); those of a held Dolly wait, but for a stop (R225, R242). -/
def releaseItems (s : State) (seq : Nat) : State :=
  { s with balance := { s.balance with items := s.balance.items.map fun i =>
      let d := i.deps.filter (· != seq)
      let held := decide (i.mode ≠ 0) && (s.die? i.die).any fun e => dollyHeld s e i.dolly
      { i with deps := d, released := i.released || (d.isEmpty && !held) } } }

/-- A Slate that commits before the planner has prepared its items on it waits for them (R246). -/
def keepLate (s : State) (t : Take) : State :=
  if t.prepared && !t.planned && !s.balance.hostMode && s.balance.goal != 0 && s.balance.planned && s.power.state == .run then
    { s with slates := { s.slates with late := s.slates.late ++ [t] } }
  else s

/-- The cell values of a Slate that carry data: part cell and µV (R155). -/
def cellValues (s : State) (t : Take) : List (Nat × Int) :=
  (t.blocks.filter blockData).flatMap fun b => (List.range b.cells).filterMap fun k =>
    let v := slateCell t.bytes b.die (k + 1)
    if v = -0x800000 ∨ v = 0x7FFFFF ∨ v = -0x7FFFFF then none else some (partCell s b.die (k + 1), v)

/-- Cells of one die whose committed value jumped while the others stayed (R210). -/
def jumps (s : State) (die cells : Nat) (now : List (Nat × Int)) : List Nat :=
  let delta := (List.range cells).filterMap fun k =>
    match now.lookup (partCell s die (k + 1)), s.slates.lastVals.lookup (partCell s die (k + 1)) with
    | some a, some b => some (k + 1, (a - b).natAbs)
    | _, _ => none
  (delta.filter fun x => decide (1000 * s.sense.jumpThr < x.2) &&
    delta.all fun y => y.1 == x.1 || decide (4 * y.2 ≤ 1000 * s.sense.jumpThr)).map (·.1)

/-- CELL_JUMP_SUSPECT (R210), and the values kept for the next Slate. -/
def jumpCheck (s : State) (t : Take) : State :=
  let now := cellValues s t
  let s := (t.blocks.filter blockData).foldl (fun s b => (jumps s b.die b.cells now).foldl (fun s c => suspectCell s b.die c) s) s
  { s with slates := { s.slates with lastVals := now } }

/-- One thermistor input after a committed Slate (R226): the value in 0.01 % of VTREF; consecutive Slates beyond and inside each limit. -/
def thermStep (d : SegDie) (v : Int) (c : Nat × Nat × Nat × Nat) : Nat × Nat × Nat × Nat :=
  (if (d.openLim : Int) ≤ v then c.1 + 1 else 0, if v ≤ (d.shortLim : Int) then c.2.1 + 1 else 0,
   if v ≤ (d.openLim : Int) - 50 then c.2.2.1 + 1 else 0, if (d.shortLim : Int) + 50 ≤ v then c.2.2.2 + 1 else 0)

/-- A set of inputs with one in or out. -/
def withInput (l : List Nat) (x : Nat) (on off : Bool) : List Nat := if on then (if l.contains x then l else l ++ [x]) else if off then l.filter (· != x) else l

/-- The check of one thermistor of a die (R226). -/
def thermCheck (die : Nat) (b : Block) (s : State) (j : Nat) : State :=
  match s.die? die, b.inputs[24 + j]? with
  | some d, some x =>
    if !bit d.thermMask j || (contributing x).any (·.noData) || decide ((contributing x).length < x.order * x.d) || decide (x.d = 0) then s
    else
      let c := thermStep d (divRound (rawOut x) 300) (nth d.thermCnt j (0, 0, 0, 0))
      let s := s.updDie die fun d => { d with
        thermCnt := d.thermCnt.set j c
        thermOpen := withInput d.thermOpen (24 + j) (decide (3 ≤ c.1)) (decide (3 ≤ c.2.2.1))
        thermShort := withInput d.thermShort (24 + j) (decide (3 ≤ c.2.1)) (decide (3 ≤ c.2.2.2)) }
      let s := if 3 ≤ c.1 ∧ !d.thermOpen.contains (24 + j) then raise s die 2 0x9C (24 + j) else s
      if 3 ≤ c.2.1 ∧ !d.thermShort.contains (24 + j) then raise s die 2 0x9D (24 + j) else s
  | _, _ => s

/-- THERMISTOR_CHECK (R226) over the blocks of a committed Slate. -/
def thermistorCheck (s : State) (t : Take) : State :=
  (t.blocks.filter blockData).foldl (fun s b => (List.range 8).foldl (thermCheck b.die b) s) s

/-- A Slate is committed: its consumers act (R25, R28, R146, R166, R167, R183, R210, R226). -/
def commitTake (s : State) (t : Take) : State :=
  let s := { s with slates := { s.slates with
    committed := (s.slates.committed + 1) % 2 ^ 32
    history := (s.slates.history ++ [historyBytes t.bytes s.slates.contFail]).drop (s.slates.history.length + 1 - 512)
    contFail := 0, charge := divRound t.charge mAsUnit, chargeAt := t.clap } }
  let s := if s.slates.rFixed then s else t.pairs.foldl rhoStep s
  captureTake (thermistorCheck (jumpCheck (keepLate (releaseItems s t.seq) t) t) t) t true

/-- Dies of a decided Take that cannot serve a lock-in block: all unless it is COMMITTED without CLAP_GAP, else those whose block carries
DIAG_SUBSTITUTE, NO_DATA, QUIET_VIOLATION or REJOIN, or OVER_RANGE on a selected cell (R269). -/
def badDies (s : State) (t : Take) (committed : Bool) : Nat :=
  if !committed || bit t.flags 5 then 0xFC
  else
    let cells := (s.imp.def_.map (·.cells)).getD 0
    t.blocks.foldl (fun a b =>
      let beyondSel := (List.range b.cells).any fun k =>
        bit cells (b.first + k - 1) && (slateCell t.bytes b.die (k + 1) == 0x7FFFFF || slateCell t.bytes b.die (k + 1) == -0x7FFFFF)
      if slateFlags t.bytes b.die &&& 0x451 ≠ 0 ∨ beyondSel then a + 2 ^ b.die else a) 0

/-- The impedance engine renews the lease of its modulating Dollies at every commit notice (R266). -/
def renewModulate (s : State) : State :=
  if s.imp.run.isNone then s
  else
    { s with segs := s.segs.map fun d => { d with dollies := d.dollies.map fun y =>
        { y with transfer := y.transfer.map fun t => if t.modulates then { t with endAt := s.now + s.balance.lease * msT } else t } } }

/-- The oldest Take's notice, once its decision is complete (R22, R23, R163, R165, R266, R269). -/
def commitOldest (s : State) : State :=
  match s.slates.takes with
  | [] => s
  | t :: rest =>
    match decision t with
    | none => s
    | some (reason, mask) =>
      let s := renewModulate (noteBad s t.ownFirst t.clap (badDies s t (decide (reason = 0))))
      let s := sendNotice { s with slates := { s.slates with
        takes := rest, prepHold := false, summaries := s.slates.summaries.erase t.seq } } t reason mask
      if reason = 0 then commitTake s t else voidTake s t reason mask

/-- COMMIT_NOTICE (R22, R23). -/
def execCommitNotice (s : State) : Host.Outcome State Fault Refusal := .next (commitOldest s)

end Sys2Proof.Machine
end

