-- ==== Sys2Proof/Machine/CalRows.lean ====
section
/-! DEFINITION. The commands and events of system calibration, and the steps of the flash manager (R179 to R203, R392, R407, R428, R429). -/
namespace Sys2Proof.Machine

/-- The status with which a command of class 0x04 that names a die is turned away (R200). Outside RUN it is REJECTED_STATE whatever segment die is named
(DESIGN CHOICE, log 116). -/
def calGate (s : State) (die : Nat) : Option Nat :=
  if die = 1 then some (if s.part.hasM then stRejected else stNotFitted)
  else if s.power.state ≠ .run then some stRejected
  else if (s.die? die).isNone then some stNotFitted
  else if s.slates.rawDie = die ∨ s.slates.alignHost ∨ s.sweep.hostSched then some stRejected
  else none

/-- Run a command of class 0x04 on a die, or turn it away (R200). -/
def calCmd (s : State) (h : Hdr) (op die : Nat) (body : SegDie → State) : State :=
  match calGate s die, s.die? die with
  | some st, _ => refuse s h op st
  | none, some d => body d
  | none, none => refuse s h op stNotFitted

/-- CAL_START (R181, R182). -/
def execCalStart (h : Hdr) (die input unit : Nat) (s : State) : Host.Outcome State Fault Refusal :=
  .next <| runCmd s h 0x0401 fun s => calCmd s h 0x0401 die fun d =>
    if s.cal.session.isSome then refuse s h 0x0401 stBusy
    else
      match (if input < 24 then none else d.entry? input) with
      | none => refuse s h 0x0401 0x85
      | some e =>
        let q : CalSession := { die := die, input := input, unit_ := unit, gain := e.gain % 4, ref := refOf d input, low := none, high := none }
        reply { s with cal := { s.cal with session := some q } } h 0x0401 stOk []

/-- Run a command on the open session: outside RUN none runs, and the session names the die whose modes count (R182, R200, R202). -/
def onSession (s : State) (h : Hdr) (op : Nat) (body : SegDie → CalSession → State) : State :=
  if s.power.state ≠ .run then refuse s h op stRejected
  else
    match s.cal.session with
    | none => refuse s h op 0x80
    | some q => calCmd s h op q.die fun d => body d q

/-- Run a command that needs the session's input as it was (R181, R182, R202). -/
def sessionCmd (s : State) (h : Hdr) (op : Nat) (body : SegDie → CalSession → State) : State :=
  onSession s h op fun d q =>
    match sessionBreak s q with
    | some st => refuse s h op st
    | none => body d q

/-- CAL_POINT (R182, R183). -/
def execCalPoint (h : Hdr) (kind ntakes : Nat) (value : Int) (s : State) : Host.Outcome State Fault Refusal :=
  .next <| runCmd s h 0x0402 fun s => sessionCmd s h 0x0402 fun _ q =>
    if s.cal.capture.isSome then refuse s h 0x0402 stBusy
    else startOp s h 0x0402 fun s =>
      let c : Capture :=
        { hdr := h, gainRun := false, kind := kind, die := q.die, ntakes := ntakes, applied := value, cells := [], acceptedAt := s.packTime
          counted := 0, skipped := 0, seen := 0, values := [], tmin := 0, tmax := 0 }
      { s with cal := { s.cal with capture := some c } }

/-- The coefficients G and O of two points (R185): binary32 bits and an offset in the unit's LSB. -/
def calCoeffs (a b : CalPt) : Nat × Int :=
  let dx := b.mean - a.mean
  let g := f32Of (if dx < 0 then a.applied - b.applied else b.applied - a.applied) dx.natAbs
  (g, a.applied - f32Mul g a.mean)

/-- CAL_COMMIT (R182, R185, R192): the coefficients are stored and the session closes. -/
def execCalCommit (h : Hdr) (s : State) : Host.Outcome State Fault Refusal :=
  .next <| runCmd s h 0x0403 fun s => sessionCmd s h 0x0403 fun d q =>
    if s.cal.capture.isSome then refuse s h 0x0403 stBusy
    else
      match q.low, q.high with
      | some a, some b =>
        if 10 * (b.mean - a.mean).natAbs < spanOf d q.input then refuse s h 0x0403 0x81
        else startOp s h 0x0403 fun s =>
          let k := calCoeffs a b
          storeCal { s with cal := { s.cal with session := none } }
            [calRecord s 0 q.die q.input (q.gain + 4 * q.ref + 16 * (q.unit_ % 4)) k.1 k.2] (some h) []
      | _, _ => refuse s h 0x0403 0x83

/-- CAL_CANCEL (R182): a point capture in progress ends with it. -/
def execCalCancel (h : Hdr) (s : State) : Host.Outcome State Fault Refusal :=
  .next <| runCmd s h 0x0404 fun s => onSession s h 0x0404 fun _ _ =>
      let s := match s.cal.capture with
        | some c => if c.gainRun then s else endCapture s c stAborted
        | none => s
      reply { s with cal := { s.cal with session := none } } h 0x0404 stOk []

/-- CAL_CELL_GAIN (R179, R180). -/
def execCalCellGain (h : Hdr) (die ntakes : Nat) (cells : List TrueCell) (s : State) : Host.Outcome State Fault Refusal :=
  .next <| runCmd s h 0x0405 fun s => calCmd s h 0x0405 die fun d =>
    if cells.any fun c => decide (c.cell = 0) || decide (d.cells < c.cell) then refuse s h 0x0405 stNotFitted
    else if s.cal.capture.isSome then refuse s h 0x0405 stBusy
    else startOp s h 0x0405 fun s =>
      let c : Capture :=
        { hdr := h, gainRun := true, kind := 0, die := die, ntakes := ntakes, applied := 0, cells := cells, acceptedAt := s.packTime
          counted := 0, skipped := 0, seen := 0, values := [], tmin := 0, tmax := 0 }
      { s with cal := { s.cal with capture := some c } }

/-- Do the conditions of a tap calibration fail on a die (R191)? -/
def tapConditionsFail (d : SegDie) : Bool :=
  ((d.lastRead.take d.cells).any fun v => decide (v < 3000000000) || decide (4400000000 < v)) || d.dollies.any fun y => !y.withdrawn.isEmpty

/-- CAL_TAPS (R188, R191). -/
def execCalTaps (h : Hdr) (dieMask itest : Nat) (s : State) : Host.Outcome State Fault Refusal :=
  .next <| runCmd s h 0x0406 fun s =>
    let dies := s.segs.filter fun d => bit dieMask d.code
    if bit dieMask 1 && s.part.hasM || s.power.state != .run then refuse s h 0x0406 stRejected
    else if maskAbsent s dieMask then refuse s h 0x0406 stNotFitted
    else if dies.any fun d => (calGate s d.code).isSome then refuse s h 0x0406 stRejected
    else if s.cal.taps.isSome then refuse s h 0x0406 stBusy
    else if dies.any tapConditionsFail then refuse s h 0x0406 0x86
    else startOp s h 0x0406 fun s =>
      tapStepStart { s with cal := { s.cal with
        taps := some { hdr := h, itest := itest, step := 0, stepAt := s.now, dies := dies.map (·.code), failed := [], started := false, sweeps := 0
                       sums := [], found := [] } } }

/-- The tap resistances of one die after all steps: the mean of the results of each interior tap (R188, R189). -/
def tapMeans (found : List (Nat × Nat × Int)) (d : SegDie) : List (Nat × Int) :=
  (List.range d.cells).filterMap fun t =>
    let l := (found.filter fun x => x.1 == d.code && x.2.1 == t).map (·.2.2)
    if t = 0 ∨ l.isEmpty then none else some (t, divRound l.sum l.length)

/-- The resistances in µΩ that a step gives a die's taps: mean gated less mean ungated samples in nV, over the current in mA that the serving Dolly
measured (R188). -/
def tapResults (t : TapRun) (currents : List (Nat × Nat × Nat)) (d : SegDie) : List (Nat × Nat × Int) :=
  (tapServed d t.step).flatMap fun x =>
    let ma := ((currents.find? fun c => c.1 == d.code && c.2.1 == x.1).map (·.2.2)).getD 0
    [x.2 - 1, x.2].filterMap fun tap =>
      (t.sums.find? fun y => y.die == d.code && y.tap == tap).bind fun y =>
        if ma = 0 ∨ y.gatedN = 0 ∨ y.freeN = 0 then none
        else some (d.code, tap, divRound (y.gated * y.freeN - y.free * y.gatedN) (y.gatedN * y.freeN * ma))

/-- Result record of a die in CAL_TAPS (R200). -/
def tapResult (die n : Nat) : List Byte := le 1 die ++ le 1 n ++ zeros 2

/-- CAL_TAPS ends (R188, R191): the dies restart their filters, and what was measured is stored. -/
def finishTaps (s : State) (t : TapRun) : State :=
  let good := s.segs.filter fun d => t.dies.contains d.code && !t.failed.contains d.code
  let recs := good.flatMap fun d => (tapMeans t.found d).map fun x => calRecord s 2 d.code x.1 0 0 x.2
  let s := stopWhere s (fun x => x.hdr == some t.hdr) 0
  let s := (good.map (·.code)).foldl restartDie { s with cal := { s.cal with taps := none } }
  let r := t.dies.flatMap fun c => tapResult c (recs.filter fun x => x.die == c).length
  if t.failed.isEmpty && !recs.isEmpty then storeCal s recs (some t.hdr) r
  else
    let s := if recs.isEmpty then s else storeCal s recs none []
    completeOp s t.hdr (if t.failed.isEmpty then stOk else 0x86) r

/-- Dies of a run on which a Dolly has been withdrawn stop (R191). -/
def tapFailures (s : State) (t : TapRun) : List Nat :=
  t.dies.filter fun c => !t.failed.contains c && (s.die? c).any fun d => d.dollies.any fun y => !y.withdrawn.isEmpty

/-- The dies of a tap calibration whose conditions have failed leave it: their transfers end and they restart (R191). -/
def tapFail (t : TapRun) (s : State) (die : Nat) : State :=
  restartDie ([1, 2, 3, 4].foldl (fun s j =>
    if ((s.die? die).bind fun d => (d.dolly? j).bind (·.transfer)).any fun x => x.hdr == some t.hdr then endFree s die j 5 else s) s) die

/-- CAL_TAPS_STEP_END (R188, R191): a step of 2048 sweeps ends with the Dollies' measured currents; the next one starts, or the run completes. -/
def execCalTapsStepEnd (currents : List (Nat × Nat × Nat)) (s : State) : Host.Outcome State Fault Refusal :=
  .next <|
    match s.cal.taps with
    | none => s
    | some t =>
      let bad := tapFailures s t
      let s := bad.foldl (tapFail t) s
      let t := { t with failed := t.failed ++ bad }
      let s := { s with cal := { s.cal with taps := some t } }
      if t.live.isEmpty then finishTaps s t
      else if !t.started || decide (t.sweeps < 2048) then s
      else
        let found := t.found ++ (s.segs.filter fun d => t.live.contains d.code).flatMap (tapResults t currents)
        let t := { t with step := t.step + 1, stepAt := s.now, started := false, found := found }
        let s := stopWhere { s with cal := { s.cal with taps := some t } } (fun x => x.hdr == some t.hdr) 0
        if 6 ≤ t.step then finishTaps s t else tapStepStart s

/-- SET_TAP_RESISTANCE (R189, R192). -/
def execSetTapResistance (h : Hdr) (die tap value : Nat) (s : State) : Host.Outcome State Fault Refusal :=
  .next <| runCmd s h 0x0407 fun s => calCmd s h 0x0407 die fun _ =>
    startOp s h 0x0407 fun s => storeCal s [calRecord s 2 die tap 0 0 value] (some h) []

/-- The held records of a die and kind, in ascending order of INPUT, without the lost ones (R193, R201). -/
def heldCal (s : State) (die kind : Nat) : List CalRecord :=
  (List.range 32).filterMap fun i => s.nv.cal.find? fun r =>
    r.die == die && r.kind == kind && r.input == i && !s.cal.lost.contains (die, kind, calBitOf kind i)

/-- GET_CALIBRATION (R193, R200, R201). -/
def execGetCalibration (h : Hdr) (die kind fromIdx : Nat) (s : State) : Host.Outcome State Fault Refusal :=
  .next <| runCmd s h 0x0408 fun s =>
    if die = 1 ∧ s.part.hasM then refuse s h 0x0408 stRejected
    else if (s.die? die).isNone then refuse s h 0x0408 stNotFitted
    else
      let l := heldCal s die kind
      let r := (l.drop fromIdx).take 8
      let lost := (s.cal.lost.filter fun x => x.1 == die && x.2.1 == kind).foldl (fun a x => a ||| 2 ^ x.2.2) 0
      reply s h 0x0408 stOk (le 1 r.length ++ le 1 l.length ++ zeros 2 ++ le 4 lost ++ r.flatMap calBytes)

/-- CAL_ERASE (R193). -/
def execCalErase (h : Hdr) (die kind input : Nat) (s : State) : Host.Outcome State Fault Refusal :=
  .next <| runCmd s h 0x0409 fun s => calCmd s h 0x0409 die fun _ =>
    startOp s h 0x0409 fun s => flashPush s (.calErase die kind input h)

/-- Stored records wait for the boundary at which they apply; the last one carries the operation that completes there (R180, R185, R200).
Tap resistances complete with the store. -/
def calWait (s : State) (recs : List CalRecord) (h : Option Hdr) (result : List Byte) : State :=
  let taps := recs.any fun r => r.kind == 2
  let n := recs.length
  let recs := recs.map (stampCal s)
  let s := recs.foldl calStored s
  let s := { s with cal := { s.cal with
    waiting := s.cal.waiting ++ recs.zipIdx.map fun x => (x.1, if taps ∨ x.2 + 1 < n then none else h, s.now) } }
  let s := match (if taps then h else none) with
    | some x => completeOpFlash s x result
    | none => s
  if s.sweep.running || s.sweep.burst then s else applyCal s true

/-- What a finished flash job leaves (R19, R192, R392, R395, R407, R429). -/
def applyJob (s : State) (j : FlashJob) : State :=
  match j with
  | .dailies e => dailiesStore s e
  | .safetyImage p log =>
    let s := logAdd s log
    { s with nv := { s.nv with safety := some (p.image, p.gen) }, safety := { s.safety with applying := some p } }
  | .reactionTable t g => { s with nv := { s.nv with reaction := some (t, g) } }
  | .calRecords recs h result => calWait s recs h result
  | .calErase die kind input h =>
    let keep := fun r : CalRecord => !(r.kind == kind && r.die == die && r.input == input)
    completeOpFlash { s with
      nv := { s.nv with cal := s.nv.cal.filter keep, calB := s.nv.calB.filter keep }
      cal := { s.cal with
        live := s.cal.live.filter keep, waiting := s.cal.waiting.filter fun w => keep w.1
        lost := s.cal.lost.filter fun x => x != (die, kind, calBitOf kind input) } } h []

/-- FLASH_STEP_COMPLETE (R428): the step in progress ends; a watchdog reset that waited for it follows, with RESET_DEFERRED carried. -/
def execFlashStepComplete (s : State) : Host.Outcome State Fault Refusal :=
  .next <|
    match s.flash.jobs with
    | [] => s
    | j :: rest =>
      let s := applyJob { s with flash := { s.flash with jobs := rest, stepAt := s.now } } j
      match s.flash.deferred with
      | none => s
      | some t => partReset (carry s 10 0x8C ((s.now - t) / msT)) 1

end Sys2Proof.Machine
end

