-- ==== Sys2Proof/Machine/SenseRows.lean ====
section
/-! DEFINITION. The commands and events of the sense-path diagnostics: open-tap probes, the reference cross-check, the matrix and leakage
tests, thermistors (R210 to R230). -/
namespace Sys2Proof.Machine

/-- SET_OPEN_TAP (R217, R220). -/
def execSetOpenTap (h : Hdr) (mode otperiod jumpthr : Nat) (s : State) : Host.Outcome State Fault Refusal :=
  .next <| runCmd s h 0x0B01 fun s => switchCmd s h 0x0B01 0x0B01 (.openTap mode otperiod jumpthr)

/-- PROBE_TAP (R220, R228, R229): its reply comes with the verdict. A second one while the die's first waits finds the die busy. Outside RUN it answers
REJECTED_STATE whatever die it names (DESIGN CHOICE, log 116). -/
def execProbeTap (h : Hdr) (die tap : Nat) (s : State) : Host.Outcome State Fault Refusal :=
  .next <| runCmd s h 0x0B02 fun s =>
    if s.power.state ≠ .run then refuse s h 0x0B02 stRejected
    else
      match s.die? die with
      | none => refuse s h 0x0B02 stNotFitted
      | some d =>
        if !s.sense.stepped then refuse s h 0x0B02 0x80
        else if tapInUse d tap then refuse s h 0x0B02 0x82
        else if d.probeWait.isSome ∨ d.probe.any fun p => p.hdr.isSome then refuse s h 0x0B02 stBusy
        else s.updDie die fun d => { d with probeWait := some (h, tap, 0) }

/-- A list of numbers as a mask. -/
def maskOf (l : List Nat) : Nat := l.foldl (fun a k => a ||| 2 ^ k) 0

/-- The 20 bytes of a die in GET_SENSE_STATUS (R228). -/
def senseRecord (s : State) (d : SegDie) : List Byte :=
  let trips := fun f : Comp → Bool => maskOf ((d.comps.zipIdx.filter fun p => f p.1).map (·.2))
  le 1 d.code ++ le 1 (b2n s.sense.stepped + 2 * b2n (!s.sense.stepped && (decide (d.nextTap ≠ 0) || d.probe.isSome)) + 4 * b2n d.substituted) ++
    le 1 d.suspects.length ++ [0] ++ le 4 (maskOf d.openTaps) ++ le 4 (trips (·.ovTrip)) ++ le 4 (trips (·.uvTrip)) ++ leInt 2 d.refErr ++
    le 1 (maskOf ((d.thermOpen ++ d.thermShort).map (· - 24))) ++ [0]

/-- GET_SENSE_STATUS (R228). -/
def execGetSenseStatus (h : Hdr) (s : State) : Host.Outcome State Fault Refusal :=
  .next <| runCmd s h 0x0B03 fun s => reply s h 0x0B03 stOk (s.segs.flatMap (senseRecord s))

/-- The result of a test run per die and group, in order, with what an untested group reads (R228). -/
def runBytes (r : TestRun) : List Byte :=
  r.dies.flatMap fun c => le 1 c ++ zeros 3 ++ [1, 2, 3, 4].flatMap fun g =>
    ((r.results.find? fun x => x.1 == c && x.2.1 == g).map (·.2.2)).getD (if r.leak then [0xFF, 0xFF] else zeros 4)

/-- A run with every group's result completes. -/
def finishRuns (s : State) : State :=
  let done := s.sense.runs.filter fun r => decide (4 * r.dies.length ≤ r.results.length)
  done.foldl (fun s r => completeOp { s with sense := { s.sense with runs := s.sense.runs.filter fun x => x.hdr != r.hdr } } r.hdr stOk (runBytes r)) s

/-- A group's test has a result: the runs that wait for it take it. -/
def noteTest (s : State) (die group : Nat) (leak : Bool) (b : List Byte) : State :=
  finishRuns { s with sense := { s.sense with
    runs := upd s.sense.runs (fun r => r.leak == leak && r.dies.contains die && !(r.results.any fun x => x.1 == die && x.2.1 == group))
      fun r => { r with results := r.results ++ [(die, group, b)] } } }

/-- A test of a group starts (R222, R224). -/
def startGroup (s : State) (die group : Nat) (leak : Bool) : State :=
  s.updDolly die group fun y => { y with
    test := some { group := group, leak := leak, step := 0, result := 0, tap := 0, rail := 0, at_ := s.now } }

/-- One group in a test command: tested, or reported as active, withdrawn or not tested (R228, R229). -/
def commandGroup (leak : Bool) (die : Nat) (s : State) (group : Nat) : State :=
  match (s.die? die).bind (·.dolly? group) with
  | none => s
  | some y =>
    let no := fun r : Byte => noteTest s die group leak (if leak then [0xFF, 0xFF] else [r, 0, 0, 0])
    if y.transfer.isSome then no 3 else if !y.withdrawn.isEmpty then no 4 else startGroup s die group leak

/-- Is a test running on some group of the dies of a mask? -/
def testsRun (s : State) (mask : Nat) : Bool := s.segs.any fun d => bit mask d.code && d.dollies.any fun y => y.test.isSome

/-- A test command starts on the dies of its mask. -/
def startRun (s : State) (h : Hdr) (leak : Bool) (mask : Nat) : State :=
  let dies := (s.segs.filter fun d => bit mask d.code).map (·.code)
  let s := { s with sense := { s.sense with runs := s.sense.runs ++ [{ hdr := h, leak := leak, dies := dies, results := [] }] } }
  finishRuns (dies.foldl (fun s c => [1, 2, 3, 4].foldl (commandGroup leak c) s) s)

/-- RUN_MATRIX_TEST (R222, R228, R229). -/
def execRunMatrixTest (h : Hdr) (dieMask : Nat) (s : State) : Host.Outcome State Fault Refusal :=
  .next <| runCmd s h 0x0B04 fun s =>
    if s.power.state ≠ .run then refuse s h 0x0B04 stRejected
    else if maskAbsent s dieMask then refuse s h 0x0B04 stNotFitted
    else if testsRun s dieMask then refuse s h 0x0B04 stBusy
    else startOp s h 0x0B04 fun s => startRun s h false dieMask

/-- RUN_LEAKAGE_TEST (R224, R228, R229): its limits also become those of the tests in hardware mode. -/
def execRunLeakageTest (h : Hdr) (dieMask leakthr cin : Nat) (s : State) : Host.Outcome State Fault Refusal :=
  .next <| runCmd s h 0x0B05 fun s =>
    if s.power.state ≠ .run then refuse s h 0x0B05 stRejected
    else if maskAbsent s dieMask then refuse s h 0x0B05 stNotFitted
    else if testsRun s dieMask then refuse s h 0x0B05 stBusy
    else startOp s h 0x0B05 fun s => startRun { s with sense := { s.sense with leakThr := leakthr, cin := cin } } h true dieMask

/-- SET_THERMISTORS (R226): the counts of consecutive Slates start afresh. A DIE that is no segment die answers NOT_FITTED (DESIGN CHOICE, log 118). -/
def execSetThermistors (h : Hdr) (die mask openlim shortlim : Nat) (s : State) : Host.Outcome State Fault Refusal :=
  .next <| runCmd s h 0x0B06 fun s =>
    match s.die? die with
    | none => refuse s h 0x0B06 stNotFitted
    | some _ =>
      reply (s.updDie die fun d => { d with
        thermMask := mask, openLim := openlim, shortLim := shortlim, thermCnt := List.replicate 8 (0, 0, 0, 0)
        thermOpen := d.thermOpen.filter fun i => bit mask (i - 24), thermShort := d.thermShort.filter fun i => bit mask (i - 24) }) h 0x0B06 stOk []

/-- A span or land reading at the resolution of its 4:1 range, in µV (R97). -/
def spanReading (uv : Int) : Int := clamp 0 4095 (uv * 4096 / 10000000) * 10000000 / 4096

/-- A cell reading at the resolution of the diagnostic cell range, in µV (R97). -/
def cellReading (uv : Int) : Int := diagNv uv / 1000

/-- The readings of one probe step as the converter gives them; the cell on the missing side of an end tap reads 0 (R215, R228). -/
def probeReading (d : SegDie) (tap : Nat) (r : ProbeReading) : ProbeReading :=
  { cellM := if tap = 0 then 0 else cellReading r.cellM, cellM1 := if d.cells ≤ tap then 0 else cellReading r.cellM1, span := spanReading r.span }

/-- The tap that the next probe of a die takes (R210, R217, R218, R220): PROBE_TAP's, a suspect, or the next of the schedule; taps that a transfer
uses wait. The Boolean says whether it is the schedule's. In host-stepped mode only the probes of PROBE_TAP and of a clear run. -/
def nextProbe (s : State) (d : SegDie) : Option (Nat × Bool) :=
  match d.probeWait.filter fun w => !tapInUse d w.2.1 with
  | some w => some (w.2.1, false)
  | none =>
    match d.suspects.filter fun t => !tapInUse d t && (!s.sense.stepped || clearProbes s d.code t) with
    | t :: _ => some (t, false)
    | [] => if cycleDue s d && !tapInUse d d.nextTap && d.probeAt.all (fun t => decide (t + 10 * msT ≤ s.now)) then some (d.nextTap, true) else none

/-- Does the pack current change by more than 2 A within 1 ms, by the current samples at the dies (R217)? -/
def currentJumps (s : State) : Bool :=
  let l := (s.ring.current.filter fun x => decide (s.packTime < x.at_ + msT)).map (·.ma)
  l.any fun a => l.any fun b => decide (2000 < a - b)

/-- Can a die probe now (R217, R446)? -/
def canProbe (s : State) (d : SegDie) : Bool :=
  s.power.state == .run && d.probe.isNone && !d.test.running && !d.unpowered && !d.cutOff && !d.stopped && !currentJumps s

/-- The readings of one probe step gate the Dollies of the die at their instant (R213). -/
def probeGates (s : State) (die tap : Nat) (t : Tick) : State := noteGateAt (noteGateAt s die tap 2 t) die (tap + 1) 2 t

/-- OPEN_TAP_PROBE_START (R213, R217): the schedule's probes start 10 ms apart. -/
def execOpenTapProbeStart (die : Nat) (baseline : ProbeReading) (current : Int) (s : State) : Host.Outcome State Fault Refusal :=
  onDie s die fun d =>
    if !canProbe s d then s
    else
      match nextProbe s d with
      | none => s
      | some (t, sched) =>
        let w := d.probeWait.filter fun w => !tapInUse d w.2.1
        probeGates (s.updDie die fun d => { d with
          probe := some { tap := t, baseline := probeReading d t baseline, current := current, startedAt := s.now, sched := sched
                          hdr := w.map (·.1), retries := (w.map (·.2.2)).getD 0 }
          probeWait := if w.isSome then none else d.probeWait, suspects := if w.isSome || sched then d.suspects else d.suspects.filter (· != t)
          probeAt := if sched then some s.now else d.probeAt
          cycleAt := if sched && decide (d.nextTap = 0) then some s.now else d.cycleAt
          nextTap := if sched then (d.nextTap + 1) % (d.cells + 1) else d.nextTap }) die t s.now

/-- The verdict of a probe (R214, R215): 0 CONNECTED, 1 OPEN, 2 INCONCLUSIVE. -/
def probeVerdict (d : SegDie) (p : Probe) (check : ProbeReading) : Nat :=
  let dm := check.cellM - p.baseline.cellM
  let dm1 := check.cellM1 - p.baseline.cellM1
  let ds := check.span - p.baseline.span
  let low := decide (p.tap = 0) || decide (dm ≤ -100000)
  let high := decide (d.cells ≤ p.tap) || decide (100000 ≤ dm1)
  if low && high && decide (ds.natAbs ≤ 15000) then 1
  else if dm.natAbs < 30000 ∧ dm1.natAbs < 30000 then 0 else 2

/-- The bytes of the readings of one probe step (R228). -/
def readingBytes (r : ProbeReading) : List Byte := leInt 4 r.cellM ++ leInt 4 r.cellM1 ++ leInt 4 r.span

/-- The latest main-converter sample of a cell in µV, not counting stand-ins. -/
def latestMain (d : SegDie) (cell : Nat) : Option Int :=
  ((nth d.hist (cell - 1) []).find? fun x => !x.probed && !x.noData && !x.sub).map fun x => x.raw / 1000

/-- A suspect cell with both taps connected is judged (R219): a real change, or three more continuity comparisons to see. -/
def judgeCell (s : State) (die cell : Nat) (restore : Int) : State :=
  match s.die? die with
  | none => s
  | some d =>
    if !(d.suspectCells.contains (cell, 0) && d.connected.contains (cell - 1) && d.connected.contains cell) then s
    else if (latestMain d cell).any fun v => decide ((restore - v).natAbs ≤ 15000) then
      raise (s.updDie die fun d => { d with suspectCells := d.suspectCells.filter fun x => x.1 != cell }) die 8 0x94 (partCell s die cell)
    else s.updDie die fun d => { d with suspectCells := (d.suspectCells.filter fun x => x.1 != cell) ++ [(cell, 3)] }

/-- A CONNECTED verdict (R214, R218, R219). For a clear that probes the tap again, it counts as whole. -/
def tapConnected (s : State) (die tap : Nat) (restore : ProbeReading) : State :=
  let s := s.updDie die fun d => { d with
    inconclusive := d.inconclusive.set tap 0, connected := if d.connected.contains tap then d.connected else d.connected ++ [tap]
    openTaps := if clearProbes s die tap then d.openTaps.filter (· != tap) else d.openTaps }
  judgeCell (judgeCell s die tap restore.cellM) die (tap + 1) restore.cellM1

/-- An OPEN verdict (R218). -/
def tapOpen (s : State) (die tap : Nat) : State :=
  raise (s.updDie die fun d => { d with inconclusive := d.inconclusive.set tap 0, connected := d.connected.filter (· != tap) }) die 8 0x93 tap

/-- An INCONCLUSIVE verdict (R218). -/
def tapUnclear (s : State) (die tap : Nat) : State :=
  let n := ((s.die? die).map fun d => nth d.inconclusive tap 0).getD 0 + 1
  let s := s.updDie die fun d => { d with inconclusive := d.inconclusive.set tap (if 3 ≤ n then 0 else n) }
  if 3 ≤ n then raise s die 8 0x9E tap else s

/-- A probe that saw the pack current change is tried again at the next opportunity; PROBE_TAP gives up after three retries (R214, R229). -/
def probeRetry (s : State) (die : Nat) (p : Probe) : State :=
  let s := s.updDie die fun d => { d with probe := none }
  match p.hdr with
  | some h =>
    if 3 ≤ p.retries then refuse s h 0x0B02 0x81 else s.updDie die fun d => { d with probeWait := some (h, p.tap, p.retries + 1) }
  | none => s.updDie die fun d =>
    if p.sched then { d with nextTap := p.tap, cycleAt := if p.tap = 0 then none else d.cycleAt } else { d with suspects := p.tap :: d.suspects }

/-- OPEN_TAP_VERDICT (R213 to R219, R228): the restore reading comes 444 µs after the probe's start. -/
def execOpenTapVerdict (die : Nat) (check restore : ProbeReading) (current : Int) (s : State) : Host.Outcome State Fault Refusal :=
  onDie s die fun d =>
    match d.probe with
    | none => s
    | some p =>
      if s.now < p.startedAt + 444 * usT then s
      else
      let s := probeGates (probeGates s die p.tap (p.startedAt + 220 * usT)) die p.tap (p.startedAt + 444 * usT)
      if 2000 < (current - p.current).natAbs then finishClear (probeRetry s die p)
      else
        let c := probeReading d p.tap check
        let r := probeReading d p.tap restore
        let v := probeVerdict d p c
        let s := s.updDie die fun d => { d with probe := none }
        let s := if v = 0 then tapConnected s die p.tap r else if v = 1 then tapOpen s die p.tap else tapUnclear s die p.tap
        let s := match p.hdr with
          | some h => reply s h 0x0B02 stOk (readingBytes p.baseline ++ readingBytes c ++ readingBytes r ++ le 1 v ++ zeros 3)
          | none => s
        finishClear s

/-- REF_XCHECK_BLOCK (R221): at the end of 256 sweeps the die judges its two converters against each other. A block that ran substituted in part gives
no result. An excess starts the self-test at once, or as soon as the die can run one. -/
def execRefXcheckBlock (die : Nat) (s : State) : Host.Outcome State Fault Refusal :=
  onDie s die fun d =>
    if d.xcSweeps < 256 then s
    else
      let s := s.updDie die fun d => { d with xcD := 0, xcM := 0, xcPairs := 0, xcSweeps := 0, xcSub := false }
      if d.xcSub ∨ d.xcPairs < 64 ∨ d.xcM ≤ 0 then s
      else
        let s := s.updDie die fun d' => { d' with refErr := divRound ((d.xcD - d.xcM) * 100000) d.xcM.toNat }
        if 25 * d.xcM.toNat < (d.xcD - d.xcM).natAbs * 10000 then
          if canTest s d then startXcheck s die else s.updDie die fun d => { d with xcWait := true }
        else s

/-- How a matrix step that shows a span names its stuck switch: tap and rail (R222; log entry 52). The closed switch of a single-switch step
is the k-th of the 14: lower then upper rail of each tap from the lowest. -/
def stuckSwitch (group k seen : Nat) : Nat × Nat :=
  let tap := 6 * group - 6 + k / 2
  if seen = 0 then (tap, k % 2) else if k % 2 = 1 then (seen - 1, 0) else (seen, 1)

/-- The failure of one matrix step, if it fails (R222): result, tap, rail. `seen` is the cell whose voltage `vcs` matches, 0 for none; how a cell step
that matches no span fails is a free choice (log entry 52). -/
def matrixStep (d : SegDie) (group step vcs seen : Nat) : Option (Nat × Nat × Nat) :=
  if step = 1 then (if vcs < 50 then none else some (2, if seen = 0 then 6 * group - 6 else seen, b2n (seen != 0)))
  else if step ≤ 7 then
    let c := 6 * group - 6 + (step - 1)
    let v := cellMv d c
    if vcs ≤ v + 50 ∧ v ≤ vcs + 50 then none
    else if vcs < 50 then some (1, c, 1)
    else some (if seen = 0 && Config.matrixUnmatched vcs v then 1 else 2, if seen = 0 ∨ seen = c then c else seen, 1)
  else if vcs < 50 then none
  else
    let w := stuckSwitch group (step - 8) seen
    some (2, w.1, w.2)

/-- A matrix test has run its 21 steps (R222, R223, R225): its result is recorded; a scheduled pair goes on to the leakage test, which closes switches
and so waits after MATRIX_STUCK_CLOSED. A pass lifts what the clear that ran the test may lift. -/
def matrixEnd (s : State) (die group : Nat) (t : GroupTest) : State :=
  let due := ((s.die? die).bind (·.dolly? group)).any (·.testDue)
  let lifted := (clearCauses s die).filter fun c => (c.kind == 0x99 || c.kind == 0x9A) && c.detail / 256 == group
  let s := s.updDolly die group fun y => { y with
    test := none, testedAt := some s.now, used := false
    withdrawn := if t.result = 0 then y.withdrawn.filter fun k => !lifted.any fun c => c.kind == k else y.withdrawn }
  let s := if t.result = 0 then s
    else raise s die 7 (if t.result = 1 then 0x99 else 0x9A) (256 * group + t.tap + 128 * t.rail)
  let s := noteTest s die group false (le 1 t.result ++ le 1 t.tap ++ le 1 t.rail ++ [0])
  finishClear (if due ∧ t.result ≠ 2 then startGroup s die group true else s)

/-- MATRIX_TEST_STEP (R222): a step lasts 0.5 ms. -/
def execMatrixTestStep (die group vcs seen : Nat) (s : State) : Host.Outcome State Fault Refusal :=
  onDie s die fun d =>
    match (d.dolly? group).bind (·.test) with
    | none => s
    | some t =>
      if t.leak ∨ s.now < t.at_ + 500 * usT then s
      else
        let t := { t with step := t.step + 1, at_ := s.now }
        let t : GroupTest := match (if t.result = 0 then matrixStep d group t.step vcs seen else none) with
          | some r => { t with result := r.1, tap := r.2.1, rail := r.2.2 }
          | none => t
        if 21 ≤ t.step then matrixEnd s die group t else s.updDolly die group fun y => { y with test := some t }

/-- LEAKAGE_TEST_END (R224): 1 ms of charging and 50 ms of waiting after its start. -/
def execLeakageTestEnd (die group v0 v1 : Nat) (s : State) : Host.Outcome State Fault Refusal :=
  onDie s die fun d =>
    match (d.dolly? group).bind (·.test) with
    | none => s
    | some t =>
      if !t.leak ∨ s.now < t.at_ + 51 * msT then s
      else
        let leak := s.sense.cin * (v0 - v1) / 500
        let s := s.updDolly die group fun y => { y with test := none, testedAt := some s.now, testDue := false, used := false }
        let s := if 500 * s.sense.leakThr < s.sense.cin * (v0 - v1) then raise s die 7 0x9B (4096 * group + min 4095 leak) else s
        noteTest s die group true (le 2 (min 0xFFFE leak))

/-- GROUP_TEST_DUE (R225): at entry into RUN, and every hour on a group that has been idle; a busy group is tested at its next idle moment. -/
def execGroupTestDue (die group : Nat) (s : State) : Host.Outcome State Fault Refusal :=
  onDie s die fun d =>
    match d.dolly? group with
    | none => s
    | some y =>
      if s.sense.stepped || s.power.state != .run || d.unpowered || d.stopped then s
      else if !(y.testDue || y.testedAt.all fun t => !y.used && decide (t + 3600 * secT ≤ s.now)) then s
      else
        let s := s.updDolly die group fun y => { y with testDue := true }
        if y.transfer.isSome || y.test.isSome || !y.withdrawn.isEmpty then s else startGroup s die group false

end Sys2Proof.Machine
end

