-- ==== Sys2Proof/Machine/DollyRows.lean ====
section
/-! DEFINITION. The commands and events of the Dollies, balancing, the planner and sleep balancing (R232 to R260). -/
namespace Sys2Proof.Machine

/-- Does the latest reading of a cell already meet the end guard for a mode (R240, R249)? -/
def meetsGuard (s : State) (d : SegDie) (mode cell : Nat) : Bool :=
  let v := cellUv d cell
  (mode != 1 && decide ((s.balance.cellHi : Int) ≤ v)) || (mode != 2 && decide (v ≤ (s.balance.cellLo : Int)))

/-- SET_SPANS (R235, R236, R258, R259). Outside RUN it answers REJECTED_STATE whatever dies it names (DESIGN CHOICE, log 116). -/
def execSetSpans (h : Hdr) (entries : List SpanEntry) (s : State) : Host.Outcome State Fault Refusal :=
  .next <| runCmd s h 0x0501 fun s =>
    if s.power.state ≠ .run then refuse s h 0x0501 stRejected
    else if entries.any fun e => (s.die? e.die).isNone then refuse s h 0x0501 stNotFitted
    else if entries.any fun e => decide (e.straddle % 16 ≠ 0) && (dieAbove s e.die).isNone then refuse s h 0x0501 0x82
    else if entries.any fun e => (s.die? e.die).any fun d => d.dollies.any fun y => y.transfer.isSome then refuse s h 0x0501 0x86
    else
      let s := entries.foldl (fun s e => s.updDie e.die fun d => { d with
        dollies := d.dollies.zipIdx.map fun p => { p.1 with straddle := bit e.straddle p.2, fsw := e.fsw } }) s
      reply s h 0x0501 stOk []

/-- SET_GOAL (R243). -/
def execSetGoal (h : Hdr) (goal imax target band horizon : Nat) (s : State) : Host.Outcome State Fault Refusal :=
  .next <| runCmd s h 0x0502 fun s =>
    if s.power.state ≠ .run then refuse s h 0x0502 stRejected
    else switchCmd s h 0x0502 0x0502 (.goal goal imax target band horizon)

/-- Replace list elements from an index on. -/
def setFrom {α : Type} (l : List α) (k : Nat) (vs : List α) : List α := vs.zipIdx.foldl (fun l v => l.set (k + v.2) v.1) l

/-- SET_CELL_CAPACITY (R243). -/
def execSetCellCapacity (h : Hdr) (first : Nat) (values : List Nat) (s : State) : Host.Outcome State Fault Refusal :=
  .next <| runCmd s h 0x0503 fun s =>
    if rangeUnmapped s first values.length then refuse s h 0x0503 stNotFitted
    else reply { s with balance := { s.balance with dqdv := setFrom s.balance.dqdv (first - 1) values } } h 0x0503 stOk []

/-- SET_CHARGE_GOAL (R243). Outside RUN it answers REJECTED_STATE whatever cells it names (DESIGN CHOICE, log 116). -/
def execSetChargeGoal (h : Hdr) (first : Nat) (values : List Int) (s : State) : Host.Outcome State Fault Refusal :=
  .next <| runCmd s h 0x0504 fun s =>
    if s.power.state ≠ .run then refuse s h 0x0504 stRejected
    else if rangeUnmapped s first values.length then refuse s h 0x0504 stNotFitted
    else reply { s with balance := { s.balance with charge := setFrom s.balance.charge (first - 1) values } } h 0x0504 stOk []

/-- SET_BALANCE_MODE (R248). -/
def execSetBalanceMode (h : Hdr) (mode : Nat) (s : State) : Host.Outcome State Fault Refusal :=
  .next <| runCmd s h 0x0505 fun s =>
    if s.power.state ≠ .run then refuse s h 0x0505 stRejected else switchCmd s h 0x0505 0x0505 (.balanceMode mode)

/-- Why a transfer of a Dolly cannot start, as the status of an order (R232, R239, R249, R252; log entry 54). -/
def orderBlock (s : State) (d : SegDie) (j : Nat) (y : Dolly) (mode cell : Nat) : Option Nat :=
  if !y.withdrawn.isEmpty then some 0x80
  else if dollyHeld s d j then some 0x83
  else if !inGroup d j cell then some 0x87
  else if meetsGuard s d mode cell then some 0x84
  else if cellTripped d cell || y.thermal || !cellStartable d cell || !spanInside s d y.straddle (spanMv s d y.straddle) ||
      d.unpowered || d.stopped || d.stopping then some stRejected
  else none

/-- A transfer begins; one that runs is replaced (R239, R248). -/
def startTransfer (s : State) (die j : Nat) (t : DollyTransfer) : State :=
  let s := (endFree s die j 3).updDolly die j fun y => { y with transfer := some { t with ranAt := s.now }, waits := false }
  if t.mode = 3 then s else dollyChanged s die

/-- Is a transfer the work of what holds its Dolly: a MODULATE or a tap calibration (R242, R266)? A stop order leaves it (log entry 143). -/
def DollyTransfer.holds (t : DollyTransfer) : Bool := t.mode == 3 || t.hdr.isSome

/-- DOLLY_ORDER (R248, R249, R258, R259). Outside RUN it answers REJECTED_STATE whatever die it names (DESIGN CHOICE, log 116). -/
def execDollyOrder (h : Hdr) (die dolly mode cell iset duration qlimit : Nat) (s : State) : Host.Outcome State Fault Refusal :=
  .next <| runCmd s h 0x0506 fun s =>
    if s.power.state ≠ .run then refuse s h 0x0506 stRejected
    else
      match s.die? die with
      | none => refuse s h 0x0506 stNotFitted
      | some d =>
        if !s.balance.hostMode then refuse s h 0x0506 0x81
        else
          match d.dolly? dolly with
          | none => refuse s h 0x0506 0x87
          | some y =>
            if mode = 0 then
              if !y.withdrawn.isEmpty then refuse s h 0x0506 0x80
              else if y.transfer.any (·.holds) then refuse s h 0x0506 0x83
              else reply (endFree s die dolly 3) h 0x0506 stOk (zeros 4 ++ le 8 s.packTime)
            else
              match orderBlock s d dolly y mode cell with
              | some st => refuse s h 0x0506 st
              | none =>
                let run := min iset (dieLimit s d)
                let t : DollyTransfer :=
                  { mode := mode, cell := cell, set_ := iset, running := run, start := s.packTime, endAt := s.now + duration * msT, lease := false
                    qlimit := qlimit, freq := 0, iamp := 0, t0 := 0, hdr := none, remain := none, check := false }
                reply (startTransfer s die dolly t) h 0x0506 stOk (le 2 run ++ zeros 2 ++ le 8 s.packTime)

/-- SET_DOLLY_LIMITS (R240, R247). -/
def execSetDollyLimits (h : Hdr) (cellhi celllo lease : Nat) (s : State) : Host.Outcome State Fault Refusal :=
  .next <| runCmd s h 0x0507 fun s =>
    reply { s with balance := { s.balance with cellHi := cellhi, cellLo := celllo, lease := lease } } h 0x0507 stOk []

/-- Does an auxiliary input of a die hold a calibration with UNIT 2 (R251)? -/
def tempCal (s : State) (die input : Nat) : Bool :=
  (s.die? die).any fun d => (auxCal s d input).any fun r => r.modegr / 16 % 4 == 2

/-- SET_DERATING (R250, R251). -/
def execSetDerating (h : Hdr) (mode : Nat) (entries : List DerateEntry) (s : State) : Host.Outcome State Fault Refusal :=
  .next <| runCmd s h 0x0508 fun s =>
    if s.power.state ≠ .run then refuse s h 0x0508 stRejected
    else if entries.any fun e => (s.die? e.die).isNone then refuse s h 0x0508 stNotFitted
    else if entries.any fun e => decide (e.therm ≠ 0) && !tempCal s e.die e.therm then refuse s h 0x0508 0x85
    else switchCmd s h 0x0508 0x0508 (.derating mode entries)

/-- SET_SLEEP_BALANCE (R256). -/
def execSetSleepBalance (h : Hdr) (enable period target band isleep maxawake : Nat) (s : State) : Host.Outcome State Fault Refusal :=
  .next <| runCmd s h 0x0509 fun s =>
    reply { s with balance := { s.balance with
      sleepOn := enable != 0, sleepPeriod := period, sleepTarget := target, sleepBand := band, isleep := isleep, maxAwake := maxawake } }
      h 0x0509 stOk []

/-- The duty while sweeps are stopped, as a fraction: 1 less the gates of the guard groups over the last 1 ms (R125, R126, R238). -/
def dutyStopped (now : Tick) (d : SegDie) (cell : Nat) : Nat × Nat :=
  let g := (d.gates.filter fun g => decide (now < g.1 + msT) && g.2.2 == 0 && meetsCell cell g.2.1).map (·.1)
  if d.compensated then (1, 1) else (msT - gatedTime 400 none g, msT)

/-- The duty of a Dolly that serves a cell, as a fraction (R238). -/
def dollyDuty (s : State) (d : SegDie) (cell : Nat) : Nat × Nat :=
  match (if s.sweep.running then s.sweep.intervals.head? else none) with
  | some i => dutyOf d s.sweep.hostSched s.sweep.lead cell i
  | none => dutyStopped s.now d cell

/-- STATE of a Dolly in GET_PLAN (R258). -/
def dollyState (s : State) (d : SegDie) (j : Nat) (y : Dolly) : Nat :=
  if y.transfer.isSome then 1 else if !y.withdrawn.isEmpty then 3 else if y.thermal then 4 else if dollyHeld s d j then 2
  else if y.waits then 5 else 0

/-- The charge that a transfer has still to move in mAs, positive to remove, where it is known (R243, R258): as the planner put it, or the charge limit
of an order less what its delivered current has moved (log entry 142). -/
def remainOf (s : State) (d : SegDie) (t : DollyTransfer) : Option Int :=
  if t.lease then t.remain
  else if t.qlimit = 0 then none
  else
    let duty := dollyDuty s d t.cell
    let left : Int := (t.qlimit - (t.ran + t.running * (s.now - t.ranAt)) * duty.1 / (duty.2 * secT) : Nat)
    some (if t.mode = 2 then -left else left)

/-- The running current of a transfer in mA at a pack time: a MODULATE's peak rises linearly from zero over the first settling period of its point, or
of its order (R258, R265). -/
def DollyTransfer.peakAt (t : DollyTransfer) (at_ : Nat) : Nat :=
  if t.mode ≠ 3 then t.running
  else min t.running (t.running * ((at_ - if t.hdr.isSome then t.start else t.t0) * t.freq) / 10 ^ 11)

/-- One record of GET_PLAN (R258). -/
def planRecord (s : State) (d : SegDie) (j : Nat) (y : Dolly) : List Byte :=
  let a := le 1 j ++ le 1 (dollyState s d j y)
  match y.transfer with
  | some t =>
    let duty := dollyDuty s d t.cell
    a ++ le 1 t.mode ++ le 1 (partCell s d.code t.cell) ++ le 1 (b2n y.straddle) ++ leInt 1 (divRound (255 * duty.1) duty.2) ++ le 2 (t.peakAt s.packTime) ++
      leInt 2 (divRound (t.peakAt s.packTime * duty.1) duty.2) ++
      le 2 (dieLimit s d) ++ leInt 4 ((remainOf s d t).getD (-0x80000000))
  | none => a ++ zeros 2 ++ le 1 (b2n y.straddle) ++ zeros 5 ++ le 2 (dieLimit s d) ++ zeros 4

/-- GET_PLAN (R258). A DIE that is no segment die answers NOT_FITTED (DESIGN CHOICE, log 118). -/
def execGetPlan (h : Hdr) (die : Nat) (s : State) : Host.Outcome State Fault Refusal :=
  .next <| runCmd s h 0x050A fun s =>
    match s.die? die with
    | none => refuse s h 0x050A stNotFitted
    | some d => reply s h 0x050A stOk (d.dollies.zipIdx.flatMap fun p => planRecord s d (p.2 + 1) p.1)

/-- GET_BALANCE_STATUS (R258). A DIE that is no segment die answers NOT_FITTED (DESIGN CHOICE, log 118). -/
def execGetBalanceStatus (h : Hdr) (die : Nat) (s : State) : Host.Outcome State Fault Refusal :=
  .next <| runCmd s h 0x050B fun s =>
    match s.die? die with
    | none => refuse s h 0x050B stNotFitted
    | some d =>
      let b := s.balance
      reply s h 0x050B stOk
        (le 1 die ++ le 1 (maskOf ((d.dollies.zipIdx.filter fun p => !p.1.withdrawn.isEmpty).map (·.2))) ++
          le 1 (if b.imax = 0 then 100 else min 100 (d.limit * 100 / b.imax)) ++
          le 1 (b2n b.hostMode + 2 * b2n b.hostCaps + 4 * b2n b.sleepOn) ++ le 4 d.sleep.wakes ++ le 4 d.sleep.seconds ++
          le 4 (nth b.shortfall (die - 2) 0) ++ d.dollies.flatMap (fun y => le 4 y.moved) ++ le 4 (d.lossMj / 1000) ++ le 2 b.recDrop ++ zeros 2)

/-- What the planner knows on a Slate: excess of each part cell with data, in µV, or in mAs under the goal CHARGE (R243; log entry 55). -/
def excesses (s : State) (t : Take) : List (Nat × Int) :=
  let vs := cellValues s t
  if s.balance.goal = 1 then vs.map fun x => (x.1, x.2 - s.balance.target)
  else if s.balance.goal = 2 then
    let m := divRound ((vs.map (·.2)).sum) vs.length
    vs.map fun x => (x.1, x.2 - m)
  else if s.balance.goal = 3 then vs.map fun x => (x.1, nth s.balance.charge (x.1 - 1) 0)
  else []

/-- BAND as the excesses of the goal count it (log entry 55). -/
def bandOf (s : State) : Int := if s.balance.goal = 3 then 0 else s.balance.band

/-- The charge need of a part cell in mAs, none without an estimate (R243): excess in µV times 0.1 mAh/mV. -/
def needOf (s : State) (cell : Nat) (e : Int) : Option Int :=
  if s.balance.goal = 3 then some e
  else
    let c := nth s.balance.dqdv (cell - 1) 0
    if c = 0 then none else some (divRound (e * c * 36) 100)

/-- The mean excess over the cells of a span that carry data (R244 rule 4). -/
def meanExcess (es : List (Nat × Int)) (cells : List Nat) : Int :=
  let l := cells.filterMap fun c => es.lookup c
  divRound l.sum l.length

/-- Is an excess a candidate's (R243)? -/
def isCandidate (s : State) (e : Int) : Bool := if s.balance.goal = 3 then decide (e ≠ 0) else decide (bandOf s < (e.natAbs : Int))

/-- The candidates of a group: die-local cell and excess. -/
def candidates (s : State) (d : SegDie) (j : Nat) (es : List (Nat × Int)) : List (Nat × Int) :=
  (List.range 6).filterMap fun k =>
    let c := 6 * j - 5 + k
    if !inGroup d j c || cellTripped d c || !cellStartable d c then none
    else (es.lookup (partCell s d.code c)).bind fun e =>
      if isCandidate s e && !meetsGuard s d (if 0 < e then 1 else 2) c then some (c, e) else none

/-- The candidate that a group serves first (R244 rule 2): the largest need where every candidate has one, else the largest excess. -/
def pickCandidate (s : State) (d : SegDie) (l : List (Nat × Int)) : Option (Nat × Int) :=
  let byNeed := l.all fun x => (needOf s (partCell s d.code x.1) x.2).isSome
  let key := fun x : Nat × Int => if byNeed then ((needOf s (partCell s d.code x.1) x.2).getD 0).natAbs else x.2.natAbs
  l.foldl (fun a x => match a with
    | none => some x
    | some y => if key y < key x then some x else some y) none

/-- Does the gradient between a cell and its span let the transfer start (R244 rule 4)? -/
def gradientOk (s : State) (e mean : Int) : Bool := if 0 < e then decide (mean < e - bandOf s) else decide (e + bandOf s < mean)

/-- Time left to the goal's horizon in ticks; none without a horizon (R243). -/
def horizonLeft (s : State) : Option Nat := if s.balance.horizon = 0 then none else some (s.balance.goalAt + s.balance.horizon * secT - s.now)

/-- Round up to a step of 10 mA. -/
def ceil10 (x : Nat) : Nat := (x + 9) / 10 * 10

/-- The current of the best measured efficiency of a Dolly, to the nearest 10 mA step; until it has run, the 2.0 A of the reference curve's peak (R232,
R233, R244; of equal efficiencies the lower current, log entry 141). -/
def bestCurrent (y : Dolly) : Nat :=
  let best := y.effs.foldl (fun a x => match a with
    | none => some x
    | some b => if b.2 < x.2 ∨ (b.2 = x.2 ∧ x.1 < b.1) then some x else some b) none
  match best with
  | some b => (b.1 + 5) / 10 * 10
  | none => 2000

/-- The running current of a transfer in mA (R244 rules 5 and 6). -/
def planCurrent (s : State) (d : SegDie) (y : Dolly) (cell : Nat) (need : Option Int) : Nat :=
  let best := bestCurrent y
  let duty := dollyDuty s d cell
  let want := match horizonLeft s, need with
    | some left, some q =>
      let asked := (q.natAbs * secT + max 1 left - 1) / max 1 left
      if best * duty.1 < asked * duty.2 then ceil10 ((asked * duty.2 + duty.1 - 1) / max 1 duty.1) else best
    | _, _ => best
  min want (min s.balance.imax (dieLimit s d))

/-- The planner's item for one Dolly on a Slate (R244), and whether its cell waits under rule 4. A running transfer is kept with its current set anew
by rules 5 and 6; while its Dolly is held, nothing renews it (R242). -/
def planDolly (s : State) (es : List (Nat × Int)) (deps : List Nat) (d : SegDie) (j : Nat) (y : Dolly) : Option PlanItem × Bool :=
  let held := dollyHeld s d j
  let item := fun mode cell iset remain => some
    { die := d.code, dolly := j, mode := mode, cell := cell, iset := iset, remain := remain, deps := deps
      released := deps.isEmpty && (mode == 0 || !held) }
  match y.transfer with
  | some t =>
    if !t.lease ∨ t.mode = 3 then (none, false)
    else
      match es.lookup (partCell s d.code t.cell) with
      | none => (if held then none else item t.mode t.cell t.set_ t.remain, false)
      | some e =>
        let done := if s.balance.goal = 3 then decide (e = 0) else decide (4 * (e.natAbs : Int) ≤ bandOf s)
        let need := needOf s (partCell s d.code t.cell) e
        (if done then item 0 t.cell 0 none else if held then none else item t.mode t.cell (planCurrent s d y t.cell need) need, false)
  | none =>
    if !y.withdrawn.isEmpty || y.thermal || held || !spanInside s d y.straddle (spanMv s d y.straddle) then (none, false)
    else
      match pickCandidate s d (candidates s d j es) with
      | none => (none, false)
      | some (c, e) =>
        let need := needOf s (partCell s d.code c) e
        if !gradientOk s e (meanExcess es (spanCells s d y.straddle)) then (none, true)
        else (item (if 0 < e then 1 else 2) c (planCurrent s d y c need) need, false)

/-- The charge of a group's candidates beyond what its Dolly can move to the horizon, in mAs (R245). -/
def groupShort (s : State) (es : List (Nat × Int)) (d : SegDie) (j : Nat) : Nat :=
  match horizonLeft s with
  | none => 0
  | some left =>
    let l := candidates s d j es
    let need := (l.map fun x => ((needOf s (partCell s d.code x.1) x.2).getD 0).natAbs).sum
    let cell := (l.head?.map (·.1)).getD (6 * j - 5)
    let duty := dollyDuty s d cell
    need - min s.balance.imax (dieLimit s d) * duty.1 * left / (duty.2 * secT)

/-- The part cell with the largest need. -/
def neediest (s : State) (es : List (Nat × Int)) : Nat :=
  (es.foldl (fun a x =>
    let q := ((needOf s x.1 x.2).getD 0).natAbs
    if a.2 < q then (x.1, q) else a) ((0, 0) : Nat × Nat)).1

/-- SHORTFALL of each die, and its record once for each goal (R245). -/
def planShortfall (s : State) (es : List (Nat × Int)) : State :=
  let sh := [2, 3, 4, 5, 6, 7].map fun c => match s.die? c with
    | some d => ([1, 2, 3, 4].map (groupShort s es d)).sum
    | none => 0
  let s := { s with balance := { s.balance with shortfall := sh.map (sat 32) } }
  if sh.any (fun x => decide (0 < x)) && !s.balance.shortDone then
    raise { s with balance := { s.balance with shortDone := true } } 0 17 0x39 (neediest s es)
  else s

/-- Sequence numbers of the undecided Slates up to one: an item's dependency set (R26). -/
def depsUpTo (s : State) (t : Take) : List Nat := (s.slates.takes.takeWhile fun x => x.seq != t.seq).map (·.seq) ++ [t.seq]

/-- The items of every Dolly on one Slate, with their dependency set (R244). -/
def planOn (s : State) (t : Take) (deps : List Nat) : State :=
  let es := excesses s t
  let plans := s.segs.flatMap fun d => d.dollies.zipIdx.map fun p => (d.code, p.2 + 1, planDolly s es deps d (p.2 + 1) p.1)
  let s := { s with balance := { s.balance with items := s.balance.items ++ plans.filterMap fun x => x.2.2.1 } }
  let s := plans.foldl (fun s x => s.updDolly x.1 x.2.1 fun y => { y with waits := x.2.2.2 }) s
  planShortfall s es

/-- PLANNER_PREPARE (R27, R244 to R246): a Slate that committed before its items were ready, else the oldest published Slate on which nothing has been
prepared yet. -/
def execPlannerPrepare (s : State) : Host.Outcome State Fault Refusal :=
  .next <|
    if s.power.state ≠ .run ∨ s.balance.hostMode ∨ s.balance.goal = 0 ∨ !s.balance.planned then s
    else
      match s.slates.late with
      | t :: rest => planOn { s with slates := { s.slates with late := rest } } t []
      | [] =>
        match s.slates.takes.find? fun t => t.published && t.prepared && !t.planned with
        | none => s
        | some t =>
          planOn { s with slates := { s.slates with takes := upd s.slates.takes (fun x => x.seq == t.seq) fun x => { x with planned := true } } } t
            (depsUpTo s t)

/-- A released item acts on its Dolly (R28, R239, R246, R247). -/
def applyItem (s : State) (d : SegDie) (j : Nat) (y : Dolly) (i : PlanItem) : State :=
  let run := min i.iset (dieLimit s d)
  let t : DollyTransfer :=
    { mode := i.mode, cell := i.cell, set_ := i.iset, running := run, start := s.packTime, endAt := s.now + s.balance.lease * msT, lease := true
      qlimit := (i.remain.map (·.natAbs)).getD 0, freq := 0, iamp := 0, t0 := 0, hdr := none, remain := i.remain, check := false }
  match y.transfer with
  | some u =>
    if i.mode = 0 then (if u.lease then endFree s d.code j 0 else s)
    else if u.lease ∧ u.mode = i.mode ∧ u.cell = i.cell then
      let u := { u with
        set_ := i.iset, running := run, endAt := t.endAt, remain := i.remain, ran := u.ran + u.running * (s.now - u.ranAt), ranAt := s.now }
      let s := if u.running = (y.transfer.map (·.running)).getD 0 then s else dollyChanged s d.code
      s.updDolly d.code j fun y => { y with transfer := some u }
    else if (orderBlock s d j y i.mode i.cell).isSome then s else startTransfer s d.code j t
  | none => if i.mode = 0 ∨ (orderBlock s d j y i.mode i.cell).isSome then s else startTransfer s d.code j t

/-- DOLLY_APPLY_ITEM (R28, R29, R225, R242, R246): the oldest item of the Dolly that may act. Those of a held Dolly wait until the hold is over, but for
a stop; after a warm restart of the Studio nothing acts until the planner runs again. -/
def execDollyApplyItem (die dolly : Nat) (s : State) : Host.Outcome State Fault Refusal :=
  onDie s die fun d =>
    match s.balance.items.find? fun i => i.die == die && i.dolly == dolly && (i.released || i.deps.isEmpty), d.dolly? dolly with
    | some i, some y =>
      if s.power.state ≠ .run ∨ !s.balance.planned ∨ (i.mode ≠ 0 ∧ dollyHeld s d dolly) then s
      else applyItem { s with balance := { s.balance with items := s.balance.items.erase i } } d dolly y i
    | _, _ => s

/-- The transfer of a Dolly that runs. -/
def runs? (d : SegDie) (j : Nat) : Option DollyTransfer := (d.dolly? j).bind (·.transfer)

/-- DOLLY_LEASE_EXPIRED (R247, R257). -/
def execDollyLeaseExpired (die dolly : Nat) (qcell : Int) (loss : Nat) (s : State) : Host.Outcome State Fault Refusal :=
  onDie s die fun d =>
    match runs? d dolly with
    | none => s
    | some t =>
      if t.lease ∧ t.endAt ≤ s.now then raise (endMeasured s die dolly 2 qcell loss) die (2 + dolly) 0x38 (256 * dolly + t.cell) else s

/-- TRANSFER_LIMIT_END (R239, R257): the duration runs out, or the charge limit is reached. -/
def execTransferLimitEnd (die dolly : Nat) (qcell : Int) (loss : Nat) (s : State) : Host.Outcome State Fault Refusal :=
  onDie s die fun d =>
    match runs? d dolly with
    | none => s
    | some t =>
      if t.holds ∨ t.check then s
      else if t.qlimit ≠ 0 ∧ t.qlimit ≤ qcell.natAbs then endMeasured s die dolly 0 qcell loss
      else if !t.lease ∧ t.endAt ≤ s.now then endMeasured s die dolly 1 qcell loss
      else s

/-- A die in SLEEP keeps a fault record, up to 8, the ninth in place of the oldest (R255). -/
def sleepRec (s : State) (die kind detail : Nat) : State :=
  s.updDie die fun d => { d with aonRecs := (d.aonRecs ++ [(kind, detail)]).drop (d.aonRecs.length + 1 - 8) }

/-- A fault that a die finds: in SLEEP it keeps the record and withdraws its Dollies itself (R241, R255). -/
def dieFault (s : State) (die block kind detail : Nat) : State :=
  if s.power.state = .sleep then withdraw (sleepRec s die kind detail) kind die detail else raise s die block kind detail

/-- A withdrawing fault of a running Dolly (R241, R260). -/
def dollyFault (s : State) (d : SegDie) (j kind : Nat) : State :=
  match runs? d j with
  | none => s
  | some t => finishClear (dieFault s d.code (2 + j) kind (256 * j + t.cell))

/-- DOLLY_OVERCURRENT (R260). -/
def execDollyOvercurrent (die dolly : Nat) (s : State) : Host.Outcome State Fault Refusal := onDie s die fun d => dollyFault s d dolly 0x30

/-- DOLLY_REGULATION (R260). -/
def execDollyRegulation (die dolly : Nat) (s : State) : Host.Outcome State Fault Refusal := onDie s die fun d => dollyFault s d dolly 0x31

/-- DOLLY_SPAN_VOLTAGE (R232, R260): the span leaves 2.0 V to 4.6 V a cell. -/
def execDollySpanVoltage (die dolly mv : Nat) (s : State) : Host.Outcome State Fault Refusal :=
  onDie s die fun d =>
    let ns := ((d.dolly? dolly).map fun y => (spanCells s d y.straddle).length).getD 0
    if outside (2000 * ns) (4600 * ns) mv then dollyFault s d dolly 0x32 else s

/-- DOLLY_NO_TRANSFER (R260). -/
def execDollyNoTransfer (die dolly : Nat) (s : State) : Host.Outcome State Fault Refusal := onDie s die fun d => dollyFault s d dolly 0x33

/-- DOLLY_DRIVER_SUPPLY (R260): all four Dollies of the die. -/
def execDollyDriverSupply (die : Nat) (s : State) : Host.Outcome State Fault Refusal :=
  onDie s die fun d => 
    if d.unpowered || d.stopped || (isDark s && !d.sleep.awake) then s else finishClear (dieFault s die 10 0x34 0)

/-- DOLLY_CHECK_TRANSFER_END (R241): the check transfer of a clear has run its 2 ms. A clean one lifts what the clear may clear on this Dolly. -/
def execDollyCheckTransferEnd (die dolly : Nat) (clean : Bool) (s : State) : Host.Outcome State Fault Refusal :=
  onDie s die fun d =>
    if (runs? d dolly).any fun t => t.check && decide (t.endAt ≤ s.now) then
      let lifted := (clearCauses s die).filter fun c => between 0x30 0x33 c.kind && c.detail / 256 == dolly || c.kind == 0x34
      let s := endFree s die dolly 1
      finishClear (if clean then s.updDolly die dolly fun y => { y with withdrawn := y.withdrawn.filter fun k => !lifted.any fun c => c.kind == k } else s)
    else finishClear s

/-- DOLLY_THERMAL_RESUME (R252): the die has stayed 5 K below Tstop for 2 s. -/
def execDollyThermalResume (die : Nat) (s : State) : Host.Outcome State Fault Refusal :=
  onDie s die fun d =>
    if d.calmAt.any fun t => decide (t + 2 * secT ≤ s.now) then
      s.updDie die fun d => { d with calmAt := none, dollies := d.dollies.map fun y => { y with thermal := false } }
    else s

/-- A die returns to sleep (R254). -/
def dieAsleep (s : State) (die : Nat) : State :=
  (endDie s die 8).updDie die fun d => { d with sleep := { d.sleep with awake := false } }

/-- SLEEP_BALANCE_WAKE (R254 steps 1 to 3): the analogue domains power up, and the references have still to settle. -/
def execSleepBalanceWake (die : Nat) (s : State) : Host.Outcome State Fault Refusal :=
  onDie s die fun d =>
    match d.sleep.cfg with
    | none => s
    | some c =>
      if s.power.state ≠ .sleep ∨ d.sleep.awake ∨ d.unpowered ∨ !(d.sleep.nextWake.any fun t => decide (t ≤ s.now)) then s
      else
        s.updDie die fun d => { d with
          refOk := [false, false, false], refSince := [none, none, none], refAt := [s.now, s.now, s.now]
          sleep := { d.sleep with
          awake := true, wokeAt := s.now, takeAt := s.now, wakes := d.sleep.wakes + 1, nextWake := some (s.now + c.1 * secT) } }

/-- The cell that a group lowers next in a sleep Take, among those that satisfy a test: the highest one above a voltage, none at or below CELLLO (R254
step 5). -/
def sleepPick (s : State) (d : SegDie) (volts : List Int) (j : Nat) (above : Int) (ok : Nat → Bool) : Option Nat :=
  ((List.range 6).map (6 * j - 5 + ·)).foldl (fun a c =>
    let v := nth volts (c - 1) 0
    if inGroup d j c && decide (above < v) && decide ((s.balance.cellLo : Int) < v) && ok c && a.all fun b => decide (nth volts (b - 1) 0 < v)
    then some c else a) none

/-- The end guard in SLEEP, on the latest diagnostic reading of the served cell (R240, R255). -/
def sleepGuard (diags : List Int) (die : Nat) (s : State) (j : Nat) : State :=
  match (s.die? die).bind fun d => runs? d j with
  | none => s
  | some t =>
    if diagRead (nth diags (t.cell - 1) 0) ≤ (s.balance.cellLo : Int) then sleepRec (endFree s die j 4) die 0x35 (256 * j + t.cell) else s

/-- One group in a committed sleep Take (R232, R239, R254 steps 5 and 6): a transfer whose cell is low enough ends, and the next candidate starts. -/
def sleepGroup (die : Nat) (volts : List Int) (c : Nat × Nat × Nat × Nat × Nat) (s : State) (j : Nat) : State :=
  match s.die? die with
  | none => s
  | some d =>
    let ended := (runs? d j).any fun t => decide (nth volts (t.cell - 1) 0 ≤ (c.2.1 : Int) + c.2.2.1 / 2)
    let s := if ended then endFree s die j 8 else s
    match (s.die? die).bind (·.dolly? j) with
    | none => s
    | some y =>
      if y.transfer.isSome || !y.withdrawn.isEmpty || y.thermal || decide (d.limit = 0) || !spanInside s d y.straddle (spanMv s d y.straddle) then s
      else
        match sleepPick s d volts j ((c.2.1 : Int) + c.2.2.1) fun k =>
            !cellTripped d k && decide (2000000 ≤ nth volts (k - 1) 0) && decide (nth volts (k - 1) 0 ≤ 4600000) with
        | none => s
        | some cell =>
          s.updDolly die j fun y => { y with
            transfer := some { mode := 1, cell := cell, set_ := c.2.2.2.1, running := min c.2.2.2.1 d.limit, start := s.packTime
                               endAt := d.sleep.wokeAt + c.2.2.2.2 * secT, lease := false, qlimit := 0, freq := 0, iamp := 0, t0 := 0
                               hdr := none, remain := none, check := false, ranAt := s.now } }

/-- Has a group of a die a candidate in a sleep Take, or a transfer (R254 steps 5 and 7)? -/
def sleepBusy (s : State) (die : Nat) (volts : List Int) (above : Int) : Bool :=
  (s.die? die).any fun d => [1, 2, 3, 4].any fun j => (runs? d j).isSome || (sleepPick s d volts j above fun _ => true).isSome

/-- SLEEP_TAKE_END (R240, R254 steps 2 to 7, R255): the 64 sweeps at 10 kHz take 6.4 ms, on the settled internal reference. -/
def execSleepTakeEnd (die : Nat) (take : SleepTake) (mismatch : List Nat) (s : State) : Host.Outcome State Fault Refusal :=
  onDie s die fun d =>
    match d.sleep.cfg with
    | none => s
    | some c =>
      if !d.sleep.awake ∨ !nth d.refOk 0 false ∨ s.now < d.sleep.takeAt + 6400 * usT then s
      else
        match mismatch with
        | m :: _ => dieAsleep (sleepRec s die 0x3A m) die
        | [] =>
          let s := [1, 2, 3, 4].foldl (sleepGuard take.diags die) s
          let s := [1, 2, 3, 4].foldl (sleepGroup die take.volts c) s
          if sleepBusy s die take.volts ((c.2.1 : Int) + c.2.2.1) then s else dieAsleep s die

/-- SLEEP_TAKE_REPEAT (R254 step 6): the next sleep Take of a die that is awake begins 1 s after the last one. -/
def execSleepTakeRepeat (die : Nat) (s : State) : Host.Outcome State Fault Refusal :=
  onDie s die fun d =>
    if d.sleep.awake ∧ d.sleep.takeAt + secT ≤ s.now then s.updDie die fun d => { d with sleep := { d.sleep with takeAt := s.now } } else s

/-- SLEEP_AWAKE_LIMIT (R254 step 7). -/
def execSleepAwakeLimit (die : Nat) (s : State) : Host.Outcome State Fault Refusal :=
  onDie s die fun d =>
    match d.sleep.cfg with
    | none => s
    | some c =>
      if d.sleep.awake ∧ d.sleep.wokeAt + c.2.2.2.2 * secT ≤ s.now then
        let n := ((List.range d.cells).filter fun k => decide (((c.2.1 + c.2.2.1 : Nat) : Int) < cellUv d (k + 1))).length
        dieAsleep (sleepRec s die 0x3B n) die
      else s

end Sys2Proof.Machine
end

