-- ==== Sys2Proof/Machine/ImpRows.lean ====
section
/-! DEFINITION. The commands and events of the impedance engine (R262 to R288). -/
namespace Sys2Proof.Machine

/-- The range of a source's frequencies in mHz (R262); none for a source outside the table (log entry 56). -/
def freqRange (source : Nat) : Option (Nat × Nat) :=
  match source with
  | 0 => some (50, 1000000)
  | 1 => some (50, 5000000)
  | 2 => some (50, 2000000)
  | _ => none

/-- The sweep interval in ticks that the frequency limit uses: PERIOD of the timer, else the last Clapper interval, else the shortest
that the sequence allows (R263; log entry 56). -/
def sweepPeriod (s : State) : Nat := if s.sweep.trig.source = 3 then s.sweep.trig.period else (s.sweep.intervals.head?).getD (minPeriod s)

/-- Does a frequency in mHz break R262 or R263? -/
def freqBad (s : State) (source f : Nat) : Bool :=
  match freqRange source with
  | none => true
  | some (lo, hi) => outside lo hi f || decide (10 ^ 11 < 8 * f * sweepPeriod s)

/-- Does the auxiliary current input lack an entry in force with DIV 0 (R263)? -/
def auxSlow (s : State) (die input : Nat) : Bool := !((s.die? die).any fun d => (d.entry? input).any fun e => decide (e.div = 0))

/-- Rounds of a definition (R274). -/
def roundsOf (s : State) (source mask : Nat) : Nat :=
  if source ≠ 2 then 1 else (s.segs.flatMap fun d => [1, 2, 3, 4].map fun j => (groupCells s mask d j).length).foldl max 0

/-- The sum of `a / f` over pairs as one fraction. -/
def fracSum : List (Nat × Nat) → Nat × Nat
  | [] => (0, 1)
  | (a, f) :: r => let x := fracSum r; (a * x.2 + x.1 * f, f * x.2)

/-- The nominal duration of a round in ms, as a fraction: a period of `f` mHz lasts 10^6 / f ms (R275). -/
def nominalFrac (settle nblocks : Nat) (freqs : List Nat) : Nat × Nat :=
  fracSum (freqs.map fun f => ((settle + nblocks * blockPeriods f) * 10 ^ 6, f))

/-- DEFINE_SESSION (R3, R262, R263, R274, R275, R277, R285, R286). -/
def execDefineSession (h : Hdr) (source settle nblocks auxdie auxin iamp imin cells : Nat) (freqs : List Nat) (s : State) :
    Host.Outcome State Fault Refusal :=
  .next <| runCmd s h 0x0601 fun s =>
    let rounds := roundsOf s source cells
    let nom := nominalFrac settle nblocks freqs
    if s.imp.run.isSome then refuse s h 0x0601 stBusy
    else if source = 0 ∧ !sourceThere s then refuse s h 0x0601 0x82
    else if source = 1 ∧ (s.die? auxdie).isNone then refuse s h 0x0601 stNotFitted
    else if source = 1 ∧ !currentCal s auxdie auxin then refuse s h 0x0601 0x86
    else if freqs.any (freqBad s source) || (decide (source = 1) && auxSlow s auxdie auxin) then refuse s h 0x0601 0x81
    else if s.segs.all fun d => (dieCells s cells d).isEmpty then refuse s h 0x0601 0x87
    else if 1200000 * nom.2 < rounds * nom.1 then refuse s h 0x0601 0x80
    else
      let number := (s.imp.lastNumber + 1) % 65536
      let ms := (rounds * nom.1 + nom.2 - 1) / nom.2
      let d : ImpDef := { number := number, source := source, settle := settle, nblocks := nblocks, auxDie := auxdie, auxIn := auxin
                          iamp := iamp, imin := imin, cells := cells, freqs := freqs, rounds := rounds, nominal := ms }
      reply { s with imp := { s.imp with lastNumber := number, def_ := some d, next := 0, points := [] } } h 0x0601 stOk
        (le 2 number ++ le 1 rounds ++ [0] ++ le 2 d.points ++ zeros 2 ++ le 4 ms)

/-- A MODULATE transfer (R265, R266): running current IAMP / d, limited to 3000 mA and the derating limit. The Boolean says whether it is
clipped. -/
def modulateTransfer (s : State) (d : SegDie) (cell freq iamp t0 : Nat) (h : Option Hdr) (endAt : Tick) : DollyTransfer × Bool :=
  let duty := dollyDuty s d cell
  let want := iamp * duty.2 / max 1 duty.1
  let lim := min 3000 (dieLimit s d)
  ({ mode := 3, cell := cell, set_ := want, running := min want lim, start := s.packTime, endAt := endAt, lease := h.isNone, qlimit := 0
     freq := freq, iamp := if lim < want then lim * duty.1 / duty.2 else iamp, t0 := t0, hdr := h, remain := none, check := false, want := iamp },
   decide (lim < want))

/-- A Dolly starts to modulate (R265, R266, R287). -/
def startModulate (s : State) (d : SegDie) (j cell freq iamp t0 : Nat) (h : Option Hdr) (endAt : Tick) : State :=
  let t := modulateTransfer s d cell freq iamp t0 h endAt
  let s := startTransfer s d.code j t.1
  if t.2 then raise s d.code (2 + j) 0x44 (256 * j + cell) else s

/-- One group at the start of a LOCAL round: a balancing transfer on its Dolly ends, and the Dolly modulates its cell, unless the transfer cannot start
(R266, R283). -/
def roundGroup (f : ImpDef) (point die : Nat) (s : State) (j : Nat) : State :=
  match s.die? die with
  | none => s
  | some d =>
    match (pointCells s f point d).find? (inGroup d j) with
    | none => s
    | some cell =>
      let s := if (runs? d j).any fun t => !t.holds && !t.check then endFree s die j 3 else s
      match s.die? die, (s.die? die).bind (·.dolly? j) with
      | some d, some y =>
        if y.transfer.isSome || (orderBlock s d j y 3 cell).isSome then s
        else startModulate s d j cell (pointFreq f point) f.iamp s.packTime none (s.now + s.balance.lease * msT)
      | _, _ => s

/-- Modulating Dollies take the next point's frequency and reference time (R265). -/
def retune (s : State) (freq : Nat) : State :=
  { s with segs := s.segs.map fun d => { d with dollies := d.dollies.map fun y =>
      { y with transfer := y.transfer.map fun t => if t.modulates then { t with freq := freq, t0 := s.packTime } else t } } }

/-- A point begins (R265, R266, R270, R274); `fresh` at the start of a session. -/
def startPoint (s : State) (f : ImpDef) (r : ImpRun) (point : Nat) (fresh : Bool) : State :=
  let s := if f.source ≠ 2 then s
    else if fresh ∨ point % f.freqs.length = 0 then
      s.segs.foldl (fun s d => [1, 2, 3, 4].foldl (roundGroup f point d.code) s) (stopWhere s DollyTransfer.modulates 3)
    else retune s (pointFreq f point)
  let dies := (s.segs.filter fun d => !(pointCells s f point d).isEmpty).map fun d =>
    ({ die := d.code, good := 0, discarded := 0, blocks := [], amp := 0, start := 0, last := 0, stored := false } : PointDie)
  { s with imp := { s.imp with next := point, run := some { r with point := point, t0 := s.packTime, tried := 0, dies := dies, acc := [] } } }

/-- START_SESSION (R282, R284 to R286). -/
def execStartSession (h : Hdr) (fromPoint : Nat) (s : State) : Host.Outcome State Fault Refusal :=
  .next <| runCmd s h 0x0602 fun s =>
    if s.power.state ≠ .run ∨ s.imp.hostMode then refuse s h 0x0602 stRejected
    else if s.imp.run.isSome then refuse s h 0x0602 stBusy
    else
      match s.imp.def_ with
      | none => refuse s h 0x0602 0x83
      | some f =>
        if f.points ≤ fromPoint then refuse s h 0x0602 0x83
        else startOp s h 0x0602 fun s =>
          startPoint s f { hdr := h, point := fromPoint, startedAt := s.now, t0 := s.packTime, tried := 0, dies := [], acc := [] } fromPoint true

/-- GET_SESSION_STATUS (R285): GOOD and DISCARDED of the die that is furthest behind in the point in progress. -/
def execGetSessionStatus (h : Hdr) (s : State) : Host.Outcome State Fault Refusal :=
  .next <| runCmd s h 0x0603 fun s =>
    match s.imp.def_ with
    | none => reply s h 0x0603 stOk (zeros 8 ++ le 2 0xFFFF ++ zeros 12)
    | some f =>
      let a : Nat × Nat × Nat × Nat × Nat × Nat := match s.imp.run with
        | none => (1, s.imp.next, 0xFFFF, 0, 0, 0)
        | some (r : ImpRun) => (2, r.point, r.point, (r.dies.foldl (fun a x => min a x.good) f.nblocks), r.dies.foldl (fun a x => max a x.discarded) 0,
            (s.now - r.startedAt) / msT)
      reply s h 0x0603 stOk
        (le 2 f.number ++ le 1 a.1 ++ le 1 f.source ++ le 2 f.points ++ le 2 a.2.1 ++ le 2 a.2.2.1 ++ le 1 a.2.2.2.1 ++
          le 1 (sat 8 a.2.2.2.2.1) ++ zeros 2 ++ le 4 a.2.2.2.2.2 ++ le 4 f.nominal)

/-- A stored record as READ_POINTS writes it: READ_BACK set (R278, R285). -/
def readBack (l : List Byte) : List Byte := l.take 6 ++ [nth l 6 0 ||| 8] ++ l.drop 7

/-- READ_POINTS (R276, R285, R286). -/
def execReadPoints (h : Hdr) (fromPoint toPoint : Nat) (s : State) : Host.Outcome State Fault Refusal :=
  .next <| runCmd s h 0x0604 fun s =>
    match s.imp.def_ with
    | none => refuse s h 0x0604 0x83
    | some f =>
      if f.points ≤ fromPoint then refuse s h 0x0604 0x83
      else startOp s h 0x0604 fun s =>
        match s.imp.points.filter fun p => decide (fromPoint ≤ p.1) && decide (p.1 ≤ toPoint) with
        | [] => completeOp s h stOk (zeros 4)
        | l => { s with imp := { s.imp with reads := s.imp.reads ++ [{ hdr := h, left := l.map fun p => readBack p.2, count := 0 }] } }

/-- POINT_READBACK_WRITE (R168, R285). -/
def execPointReadbackWrite (s : State) : Host.Outcome State Fault Refusal :=
  .next <|
    match s.imp.reads with
    | [] => s
    | r :: rest =>
      match r.left with
      | [] => { s with imp := { s.imp with reads := rest } }
      | x :: l =>
        if !streamRoom s 7 x.length 664 then s
        else
          let s := sendRecord (endRun (streamWrite s 7 0 x) 0) 7 x
          if l.isEmpty then completeOp { s with imp := { s.imp with reads := rest } } r.hdr stOk (le 2 (r.count + 1) ++ zeros 2)
          else { s with imp := { s.imp with reads := { r with left := l, count := r.count + 1 } :: rest } }

/-- SET_TEMP_COEFFS (R280). -/
def execSetTempCoeffs (h : Hdr) (ft first : Nat) (coeffs : List TempCoeff) (s : State) : Host.Outcome State Fault Refusal :=
  .next <| runCmd s h 0x0605 fun s =>
    if rangeUnmapped s first coeffs.length then refuse s h 0x0605 stNotFitted
    else reply { s with imp := { s.imp with ft := ft, coeffs := setFrom s.imp.coeffs (first - 1) coeffs } } h 0x0605 stOk []

/-- SET_IMPEDANCE_MODE (R31, R32, R284, R285). -/
def execSetImpedanceMode (h : Hdr) (mode : Nat) (s : State) : Host.Outcome State Fault Refusal :=
  .next <| runCmd s h 0x0606 fun s =>
    if s.power.state ≠ .run then refuse s h 0x0606 stRejected else switchCmd s h 0x0606 0x0606 (.impedanceMode mode)

/-- MODULATE_ORDER (R265, R266, R284 to R286). Outside RUN it answers REJECTED_STATE whatever die it names (DESIGN CHOICE, log 116); a DIE that is no
segment die, and a DOLLY outside 1 to 4, answer NOT_FITTED (DESIGN CHOICE, log 118). -/
def execModulateOrder (h : Hdr) (die dolly cell freq iamp t0 duration : Nat) (s : State) : Host.Outcome State Fault Refusal :=
  .next <| runCmd s h 0x0607 fun s =>
    if s.power.state ≠ .run then refuse s h 0x0607 stRejected
    else
      match s.die? die with
      | none => refuse s h 0x0607 stNotFitted
      | some d =>
        if !s.imp.hostMode then refuse s h 0x0607 0x84
        else
          match d.dolly? dolly with
          | none => refuse s h 0x0607 stNotFitted
          | some y =>
            if (orderBlock s d dolly y 3 cell).isSome then refuse s h 0x0607 stRejected
            else startOp s h 0x0607 fun s =>
              let s := startModulate s d dolly cell freq iamp t0 (some h) (s.now + duration * msT)
              let o : ModOrder := { hdr := h, die := die, dolly := dolly, freq := freq, start := s.packTime, ended := none }
              { s with imp := { s.imp with orders := s.imp.orders ++ [o] } }

/-- Whole periods of a frequency in mHz between two pack times. -/
def periodsIn (f a b : Nat) : Nat := (b - a) * f / 10 ^ 11

/-- MODULATE_ORDER_END (R284): the duration is over, or the transfer has ended before; the reply covers the periods that ran. -/
def execModulateOrderEnd (die dolly measured : Nat) (phase : Int) (s : State) : Host.Outcome State Fault Refusal :=
  onDie s die fun d =>
    match s.imp.orders.find? fun o => o.die == die && o.dolly == dolly with
    | none => s
    | some o =>
      let runs := (runs? d dolly).any fun t => t.hdr == some o.hdr && decide (s.now < t.endAt)
      if runs then s
      else
        let n := periodsIn o.freq o.start (o.ended.getD s.packTime)
        let s := stopWhere s (fun t => t.hdr == some o.hdr) 1
        let s := { s with imp := { s.imp with orders := s.imp.orders.filter fun x => x.hdr != o.hdr } }
        completeOp s o.hdr stOk (le 2 measured ++ leInt 2 phase ++ le 4 n)

/-- The sum of a list of lock-in sums. -/
def lockTotal (l : List LockSum) : LockSum := { x := (l.map (·.x)).sum, y := (l.map (·.y)).sum }

/-- Real part, and reactive part with the voltage leading as positive, of an impedance in nΩ: voltage sums in nV over current sums in µA,
with the ohmic addition of LOCAL (R271, R272; log entry 57). -/
def impedance (v c : LockSum) (rho : Int) : Option (Int × Int) :=
  let den := (c.x * c.x + c.y * c.y).toNat
  if den = 0 then none
  else some (divRound (10 ^ 6 * (v.x * c.x + v.y * c.y)) den + rho, divRound (10 ^ 6 * (v.x * c.y - v.y * c.x)) den)

/-- The magnitude of an impedance in nΩ (R271). -/
def magnitude (z : Int × Int) : Nat := isqrt (z.1 * z.1 + z.2 * z.2).toNat

/-- A binary32 word times 2^149, an integer. -/
def f32Scaled (w : Nat) : Int :=
  let p := f32Parts w
  if w / 2 ^ 31 % 2 = 1 then -((p.1 * 2 ^ (p.2 - 1) : Nat) : Int) else ((p.1 * 2 ^ (p.2 - 1) : Nat) : Int)

/-- The sensorless temperature in 0.01 °C of a phase in 0.01° (R280). -/
def tempOf (k : TempCoeff) (phase : Int) : Int :=
  divRound (10000 * f32Scaled k.a0 + 100 * f32Scaled k.a1 * phase + f32Scaled k.a2 * phase * phase) (100 * 2 ^ 149)

/-- Is a point's frequency within 0.5 % of FT (R280)? -/
def atFt (s : State) (f : Nat) : Bool := decide (200 * ((f : Int) - s.imp.ft).natAbs ≤ s.imp.ft)

/-- The sums of one cell over the good blocks of its die, newest block first. -/
def cellBlocks (x : PointDie) (cell : Nat) : List LockinCell := x.blocks.filterMap fun b => b.find? fun c => c.cell == cell

/-- Does a cell have its excitation: with LOCAL its Dolly must still modulate it (R283)? -/
def excited (d : SegDie) (f : ImpDef) (cell : Nat) : Bool := f.source != 2 || d.dollies.any fun y => y.transfer.any fun t => t.modulates && t.cell == cell

/-- An entry without data (R278). -/
def emptyEntry (part : Nat) : List Byte := le 1 part ++ le 1 1 ++ le 2 0x8000 ++ le 4 0xFFFFFFFF ++ le 2 0x8000 ++ le 2 0xFFFF

/-- The temperature of an entry: none where the point is not at FT or the cell has no coefficients (R280). -/
def entryTemp (s : State) (f part : Nat) (phase : Int) : Option Int :=
  let k := nth s.imp.coeffs (part - 1) { a0 := 0, a1 := 0, a2 := 0 }
  if !atFt s f || (k.a0 == 0 && k.a1 == 0 && k.a2 == 0) then none else some (tempOf k phase)

/-- The 12 bytes of one cell's entry, and the kinds it raises (R271, R272, R278, R280, R287). `low` is EXCITATION_LOW of its die. -/
def pointEntry (s : State) (f : ImpDef) (freq : Nat) (d : SegDie) (x : PointDie) (low : Bool) (cell : Nat) : List Byte × List Nat :=
  let part := partCell s d.code cell
  let bs := cellBlocks x part
  let loc := f.source == 2
  let rho : Int := if loc then rhoOf s part else 0
  let whole := if low || bs.isEmpty || !excited d f cell then none else impedance (lockTotal (bs.map (·.v))) (lockTotal (bs.map (·.c))) rho
  match whole with
  | none => (emptyEntry part, [])
  | some z =>
    let mag := magnitude z
    let phase := phaseOf z.1 z.2
    -- the standard deviation of the blocks' |Z| over the root of their number, in pΩ
    let sd := sigmaMilli (bs.filterMap fun b => (impedance b.v b.c rho).map fun z => (magnitude z : Int))
    let sigma := isqrt (sd * sd / bs.length)
    let t := entryTemp s freq part phase
    let outT := t.any fun t => decide (t < 0) || decide (5000 < t)
    let unconv := loc && !s.slates.rFixed && !((s.slates.rho[part - 1]?).any fun r => decide (4096 ≤ r.count))
    let flags := 2 * b2n loc + 4 * b2n unconv + 8 * b2n outT + 16 * b2n (decide (5000000 < sigma) && decide (mag * 1000 < 200 * sigma))
    (le 1 part ++ le 1 flags ++ leInt 2 phase ++ le 4 (min 0xFFFFFFFE ((mag + 500) / 1000)) ++
        leInt 2 ((t.map (clamp (-0x7FFF) 0x7FFF)).getD (-0x8000)) ++ le 2 (min 0xFFFE ((sigma + 500000) / 1000000)),
      (if unconv then [0x45] else []) ++ (if outT then [0x46] else []))

/-- Is the smallest current amplitude that a point has measured on a die below IMIN (R273)? -/
def excitationLow (f : ImpDef) (x : PointDie) : Bool := (x.blocks.any fun b => !b.isEmpty) && decide (x.amp < f.imin)

/-- The point record's payload of a die (R278), and the kinds with the part cells they name. -/
def pointRecord (s : State) (f : ImpDef) (point : Nat) (d : SegDie) (x : PointDie) : List Byte × List (Nat × Nat) :=
  let freq := pointFreq f point
  let low := excitationLow f x
  let cells := pointCells s f point d
  let es := cells.map (pointEntry s f freq d x low)
  (le 2 f.number ++ le 2 point ++ le 1 d.code ++ le 1 cells.length ++
      le 1 (b2n (f.source == 2) + 2 * b2n (decide (x.good < f.nblocks)) + 4 * b2n low) ++ le 1 x.good ++ le 4 freq ++ le 2 (sat 16 x.amp) ++
      le 1 (sat 8 x.discarded) ++ [0] ++ le 8 x.start ++ le 8 x.last ++ es.flatMap (·.1),
    (List.zip cells es).flatMap fun p => p.2.2.map fun k => (k, partCell s d.code p.1))

/-- A die's record of a complete point is stored and written (R276, R277). -/
def storePoint (f : ImpDef) (point : Nat) (s : State) (x : PointDie) : State :=
  match s.die? x.die with
  | none => s
  | some d =>
    let r := pointRecord s f point d x
    let s := { s with imp := { s.imp with points := s.imp.points.filter (fun p => !(p.1 == point && nth p.2 4 0 == BitVec.ofNat 8 x.die)) ++ [(point, r.1)] } }
    r.2.foldl (fun s k => raise s 0 18 k.1 k.2) (sendRecord (streamRec s 7 0 r.1) 7 r.1)

/-- The records of the dies whose last good block has been accepted, or of all of them at the end of the point, are stored and written (R270, R276). -/
def storeReady (s : State) (f : ImpDef) (r : ImpRun) (all : Bool) : State × ImpRun :=
  let ready := fun x : PointDie => !x.stored && (all || decide (f.nblocks ≤ x.good))
  ((r.dies.filter ready).foldl (storePoint f r.point) s, { r with dies := upd r.dies ready fun x => { x with stored := true } })

/-- A point is complete (R270, R273, R276): the records still to store, its fault records, and the next point or the end of the session. -/
def completePoint (s : State) (f : ImpDef) (r : ImpRun) : State :=
  let p := storeReady s f r true
  let s := if r.dies.any (excitationLow f) then raise p.1 0 18 0x40 r.point else p.1
  let s := if r.dies.any fun x => decide (x.good < f.nblocks) then raise s 0 18 0x41 r.point else s
  if r.point + 1 < f.points then startPoint s f p.2 (r.point + 1) false
  else endSession { s with imp := { s.imp with run := some { p.2 with point := f.points } } } 0

/-- Has every sweep before a pack time been decided (R269)? -/
def sweepsDecided (s : State) (t : Nat) : Bool :=
  let part := if takeDec s = 0 then 0 else s.sweep.sinceRestart % takeDec s
  decide (t ≤ s.packTime) && !(s.slates.takes.any fun k => decide (k.ownFirst < t)) &&
    !((s.slates.curHist.take (part + b2n s.sweep.inSweep)).any fun x => decide (x.clap < t))

/-- An amplitude that a mean over a window of `w` ticks has shown, as it was: divided by sin(πfw)/(πfw) (R267, R357). -/
def unmean (freq w : Nat) (q : LockSum) : LockSum :=
  let num : Int := freq * w * 3141592654
  let den := (10 ^ 11 * (turnTrig (freq * w) (2 * 10 ^ 11)).2).toNat
  if freq * w = 0 ∨ den = 0 then q else { x := divRound (q.x * num) den, y := divRound (q.y * num) den }

/-- The amplitude of a current in mA, from its sums (R271). -/
def amplitude (c : LockSum) : Nat := (2 * isqrt (c.x * c.x + c.y * c.y).toNat + 500 * trigOne) / (1000 * trigOne)

/-- The sums of the current that a Dolly delivered over a block, each mean at the middle of its sweep period, corrected for the mean (R267). -/
def senseSums (f : ImpDef) (r : ImpRun) (x : SenseRun) : Option LockSum :=
  let freq := pointFreq f r.point
  let l := x.samples.filter fun p => blockOf f r (p.1 + p.2.1 / 2) == some r.tried
  if l.isEmpty then none
  else
    let a := l.foldl (fun a p => LockAcc.add freq r.t0 (blockSpan f r r.tried).1 a (p.1 + p.2.1 / 2) p.2.2) (LockAcc.start r.tried x.die x.cell)
    some (unmean freq ((l.map fun p => p.2.1).sum / l.length) a.sums)

/-- The sums of the current that excites a die-local cell over the block in progress (R262, R267). -/
def refSums (s : State) (f : ImpDef) (r : ImpRun) (senses : List SenseRun) (die cell : Nat) : Option LockSum :=
  if f.source = 2 then
    (senses.find? fun x => x.die == die && partCell s x.die x.cell == cell).bind (senseSums f r)
  else if f.source = 1 then (r.acc.find? fun a => a.is r.tried f.auxDie 0).map (·.sums)
  else (r.acc.find? fun a => a.is r.tried 0 0).map fun a => unmean (pointFreq f r.point) 200 a.sums

/-- Was the current reference of an external source there for the whole block (R269)? -/
def refWhole (f : ImpDef) (r : ImpRun) (span : Nat × Nat) : Bool :=
  if f.source = 0 then
    r.acc.any fun a => a.is r.tried 0 0 && !a.broken && decide (a.first ≤ span.1 + streamPause) && decide (span.2 ≤ a.last + streamPause)
  else if f.source = 1 then r.acc.any fun a => a.is r.tried f.auxDie 0 && !a.broken
  else true

/-- What the block in progress gives for the cells of a die (R267, R268). -/
def blockCells (s : State) (f : ImpDef) (r : ImpRun) (senses : List SenseRun) (die : Nat) : List LockinCell :=
  (r.acc.filter fun a => a.block == r.tried && a.die == die && a.cell != 0).filterMap fun a =>
    (refSums s f r senses die a.cell).map fun c => { cell := a.cell, v := a.sums, c := c, ampl := amplitude c }

/-- One die after a block: counted, or discarded (R264, R269, R270). -/
def blockDie (s : State) (f : ImpDef) (r : ImpRun) (senses : List SenseRun) (x : PointDie) : PointDie :=
  let span := blockSpan f r r.tried
  let bad := s.imp.bad.any fun b => bit b.2.2 x.die && decide (b.1 < span.2) && decide (span.1 ≤ b.2.1)
  if f.nblocks ≤ x.good then x
  else if bad || !refWhole f r span then { x with discarded := x.discarded + 1 }
  else
    let cells := blockCells s f r senses x.die
    let amp := cells.foldl (fun a c => min a c.ampl) ((cells.head?.map (·.ampl)).getD 0)
    let accs := r.acc.filter fun a => a.block == r.tried && a.die == x.die && a.cell != 0
    let first := accs.foldl (fun m a => min m a.first) ((accs.head?.map (·.first)).getD span.1)
    { x with
      good := x.good + 1, blocks := cells :: x.blocks
      amp := if cells.isEmpty then x.amp else if x.blocks.any (fun b => !b.isEmpty) then min x.amp amp else amp
      start := if x.good = 0 then first else x.start, last := accs.foldl (fun m a => max m a.last) 0 }

/-- LOCKIN_BLOCK (R264, R267 to R273, R276): the block in progress is judged once its sweeps are decided. `senses` is what the current senses of the
modulating Dollies gave. -/
def execLockinBlock (senses : List SenseRun) (s : State) : Host.Outcome State Fault Refusal :=
  .next <|
    let s := checkRef s
    match s.imp.run, s.imp.def_ with
    | some r, some f =>
      let span := blockSpan f r r.tried
      if (opOf s r.hdr).any (·.stop) then endSession s 1
      else if !sweepsDecided s span.2 then s
      else
        let dies := r.dies.map (blockDie s f r senses)
        let r := { r with tried := r.tried + 1, dies := dies, acc := r.acc.filter fun a => decide (r.tried < a.block) }
        let p := storeReady { s with imp := { s.imp with bad := s.imp.bad.filter fun b => decide (span.2 ≤ b.2.1) } } f r false
        let s := { p.1 with imp := { p.1.imp with run := some p.2 } }
        if r.dies.all (fun x => decide (f.nblocks ≤ x.good)) || decide (3 * f.nblocks ≤ r.tried) then completePoint s f p.2 else s
    | _, _ => s

end Sys2Proof.Machine
end

