-- ==== Sys2Proof/Machine/FwRows.lean ====
section
/-! DEFINITION. Containers, downloads, activation, confirmation, fallback and the customer key (R475 to R505). -/
namespace Sys2Proof.Machine

/-- Index in `Nv.images` of the place of a target: A or B (R476, R488). -/
def placeIdx (target : Nat) (b : Bool) : Nat := 2 * target + b2n b

/-- The inactive place of a target (R486, R488). -/
def inactivePlace (s : State) (target : Nat) : Nat := placeIdx target (!bit s.nv.boot.active target)

/-- The image in a place. -/
def imageAt (s : State) (k : Nat) : Option Image := nth s.nv.images k none

/-- Release that the running place of a target holds (R472). -/
def runningRelease (s : State) (target : Nat) : Nat := ((imageAt s (placeIdx target (bit s.fw.running target))).map (·.version)).getD 0

/-- A little-endian field of a container header (R482). -/
def hdrVal (h : List Byte) (off n : Nat) : Nat := leVal ((h.drop off).take n)

/-- The highest payload length of a target (R483). -/
def lengthLimit (target : Nat) : Nat := nth [130816, 1572608, 16384, 196352, 44800] target 0

/-- Are the reserved bytes of a container header 0 (R482)? -/
def hdrReservedZero (h : List Byte) : Bool :=
  decide (hdrVal h 10 1 < 2) && decide (hdrVal h 11 1 = 0) && decide (hdrVal h 38 2 = 0) && ((h.drop 72).take 120).all (· == 0)

/-- Does an activation that is pending involve a target (R485 check 10, R493)? -/
def pendingOn (s : State) (target : Nat) : Bool :=
  bit s.nv.boot.pending target || s.fw.activation.any fun a => bit a.tmask target

/-- The first check of R485 that a container header fails, 0 where it passes them all. Tadpole leaves out check 9 (R501). -/
def headerCheck (s : State) (h : List Byte) : Nat :=
  let target := hdrVal h 8 1
  let keyid := hdrVal h 9 1
  if hdrVal h 0 4 ≠ 0x454F4C47 ∨ hdrVal h 4 2 ≠ 1 then 1
  else if hdrVal h 6 2 ≠ 0x15A6 then 2
  else if 4 < target ∨ keyid ≠ (if target = 4 then 1 else 0) then 3
  else if hdrVal h 32 4 = 0 ∨ lengthLimit target < hdrVal h 32 4 ∨ hdrReservedZero h = false then 4
  else if keyid = 1 ∧ s.nv.customerKey = [] then 5
  else if Config.ecdsaVerify (if keyid = 1 then s.nv.customerKey else Config.folharyKey) (Config.sha256 (h.take 192)) ((h.drop 192).take 64) = false then 6
  else if hdrVal h 10 1 = 1 ∧ hdrVal h 12 8 ≠ Config.unitId % 2 ^ 64 then 7
  else if hdrVal h 24 4 < nth s.nv.boot.rollIdx target 0 then 8
  else if s.sup.recovery = false ∧ target ≠ 0 ∧ runningRelease s 0 < hdrVal h 28 4 then 9
  else if pendingOn s target then 10
  else 0

/-- The status of a failed check (R485, R505). -/
def checkStatus (check : Nat) : Nat := nth [stOk, 0x80, 0x80, 0x80, 0x80, 0x8B, 0x81, 0x82, 0x83, 0x84, 0x8C] check stOk

/-- Set or clear bit `k` of a mask. -/
def setBit (m k : Nat) (v : Bool) : Nat := if v then m ||| 2 ^ k else m - (m &&& 2 ^ k)

/-- A place loses its image, and its COMPLETE and VERIFIED bits (R486, R487, R499). -/
def invalidate (s : State) (target : Nat) : State :=
  let b := s.nv.boot
  let s := writeBoot s { b with complete := setBit b.complete target false, verified := setBit b.verified target false }
  { s with nv := { s.nv with images := s.nv.images.set (inactivePlace s target) none } }

/-- A container header is accepted: the destination is erased and the transfer opens (R486). -/
def openTransfer (s : State) (h : List Byte) : State :=
  let t := hdrVal h 8 1
  let s := invalidate s t
  let img : Image := { version := hdrVal h 20 4, rollback := hdrVal h 24 4, minKeeper := hdrVal h 28 4, length := hdrVal h 32 4
                       setFmt := hdrVal h 37 1, digest := (h.drop 40).take 32, payload := [] }
  { s with
    nv := { s.nv with images := s.nv.images.set (inactivePlace s t) (some img) }
    fw := { s.fw with
      head := none
      transfer := some { target := t, place := inactivePlace s t % 2, length := img.length, received := 0, lastOffset := 0, lastData := [] } } }

/-- UPDATE_BEGIN (R485 to R487, R501). A second half without a first one fails check 1; HALF above 1 acts as 1 (log entry 39). -/
def execUpdateBegin (h : Hdr) (half : Nat) (bytes : List Byte) (s : State) : Host.Outcome State Fault Refusal :=
  .next <| runCmd s h 0x0C01 fun s =>
    if s.fw.transfer.isSome then refuse s h 0x0C01 stBusy
    else if half = 0 then reply { s with fw := { s.fw with head := some bytes } } h 0x0C01 stOk (le 1 0 ++ zeros 3)
    else
      let hd := s.fw.head.getD [] ++ bytes
      let c := if s.fw.head.isNone then 1 else headerCheck s hd
      if s.sup.recovery ∧ s.fw.head.isSome ∧ 1 < hdrVal hd 8 1 then
        refuse { s with fw := { s.fw with head := none } } h 0x0C01 stRejected
      else if c ≠ 0 then
        raise (reply { s with fw := { s.fw with head := none } } h 0x0C01 (checkStatus c) (le 1 c ++ zeros 3)) 0 9 0xB2
          (256 * hdrVal hd 8 1 + c)
      else reply (openTransfer s hd) h 0x0C01 stOk (le 1 0 ++ zeros 3)

/-- UPDATE_DATA (R486). -/
def execUpdateData (h : Hdr) (offset : Nat) (data : List Byte) (s : State) : Host.Outcome State Fault Refusal :=
  .next <| runCmd s h 0x0C02 fun s =>
    match s.fw.transfer with
    | none => refuse s h 0x0C02 0x87
    | some t =>
      if offset = t.received ∧ t.received + data.length ≤ t.length then
        let k := placeIdx t.target (t.place == 1)
        let n := t.received + data.length
        let s := { s with
          nv := { s.nv with images := updAt s.nv.images k fun i => i.map fun i => { i with payload := i.payload ++ data } }
          fw := { s.fw with transfer := some { t with received := n, lastOffset := offset, lastData := data } } }
        let s := if n = t.length then writeBoot s { s.nv.boot with complete := setBit s.nv.boot.complete t.target true } else s
        reply s h 0x0C02 stOk (le 4 n)
      else if offset = t.lastOffset ∧ data = t.lastData ∧ 0 < t.received then reply s h 0x0C02 stOk (le 4 t.received)
      else refuse s h 0x0C02 0x86

/-- The records of a CONFIG payload: type and content (R484); `fuel` bounds the walk by the payload's length. -/
def cfgRecords : Nat → List Byte → List (Nat × List Byte)
  | 0, _ => []
  | fuel + 1, l =>
    if l.length < 4 then []
    else
      let n := leVal ((l.drop 2).take 2)
      (leVal (l.take 1), (l.drop 4).take n) :: cfgRecords fuel (l.drop (4 + n))

/-- Does a bundle hold an unknown record type (R484)? -/
def unknownRecord (target : Nat) (payload : List Byte) : Bool :=
  target == 4 && (cfgRecords payload.length payload).any fun r => decide (r.1 = 0) || decide (4 < r.1)

/-- The verification of a complete image: its status, and DETAIL 1 for an unknown record type (R484, R486). -/
def verifyImage (s : State) (target : Nat) : Nat × List Byte :=
  match imageAt s (inactivePlace s target) with
  | none => (0x85, [])
  | some i =>
    if Config.sha256 i.payload ≠ i.digest then (0x85, [])
    else if unknownRecord target i.payload then (0x85, [1])
    else (stOk, le 1 target ++ zeros 3 ++ le 4 i.version)

/-- The outcome of a verification: the image is marked verified, or its place invalidated (R486). -/
def verifyEnd (s : State) (target status : Nat) : State :=
  if status = stOk then writeBoot s { s.nv.boot with verified := setBit s.nv.boot.verified target true } else invalidate s target

/-- UPDATE_VERIFY (R486, R504): an operation that ends within the step. Before `LENGTH` bytes are in it is REJECTED_STATE
(log entry 40). -/
def execUpdateVerify (h : Hdr) (s : State) : Host.Outcome State Fault Refusal :=
  .next <| runCmd s h 0x0C03 fun s =>
    match s.fw.transfer with
    | none => refuse s h 0x0C03 0x87
    | some t =>
      if t.received < t.length then refuse s h 0x0C03 stRejected
      else startOp s h 0x0C03 fun s =>
        let v := verifyImage s t.target
        let s := verifyEnd { s with fw := { s.fw with transfer := none } } t.target v.1
        completeOp s h v.1 v.2

/-- UPDATE_CANCEL (R487). -/
def execUpdateCancel (h : Hdr) (s : State) : Host.Outcome State Fault Refusal :=
  .next <| runCmd s h 0x0C04 fun s =>
    match s.fw.transfer with
    | none => refuse s h 0x0C04 0x87
    | some t => reply (invalidate { s with fw := { s.fw with transfer := none } } t.target) h 0x0C04 stOk []

/-- Do the conditions of R489 hold for the targets of a mask? -/
def conditionsHold (s : State) (tmask : Nat) : Bool :=
  let live := s.power.state == .run || s.power.state == .monitor || s.power.state == .service
  (!partLevel tmask || (s.power.state == .service && !s.stage.so1 && !s.stage.so2)) && live &&
    (!bit tmask 4 || !s.sweep.running)

/-- Does every target of a mask have a verified image (R490)? -/
def allVerified (s : State) (tmask : Nat) : Bool := (List.range 5).all fun t => !bit tmask t || bit s.nv.boot.verified t

/-- Has an image of a mask a rollback index below the stored one (R498)? -/
def rolledBack (s : State) (tmask : Nat) : Bool :=
  (List.range 5).any fun t => bit tmask t &&
    (imageAt s (inactivePlace s t)).any fun i => decide (i.rollback < nth s.nv.boot.rollIdx t 0)

/-- The boot record of the commit point (R490). -/
def commitBoot (s : State) (tmask at_ : Nat) : State :=
  writeBoot s { s.nv.boot with pending := tmask, actAt := at_, bootCount := 0 }

/-- ACTIVATE in Tadpole (R501, R502): every verified KEEPER and STUDIO image, and a part reset. -/
def activateTadpole (s : State) (h : Hdr) (scope at_ : Nat) : State :=
  let m := s.nv.boot.verified % 4
  if at_ ≠ 0 ∨ scope ≠ 0 then refuse s h 0x0C05 stRejected
  else if m = 0 then refuse s h 0x0C05 0x88
  else startOp s h 0x0C05 fun s => partReset (commitBoot s m (max 1 s.packTime)) 1

/-- An ACTIVATE that passes its checks becomes an operation (R490, R493). -/
def acceptActivate (s : State) (h : Hdr) (tmask scope at_ : Nat) : State :=
  startOp s h 0x0C05 fun s =>
    let t := if s.fw.hostMode then s.packTime + 100 * msT else at_
    let s := { s with fw := { s.fw with
      activation := some { hdr := some h, tmask := tmask, scope := scope, at_ := t, committed := s.fw.hostMode, done := false } } }
    let s := if s.fw.hostMode then commitBoot s tmask t else s
    if scope = 1 then sendFrame s 0x0E 0xFF 2 false false (armFrame 1 tmask t) else s

/-- ACTIVATE (R489 to R493, R498, R502, R504). A mask that names no target is NOT_VERIFIED (log entry 41). -/
def execActivate (h : Hdr) (tmask scope at_ : Nat) (s : State) : Host.Outcome State Fault Refusal :=
  .next <| runCmd s h 0x0C05 fun s =>
    if s.sup.recovery then activateTadpole s h scope at_
    else if s.nv.boot.pending ≠ 0 ∨ s.fw.activation.isSome then refuse s h 0x0C05 0x8C
    else if s.fw.hostMode ∧ at_ ≠ 0 then refuse s h 0x0C05 0x89
    else if s.fw.hostMode ∧ scope ≠ 0 then refuse s h 0x0C05 stRejected
    else if s.fw.hostMode = false ∧ (at_ < s.packTime + 500 * msT ∨ s.packTime + 86400 * secT < at_) then refuse s h 0x0C05 0x89
    else if scope = 1 ∧ !(s.chain.isHead && !s.chain.secondary) then refuse s h 0x0C05 stRejected
    else if tmask % 32 = 0 ∨ allVerified s tmask = false then refuse s h 0x0C05 0x88
    else if rolledBack s tmask then refuse s h 0x0C05 0x83
    else if conditionsHold s tmask = false then refuse s h 0x0C05 0x8A
    else acceptActivate s h (tmask % 32) scope at_

/-- ACTIVATION_COMMIT_POINT (R490): 100 ms before its time every package checks again; `failed` are the packages whose check failed. -/
def execActivationCommitPoint (failed : List Nat) (s : State) : Host.Outcome State Fault Refusal :=
  .next <|
    match s.fw.activation with
    | none => s
    | some a =>
      if a.committed || decide (s.packTime + 100 * msT < a.at_) then s
      else
        let own := conditionsHold s a.tmask && allVerified s a.tmask
        let bad := if own then failed else s.chain.addr :: failed
        match bad with
        | [] => commitBoot { s with fw := { s.fw with activation := some { a with committed := true } } } a.tmask a.at_
        | x :: _ =>
          let s := if a.scope = 1 && a.hdr.isSome then sendFrame s 0x0E 0xFF 2 false false (armFrame 3 a.tmask a.at_) else s
          endActivation s 0x8A (le 1 1 ++ zeros 3 ++ outcomeBytes x 2 0)

/-- Class changes of a bundle, each subject to R406 (R484). -/
def cfgReactions (t : List Nat) : List Byte → List Nat
  | k :: c :: r =>
    let d := nth defaultClasses k.toNat 0
    cfgReactions (if 3 ≤ d ∨ k = 0x90 ∨ k = 0x91 ∨ 3 < c.toNat ∨ (d = 2 ∧ c.toNat < 2) then t else t.set k.toNat c.toNat) r
  | _ => t

/-- Stored settings as a bundle's record of Studio settings gives them: free values in their widths, since no document lays the record
out (log entry 42). -/
def bundleSettings (c : List Byte) (x : Settings) : Settings :=
  let v := fun (k w : Nat) => Config.bundleSetting c k % 2 ^ w
  { x with
    wakeMask := v 0 16, wakeState := v 1 8, sleepChk := v 2 8, wakeTime := v 3 64, sleepTemp := v 4 8, monPeriod := v 5 32
    monOrder := v 6 8, monDec := v 7 16, levels := [signed 16 (v 8 16), signed 16 (v 9 16), signed 16 (v 10 16), signed 16 (v 11 16)]
    rise := v 12 16, scrubMode := v 13 8, src32 := v 14 8 }

/-- One record of a bundle is applied (R484). -/
def cfgApply (s : State) (r : Nat × List Byte) : State :=
  if r.1 = 1 then
    let m := (fit 6 r.2).map (·.toNat)
    restartFilters { s with
      nv := { s.nv with cellMap := m }
      segs := s.segs.map fun d => { d with
        cells := nth m (d.code - 2) 0
        seq := if nth m (d.code - 2) 0 = 0 then [] else [SeqEntry.allCells (nth m (d.code - 2) 0)] } }
  else if r.1 = 2 then { s with nv := { s.nv with settings := bundleSettings r.2 s.nv.settings } }
  else if r.1 = 3 then
    let t := cfgReactions s.faults.table r.2
    flashPush { s with faults := { s.faults with table := t, tableGen := s.faults.tableGen + 1 } }
      (.reactionTable t (s.faults.tableGen + 1))
  else if r.1 = 4 then { s with nv := { s.nv with newKey := some (fit 64 r.2) } }
  else s

/-- The CONFIG bundle of a set that now runs is applied (R484, R489). -/
def applyBundle (s : State) (set_ : Nat) : State :=
  if bit set_ 4 then
    match imageAt s (placeIdx 4 (bit s.fw.running 4)) with
    | some i => (cfgRecords i.payload.length i.payload).foldl cfgApply s
    | none => s
  else s

/-- What a fallback gives back, kept as a set with a CONFIG bundle becomes the running one (R484, R497). -/
def keepForFallback (s : State) : Option Migration :=
  if bit s.nv.boot.pending 4 then
    some { fmt := s.nv.setFmt, settings := s.nv.settings, cal := s.nv.cal, reaction := s.nv.reaction, cellMap := s.nv.cellMap }
  else s.nv.migrated

/-- The pending places become the running ones (R489); what a fallback gives back is kept (R497), and the confirmation timer starts
(R495). -/
def switchPlaces (s : State) : State :=
  let b := s.nv.boot
  let s := writeBoot s { b with bootCount := 1 }
  let s := { s with
    fw := { s.fw with running := b.active ^^^ b.pending }
    aon := { s.aon with confirmEnd := some (s.now + 60 * secT) }
    nv := { s.nv with migrated := keepForFallback s } }
  raise (applyBundle s b.pending) 0 9 0xBA (256 * b.pending)

/-- ACTIVATION (R489, R490): at the activation time the places switch and what uses them restarts; a part-level set switches in the
start that follows its part reset (R491). -/
def execActivation (s : State) : Host.Outcome State Fault Refusal :=
  .next <|
    let b := s.nv.boot
    if b.pending = 0 ∨ s.fw.running ≠ b.active ∨ s.packTime < b.actAt then s
    else
      let s := { s with fw := { s.fw with activation := s.fw.activation.map fun a => { a with done := true } } }
      if partLevel b.pending then partReset s 1
      else
        let s := switchPlaces s
        let s := if bit b.pending 3 then { s with chain := { s.chain with placeB := true }, fw := { s.fw with noRadio := false } } else s
        if bit b.pending 1 || bit b.pending 4 then studioRestart s false else s

/-- The ACTIVATE operation ends with the outcome of every package covered; an abort accepted after the commit point yields
COMPLETED_BEFORE_ABORT (R492, R504). -/
def finishActivate (s : State) (members : List (Nat × Nat × Nat)) : State :=
  match s.fw.activation with
  | none => s
  | some a =>
    let all := if a.scope = 1 then members else []
    let s := { s with fw := { s.fw with activation := none } }
    let res := le 1 (all.length + 1) ++ zeros 3 ++ outcomeBytes s.chain.addr 0 0 ++ all.flatMap fun m => outcomeBytes m.1 m.2.1 m.2.2
    match a.hdr with
    | none => s
    | some h => if all.all (fun m => m.2.1 == 0) then completeOpFlash s h res else completeOp s h 0x8D res

/-- The places of a pending set whose previous place holds no image: nothing stays in them that could be activated again. -/
def emptyBehind (s : State) : Nat :=
  ((List.range 5).map fun t =>
    if bit s.nv.boot.pending t && (imageAt s (placeIdx t (bit s.nv.boot.active t))).isNone then 2 ^ t else 0).sum

/-- The places that are active once the running set is confirmed; a migrated settings area becomes the active one (R488, R497). -/
def confirmedPlaces (s : State) : Nat := if s.nv.boot.migrate = 1 then s.fw.running ^^^ 32 else s.fw.running

/-- CONFIRMATION (R494, R498, R503): the running set is confirmed; the previous images stay verified in their places (log entry 32).
`healthy` says that tasks, dies and radio meet their conditions, and `members` are the outcomes of the other packages covered. -/
def execConfirmation (healthy : Bool) (members : List (Nat × Nat × Nat)) (s : State) : Host.Outcome State Fault Refusal :=
  .next <|
    if !unconfirmed s || !healthy || !s.sup.ready then s
    else
      let b := s.nv.boot
      let roll := (List.range 5).map fun t =>
        if bit b.pending t then ((imageAt s (placeIdx t (bit s.fw.running t))).map (·.rollback)).getD 0 else nth b.rollIdx t 0
      let e := emptyBehind s
      let p := confirmedPlaces s
      let s := writeBoot s { b with
        active := p, pending := 0, bootCount := 0, actAt := 0, rollIdx := roll, verified := b.verified - (b.verified &&& e)
        complete := b.complete - (b.complete &&& e), migrate := 0 }
      let s := { s with
        fw := { s.fw with running := p }
        nv := { s.nv with
          setFmt := (s.nv.migrated.map (·.fmt)).getD s.nv.setFmt, migrated := none
          customerKey := s.nv.newKey.getD s.nv.customerKey, newKey := none }
        aon := { s.aon with confirmEnd := none } }
      finishActivate (raise s 0 9 0xBA (256 * b.pending + 1)) members

/-- CONFIRM_TIMEOUT (R495). -/
def execConfirmTimeout (s : State) : Host.Outcome State Fault Refusal :=
  .next <|
    if unconfirmed s && s.aon.confirmEnd.any (fun t => decide (t ≤ s.now)) then
      attemptFailed (raise { s with aon := { s.aon with confirmEnd := none } } 0 9 0xB4 s.nv.boot.bootCount) 0xB4
    else s

/-- Seconds left on the confirmation timer, a part of a second as a whole one (R504). -/
def confirmLeft (s : State) : Nat := (s.aon.confirmEnd.map fun t => (t - s.now + secT - 1) / secT).getD 0

/-- The 72 bytes of GET_UPDATE_STATUS (R504). -/
def updateStatus (s : State) : List Byte :=
  let b := s.nv.boot
  le 1 b.active ++ le 1 b.pending ++ le 1 b.verified ++ le 1 b.bootCount ++
    le 1 ((s.fw.transfer.map fun t => t.target + 128).getD 0) ++ le 1 (b2n s.fw.hostMode) ++ le 1 (b2n (s.nv.customerKey != [])) ++
    le 1 (confirmLeft s) ++ le 4 ((s.fw.transfer.map (·.received)).getD 0) ++ le 8 b.actAt ++
    (List.range 5).flatMap (fun t => le 4 (((imageAt s (inactivePlace s t)).map (·.version)).getD 0)) ++ le 4 b.brgen ++
    le 4 s.nv.spares.length ++ (List.range 5).flatMap (fun t => le 4 (nth b.rollIdx t 0)) ++ zeros 4

/-- GET_UPDATE_STATUS (R504). -/
def execGetUpdateStatus (h : Hdr) (s : State) : Host.Outcome State Fault Refusal :=
  .next <| runCmd s h 0x0C06 fun s => reply s h 0x0C06 stOk (updateStatus s)

/-- SET_ACTIVATION_MODE (R493). -/
def execSetActivationMode (h : Hdr) (mode : Nat) (s : State) : Host.Outcome State Fault Refusal :=
  .next <| runCmd s h 0x0C07 fun s =>
    if s.nv.boot.pending ≠ 0 ∨ s.fw.activation.isSome then refuse s h 0x0C07 0x8C
    else reply { s with fw := { s.fw with hostMode := mode == 1 } } h 0x0C07 stOk []

/-- ENTER_RECOVERY (R500). The reply goes out before the part resets, so it is noted as sent on medium 4, the host port (log entry 43). -/
def execEnterRecovery (h : Hdr) (p : Proof) (s : State) : Host.Outcome State Fault Refusal :=
  .next <| runCmd s h 0x0C08 fun s =>
    withProof s h 0x0C08 (zeros 4) p fun s =>
      if !s.aon.bootrec then refuse s h 0x0C08 stRejected
      else
        let s := emit s 4 0 h.prio (replyBytes (mkReply h 0x0C08 stOk []))
        partReset { s with aon := { s.aon with recoveryFlag := true } } 1

/-- SET_CUSTOMER_KEY (R503). -/
def execSetCustomerKey (h : Hdr) (key : List Byte) (p : Proof) (s : State) : Host.Outcome State Fault Refusal :=
  .next <| runCmd s h 0x0C09 fun s =>
    withProof s h 0x0C09 (zeros 4 ++ key) p fun s =>
      if s.nv.customerKey ≠ [] then refuse s h 0x0C09 0x8B
      else if !lifeInUse s then refuse s h 0x0C09 stRejected
      else reply { s with nv := { s.nv with customerKey := key } } h 0x0C09 stOk []

end Sys2Proof.Machine
end

