-- ==== Sys2Proof/Machine/StartRows.lean ====
section
/-! DEFINITION. A start of C: secure boot, LBIST at start, loading what flash holds, and the Studio's readiness (R193, R394, R407,
R414, R425, R432, R445, R454, R480, R481, R491, R494 to R502, R508, R515, R516). -/
namespace Sys2Proof.Machine

/-- The block of a segment die that raises a kind; a kind of a Dolly comes from the Dolly in its detail (R564). -/
def dieBlock (kind detail : Nat) : Nat := if (sBlocks kind).length = 4 then 2 + detail / 256 else (sBlocks kind).headD 0

/-- A record that a segment die kept in SLEEP enters the collector (R432, R565). A comparator that tripped stays tripped. -/
def sleepRecord (s : State) (die : Nat) (r : Nat × Nat) : State :=
  let s := s.updDie die fun d => { d with comps := updAt d.comps (r.2 - 1) fun c =>
    { c with ovTrip := c.ovTrip || r.1 == 0x90, uvTrip := c.uvTrip || r.1 == 0x91 } }
  collectCarried s (newRec s (faultMsg die (dieBlock r.1 r.2) r.1 r.2) (classOf s r.1) realMsg)

/-- Records from the always-on domains of C and of the dies enter before any new message (R414, R426, R432). -/
def carriedRecords (s : State) : State :=
  let dies := s.segs
  let own := s.aon.carried
  let s := { s with aon := { s.aon with carried := [] }, segs := s.segs.map fun d => { d with aonRecs := [] } }
  let s := dies.foldl (fun s d => d.aonRecs.foldl (fun s r => sleepRecord s d.code r) s) s
  own.foldl collectCarried s

/-- A boot sector whose latest record failed is named; the other one's record is used (R488, R506). -/
def bootSectors (s : State) (good : List Bool) : State :=
  [0, 1].foldl (fun s k => if nth good k true then s else raise s 0 9 0xB8 k) s

/-- Tadpole starts (R480, R500 to R502). -/
def startTadpole (s : State) (cause : Nat) : State :=
  let s := carry { s with aon := { s.aon with recoveryFlag := false } } 9 0xBB cause
  { s with sup := { s.sup with recovery := true, keeper := false, ready := false, stopped := true } }

/-- What the ROM and the Keeper do with a pending set at a start (R491, R495, R499). -/
def startPending (s : State) : State :=
  let b := s.nv.boot
  if b.pending = 0 ∨ b.actAt = 0 then { s with fw := { s.fw with running := b.active } }
  else if b.bootCount = 0 then
    if b.actAt ≤ s.packTime then switchPlaces s else { s with fw := { s.fw with running := b.active } }
  else
    let s := writeBoot s { b with bootCount := b.bootCount + 1 }
    { s with fw := { s.fw with running := b.active ^^^ b.pending }, aon := { s.aon with confirmEnd := some (s.now + 60 * secT) } }

/-- The slot of a target is checked, and the other one taken where it fails; none where both fail (R480, R481). -/
def pickSlot (s : State) (target : Nat) (good : List Bool) : Option Bool :=
  let cur := bit s.fw.running target
  if nth good (b2n cur) true then some cur else if nth good (b2n (!cur)) true then some (!cur) else none

/-- Run a place of a target. -/
def runPlace (s : State) (target : Nat) (b : Bool) : State := { s with fw := { s.fw with running := setBit s.fw.running target b } }

/-- The result word of a die (R514): 0 stands for C. -/
def lbWordOf (s : State) (die : Nat) : BitVec 32 := if die = 0 then s.aon.lbWord else ((s.die? die).map (·.lbWord)).getD 0

/-- Store the result word of a die (R514). -/
def setLbWord (s : State) (die : Nat) (w : BitVec 32) : State :=
  if die = 0 then { s with aon := { s.aon with lbWord := w } } else s.updDie die fun d => { d with lbWord := w }

/-- A result word: RESULT, ATSTART, SKIP, SIGLOW (R514). -/
def lbWordMake (result : Nat) (atStart : Bool) (skip sigLow : Nat) : BitVec 32 :=
  BitVec.ofNat 32 (result + 4 * b2n atStart + 16 * skip + 65536 * (sigLow % 65536))

/-- LBIST at start of one die (R515): run where the stored word is not a pass; `runs` gives how it ends. -/
def lbistAtStart (runs : List (Nat × Bool × Nat)) (s : State) (die : Nat) : State :=
  let w := (lbWordOf s die).toNat
  if w % 4 = 1 then s
  else
    let s := if w % 4 = 2 then s else raise s 0 9 0xC2 (256 * die + w / 16 % 16)
    match runs.find? fun r => r.1 == die with
    | none => s
    | some r =>
      let s := setLbWord s die (lbWordMake (if r.2.1 then 1 else 2) true 0 r.2.2)
      if r.2.1 then (if w % 4 = 2 then raise s 0 9 0xC1 die else s)
      else raise { s with life := { s.life with degraded := setBit s.life.degraded die true } } 0 9 0xC0 die

/-- LBIST at start, C first, in the life-cycle states that run it (R515). -/
def lbistStart (s : State) (runs : List (Nat × Bool × Nat)) : State :=
  if lifeInUse s then (0 :: s.segs.map (·.code)).foldl (lbistAtStart runs) s else s

/-- The safety configuration is loaded (R394). -/
def loadSafety (s : State) (good : List Bool) : State :=
  match s.nv.safety with
  | none => s
  | some (img, g) =>
    if good.any id || good.isEmpty then { s with safety := { s.safety with image := img, gen := g, valid := true } }
    else raise s 0 7 0x7A 0

/-- The reaction table is loaded (R407). -/
def loadReaction (s : State) (good : List Bool) : State :=
  match s.nv.reaction with
  | none => s
  | some (t, g) =>
    if good.any id || good.isEmpty then { s with faults := { s.faults with table := t, tableGen := g } } else raise s 0 9 0x8E 0

/-- Bit of a calibration record in LOSTMASK (R201). -/
def calBit (r : CalRecord) : Nat := if r.kind = 0 then r.input - 24 else if r.kind = 1 then 0 else r.input

/-- Calibration records are loaded from a good copy of each; `badA` and `badB` are the indices of the first and second copies that fail their check.
A channel whose two copies fail is lost (R192, R193). -/
def loadCal (s : State) (badA badB : List Nat) : State :=
  let l := s.nv.cal.zipIdx
  { s with cal := { s.cal with
    live := l.filterMap fun x => if !badA.contains x.2 then some x.1 else if badB.contains x.2 then none else s.nv.calB[x.2]?
    lost := (l.filter fun x => badA.contains x.2 && badB.contains x.2).map fun x => (x.1.die, x.1.kind, calBit x.1) } }

/-- The S_MICROCODE and RADIO images are checked and loaded (R481). -/
def loadParts (s : State) (b : BootFindings) : State :=
  let s := match pickSlot s 2 b.microGood with
    | some p => b.patchRejected.foldl (fun s c => raise s 0 9 0xB6 c) (runPlace s 2 p)
    | none => raise { s with fw := { s.fw with romMicro := true } } 0 9 0xB6 0
  match pickSlot s 3 b.radioGood with
  | some p => runPlace s 3 p
  | none => raise (raise { s with fw := { s.fw with noRadio := true } } 0 9 0xB7 0) 0 5 0x5F 0

/-- Downloads that a reset cut short are discarded, and a complete image that was being verified is verified again (R499). -/
def cutDownloads (s : State) : State :=
  (List.range 5).foldl (fun s t =>
    match imageAt s (inactivePlace s t) with
    | none => s
    | some i =>
      if i.payload.length < i.length then raise (invalidate s t) 0 9 0xB9 t
      else if bit s.nv.boot.complete t && !bit s.nv.boot.verified t then verifyEnd s t (verifyImage s t).1
      else s) s

/-- Ticks in a day. -/
abbrev dayT : Tick := 86400 * secT

/-- Age of the last complete scrub pass: the larger of the Gaffer's count and the stored date's (R469). -/
def scrubAge (s : State) : Tick := max (s.now - s.aon.scrubFrom) (s.packTime - s.nv.settings.scrubDate)

/-- An age beyond 820 days is recorded at each start (R471). -/
def scrubOverdue (s : State) : State :=
  if 820 * dayT < scrubAge s then raise s 0 13 0xAD ((scrubAge s - 730 * dayT) / dayT) else s

/-- The start marker of the Dailies: reset cause, life-cycle state, releases of Keeper and Studio (R430; log entry 44). -/
def startMarker (s : State) : State :=
  dailiesPut s
    { dseq := 0, at_ := s.packTime, source := 9, kind := 0xAB, dtype := 3, dflags := 8 * b2n (!s.chain.locked)
      data := fit 28 (le 1 s.aon.wakeCause ++ le 1 s.life.state ++ le 4 (runningRelease s 0) ++ le 4 (runningRelease s 1)) } true

/-- The state that a start enters: SERVICE where it is degraded or a scrub woke the part, else WAKESTATE (R445, R469, R516). -/
def enterState (s : State) : State :=
  if s.life.degraded ≠ 0 then { s with power := { s.power with state := .service } }
  else if s.aon.scrubReturn.isSome then
    { s with power := { s.power with state := .service, scrub := some { hdr := none, done := 0, rewritten := 0, failed := 0, stepAt := s.now } } }
  else if s.nv.settings.wakeState = 2 then { s with power := { s.power with state := .monitor } }
  else { s with power := { s.power with state := .run } }

/-- The join frame of a start (R297, R307): UID, chain identity, stored address, pack time (their bytes are log entry 62). An enumerated
member waits for its admission (R318). -/
def joinFrame (s : State) : State :=
  let s := { s with chain := { s.chain with joining := decide (1 < s.chain.addr), admitted := false } }
  sendFrame s 0x0A 0xFF 1 false false (le 8 Config.unitId ++ le 4 s.chain.chainId ++ le 1 s.chain.addr ++ le 3 s.packTime)

/-- Comparators that are still tripped with no record of theirs are reported again, so that a clear can reach them (R207, R565; DEDUCED, log entry
138). -/
def tripAgain (s : State) (die : Nat) (under : Bool) (cell : Nat) : State :=
  let kind := if under then 0x91 else 0x90
  let trip := ((s.die? die).bind fun d => d.comps[cell - 1]?).any fun c => if under then c.uvTrip else c.ovTrip
  if trip && !(s.faults.open_.any fun r => msgDie r.msg == die && r.causes.any fun c => c.kind == kind && c.detail == cell) then raise s die 1 kind cell
  else s

/-- The same for every cell of every die. -/
def tripsAgain (s : State) : State :=
  s.segs.foldl (fun s d => (List.range d.cells).foldl (fun s k => tripAgain (tripAgain s d.code false (k + 1)) d.code true (k + 1)) s) s

/-- The Keeper's part of a start, once its slot is good (R307, R445, R481). -/
def keeperStart (s : State) (b : BootFindings) : State :=
  let s := lbistStart s b.lbistPass
  let s := [0, 1].foldl (fun s k => if nth b.lifeGood k true then s else raise s 0 9 0xC6 k) s
  let s := loadCal (loadReaction (loadSafety s b.safetyGood) b.reactionGood) b.calBad b.calBadB
  let s := loadParts (trimFails s b.trimBad) b
  let s := tripsAgain (cutDownloads s)
  let s := { s with
    power := { s.power with
      crystal32 := s.nv.settings.src32 == 0 && (if s.aon.wakeCause = 0 then b.crystal32 else s.power.crystal32) }
    sup := { s.sup with keeper := true, recovery := false } }
  joinFrame (enterState (scrubOverdue (startMarker (raise s 0 13 0xAB s.aon.wakeCause))))

/-- A start of C (R445, R480, R481, R500): carried records, boot record, pending set, Keeper slot, Studio slot, and the rest. -/
def startC (s : State) (b : BootFindings) : State :=
  let s := bootSectors (carriedRecords { s with aon := { s.aon with bootrec := b.bootrec } }) b.bootSectorGood
  if s.aon.recoveryFlag && b.bootrec then startTadpole s 1
  else
    let s := startPending s
    match pickSlot s 0 b.keeperGood with
    | none => startTadpole s 0
    | some k =>
      let s := if k = bit s.fw.running 0 then s else raise (runPlace s 0 k) 0 9 0xB0 (b2n (!k))
      match pickSlot s 1 b.studioGood with
      | none => startTadpole s 0
      | some p =>
        let s := if p = bit s.fw.running 1 then s
          else
            let s := raise (runPlace s 1 p) 0 9 0xB1 (b2n (!p))
            if s.nv.boot.pending = 0 then writeBoot s { s.nv.boot with active := setBit s.nv.boot.active 1 p } else s
        keeperStart s b

/-- Why the third start of an unconfirmed set ended: the keeper watchdog, whose record is carried, or its time (R495, R496). -/
def attemptCause (s : State) : Nat := if s.aon.carried.any fun r => msgKind r.msg == 0x87 then 0x87 else 0xB4

/-- PART_START (R445): only where C is out of reset and has not started yet. An unconfirmed set that has had three starts falls back
(R495). -/
def execPartStart (b : BootFindings) (s : State) : Host.Outcome State Fault Refusal :=
  .next <|
    if !cUp s || s.sup.keeper || s.sup.recovery then s
    else if s.nv.boot.pending ≠ 0 ∧ 3 ≤ s.nv.boot.bootCount then startC (fallback s (attemptCause s)) b
    else startC s b

/-- The new Studio reads the settings: converts them where its format differs, with MIGRATE set (R497). -/
def readSettings (s : State) : State :=
  match imageAt s (placeIdx 1 (bit s.fw.running 1)) with
  | none => s
  | some i =>
    if !unconfirmed s || i.setFmt == s.nv.setFmt || !bit s.nv.boot.pending 1 then s
    else
      let s := writeBoot s { s.nv.boot with migrate := 1 }
      let now_ : Migration :=
        { fmt := i.setFmt, settings := s.nv.settings, cal := s.nv.cal, reaction := s.nv.reaction, cellMap := s.nv.cellMap }
      let m := s.nv.migrated.getD now_
      { s with nv := { s.nv with migrated := some { m with fmt := i.setFmt } } }

/-- The Keeper reads the checkpoint table that leads the Studio image (R423, R484); an image without one keeps the table in use
(log entry 11). -/
def readCheckpoints (s : State) : State :=
  match imageAt s (placeIdx 1 (bit s.fw.running 1)) with
  | none => s
  | some i =>
    if i.payload.length < 36 then s
    else { s with sup := { s.sup with
      window := leVal (i.payload.take 2)
      limits := (List.range 16).map fun k => (leVal ((i.payload.drop (4 + 2 * k)).take 1), leVal ((i.payload.drop (5 + 2 * k)).take 1)) } }

/-- STUDIO_READY (R425, R453, R497): the Studio serves the mailboxes from here on. -/
def execStudioReady (settingsReadable : Bool) (s : State) : Host.Outcome State Fault Refusal :=
  .next <|
    if !cUp s || !s.sup.keeper || s.sup.ready || s.sup.halted || s.sup.fatal || s.sup.recovery then s
    else if !settingsReadable && unconfirmed s then fallback (raise s 0 9 0xB3 s.nv.setFmt) 0xB3
    else
      let s := if settingsReadable then readSettings s else raise s 0 9 0xB3 s.nv.setFmt
      let s := readCheckpoints s
      if s.sup.fatal || s.sup.halted then s
      else
        { s.setIrq irqReady with
          sup := { s.sup with ready := true, stopped := false, restartAt := none, counts := List.replicate 16 0 }
          balance := { s.balance with planned := true } }

end Sys2Proof.Machine
end

