-- ==== Sys2Proof/Machine/LifeRows.lean ====
section
/-! DEFINITION. Life cycle, self-test on command and returns: the rows of class 0x0D, the nonce and the test access (R508 to R523). -/
namespace Sys2Proof.Machine

/-- The word of R514 for a die code as GET_LIFECYCLE returns it: 0 for an unfitted die and for M (R521). -/
def lbReport (s : State) (code : Nat) : Nat := if code = 1 ∨ !s.fitted code then 0 else (lbWordOf s code).toNat

/-- GET_LIFECYCLE (R521). -/
def execGetLifecycle (h : Hdr) (s : State) : Host.Outcome State Fault Refusal :=
  .next <| runCmd s h 0x0D01 fun s =>
    reply s h 0x0D01 stOk
      (le 1 s.life.state ++ le 1 s.life.degraded ++ zeros 2 ++ le 4 s.life.gen ++ (List.range 8).flatMap fun c => le 4 (lbReport s c))

/-- A transition (R510): the record is written with the next generation, LIFECYCLE_CHANGED is raised, and a Dailies entry made, whose data
bytes no chapter defines (free, log entry 64). -/
def lifeSet (s : State) (state : Nat) : State :=
  let old := s.life.state
  let s := { s with
    nv := { s.nv with lcState := state, lcGen := (s.nv.lcGen + 1) % 2 ^ 32 }
    life := { s.life with state := state, gen := (s.nv.lcGen + 1) % 2 ^ 32 } }
  let s := raise s 0 9 0xC3 (256 * old + state)
  (dailiesPut s
    { dseq := 0, at_ := s.packTime, source := 9, kind := 0xC3, dtype := 2, dflags := 8 * b2n (!s.chain.locked), data := s.freeBytes 28 }
    false).draw

/-- The keys and sessions that RETURN and SCRAP erase: customer key, password, chain key, every session (R511, R520). -/
def eraseKeys (s : State) : State :=
  { s with
    nv := { s.nv with customerKey := [], newKey := none, password := [], chainKey := [] }
    safety := { s.safety with sessions := [] }
    radio := { s.radio with key := [] } }

/-- Every accepted flash job is carried out: what a shutdown and a reset after a reply wait for (R19, R428, R444). -/
def flashAll (s : State) : State := s.flash.jobs.foldl applyJob { s with flash := { s.flash with jobs := [] } }

/-- A reply that goes out before the part resets: on the host port (medium 4), or over DeariLink to the head that asked (log entry 43). -/
def replyNow (s : State) (h : Hdr) (op status : Nat) (result : List Byte) : State :=
  let b := replyBytes (mkReply h op status result)
  if h.origin = 0 then emit s 4 0 h.prio b else sendMail s 0x06 h.origin h.prio op b

/-- Bytes of a token (R519). -/
def tokenField (t : List Byte) (off n : Nat) : List Byte := (t.drop off).take n

/-- KEYTAG as it must read (R519, R520). -/
def keyTag (s : State) : List Byte := if s.nv.customerKey = [] then zeros 4 else (Config.sha256 s.nv.customerKey).take 4

/-- Does every field of a token match the part (R519, R520)? -/
def tokenFields (s : State) (t : List Byte) (target : Nat) : Bool :=
  tokenField t 0 8 == le 8 Config.unitId && tokenField t 24 1 == le 1 target && decide (leVal (tokenField t 25 1) ≤ 1) &&
    tokenField t 26 2 == zeros 2 && tokenField t 28 4 == keyTag s && tokenField t 32 8 == zeros 8 &&
    (s.nv.customerKey != [] || tokenField t 104 64 == zeros 64)

/-- Do the signatures of a token verify: Folhary's, and the customer's where a key is stored (R519, R520)? -/
def tokenSigned (s : State) (t : List Byte) : Bool :=
  let d := Config.sha256 (t.take 40)
  Config.ecdsaVerify Config.folharyKey d (tokenField t 40 64) &&
    (s.nv.customerKey == [] || Config.ecdsaVerify s.nv.customerKey d (tokenField t 104 64))

/-- The detail of RETURN_TOKEN_REFUSED for a token: 1 signature, 2 nonce, 3 field; 0 for a good one (R523). -/
def tokenFault (s : State) (t : List Byte) (target : Nat) (nonce : List Byte) : Nat :=
  if !tokenSigned s t then 1 else if tokenField t 8 16 != nonce then 2 else if !tokenFields s t target then 3 else 0

/-- Has a nonce expired: 7 days of pack time after its issue (R518)? -/
def nonceOld (s : State) (n : List Byte × Nat) : Bool := decide (n.2 + 7 * dayT ≤ s.packTime)

/-- A token decides: NO_NONCE, TOKEN_INVALID with its record, or the effect; the nonce expires in the last two cases (R518, R520, R522). -/
def withToken (s : State) (h : Hdr) (op : Nat) (t : List Byte) (target : Nat) (body : State → State) : State :=
  match s.life.nonce.filter fun n => !nonceOld s n with
  | none => refuse s h op 0x82
  | some n =>
    let s' := { s with life := { s.life with nonce := none } }
    let f := tokenFault s t target n.1
    if f = 0 then body s' else raise (refuse s' h op 0x81) 0 9 0xC5 f

/-- The needs of FIELD (R510). -/
def fieldNeeds (s : State) : Bool := s.nv.password != [] && s.nv.customerKey != [] && s.nv.safety.isSome && s.safety.valid

/-- LC_ADVANCE (R510). -/
def execLcAdvance (h : Hdr) (targetState : Nat) (token : List Byte) (p : Proof) (s : State) : Host.Outcome State Fault Refusal :=
  .next <| runCmd s h 0x0D02 fun s =>
    withProof s h 0x0D02 (le 1 targetState ++ zeros 3 ++ token) p fun s =>
      let go := fun s : State => let s := lifeSet s targetState; reply s h 0x0D02 stOk (le 4 s.life.gen)
      if s.life.state = 2 ∧ targetState = 3 ∧ fieldNeeds s then go s
      else if s.life.state = 4 ∧ targetState = 2 then withToken s h 0x0D02 token 2 go
      else refuse s h 0x0D02 0x80

/-- RETURN_CHALLENGE (R518, R521): the nonce is a free value (log entry 4). -/
def execReturnChallenge (h : Hdr) (p : Proof) (s : State) : Host.Outcome State Fault Refusal :=
  .next <| runCmd s h 0x0D03 fun s =>
    withProof s h 0x0D03 [] p fun s =>
      let nonce := s.freeBytes 16
      let s := { s.draw with life := { s.life with nonce := some (nonce, s.packTime) } }
      reply s h 0x0D03 stOk
        (le 8 Config.unitId ++ le 8 (if s.part.hasM then s.metro.muid else 0) ++ le 1 s.life.state ++ zeros 3 ++ nonce)

/-- ENTER_RETURN (R510, R520): its token, the record, the erasure, open outputs, the reply and the reset. -/
def execEnterReturn (h : Hdr) (token : List Byte) (p : Proof) (s : State) : Host.Outcome State Fault Refusal :=
  .next <| runCmd s h 0x0D04 fun s =>
    withProof s h 0x0D04 token p fun s =>
      if !lifeInUse s then refuse s h 0x0D04 0x80
      else if s.nv.boot.pending ≠ 0 ∨ s.fw.activation.isSome then refuse s h 0x0D04 0x8C
      else withToken s h 0x0D04 token 4 fun s =>
        partReset (replyNow (flashAll (openOutputs (eraseKeys (lifeSet s 4)) 3)) h 0x0D04 stOk []) 1

/-- The part enters SCRAP (R511). -/
def scrap (s : State) (h : Hdr) : State :=
  partReset (replyNow (flashAll (openOutputs (eraseKeys (lifeSet s 5)) 3)) h 0x0D05 stOk []) 1

/-- LC_SCRAP (R510, R511): in RETURN a maker token takes the place of the session (log entry 65). -/
def execLcScrap (h : Hdr) (confirm : Nat) (token : List Byte) (p : Proof) (s : State) : Host.Outcome State Fault Refusal :=
  .next <| runCmd s h 0x0D05 fun s =>
    let pre := le 4 confirm ++ token
    if proofGood s h 0x0D05 pre p then
      let s := useProof s h p
      if confirm ≠ 0x5C4A0D0D then refuse s h 0x0D05 0x84
      else if s.life.state = 2 ∨ s.life.state = 3 ∨ s.life.state = 4 then scrap s h
      else refuse s h 0x0D05 0x80
    else if s.life.state ≠ 4 then refuse s h 0x0D05 stAuthFailed
    else if confirm ≠ 0x5C4A0D0D then refuse s h 0x0D05 0x84
    else withToken s h 0x0D05 token 5 fun s => scrap s h

/-- What a die meets in a run of LBIST. -/
def lbEnv (env : List LbistEnv) (die : Nat) : Option LbistEnv := env.find? fun e => e.die == die

/-- Do supply and clock of a die allow a run (R512)? -/
def lbAllowed (env : List LbistEnv) (die : Nat) : Bool := (lbEnv env die).any fun e => e.supplyOk && e.clockOk

/-- The end of a run of LBIST on one die (R514, R516): its word; a failure degrades the part, a pass takes the die out of that. -/
def lbistEnd (s : State) (e : LbistEnv) : State :=
  let s := setLbWord s e.die (lbWordMake e.result false 0 e.sigLow)
  if e.result = 1 then { s with life := { s.life with degraded := setBit s.life.degraded e.die false } }
  else if e.result = 2 then raise { s with life := { s.life with degraded := setBit s.life.degraded e.die true } } 0 9 0xC0 e.die
  else s

/-- LBIST_RUN (R512, R514, R516, R521): the named dies run it, and each restarts its filters. -/
def execLbistRun (h : Hdr) (dieMask : Nat) (env : List LbistEnv) (p : Proof) (s : State) : Host.Outcome State Fault Refusal :=
  .next <| runCmd s h 0x0D06 fun s =>
    withProof s h 0x0D06 (le 1 dieMask ++ zeros 3) p fun s =>
      let dies := (s.segs.filter fun d => bit dieMask d.code).map (·.code)
      if bit dieMask 0 || bit dieMask 1 then refuse s h 0x0D06 stFrameInvalid
      else if maskUnfitted s dieMask then refuse s h 0x0D06 stNotFitted
      else if s.power.state ≠ .service ∨ s.sweep.running ∨ s.sweep.inSweep ∨ s.stage.so1 ∨ s.stage.so2 ∨ !lifeInUse s ∨
          !(dies.all (lbAllowed env)) then refuse s h 0x0D06 0x83
      else startOp s h 0x0D06 fun s =>
        let s := dies.foldl (fun s c => match lbEnv env c with
          | some e => restartDie (lbistEnd s e) c
          | none => s) s
        completeOp s h stOk (dies.flatMap fun c => le 4 (lbWordOf s c).toNat)

/-- NONCE_EXPIRY (R518). -/
def execNonceExpiry (s : State) : Host.Outcome State Fault Refusal :=
  .next <| if s.life.nonce.any (nonceOld s) then { s with life := { s.life with nonce := none } } else s

/-- TEST_ACCESS_ATTEMPT (R517): outside MAKER_TEST and RETURN the lands are ignored, and the attempt is recorded once a start. -/
def execTestAccessAttempt (die : Nat) (s : State) : Host.Outcome State Fault Refusal :=
  .next <|
    if !cUp s || s.life.state = 1 || s.life.state = 4 || s.life.attempted || die = 1 || !s.fitted die then s
    else raise { s with life := { s.life with attempted := true } } 0 9 0xC4 die

end Sys2Proof.Machine
end

