-- ==== Sys2Proof/Machine/PowerOps.lean ====
section
/-! DEFINITION. Power states and temperature as shared operations: what a move between power states does, what SLEEP and SHIP keep, wakes,
and what a die and C do with a temperature reading (R440 to R468). -/
namespace Sys2Proof.Machine

/-- STATE as SET_POWER_STATE codes it (R472). -/
def PState.code : PState → Nat
  | .ship => 0 | .sleep => 1 | .monitor => 2 | .run => 3 | .service => 4

/-- The state of a code (R472). -/
def stateOf (n : Nat) : Option PState := [PState.ship, .sleep, .monitor, .run, .service][n]?

/-- A probe of a die is dropped with its order. -/
def dropProbe (s : State) (d : SegDie) : State :=
  let hs := (d.probe.bind (·.hdr)).toList ++ (d.probeWait.map (·.1)).toList
  let s := s.updDie d.code fun d => { d with probe := none, probeWait := none }
  hs.foldl (fun s h => completeOp s h stAborted []) s

/-- What a package that leaves RUN ends: transfers with END 8, the planner's items, an impedance session with END 5, and the tests and
calibrations that need RUN (R29, R228, R258, R285, R440). -/
def leaveRun (s : State) : State :=
  let s := discardPlans (endSession (endAll s 8) 5)
  let s := s.segs.foldl dropProbe s
  let s := s.mail.ops.foldl (fun s o => if [0x0406, 0x0B04, 0x0B05].contains o.opcode then abortOp s o 5 else s) s
  { s with segs := s.segs.map fun d => { d with dollies := d.dollies.map fun y => { y with test := none } } }

/-- Entry into MONITOR (R447, R448): sweeps stop, FILTERID moves on, filters restart; the Studio stays awake for 50 ms. -/
def enterMonitor (s : State) : State :=
  let s := match s.sweep.startPending with
    | some h => completeOp { s with sweep := { s.sweep with startPending := none } } h stAborted []
    | none => s
  let s := finishStops s
  restartFilters { s with
    segs := s.segs.map fun d => { d with checkAt := s.now }
    power := { s.power with sweptBefore := s.sweep.running, lastReply := s.now }
    sweep := { s.sweep with running := false, burst := false }
    slates := { s.slates with filterId := (s.slates.filterId + 1) % 256 } }

/-- The end of MONITOR (R134, R447): FILTERID moves on again, and the sweeps restart if they ran before. -/
def leaveMonitor (s : State) : State :=
  restartFilters { s with
    power := { s.power with sweptBefore := false, studioAsleep := false }
    sweep := { s.sweep with burst := false, running := s.power.sweptBefore }
    slates := { s.slates with filterId := (s.slates.filterId + 1) % 256 } }

/-- Entry into RUN: the group tests are due before the Dollies start (R225, R256). -/
def enterRun (s : State) : State :=
  { s with segs := s.segs.map fun d => { d with dollies := d.dollies.map fun y => { y with testDue := true, testedAt := none } } }

/-- The move to another state in which C runs (R442, R447). -/
def moveAwake (s : State) (target : PState) : State :=
  let s := if s.power.state = .run then leaveRun s else s
  let s := if s.power.state = .monitor then leaveMonitor s else s
  let s := if target = .monitor then enterMonitor s else if target = .run then enterRun s else s
  { s with power := { s.power with state := target } }

/-- A shutdown begins: sweeps stop at the next Take boundary (R444 step 1). -/
def beginShutdown (s : State) (h : Option Hdr) (target : PState) : State :=
  { s with
    power := { s.power with shutdown := some { hdr := h, target := target } }
    sweep := { s.sweep with stopPending := s.sweep.running || s.sweep.stopPending } }

/-- The operation of a move completes with AT (R472). -/
def moved (s : State) (h : Option Hdr) : State :=
  match h with
  | some h => completeOp s h stOk (le 8 s.packTime)
  | none => s

/-- A move is carried out (R442, R444). -/
def doMove (s : State) (h : Option Hdr) (target : PState) : State :=
  if target.dark then beginShutdown s h target else moved (moveAwake s target) h

/-- The sleep settings that a die takes at entry into SLEEP: none while sleep balancing is disabled, in SHIP, and on a die that failed LBIST
(R254, R256, R516). -/
def sleepCfg (s : State) (target : PState) (die : Nat) : Option (Nat × Nat × Nat × Nat × Nat) :=
  let b := s.balance
  if target = .sleep ∧ b.sleepOn ∧ !bit s.life.degraded die then some (b.sleepPeriod, b.sleepTarget, b.sleepBand, b.isleep, b.maxAwake) else none

/-- A segment die in SLEEP or SHIP: nothing runs, and its sleep balancing wakes it after one period (R254, R446). -/
def sleepDie (s : State) (target : PState) (d : SegDie) : SegDie :=
  let c := sleepCfg s target d.code
  { d with
    test := { d.test with running := false, heldUrgent := none }, probe := none, probeWait := none, lbist := false, stopping := false
    refOk := [false, false, false], refSince := [none, none, none], gates := [], checkAt := s.now
    dollies := d.dollies.map fun y => { y with transfer := none, test := none }
    comps := d.comps.map fun c => { c with ovSleep := 0, uvSleep := 0 }
    sleep := { d.sleep with awake := false, cfg := c, nextWake := c.map fun x => s.now + x.1 * secT } }

/-- C's domains but AON go dark, and the dies fall to their SLEEP or SHIP behaviour; the thresholds, limits and derating that the dies hold stay
(R40, R250, R255, R439, R446, R450). -/
def darken (s : State) (target : PState) : State :=
  let t := resetC s s.aon.wakeCause
  { t with
    power := { t.power with state := target }
    aon := { s.aon with wakeCause := s.aon.wakeCause }
    safety := { t.safety with image := s.safety.image, gen := s.safety.gen, valid := s.safety.valid }
    balance := { t.balance with cellHi := s.balance.cellHi, cellLo := s.balance.cellLo, derate := s.balance.derate }
    segs := s.segs.map (sleepDie s target) }

/-- What a die that wakes has counted since its reset stays: the sleep wakes and seconds, the charge and the loss (R258; log entry 144). -/
def keepTotals (old new : SegDie) : SegDie :=
  { new with
    lossMj := old.lossMj, sleep := { new.sleep with wakes := old.sleep.wakes, seconds := old.sleep.seconds }
    dollies := new.dollies.zipIdx.map fun p => { p.1 with moved := ((old.dollies[p.2]?).map (·.moved)).getD 0 } }

/-- A wake (R445, R452, R469): a start with its cause; the first power-up of VLV finds the always-on domain lost, and pack time goes on from
the saved value plus 3600 s (R312). -/
def wakeUp (s : State) (code : Nat) : State :=
  let s := { s with
    aon := { s.aon with scrubReturn := if code = 8 then some s.power.state else none }
    nv := { s.nv with settings := { s.nv.settings with wakeArmed := s.nv.settings.wakeArmed && code != 5 } } }
  let t := partReset s code
  if code = 0 then
    { t with
      aon := { Aon.reset with scrubFrom := s.now }
      packTime := if s.nv.packSaved = 0 then s.packTime else s.nv.packSaved + 3600 * secT }
  else if code = 1 then t
  else { t with segs := t.segs.map fun d => ((s.die? d.code).map fun o => keepTotals o d).getD d }

/-- Replies that still wait go out before the mailboxes lose power (R444; log entry 43). -/
def flushReplies (s : State) : State :=
  s.mail.replies.foldl (fun s r =>
    if r.origin = 0 then emit s 4 0 r.prio (replyBytes r) else sendMail s 0x06 r.origin r.prio r.opcode (replyBytes r))
    { s with mail := { s.mail with replies := [] } }

/-- Entry into SLEEP or SHIP (R444 step 7). A wake source that fired during the shutdown wakes at once (R512). -/
def powerDown (s : State) (target : PState) : State :=
  let s := darken (flashAll (flushReplies s)) target
  match s.aon.wakeReq with
  | some c => wakeUp s c
  | none => s

/-- C drops out of every state in an instant: a brown-out, or its thermal stop (R41, R456, R467). Where C is down already, the dies go on. -/
def dropC (s : State) (brown hot : Bool) : State :=
  let t := if isDark s then s else darken s .sleep
  { t with aon := { t.aon with brownOut := t.aon.brownOut || brown, cStopped := t.aon.cStopped || hot, wakeReq := none } }

/-! Temperature. -/

/-- Is a reading outside -55 °C to +175 °C (R463)? -/
def tempOut (t : Int) : Bool := decide (t < -5500) || decide (17500 < t)

/-- The temperature that counts for derating, throttling and stops: Tstop while the sensor is in fault (R463). -/
def Therm.eff (t : Therm) : Int := if t.fault then 13000 else t.temp

/-- The reading 1 s earlier, or the reading before where rounds are 1 s apart (R462). -/
def tempBefore (now : Tick) (h : List (Tick × Int)) : Option Int := (h.find? fun x => decide (x.1 + secT ≤ now)).map (·.2)

/-- One level's dwell with a reading (R461). -/
def dwellStep (now : Tick) (temp level : Int) (above : Bool) (dwell : Option Tick) : Option Tick :=
  if level = -32768 then none
  else if (if above then decide (temp ≤ level - 500) else decide (level ≤ temp)) then some (dwell.getD now) else none

/-- A reading enters a die's temperature record (R460 to R463): sensor check, rate of rise, level dwells. `rise` is RISE. -/
def thermRead (now : Tick) (levels : List Int) (rise : Nat) (temp : Int) (t : Therm) : Therm :=
  let jump := t.hist.head?.any fun x => decide (2000 < (temp - x.2).natAbs)
  let jumps := if jump then t.jumps + 1 else 0
  let diff := ((tempBefore now t.hist).map fun b => temp - b).getD 0
  let steep := decide (rise ≠ 0) && decide (10 * (rise : Int) ≤ diff)
  let calm := decide (diff < 5 * (rise : Int))
  let calmSince := if calm then some (t.calmSince.getD now) else none
  { t with
    temp := temp
    hist := ((now, temp) :: t.hist).filter fun x => decide (now ≤ x.1 + secT + 50 * msT)
    rate := divRound diff 10
    riseCount := if steep then t.riseCount + 1 else 0
    riseArmed := t.riseArmed || calmSince.any fun c => decide (c + 2 * secT ≤ now)
    calmSince := calmSince
    jumps := jumps
    fault := tempOut temp || decide (2 ≤ jumps)
    dwell := (List.range 4).map fun k => dwellStep now temp (nth levels k (-32768)) (nth t.above k false) (nth t.dwell k none) }

/-- Does a record of rise go out now (R462)? -/
def riseDue (t : Therm) : Bool := t.riseArmed && decide (2 ≤ t.riseCount)

/-- The messages of a reading that need no more than the record: sensor fault and rise (R462, R463). -/
def thermMessages (s : State) (die block : Nat) (old new : Therm) : State :=
  let s := if new.fault && !old.fault then raise s die block 0xA7 (new.temp % 65536).toNat else s
  if riseDue new then raise s die block 0xA1 (new.rate % 65536).toNat else s

/-- The record after its rise has been raised. -/
def riseTaken (t : Therm) : Therm := if riseDue t then { t with riseArmed := false, calmSince := none } else t

/-- Follow the time since which a stopped die has read below 125 °C (R468). -/
def coolStep (now : Tick) (stopped : Bool) (t : Therm) : Therm :=
  { t with coolSince := if stopped ∧ t.eff < 12500 then some (t.coolSince.getD now) else none }

/-- The proportional limit of R250, rounded down (log entry 70). -/
def limitAt (imax : Nat) (knee stop t : Int) : Nat :=
  if t ≤ knee then imax else if stop ≤ t ∨ stop ≤ knee then 0 else ((imax : Int) * (stop - t) / (stop - knee)).toNat

/-- The thermistor entry of a die (R250). -/
def thermEntry (s : State) (d : SegDie) : Option DerateEntry :=
  s.balance.derate.find? fun e => e.die == d.code && decide (24 ≤ e.therm) && decide (e.therm ≤ 31)

/-- What a die's derating thermistor shows with a reading of it, in 0.01 °C: STOP while it is open or shorted; none without a thermistor or a reading
(R227, R251). -/
def thermShown (s : State) (d : SegDie) (reading : DerateEntry → Option Int) : Option (DerateEntry × Int) :=
  (thermEntry s d).bind fun e =>
    (if d.thermOpen.contains e.therm || d.thermShort.contains e.therm then some e.stop else reading e).map fun t => (e, t)

/-- The latest sample of a thermistor, in 0.01 °C (R251). -/
def thermTemp (d : SegDie) (e : DerateEntry) : Option Int := (nth d.hist e.therm []).head?.map fun x => divRound x.nv 1000

/-- The limit of a die's Dollies in hardware derating mode: the lower of its two sources (R250). -/
def derateLimit (d : SegDie) (imax : Nat) (therm : Option (DerateEntry × Int)) : Nat :=
  let a := limitAt imax 10500 13000 d.therm.eff
  match therm with
  | some x => min a (limitAt imax x.1.knee x.1.stop x.2)
  | none => a

/-- The temperature of a source of derating that is at its Tstop, or none (R252). -/
def derateHot (d : SegDie) (therm : Option (DerateEntry × Int)) : Option Int :=
  if 13000 ≤ d.therm.eff then some d.therm.temp else (therm.filter fun x => decide (x.1.stop ≤ x.2)).map (·.2)

/-- Do both sources of derating lie at least 5 K below their Tstop (R252)? -/
def derateCalm (d : SegDie) (therm : Option (DerateEntry × Int)) : Bool :=
  decide (d.therm.eff ≤ 12500) && therm.all fun x => decide (x.2 ≤ x.1.stop - 500)

/-- Derating in a housekeeping round (R250, R252, R253): the limit, which the running transfers follow, DOLLY_DERATING once, and the stop at Tstop; under
host caps the transfers keep to the caps, and neither applies. A die in SLEEP keeps its records itself: `note` is where they go. -/
def derate (s : State) (die imax : Nat) (therm : Option (DerateEntry × Int)) (note : State → Nat → Nat → State) : State :=
  match s.die? die with
  | none => s
  | some d =>
    let s := s.updDie die fun d => { d with calmAt := if derateCalm d therm then some (d.calmAt.getD s.now) else none }
    if s.balance.hostCaps ∧ !isDark s then limitDie s die (dieLimit s d)
    else
      let l := derateLimit d imax therm
      let percent := if imax = 0 then 0 else l * 100 / imax
      let s := limitDie (s.updDie die fun d => { d with
        limit := l, derated := decide (l < imax), therm := { d.therm with factor := if imax = 0 then 100 else min 100 percent } }) die l
      let s := if l < imax ∧ !d.derated then note s 0x36 percent else s
      match derateHot d therm with
      | some t => if d.dollies.any (fun y => !y.thermal) then thermalDollies (note s 0x37 (t % 65536).toNat) die else s
      | none => s

/-- Is a housekeeping round due, a period after the last one (R460)? -/
def roundDue (now : Tick) (period : Nat) (t : Therm) : Bool := t.hist.head?.all fun x => decide (x.1 + period ≤ now)

/-- The period of the rounds while C runs (R460). -/
def roundPeriod (s : State) : Nat := if s.power.state = .monitor then secT else 10 * msT

/-- A segment die at or above 140 °C starts its orderly stop; with no Take to finish it stops at once (R465). -/
def stopHot (s : State) (die : Nat) : State :=
  match s.die? die with
  | none => s
  | some d =>
    if d.stopped then s
    else if d.stopping then s.updDie die SegDie.analogOff
    else
      let go := s.sweep.running || s.sweep.burst
      let s := (thermalDollies s die).updDie die fun d => if go then { d with stopping := true } else d.analogOff
      raise s die 10 0xA3 (d.therm.temp % 65536).toNat

/-- A segment die at or above 145 °C powers down DIAG: its windows stay without a result (R163, R466). -/
def cutOffHot (s : State) (die : Nat) : State :=
  match s.die? die with
  | none => s
  | some d =>
    if d.cutOff then s
    else
      let s := s.updDie die fun d => { d with cutOff := true }
      let s := { s with slates := { s.slates with
        takes := s.slates.takes.map fun t => { t with windows := upd t.windows (fun w => w.die == die && w.got.isNone) fun w => { w with got := some 2 } } } }
      raise s die 10 0xA5 (d.therm.temp % 65536).toNat

/-- C's throttle factor in % (R464). -/
def throttleAt (t : Int) : Nat := if t ≤ 10500 then 100 else if 13000 ≤ t then 0 else ((13000 - t) / 25).toNat

/-- C throttles itself: THERMAL_THROTTLE once each time the factor falls below 1 (R464). -/
def throttle (s : State) : State :=
  let f := throttleAt s.power.therm.eff
  let was := s.power.throttled
  let s := { s with power := { s.power with therm := { s.power.therm with factor := f }, throttled := decide (f < 100) } }
  if f < 100 ∧ !was then raise s 0 13 0xA2 f else s

/-- Every notice that is due is written. -/
def commitAllDue (s : State) : State := s.slates.takes.foldl (fun s _ => commitOldest s) s

/-- C's orderly thermal stop (R467). -/
def stopC (s : State) : State :=
  let s := openOutputs (commitAllDue s) 3
  let s := raise s 0 13 0xA4 (s.power.therm.temp % 65536).toNat
  let s := flashAll { s with nv := { s.nv with packSaved := s.packTime } }
  dropC s false true

end Sys2Proof.Machine
end

