-- ==== Sys2Proof/Machine/PowerRows.lean ====
section
/-! DEFINITION. The commands and events of power, clocks and temperature (R42, R208, R440 to R474, R513, R534, R535). -/
namespace Sys2Proof.Machine

/-- PART of GET_IDENTITY (R472). -/
def partCode : Variant → Nat
  | .ish124 => 1 | .ish124M => 2 | .ish224 => 3 | .ish224M => 4 | .ish424 => 5 | .ish424M => 6 | .ish624 => 7 | .ish624M => 8

/-- GET_IDENTITY (R472). -/
def execGetIdentity (h : Hdr) (s : State) : Host.Outcome State Fault Refusal :=
  .next <| runCmd s h 0x0101 fun s =>
    reply s h 0x0101 stOk
      (le 1 3 ++ le 1 (partCode s.part) ++ le 1 s.part.dieMask ++ [0] ++ le 8 Config.unitId ++ le 4 (runningRelease s 1) ++
        le 4 (runningRelease s 0) ++ le 4 (runningRelease s 2) ++ le 4 (runningRelease s 3) ++ le 2 0x15A6 ++
        le 1 (b2n (bit s.fw.running 0) + 2 * b2n (bit s.fw.running 1)) ++ [0] ++ le 4 (if s.part.hasM then s.metro.swid else 0))

/-- CDOMAINS of GET_POWER_STATUS (R446, R472); a retained SRAM_B counts as not powered, and CRYPTO is idle (log entry 67). -/
def cDomains (s : State) : Nat :=
  1 + 2 * b2n s.sup.keeper + 4 * b2n (!s.power.studioAsleep) + 8 + 16 * b2n (s.power.state != .monitor) +
    32 * b2n (s.power.state != .monitor || !s.flash.jobs.isEmpty || s.power.scrub.isSome) + 64 + 128 + 256 * b2n s.radio.enable

/-- SDOMAINS of one segment die (R317, R446, R465, R466, R535); the ring of MONITOR counts as idle between its bursts (log entry 67). -/
def sDomains (s : State) (code : Nat) : Nat :=
  match s.die? code with
  | none => 0
  | some d =>
    if d.unpowered then 1
    else
      let mon := s.power.state == .monitor
      1 + 2 * b2n (!d.stopped && !d.out && (!mon || s.sweep.burst)) + 4 * b2n (!d.cutOff) +
        8 * b2n (s.power.state == .run && !d.stopped && !d.out) + 16 * b2n (!mon)

/-- GET_POWER_STATUS (R472). -/
def execGetPowerStatus (h : Hdr) (s : State) : Host.Outcome State Fault Refusal :=
  .next <| runCmd s h 0x0102 fun s =>
    let p := s.power
    reply s h 0x0102 stOk
      (le 1 p.state.code ++ le 1 s.aon.wakeCause ++ le 1 s.nv.settings.wakeState ++
        le 1 (b2n p.crystal32 + 2 * b2n p.pllLocked + 4 * b2n p.pllOnRef) ++ le 2 (cDomains s) ++
        [2, 3, 4, 5, 6, 7].flatMap (fun c => le 1 (sDomains s c)) ++ le 2 p.vlv ++ le 1 s.nv.settings.scrubMode ++ [0] ++
        le 4 (scrubAge s / dayT) ++ le 2 ((p.scrub.map (·.done)).getD 0xFFFF) ++ zeros 2 ++ le 4 s.aon.wakes)

/-- Is this package the primary head: the head at address 1 or of an unenumerated chain (R308)? -/
def primaryHead (s : State) : Bool := s.chain.isHead && !s.chain.secondary

/-- The move of the whole chain is ordered (R455): a configuration frame to every package, and the next superframe. -/
def orderChainMove (s : State) (h : Hdr) (target : PState) : State :=
  sendFrame { s with power := { s.power with chainMove := some ({ hdr := some h, target := target }, s.now) } } 0x0E 0xFF 2 false false
    (le 1 4 ++ le 1 target.code ++ zeros 2 ++ le 8 s.packTime)

/-- A SET_POWER_STATE that is authorised (R442, R455, R473, R516). -/
def powerOrder (s : State) (h : Hdr) (target : PState) (scope : Nat) : State :=
  if target = s.power.state ∧ s.power.shutdown.isNone then startOp s h 0x0103 fun s => moved s (some h)
  else if s.power.shutdown.isSome ∨ s.power.chainMove.isSome then refuse s h 0x0103 stBusy
  else if s.life.degraded ≠ 0 ∧ (target = .run ∨ target = .monitor) then refuse s h 0x0103 stRejected
  else if target.dark ∧ s.nv.settings.wakeMask &&& 0x3C = 0 then refuse s h 0x0103 0x81
  else if scope = 0 then startOp s h 0x0103 fun s => doMove s (some h) target
  else if primaryHead s then startOp s h 0x0103 fun s => orderChainMove s h target
  else refuse s h 0x0103 stRejected

/-- SET_POWER_STATE (R441 to R444, R455, R472, R473). SHIP needs the proof. -/
def execSetPowerState (h : Hdr) (state scope : Nat) (p : Option Proof) (s : State) : Host.Outcome State Fault Refusal :=
  .next <| runCmd s h 0x0103 fun s =>
    if 1 < scope then refuse s h 0x0103 stFrameInvalid
    else
      match stateOf state with
      | none => refuse s h 0x0103 0x80
      | some target =>
        if target = .ship then
          match p with
          | none => refuse s h 0x0103 stAuthFailed
          | some p => withProof s h 0x0103 (le 1 state ++ le 1 scope ++ zeros 2) p fun s => powerOrder s h target scope
        else powerOrder s h target scope

/-- Why a die runs no LBIST at a shutdown, 0 where it runs (R512, R514). -/
def lbSkip (s : State) (env : List LbistEnv) (die : Nat) : Nat :=
  match lbEnv env die with
  | none => 2
  | some e =>
    if !lifeInUse s then 1
    else if !e.supplyOk || (s.die? die).any (·.unpowered) then 2
    else if !e.clockOk || !s.power.pllLocked then 3
    else if e.wakeFired || s.aon.wakeReq.isSome then 4 else 0

/-- Step 6 of a shutdown on one die (R512, R514): the word of the run, or why there was none beside the signature kept. -/
def shutdownLbist (env : List LbistEnv) (s : State) (die : Nat) : State :=
  let k := lbSkip s env die
  if k = 0 then
    match lbEnv env die with
    | some e =>
      let s := setLbWord s die (lbWordMake e.result false 0 e.sigLow)
      s.updDie die fun d => { d with lbist := true }
    | none => s
  else setLbWord s die (lbWordMake 0 false k ((lbWordOf s die).toNat / 65536))

/-- Have sweeps stopped, with every open window decided (R444 step 1)? -/
def sweepsDone (s : State) : Bool := !s.sweep.running && !s.sweep.stopPending && s.sweep.stops.isEmpty && !s.sweep.inSweep && s.slates.takes.isEmpty

/-- Steps 2 to 5 of R444, with the completion. -/
def shutdownSteps (s : State) (x : Shutdown) : State :=
  let s := endSession s 5
  let s := s.mail.ops.foldl (fun s o => if some o.hdr = x.hdr then s else abortOp s o 5) s
  let s := openOutputs (endAll s 8) 3
  let s := flashAll s
  moved { s with nv := { s.nv with packSaved := s.packTime } } x.hdr

/-- SHUTDOWN_SEQUENCE (R444, R512, R513): once sweeps have stopped, the steps up to LBIST. Where a segment die runs it, C waits for the dies'
results; else the part powers down at once. -/
def execShutdownSequence (lbist : List LbistEnv) (s : State) : Host.Outcome State Fault Refusal :=
  .next <|
    match s.power.shutdown with
    | none => s
    | some x =>
      if !sweepsDone s || s.segs.any (·.lbist) then s
      else
        let s := shutdownSteps s x
        let s := (s.segs.map SegDie.code ++ [0]).foldl (shutdownLbist lbist) s
        if s.segs.any (·.lbist) then s else powerDown s x.target

/-- LBIST_SUPERVISION_RESUME (R513): every die has reported, or 25 ms have passed; a die still silent raises RING_LOSS, and the shutdown ends. -/
def execLbistSupervisionResume (silent : List Nat) (s : State) : Host.Outcome State Fault Refusal :=
  .next <|
    match s.power.shutdown with
    | none => s
    | some x =>
      if !(s.segs.any (·.lbist)) then s
      else
        let s := { s with segs := s.segs.map fun d => { d with lbist := false, statusAt := s.now } }
        let quiet := silent.filter fun c => (s.die? c).isSome
        let s := if quiet.isEmpty then s else raise s 0 3 0x5A (quiet.foldl max 0)
        powerDown s x.target

/-- SET_WAKE (R445, R450, R452, R472, R475): a WAKETIME in the past never fires. -/
def execSetWake (h : Hdr) (mask state sleepchk waketime sleeptemp : Nat) (s : State) : Host.Outcome State Fault Refusal :=
  .next <| runCmd s h 0x0104 fun s =>
    if state ≠ 2 ∧ state ≠ 3 then refuse s h 0x0104 stFrameInvalid
    else reply { s with nv := { s.nv with settings := { s.nv.settings with
      wakeMask := mask, wakeState := state, sleepChk := sleepchk, wakeTime := waketime, wakeArmed := decide (s.packTime < waketime)
      sleepTemp := sleeptemp } } } h 0x0104 stOk []

/-- SET_MONITOR (R447, R472). -/
def execSetMonitor (h : Hdr) (period order dec : Nat) (s : State) : Host.Outcome State Fault Refusal :=
  .next <| runCmd s h 0x0105 fun s =>
    reply { s with nv := { s.nv with settings := { s.nv.settings with monPeriod := period, monOrder := order, monDec := dec } } } h 0x0105 stOk []

/-- Level records start afresh under new thresholds. -/
def freshLevels (t : Therm) : Therm := { t with above := List.replicate 4 false, dwell := List.replicate 4 none }

/-- SET_THERMAL (R461, R462, R472). -/
def execSetThermal (h : Hdr) (l1 l2 l3 l4 : Int) (rise : Nat) (s : State) : Host.Outcome State Fault Refusal :=
  .next <| runCmd s h 0x0106 fun s =>
    let s := { s with
      nv := { s.nv with settings := { s.nv.settings with levels := [l1, l2, l3, l4], rise := rise } }
      power := { s.power with therm := freshLevels s.power.therm }
      segs := s.segs.map fun d => { d with therm := freshLevels d.therm } }
    reply s h 0x0106 stOk []

/-- One record of GET_THERMAL (R472); where several states hold, the gravest is named (log entry 67). -/
def thermRecord (code : Nat) (t : Therm) (stopped cut : Bool) : List Byte :=
  le 1 code ++ le 1 (if cut then 3 else if stopped then 2 else if t.fault then 4 else if t.factor < 100 then 1 else 0) ++ leInt 2 t.temp ++
    leInt 2 t.rate ++ le 1 t.factor ++ le 1 ((List.range 4).foldl (fun a k => a + 2 ^ k * b2n (nth t.above k false)) 0)

/-- What GET_THERMAL says of M, free but for the values that the fields' layouts leave out (R12, R472; log entry 63): TSTATE 0 to 4, DERATE up to 100,
LEVELS four bits. -/
def metroTherm (l : List Byte) : List Byte :=
  [BitVec.ofNat 8 ((nth l 0 0).toNat % 5)] ++ (l.drop 1).take 4 ++ [BitVec.ofNat 8 ((nth l 5 0).toNat % 101), nth l 6 0 &&& 0x0F]

/-- GET_THERMAL (R472): every fitted die. What it says of M, whose temperature no rule gives to C, is free (log entry 63). -/
def execGetThermal (h : Hdr) (s : State) : Host.Outcome State Fault Refusal :=
  .next <| runCmd s h 0x0107 fun s =>
    reply s.draw h 0x0107 stOk
      (thermRecord 0 s.power.therm false false ++ (if s.part.hasM then le 1 1 ++ metroTherm (s.freeBytes 7) else []) ++
        s.segs.flatMap fun d => thermRecord d.code d.therm (d.stopped || d.stopping) d.cutOff)

/-- SET_SCRUB (R471). -/
def execSetScrub (h : Hdr) (mode : Nat) (s : State) : Host.Outcome State Fault Refusal :=
  .next <| runCmd s h 0x0108 fun s =>
    if 1 < mode then refuse s h 0x0108 stFrameInvalid
    else reply { s with nv := { s.nv with settings := { s.nv.settings with scrubMode := mode } } } h 0x0108 stOk []

/-- A pass begins. -/
def startScrub (s : State) (h : Option Hdr) : State :=
  { s with power := { s.power with scrub := some { hdr := h, done := 0, rewritten := 0, failed := 0, stepAt := s.now } } }

/-- SCRUB_NOW (R471, R473). -/
def execScrubNow (h : Hdr) (s : State) : Host.Outcome State Fault Refusal :=
  .next <| runCmd s h 0x0109 fun s =>
    if s.power.scrub.isSome then refuse s h 0x0109 0x82 else startOp s h 0x0109 fun s => startScrub s (some h)

/-- SET_CLOCKS (R457): the crystal is tried again at the next power-up of AON. -/
def execSetClocks (h : Hdr) (src32 : Nat) (s : State) : Host.Outcome State Fault Refusal :=
  .next <| runCmd s h 0x010A fun s =>
    if 1 < src32 then refuse s h 0x010A stFrameInvalid
    else reply { s with
      nv := { s.nv with settings := { s.nv.settings with src32 := src32 } }
      power := { s.power with crystal32 := s.power.crystal32 && src32 == 0 } } h 0x010A stOk []

/-- A weak block is relocated into the spare pool, or rewritten in place with SPARE_EXHAUSTED (R470, R479). -/
def relocate (s : State) (logical : Nat) : State :=
  match s.nv.spares with
  | [] => raise s 0 10 0xBD 0
  | p :: rest =>
    let old := (s.nv.sectorMap.lookup logical).getD logical
    { s with nv := { s.nv with
      sectorMap := (logical, p) :: s.nv.sectorMap.filter fun x => x.1 != logical
      spares := rest ++ [old], mapGen := (s.nv.mapGen + 1) % 2 ^ 32 } }

/-- A complete pass (R469, R470, R472): SCRUB_DONE, the age starts afresh, the operation completes, and a part that woke for it goes back. -/
def scrubDone (s : State) (c : Scrub) : State :=
  let s := { s with
    power := { s.power with scrub := none }
    nv := { s.nv with settings := { s.nv.settings with scrubDate := s.packTime } }
    aon := { s.aon with scrubFrom := s.now } }
  let s := raise s 0 13 0xAC c.rewritten
  let s := match c.hdr with
    | some h => completeOp s h stOk (le 4 c.done ++ le 4 c.rewritten ++ le 4 c.failed)
    | none => s
  match s.aon.scrubReturn with
  | some st =>
    powerDown (openOutputs { s with aon := { s.aon with scrubReturn := none }, nv := { s.nv with packSaved := s.packTime } } 3) st
  | none => s

/-- SCRUB_STEP (R470): four more blocks are read, 10 s after the last four in the background, at once in a part that woke for the pass. -/
def execScrubStep (weak bad : List Nat) (s : State) : Host.Outcome State Fault Refusal :=
  .next <|
    match s.power.scrub with
    | none => s
    | some c =>
      if !cUp s || (s.aon.scrubReturn.isNone && decide (s.now < c.stepAt + 10000 * msT)) then s
      else
        let s := weak.foldl relocate s
        let s := bad.foldl (fun s b => raise s 0 13 0xAE b) s
        let c := { c with done := c.done + 4, rewritten := c.rewritten + weak.length, failed := c.failed + bad.length, stepAt := s.now }
        if 1024 ≤ c.done then scrubDone s c else { s with power := { s.power with scrub := some c } }

/-- SCRUB_DUE (R469). -/
def execScrubDue (s : State) : Host.Outcome State Fault Refusal :=
  .next <|
    if s.nv.settings.scrubMode = 0 ∧ s.power.scrub.isNone ∧ cUp s ∧ s.sup.keeper ∧ 730 * dayT ≤ scrubAge s then startScrub s none else s

/-- Is a wake source enabled and fired (R452, R469, R475)? -/
def wakeFires (s : State) (code : Nat) : Bool :=
  match code with
  | 0 | 1 => true
  | 2 | 3 | 4 => bit s.nv.settings.wakeMask code
  | 5 => bit s.nv.settings.wakeMask 5 && s.nv.settings.wakeArmed && decide (s.nv.settings.wakeTime ≤ s.packTime)
  | 6 | 7 => s.power.state == .sleep && s.aon.wakeReq == some code
  | 8 => s.nv.settings.scrubMode == 0 && decide (760 * dayT ≤ scrubAge s)
  | _ => false

/-- WAKE (R445, R452, R469, R512): in SLEEP and SHIP a source starts C; during a shutdown sources 2 to 5 wait until it is over. A brown-out or
a thermal stop of C ends only by its own cause. -/
def execWake (code : Nat) (s : State) : Host.Outcome State Fault Refusal :=
  .next <|
    if isDark s then
      if (s.aon.brownOut || s.aon.cStopped) && code != 0 then s
      else if wakeFires s code then wakeUp s code else s
    else if s.power.shutdown.isSome ∧ 2 ≤ code ∧ code ≤ 5 ∧ wakeFires s code then { s with aon := { s.aon with wakeReq := some code } }
    else s

/-- VLV as last read. -/
def setVlv (s : State) (mv : Nat) : State := { s with power := { s.power with vlv := mv } }

/-- VLV_LOW (R456): below 6.0 V for 1 ms. While C is dark nothing collects it. -/
def execVlvLow (mv : Nat) (s : State) : Host.Outcome State Fault Refusal :=
  .next <| if mv < 6000 ∧ cUp s then raise (setVlv s mv) 0 13 0xA8 mv else setVlv s mv

/-- VLV_BROWN_OUT (R41, R456): below 5.0 V C is reset, and the dies fall to their SLEEP behaviour. -/
def execVlvBrownOut (mv : Nat) (s : State) : Host.Outcome State Fault Refusal :=
  .next <| if mv < 5000 then dropC (setVlv s mv) true false else setVlv s mv

/-- VLV_RETURN (R456): above 5.5 V C starts with wake cause 9. -/
def execVlvReturn (mv : Nat) (s : State) : Host.Outcome State Fault Refusal :=
  .next <| if 5500 < mv ∧ s.aon.brownOut then wakeUp (setVlv s mv) 9 else setVlv s mv

/-- MONITOR_BURST (R447): at every multiple of MONPERIOD a burst Take begins with a filter restart. -/
def execMonitorBurst (s : State) : Host.Outcome State Fault Refusal :=
  .next <|
    if s.power.state = .monitor ∧ cUp s ∧ !s.sweep.burst ∧ s.nv.settings.monPeriod ≠ 0 ∧
        s.packTime % (s.nv.settings.monPeriod * msT) = 0 then
      restartFilters { s with sweep := { s.sweep with burst := true } }
    else s

/-- RING_BURST (R42, R293, R449): the status words that arrive good in a burst. -/
def execRingBurst (dies : List Nat) (s : State) : Host.Outcome State Fault Refusal :=
  .next <|
    if s.power.state = .monitor then
      { s with segs := upd s.segs (fun d => dies.contains d.code && !d.unpowered && !d.lbist) fun d => { d with statusAt := s.now, sentAt := s.now } }
    else s

/-- GUARD_PASS (R206, R209, R449): every 10 ms in MONITOR a die reads all its mapped cells. -/
def execGuardPass (die : Nat) (volts : List Int) (s : State) : Host.Outcome State Fault Refusal :=
  onDie s die fun d =>
    if s.power.state ≠ .monitor ∨ s.now < d.checkAt + 10 * msT then s
    else (List.range d.cells).foldl (fun s k => diagReading s die (k + 1) (nth volts k 0)) (s.updDie die fun d => { d with checkAt := s.now })

/-- STUDIO_SLEEP (R448): 50 ms after its last reply the Studio sleeps again. -/
def execStudioSleep (s : State) : Host.Outcome State Fault Refusal :=
  .next <|
    if s.power.state = .monitor ∧ !s.power.studioAsleep ∧ s.sup.ready ∧ s.mail.doorbell = 0 ∧ s.mail.waiting = [] ∧ s.mail.replies = [] ∧
        s.power.lastReply + 50 * msT ≤ s.now then
      { s with power := { s.power with studioAsleep := true } }
    else s

/-- A request to wake C from SLEEP, where its source is enabled and none waits (R450). -/
def askWake (s : State) (code : Nat) : State :=
  if bit s.nv.settings.wakeMask code && s.aon.wakeReq.isNone then { s with aon := { s.aon with wakeReq := some code } } else s

/-- One cell in a sleep check (R97, R206, R207, R450): two consecutive checks beyond the same threshold trip its comparator, which ends a transfer on it. -/
def sleepCell (die : Nat) (volts : List Int) (s : State) (k : Nat) : State :=
  match (s.die? die).bind fun d => d.comps[k]? with
  | none => s
  | some c =>
    let uv := nth volts k 0
    let o := if beyond s false 0 uv then c.ovSleep + 1 else 0
    let u := if beyond s true 0 uv then c.uvSleep + 1 else 0
    let ov := decide (2 ≤ o) && !c.ovTrip
    let uvt := decide (2 ≤ u) && !c.uvTrip
    let s := s.updDie die fun d => { d with
      comps := d.comps.set k { c with
        ovSleep := o, uvSleep := u, ovTrip := c.ovTrip || ov, uvTrip := c.uvTrip || uvt, last := some (diagRead uv)
        ovInside := if inside s false uv then c.ovInside + 1 else 0, uvInside := if inside s true uv then c.uvInside + 1 else 0 } }
    let trip := fun (s : State) (kind : Nat) =>
      let s := sleepRec s die kind (k + 1)
      askWake (if (servedBy s die (k + 1)).isSome then endFree s die (dollyOfCell (k + 1)) 7 else s) 6
    let s := if ov then trip s 0x90 else s
    if uvt then trip s 0x91 else s

/-- A record that a die in SLEEP keeps once. -/
def sleepRecOnce (s : State) (die kind detail : Nat) : State :=
  if (s.die? die).any fun d => d.aonRecs.contains (kind, detail) then s else sleepRec s die kind detail

/-- The temperature of a sleep check enters the die's record (R450, R460, R463). -/
def sleepTemp (now : Tick) (stopped : Bool) (temp : Int) (t : Therm) : Therm :=
  let jumps := if 2000 < (temp - t.temp).natAbs then t.jumps + 1 else 0
  coolStep now stopped { t with temp := temp, jumps := jumps, fault := tempOut temp || decide (2 ≤ jumps) }

/-- SLEEP_CHECK (R206 to R209, R240, R250, R252, R254, R255, R450, R460, R463): every SLEEPCHK seconds the cells, the comparator self-test, the
temperature and the die's own thermistor, with the end guard and the derating of the sleep transfers. -/
def execSleepCheck (die : Nat) (volts : List Int) (found : CheckRound) (s : State) : Host.Outcome State Fault Refusal :=
  onDie s die fun d =>
    if s.power.state ≠ .sleep ∨ d.unpowered ∨ s.now < d.checkAt + s.nv.settings.sleepChk * secT then s
    else
      let s := (List.range d.cells).foldl (sleepCell die volts) s
      let s := [1, 2, 3, 4].foldl (sleepGuard volts die) s
      let s := if found.tripped then s else sleepRecOnce s die 0x92 0
      let s := if found.refSettled then s else sleepRecOnce s die 0x92 1
      let s := s.updDie die fun d => { d with
        therm := sleepTemp s.now (d.stopped || d.cutOff) found.temp d.therm, tempAt := some s.now, checkAt := s.now, diagRefOk := found.refSettled }
      let s := if (s.die? die).any fun e => e.therm.fault && !d.therm.fault then sleepRecOnce s die 0xA7 (found.temp % 65536).toNat else s
      let s := match d.sleep.cfg with
        | some c => derate s die c.2.2.2.1 (thermShown s d fun _ => found.therm) fun s kind x => sleepRec s die kind x
        | none => s
      if (s.nv.settings.sleepTemp : Int) * 100 ≤ found.temp then askWake s 7 else s

/-- CLOCK_32K_FAULT (R457): the crystal has stopped for 2 ms, and the RC takes over. -/
def execClock32kFault (s : State) : Host.Outcome State Fault Refusal :=
  .next <|
    if !s.power.crystal32 then s
    else
      let s := { s with power := { s.power with crystal32 := false } }
      if cUp s then raise s 0 13 0xA9 0 else carry s 13 0xA9 0

/-- PLL_LOCK (R309, R458, R459): sweeps may go on, and a SET_TIMEBASE completes. -/
def execPllLock (s : State) : Host.Outcome State Fault Refusal :=
  .next <|
    if !cUp s then s
    else
      let fresh := s.chain.timebaseOp.isSome || !s.chain.refLost
      let s := { s with
        power := { s.power with pllLocked := true, pllOnRef := fresh }
        sweep := { s.sweep with pllHold := false }
        chain := { s.chain with
          refLost := s.chain.refLost && !fresh, timebaseOp := none
          locked := s.chain.locked || (primaryHead s && decide (s.chain.syncs = 0)) } }
      match s.chain.timebaseOp with
      | some h => completeOp s h stOk []
      | none => s

/-- PLL_UNLOCK (R459): sweeps stop until the relock. -/
def execPllUnlock (which : Nat) (s : State) : Host.Outcome State Fault Refusal :=
  .next <|
    if !cUp s || !s.power.pllLocked then s
    else
      raise { s with
        power := { s.power with pllLocked := false, pllOnRef := false }, sweep := { s.sweep with pllHold := true } } 0 13 0xAA which

/-- C's housekeeping round (R460 to R464, R467): while C is dark the Gaffer only follows its diode. -/
def roundC (s : State) (temp : Int) : State :=
  if isDark s then
    { s with power := { s.power with therm := coolStep s.now s.aon.cStopped { s.power.therm with
        temp := temp, hist := [(s.now, temp)], fault := tempOut temp } } }
  else
    let old := s.power.therm
    let new := thermRead s.now s.nv.settings.levels s.nv.settings.rise temp old
    let s := thermMessages { s with power := { s.power with therm := riseTaken new } } 0 13 old new
    let s := throttle s
    if 14000 ≤ s.power.therm.eff then stopC s else s

/-- A segment die's housekeeping round (R208, R250, R252, R460 to R466). -/
def roundDie (s : State) (d : SegDie) (temp : Int) (tripped refSettled : Bool) : State :=
  let die := d.code
  let new := thermRead s.now s.nv.settings.levels s.nv.settings.rise temp d.therm
  let s := s.updDie die fun d => { d with
    therm := coolStep s.now (d.stopped || d.stopping || d.cutOff) (riseTaken new), tempAt := some s.now, diagRefOk := refSettled }
  let s := thermMessages s die 10 d.therm new
  let s := if d.cutOff ∨ tripped then s else raise s die 1 0x92 0
  let s := derate s die s.balance.imax (thermShown s d (thermTemp d)) fun s kind x => raise s die 10 kind x
  let s := if 14000 ≤ new.eff ∨ d.stopping then stopHot s die else s
  if 14500 ≤ new.eff then cutOffHot s die else s

/-- HOUSEKEEPING_ROUND (R460): C, or one segment die, at the rhythm of the state: 10 ms in RUN and SERVICE, 1 s in MONITOR and for a dark C. -/
def execHousekeepingRound (die : Nat) (temp : Int) (tripped refSettled : Bool) (s : State) : Host.Outcome State Fault Refusal :=
  if die = 0 then .next (
    if s.port.inReset || !roundDue s.now (if isDark s then secT else roundPeriod s) s.power.therm then s else roundC s temp)
  else onDie s die fun d =>
    if d.unpowered || !cUp s || d.lbist || !roundDue s.now (roundPeriod s) d.therm then s else roundDie s d temp tripped refSettled

/-- One die's record after a crossing (R461). -/
def crossLevel (level : Nat) (t : Therm) : Therm :=
  { t with above := t.above.set (level - 1) (!nth t.above (level - 1) false), dwell := t.dwell.set (level - 1) none }

/-- Has the 2 s dwell of a level passed in a direction (R461)? -/
def crossDue (now : Tick) (t : Therm) (level : Nat) (upward : Bool) : Bool :=
  decide (1 ≤ level) && decide (level ≤ 4) && nth t.above (level - 1) false != upward &&
    (nth t.dwell (level - 1) none).any fun x => decide (x + 2 * secT ≤ now)

/-- The detail of THERMAL_LEVEL (R474). -/
def levelDetail (t : Therm) (level : Nat) (upward : Bool) : Nat := 32768 * b2n upward + 256 * level + (clamp 0 255 (t.temp / 100 + 50)).toNat

/-- THERMAL_LEVEL (R461). -/
def execThermalLevel (die level : Nat) (upward : Bool) (s : State) : Host.Outcome State Fault Refusal :=
  if die = 0 then .next <|
    let t := s.power.therm
    if cUp s && crossDue s.now t level upward then
      raise { s with power := { s.power with therm := crossLevel level t } } 0 13 0xA0 (levelDetail t level upward)
    else s
  else onDie s die fun d =>
    if cUp s && crossDue s.now d.therm level upward then
      raise (s.updDie die fun d => { d with therm := crossLevel level d.therm }) die 10 0xA0 (levelDetail d.therm level upward)
    else s

/-- Has a die read below 125 °C for 5 s (R468)? -/
def cooled (now : Tick) (t : Therm) : Bool := t.coolSince.any fun x => decide (x + 5 * secT ≤ now)

/-- THERMAL_RESTART (R465, R466, R468): a segment die restarts, or C starts with wake cause 10. -/
def execThermalRestart (die : Nat) (s : State) : Host.Outcome State Fault Refusal :=
  if die = 0 then .next <|
    if s.aon.cStopped && cooled s.now s.power.therm then
      wakeUp (carry s 13 0xA6 (s.power.therm.temp % 65536).toNat) 10
    else s
  else onDie s die fun d =>
    if (d.stopped || d.cutOff) && cooled s.now d.therm then
      let s := restartDie (s.updDie die fun d => { d with
        stopping := false, stopped := false, cutOff := false, refAt := [s.now, s.now, s.now], therm := { d.therm with coolSince := none } }) die
      if cUp s then raise s die 10 0xA6 (d.therm.temp % 65536).toNat else s
    else s

/-- A segment die that starts again keeps what C knows of it. -/
def dieAgain (s : State) (d : SegDie) (unpowered : Bool) : SegDie :=
  { dieStart s d with
    trimBad := d.trimBad, subKinds := d.subKinds.filter (· == 0xFF), unpowered := unpowered, out := d.out, statusAt := d.statusAt, lostSince := d.lostSince, ringLost := d.ringLost }

/-- SEGMENT_SUPPLY_LOW (R535): below 10.0 V the die stops and its LINK domain loses power; its silence raises RING_LOSS. -/
def execSegmentSupplyLow (die : Nat) (s : State) : Host.Outcome State Fault Refusal :=
  onDie s die fun d => if d.unpowered then s else s.updDie die fun d => dieAgain s d true

/-- A die has started again on its own: a trim that failed at the last part reset fails its check again (R178). -/
def trimAgain (s : State) (d : SegDie) : State := if d.trimBad && cUp s then trimFails s [d.code] else s

/-- SEGMENT_SUPPLY_RESTART (R178, R535): the die starts again above 10.5 V. -/
def execSegmentSupplyRestart (die : Nat) (s : State) : Host.Outcome State Fault Refusal :=
  onDie s die fun d => if !d.unpowered then s else trimAgain (s.updDie die fun d => dieAgain s d false) d

/-- The word of a run of LBIST that a supply fault ended (R514). -/
def lbAborted (w : BitVec 32) : BitVec 32 := lbWordMake 3 false 0 (w.toNat / 65536)

/-- CORE_SUPPLY_RESET (R514, R534): a core supply outside its window resets the die: C, M or a segment die. -/
def execCoreSupplyReset (die : Nat) (s : State) : Host.Outcome State Fault Refusal :=
  if die = 0 then .next (if isDark s then s else partReset s 1)
  else if die = 1 ∧ s.part.hasM then .next { s with metro := { s.metro with state := .starting } }
  else onDie s die fun d =>
    trimAgain (s.updDie die fun x => { dieAgain s x x.unpowered with lbist := x.lbist, lbWord := if d.lbist then lbAborted x.lbWord else x.lbWord }) d

end Sys2Proof.Machine
end

