-- ==== Sys2Proof/Machine/LinkOps.lean ====
section
/-! DEFINITION. DeariLink as shared operations: what a received frame does to the map, copies and duplicates, breaks, notices and Slates of
members, mailbox traffic, transfers, current samples, the chain key and the slot map (R74, R290 to R328). -/
namespace Sys2Proof.Machine

/-- A truncated pack time completed from the own one: the nearest value with these low 32 bits (R298). -/
def fullTime (own low : Nat) : Nat :=
  let t := own - own % 2 ^ 32 + low % 2 ^ 32
  if t + 2 ^ 31 < own then t + 2 ^ 32 else if own + 2 ^ 31 < t ∧ 2 ^ 32 ≤ t then t - 2 ^ 32 else t

/-- Change the map's entry of an address. -/
def updEntry (s : State) (addr : Nat) (f : MapEntry → MapEntry) : State :=
  { s with chain := { s.chain with map := upd s.chain.map (fun e => e.addr == addr) f } }

/-- The map's entry of an address. -/
def entryOf (s : State) (addr : Nat) : Option MapEntry := s.chain.map.find? fun e => e.addr == addr

/-- A frame with a bad check value: counted, and more than 100 of a port within 1 s raise LINK_ERRORS (R313, R329). -/
def frameError (s : State) (port : Nat) : State :=
  let l := (port, s.now) :: s.chain.crcTimes.filter fun x => decide (s.now < x.2 + secT)
  let s := { s with chain := { s.chain with crcErr := (s.chain.crcErr + 1) % 2 ^ 32, crcTimes := l } }
  if 100 < (l.filter fun x => x.1 == port).length then
    raise { s with chain := { s.chain with crcTimes := l.filter fun x => x.1 != port } } 0 4 0x59 (256 * s.chain.addr + port)
  else s

/-- A package is heard: one that was lost waits for its readmission (R315, R318). -/
def heardFrom (s : State) (src : Nat) : State :=
  updEntry s src fun e => { e with heard := s.now, lost := false, state := if e.lost then 3 else e.state }

/-- The copy of a frame that goes on: the header with one more hop crossed, the payload, a new check value (R296, R300). -/
def onwardBytes (f : FrameHdr) (type : Nat) (payload : List Byte) : List Byte :=
  let b := le 1 f.dest ++ le 1 f.src ++ le 1 type ++ le 1 f.flags ++ le 2 f.seq ++ le 2 (payload.length % 2048 + 2048 * (f.hops + 1)) ++ payload
  b ++ crcTail b

/-- A copy goes on round the ring in its direction, unless it has crossed 31 hops or comes back to its sender (R300). One with a bad check value is
ended with /V/: kind 0x200 and its type, without content (R295, R300; log entry 10). -/
def passOn (s : State) (f : FrameHdr) (type : Nat) (payload : List Byte) : State :=
  if 31 ≤ f.hops ∨ (f.src = s.chain.addr ∧ s.chain.addr ≠ 0) then s
  else if f.goodCrc then emit s 1 type f.dest (onwardBytes f type payload)
  else emit s 1 (0x200 + type) (1 - f.port) []

/-- Is a frame addressed to this package (R296)? -/
def forMe (s : State) (dest : Nat) : Bool :=
  dest == 0xFF || (dest == 0 && s.chain.isHead) || (dest != 0 && dest == s.chain.addr)

/-- Copies are matched by source, type and sequence number; the latest 256 are remembered (R300). -/
def remember (s : State) (k : Nat × Nat × Nat) : State := { s with chain := { s.chain with seen := (k :: s.chain.seen).take 256 } }

/-- A frame arrives (R296, R300, R313): check value, own frames that came round, the copy that goes on, second copies. The first copy is used,
whatever its address. -/
def frameAny (s : State) (f : FrameHdr) (type : Nat) (payload : List Byte) (use : State → State) : State :=
  if !cUp s then s
  else if !f.goodCrc then passOn (frameError s f.port) f type payload
  else if f.src = s.chain.addr ∧ s.chain.addr ≠ 0 then s
  else
    let s := passOn (heardFrom s f.src) f type payload
    if s.chain.seen.contains (f.src, type, f.seq) then s
    else
      use (remember s (f.src, type, f.seq))

/-- A frame arrives, and is used by the package it is addressed to (R296, R300, R313). -/
def frameIn (s : State) (f : FrameHdr) (type : Nat) (payload : List Byte) (use : State → State) : State :=
  frameAny s f type payload fun s => if forMe s f.dest then use s else s

/-- An express set arrives (R298, R300): bad ones are dropped, own ones end here, every copy goes on, the first one is used. -/
def setIn (s : State) (type src : Nat) (good : Bool) (key : Nat × Nat) (body : List Byte) (use : State → State) : State :=
  if !cUp s || !good then s
  else if src = s.chain.addr ∧ s.chain.addr ≠ 0 then s
  else
    let s := sendSet s type body
    if s.chain.seen.contains (256 + type, key.1, key.2) then s else use (remember s (256 + type, key.1, key.2))

/-! Breaks (R313, R314, R329). -/

/-- The hop that a port faces: hop h joins port A of address h and port B of the next one (R294). -/
def hopOf (count : Nat) (x : Nat × Nat) : Nat := if x.2 = 0 then x.1 else if x.1 ≤ 1 then count else x.1 - 1

/-- The hops known to be broken, latest first. -/
def brokenHops (s : State) : List Nat := (s.chain.breaks.map (hopOf s.chain.count)).eraseDups

/-- Is no hop from `a` to `b` among the broken ones? -/
def hopsOk (broken : List Nat) (a b : Nat) : Bool := broken.all fun h => decide (h < a) || decide (b < h)

/-- Is there a secondary head at the highest address? -/
def hasSecondary (s : State) : Bool := s.chain.secondary || s.chain.map.any fun e => e.head && e.addr == s.chain.count && e.addr != 1

/-- Is an address still connected to a head (R314)? -/
def reaches (s : State) (a : Nat) : Bool :=
  let br := brokenHops s
  hopsOk br 1 (a - 1) || hopsOk br a s.chain.count || (hasSecondary s && hopsOk br a (s.chain.count - 1))

/-- The ports known to be down change; the primary head reports packages that no head reaches (R314). -/
def setBreaks (s : State) (l : List (Nat × Nat)) : State :=
  let old := s.chain.unreachable
  let s := { s with chain := { s.chain with breaks := l } }
  let n := ((List.range s.chain.count).filter fun k => !reaches s (k + 1)).length
  let s := { s with chain := { s.chain with breakAt := (brokenHops s).headD 0, unreachable := n } }
  if primaryHead s ∧ n ≠ old ∧ n ≠ 0 then raise s 0 4 0x52 n else s

/-- A port goes down or comes up. -/
def portDown (s : State) (addr port at_ : Nat) : State :=
  setBreaks { s with chain := { s.chain with lastBreak := at_ } } ((addr, port) :: s.chain.breaks.filter (· != (addr, port)))
def portUp (s : State) (addr port : Nat) : State :=
  if s.chain.breaks.contains (addr, port) then setBreaks s (s.chain.breaks.filter (· != (addr, port))) else s

/-- CHAINSTATE (R329): single package, closed ring, one break, split. -/
def chainState (s : State) : Nat := if s.chain.count ≤ 1 then 0 else min 3 (1 + (brokenHops s).length)

/-! Slates and notices of members (R39, R79, R303). -/

/-- What a head keeps of a sender; before its first notice the acknowledgement says none (log entry 66). -/
def trackOf (s : State) (addr : Nat) : NoticeTrack :=
  (s.chain.tracks.find? fun t => t.addr == addr).getD { addr := addr, next := none, ahead := [], ack := 0xFFFF, waiting := [], gone := [], open_ := [] }

/-- Store what a head keeps of a sender. -/
def setTrack (s : State) (t : NoticeTrack) : State :=
  { s with chain := { s.chain with tracks := t :: s.chain.tracks.filter fun x => x.addr != t.addr } }

/-- A member's notice enters the window (R78, R303). -/
def noticeToStream (s : State) (src seq : Nat) (payload : List Byte) : State :=
  endRun (streamWrite { s with stream := { s.stream with undecided := s.stream.undecided.erase (src, seq) } } 3 src payload) src

/-- A notice whose Slate has come is written, or withheld where the window had no room for the Slate (R79, R303). -/
def releaseNotice (src : Nat) (s : State) (w : Nat × List Byte × Tick) : State :=
  let t := trackOf s src
  match t.open_.find? fun o => o.1 == w.1 with
  | none => s
  | some o =>
    let s := setTrack s { t with waiting := t.waiting.filter fun x => x.1 != w.1, open_ := t.open_.filter fun x => x.1 != w.1 }
    if o.2 then noticeToStream s src w.1 w.2.1 else s

/-- Every notice of a sender whose Slate has come. -/
def releaseNotices (s : State) (src : Nat) : State := (trackOf s src).waiting.foldl (releaseNotice src) s

/-- A member's Slate enters the head's window unchanged; one that a gap record has named already comes too late and is left out, since its
notice has gone before it (R39, R303). -/
def slateIn (s : State) (src type : Nat) (payload : List Byte) : State :=
  let seq := leVal (payload.take 4)
  if (trackOf s src).gone.contains seq then s
  else
  let r := slateToStream s src type seq payload
  let t := trackOf r.1 src
  releaseNotices (setTrack r.1 { t with open_ := (t.open_ ++ [(seq, r.2)]).drop (t.open_.length - 63) }) src

/-- Notices already received beyond a gap join the contiguous ones. -/
def advance : Nat → NoticeTrack → NoticeTrack
  | 0, t => t
  | n + 1, t =>
    match t.next.bind fun k => t.ahead.find? fun x => x.1 == k with
    | none => t
    | some x => advance n { t with next := some ((x.1 + 1) % 65536), ack := x.2, ahead := t.ahead.filter (· != x) }

/-- A notice frame is counted towards the acknowledgement (R303; log entry 66). -/
def countNotice (t : NoticeTrack) (fseq low : Nat) : NoticeTrack :=
  match t.next with
  | none => { t with next := some ((fseq + 1) % 65536), ack := low }
  | some k => if (fseq + 65536 - k) % 65536 < 32768 then advance 64 { t with ahead := (t.ahead ++ [(fseq, low)]).take 64 } else t

/-- A member's notice arrives (R303). -/
def noticeIn (s : State) (src fseq : Nat) (payload : List Byte) : State :=
  let seq := leVal (payload.take 4)
  let t := countNotice (trackOf s src) fseq (seq % 65536)
  releaseNotices (setTrack s { t with waiting := (t.waiting ++ [(seq, payload, s.now)]).drop (t.waiting.length - 63) }) src

/-- A notice whose Slate has not come within 2 ms: the Slate counts as dropped, its gap record is written, then the notice (R79, R303; log
entry 61). Where the window has no room for the gap record, the notice is withheld and the run waits for the next record (log entry 121). -/
def gapNotice (src : Nat) (s : State) (w : Nat × List Byte × Tick) : State :=
  if s.now < w.2.2 + 2 * msT then s
  else
    let t := trackOf s src
    let s := extendRun (setTrack s { t with waiting := t.waiting.filter fun x => x.1 != w.1, gone := (w.1 :: t.gone).take 64 }) src w.1
    let s := settle (streamDrop s src)
    if streamRoom s 0x7E 20 0 then noticeToStream (writeGap s src) src w.1 w.2.1 else s

/-- The low 16 bits of a notice's sequence number. -/
def noticeLow (n : Nat × List Byte) : Nat := leVal (n.2.take 2)

/-- The notices that an acknowledgement leaves: those after the acknowledged one (R303). -/
def unacked (ack : Nat) : List (Nat × List Byte) → List (Nat × List Byte)
  | l => if l.any fun n => noticeLow n == ack then (l.dropWhile fun n => noticeLow n != ack).drop 1 else l

/-! Mailbox traffic and transfers (R74, R297). -/

/-- A record of a member goes into the head's window with its address (R39, R76). -/
def recordIn (s : State) (src rtype : Nat) (payload : List Byte) : State := streamRec s rtype src payload

/-- A package is known to be a head, or no longer (R83, R308). -/
def noteHead (s : State) (src : Nat) (head : Bool) : State :=
  updEntry { s with chain := { s.chain with heads := (if head then [src] else []) ++ s.chain.heads.filter (· != src) } } src fun e =>
    { e with head := head }

/-- A command of a head reaches this package (R74, R83). The sender is a head, and a doorbell of the chain wakes the Studio. -/
def commandIn (s : State) (src prio : Nat) (bytes : List Byte) : State :=
  let f := readFrame bytes
  let h : Hdr := { origin := src, prio := prio, tag := f.tag, target := f.target }
  let s := wakeStudio (noteHead s src true)
  if !f.crcGood || decide (f.reserved ≠ 0) || s.mail.ops.any fun o => o.origin == src && o.tag == f.tag then
    refuse s h f.op stFrameInvalid
  else takeCommand s h f

/-- The forwarded commands that a reply of a member leaves: QUEUED makes the oldest of its tag an operation, a final reply ends it
(R70, R72, R74). -/
def awayAfter (l : List Away) (prio tag target : Nat) (final : Bool) : List Away :=
  match l with
  | [] => []
  | a :: r =>
    if a.prio == prio && a.tag == tag && a.target == target then (if final then r else { a with open_ := true } :: r)
    else a :: awayAfter r prio tag target final

/-- A member's reply returns into the outbound mailbox of its priority (R74). -/
def replyIn (s : State) (prio : Nat) (bytes : List Byte) : State :=
  let n := leVal (fieldAt bytes 6 2)
  if fieldAt bytes (8 + n) 4 != crcTail (bytes.take (8 + n)) || decide (bytes.length < 12 + n) then s
  else
    let r : Reply :=
      { origin := 0, prio := prio, opcode := leVal (fieldAt bytes 0 2), tag := leVal (fieldAt bytes 2 2), status := leVal (fieldAt bytes 4 1)
        source := leVal (fieldAt bytes 5 1), result := fieldAt bytes 8 n, final := leVal (fieldAt bytes 4 1) != stQueued }
    { s with mail := { s.mail with
      replies := s.mail.replies ++ [r], away := awayAfter s.mail.away prio r.tag r.source r.final } }

/-- The length of a transfer, once its own header has come (R63, R66, R76; log entry 71). -/
def transferLength (stream : Nat) (d : List Byte) : Option Nat :=
  match stream % 16 with
  | 4 => if d.length < 4 then none else some (recordSize (leVal (fieldAt d 2 2)))
  | 5 => if d.length < 6 then none else some (12 + leVal (fieldAt d 4 2))
  | 6 => if d.length < 8 then none else some (12 + leVal (fieldAt d 6 2))
  | _ => none

/-- A transfer that is complete has the effect of the frame it stands for. -/
def deliver (s : State) (x : BulkRx) : State :=
  match x.stream % 16 with
  | 4 => if s.chain.isHead then recordIn s x.src (leVal (fieldAt x.data 0 1)) (fieldAt x.data 4 (leVal (fieldAt x.data 2 2))) else s
  | 5 => commandIn s x.src (x.stream / 16) x.data
  | 6 => replyIn s (x.stream / 16) x.data
  | _ => s

/-- Is it the transfer of a sender, stream and identifier? -/
def BulkRx.is (x : BulkRx) (src stream tid : Nat) : Bool := x.src == src && x.stream == stream && x.tid == tid

/-- Data of a transfer arrive, by radio or on DeariLink (R297): the next offset is appended, offset 0 begins the transfer anew. -/
def bulkIn (s : State) (src stream tid offset : Nat) (data : List Byte) : State :=
  let old := ((s.radio.rx.find? fun x => x.is src stream tid).map (·.data)).getD []
  if offset ≠ old.length ∧ offset ≠ 0 then s
  else
    let x : BulkRx := { src := src, stream := stream, tid := tid, data := (if offset = 0 then [] else old) ++ data }
    let rest := s.radio.rx.filter fun y => !y.is src stream tid
    if (transferLength stream x.data).any fun n => decide (n ≤ x.data.length) then
      deliver { s with radio := { s.radio with rx := rest } } x
    else { s with radio := { s.radio with rx := (rest ++ [x]).drop (rest.length - 63) } }

/-- Bytes of class B that wait (R297, R324). -/
def queueBytes (s : State) : Nat := (s.radio.inFlight.toList ++ s.radio.queue).foldl (fun a x => a + x.data.length) 0

/-! Current samples at C (R145, R166, R302). -/

/-- Push a sample of the pack current: the trapezoid bridges a gap, which sets INTEGRATOR_GAP (R166); the lock-in takes it too (R267). -/
def pushCurrent (s : State) (at_ : Nat) (ma : Int) : State :=
  let late := s.slates.stream.head?.any fun p => decide (at_ ≤ p.at_)
  if late then s
  else
    let int_ := match s.slates.stream with
      | p :: _ => p.int_ + (p.ma + ma) * ((at_ : Int) - p.at_)
      | [] => 0
    let gap := s.slates.stream.head?.any fun p => decide (p.at_ + 18750 < at_)
    let x : CurSample := { at_ := at_, ma := ma, int_ := int_ }
    let s := { s with slates := { s.slates with
      stream := (x :: s.slates.stream).take 256, gap := s.slates.gap || gap } }
    let s := lockStream s at_ ma
    let f := fillCurrent s.slates.stream (s.slates.irsrc == 0) false
    { s with slates := { s.slates with
      curHist := if s.slates.irsrc = 0 then s.slates.curHist.map f else s.slates.curHist } }

/-- The stream starts anew with another source: the total so far is kept, and INTEGRATOR_GAP is set (R166). -/
def restartStream (s : State) : State :=
  let t := { s with slates := { s.slates with stream := [] } }
  if s.slates.irsrc = 1 then t
  else { t with slates := { t.slates with preset := chargeAt s s.packTime, zeroInt := 0, gap := true } }

/-- A member copies the current source's CHARGE, with its INTEGRATOR_GAP, from each full Slate of the source that reaches it (R38, R166); from that
Slate's CLAPTIME on it integrates the chain current itself (DESIGN CHOICE, log 136). -/
def copyCharge (s : State) (src : Nat) (payload : List Byte) : State :=
  let flags := leVal (fieldAt payload 652 1)
  if s.slates.irsrc = 1 ∨ !chainSource s ∨ src ≠ s.chain.source ∨ payload.length ≠ 660 ∨ bit flags 0 then s
  else
    { s with slates := { s.slates with
      preset := signed 64 (leVal (fieldAt payload 644 8)) * mAsUnit
      zeroInt := (integralAt s.slates.stream (leVal (fieldAt payload 4 8))).getD 0, gap := bit flags 3 } }

/-! Roles, keys, frames that this package builds (R297, R304, R323, R324). -/

/-- The state of this package as the map codes it (R329). -/
def ownState (s : State) : Nat := if s.chain.out then 2 else if s.chain.joining then 3 else 1

/-- The dies out of service, as a mask. -/
def dieOut (s : State) : Nat := (s.segs.filter (·.out)).foldl (fun a d => a + 2 ^ d.code) 0

/-- PORTS of GET_LINK_STATUS (R329). -/
def portBits (s : State) : Nat :=
  b2n s.chain.upA + 2 * b2n s.chain.upB + 4 * b2n s.chain.portB + 8 * b2n s.chain.locked + 16 * b2n s.chain.master

/-- The heartbeat (R297, R304; its fields are log entry 62): state, ports, queue. -/
def heartbeatBytes (state queue ports : Nat) : List Byte := le 2 state ++ le 1 ports ++ [0] ++ le 4 queue

/-- What this package reports in its heartbeat. -/
def heartbeatState (s : State) : Nat := ownState s + 16 * b2n s.sweep.running + 32 * b2n s.chain.locked + 64 * b2n s.chain.isHead + 256 * dieOut s

/-- Does the key-use gate let a chain key in: not in RETURN and SCRAP, on whose entry the Keeper has erased it (R19, R511, R520; log entry
129)? -/
def keyGate (s : State) : Bool := decide (s.life.state < 4)

/-- The time master's Keeper makes a chain key, which starts every counter anew, and sends it (R19, R323). -/
def newKey (s : State) : State :=
  if !keyGate s then s
  else
  let key := s.freeBytes 16
  let s := { s.draw with
    radio := { s.radio with
      key := key, keyGen := (s.radio.keyGen + 1) % 2 ^ 32, counter := 0, peers := s.radio.peers.map fun p => { p with counter := none } }
    nv := { s.nv with chainKey := key } }
  sendFrame s 0x0E 0xFF 2 false false (le 1 0 ++ zeros 3 ++ le 4 s.radio.keyGen ++ key)

/-- The package is admitted (R318): sweeps start with a filter restart, and two Slates carry REJOIN. -/
def admitMe (s : State) : State :=
  restartFilters { s with
    chain := { s.chain with joining := false, admitted := true, out := false }
    sweep := { s.sweep with running := s.sweep.running || sweepState s, stopPending := false }
    slates := { s.slates with rejoin := 2 } }

/-- Start of the superframe that runs (R304). -/
def frameStart (s : State) : Nat := s.packTime - s.packTime % 100000

/-- Is an order of SET_SERVICE the readmission of the whole package? -/
def isReadmit (x : Hdr × Nat × Nat × Tick) : Bool := x.2.1 == 1 && x.2.2.1 == 0

/-- The readmissions that waited complete with the superframe start (R318). -/
def readmitted (s : State) : State :=
  let l := s.chain.services.filter isReadmit
  let s := { s with chain := { s.chain with services := s.chain.services.filter fun x => !isReadmit x } }
  l.foldl (fun s x => completeOp s x.1 stOk (le 8 (frameStart s))) s

/-- Share the 35 data slots among queues (R324; log entry 72): whole shares rounded down, the rest one each to the lowest addresses. -/
def slotShares (l : List (Nat × Nat)) : List (Nat × Nat) :=
  let q := (l.map (·.2)).sum
  if q = 0 then []
  else
    let base := l.map fun x => (x.1, 35 * x.2 / q)
    let rest := 35 - (base.map (·.2)).sum
    base.zipIdx.map fun p => (p.1.1, p.1.2 + b2n (decide (p.2 < rest)))

/-- The slot map: sender and receiver of slots 5 to 39; a sender of 0 marks an unused slot (R304). -/
def slotMapOf (s : State) : List (Nat × Nat) :=
  let l := (s.chain.addr, queueBytes s) :: (s.chain.map.filter fun e => !e.lost && e.addr != 0 && e.addr != s.chain.addr).map fun e => (e.addr, e.queue)
  let used := (slotShares (l.filter fun x => x.2 != 0)).flatMap fun x => List.replicate x.2 (x.1, if x.1 = s.chain.addr then 0xFF else 0)
  (used ++ List.replicate 35 (0, 0)).take 35

/-- The superframe frame (R304). -/
def superframeBytes (sfnum master count : Nat) (ack : List Nat) (admitMask placeb rsf : Nat) (map : List (Nat × Nat)) : List Byte :=
  le 4 sfnum ++ le 1 master ++ le 1 count ++ zeros 2 ++ (List.range 32).flatMap (fun k => le 2 (nth ack k 0)) ++ le 4 admitMask ++ le 4 placeb ++
    le 4 rsf ++ (List.range 35).flatMap (fun k => le 1 (nth map k (0, 0)).1 ++ le 1 (nth map k (0, 0)).2) ++ zeros 6

/-- Number of the radio superframe that runs (R304). -/
def rsfNow (s : State) : Nat := s.packTime / 20000000

/-- Acknowledged frames of the last 10 radio superframes in %, 100 where none were sent (R327, R329; log entry 72). -/
def ackedPct (s : State) (l : List (Nat × Bool)) : Nat :=
  let r := l.filter fun a => decide (rsfNow s < a.1 + 10)
  if r.isEmpty then 100 else (r.filter (·.2)).length * 100 / r.length

/-- The partner at an address. -/
def peerOf (s : State) (addr : Nat) : RadioPeer :=
  (s.radio.peers.find? fun p => p.addr == addr).getD { addr := addr, counter := none, rssi := 0, sent := 0, acks := [] }

/-- Store a partner. -/
def setPeer (s : State) (p : RadioPeer) : State :=
  { s with radio := { s.radio with peers := p :: s.radio.peers.filter fun x => x.addr != p.addr } }

end Sys2Proof.Machine
end

