-- ==== Sys2Proof/Machine/LinkRows.lean ====
section
/-! DEFINITION. The commands of class 0x07, the ring's messages, and the frames and express sets of DeariLink (R42, R74, R112, R290 to R303,
R306, R307, R316, R325 to R330). -/
namespace Sys2Proof.Machine

/-! Commands of class 0x07 (R329). -/

/-- Does any package sweep, as far as the heads know (R329)? -/
def anySweeps (s : State) : Bool := s.sweep.running || s.chain.map.any fun e => !e.lost && e.sweeping

/-- The payload of an enumeration frame (R297, R306). -/
def enumBytes (chainId next expect : Nat) : List Byte := le 4 chainId ++ le 1 next ++ le 1 expect ++ zeros 2

/-- ENUMERATE (R306, R329): the frame leaves port A only. -/
def execEnumerate (h : Hdr) (expect : Nat) (s : State) : Host.Outcome State Fault Refusal :=
  .next <| runCmd s h 0x0701 fun s =>
    if expect = 1 ∨ 32 < expect then refuse s h 0x0701 stFrameInvalid
    else if !primaryHead s then refuse s h 0x0701 0x80
    else if anySweeps s then refuse s h 0x0701 0x81
    else if s.chain.enumerating.isSome then refuse s h 0x0701 stBusy
    else startOp s h 0x0701 fun s =>
      let seq := nextFrameSeq s 0x0B
      let s := stepFrameSeq { s with chain := { s.chain with enumerating := some (h, expect, s.now) } } 0x0B
      emitCopy s 0 0x0B 0xFF 1 seq (enumBytes s.chain.chainId 2 expect)

/-- ENUMERATION_TIMEOUT (R306): the frame has not returned within 10 ms. -/
def execEnumerationTimeout (s : State) : Host.Outcome State Fault Refusal :=
  .next <|
    match s.chain.enumerating with
    | some (h, _, t) =>
      if t + 10 * msT ≤ s.now then completeOp { s with chain := { s.chain with enumerating := none } } h 0x82 [] else s
    | none => s

/-- FLAGS of a chain map record (R329). -/
def mapFlags (s : State) (addr : Nat) (head locked : Bool) (ports : Nat) : Nat :=
  b2n head + 2 * b2n (head && decide (addr ≠ 1) && addr == s.chain.count) + 4 * b2n (s.chain.masterAddr == addr && decide (addr ≠ 0)) +
    8 * b2n locked + 16 * b2n (s.chain.source == addr && decide (addr ≠ 0)) + 32 * b2n (bit ports 2) + 64 * b2n (bit ports 5)

/-- The record of an entry of the map. -/
def entryBytes (s : State) (e : MapEntry) : List Byte :=
  le 1 e.addr ++ le 1 e.state ++ le 1 (mapFlags s e.addr e.head e.locked e.ports) ++ le 1 e.dieOut ++ le 8 e.uid

/-- The record of this package. -/
def ownMapBytes (s : State) : List Byte :=
  le 1 s.chain.addr ++ le 1 (ownState s) ++
    le 1 (mapFlags s s.chain.addr s.chain.isHead s.chain.locked (portBits s + 32 * b2n s.radio.enable)) ++ le 1 (dieOut s) ++ le 8 Config.unitId

/-- The record at a place of the map: an address, or beyond the count a package without an address (log entry 73). -/
def mapRecord (s : State) (k : Nat) : List Byte :=
  if k = s.chain.addr then ownMapBytes s
  else
    match (if k ≤ max 1 s.chain.count then entryOf s k else (s.chain.map.filter fun e => e.addr == 0)[k - max 1 s.chain.count - 1]?) with
    | some e => entryBytes s e
    | none => le 1 k ++ zeros 11

/-- GET_CHAIN_MAP (R329). -/
def execGetChainMap (h : Hdr) (first n : Nat) (s : State) : Host.Outcome State Fault Refusal :=
  .next <| runCmd s h 0x0702 fun s =>
    if outside 1 32 first || outside 1 16 n then refuse s h 0x0702 stFrameInvalid
    else reply s h 0x0702 stOk ((List.range n).flatMap fun k => mapRecord s (first + k))

/-- GET_LINK_STATUS (R36, R328, R329); the loads are free values (log entry 4). -/
def execGetLinkStatus (h : Hdr) (s : State) : Host.Outcome State Fault Refusal :=
  .next <| runCmd s h 0x0703 fun s =>
    let c := s.chain
    (reply s h 0x0703 stOk
      (le 4 c.chainId ++ le 1 c.count ++ le 1 (chainState s) ++ le 1 (portBits s) ++ le 1 c.breakAt ++ le 8 s.packTime ++
        le 2 (s.freeNat % 1001) ++ le 2 (s.freeNat / 1001 % 1001) ++ le 4 c.crcErr ++ le 1 (b2n c.placeB) ++ le 1 c.pin ++
        le 1 (ackedPct s (s.radio.peers.flatMap (·.acks))) ++ le 1 (b2n (decide (c.pin ≠ 0) && decide (35700 < queueBytes s))) ++
        leInt 2 c.offset ++ zeros 2 ++ le 8 c.lastBreak)).draw

/-- SET_TIMEBASE (R309, R329): the operation completes at the lock. -/
def execSetTimebase (h : Hdr) (ref freq : Nat) (s : State) : Host.Outcome State Fault Refusal :=
  .next <| runCmd s h 0x0704 fun s =>
    if 1 < ref ∨ outside 16000 40000 freq then refuse s h 0x0704 stFrameInvalid
    else if !primaryHead s then refuse s h 0x0704 0x80
    else if anySweeps s then refuse s h 0x0704 0x81
    else if s.chain.timebaseOp.isSome then refuse s h 0x0704 stBusy
    else startOp s h 0x0704 fun s =>
      { s with chain := { s.chain with refClkin := ref == 1, freq := freq, timebaseOp := some h }, power := { s.power with pllLocked := false } }

/-- The first superframe start at least 100 µs ahead (R304). -/
def nextSuperframe (s : State) : Nat := (s.packTime + 100 * usT + 99999) / 100000 * 100000

/-- SET_PLACEMENT (R328, R329). -/
def execSetPlacement (h : Hdr) (cls pin : Nat) (s : State) : Host.Outcome State Fault Refusal :=
  .next <| runCmd s h 0x0705 fun s =>
    if 1 < cls ∨ 2 < pin then refuse s h 0x0705 stFrameInvalid
    else if cls = 0 then (if pin = 2 then refuse s h 0x0705 0x85 else reply s h 0x0705 stOk (le 8 (nextSuperframe s)))
    else
      reply { s with chain := { s.chain with
        pin := pin, placeNext := if pin = 0 then s.chain.placeNext else some (pin == 1, s.now) } } h 0x0705 stOk (le 8 (nextSuperframe s))

/-- SET_RADIO (R329). -/
def execSetRadio (h : Hdr) (enable : Nat) (txpwr : Int) (chmask : Nat) (s : State) : Host.Outcome State Fault Refusal :=
  .next <| runCmd s h 0x0706 fun s =>
    if 1 < enable then refuse s h 0x0706 stFrameInvalid
    else reply { s with radio := { s.radio with enable := enable == 1, txpwr := txpwr, chmask := chmask } } h 0x0706 stOk []

/-- RADIO_REKEY (R323, R329). -/
def execRadioRekey (h : Hdr) (s : State) : Host.Outcome State Fault Refusal :=
  .next <| runCmd s h 0x0707 fun s =>
    if !primaryHead s then refuse s h 0x0707 0x80
    else if !keyGate s then refuse s h 0x0707 stRejected
    else startOp s h 0x0707 fun s =>
      let s := newKey s
      completeOp s h stOk (le 4 s.radio.keyGen)

/-- Would the order leave no segment die in service (R317)? -/
def leavesNone (s : State) (mask : Nat) : Bool := s.segs.all fun d => d.out || bit mask d.code

/-- SET_SERVICE (R316 to R318, R329): executed at a superframe start. -/
def execSetService (h : Hdr) (op dieMask : Nat) (s : State) : Host.Outcome State Fault Refusal :=
  .next <| runCmd s h 0x0708 fun s =>
    if 1 < op ∨ dieMask % 4 ≠ 0 then refuse s h 0x0708 stFrameInvalid
    else if maskUnfitted s dieMask then refuse s h 0x0708 stNotFitted
    else if op = 0 ∧ dieMask ≠ 0 ∧ leavesNone s dieMask then refuse s h 0x0708 stRejected
    else startOp s h 0x0708 fun s => { s with chain := { s.chain with services := s.chain.services ++ [(h, op, dieMask, s.now)] } }

/-- GET_RADIO_STATUS (R329). -/
def execGetRadioStatus (h : Hdr) (first n : Nat) (s : State) : Host.Outcome State Fault Refusal :=
  .next <| runCmd s h 0x0709 fun s =>
    if outside 1 32 first || outside 1 16 n then refuse s h 0x0709 stFrameInvalid
    else
      reply s h 0x0709 stOk (le 1 n ++ zeros 3 ++ (List.range n).flatMap fun k =>
        let p := peerOf s (first + k)
        le 1 (first + k) ++ leInt 1 p.rssi ++ le 1 (ackedPct s p.acks) ++ [0] ++ le 4 p.sent)

/-- NOT_LOCKED (R330): a readmission ordered more than 10 s before the package locks completes. -/
def execNotLocked (s : State) : Host.Outcome State Fault Refusal :=
  .next <|
    if s.chain.locked then s
    else
      let late := s.chain.services.filter fun x => isReadmit x && decide (x.2.2.2 + 10 * secT ≤ s.now)
      late.foldl (fun s x => completeOp s x.1 0x84 [])
        { s with chain := { s.chain with services := s.chain.services.filter fun x => !(isReadmit x && decide (x.2.2.2 + 10 * secT ≤ s.now)) } }

/-! The in-package ring. -/

/-- CLAPPER_EVENT (R109, R290): the event code group reaches a die. A die whose ring input is lost takes none (R293). -/
def execClapperEvent (die : Nat) (s : State) : Host.Outcome State Fault Refusal :=
  onDie s die fun d =>
    if !cUp s || d.unpowered || d.ringLost then s
    else match s.sweep.events with
      | e :: _ => s.updDie die fun d => { d with held := some e.clap }
      | [] => s

/-- RING_PACK_TIME (R16, R290, R292): a good message sets the die's copy of pack time to C's; a correction of more than two ticks makes no TIMER
event of the instants it passes (log entry 74). A die whose ring input is lost receives none. -/
def execRingPackTime (die : Nat) (good : Bool) (s : State) : Host.Outcome State Fault Refusal :=
  onDie s die fun d =>
    if !cUp s then s
    else if !good then ringFailure s die
    else if d.ringLost || d.unpowered then s
    else s.updDie die fun d => { d with packTime := s.packTime, packPrev := min s.packTime (max d.packPrev (s.packTime - 2)) }

/-- The cell samples of the dies are aligned as far as the current samples reach; in host-assisted alignment they stay as they are (R144, R145,
R149). -/
def alignNow (s : State) : State :=
  if s.slates.irsrc = 0 then { s with segs := s.segs.map fun d => { d with hist := alignLists s d.code s.slates.alignHost false s.packTime d.hist } } else s

/-- RING_CURRENT_SAMPLE (R145, R290, R292). -/
def execRingCurrentSample (time : Nat) (current : Int) (good : Bool) (s : State) : Host.Outcome State Fault Refusal :=
  .next <|
    if !cUp s then s
    else if !good then ringFailure s 0
    else
      let x : CurSample := { at_ := time, ma := current, int_ := 0 }
      alignNow { s with ring := { s.ring with current := (x :: s.ring.current).take 256 } }

/-- The third failure of a message to a die: the switch that waits for it completes with RESOURCE_BUSY (R292; log entry 60). -/
def giveUp (s : State) (die : Nat) : State :=
  let hit := s.mail.switches.find? fun w => match w.setting with
    | .sequence mask _ => bit mask die
    | .interaction mask _ => bit mask die
    | .derating _ es => es.any fun e => e.die == die
    | _ => true
  match hit with
  | some w => completeOp { s with mail := { s.mail with switches := s.mail.switches.filter fun x => x.hdr != w.hdr } } w.hdr stBusy []
  | none => s

/-- RING_CONFIGURATION_MESSAGE (R292, R418): C repeats a failed message up to three times. A failure that an injection made carries
FORCED. -/
def execRingConfigurationMessage (die : Nat) (good : Bool) (s : State) : Host.Outcome State Fault Refusal :=
  onDie s die fun d =>
    if !cUp s then s
    else
      let inj := injected s 2
      let s := useInject s 2
      if good ∧ inj = false then s.updDie die fun d => { d with msgFails := 0 }
      else
        let l := s.now :: s.ring.errors.filter fun t => decide (s.now < t + secT)
        let s := { s with ring := { s.ring with errors := l } }
        let s := if 10 < l.length then
            settle <| collect s (faultMsg 0 3 0x5B die) (if inj then { forced := true, suppressed := false, until_ := s.now } else realMsg) else s
        if 2 ≤ d.msgFails then giveUp (s.updDie die fun d => { d with msgFails := 0 }) die
        else s.updDie die fun d => { d with msgFails := d.msgFails + 1 }

/-- Time without a status word after which the ring counts as lost, and time that a die reports its input lost (R42). -/
abbrev ringLimit : Tick := 500 * usT

/-- Is a die silent, or has it reported its input lost, for 500 µs (R42, R513)? -/
def dieSilent (s : State) (d : SegDie) : Bool := !d.lbist && decide (d.statusAt + ringLimit ≤ s.now)
def dieCutOff (s : State) (d : SegDie) : Bool := !d.lbist && d.lostSince.any fun t => decide (t + ringLimit ≤ s.now)

/-- STATUS_WORD (R42, R292, R293, R513): the word of a die that can send one. A good word carries the ring-input-lost flag as the die
holds it. -/
def execStatusWord (die : Nat) (good inputLost : Bool) (s : State) : Host.Outcome State Fault Refusal :=
  onDie s die fun d =>
    if !cUp s || d.unpowered || d.lbist || good && inputLost != d.ringLost then s
    else if !good then ringFailure s die
    else
      let s := s.updDie die fun d => { d with
        statusAt := s.now, sentAt := s.now, lostSince := if inputLost then some (d.lostSince.getD s.now) else none }
      { s with ring := { s.ring with lost := s.ring.lost && s.segs.any fun d => dieSilent s d || d.lostSince.isSome } }

/-- RING_INPUT_LOST (R293): the die transmits on its own clock and takes no Clapper. -/
def execRingInputLost (die : Nat) (s : State) : Host.Outcome State Fault Refusal :=
  onDie s die fun _ => s.updDie die fun d => { d with ringLost := true, held := none }

/-- RING_INPUT_RETURN (R293). -/
def execRingInputReturn (die : Nat) (s : State) : Host.Outcome State Fault Refusal :=
  onDie s die fun _ => s.updDie die fun d => { d with ringLost := false }

/-- RING_LOSS (R42, R331): once for each loss; the detail names the lowest die that reports its input lost and the highest silent one. -/
def execRingLoss (s : State) : Host.Outcome State Fault Refusal :=
  .next <|
    if !cUp s || s.ring.lost then s
    else
      let silent := (s.segs.filter (dieSilent s)).map SegDie.code
      let cut := (s.segs.filter (dieCutOff s)).map SegDie.code
      if silent.isEmpty && cut.isEmpty then s
      else
        raise { s with ring := { s.ring with lost := true } } 0 3 0x5A
          (256 * (if cut.isEmpty then 0 else cut.foldl min 7) + silent.foldl max 0)

/-! Frames of DeariLink (R297). -/

/-- FULL_SLATE_FRAME (R38, R39, R79, R166, R297, R303): every member that it passes takes the current source's CHARGE from it. -/
def execFullSlateFrame (f : FrameHdr) (payload : List Byte) (s : State) : Host.Outcome State Fault Refusal :=
  .next <| frameAny s f 0x01 payload fun s =>
    let s := copyCharge s f.src payload
    if forMe s f.dest && s.chain.isHead && payload.length == 660 then slateIn s f.src 1 payload else s

/-- COMPACT_SLATE_FRAME (R39, R79, R297, R303). -/
def execCompactSlateFrame (f : FrameHdr) (payload : List Byte) (s : State) : Host.Outcome State Fault Refusal :=
  .next <| frameIn s f 0x02 payload fun s => if s.chain.isHead && payload.length == 324 then slateIn s f.src 2 payload else s

/-- COMMIT_NOTICE_FRAME (R39, R303). -/
def execCommitNoticeFrame (f : FrameHdr) (payload : List Byte) (s : State) : Host.Outcome State Fault Refusal :=
  .next <| frameIn s f 0x03 payload fun s => if s.chain.isHead && payload.length == 8 then noticeIn s f.src f.seq payload else s

/-- NOTICE_GAP_TIMEOUT (R303). -/
def execNoticeGapTimeout (s : State) : Host.Outcome State Fault Refusal :=
  .next <|
    if !cUp s then s
    else s.chain.tracks.foldl (fun s t => t.waiting.foldl (gapNotice t.addr) s) s

/-- OTHER_STREAM_RECORD_FRAME (R39, R76, R297). -/
def execOtherStreamRecordFrame (f : FrameHdr) (rtype : Nat) (payload : List Byte) (s : State) : Host.Outcome State Fault Refusal :=
  .next <| frameIn s f 0x04 (recordBytes rtype f.src payload) fun s => if s.chain.isHead then recordIn s f.src rtype payload else s

/-- MAILBOX_COMMAND_FRAME (R74, R83, R84). -/
def execMailboxCommandFrame (f : FrameHdr) (prio : Nat) (payload : List Byte) (s : State) : Host.Outcome State Fault Refusal :=
  .next <| frameIn s f 0x05 payload fun s => if prio < 4 then commandIn s f.src prio payload else s

/-- MAILBOX_REPLY_FRAME (R74). -/
def execMailboxReplyFrame (f : FrameHdr) (prio : Nat) (payload : List Byte) (s : State) : Host.Outcome State Fault Refusal :=
  .next <| frameIn s f 0x06 payload fun s => if prio < 4 then replyIn s prio payload else s

/-- What a member's fault record tells a head about the chain: a port of it went down (R313, R331). -/
def recordBreak (s : State) (src : Nat) (payload : List Byte) : State :=
  if leVal (fieldAt payload 2 1) = 0x50 ∧ leVal (fieldAt payload 12 1) = 0 then
    portDown s src (leVal (fieldAt payload 0 1) % 2) (leVal (fieldAt payload 4 8)) else s

/-- FAULT_RECORD_FRAME (R404, R412): each head writes the member's 16 bytes unchanged. -/
def execFaultRecordFrame (f : FrameHdr) (payload : List Byte) (s : State) : Host.Outcome State Fault Refusal :=
  .next <| frameIn s f 0x07 payload fun s =>
    if s.chain.isHead && payload.length == 16 then recordBreak (recordIn s f.src 0x0A payload) f.src payload else s

/-- What a superframe frame tells this package (R303, R304, R318, R327). -/
def superframeUse (s : State) (master count : Nat) (ack : List Nat) (admitMask placeb : Nat) (slotmap : List (Nat × Nat)) : State :=
  let a := s.chain.addr
  if a = 0 then { s with chain := { s.chain with masterAddr := master } }
  else
    let s := { s with chain := { s.chain with
      masterAddr := master, count := count, slotMap := slotmap
      notices := unacked (nth ack (a - 1) 0) s.chain.notices
      placeNext := if s.chain.pin = 0 then some (bit placeb (a - 1) || s.fw.noRadio, s.now) else s.chain.placeNext } }
    if bit admitMask (a - 1) then readmitted (admitMe s) else s

/-- SUPERFRAME_FRAME (R304). -/
def execSuperframeFrame (f : FrameHdr) (sfnum master count : Nat) (ack : List Nat) (admitMask placeb rsf : Nat) (slotmap : List (Nat × Nat))
    (s : State) : Host.Outcome State Fault Refusal :=
  .next <| frameIn s f 0x08 (superframeBytes sfnum master count ack admitMask placeb rsf slotmap) fun s =>
    superframeUse s master count ack admitMask placeb slotmap

/-- HEARTBEAT (R297, R304, R315, R324): state, queue and ports enter the map; a port that is up again ends its break. -/
def execHeartbeat (f : FrameHdr) (state queue ports : Nat) (s : State) : Host.Outcome State Fault Refusal :=
  .next <| frameIn s f 0x09 (heartbeatBytes state queue ports) fun s =>
    let s := updEntry (noteHead s f.src (bit state 6)) f.src fun e => { e with
      state := if e.state = 3 ∨ state % 16 = 0 ∨ 3 < state % 16 then e.state else state % 16
      sweeping := bit state 4, locked := bit state 5, dieOut := state / 256 % 256, queue := queue, ports := ports }
    let s := if bit ports 0 then portUp s f.src 0 else s
    if bit ports 1 then portUp s f.src 1 else s

/-- A package that announces itself starts its sequence numbers at 0: what a head keeps of it starts anew (R24, R318). -/
def freshSender (s : State) (src : Nat) : State :=
  { s with
    chain := { s.chain with tracks := s.chain.tracks.filter fun t => t.addr != src, seen := s.chain.seen.filter fun k => k.1 != src || k.2.1 == 0x0A }
    stream := { s.stream with undecided := s.stream.undecided.filter fun u => u.1 != src } }

/-- A package that is not admitted and gets no address: state unaddressed (R307). -/
def unaddressed (s : State) (uid : Nat) : State :=
  let e : MapEntry :=
    { addr := 0, uid := uid, state := 4, dieOut := 0, heard := s.now, lost := false, locked := false, queue := 0, ports := 0, sweeping := false
      placeB := false, head := false }
  raise { s with chain := { s.chain with map := s.chain.map.filter (fun x => !(x.addr == 0 && x.uid == uid)) ++ [e] } } 0 4 0x58 0

/-- The UID that the map holds for an address, 0 while it is not known. -/
def mapUid (s : State) (addr : Nat) : Option Nat := if addr = s.chain.addr then some Config.unitId else (entryOf s addr).map (·.uid)

/-- The announced UID enters the map and the stored one. -/
def setUid (s : State) (addr uid : Nat) : State :=
  let s := updEntry s addr fun e => { e with uid := uid }
  { s with nv := { s.nv with chainMap := s.nv.chainMap.map fun x => if x.1 = addr then (addr, uid) else x } }

/-- The position from which a frame came round the ring (R294, R296): against the clock to port A, from address 2 on; with it to port B, from the
highest address down. -/
def positionOf (s : State) (f : FrameHdr) : Nat := if f.port = 0 then f.hops + 2 else s.chain.count - f.hops

/-- The primary head compares an announcement with its map (R307). -/
def judgeJoin (s : State) (uid chainId addr position : Nat) : State :=
  if chainId = 0 ∨ chainId ≠ s.chain.chainId ∨ addr = 0 then unaddressed s uid
  else
    match mapUid s addr with
    | none => unaddressed s uid
    | some 0 => updEntry (setUid s addr uid) addr fun e => { e with state := if e.state = 1 then 1 else 3 }
    | some u =>
      if u ≠ uid then raise s 0 4 0x57 addr
      else
        let s := updEntry s addr fun e => { e with state := 3 }
        if position ≠ addr then raise s 0 4 0x58 addr else s

/-- JOIN (R297, R307, R318). -/
def execJoin (f : FrameHdr) (uid chainId addr time : Nat) (s : State) : Host.Outcome State Fault Refusal :=
  .next <| frameIn s f 0x0A (le 8 uid ++ le 4 chainId ++ le 1 addr ++ le 3 time) fun s =>
    if !s.chain.isHead then s
    else
      let s := freshSender s f.src
      if primaryHead s then judgeJoin s uid chainId addr (positionOf s f) else s

/-- The enumeration frame is back at the head's port B (R306): the count is complete, a new chain identity goes to every package, and the chain
starts with a new key (R323). -/
def enumerated (s : State) (h : Hdr) (expect count : Nat) : State :=
  let s := { s with chain := { s.chain with enumerating := none } }
  if expect ≠ 0 ∧ expect ≠ count then completeOp s h 0x83 []
  else
    let id := 1 + s.freeNat % (2 ^ 32 - 1)
    let l := (1, Config.unitId) :: (List.range (count - 1)).map fun k => (k + 2, 0)
    let s := { s.draw with
      chain := { s.chain with
        chainId := id, addr := 1, count := count, breaks := [], unreachable := 0, breakAt := 0
        map := l.map fun x => { MapEntry.stored s.now x with state := 1 } }
      nv := { s.nv with chainId := id, chainAddr := 1, chainMap := l, chainCount := count } }
    let s := sendFrame s 0x0E 0xFF 2 false false (le 1 5 ++ zeros 3 ++ le 4 id ++ le 8 count)
    completeOp (newKey s) h stOk (le 1 count ++ zeros 3 ++ le 4 id)

/-- ENUMERATION (R306): at the head it has come round; any other package takes the next address and sends the frame on out of port A. It stores
the address when the chain identity comes. -/
def execEnumeration (f : FrameHdr) (chainId next expect port : Nat) (s : State) : Host.Outcome State Fault Refusal :=
  .next <|
    if !cUp s then s
    else if !f.goodCrc then frameError s port
    else
      match s.chain.enumerating with
      | some (h, want, _) => if port = 1 then enumerated s h want (next - 1) else s
      | none =>
        emit { s with chain := { s.chain with addrNext := some next } } 1 0x0B f.dest (onwardBytes f 0x0B (enumBytes chainId (next + 1) expect))

/-- SCHEDULE_FRAME (R112, R116). -/
def execScheduleFrame (f : FrameHdr) (times : List Nat) (s : State) : Host.Outcome State Fault Refusal :=
  .next <| frameIn s f 0x0C (times.flatMap (le 8)) fun s =>
    if s.sweep.trig.source = 4 then takeTimes s times else s

/-- BULK_FRAME (R297, R487). -/
def execBulkFrame (f : FrameHdr) (stream tid offset : Nat) (data : List Byte) (s : State) : Host.Outcome State Fault Refusal :=
  .next <| frameIn s f 0x0D (le 1 stream ++ le 1 tid ++ le 4 offset ++ data) fun s => bulkIn s f.src stream tid offset data

/-- A package is armed for an activation of the chain, and says so (R490); the answer's bytes are log entry 62. -/
def armMember (s : State) (tmask at_ : Nat) : State :=
  let ok := s.fw.activation.isNone && s.nv.boot.pending == 0 && allVerified s tmask && !rolledBack s tmask && conditionsHold s tmask
  let s := if ok then
      { s with fw := { s.fw with
        activation := some { hdr := none, tmask := tmask, scope := 1, at_ := at_, committed := false, done := false } } } else s
  sendFrame s 0x0E 0 2 false false (armFrame 6 (b2n ok) at_)

/-- The head cancels an activation on every package (R490). -/
def cancelMember (s : State) (at_ : Nat) : State :=
  match s.fw.activation with
  | some a =>
    if a.hdr.isSome || a.done || a.at_ != at_ then s
    else
      let s := { s with fw := { s.fw with activation := none } }
      if a.committed then commitBoot s 0 0 else s
  | none => s

/-- A package answers an arming; one that is not armed ends the ACTIVATE (R490). -/
def armAnswer (s : State) (src armed at_ : Nat) : State :=
  match s.fw.activation with
  | some a =>
    if armed ≠ 0 ∨ a.hdr.isNone ∨ a.committed ∨ a.at_ ≠ at_ then s
    else endActivation (sendFrame s 0x0E 0xFF 2 false false (armFrame 3 a.tmask a.at_)) 0x8A (le 1 1 ++ zeros 3 ++ outcomeBytes src 2 0)
  | none => s

/-- The role of a package that is a head already, at its new address: primary at address 1, secondary at the highest one, none elsewhere
(R83, R308). -/
def headRole (c : Chain) : Chain :=
  if !c.isHead && !c.badHead then c
  else { c with isHead := decide (c.addr = 1 ∨ c.addr = c.count), secondary := decide (c.addr ≠ 1 ∧ c.addr = c.count)
                badHead := decide (c.addr ≠ 1 ∧ c.addr ≠ c.count), master := c.master && decide (c.addr = 1) }

/-- The chain identity comes: the package stores it with the address it took, and announces itself (R306). -/
def takeAddress (s : State) (id count : Nat) : State :=
  match s.chain.addrNext with
  | none => s
  | some a =>
    let s := { s with
      chain := headRole { s.chain with chainId := id, addr := a, addrNext := none, count := count, breaks := [], unreachable := 0, breakAt := 0 }
      nv := { s.nv with chainId := id, chainAddr := a, chainCount := count } }
    sendFrame s 0x0A 0xFF 1 false false (le 8 Config.unitId ++ le 4 id ++ le 1 a ++ le 3 s.packTime)

/-- What a configuration frame does (R297, R306, R323, R360, R455, R490; the kinds are log entry 62). -/
def configure (s : State) (src kind value time : Nat) : State :=
  match kind with
  | 0 =>
    if !keyGate s then s
    else
    { s with
      radio := { s.radio with
        key := le 16 value, keyGen := time, counter := 0, peers := s.radio.peers.map fun p => { p with counter := none } }
      nv := { s.nv with chainKey := le 16 value } }
  | 1 => armMember s value time
  | 2 => { s with chain := { s.chain with sourceNext := some (value, s.now) } }
  | 3 => cancelMember s time
  | 4 =>
    match stateOf value with
    | some p => { s with power := { s.power with chainMove := some ({ hdr := none, target := p }, s.now) } }
    | none => s
  | 5 => takeAddress s value time
  | 6 => armAnswer s src value time
  | _ => s

/-- CONFIGURATION_FRAME (R297). -/
def execConfigurationFrame (f : FrameHdr) (kind value time : Nat) (s : State) : Host.Outcome State Fault Refusal :=
  .next <| frameIn s f 0x0E (le 1 kind ++ zeros 3 ++ le 8 time ++ le 16 value) fun s => configure s f.src kind value time

/-! Express sets (R298). -/

/-- CLAP_SET (R37, R109, R110, R301): a member on CHAIN sets a Clapper; an unlocked one takes none. The sets of a
package that leads with its own pin are its own, come round (R300). -/
def execClapSet (time : Nat) (rising good : Bool) (s : State) : Host.Outcome State Fault Refusal :=
  .next <| if leadsClap s then s else setIn s (0x10 + b2n (!rising)) 0 good (time % 2 ^ 32, 0) (le 4 time) fun s =>
    if s.sweep.trig.source = 2 ∧ s.chain.locked ∧ edgeSelected s rising = true then
      let e := fullTime s.packTime time
      clapEvent s e (clapOf e s.sweep.trig.delay 2000)
    else s

/-- CURRENT_SET (R38, R302, R360): only the named source's samples are used. -/
def execCurrentSet (src time : Nat) (current : Int) (good : Bool) (s : State) : Host.Outcome State Fault Refusal :=
  .next <| setIn s 0x20 src good (time % 2 ^ 32, src) (le 1 src ++ le 4 time ++ leInt 4 current) fun s =>
    if chainSource s && src == s.chain.source then
      pushCurrent { s with chain := { s.chain with currentAt := some s.now } } (fullTime s.packTime time) current
    else s

/-- An alarm of another package: a head writes it once (R325). -/
def alarmIn (s : State) (src path : Nat) (msg : BitVec 32) (time : Nat) : State :=
  let k := (src, msg.toNat, time % 2 ^ 32)
  if s.chain.alarms.contains k then s
  else
    let s := { s with chain := { s.chain with alarms := (k :: s.chain.alarms).take 256 } }
    if s.chain.isHead then streamRec s 0x08 src (alarmPayload src path msg (fullTime s.packTime time)) else s

/-- ALARM_SET (R325). -/
def execAlarmSet (src : Nat) (msg : BitVec 32) (time : Nat) (good : Bool) (s : State) : Host.Outcome State Fault Refusal :=
  .next <| setIn s 0x40 src good (src * 2 ^ 32 + time % 2 ^ 32, msg.toNat) (le 1 src ++ le 4 msg.toNat ++ le 4 time) fun s =>
    alarmIn s src 0 msg time

end Sys2Proof.Machine
end

