-- ==== Sys2Proof/Machine/ChainRows.lean ====
section
/-! DEFINITION. Pack time, superframes, breaks and lost packages (R303, R304, R308 to R318, R327, R455). -/
namespace Sys2Proof.Machine

/-! Pack time (R309 to R312). -/

/-- Is this package the time master, or must it be disciplined by SYNC? A primary head that came back follows the chain until it has locked
(R311). -/
def followsSync (s : State) : Bool := !s.chain.master

/-- The time port: the port whose copy has crossed fewer hops, port B on a tie; a port with no copy counts as far away (R310). -/
def timePortB (a b : Nat) : Bool := decide (b ≠ 0) && (decide (a = 0) || decide (b ≤ a))

/-- Pack time follows the master's count (R310, R312): a locked member sets it, and a difference that is not a few ticks ahead is slewed, so that
pack time never steps back; a head that finds a running chain adopts its count. -/
def discipline (s : State) (target : Nat) : State :=
  let d : Int := (target : Int) - s.packTime
  if (s.chain.locked ∧ 0 ≤ d ∧ d ≤ 4) ∨ (s.chain.isHead ∧ 0 ≤ d ∧ s.chain.locked = false) then
    { s with packTime := target, chain := { s.chain with slew := 0 } }
  else { s with chain := { s.chain with slew := d } }

/-- One SYNC set on the time port: the tenth consecutive one locks (R310). -/
def countSync (s : State) : State :=
  let n := if s.chain.portSyncAt + 150000 < s.now then 1 else s.chain.syncs + 1
  { s with chain := { s.chain with syncs := min n 10, portSyncAt := s.now, locked := s.chain.locked || decide (10 ≤ n) } }

/-- A SYNC set is used (R310, R311): the correction, in 0.1 ns, with the delay of the hop it arrived on. OFFSET is the signed correction that the set
of the time port makes to the own pack time (DEDUCED, log 145). A secondary head that is the master yields to the primary head's. -/
def syncUse (s : State) (time correction port hops : Nat) (primary : Bool) : State :=
  let c := { s.chain with
    syncAt := s.now, primaryAt := if primary then s.now else s.chain.primaryAt
    hopsA := if port = 0 then hops else s.chain.hopsA, hopsB := if port = 0 then s.chain.hopsB else hops
    master := s.chain.master && !(primary && s.chain.secondary) }
  let b := timePortB c.hopsA c.hopsB
  let s := { s with chain := { c with portB := b } }
  if !followsSync s || (b != decide (port = 1)) then s
  else
    let s := countSync s
    discipline { s with chain := { s.chain with offset := max (-32768) (min 32767 (100 * ((time : Int) - s.packTime) + correction)) } }
      (time + correction / 100)

/-- The measured delay of a port's hop in 0.1 ns (R310). -/
def hopDelay (s : State) (port : Nat) : Nat := if port = 0 then s.chain.delayA else s.chain.delayB

/-- Time that a SYNC set spends inside this package, in 0.1 ns: a free value of at most 0.5 µs (R299, R300; log entry 145). -/
def residence (s : State) : Nat := s.freeNat % 5001

/-- Is a SYNC set this package's own, come round the ring (R300)? -/
def ownSync (s : State) (primary : Bool) : Bool := s.chain.master && (primary == primaryHead s)

/-- SYNC_SET (R10, R298 to R300, R310 to R312): both copies count, one for each port. The copy that goes on carries in its correction the delay of
the hop it arrived on and the time it spends here. -/
def execSyncSet (time correction port hops : Nat) (primary good : Bool) (s : State) : Host.Outcome State Fault Refusal :=
  .next <|
    if !cUp s || !good || ownSync s primary then s
    else
      let corr := correction + hopDelay s port
      let body := le 8 time ++ le 3 (corr + residence s)
      let s := if hops < 31 then (emit s 1 0x30 (1 - port) (body ++ [crc8 (0x30 :: body)])).draw else s
      if primaryHead s && s.chain.master then s else syncUse s time corr port hops primary

/-- DELAY_REQ (R298, R310): answered on the port it came in on. -/
def execDelayReq (port _time : Nat) (s : State) : Host.Outcome State Fault Refusal :=
  .next <|
    if !cUp s then s
    else
      let body := le 4 s.packTime
      emit s 1 0x60 port (body ++ [crc8 (0x60 :: body)])

/-- DELAY_RESP (R310, R313): the hop's delay is measured. -/
def execDelayResp (port _time delay : Nat) (s : State) : Host.Outcome State Fault Refusal :=
  .next <|
    if !cUp s then s
    else if port = 0 then { s with chain := { s.chain with delayA := delay, delayDone := s.chain.delayDone ||| 1 } }
    else { s with chain := { s.chain with delayB := delay, delayDone := s.chain.delayDone ||| 2 } }

/-- DELAY_MEASUREMENT (R310): every 16 ms a request on each port. -/
def execDelayMeasurement (s : State) : Host.Outcome State Fault Refusal :=
  .next <|
    if !cUp s || decide (s.now < s.chain.measuredAt + 16 * msT) then s
    else
      let body := le 4 s.packTime
      [0, 1].foldl (fun s p => emit s 1 0x50 p (body ++ [crc8 (0x50 :: body)])) { s with chain := { s.chain with measuredAt := s.now } }

/-- TIME_PORT_CHANGE (R310): the copy of the time port is missing 50 µs after the superframe start, and the other one has come. -/
def execTimePortChange (s : State) : Host.Outcome State Fault Refusal :=
  .next <|
    let since := s.packTime % 100000
    if !cUp s || s.chain.master || decide (since < 5000) || decide (s.now < s.chain.portSyncAt + since + 1) ||
        decide (s.chain.syncAt + since < s.now) then s
    else
      { s with chain := { s.chain with
        portB := !s.chain.portB, portSyncAt := s.chain.syncAt
        hopsA := if s.chain.portB then s.chain.hopsA else 0, hopsB := if s.chain.portB then 0 else s.chain.hopsB } }

/-- PACKTIME_UNLOCKED (R310): 2 ms without any SYNC set. -/
def execPacktimeUnlocked (s : State) : Host.Outcome State Fault Refusal :=
  .next <|
    if !cUp s || s.chain.master || !s.chain.locked || decide (s.now < s.chain.syncAt + 2 * msT) then s
    else raise { s with chain := { s.chain with locked := false, syncs := 0, slew := 0 } } 0 4 0x55 (256 * s.chain.addr)

/-- TIME_MASTER_TAKEOVER (R311): 2 ms without a SYNC set of the primary head; a locked secondary head is to be master at the next superframe. -/
def execTimeMasterTakeover (s : State) : Host.Outcome State Fault Refusal :=
  .next <|
    if !cUp s || s.chain.master || !s.chain.secondary || !s.chain.locked || decide (s.now < s.chain.primaryAt + 2 * msT) then s
    else { s with chain := { s.chain with takeover := true } }

/-- PACKTIME_REF_LOST (R309): the head goes on on its RC. -/
def execPacktimeRefLost (s : State) : Host.Outcome State Fault Refusal :=
  .next <|
    if !cUp s || !primaryHead s || s.chain.refLost then s
    else
      raise { s with chain := { s.chain with refLost := true }, power := { s.power with pllOnRef := false } } 0 13 0x56 (b2n s.chain.refClkin)

/-- PACK_TIME_SAVE (R312): the Keeper saves the value every hour. -/
def execPackTimeSave (s : State) : Host.Outcome State Fault Refusal :=
  .next <|
    if !cUp s || !s.sup.keeper || decide (s.now < s.chain.savedAt + 3600 * secT) then s
    else { s with nv := { s.nv with packSaved := s.packTime }, chain := { s.chain with savedAt := s.now } }

/-! Ports and lost packages (R313 to R315). -/

/-- LINK_DOWN (R313). -/
def execLinkDown (port : Nat) (s : State) : Host.Outcome State Fault Refusal :=
  .next <|
    if !cUp s then s
    else
      let c := s.chain
      let s := if port = 0 then { s with chain := { c with upA := false, hopsA := 0, delayDone := c.delayDone &&& 2, downAtA := s.now } }
        else { s with chain := { c with upB := false, hopsB := 0, delayDone := c.delayDone &&& 1, downAtB := s.now } }
      raise (portDown s s.chain.addr (b2n (decide (port ≠ 0))) s.packTime) 0 4 0x50 (256 * s.chain.addr + b2n (decide (port ≠ 0)))

/-- LINK_UP (R313): 100 ms of valid signal and a completed delay measurement. -/
def execLinkUp (port : Nat) (s : State) : Host.Outcome State Fault Refusal :=
  .next <|
    let p := b2n (decide (port ≠ 0))
    if !cUp s || !bit s.chain.delayDone p || (if p = 0 then s.chain.upA else s.chain.upB) ||
        decide (s.now < (if p = 0 then s.chain.downAtA else s.chain.downAtB) + 100 * msT) then s
    else
      let s := { s with chain := { s.chain with upA := s.chain.upA || decide (p = 0), upB := s.chain.upB || decide (p = 1) } }
      raise (portUp s s.chain.addr p) 0 4 0x51 (256 * s.chain.addr + p)

/-- PACKAGE_LOST (R307, R315): no frame for 24 ms. -/
def execPackageLost (addr : Nat) (s : State) : Host.Outcome State Fault Refusal :=
  .next <|
    match entryOf s addr with
    | some e =>
      if !cUp s || !primaryHead s || e.lost || decide (addr = s.chain.addr) || decide (s.now < e.heard + 24 * msT) then s
      else
        let s := updEntry s addr fun e => { e with lost := true, state := 0, sweeping := false, locked := false }
        raise { s with chain := { s.chain with seen := s.chain.seen.filter fun k => k.1 != addr } } 0 4 0x53 addr
    | none => s

/-! The superframe (R304). -/

/-- The master role comes back to a primary head that has locked, and goes to a secondary head that still hears no SYNC set of the primary head
(R311). -/
def takeMaster (s : State) : State :=
  let due := s.chain.takeover && s.chain.locked && decide (s.chain.primaryAt + 2 * msT ≤ s.now)
  let s := { s with chain := { s.chain with takeover := false } }
  if !s.chain.master && ((primaryHead s && s.chain.locked) || due) then { s with chain := { s.chain with master := true, slew := 0 } } else s

/-- Was something accepted at least 100 µs ago (R304)? -/
def ripe (s : State) (t : Tick) : Bool := decide (t + 100 * usT ≤ s.now)

/-- A placement decided before takes effect (R327, R328). -/
def applyPlacement (s : State) : State :=
  match s.chain.placeNext with
  | some (v, t) =>
    if !ripe s t then s
    else
      let moves := s.chain.placeB != v
      let s := { s with chain := { s.chain with placeB := v, placeNext := none } }
      if moves then raise s 0 19 0x5C (256 * s.chain.addr + b2n v) else s
  | none => s

/-- Class B that waits leaves on DeariLink while it is placed there; a transfer continues at its next offset (R297, R327). -/
def drainBulk (s : State) : State :=
  if !s.chain.placeB then s
  else
    (s.radio.inFlight.toList ++ s.radio.queue).foldl
      (fun s x => sendFrame s 0x0D x.dest 3 true false (le 1 x.stream ++ le 1 x.tid ++ le 4 x.offset ++ x.data))
      { s with radio := { s.radio with queue := [], inFlight := none } }

/-- A die is taken out of service (R317): its Dollies stop with END 8, and windows that it leaves undecided void their Slates. -/
def dieOutOfService (s : State) (die : Nat) : State :=
  let s := (endDie s die 8).updDie die fun d => { d with out := true }
  { s with slates := { s.slates with takes := s.slates.takes.map fun t => { t with
    windows := upd t.windows (fun w => w.die == die && decide (0 < w.left)) fun w => { w with left := 0, closedAt := some s.now, got := some 2 } } } }

/-- A die rejoins with a die-only restart (R318). -/
def dieRejoins (s : State) (die : Nat) : State := (restartDie s die).updDie die fun d => { d with out := false, rejoin := 2 }

/-- The package goes out of service (R316): its sweeps stop at the next Take boundary. -/
def packageOut (s : State) : State :=
  { s with
    chain := { s.chain with out := true }
    sweep := { s.sweep with stopPending := s.sweep.running || s.sweep.stopPending } }

/-- A package that orders its own readmission: at once where it has no primary head above it, else it waits for its admission (R318). -/
def askAdmission (s : State) : State :=
  if !s.chain.out && !s.chain.joining then readmitted s
  else if s.chain.addr ≤ 1 ∧ s.chain.locked then readmitted (admitMe s)
  else { s with chain := { s.chain with joining := true } }

/-- An order of SET_SERVICE is carried out; the readmission of the whole package stays open until it is admitted (R316 to R318). -/
def serviceOrder (s : State) (x : Hdr × Nat × Nat × Tick) : State :=
  if !ripe s x.2.2.2 then s
  else if isReadmit x then askAdmission s
  else
    let dies := s.part.segCodes.filter fun c => bit x.2.2.1 c
    let s := { s with chain := { s.chain with services := s.chain.services.filter (· != x) } }
    let s := if x.2.1 = 1 then dies.foldl dieRejoins s
      else if x.2.2.1 = 0 then packageOut s
      else dies.foldl dieOutOfService s
    completeOp s x.1 stOk (le 8 (frameStart s))

/-- Orders of SET_SERVICE in the order accepted. -/
def applyServices (s : State) : State := s.chain.services.foldl serviceOrder s

/-- The primary head admits every package that is ready (R318). -/
def admitReady (s : State) : State :=
  if !primaryHead s then s
  else
    let l := (s.chain.map.filter fun e => decide (e.state = 3) && e.locked && !e.lost && decide (e.addr ≠ 0) && e.addr != s.chain.addr).map (·.addr)
    let s := { s with chain := { s.chain with toAdmit := l } }
    l.foldl (fun s a => raise (updEntry s a fun e => { e with state := 1 }) 0 4 0x54 a) s

/-- A move of the whole chain takes effect (R455). -/
def applyChainMove (s : State) : State :=
  match s.power.chainMove with
  | some (m, t) => if ripe s t then doMove { s with power := { s.power with chainMove := none } } m.hdr m.target else s
  | none => s

/-- A new current source takes effect, and every package stores its name (R360); a source without current is reported anew (R148). -/
def applySource (s : State) : State :=
  match s.chain.sourceNext with
  | some (a, t) =>
    if !ripe s t then s
    else if a = s.chain.source ∧ s.chain.sourceSet then { s with chain := { s.chain with sourceNext := none } }
    else
      let s := restartStream s
      { s with
        chain := { s.chain with source := a, sourceSet := true, sourceNext := none, currentAt := none }
        nv := { s.nv with source := a, sourceSet := true }
        slates := { s.slates with noCurrent := false } }
  | none => s

/-- Own Slates that wait for the chain leave (R170, R305; log entry 46). -/
def drainSlates (s : State) : State :=
  s.slates.chainQueue.foldl (fun s p => sendFrame s (if p.length = 660 then 1 else 2) 0 2 false false p)
    { s with slates := { s.slates with chainQueue := [], chainRun := 0 } }

/-- Notices not yet acknowledged are repeated (R303). -/
def repeatNotices (s : State) : State := s.chain.notices.foldl (fun s n => linkFrame s 3 0 1 false true n.1 n.2) s

/-- Automatic placement of one package (R327): its placement now, the spare capacity in kb/s averaged over 100 ms, the acknowledged frames in %, its
queue in bytes; 2 s and 0.5 s of traffic at the radio's 17 850 bytes/s are 35 700 and 8925 bytes (R324). -/
def placeDecision (on : Bool) (avg pct queue : Nat) : Bool :=
  if on then !((decide (97 ≤ pct) && decide (queue < 8925)) || decide (avg < 1000))
  else decide (2000 < avg) && (decide (pct < 90) || decide (35700 < queue))

/-- The mean of the spare readings (R327). -/
def spareMean (l : List Nat) : Nat := if l.isEmpty then 0 else l.sum / l.length

/-- The primary head decides the placement of every package (R327). -/
def decidePlacement (s : State) (spare : Nat) : State :=
  if !primaryHead s then s
  else
    let s := { s with chain := { s.chain with spare := (spare :: s.chain.spare).take 100 } }
    let avg := spareMean s.chain.spare
    let own := placeDecision s.chain.placeB avg (ackedPct s (s.radio.peers.flatMap (·.acks))) (queueBytes s) || s.fw.noRadio
    { s with chain := { s.chain with
      map := s.chain.map.map fun e => { e with placeB := placeDecision e.placeB avg (ackedPct s (peerOf s e.addr).acks) e.queue }
      placeNext := if s.chain.pin = 0 then some (own, s.now) else s.chain.placeNext } }

/-- PLACEB of the superframe frame (R304). -/
def placeMask (s : State) : Nat :=
  (s.chain.map.filter fun e => e.placeB && e.addr != 0 && e.addr != s.chain.addr).foldl (fun a e => a ||| 2 ^ (e.addr - 1))
    (if s.chain.addr ≠ 0 ∧ (s.chain.placeNext.any (·.1)) then 2 ^ (s.chain.addr - 1) else 0)

/-- ACK of the superframe frame: own notices need none (R303). -/
def ackList (s : State) : List Nat := (List.range 32).map fun k => if k < s.chain.count then (trackOf s (k + 1)).ack else 0

/-- What the time master sends: SYNC and the superframe frame (R304), and a key where none has been made since its start or a counter nears its
limit (R323). -/
def masterSends (s : State) : State :=
  if !s.chain.master || decide (s.chain.addr = 0) then s
  else
    let s := if s.radio.keyGen = 0 ∨ 0xEFFFFF00 < s.radio.counter ∨ s.radio.peers.any (fun p => p.counter.any fun c => decide (0xEFFFFF00 < c)) then
        newKey s else s
    let s := { s with chain := { s.chain with masterAddr := s.chain.addr, notices := if primaryHead s then [] else s.chain.notices } }
    let s := sendSet s 0x30 (le 8 s.packTime ++ zeros 3)
    let admitMask := s.chain.toAdmit.foldl (fun a x => a ||| 2 ^ (x - 1)) 0
    let s := sendFrame s 0x08 0xFF 1 false false
      (superframeBytes (s.packTime / 100000) s.chain.addr s.chain.count (ackList s) admitMask (placeMask s) (rsfNow s + 1) s.chain.slotMap)
    { s with chain := { s.chain with toAdmit := [] } }

/-- A radio superframe begins: the map announced for it is in force, and the master makes the next one (R304, R320). -/
def radioSuperframe (s : State) (old : Nat) : State :=
  if old / 200 = s.chain.sfnum / 200 then s
  else
    let s := { s with radio := { s.radio with map := s.chain.slotMap } }
    if s.chain.master then { s with chain := { s.chain with slotMap := slotMapOf s } } else s

/-- The heartbeat of a member (R304). -/
def sendHeartbeat (s : State) : State :=
  if s.chain.addr ≤ 1 ∨ s.chain.sfnum % 8 ≠ s.chain.addr % 8 then s
  else sendFrame s 0x09 0 1 false false (heartbeatBytes (heartbeatState s) (queueBytes s) (portBits s + 32 * b2n s.radio.enable))

/-- SUPERFRAME_START (R303, R304, R311, R316 to R318, R327, R360, R455): once for each superframe. -/
def execSuperframeStart (spare : Nat) (s : State) : Host.Outcome State Fault Refusal :=
  .next <|
    let n := s.packTime / 100000 % 2 ^ 32
    if !cUp s || n == s.chain.sfnum then s
    else
      let old := s.chain.sfnum
      let s := takeMaster { s with chain := { s.chain with sfnum := n } }
      let s := radioSuperframe (drainBulk (applyPlacement s)) old
      let s := checkRef (applySource (admitReady (applyServices s)))
      let s := drainSlates (repeatNotices s)
      let s := sendHeartbeat (masterSends (decidePlacement s spare))
      applyChainMove s

end Sys2Proof.Machine
end

