-- ==== Sys2Proof/Machine/FaultRows.lean ====
section
/-! DEFINITION. The commands and events of fault collection, the watchdogs and the Dailies (R402 to R437, R565). -/
namespace Sys2Proof.Machine

/-- The records of one kind for FAULT_READ: open, or closed (R433). -/
def heldRecs (s : State) (which : Nat) : List FRec := if which = 0 then s.faults.open_ else s.faults.closed

/-- FAULT_READ (R409, R433). -/
def execFaultRead (h : Hdr) (which n fromIdx : Nat) (s : State) : Host.Outcome State Fault Refusal :=
  .next <| runCmd s h 0x0A01 fun s =>
    let l := heldRecs s which
    if l.length ≤ fromIdx then refuse s h 0x0A01 0x80
    else
      let rs := (l.drop fromIdx).take (min n 7)
      reply s h 0x0A01 stOk (le 1 rs.length ++ zeros 3 ++ rs.flatMap fun r => frecBytes r (r.open_ && recPersists s r))

/-- The parameter bytes of FAULT_CLEAR before its proof (R433). -/
def clearPre (source all : Nat) : List Byte := le 1 source ++ le 1 all ++ zeros 2

/-- FAULT_CLEAR of every record, or of one (R413). -/
def faultClear (s : State) (h : Hdr) (source all : Nat) (p : Option Proof) : State :=
  match p with
  | some q => withProof s h 0x0A02 (clearPre source all) q fun s => beginClear s h source all true
  | none => beginClear s h source all false

/-- FAULT_CLEAR (R413, R433). The clear of a named record carries a proof exactly where the record is of class SAFE or FATAL, else its PLEN is
wrong (R563). One that finds another waiting for its checks completes with RESOURCE_BUSY (log entry 27). -/
def execFaultClear (h : Hdr) (source all : Nat) (p : Option Proof) (s : State) : Host.Outcome State Fault Refusal :=
  .next <| runCmd s h 0x0A02 fun s =>
    if s.faults.clearing.isSome then refuse s h 0x0A02 stBusy
    else if all ≠ 0 then faultClear s h source all p
    else
      match openOf s source with
      | none => refuse s h 0x0A02 0x80
      | some r => if p.isSome = decide (3 ≤ r.cls) then faultClear s h source all p else refuse s h 0x0A02 stFrameInvalid

/-- GET_FAULT_STATUS (R433). -/
def execGetFaultStatus (h : Hdr) (s : State) : Host.Outcome State Fault Refusal :=
  .next <| runCmd s h 0x0A03 fun s =>
    reply s h 0x0A03 stOk
      (le 1 s.faults.open_.length ++ [0] ++
        (List.range 5).flatMap (fun c => le 1 (s.faults.open_.filter fun r => r.cls == c).length) ++
        le 1 (sat 8 s.faults.forces.length) ++ le 1 (b2n s.faults.hostMode) ++ zeros 3 ++ le 4 s.faults.nextId)

/-- Is a change of a kind's class one that breaks R406? -/
def reactionFixed (kind cls : Nat) : Bool :=
  let d := nth defaultClasses kind 0
  decide (3 ≤ d) || kind == 0x90 || kind == 0x91 || cls == 4 || (d == 2 && decide (cls < 2))

/-- SET_REACTION (R406, R407, R433). -/
def execSetReaction (h : Hdr) (kind cls : Nat) (p : Proof) (s : State) : Host.Outcome State Fault Refusal :=
  .next <| runCmd s h 0x0A04 fun s =>
    if 4 < cls then refuse s h 0x0A04 stFrameInvalid
    else withProof s h 0x0A04 (le 1 kind ++ le 1 cls ++ zeros 2) p fun s =>
      if reactionFixed kind cls then refuse s h 0x0A04 0x81
      else
        let t := s.faults.table.set kind cls
        let g := s.faults.tableGen + 1
        let s := { s with faults := { s.faults with table := t, tableGen := g } }
        reply (flashPush s (.reactionTable t g)) h 0x0A04 stOk (le 4 g)

/-- GET_REACTION (R433, R566). -/
def execGetReaction (h : Hdr) (first n : Nat) (s : State) : Host.Outcome State Fault Refusal :=
  .next <| runCmd s h 0x0A05 fun s =>
    reply s h 0x0A05 stOk ((List.range (min n 128)).flatMap fun k => le 1 (classOf s (first + k)))

/-- Does the state of the part permit fault injection (R415, R418)? -/
def injectPermitted (s : State) : Bool :=
  (between 1 4 s.life.state) && (s.power.state == .run || s.power.state == .service)

/-- FAULT_FORCE (R415 to R417). -/
def execFaultForce (h : Hdr) (source kind detail hold suppress : Nat) (p : Proof) (s : State) :
    Host.Outcome State Fault Refusal :=
  .next <| runCmd s h 0x0A06 fun s =>
    if !injectPermitted s then refuse s h 0x0A06 stRejected
    else if !s.fitted (source / 32) then refuse s h 0x0A06 stNotFitted
    else withProof s h 0x0A06 (le 1 source ++ le 1 kind ++ le 2 detail ++ le 2 hold ++ le 1 suppress ++ [0]) p fun s =>
      let die := source / 32
      if !sourceRaises die (source % 32) kind then refuse s h 0x0A06 0x84
      else
        let t := s.now + hold * msT
        let s := { s with faults := { s.faults with
          forces := (s.faults.forces.filter fun f => f.1 != source) ++ [(source, t)] } }
        let s := settle <| collect s (faultMsg die (source % 32) kind detail) { forced := true, suppressed := suppress == 1, until_ := t }
        let id := ((openOf s source).map (·.recid)).getD (s.faults.nextId - 1)
        reply (if suppress = 1 then s else ownAction s die kind detail) h 0x0A06 stOk (le 4 id)

/-- FORCE_HOLD_END (R415). -/
def execForceHoldEnd (source : Nat) (s : State) : Host.Outcome State Fault Refusal :=
  .next { s with faults := { s.faults with
    forces := s.faults.forces.filter fun f => !(f.1 == source && decide (f.2 ≤ s.now)) } }

/-- INJECT_CHECK (R418). -/
def execInjectCheck (h : Hdr) (target mode count : Nat) (p : Proof) (s : State) : Host.Outcome State Fault Refusal :=
  .next <| runCmd s h 0x0A07 fun s =>
    if !injectPermitted s then refuse s h 0x0A07 stRejected
    else withProof s h 0x0A07 (le 1 target ++ le 1 mode ++ le 1 count ++ [0]) p fun s =>
      reply { s with faults := { s.faults with
        injects := (s.faults.injects.filter fun i => i.1 != target) ++ [(target, mode, count)] } } h 0x0A07 stOk []

/-- WD_CONFIG (R419). -/
def execWdConfig (h : Hdr) (arm period seed : Nat) (p : Proof) (s : State) : Host.Outcome State Fault Refusal :=
  .next <| runCmd s h 0x0A08 fun s => withProof s h 0x0A08 (le 1 arm ++ [0] ++ le 2 period ++ le 4 seed) p fun s =>
    if arm = 0 ∧ s.wd.armed then refuse s h 0x0A08 0x83
    else
      let s := { s with wd := { s.wd with nextPeriod := period, nextSeed := seed } }
      let s := if arm = 1 then wdArm s else s
      reply s h 0x0A08 stOk (le 2 s.wd.seq.toNat ++ zeros 2)

/-- Milliseconds left to `t` ticks after the period start, rounded up (R433). -/
def wdMs (s : State) (t : Nat) : Nat := (t - wdElapsed s + (msT - 1)) / msT

/-- WD_STATUS (R433). -/
def execWdStatus (h : Hdr) (s : State) : Host.Outcome State Fault Refusal :=
  .next <| runCmd s h 0x0A09 fun s =>
    reply s h 0x0A09 stOk
      (le 1 (b2n s.wd.armed) ++ [0] ++ le 2 s.wd.seq.toNat ++ le 2 s.wd.nextPeriod ++
        le 2 (if s.wd.armed then wdMs s (wdOpens s) else 0) ++ le 2 (if s.wd.armed then wdMs s (wdCloses s) else 0) ++
        le 2 s.wd.good ++ le 8 s.wd.lastGood)

/-- GET_EVIDENCE (R427). -/
def execGetEvidence (h : Hdr) (index : Nat) (s : State) : Host.Outcome State Fault Refusal :=
  .next <| runCmd s h 0x0A0A fun s =>
    match s.aon.evidence[index]? with
    | some e => reply s h 0x0A0A stOk (evidenceBytes e)
    | none => refuse s h 0x0A0A 0x80

/-- A record after the host's decision (R408, R409). -/
def decideRec (s : State) (r : FRec) (action : Nat) : State :=
  let s := { s with faults := { s.faults with
    open_ := upd s.faults.open_ (fun x => x.recid == r.recid) fun x => { x with decide_ := false, hostAct := action } } }
  if action = 2 then settle (r.causes.foldl (fun s c => withdraw s c.kind (msgDie r.msg) c.detail) s) else s

/-- FAULT_DECIDE (R408, R433). -/
def execFaultDecide (h : Hdr) (source action : Nat) (s : State) : Host.Outcome State Fault Refusal :=
  .next <| runCmd s h 0x0A0B fun s =>
    if action ≠ 1 ∧ action ≠ 2 then refuse s h 0x0A0B stFrameInvalid
    else
      match openOf s source with
      | none => refuse s h 0x0A0B 0x80
      | some r =>
        if !s.faults.hostMode || !r.decide_ then refuse s h 0x0A0B 0x82
        else reply (decideRec s r action) h 0x0A0B stOk []

/-- SET_REACTION_MODE (R31, R32, R433). -/
def execSetReactionMode (h : Hdr) (mode : Nat) (s : State) : Host.Outcome State Fault Refusal :=
  .next <| runCmd s h 0x0A0C fun s => switchCmd s h 0x0A0C 0x0A0C (.reactionMode mode)

/-- GET_CHECKPOINTS (R433). -/
def execGetCheckpoints (h : Hdr) (s : State) : Host.Outcome State Fault Refusal :=
  .next <| runCmd s h 0x0A0D fun s =>
    reply s h 0x0A0D stOk
      (le 2 s.sup.window ++ zeros 2 ++ (List.range 16).flatMap fun k =>
        le 1 (nth s.sup.limits k (0, 0)).1 ++ le 1 (nth s.sup.limits k (0, 0)).2 ++ le 1 (nth s.sup.lastCounts k 0) ++ [0])

/-- INFO_RECORD_CLOSE (R410): 1 s after the latest message of an INFO record. -/
def execInfoRecordClose (source : Nat) (s : State) : Host.Outcome State Fault Refusal :=
  .next <|
    match openOf s source with
    | some r => if r.cls = 0 ∧ r.heard + secT ≤ s.now then closeRec s r else s
    | none => s

/-- FAULT_MESSAGE (R405): a message from a die reaches the collector. -/
def execFaultMessage (msg : BitVec 32) (s : State) : Host.Outcome State Fault Refusal := .next (settle (collect s msg realMsg))

/-- CHECKPOINT_CHECK_IN (R423): nothing checks in while the Studio is stopped or asleep. -/
def execCheckpointCheckIn (task : Nat) (s : State) : Host.Outcome State Fault Refusal :=
  .next <|
    if s.sup.stopped || decide (16 ≤ task) then s
    else { s with sup := { s.sup with
      counts := updAt s.sup.counts task (· + 1), lastCheckin := s.sup.lastCheckin.set task (s.packTime % 2 ^ 32) } }

/-- The tasks outside their limits, each with its kind and count (R424). -/
def checkpointFailures (s : State) : List (Nat × Nat × Nat) :=
  (List.range 16).filterMap fun k =>
    let c := nth s.sup.counts k 0
    let l := nth s.sup.limits k (0, 255)
    if c < l.1 then some (k, 0x83, c) else if l.2 < c then some (k, 0x84, c) else none

/-- CHECKPOINT_WINDOW_END (R424, R425, R495): one restart whatever the number of failures. -/
def execCheckpointWindowEnd (pc : Nat) (s : State) : Host.Outcome State Fault Refusal :=
  .next <|
    if s.sup.stopped || studioAsleep s then s
    else
      let f := checkpointFailures s
      let s := { s with sup := { s.sup with lastCounts := s.sup.counts.map (sat 8), counts := List.replicate 16 0 } }
      let s := f.foldl (fun s x =>
        raise (capture s (16 + x.1) x.2.1 pc) 0 (16 + x.1) x.2.1 (256 * x.1 + sat 8 x.2.2)) s
      if f.isEmpty then s else warmRestart s 0x83

/-- MPU_VIOLATION (R18, R425): the access is blocked, reported, and the Studio restarts. -/
def execMpuViolation (region access : Nat) (s : State) : Host.Outcome State Fault Refusal :=
  .next (warmRestart (raise s 0 15 0x85 (256 * region + access)) 0x85)

/-- SRAM_ECC_ERROR (R418, R425, R437): while an injection is armed at the memory, the record carries FORCED and not REAL, and the
reaction executes in full. -/
def execSramEccError (ram addr : Nat) (uncorrectable keeper : Bool) (s : State) : Host.Outcome State Fault Refusal :=
  let r := ram % 2
  let kind := if uncorrectable then (if keeper then 0x8B else 0x8A) else 0x89
  let k : MsgKind := if injected s r then { forced := true, suppressed := false, until_ := s.now } else realMsg
  let s := settle (collect (useInject s r) (faultMsg 0 (11 + r) kind (addr / 16)) k)
  .next (if kind = 0x8A then warmRestart s 0x8A else s)

/-- KEEPER_WATCHDOG (R426 to R428): outputs open, evidence and the FATAL record go to the always-on domain, and the part resets,
after the flash step in progress if there is one; the evidence is in the Dailies when the part comes back (log entry 153). -/
def execKeeperWatchdog (pc : Nat) (s : State) : Host.Outcome State Fault Refusal :=
  let s := keepDailies (capture (openOutputs s 3) 9 0x87 pc) s.flash.jobs.length
  let r := { newRec s (faultMsg 0 9 0x87 0) 4 realMsg with carried := true }
  let s := { s with aon := { s.aon with carried := s.aon.carried ++ [r] } }
  .next <|
    if s.flash.jobs.isEmpty then partReset s 1
    else { s with flash := { s.flash with deferred := some s.now } }

/-- DAILIES_BUCKET_REFILL (R431): one entry every 4 s; the drop summary is written when the bucket next holds 64. -/
def execDailiesBucketRefill (s : State) : Host.Outcome State Fault Refusal :=
  .next <|
    if s.now < s.dailies.refillAt + 4 * secT then s
    else
      let s := { s with dailies := { s.dailies with
        bucket := min 512 (s.dailies.bucket + 1), refillAt := s.dailies.refillAt + 4 * secT } }
      if s.dailies.dropped ≠ 0 ∧ 64 ≤ s.dailies.bucket then
        let n := s.dailies.dropped
        let s := dailiesPut { s with dailies := { s.dailies with dropped := 0 } }
          { dseq := 0, at_ := s.packTime, source := 10, kind := 0x8D, dtype := 6, dflags := 8 * b2n (!s.chain.locked), data := fit 28 (le 4 n) } true
        raise s 0 10 0x8D (sat 16 n)
      else s

/-- The held entries of a DAILIES_READ range (R435). -/
def dailiesRange (s : State) (fromSeq toSeq types : Nat) : List Nat :=
  (s.nv.dailies.filter fun e => decide (fromSeq ≤ e.dseq) && decide (e.dseq ≤ toSeq) && bit types e.dtype).map (·.dseq)

/-- DAILIES_READ (R435, R436). -/
def execDailiesRead (h : Hdr) (fromSeq toSeq types : Nat) (s : State) : Host.Outcome State Fault Refusal :=
  .next <| runCmd s h 0x0E01 fun s =>
    match dailiesRange s fromSeq toSeq types with
    | [] => refuse s h 0x0E01 0x80
    | d :: l => startOp s h 0x0E01 fun s =>
      { s with dailies := { s.dailies with reads := s.dailies.reads ++ [(h, d :: l, 0, d)] } }

/-- The 48 bytes of a Dailies entry (R430). -/
def dentryBytes (e : DEntry) : List Byte :=
  let b := le 4 e.dseq ++ le 8 e.at_ ++ le 1 e.source ++ le 1 e.kind ++ le 1 e.dtype ++ le 1 e.dflags ++ fit 28 e.data
  b ++ crcTail b

/-- DAILIES_RECORD_WRITE (R168, R435): the next entry, once the reserve and 664 bytes stay free after it. -/
def execDailiesRecordWrite (s : State) : Host.Outcome State Fault Refusal :=
  .next <|
    match s.dailies.reads with
    | [] => s
    | (h, [], n, first) :: rest =>
      completeOp { s with dailies := { s.dailies with reads := rest } } h stOk (le 4 n ++ le 4 first)
    | (h, d :: l, n, first) :: rest =>
      match s.nv.dailies.find? fun e => e.dseq == d with
      | none => { s with dailies := { s.dailies with reads := (h, l, n, first) :: rest } }
      | some e =>
        if !streamRoom s 9 48 664 then s
        else
          let s := sendRecord (streamWrite s 9 0 (dentryBytes e)) 9 (dentryBytes e)
          if l.isEmpty then completeOp { s with dailies := { s.dailies with reads := rest } } h stOk (le 4 (n + 1) ++ le 4 first)
          else { s with dailies := { s.dailies with reads := (h, l, n + 1, first) :: rest } }

/-- DAILIES_STATUS (R435). -/
def execDailiesStatus (h : Hdr) (s : State) : Host.Outcome State Fault Refusal :=
  .next <| runCmd s h 0x0E02 fun s =>
    reply s h 0x0E02 stOk
      (le 4 (((s.nv.dailies.head?).map (·.dseq)).getD s.nv.dseq) ++ le 4 s.nv.dseq ++ le 2 s.dailies.bucket ++ zeros 2 ++
        le 4 s.nv.dailiesDropped)

/-- DAILIES_MARK (R435, R436). -/
def execDailiesMark (h : Hdr) (data : List Byte) (s : State) : Host.Outcome State Fault Refusal :=
  .next <| runCmd s h 0x0E03 fun s =>
    if s.dailies.bucket < 64 then refuse s h 0x0E03 0x81
    else
      let d := s.nv.dseq
      let s := dailiesPut s
        { dseq := 0, at_ := s.packTime, source := 0, kind := 0, dtype := 5, dflags := 8 * b2n (!s.chain.locked), data := fit 28 (fit 16 data) } true
      reply s h 0x0E03 stOk (le 4 d)

end Sys2Proof.Machine
end

