-- ==== Sys2Proof/Machine/RadioRows.lean ====
section
/-! DEFINITION. The pack radio: slots, channels, frames, keys and acknowledgements (R319 to R325, R464). -/
namespace Sys2Proof.Machine

/-- Is the radio able to send and receive: enabled, its image loaded, a chain key there (R323, R481)? -/
def radioOn (s : State) : Bool := cUp s && s.radio.enable && !s.fw.noRadio && !s.radio.key.isEmpty

/-- Number of the slot that runs, counted from pack time 0 (R320, R321). -/
def slotNow (s : State) : Nat := s.packTime / 500000

/-- The channels enabled in CHMASK, ascending (R321, R329). -/
def chList (mask : Nat) : List Nat := ((List.range 16).filter fun c => bit mask c).map (· + 11)

/-- The channel of a slot for a sender; none where no channel is enabled (R321, R332). -/
def slotChannel (s : State) (slot sender : Nat) : Option Nat :=
  let l := chList s.radio.chmask
  l[(slot + sender) % l.length]?

/-- Does C's throttling leave a slot to its transmitter (R464; log entry 75)? -/
def slotLeft (s : State) (slot : Nat) : Bool :=
  let f := s.power.therm.factor
  decide (slot * f / 100 ≠ (slot + 1) * f / 100)

/-- The nonce of CCM*: the sender's UID, the counter, the security level, most significant byte first (R323; log entry 76). -/
def nonceBytes (counter : Nat) : List Byte := (le 8 Config.unitId).reverse ++ (le 4 counter).reverse ++ [6]

/-- A secured frame on the air (R322, R323): kind 0 data, 1 beacon, 2 alarm. -/
def radioBytes (s : State) (kind dest : Nat) (ack : Bool) (payload : List Byte) : List Byte :=
  let hdr := le 1 (kind + 8 + 16 * b2n ack) ++ le 1 dest ++ le 1 s.chain.addr ++ le 2 s.chain.chainId ++ le 4 s.radio.counter
  let b := hdr ++ Config.ccm s.radio.key (nonceBytes s.radio.counter) hdr payload
  b ++ le 2 (fcs16 b).toNat

/-- Send a secured frame in the slot that runs, on its channel; the counter moves on (R321, R323). -/
def radioSend (s : State) (kind dest : Nat) (ack : Bool) (payload : List Byte) : State :=
  match slotChannel s (slotNow s) s.chain.addr with
  | none => s
  | some c =>
    let s' := emit s 2 kind dest (le 1 c ++ radioBytes s kind dest ack payload)
    let p := peerOf s dest
    setPeer { s' with radio := { s'.radio with counter := s.radio.counter + 1 } } { p with sent := (p.sent + 1) % 2 ^ 32 }

/-- The payload of a class B frame (R297). -/
def itemBytes (x : BulkItem) : List Byte := le 1 x.stream ++ le 1 x.tid ++ le 4 x.offset ++ x.data

/-- An alarm slot: the first alarm drawn for it leaves (R320). -/
def alarmSlot (s : State) (k : Nat) : State :=
  match s.radio.alarms.find? fun a => a.1 == k with
  | some a => radioSend { s with radio := { s.radio with alarms := s.radio.alarms.erase a } } 2 0xFF false a.2
  | none => s

/-- A data slot of this package: the frame that was not acknowledged, else the next one (R320, R324). -/
def dataSlot (s : State) (k : Nat) : State :=
  if (nth s.radio.map (k - 5) (0, 0)).1 ≠ s.chain.addr ∨ s.chain.addr = 0 then s
  else
    let s := match s.radio.inFlight, s.radio.queue with
      | none, x :: r => { s with radio := { s.radio with inFlight := some x, queue := r } }
      | _, _ => s
    match s.radio.inFlight with
    | none => s
    | some x =>
      let s := radioSend s 0 x.dest (decide (x.dest ≠ 0xFF)) (itemBytes x)
      if x.dest = 0xFF then { s with radio := { s.radio with inFlight := none } } else s

/-- RADIO_SLOT (R320, R321, R324, R464): once for each slot. -/
def execRadioSlot (s : State) : Host.Outcome State Fault Refusal :=
  .next <|
    let k := slotNow s % 40
    if k = s.radio.slot then s
    else
      let s := { s with radio := { s.radio with slot := k } }
      if !radioOn s || !slotLeft s k then s
      else if k = 0 then (if s.chain.master then radioSend s 1 0xFF false (le 8 s.packTime ++ le 4 s.chain.chainId) else s)
      else if k ≤ 4 then alarmSlot s k
      else dataSlot s k

/-- A secured frame arrives (R323): accepted where its MIC is good and its counter is new; otherwise RADIO_REJECTED. The signal strength of the
partner is a free value (log entry 4). -/
def radioIn (s : State) (src counter : Nat) (good : Bool) (use : State → State) : State :=
  if !radioOn s then s
  else
    let p := peerOf s src
    if !good || p.counter.any fun c => decide (counter ≤ c) then raise s 0 5 0x5D src
    else
      let s := (setPeer s { p with counter := some counter, rssi := Config.freeInt s.free % 256 - 128 }).draw
      use s

/-- RADIO_BEACON (R320, R323): a beacon of another chain is rejected (R332). -/
def execRadioBeacon (src counter : Nat) (micGood : Bool) (_time chainId : Nat) (s : State) : Host.Outcome State Fault Refusal :=
  .next <| radioIn s src counter (micGood && chainId == s.chain.chainId) id

/-- RADIO_ALARM_FRAME (R323, R325). -/
def execRadioAlarmFrame (src counter : Nat) (micGood : Bool) (msg : BitVec 32) (time : Nat) (s : State) : Host.Outcome State Fault Refusal :=
  .next <| radioIn s src counter micGood fun s => alarmIn s src 1 msg time

/-- The acknowledgement of a data frame: FCTL, DEST, SRC, FCS (R322). -/
def ackBytes (s : State) (dest : Nat) : List Byte :=
  let b := le 1 3 ++ le 1 dest ++ le 1 s.chain.addr
  b ++ le 2 (fcs16 b).toNat

/-- RADIO_DATA_FRAME (R297, R320, R323, R324). -/
def execRadioDataFrame (src counter : Nat) (micGood : Bool) (stream tid offset : Nat) (data : List Byte) (s : State) :
    Host.Outcome State Fault Refusal :=
  .next <| radioIn s src counter micGood fun s => bulkIn (emit s 2 3 src (ackBytes s src)) src stream tid offset data

/-- RADIO_ACKNOWLEDGEMENT (R324): a frame that was not acknowledged stays for the next own slot. -/
def execRadioAcknowledgement (src : Nat) (arrived : Bool) (s : State) : Host.Outcome State Fault Refusal :=
  .next <|
    match s.radio.inFlight with
    | none => s
    | some x =>
      if !radioOn s then s
      else
        let p := peerOf s src
        let old := p.acks.filter fun a => decide (rsfNow s < a.1 + 10)
        let s := setPeer s { p with acks := (rsfNow s, arrived) :: old }
        { s with radio := { s.radio with inFlight := if arrived then none else some x } }

end Sys2Proof.Machine
end

