-- ==== Sys2Proof/Machine/MetroOps.lean ====
section
/-! DEFINITION. M as shared operations: registers, event log, journal, seal, halts; and C's queue of requests to it (R17, R333 to R363). -/
namespace Sys2Proof.Machine

/-- Samples in one second of M's clock (R336). -/
abbrev sps : Nat := 8000

/-- STATE of MSTATUS; DORMANT has no code and reads as IDLE, from which it is entered (R341). -/
def MState.code : MState → Nat
  | .starting => 0 | .metering => 1 | .idle => 2 | .dormant => 2 | .halted => 3

/-- MSTATUS (R341). -/
def mstatusOf (m : Metro) : Nat :=
  m.state.code + 8 * b2n m.sealed_ + 16 * b2n m.sealBroken + 32 * b2n (decide (m.calGen ≠ 0)) + 64 * b2n m.overI + 128 * b2n m.overU +
    256 * b2n m.tempRange + 512 * b2n m.storeLoss + 65536 * m.haltCause

/-- The registers of R340: address and bytes. PUBKEY and CERT are held big-endian. -/
def mRegs (m : Metro) : List (Nat × List Byte) :=
  [(0x0000, le 8 m.muid), (0x0008, le 4 m.swid), (0x000C, le 4 (mstatusOf m)), (0x0010, le 8 m.eimp), (0x0018, le 8 m.eexp),
   (0x0020, le 8 m.qimp), (0x0028, le 8 m.qexp), (0x0030, le 8 m.stmtCtr), (0x0038, le 4 m.evCount), (0x003C, le 4 m.opsec),
   (0x0040, leInt 4 m.uavg), (0x0044, leInt 4 m.iavg), (0x0048, leInt 4 m.pavg), (0x004C, le 4 m.calGen), (0x0050, le 8 m.breakRec),
   (0x0060, fit 64 m.pubkey), (0x00A0, fit 64 m.cert), (0x0100, fit 16 m.label), (0x0110, le 1 m.avgWin), (0x0111, le 1 m.mpDir)]

/-- An entry of the event log (R350). -/
def mEventBytes (e : MEvent) : List Byte := le 4 e.num ++ le 4 e.opsec ++ le 1 e.code ++ le 1 e.mstat ++ fit 6 e.data

/-- The 16 bytes of a place of the event log: zero where no event holds it (R340). -/
def mLogPlace (m : Metro) (k : Nat) : List Byte := ((m.events.find? fun e => e.num % 1024 == k).map mEventBytes).getD (zeros 16)

/-- A read of M's registers: within one register, or within the log region; anything else is refused (R340, R361). -/
def mRead (m : Metro) (addr len : Nat) : Option (List Byte) :=
  if 0x1000 ≤ addr ∧ addr + len ≤ 0x5000 then
    let k := (addr - 0x1000) / 16
    some ((((List.range ((len + 31) / 16)).flatMap fun i => mLogPlace m (k + i)).drop (addr % 16)).take len)
  else
    ((mRegs m).find? fun r => decide (r.1 ≤ addr) && decide (addr + len ≤ r.1 + r.2.length)).map fun r => (r.2.drop (addr - r.1)).take len

/-- Change M. -/
def State.updM (s : State) (f : Metro → Metro) : State := { s with metro := f s.metro }

/-- Log an event with the status after it (R350). -/
def mEvent (code : Nat) (data : List Byte) (m : Metro) : Metro :=
  let e : MEvent := { num := m.evCount, opsec := m.opsec, code := code, mstat := mstatusOf m % 256, data := fit 6 data }
  { m with events := (m.events ++ [e]).drop (m.events.length + 1 - 1024), evCount := (m.evCount + 1) % 2 ^ 32 }

/-- M raises a fault message, which reaches C while C is up (R404). -/
def mRaise (s : State) (block kind detail : Nat) : State := if cUp s then raise s 1 block kind detail else s

/-- The block of M that finds a halt's cause (R343, R403, R564). -/
def haltBlock (cause : Nat) : Nat := if cause = 3 ∨ cause = 4 then 1 else if cause = 5 then 3 else 0

/-- M halts: the registers keep their last values (R342, R343). -/
def mHalt (s : State) (cause : Nat) : State :=
  mRaise (s.updM fun m => mEvent 0x08 (le 1 cause) { m with state := .halted, haltCause := cause }) (haltBlock cause) 0x64 cause

/-- A slot of the journal with the registers as they stand (R345). -/
def mSlotOf (m : Metro) : MSlot :=
  { gen := m.journalGen + 1, eimp := m.eimp, eexp := m.eexp, qimp := m.qimp, qexp := m.qexp
    rem := [m.remEimp, m.remEexp, m.remQimp, m.remQexp, m.pulseRem], stmtCtr := m.stmtCtr }

/-- M stores a slot (R345). -/
def mStore (m : Metro) : Metro :=
  { m with journal := (mSlotOf m :: m.journal).take 4096, journalGen := m.journalGen + 1, storeSamples := 0, dirty := false }

/-- M resumes from a slot (R345). -/
def mResume (m : Metro) (x : MSlot) : Metro :=
  { m with
    eimp := x.eimp, eexp := x.eexp, qimp := x.qimp, qexp := x.qexp, remEimp := nth x.rem 0 0, remEexp := nth x.rem 1 0
    remQimp := nth x.rem 2 0, remQexp := nth x.rem 3 0, pulseRem := nth x.rem 4 0, stmtCtr := x.stmtCtr }

/-- A break of the seal: the flag never clears, and the first break writes BREAKREC (R346, R348). -/
def breakSeal (code : Nat) (data : List Byte) (m : Metro) : Metro :=
  let n := m.evCount
  let m := { m with sealBroken := true, breakRec := if !m.sealBroken then n % 2 ^ 32 + 2 ^ 32 * (m.opsec % 2 ^ 32) else m.breakRec }
  mEvent code data m

/-- Does M answer on its return path: in every state but STARTING and DORMANT (R353)? -/
def mAnswers (m : Metro) : Bool := m.state != .starting && m.state != .dormant

/-- Activity on the return path, which in DORMANT calls M (R342). -/
def mActive (m : Metro) : Metro := { m with idleSamples := 0, called := m.called || m.state == .dormant }

/-- M's answer to a request reaches C's port, if M answers; a refusal is recorded (R361, R363). -/
def mAnswer (s : State) (kind : Nat) (x : Option (List Byte)) : State :=
  let ok := mAnswers s.metro
  let s := s.updM mActive
  if !ok then s
  else
    let s := { s with mport := { s.mport with answers := s.mport.answers ++ [(kind == 1, x.isSome, x.getD [])] } }
    if x.isSome then s else mRaise s 2 0x69 kind

/-! C's requests (R17, R353, R354, R361). -/

/-- Is a request one for a statement? -/
def MReq.statement (r : MReq) : Bool := match r.kind with
  | .statement _ _ => true
  | _ => false

/-- What a request puts on the return path: 0 read, 1 statement, 2 display (R17). -/
def MReq.wire (r : MReq) : Nat × List Byte :=
  match r.kind with
  | .read a n => (0, le 2 a ++ le 1 n)
  | .statement r t => (1, le 1 r ++ le 8 t)
  | .display p v => (2, le 1 p ++ le 1 v.length ++ v)
  | .events f n got =>
    let k := (f + got.length / 16) % 1024
    (0, le 2 (0x1000 + 16 * k) ++ le 1 (16 * min (n - got.length / 16) (1024 - k)))

/-- Send the next request of a kind where none of it is with M (R354). -/
def sendNext (s : State) (stmt : Bool) : State :=
  if s.mport.reqs.any fun r => r.statement == stmt && r.sentAt.isSome then s
  else
    match s.mport.reqs.find? fun r => r.statement == stmt with
    | none => s
    | some r =>
      let s := { s with mport := { s.mport with reqs := upd s.mport.reqs (fun x => x == r) fun x => { x with sentAt := some s.now } } }
      emit s 3 r.wire.1 1 r.wire.2

/-- A request enters C's queue. -/
def askM (s : State) (r : MReq) : State := sendNext { s with mport := { s.mport with reqs := s.mport.reqs ++ [r] } } r.statement

/-- The entries of `got` that READ_EVENTS asked for: each at the place of its own number; a place overwritten since, or never written, holds
another number or CODE 0 (R350, R351, R361). -/
def eventsHeld (f : Nat) : List Byte → Nat → List (List Byte)
  | _, 0 => []
  | got, n + 1 =>
    let e := got.take 16
    let r := eventsHeld (f + 1) (got.drop 16) n
    if leVal (fieldAt e 0 4) = f % 2 ^ 32 ∧ leVal (fieldAt e 8 1) ≠ 0 then e :: r else r

/-- The reply to a request that M has answered (R361). -/
def answered (s : State) (r : MReq) (ok : Bool) (data : List Byte) : State :=
  match r.kind with
  | .statement _ _ => if ok then completeOp s r.hdr stOk data else completeOp s r.hdr 0x81 []
  | .events f n got =>
    let l := eventsHeld f (got ++ data) n
    if ok then reply s r.hdr r.opcode stOk (le 1 l.length ++ zeros 3 ++ l.flatten) else reply s r.hdr r.opcode 0x81 []
  | .display _ _ => reply s r.hdr r.opcode (if ok then stOk else 0x81) []
  | .read _ _ => if ok then reply s r.hdr r.opcode stOk data else reply s r.hdr r.opcode 0x81 []

/-- What remains of a request after an answer: the rest of an event read that wraps (R340). -/
def MReq.rest (r : MReq) (ok : Bool) (data : List Byte) : Option MReq :=
  match r.kind with
  | .events f n got =>
    if ok && decide (0 < data.length) && decide ((got ++ data).length < 16 * n) then
      some { r with kind := .events f n (got ++ data), sentAt := none }
    else none
  | _ => none

/-- The bound of a request's answer (R362). -/
def MReq.bound (r : MReq) : Tick := if r.statement then 150 * msT else 2 * msT

/-- A request without an answer within its bound (R362). -/
def unanswered (s : State) (r : MReq) : State :=
  let s := { s with mport := { s.mport with
    reqs := s.mport.reqs.filter fun x => x != r, answers := s.mport.answers.filter fun a => a.1 != r.statement } }
  let s := if r.statement then completeOp s r.hdr 0x80 [] else reply s r.hdr r.opcode 0x80 []
  sendNext s r.statement

end Sys2Proof.Machine
end

