-- ==== Sys2Proof/Machine/MetroRows.lean ====
section
/-! DEFINITION. The commands of class 0x08, M's samples, states, checks, stores and calibration interface, and its stream at C
(R17, R302, R333 to R363). -/
namespace Sys2Proof.Machine

/-! Commands of class 0x08 (R360, R361). -/

/-- A command for this package's M: NOT_FITTED without M (R3, R361). -/
def mCmd (s : State) (h : Hdr) (op : Nat) (body : State → State) : State :=
  runCmd s h op fun s => if !s.part.hasM then refuse s h op stNotFitted else body s

/-- READ_METRO (R361). -/
def execReadMetro (h : Hdr) (addr len : Nat) (s : State) : Host.Outcome State Fault Refusal :=
  .next <| mCmd s h 0x0801 fun s =>
    if len = 0 ∨ 240 < len then refuse s h 0x0801 stFrameInvalid
    else askM s { hdr := h, opcode := 0x0801, kind := .read addr len, sentAt := none }

/-- SIGN_STATEMENT (R353, R354, R361): at most four requests are held; the time is the pack time at which C took the command. -/
def execSignStatement (h : Hdr) (regid : Nat) (s : State) : Host.Outcome State Fault Refusal :=
  .next <| mCmd s h 0x0802 fun s =>
    if 4 < regid then refuse s h 0x0802 stFrameInvalid
    else if 4 ≤ (s.mport.reqs.filter (·.statement)).length then refuse s h 0x0802 stBusy
    else startOp s h 0x0802 fun s => askM s { hdr := h, opcode := 0x0802, kind := .statement regid s.packTime, sentAt := none }

/-- SET_DISPLAY (R361). -/
def execSetDisplay (h : Hdr) (param : Nat) (value : List Byte) (s : State) : Host.Outcome State Fault Refusal :=
  .next <| mCmd s h 0x0803 fun s =>
    if s.power.state ≠ .run then refuse s h 0x0803 stRejected
    else if 2 < param ∨ 16 < value.length then refuse s h 0x0803 stFrameInvalid
    else askM s { hdr := h, opcode := 0x0803, kind := .display param value, sentAt := none }

/-- READ_EVENTS (R361). -/
def execReadEvents (h : Hdr) (fromNum n : Nat) (s : State) : Host.Outcome State Fault Refusal :=
  .next <| mCmd s h 0x0804 fun s =>
    if n = 0 ∨ 14 < n then refuse s h 0x0804 stFrameInvalid
    else askM s { hdr := h, opcode := 0x0804, kind := .events fromNum n [], sentAt := none }

/-- GET_METRO_STATUS (R361). -/
def execGetMetroStatus (h : Hdr) (s : State) : Host.Outcome State Fault Refusal :=
  .next <| mCmd s h 0x0805 fun s =>
    reply s h 0x0805 stOk
      (le 1 (b2n s.mport.withdrawn) ++ le 1 s.mport.cause ++ le 1 s.chain.source ++ [0] ++ leInt 4 s.mport.rate ++ le 4 s.mport.frames ++
        le 4 s.mport.crcErr ++ le 4 s.mport.mstatus)

/-- Does an address name a package without M: this package where it has none, or an address of no package (R360, R361)? -/
def namesNoM (s : State) (addr : Nat) : Bool :=
  decide (addr ≠ 0) && ((addr == s.chain.addr && !s.part.hasM) || (addr != s.chain.addr && decide (s.chain.count < addr)))

/-- SET_CURRENT_SOURCE (R360, R361): a configuration frame to every package, and the next superframe. -/
def execSetCurrentSource (h : Hdr) (addr : Nat) (s : State) : Host.Outcome State Fault Refusal :=
  .next <| runCmd s h 0x0806 fun s =>
    if s.power.state ≠ .run then refuse s h 0x0806 stRejected
    else if 32 < addr then refuse s h 0x0806 stFrameInvalid
    else if !primaryHead s then refuse s h 0x0806 0x82
    else if namesNoM s addr then refuse s h 0x0806 stNotFitted
    else
      let s := { s with chain := { s.chain with sourceNext := some (addr, s.now) } }
      let s := sendFrame s 0x0E 0xFF 2 false false (le 1 2 ++ le 1 addr ++ zeros 2 ++ le 8 s.packTime)
      reply s h 0x0806 stOk (le 8 (nextSuperframe s))

/-! M at its return path (R17, R334, R353). -/

/-- REGISTER_READ_REQUEST (R17, R340). -/
def execRegisterReadRequest (addr len : Nat) (s : State) : Host.Outcome State Fault Refusal :=
  .next <| if s.part.hasM then mAnswer s 0 (mRead s.metro addr len) else s

/-- VALUE of a statement (R352). -/
def statementValue (m : Metro) (regid : Nat) : Nat := nth [m.eimp, m.eexp, m.qimp, m.qexp, m.evCount] regid 0

/-- STATUS of a statement (R352). -/
def statementStatus (m : Metro) : Nat :=
  1 + 2 * b2n m.sealed_ + 4 * b2n m.sealBroken + 8 * b2n (m.state == .halted) + 16 * b2n (decide (m.calGen ≠ 0))

/-- Bytes 0 to 31 of a statement (R352). -/
def statementHead (m : Metro) (regid time : Nat) : List Byte :=
  le 8 m.stmtCtr ++ le 8 time ++ le 8 (statementValue m regid) ++ le 1 regid ++ le 1 (statementStatus m) ++ le 2 m.evCount ++ le 4 m.swid

/-- A signed statement (R352). -/
def statementBytes (m : Metro) (regid time : Nat) : List Byte :=
  statementHead m regid time ++ fit 64 (Config.ecdsaSign (statementHead m regid time))

/-- STATEMENT_REQUEST (R345, R353): the counter is stepped and stored, then the register is read and signed. -/
def execStatementRequest (regid time : Nat) (s : State) : Host.Outcome State Fault Refusal :=
  .next <|
    if !s.part.hasM then s
    else if mAnswers s.metro ∧ regid ≤ 4 then
      let s := s.updM fun m => mStore { m with stmtCtr := (m.stmtCtr + 1) % 2 ^ 64 }
      mAnswer s 1 (some (statementBytes s.metro regid time))
    else mAnswer s 1 none

/-- A display parameter takes a value, if it is in range (R340, R361, R362). -/
def mDisplay (m : Metro) (param : Nat) (value : List Byte) : Option Metro :=
  match param, value with
  | 0, l => if l.length ≤ 16 then some { m with label := fit 16 l } else none
  | 1, [b] => if 1 ≤ b.toNat ∧ b.toNat ≤ 60 then some { m with avgWin := b.toNat } else none
  | 2, [b] => if b.toNat ≤ 2 then some { m with mpDir := b.toNat } else none
  | _, _ => none

/-- DISPLAY_REQUEST (R17, R340). -/
def execDisplayRequest (param : Nat) (value : List Byte) (s : State) : Host.Outcome State Fault Refusal :=
  .next <|
    if !s.part.hasM then s
    else
      match mDisplay s.metro param value with
      | none => mAnswer s 2 none
      | some m => mAnswer (if mAnswers s.metro then s.updM fun _ => m else s) 2 (some [])

/-- METRO_ANSWER (R361): the oldest answer at C's port goes to the request of its kind that is with M. -/
def execMetroAnswer (s : State) : Host.Outcome State Fault Refusal :=
  .next <|
    match s.mport.answers with
    | [] => s
    | (stmt, ok, data) :: l =>
      let s := { s with mport := { s.mport with answers := l } }
      match s.mport.reqs.find? fun r => r.statement == stmt && r.sentAt.isSome with
      | none => s
      | some r =>
        match r.rest ok data with
        | some q => sendNext { s with mport := { s.mport with reqs := upd s.mport.reqs (fun x => x == r) fun _ => q } } stmt
        | none => sendNext (answered { s with mport := { s.mport with reqs := s.mport.reqs.filter fun x => x != r } } r ok data) stmt

/-- METRO_WITHDRAWN (R362). -/
def execMetroWithdrawn (s : State) : Host.Outcome State Fault Refusal :=
  .next <| (s.mport.reqs.filter fun r => r.sentAt.any fun t => decide (t + r.bound ≤ s.now)).foldl unanswered s

/-! Metering (R336 to R342, R355). -/

/-- Does M count (R342)? -/
def mCounts (m : Metro) : Bool := m.state == .metering || m.state == .idle

/-- The quotient of two integers, rounded to nearest; 0 where the divisor is 0. -/
def mDiv (a b : Int) : Int := if 0 ≤ b then divRound a b.toNat else divRound (-a) (-b).toNat

/-- The shunt voltage as M counts it, in nV: saturated, offset removed (R335, R337, R347). -/
def legalShunt (m : Metro) (shunt : Int) : Int := clamp (-37500000) 37500000 shunt - m.offI

/-- The legal current in µA (R335, R346, R347). -/
def legalCurrent (m : Metro) (shunt : Int) : Int := mDiv (legalShunt m shunt * 1000000) m.shunt

/-- The legal voltage in mV (R335, R337, R346, R347). -/
def legalVoltage (m : Metro) (vin : Int) : Int := divRound ((clamp (-1200000000) 1200000000 vin - m.offU) * m.ratio) 1000000000

/-- A 64-bit register and its remainder take a sample's part; one unit of the register is `per` of the remainder (R338). -/
def accumulate (reg rem part per : Nat) : Nat × Nat := (min (reg + (rem + part) / per) (2 ^ 64 - 1), (rem + part) % per)

/-- The counting of one sample: current in µA, voltage in mV (R338). -/
def countSample (m : Metro) (i u : Int) : Metro :=
  let e := u.toNat * i.natAbs
  if 0 ≤ i then
    let a := accumulate m.eimp m.remEimp e 28800000000000
    let q := accumulate m.qimp m.remQimp i.natAbs 8000000
    { m with eimp := a.1, remEimp := a.2, qimp := q.1, remQimp := q.2, dirty := true }
  else
    let a := accumulate m.eexp m.remEexp e 28800000000000
    let q := accumulate m.qexp m.remQexp i.natAbs 8000000
    { m with eexp := a.1, remEexp := a.2, qexp := q.1, remQexp := q.2, dirty := true }

/-- Does MPDIR select a direction (R340, R355)? -/
def pulseDir (m : Metro) (i : Int) : Bool := m.mpDir == 2 || m.mpDir == (if 0 ≤ i then 0 else 1)

/-- MPULSE at a sample (R355): an impulse starts where the counted energy crosses the next multiple of 0.1 Wh. -/
def pulseSample (m : Metro) (i u : Int) (counted : Bool) : Metro :=
  let e := m.pulseRem + (if counted && pulseDir m i then u.toNat * i.natAbs else 0)
  { m with pulseRem := e % 2880000000000000, pulse := decide (2880000000000000 ≤ e) }

/-- UAVG, IAVG and PAVG at the end of each window (R340). -/
def averageSample (m : Metro) (i u : Int) : Metro :=
  let n := m.sumN + 1
  let m := { m with sumU := m.sumU + u, sumI := m.sumI + i, sumP := m.sumP + u * i, sumN := n }
  if n < m.avgWin * sps then m
  else
    { m with
      uavg := divRound m.sumU n, iavg := divRound m.sumI (n * 1000), pavg := divRound m.sumP (n * 1000000000), sumU := 0, sumI := 0
      sumP := 0, sumN := 0 }

/-- OPSEC advances with every second of samples (R340). -/
def secondSample (m : Metro) : Metro :=
  if m.opsamples + 1 < sps then { m with opsamples := m.opsamples + 1 } else { m with opsamples := 0, opsec := (m.opsec + 1) % 2 ^ 32 }

/-- METERING and IDLE at a sample (R342). -/
def stateSample (m : Metro) (flows : Bool) : Metro :=
  { m with
    state := if flows then .metering else m.state
    quietSamples := if flows then 0 else m.quietSamples + 1
    idleSamples := m.idleSamples + 1, storeSamples := m.storeSamples + 1 }

/-- Everything of a legal sample but the overloads (R336 to R342, R355). -/
def meterSample (m : Metro) (shunt vin : Int) : Metro :=
  let x := legalShunt m shunt
  let i := legalCurrent m shunt
  let u := legalVoltage m vin
  let flows := decide (37500 ≤ x.natAbs)
  let m := if flows then countSample m i u else m
  let m := stateSample (secondSample (averageSample (pulseSample m i u flows) i u)) flows
  { m with voltage := u }

/-- An overload at its start: flags, event, fault (R337, R351, R363). -/
def overloadBegin (s : State) (oi ou : Bool) : State :=
  let new := b2n (oi && !s.metro.overI) + 2 * b2n (ou && !s.metro.overU)
  if new = 0 then s
  else
    mRaise (s.updM fun m => mEvent 0x09 (le 1 new) { m with overI := m.overI || oi, overU := m.overU || ou }) 0 0x68 new

/-- The end of an overload is logged with its duration (R337, R351). -/
def overloadEnd (m : Metro) (oi ou : Bool) : Metro :=
  let m := if m.overI && !oi then mEvent 0x0A (le 4 (m.overISamples / 8)) { m with overI := false, overISamples := 0 } else m
  if m.overU && !ou then mEvent 0x0A (le 4 (m.overUSamples / 8)) { m with overU := false, overUSamples := 0 } else m

/-- An overload that lasts (R337). -/
def overloadRun (m : Metro) : Metro :=
  { m with overISamples := m.overISamples + b2n m.overI, overUSamples := m.overUSamples + b2n m.overU }

/-- The sample counter moves on, in every state that has a stream; a calibration point takes its 4 s of samples (R342, R347, R356). -/
def takeSample (m : Metro) (shunt vin : Int) : Metro :=
  let m := { m with sample := (m.sample + 1) % 2 ^ 32 }
  match m.ptRun with
  | none => m
  | some (k, _) =>
    if 4 * sps ≤ m.ptN then m
    else { m with ptN := m.ptN + 1, ptSum := m.ptSum + if k = 0 then clamp (-37500000) 37500000 shunt else clamp (-1200000000) 1200000000 vin }

/-- LEGAL_SAMPLE (R336 to R342, R347, R355, R356). -/
def execLegalSample (shunt vin : Int) (s : State) : Host.Outcome State Fault Refusal :=
  .next <|
    if !s.part.hasM || !mAnswers s.metro then s
    else if !mCounts s.metro then s.updM (takeSample · shunt vin)
    else
      let s := s.updM (takeSample · shunt vin)
      let oi := decide (37500000 < shunt.natAbs)
      let ou := decide (1200000000 < vin.natAbs)
      let s := s.updM fun m => overloadEnd (meterSample m shunt vin) oi ou
      (overloadBegin s oi ou).updM overloadRun

/-! The stream at C (R302, R356 to R359). -/

/-- ALIGN_NO_CURRENT at the loss of the source in operation (R148). -/
def lossWatch (s : State) : State :=
  if s.slates.irsrc = 0 ∧ !s.slates.noCurrent ∧ !s.slates.alignHost ∧ !sourceThere s then
    raise { s with slates := { s.slates with noCurrent := true } } 0 1 0x24 s.chain.source
  else s

/-- M's stream is withdrawn from C's use, for a cause that is not yet its cause (R148, R287, R359). -/
def dropStream (s : State) (kind : Nat) (raised : Bool) (detail : Nat) : State :=
  if s.mport.withdrawn then s
  else
    let own := ownSource s
    let s := withdrawMetro s kind
    let s := if raised then raise s 0 6 kind detail else s
    if own then checkRef (lossWatch s) else s

/-- A frame with a bad CRC is discarded; more than 10 in 1 s raise METRO_PORT_ERRORS (R359, R363). -/
def badStreamFrame (s : State) : State :=
  let l := s.now :: s.mport.errTimes.filter fun t => decide (s.now < t + secT)
  let s := { s with mport := { s.mport with crcErr := (s.mport.crcErr + 1) % 2 ^ 32, errTimes := l, goodSince := none, restoring := false } }
  if 10 < l.length then raise s 0 6 0x62 (sat 16 l.length) else s

/-- A line through arrivals: slope over its denominator in ticks per sample, and the ordinate at the newest sample as a difference to its
arrival (R358). -/
structure LineFit where
  num : Int
  den : Int
  at0 : Int
  deriving DecidableEq, Repr

/-- How far a sample counter is ahead of another, modulo 2^32 (R356). -/
def sampleDiff (a b : Nat) : Int := signed 32 ((a + 2 ^ 32 - b % 2 ^ 32) % 2 ^ 32)

/-- The least-squares line through the arrivals against SAMPLE, taken from the newest (R358). -/
def lineFit (l : List (Nat × Nat)) : LineFit :=
  match l with
  | [] => { num := 0, den := 0, at0 := 0 }
  | p :: _ =>
    let q := l.map fun x => (sampleDiff x.1 p.1, (x.2 : Int) - p.2)
    let n : Int := l.length
    let sx := (q.map (·.1)).sum
    let sy := (q.map (·.2)).sum
    let sxx := (q.map fun x => x.1 * x.1).sum
    let sxy := (q.map fun x => x.1 * x.2).sum
    { num := n * sxy - sx * sy, den := n * sxx - sx * sx, at0 := mDiv (sxx * sy - sx * sxy) (n * sxx - sx * sx) }

/-- The fitted clock error in 0.1 ppm: positive where M's clock is fast, so that the fitted period is short (R358, R361; DESIGN CHOICE, log
147). -/
def LineFit.rate (f : LineFit) : Int := if f.den = 0 then 0 else mDiv ((12500 * f.den - f.num) * 10000000) (12500 * f.den)

/-- Does the fitted period of 8000 frames differ from 125 µs by more than so many ppm (R358, R359; DESIGN CHOICE, log 147)? -/
def LineFit.off (f : LineFit) (l : List (Nat × Nat)) (ppm : Nat) : Bool :=
  decide (8000 ≤ l.length) && decide ((ppm : Int) * 12500 * f.den < 1000000 * ((f.num - 12500 * f.den).natAbs : Int))

/-- The arrivals with one more; a counter that does not go on begins the fit anew (R358; DESIGN CHOICE, log 147). -/
def addArrival (l : List (Nat × Nat)) (sample at_ : Nat) : List (Nat × Nat) :=
  if l.head?.any fun p => decide (sampleDiff sample p.1 ≤ 0) then [(sample, at_)] else ((sample, at_) :: l).take 8000

/-- The instant of the newest sample: its place on the line, less the fixed latency (R358). -/
def sampleInstant (l : List (Nat × Nat)) : Nat := ((((l.head?.map (·.2)).getD 0 : Nat) : Int) + (lineFit l).at0).toNat - Config.metroLatency

/-- Since when the stream has been fit for its return (R359). -/
def goodRun (s : State) (fitNow : Bool) : Option Tick :=
  if !fitNow then none else if s.mport.goodAt + msT < s.now then some s.now else some (s.mport.goodSince.getD s.now)

/-- A good frame enters C's port (R358, R359, R361). -/
def portFrame (s : State) (sample mstat : Nat) : State :=
  let l := addArrival s.mport.arrivals sample s.packTime
  let f := lineFit l
  let fitNow := !f.off l 150 && decide (mstat % 8 ≠ 3)
  { s with mport := { s.mport with
    frames := (s.mport.frames + 1) % 2 ^ 32, rate := f.rate, arrivals := l, goodSince := goodRun s fitNow, goodAt := s.now
    restoring := s.mport.restoring && fitNow
    mstatus := s.mport.mstatus / 65536 * 65536 + mstat % 65536 } }

/-- The sample goes to C's own use and, from the current source of a chain, as a CURRENT set (R145, R302, R358). -/
def useSample (s : State) (current : Int) : State :=
  if s.mport.withdrawn || !ownSource s then s
  else
    let t := sampleInstant s.mport.arrivals
    let s := pushCurrent s t current
    if 1 < s.chain.count then sendSet s 0x20 (le 1 s.chain.addr ++ le 4 t ++ leInt 4 current) else s

/-- Bytes 0 to 13 of a stream frame (R356). -/
def streamFields (sample current voltage : BitVec 32) (mstat : BitVec 16) : List Byte :=
  le 4 sample.toNat ++ le 4 current.toNat ++ le 4 voltage.toNat ++ le 2 mstat.toNat

/-- Bytes of the stream frame that M sends (R356). -/
def streamBytes (m : Metro) (path : Int) : List Byte :=
  let b := streamFields (.ofNat 32 m.sample) (.ofInt 32 path) (.ofInt 32 m.voltage) (.ofNat 16 (mstatusOf m))
  b ++ le 2 (crc16 b).toNat

/-- STREAM_FRAME (R302, R342, R356, R358, R359): M sends one frame for each legal sample, in every state but STARTING and DORMANT, and C takes in
the frame that reaches it, if its CRC is good. C takes no voltage from the stream. -/
def execStreamFrame (path : Int) (sample current voltage : BitVec 32) (mstat crc : BitVec 16) (s : State) :
    Host.Outcome State Fault Refusal :=
  .next <|
    if !cUp s || !s.part.hasM || !mAnswers s.metro || s.mport.lastSample == some s.metro.sample then s
    else
      let m := s.metro
      let s := emit { s with mport := { s.mport with lastSample := some m.sample } } 3 3 0 (streamBytes m path)
      if crc16 (streamFields sample current voltage mstat) ≠ crc then badStreamFrame s
      else
        let s := portFrame s sample.toNat mstat.toNat
        let s := if mstat.toNat % 8 = 3 then dropStream s 0x64 false 0 else s
        let s := if (lineFit s.mport.arrivals).off s.mport.arrivals 200 then dropStream s 0x61 true ((divRound s.mport.rate 10) % 65536).toNat else s
        useSample s current.toInt

/-- METRO_STREAM_LOST (R359): no good frame for 1 ms. -/
def execMetroStreamLost (s : State) : Host.Outcome State Fault Refusal :=
  .next <| if cUp s ∧ s.part.hasM ∧ s.mport.goodAt + msT ≤ s.now then dropStream s 0x60 true 0 else s

/-- METRO_RESTORED (R359): good for 1 s, the stream returns at the next Take boundary. -/
def execMetroRestored (s : State) : Host.Outcome State Fault Refusal :=
  .next <|
    if cUp s ∧ s.mport.withdrawn ∧ (s.mport.goodSince.any fun t => decide (t + secT ≤ s.now)) = true then
      { s with mport := { s.mport with restoring := true } }
    else s

/-- MSTATUS_POLL (R344): once per second; the read is activity on M's return path. -/
def execMstatusPoll (s : State) : Host.Outcome State Fault Refusal :=
  .next <|
    if cUp s ∧ s.part.hasM ∧ s.mport.polledAt + secT ≤ s.now ∧ (s.power.state = .run ∨ s.power.state = .monitor ∨ s.power.state = .service) then
      let s := if mAnswers s.metro then { s with mport := { s.mport with mstatus := mstatusOf s.metro } } else s
      { s with metro := mActive s.metro, mport := { s.mport with polledAt := s.now } }
    else s

/-! M's states, checks and stores (R342 to R351). -/

/-- The journal at a start: the newest slot falls where its store was incomplete, and M resumes from the next one (R345). -/
def mFromJournal (m : Metro) (incomplete : Bool) : Metro :=
  let l := if incomplete then m.journal.drop 1 else m.journal
  match l with
  | [] => { m with journal := [], storeLoss := incomplete }
  | x :: _ => { mResume m x with journal := l, journalGen := x.gen, storeLoss := incomplete }

/-- What a start clears (R341, R342). -/
def mClear (m : Metro) : Metro :=
  { m with
    haltCause := 0, overI := false, overU := false, overISamples := 0, overUSamples := 0, tempRange := false, sumU := 0, sumI := 0, sumP := 0
    sumN := 0, quietSamples := 0, idleSamples := 0, storeSamples := 0, dirty := false, ptRun := none, ptSum := 0, ptN := 0, sample := 0, called := false
    pulse := false }

/-- The faults of a start (R363). -/
def mStartFaults (s : State) : State :=
  let s := if s.metro.sealed_ then s else mRaise s 0 0x65 s.metro.calGen
  if s.metro.sealBroken then mRaise s 0 0x66 (s.metro.breakRec % 65536) else s

/-- M_START (R342, R343, R345, R349). -/
def execMStart (cause failed : Nat) (incomplete : Bool) (swid : Nat) (s : State) : Host.Outcome State Fault Refusal :=
  .next <|
    if !s.part.hasM then s
    else
      let s := s.updM fun m => { mClear (mFromJournal m incomplete) with swid := swid % 2 ^ 32, state := .starting }
      let s := s.updM (mEvent 0x01 (le 1 cause))
      let s := if incomplete then
          mRaise (s.updM fun m => mEvent 0x03 (le 4 m.journalGen) m) 1 0x67 (s.metro.journalGen % 65536)
        else s
      let failed := if failed = 0 ∧ s.metro.journal.isEmpty then 4 else failed
      mStartFaults (if failed = 0 then s.updM fun m => { m with state := .metering } else mHalt s failed)

/-- TEMP_RANGE (R339, R341, R351). -/
def mTemp (temp : Int) (m : Metro) : Metro :=
  if temp ≤ 8500 then { m with tempRange := false }
  else if m.tempRange then m
  else mEvent 0x0D (leInt 2 temp) { m with tempRange := true }

/-- M_PERIODIC_CHECK (R343). -/
def execMPeriodicCheck (failed : Nat) (temp : Int) (s : State) : Host.Outcome State Fault Refusal :=
  .next <|
    if !s.part.hasM || !mCounts s.metro then s
    else
      let s := s.updM (mTemp temp)
      if failed = 0 then s else mHalt (s.updM fun m => { m with pulse := false }) failed

/-- M_IDLE_TIMEOUT (R342). -/
def execMIdleTimeout (s : State) : Host.Outcome State Fault Refusal :=
  .next <|
    if s.part.hasM ∧ s.metro.state = .metering ∧ 10 * sps ≤ s.metro.quietSamples then s.updM fun m => { m with state := .idle } else s

/-- M_DORMANT_TIMEOUT (R342, R345): a store, then DORMANT. -/
def execMDormantTimeout (s : State) : Host.Outcome State Fault Refusal :=
  .next <|
    if s.part.hasM ∧ s.metro.state = .idle ∧ 10 * sps ≤ s.metro.idleSamples then
      s.updM fun m => mEvent 0x0B [] { mStore m with state := .dormant, dormantAt := s.now, pulse := false }
    else s

/-- Does M wake from DORMANT: its comparator sees twice Ist, judged on the first sample, or its return path has shown activity (R338, R342; DEDUCED,
log 146)? The current is in mA, the shunt in nΩ, 2 × Ist is 75 µV. -/
def mWakes (m : Metro) (current : Int) : Bool := m.called || decide (75000000 ≤ current.natAbs * m.shunt.natAbs)

/-- M_WAKE (R340, R342, R344, R351). -/
def execMWake (current : Int) (s : State) : Host.Outcome State Fault Refusal :=
  .next <|
    if s.part.hasM ∧ s.metro.state = .dormant ∧ mWakes s.metro current then
      s.updM fun m => mEvent 0x0C (leInt 4 current)
        { m with
          state := .metering, called := false, opsec := (m.opsec + (s.now - m.dormantAt) / secT) % 2 ^ 32, quietSamples := 0, idleSamples := 0 }
    else s

/-- JOURNAL_STORE (R345): every 10 s while anything has changed. -/
def execJournalStore (s : State) : Host.Outcome State Fault Refusal :=
  .next <|
    if s.part.hasM ∧ mCounts s.metro ∧ s.metro.dirty ∧ 10 * sps ≤ s.metro.storeSamples then s.updM mStore else s

/-- POWER_FAIL_STORE (R345, R351). -/
def execPowerFailStore (s : State) : Host.Outcome State Fault Refusal :=
  .next <|
    if s.part.hasM ∧ (mCounts s.metro ∨ s.metro.state = .halted) then
      s.updM fun m =>
        let m := mStore m
        mEvent 0x02 (le 4 m.journalGen) m
    else s

/-! The calibration interface and the test access (R346 to R348). -/

/-- Does the calibration interface hear a command: in every state that M runs in (R342, R347)? -/
def mUart (s : State) : Bool := s.part.hasM && mAnswers s.metro

/-- METRO_CAL_READ (R347): the reply frame, empty where M refuses. -/
def execMetroCalRead (addr len : Nat) (s : State) : Host.Outcome State Fault Refusal :=
  .next <|
    if !mUart s then s
    else
      s.updM fun m =>
        match mRead m addr len with
        | none => { m with uartOut := [] }
        | some d =>
          let b := le 1 1 ++ le 1 d.length ++ d
          { m with uartOut := b ++ le 2 (crc16 b).toNat }

/-- METRO_CAL_POINT (R347): the applied value of a current or a voltage. -/
def execMetroCalPoint (input : Nat) (applied : Int) (s : State) : Host.Outcome State Fault Refusal :=
  .next <|
    if mUart s ∧ s.metro.sealed_ = false ∧ input ≤ 1 then
      s.updM fun m => { m with ptRun := some (input, applied), ptSum := 0, ptN := 0 }
    else s

/-- METRO_CAL_POINT_DONE (R347): the average of 4 s of legal samples, in nV. -/
def execMetroCalPointDone (input : Nat) (s : State) : Host.Outcome State Fault Refusal :=
  .next <|
    if !mUart s || decide (s.metro.ptN < 4 * sps) || s.metro.ptRun.map Prod.fst != some input then s
    else
      s.updM fun m =>
        let a := divRound m.ptSum m.ptN
        match m.ptRun with
        | some (0, v) => { m with ptRun := none, ptI := ((v, a) :: m.ptI).take 2 }
        | some (_, v) => { m with ptRun := none, ptU := ((v, a) :: m.ptU).take 2 }
        | none => m

/-- Gain and offset from two points: applied values in mA or mV, averages in nV. The shunt comes out in nΩ, the ratio times 1000 (R347). -/
def calFit (ptI ptU : List (Int × Int)) : Option (Int × Int × Int × Int) :=
  match ptI, ptU with
  | [(a, x), (b, y)], [(c, v), (d, w)] =>
    let r := mDiv ((x - y) * 1000) (a - b)
    let k := mDiv ((c - d) * 1000000000) (v - w)
    if r = 0 ∨ k = 0 then none else some (r, k, x - mDiv (a * r) 1000, v - mDiv (c * 1000000000) k)
  | _, _ => none

/-- CAL_STORE (R347). -/
def execCalStore (s : State) : Host.Outcome State Fault Refusal :=
  .next <|
    if !mUart s || s.metro.sealed_ then s
    else
      match calFit s.metro.ptI s.metro.ptU with
      | none => s
      | some (r, k, oi, ou) =>
        s.updM fun m =>
          let g := (m.calGen + 1) % 65536
          mEvent 0x07 (le 2 g) { m with shunt := r, ratio := k, offI := oi, offU := ou, calGen := g, ptI := [], ptU := [] }

/-- SET_AUTHORITY (R347). -/
def execSetAuthority (key : List Byte) (s : State) : Host.Outcome State Fault Refusal :=
  .next <|
    if mUart s ∧ s.metro.sealed_ = false ∧ key.length = 64 ∧ (s.metro.authority.isEmpty ∨ s.metro.sealBroken) then
      s.updM fun m => { m with authority := key }
    else s

/-- SEAL (R347). -/
def execSeal (s : State) : Host.Outcome State Fault Refusal :=
  .next <|
    if mUart s ∧ s.metro.sealed_ = false ∧ s.metro.calGen ≠ 0 ∧ s.metro.authority.isEmpty = false then
      s.updM fun m => mEvent 0x04 (le 2 m.calGen) { m with sealed_ := true }
    else s

/-- What the token of UNSEAL signs: MUID and the current EVCOUNT (R347). -/
def tokenBytes (m : Metro) : List Byte := le 8 m.muid ++ le 4 m.evCount

/-- UNSEAL (R347, R348). -/
def execUnseal (token : List Byte) (s : State) : Host.Outcome State Fault Refusal :=
  .next <|
    if mUart s ∧ s.metro.sealed_ ∧ Config.ecdsaVerify s.metro.authority (tokenBytes s.metro) token then
      s.updM fun m => breakSeal 0x05 (token.take 4) { m with sealed_ := false }
    else s

/-- M_TEST_ACCESS (R348). -/
def execMTestAccess (token : List Byte) (s : State) : Host.Outcome State Fault Refusal :=
  .next <|
    if mUart s ∧ Config.ecdsaVerify Config.folharyKey (tokenBytes s.metro) token then s.updM (breakSeal 0x06 []) else s

end Sys2Proof.Machine
end

