-- ==== Sys2Proof/Machine/Dispatch.lean ====
section
/-! DEFINITION. The commands of the table, each given to its meaning. -/
namespace Sys2Proof.Machine

def exec (i : Instr) (s : State) : Host.Outcome State Fault Refusal :=
  match i with
  | .spiRead addr len hdrCrc clocks => Sys2Proof.Machine.execSpiRead addr len hdrCrc clocks s
  | .spiWrite addr len hdrCrc data dataCrc clocks => Sys2Proof.Machine.execSpiWrite addr len hdrCrc data dataCrc clocks s
  | .quadRead addr len hdrCrc clocks => Sys2Proof.Machine.execQuadRead addr len hdrCrc clocks s
  | .quadWrite addr len hdrCrc data dataCrc clocks => Sys2Proof.Machine.execQuadWrite addr len hdrCrc data dataCrc clocks s
  | .registerWrite addr data => Sys2Proof.Machine.execRegisterWrite addr data s
  | .doorbellIn n => Sys2Proof.Machine.execDoorbellIn n s
  | .mailboxTakeFrame => Sys2Proof.Machine.execMailboxTakeFrame s
  | .replyWrite n => Sys2Proof.Machine.execReplyWrite n s
  | .doorbellOutack n => Sys2Proof.Machine.execDoorbellOutack n s
  | .rawresCodeRead => Sys2Proof.Machine.execRawresCodeRead s
  | .rawresTagRead => Sys2Proof.Machine.execRawresTagRead s
  | .rawResultArrival code input die sweep urg nbr ovr => Sys2Proof.Machine.execRawResultArrival code input die sweep urg nbr ovr s
  | .urggo => Sys2Proof.Machine.execUrggo s
  | .urgclr => Sys2Proof.Machine.execUrgclr s
  | .urgentRequestArrival die => Sys2Proof.Machine.execUrgentRequestArrival die s
  | .urgentConversion microvolts => Sys2Proof.Machine.execUrgentConversion microvolts s
  | .wdaWrite token whole => Sys2Proof.Machine.execWdaWrite token whole s
  | .wdTimeout => Sys2Proof.Machine.execWdTimeout s
  | .abortWrite word => Sys2Proof.Machine.execAbortWrite word s
  | .operationAbortStop prio tag => Sys2Proof.Machine.execOperationAbortStop prio tag s
  | .strrdWrite value => Sys2Proof.Machine.execStrrdWrite value s
  | .swrstWrite value => Sys2Proof.Machine.execSwrstWrite value s
  | .rstnAssert => Sys2Proof.Machine.execRstnAssert s
  | .rstnRelease => Sys2Proof.Machine.execRstnRelease s
  | .rstnStuck => Sys2Proof.Machine.execRstnStuck s
  | .rstnIgnoreEnd => Sys2Proof.Machine.execRstnIgnoreEnd s
  | .partStart b => Sys2Proof.Machine.execPartStart b s
  | .studioReady settingsReadable => Sys2Proof.Machine.execStudioReady settingsReadable s
  | .getIdentity h => Sys2Proof.Machine.execGetIdentity h s
  | .getPowerStatus h => Sys2Proof.Machine.execGetPowerStatus h s
  | .setPowerState h state scope p => Sys2Proof.Machine.execSetPowerState h state scope p s
  | .shutdownSequence lbist => Sys2Proof.Machine.execShutdownSequence lbist s
  | .lbistSupervisionResume silent => Sys2Proof.Machine.execLbistSupervisionResume silent s
  | .setWake h mask state sleepchk waketime sleeptemp => Sys2Proof.Machine.execSetWake h mask state sleepchk waketime sleeptemp s
  | .setMonitor h period order dec => Sys2Proof.Machine.execSetMonitor h period order dec s
  | .setThermal h l1 l2 l3 l4 rise => Sys2Proof.Machine.execSetThermal h l1 l2 l3 l4 rise s
  | .getThermal h => Sys2Proof.Machine.execGetThermal h s
  | .setScrub h mode => Sys2Proof.Machine.execSetScrub h mode s
  | .scrubNow h => Sys2Proof.Machine.execScrubNow h s
  | .setClocks h src32 => Sys2Proof.Machine.execSetClocks h src32 s
  | .scrubStep weak bad => Sys2Proof.Machine.execScrubStep weak bad s
  | .scrubDue => Sys2Proof.Machine.execScrubDue s
  | .wake code => Sys2Proof.Machine.execWake code s
  | .vlvLow mv => Sys2Proof.Machine.execVlvLow mv s
  | .vlvBrownOut mv => Sys2Proof.Machine.execVlvBrownOut mv s
  | .vlvReturn mv => Sys2Proof.Machine.execVlvReturn mv s
  | .monitorBurst => Sys2Proof.Machine.execMonitorBurst s
  | .ringBurst dies => Sys2Proof.Machine.execRingBurst dies s
  | .guardPass die volts => Sys2Proof.Machine.execGuardPass die volts s
  | .studioSleep => Sys2Proof.Machine.execStudioSleep s
  | .sleepCheck die volts found => Sys2Proof.Machine.execSleepCheck die volts found s
  | .clock32kFault => Sys2Proof.Machine.execClock32kFault s
  | .pllLock => Sys2Proof.Machine.execPllLock s
  | .pllUnlock which => Sys2Proof.Machine.execPllUnlock which s
  | .housekeepingRound die temp tripped refSettled => Sys2Proof.Machine.execHousekeepingRound die temp tripped refSettled s
  | .thermalLevel die level upward => Sys2Proof.Machine.execThermalLevel die level upward s
  | .thermalRestart die => Sys2Proof.Machine.execThermalRestart die s
  | .segmentSupplyLow die => Sys2Proof.Machine.execSegmentSupplyLow die s
  | .segmentSupplyRestart die => Sys2Proof.Machine.execSegmentSupplyRestart die s
  | .coreSupplyReset die => Sys2Proof.Machine.execCoreSupplyReset die s
  | .setSequence h dieMask entries => Sys2Proof.Machine.execSetSequence h dieMask entries s
  | .getSequence h die => Sys2Proof.Machine.execGetSequence h die s
  | .setTrigger h source edge watch delay period phase => Sys2Proof.Machine.execSetTrigger h source edge watch delay period phase s
  | .scheduleClappers h op times => Sys2Proof.Machine.execScheduleClappers h op times s
  | .setSchedulingMode h mode => Sys2Proof.Machine.execSetSchedulingMode h mode s
  | .setDollyInteraction h dieMask mode => Sys2Proof.Machine.execSetDollyInteraction h dieMask mode s
  | .sweepControl h run => Sys2Proof.Machine.execSweepControl h run s
  | .getSweepStatus h => Sys2Proof.Machine.execGetSweepStatus h s
  | .setSelftest h period => Sys2Proof.Machine.execSetSelftest h period s
  | .modeSwitchTakesEffect => Sys2Proof.Machine.execModeSwitchTakesEffect s
  | .clapPinEdge rising => Sys2Proof.Machine.execClapPinEdge rising s
  | .scheduleSend => Sys2Proof.Machine.execScheduleSend s
  | .clapper meas => Sys2Proof.Machine.execClapper meas s
  | .quietGate die dolly input current => Sys2Proof.Machine.execQuietGate die dolly input current s
  | .sweepEnd => Sys2Proof.Machine.execSweepEnd s
  | .clapPinSilent => Sys2Proof.Machine.execClapPinSilent s
  | .selftestStart die => Sys2Proof.Machine.execSelftestStart die s
  | .selftestEnd die failStep mainOff diagOff => Sys2Proof.Machine.execSelftestEnd die failStep mainOff diagOff s
  | .refokChange die ref uv => Sys2Proof.Machine.execRefokChange die ref uv s
  | .refStartTimeout die ref => Sys2Proof.Machine.execRefStartTimeout die ref s
  | .statusWordTimer die => Sys2Proof.Machine.execStatusWordTimer die s
  | .guardGroup die at_ => Sys2Proof.Machine.execGuardGroup die at_ s
  | .setFilters h takedec sets => Sys2Proof.Machine.execSetFilters h takedec sets s
  | .getFilters h => Sys2Proof.Machine.execGetFilters h s
  | .setAlignment h mode irsrc subdie subin rmode => Sys2Proof.Machine.execSetAlignment h mode irsrc subdie subin rmode s
  | .setResistance h first values => Sys2Proof.Machine.execSetResistance h first values s
  | .getResistance h first n => Sys2Proof.Machine.execGetResistance h first n s
  | .setFilterMode h mode die => Sys2Proof.Machine.execSetFilterMode h mode die s
  | .setContinuity h mode contthr verdicttmo => Sys2Proof.Machine.execSetContinuity h mode contthr verdicttmo s
  | .sendVerdict h seq verdict => Sys2Proof.Machine.execSendVerdict h seq verdict s
  | .setStream h entries => Sys2Proof.Machine.execSetStream h entries s
  | .readHistory h fromT toT => Sys2Proof.Machine.execReadHistory h fromT toT s
  | .historyRecordWrite => Sys2Proof.Machine.execHistoryRecordWrite s
  | .charge h op value => Sys2Proof.Machine.execCharge h op value s
  | .chargePresetApply => Sys2Proof.Machine.execChargePresetApply s
  | .getSlateStatus h => Sys2Proof.Machine.execGetSlateStatus h s
  | .dieBlock die good => Sys2Proof.Machine.execDieBlock die good s
  | .slatePublish => Sys2Proof.Machine.execSlatePublish s
  | .continuityWindowClose die => Sys2Proof.Machine.execContinuityWindowClose die s
  | .continuityVerdict die good => Sys2Proof.Machine.execContinuityVerdict die good s
  | .commitNotice => Sys2Proof.Machine.execCommitNotice s
  | .windowIncomplete die => Sys2Proof.Machine.execWindowIncomplete die s
  | .openWindowFinish die volts => Sys2Proof.Machine.execOpenWindowFinish die volts s
  | .verdictTimeout => Sys2Proof.Machine.execVerdictTimeout s
  | .calStart h die input unit => Sys2Proof.Machine.execCalStart h die input unit s
  | .calPoint h kind ntakes value => Sys2Proof.Machine.execCalPoint h kind ntakes value s
  | .calCommit h => Sys2Proof.Machine.execCalCommit h s
  | .calCancel h => Sys2Proof.Machine.execCalCancel h s
  | .calCellGain h die ntakes cells => Sys2Proof.Machine.execCalCellGain h die ntakes cells s
  | .calTaps h dieMask itest => Sys2Proof.Machine.execCalTaps h dieMask itest s
  | .calTapsStepEnd currents => Sys2Proof.Machine.execCalTapsStepEnd currents s
  | .setTapResistance h die tap value => Sys2Proof.Machine.execSetTapResistance h die tap value s
  | .getCalibration h die kind fromIdx => Sys2Proof.Machine.execGetCalibration h die kind fromIdx s
  | .calErase h die kind input => Sys2Proof.Machine.execCalErase h die kind input s
  | .flashStepComplete => Sys2Proof.Machine.execFlashStepComplete s
  | .setOpenTap h mode otperiod jumpthr => Sys2Proof.Machine.execSetOpenTap h mode otperiod jumpthr s
  | .probeTap h die tap => Sys2Proof.Machine.execProbeTap h die tap s
  | .getSenseStatus h => Sys2Proof.Machine.execGetSenseStatus h s
  | .runMatrixTest h dieMask => Sys2Proof.Machine.execRunMatrixTest h dieMask s
  | .runLeakageTest h dieMask leakthr cin => Sys2Proof.Machine.execRunLeakageTest h dieMask leakthr cin s
  | .setThermistors h die mask openlim shortlim => Sys2Proof.Machine.execSetThermistors h die mask openlim shortlim s
  | .openTapProbeStart die baseline current => Sys2Proof.Machine.execOpenTapProbeStart die baseline current s
  | .openTapVerdict die check restore current => Sys2Proof.Machine.execOpenTapVerdict die check restore current s
  | .refXcheckBlock die => Sys2Proof.Machine.execRefXcheckBlock die s
  | .matrixTestStep die group vcs seen => Sys2Proof.Machine.execMatrixTestStep die group vcs seen s
  | .leakageTestEnd die group v0 v1 => Sys2Proof.Machine.execLeakageTestEnd die group v0 v1 s
  | .groupTestDue die group => Sys2Proof.Machine.execGroupTestDue die group s
  | .setSpans h entries => Sys2Proof.Machine.execSetSpans h entries s
  | .setGoal h goal imax target band horizon => Sys2Proof.Machine.execSetGoal h goal imax target band horizon s
  | .setCellCapacity h first values => Sys2Proof.Machine.execSetCellCapacity h first values s
  | .setChargeGoal h first values => Sys2Proof.Machine.execSetChargeGoal h first values s
  | .setBalanceMode h mode => Sys2Proof.Machine.execSetBalanceMode h mode s
  | .dollyOrder h die dolly mode cell iset duration qlimit => Sys2Proof.Machine.execDollyOrder h die dolly mode cell iset duration qlimit s
  | .setDollyLimits h cellhi celllo lease => Sys2Proof.Machine.execSetDollyLimits h cellhi celllo lease s
  | .setDerating h mode entries => Sys2Proof.Machine.execSetDerating h mode entries s
  | .setSleepBalance h enable period target band isleep maxawake => Sys2Proof.Machine.execSetSleepBalance h enable period target band isleep maxawake s
  | .getPlan h die => Sys2Proof.Machine.execGetPlan h die s
  | .getBalanceStatus h die => Sys2Proof.Machine.execGetBalanceStatus h die s
  | .plannerPrepare => Sys2Proof.Machine.execPlannerPrepare s
  | .dollyApplyItem die dolly => Sys2Proof.Machine.execDollyApplyItem die dolly s
  | .dollyLeaseExpired die dolly qcell loss => Sys2Proof.Machine.execDollyLeaseExpired die dolly qcell loss s
  | .transferLimitEnd die dolly qcell loss => Sys2Proof.Machine.execTransferLimitEnd die dolly qcell loss s
  | .dollyOvercurrent die dolly => Sys2Proof.Machine.execDollyOvercurrent die dolly s
  | .dollyRegulation die dolly => Sys2Proof.Machine.execDollyRegulation die dolly s
  | .dollySpanVoltage die dolly mv => Sys2Proof.Machine.execDollySpanVoltage die dolly mv s
  | .dollyNoTransfer die dolly => Sys2Proof.Machine.execDollyNoTransfer die dolly s
  | .dollyDriverSupply die => Sys2Proof.Machine.execDollyDriverSupply die s
  | .dollyCheckTransferEnd die dolly clean => Sys2Proof.Machine.execDollyCheckTransferEnd die dolly clean s
  | .dollyThermalResume die => Sys2Proof.Machine.execDollyThermalResume die s
  | .sleepBalanceWake die => Sys2Proof.Machine.execSleepBalanceWake die s
  | .sleepTakeEnd die take mismatch => Sys2Proof.Machine.execSleepTakeEnd die take mismatch s
  | .sleepTakeRepeat die => Sys2Proof.Machine.execSleepTakeRepeat die s
  | .sleepAwakeLimit die => Sys2Proof.Machine.execSleepAwakeLimit die s
  | .defineSession h source settle nblocks auxdie auxin iamp imin cells freqs => Sys2Proof.Machine.execDefineSession h source settle nblocks auxdie auxin iamp imin cells freqs s
  | .startSession h fromPoint => Sys2Proof.Machine.execStartSession h fromPoint s
  | .getSessionStatus h => Sys2Proof.Machine.execGetSessionStatus h s
  | .readPoints h fromPoint toPoint => Sys2Proof.Machine.execReadPoints h fromPoint toPoint s
  | .pointReadbackWrite => Sys2Proof.Machine.execPointReadbackWrite s
  | .setTempCoeffs h ft first coeffs => Sys2Proof.Machine.execSetTempCoeffs h ft first coeffs s
  | .setImpedanceMode h mode => Sys2Proof.Machine.execSetImpedanceMode h mode s
  | .modulateOrder h die dolly cell freq iamp t0 duration => Sys2Proof.Machine.execModulateOrder h die dolly cell freq iamp t0 duration s
  | .modulateOrderEnd die dolly measured phase => Sys2Proof.Machine.execModulateOrderEnd die dolly measured phase s
  | .lockinBlock senses => Sys2Proof.Machine.execLockinBlock senses s
  | .enumerate h expect => Sys2Proof.Machine.execEnumerate h expect s
  | .enumerationTimeout => Sys2Proof.Machine.execEnumerationTimeout s
  | .getChainMap h first n => Sys2Proof.Machine.execGetChainMap h first n s
  | .getLinkStatus h => Sys2Proof.Machine.execGetLinkStatus h s
  | .setTimebase h ref freq => Sys2Proof.Machine.execSetTimebase h ref freq s
  | .setPlacement h cls pin => Sys2Proof.Machine.execSetPlacement h cls pin s
  | .setRadio h enable txpwr chmask => Sys2Proof.Machine.execSetRadio h enable txpwr chmask s
  | .radioRekey h => Sys2Proof.Machine.execRadioRekey h s
  | .setService h op dieMask => Sys2Proof.Machine.execSetService h op dieMask s
  | .getRadioStatus h first n => Sys2Proof.Machine.execGetRadioStatus h first n s
  | .clapperEvent die => Sys2Proof.Machine.execClapperEvent die s
  | .ringPackTime die good => Sys2Proof.Machine.execRingPackTime die good s
  | .ringCurrentSample time current good => Sys2Proof.Machine.execRingCurrentSample time current good s
  | .ringConfigurationMessage die good => Sys2Proof.Machine.execRingConfigurationMessage die good s
  | .statusWord die good inputLost => Sys2Proof.Machine.execStatusWord die good inputLost s
  | .faultMessage msg => Sys2Proof.Machine.execFaultMessage msg s
  | .ringInputLost die => Sys2Proof.Machine.execRingInputLost die s
  | .ringLoss => Sys2Proof.Machine.execRingLoss s
  | .fullSlateFrame f payload => Sys2Proof.Machine.execFullSlateFrame f payload s
  | .compactSlateFrame f payload => Sys2Proof.Machine.execCompactSlateFrame f payload s
  | .commitNoticeFrame f payload => Sys2Proof.Machine.execCommitNoticeFrame f payload s
  | .otherStreamRecordFrame f rtype payload => Sys2Proof.Machine.execOtherStreamRecordFrame f rtype payload s
  | .mailboxCommandFrame f prio payload => Sys2Proof.Machine.execMailboxCommandFrame f prio payload s
  | .mailboxReplyFrame f prio payload => Sys2Proof.Machine.execMailboxReplyFrame f prio payload s
  | .faultRecordFrame f payload => Sys2Proof.Machine.execFaultRecordFrame f payload s
  | .superframeFrame f sfnum master count ack admitMask placeb rsf slotmap => Sys2Proof.Machine.execSuperframeFrame f sfnum master count ack admitMask placeb rsf slotmap s
  | .heartbeat f state queue ports => Sys2Proof.Machine.execHeartbeat f state queue ports s
  | .join f uid chainId addr time => Sys2Proof.Machine.execJoin f uid chainId addr time s
  | .enumeration f chainId next expect port => Sys2Proof.Machine.execEnumeration f chainId next expect port s
  | .scheduleFrame f times => Sys2Proof.Machine.execScheduleFrame f times s
  | .bulkFrame f stream tid offset data => Sys2Proof.Machine.execBulkFrame f stream tid offset data s
  | .configurationFrame f kind value time => Sys2Proof.Machine.execConfigurationFrame f kind value time s
  | .clapSet time rising good => Sys2Proof.Machine.execClapSet time rising good s
  | .currentSet src time current good => Sys2Proof.Machine.execCurrentSet src time current good s
  | .syncSet time correction port hops primary good => Sys2Proof.Machine.execSyncSet time correction port hops primary good s
  | .alarmSet src msg time good => Sys2Proof.Machine.execAlarmSet src msg time good s
  | .delayReq port time => Sys2Proof.Machine.execDelayReq port time s
  | .delayResp port time delay => Sys2Proof.Machine.execDelayResp port time delay s
  | .delayMeasurement => Sys2Proof.Machine.execDelayMeasurement s
  | .superframeStart spare => Sys2Proof.Machine.execSuperframeStart spare s
  | .timePortChange => Sys2Proof.Machine.execTimePortChange s
  | .packtimeUnlocked => Sys2Proof.Machine.execPacktimeUnlocked s
  | .timeMasterTakeover => Sys2Proof.Machine.execTimeMasterTakeover s
  | .packtimeRefLost => Sys2Proof.Machine.execPacktimeRefLost s
  | .packTimeSave => Sys2Proof.Machine.execPackTimeSave s
  | .noticeGapTimeout => Sys2Proof.Machine.execNoticeGapTimeout s
  | .linkDown port => Sys2Proof.Machine.execLinkDown port s
  | .linkUp port => Sys2Proof.Machine.execLinkUp port s
  | .packageLost addr => Sys2Proof.Machine.execPackageLost addr s
  | .radioSlot => Sys2Proof.Machine.execRadioSlot s
  | .radioBeacon src counter micGood time chainId => Sys2Proof.Machine.execRadioBeacon src counter micGood time chainId s
  | .radioAlarmFrame src counter micGood msg time => Sys2Proof.Machine.execRadioAlarmFrame src counter micGood msg time s
  | .radioDataFrame src counter micGood stream tid offset data => Sys2Proof.Machine.execRadioDataFrame src counter micGood stream tid offset data s
  | .radioAcknowledgement src arrived => Sys2Proof.Machine.execRadioAcknowledgement src arrived s
  | .readMetro h addr len => Sys2Proof.Machine.execReadMetro h addr len s
  | .signStatement h regid => Sys2Proof.Machine.execSignStatement h regid s
  | .setDisplay h param value => Sys2Proof.Machine.execSetDisplay h param value s
  | .readEvents h fromNum n => Sys2Proof.Machine.execReadEvents h fromNum n s
  | .getMetroStatus h => Sys2Proof.Machine.execGetMetroStatus h s
  | .setCurrentSource h addr => Sys2Proof.Machine.execSetCurrentSource h addr s
  | .registerReadRequest addr len => Sys2Proof.Machine.execRegisterReadRequest addr len s
  | .statementRequest regid time => Sys2Proof.Machine.execStatementRequest regid time s
  | .displayRequest param value => Sys2Proof.Machine.execDisplayRequest param value s
  | .metroAnswer => Sys2Proof.Machine.execMetroAnswer s
  | .metroWithdrawn => Sys2Proof.Machine.execMetroWithdrawn s
  | .legalSample shunt vin => Sys2Proof.Machine.execLegalSample shunt vin s
  | .streamFrame path sample current voltage mstat crc => Sys2Proof.Machine.execStreamFrame path sample current voltage mstat crc s
  | .metroStreamLost => Sys2Proof.Machine.execMetroStreamLost s
  | .metroRestored => Sys2Proof.Machine.execMetroRestored s
  | .mstatusPoll => Sys2Proof.Machine.execMstatusPoll s
  | .mStart cause failed incomplete swid => Sys2Proof.Machine.execMStart cause failed incomplete swid s
  | .mPeriodicCheck failed temp => Sys2Proof.Machine.execMPeriodicCheck failed temp s
  | .mIdleTimeout => Sys2Proof.Machine.execMIdleTimeout s
  | .mDormantTimeout => Sys2Proof.Machine.execMDormantTimeout s
  | .mWake current => Sys2Proof.Machine.execMWake current s
  | .journalStore => Sys2Proof.Machine.execJournalStore s
  | .powerFailStore => Sys2Proof.Machine.execPowerFailStore s
  | .metroCalRead addr len => Sys2Proof.Machine.execMetroCalRead addr len s
  | .metroCalPoint input applied => Sys2Proof.Machine.execMetroCalPoint input applied s
  | .metroCalPointDone input => Sys2Proof.Machine.execMetroCalPointDone input s
  | .calStore => Sys2Proof.Machine.execCalStore s
  | .setAuthority key => Sys2Proof.Machine.execSetAuthority key s
  | .sealMetro => Sys2Proof.Machine.execSeal s
  | .unsealMetro token => Sys2Proof.Machine.execUnseal token s
  | .mTestAccess token => Sys2Proof.Machine.execMTestAccess token s
  | .safetyLogin h host password => Sys2Proof.Machine.execSafetyLogin h host password s
  | .safetyLogout h p => Sys2Proof.Machine.execSafetyLogout h p s
  | .safetyConfigRead h which => Sys2Proof.Machine.execSafetyConfigRead h which s
  | .safetyConfigStage h offset data p => Sys2Proof.Machine.execSafetyConfigStage h offset data p s
  | .safetyConfigCommit h crc p => Sys2Proof.Machine.execSafetyConfigCommit h crc p s
  | .safetyConfigApply => Sys2Proof.Machine.execSafetyConfigApply s
  | .setPassword h old new p => Sys2Proof.Machine.execSetPassword h old new p s
  | .soCommand h mask action p => Sys2Proof.Machine.execSoCommand h mask action p s
  | .safetyDecide h decision p => Sys2Proof.Machine.execSafetyDecide h decision p s
  | .getSafetyStatus h => Sys2Proof.Machine.execGetSafetyStatus h s
  | .readChangeLog h fromSeq n => Sys2Proof.Machine.execReadChangeLog h fromSeq n s
  | .crashRelease h input p => Sys2Proof.Machine.execCrashRelease h input p s
  | .sessionTimeout head => Sys2Proof.Machine.execSessionTimeout head s
  | .loginLockEnd => Sys2Proof.Machine.execLoginLockEnd s
  | .testPulse feed ownHigh crossLow => Sys2Proof.Machine.execTestPulse feed ownHigh crossLow s
  | .safetyChannelChange input channel change => Sys2Proof.Machine.execSafetyChannelChange input channel change s
  | .siDiscrepancy input => Sys2Proof.Machine.execSiDiscrepancy input s
  | .tpOverload feed => Sys2Proof.Machine.execTpOverload feed s
  | .hvilSlot inPulse inOff outLow => Sys2Proof.Machine.execHvilSlot inPulse inOff outLow s
  | .soFeedbackCheck output fb => Sys2Proof.Machine.execSoFeedbackCheck output fb s
  | .offPulseTest output => Sys2Proof.Machine.execOffPulseTest output s
  | .offPulseTestEnd output sawLow sawHigh => Sys2Proof.Machine.execOffPulseTestEnd output sawLow sawHigh s
  | .safetyClockCheck error => Sys2Proof.Machine.execSafetyClockCheck error s
  | .graceExpired die cell under => Sys2Proof.Machine.execGraceExpired die cell under s
  | .faultRead h which n fromIdx => Sys2Proof.Machine.execFaultRead h which n fromIdx s
  | .faultClear h source all p => Sys2Proof.Machine.execFaultClear h source all p s
  | .getFaultStatus h => Sys2Proof.Machine.execGetFaultStatus h s
  | .setReaction h kind cls p => Sys2Proof.Machine.execSetReaction h kind cls p s
  | .getReaction h first n => Sys2Proof.Machine.execGetReaction h first n s
  | .faultForce h source kind detail hold suppress p => Sys2Proof.Machine.execFaultForce h source kind detail hold suppress p s
  | .forceHoldEnd source => Sys2Proof.Machine.execForceHoldEnd source s
  | .injectCheck h target mode count p => Sys2Proof.Machine.execInjectCheck h target mode count p s
  | .wdConfig h arm period seed p => Sys2Proof.Machine.execWdConfig h arm period seed p s
  | .wdStatus h => Sys2Proof.Machine.execWdStatus h s
  | .getEvidence h index => Sys2Proof.Machine.execGetEvidence h index s
  | .faultDecide h source action => Sys2Proof.Machine.execFaultDecide h source action s
  | .setReactionMode h mode => Sys2Proof.Machine.execSetReactionMode h mode s
  | .getCheckpoints h => Sys2Proof.Machine.execGetCheckpoints h s
  | .infoRecordClose source => Sys2Proof.Machine.execInfoRecordClose source s
  | .checkpointCheckIn task => Sys2Proof.Machine.execCheckpointCheckIn task s
  | .checkpointWindowEnd pc => Sys2Proof.Machine.execCheckpointWindowEnd pc s
  | .mpuViolation region access => Sys2Proof.Machine.execMpuViolation region access s
  | .sramEccError ram addr uncorrectable keeper => Sys2Proof.Machine.execSramEccError ram addr uncorrectable keeper s
  | .keeperWatchdog pc => Sys2Proof.Machine.execKeeperWatchdog pc s
  | .dailiesBucketRefill => Sys2Proof.Machine.execDailiesBucketRefill s
  | .dailiesRead h fromSeq toSeq types => Sys2Proof.Machine.execDailiesRead h fromSeq toSeq types s
  | .dailiesRecordWrite => Sys2Proof.Machine.execDailiesRecordWrite s
  | .dailiesStatus h => Sys2Proof.Machine.execDailiesStatus h s
  | .dailiesMark h data => Sys2Proof.Machine.execDailiesMark h data s
  | .updateBegin h half bytes => Sys2Proof.Machine.execUpdateBegin h half bytes s
  | .updateData h offset data => Sys2Proof.Machine.execUpdateData h offset data s
  | .updateVerify h => Sys2Proof.Machine.execUpdateVerify h s
  | .updateCancel h => Sys2Proof.Machine.execUpdateCancel h s
  | .activate h tmask scope at_ => Sys2Proof.Machine.execActivate h tmask scope at_ s
  | .activationCommitPoint failed => Sys2Proof.Machine.execActivationCommitPoint failed s
  | .activation => Sys2Proof.Machine.execActivation s
  | .confirmation healthy members => Sys2Proof.Machine.execConfirmation healthy members s
  | .confirmTimeout => Sys2Proof.Machine.execConfirmTimeout s
  | .getUpdateStatus h => Sys2Proof.Machine.execGetUpdateStatus h s
  | .setActivationMode h mode => Sys2Proof.Machine.execSetActivationMode h mode s
  | .enterRecovery h p => Sys2Proof.Machine.execEnterRecovery h p s
  | .setCustomerKey h key p => Sys2Proof.Machine.execSetCustomerKey h key p s
  | .getLifecycle h => Sys2Proof.Machine.execGetLifecycle h s
  | .lcAdvance h targetState token p => Sys2Proof.Machine.execLcAdvance h targetState token p s
  | .returnChallenge h p => Sys2Proof.Machine.execReturnChallenge h p s
  | .enterReturn h token p => Sys2Proof.Machine.execEnterReturn h token p s
  | .lcScrap h confirm token p => Sys2Proof.Machine.execLcScrap h confirm token p s
  | .lbistRun h dieMask env p => Sys2Proof.Machine.execLbistRun h dieMask env p s
  | .nonceExpiry => Sys2Proof.Machine.execNonceExpiry s
  | .testAccessAttempt die => Sys2Proof.Machine.execTestAccessAttempt die s
  | .arbitrationWindowClose => Sys2Proof.Machine.execArbitrationWindowClose s
  | .ringInputReturn die => Sys2Proof.Machine.execRingInputReturn die s
  | .notLocked => Sys2Proof.Machine.execNotLocked s

end Sys2Proof.Machine
end

