-- ==== Sys2Proof/Machine/Tick.lean ====
section
/-! DEFINITION. A tick of 10 ns (R10, R16, R81, R312, R550). -/
namespace Sys2Proof.Machine

/-- The change of pack time in a tick: 1, and one more or less in every thousandth tick while a locked package slews (R312). -/
def packStep (s : State) : Nat :=
  if s.chain.locked ∧ s.chain.slew ≠ 0 ∧ s.now % 1000 = 0 then (if 0 < s.chain.slew then 2 else 0) else 1

/-- The slew that a tick leaves (R312). -/
def slewLeft (s : State) : Int :=
  if s.chain.locked ∧ s.chain.slew ≠ 0 ∧ s.now % 1000 = 0 then (if 0 < s.chain.slew then s.chain.slew - 1 else s.chain.slew + 1) else s.chain.slew

/-- A die's copy of pack time follows the forwarded clock, and runs on its own while its ring input is lost (R16, R293). -/
def SegDie.copyStep (d : SegDie) (step : Nat) : SegDie :=
  { d with packPrev := d.packTime, packTime := d.packTime + if d.ringLost then 1 else step }

/-- A matrix driver gets its word at every change and again every 500 µs (R550). -/
def Dolly.drive (now : Tick) (y : Dolly) : Dolly :=
  let w := y.matrixWord now
  if w ≠ y.word ∨ y.wordAt + 500 * usT ≤ now then { y with word := w, wordAt := now } else y

/-- One segment die in a tick that ends at `now`. A die without its supply drives nothing (R535). -/
def SegDie.tick (now : Tick) (step : Nat) (d : SegDie) : SegDie :=
  let d := d.copyStep step
  { d with dollies := if d.unpowered then d.dollies else d.dollies.map (Dolly.drive now) }

/-- While the package is unlocked it takes no Clappers from CHAIN or SCHEDULE: those whose instant passes are lost (R310). -/
def lapse (s : State) (w : Sweep) : Sweep :=
  if s.chain.locked then w
  else match w.trig.source with
    | 2 => { w with events := w.events.filter fun e => decide (s.packTime < e.clap) }
    | 4 => { w with times := w.times.filter fun x => decide (s.packTime < x + w.trig.delay) }
    | _ => w

/-- What happens while no command waits: time goes on by one tick (log entry 1), the dies' copies of pack time with it, the matrix drivers get what
is due, and a pending abort is answered at the end of its engine cycle (R81). -/
def tick (s : State) : State :=
  abortCycle { s with
    now := s.now + 1, packTime := s.packTime + packStep s, chain := { s.chain with slew := slewLeft s }, sweep := lapse s s.sweep
    segs := s.segs.map (SegDie.tick (s.now + 1) (packStep s)) }

end Sys2Proof.Machine
end

