-- ==== Sys2Proof/Machine/Spelling.lean ====
section
/-! DEFINITION. The spelling of a command: opcode, header and parameter values of each mailbox command (R63, R72, R563). -/
namespace Sys2Proof.Machine

/-- The token of two commands, which is there only in RETURN (R521). -/
def tokenVal (token : List Byte) : List Val := if token.isEmpty then [] else [.b token]

/-- The opcode, header and parameter values of a mailbox command, in the order of its opcode table; none for every other command of
the block. -/
def spelled : Instr → Option (Nat × Hdr × List Val)
  | .getIdentity h => some (0x0101, h, [])
  | .getPowerStatus h => some (0x0102, h, [])
  | .setPowerState h state scope p => some (0x0103, h, [.n state, .n scope, .p p])
  | .setWake h mask state sleepchk waketime sleeptemp => some (0x0104, h, [.n mask, .n state, .n sleepchk, .n waketime, .n sleeptemp])
  | .setMonitor h period order dec => some (0x0105, h, [.n period, .n order, .n dec])
  | .setThermal h l1 l2 l3 l4 rise => some (0x0106, h, [.i l1, .i l2, .i l3, .i l4, .n rise])
  | .getThermal h => some (0x0107, h, [])
  | .setScrub h mode => some (0x0108, h, [.n mode])
  | .scrubNow h => some (0x0109, h, [])
  | .setClocks h src32 => some (0x010A, h, [.n src32])
  | .setSequence h dieMask entries => some (0x0201, h, [.n dieMask, .n entries.length, .g (entries.map fun e => [e.first, e.last, e.acq, e.gain, e.ref, e.filt, e.div, e.flags])])
  | .getSequence h die => some (0x0202, h, [.n die])
  | .setTrigger h source edge watch delay period phase => some (0x0203, h, [.n source, .n edge, .n watch, .n delay, .n period, .n phase])
  | .scheduleClappers h op times => some (0x0204, h, [.n op, .n times.length, .g (times.map fun v => [(v : Int)])])
  | .setSchedulingMode h mode => some (0x0205, h, [.n mode])
  | .setDollyInteraction h dieMask mode => some (0x0206, h, [.n dieMask, .n mode])
  | .sweepControl h run => some (0x0207, h, [.n run])
  | .getSweepStatus h => some (0x0208, h, [])
  | .setSelftest h period => some (0x0209, h, [.n period])
  | .setFilters h takedec sets => some (0x0301, h, [.n takedec, .g (sets.map fun e => [e.order, e.d])])
  | .getFilters h => some (0x0302, h, [])
  | .setAlignment h mode irsrc subdie subin rmode => some (0x0303, h, [.n mode, .n irsrc, .n subdie, .n subin, .n rmode])
  | .setResistance h first values => some (0x0304, h, [.n first, .n values.length, .g (values.map fun v => [(v : Int)])])
  | .getResistance h first n => some (0x0305, h, [.n first, .n n])
  | .setFilterMode h mode die => some (0x0306, h, [.n mode, .n die])
  | .setContinuity h mode contthr verdicttmo => some (0x0307, h, [.n mode, .n contthr, .n verdicttmo])
  | .sendVerdict h seq verdict => some (0x0308, h, [.n seq, .n verdict])
  | .setStream h entries => some (0x0309, h, [.n entries.length, .g (entries.map fun e => [e.pkg, e.form, e.div])])
  | .readHistory h fromT toT => some (0x030A, h, [.n fromT, .n toT])
  | .charge h op value => some (0x030B, h, [.n op, .i value])
  | .getSlateStatus h => some (0x030C, h, [])
  | .calStart h die input unit => some (0x0401, h, [.n die, .n input, .n unit])
  | .calPoint h kind ntakes value => some (0x0402, h, [.n kind, .n ntakes, .i value])
  | .calCommit h => some (0x0403, h, [])
  | .calCancel h => some (0x0404, h, [])
  | .calCellGain h die ntakes cells => some (0x0405, h, [.n die, .n cells.length, .n ntakes, .g (cells.map fun e => [e.cell, e.vtrue])])
  | .calTaps h dieMask itest => some (0x0406, h, [.n dieMask, .n itest])
  | .setTapResistance h die tap value => some (0x0407, h, [.n die, .n tap, .n value])
  | .getCalibration h die kind fromIdx => some (0x0408, h, [.n die, .n kind, .n fromIdx])
  | .calErase h die kind input => some (0x0409, h, [.n die, .n kind, .n input])
  | .setOpenTap h mode otperiod jumpthr => some (0x0B01, h, [.n mode, .n otperiod, .n jumpthr])
  | .probeTap h die tap => some (0x0B02, h, [.n die, .n tap])
  | .getSenseStatus h => some (0x0B03, h, [])
  | .runMatrixTest h dieMask => some (0x0B04, h, [.n dieMask])
  | .runLeakageTest h dieMask leakthr cin => some (0x0B05, h, [.n dieMask, .n leakthr, .n cin])
  | .setThermistors h die mask openlim shortlim => some (0x0B06, h, [.n die, .n mask, .n openlim, .n shortlim])
  | .setSpans h entries => some (0x0501, h, [.n entries.length, .g (entries.map fun e => [e.die, e.straddle, e.fsw])])
  | .setGoal h goal imax target band horizon => some (0x0502, h, [.n goal, .n imax, .n target, .n band, .n horizon])
  | .setCellCapacity h first values => some (0x0503, h, [.n first, .n values.length, .g (values.map fun v => [(v : Int)])])
  | .setChargeGoal h first values => some (0x0504, h, [.n first, .n values.length, .g (values.map fun v => [v])])
  | .setBalanceMode h mode => some (0x0505, h, [.n mode])
  | .dollyOrder h die dolly mode cell iset duration qlimit => some (0x0506, h, [.n die, .n dolly, .n mode, .n cell, .n iset, .n duration, .n qlimit])
  | .setDollyLimits h cellhi celllo lease => some (0x0507, h, [.n cellhi, .n celllo, .n lease])
  | .setDerating h mode entries => some (0x0508, h, [.n mode, .n entries.length, .g (entries.map fun e => [(e.die : Int), e.therm, e.cap, e.knee, e.stop])])
  | .setSleepBalance h enable period target band isleep maxawake => some (0x0509, h, [.n enable, .n period, .n target, .n band, .n isleep, .n maxawake])
  | .getPlan h die => some (0x050A, h, [.n die])
  | .getBalanceStatus h die => some (0x050B, h, [.n die])
  | .defineSession h source settle nblocks auxdie auxin iamp imin cells freqs => some (0x0601, h, [.n source, .n freqs.length, .n settle, .n nblocks, .n auxdie, .n auxin, .n iamp, .n imin, .n cells, .g (freqs.map fun v => [(v : Int)])])
  | .startSession h fromPoint => some (0x0602, h, [.n fromPoint])
  | .getSessionStatus h => some (0x0603, h, [])
  | .readPoints h fromPoint toPoint => some (0x0604, h, [.n fromPoint, .n toPoint])
  | .setTempCoeffs h ft first coeffs => some (0x0605, h, [.n ft, .n first, .n coeffs.length, .g (coeffs.map fun e => [e.a0, e.a1, e.a2])])
  | .setImpedanceMode h mode => some (0x0606, h, [.n mode])
  | .modulateOrder h die dolly cell freq iamp t0 duration => some (0x0607, h, [.n die, .n dolly, .n cell, .n freq, .n iamp, .n t0, .n duration])
  | .enumerate h expect => some (0x0701, h, [.n expect])
  | .getChainMap h first n => some (0x0702, h, [.n first, .n n])
  | .getLinkStatus h => some (0x0703, h, [])
  | .setTimebase h ref freq => some (0x0704, h, [.n ref, .n freq])
  | .setPlacement h cls pin => some (0x0705, h, [.n cls, .n pin])
  | .setRadio h enable txpwr chmask => some (0x0706, h, [.n enable, .i txpwr, .n chmask])
  | .radioRekey h => some (0x0707, h, [])
  | .setService h op dieMask => some (0x0708, h, [.n op, .n dieMask])
  | .getRadioStatus h first n => some (0x0709, h, [.n first, .n n])
  | .readMetro h addr len => some (0x0801, h, [.n addr, .n len])
  | .signStatement h regid => some (0x0802, h, [.n regid])
  | .setDisplay h param value => some (0x0803, h, [.n param, .n value.length, .b value])
  | .readEvents h fromNum n => some (0x0804, h, [.n fromNum, .n n])
  | .getMetroStatus h => some (0x0805, h, [])
  | .setCurrentSource h addr => some (0x0806, h, [.n addr])
  | .safetyLogin h host password => some (0x0901, h, [.n host, .n password.length, .b password])
  | .safetyLogout h p => some (0x0902, h, [.p (some p)])
  | .safetyConfigRead h which => some (0x0903, h, [.n which])
  | .safetyConfigStage h offset data p => some (0x0904, h, [.n offset, .n data.length, .b data, .p (some p)])
  | .safetyConfigCommit h crc p => some (0x0905, h, [.n crc, .p (some p)])
  | .setPassword h old new p => some (0x0906, h, [.n old.length, .n new.length, .b old, .b new, .p (some p)])
  | .soCommand h mask action p => some (0x0907, h, [.n mask, .n action, .p (some p)])
  | .safetyDecide h decision p => some (0x0908, h, [.n decision, .p (some p)])
  | .getSafetyStatus h => some (0x0909, h, [])
  | .readChangeLog h fromSeq n => some (0x090A, h, [.n fromSeq, .n n])
  | .crashRelease h input p => some (0x090B, h, [.n input, .p (some p)])
  | .faultRead h which n fromIdx => some (0x0A01, h, [.n which, .n n, .n fromIdx])
  | .faultClear h source all p => some (0x0A02, h, [.n source, .n all, .p p])
  | .getFaultStatus h => some (0x0A03, h, [])
  | .setReaction h kind cls p => some (0x0A04, h, [.n kind, .n cls, .p (some p)])
  | .getReaction h first n => some (0x0A05, h, [.n first, .n n])
  | .faultForce h source kind detail hold suppress p => some (0x0A06, h, [.n source, .n kind, .n detail, .n hold, .n suppress, .p (some p)])
  | .injectCheck h target mode count p => some (0x0A07, h, [.n target, .n mode, .n count, .p (some p)])
  | .wdConfig h arm period seed p => some (0x0A08, h, [.n arm, .n period, .n seed, .p (some p)])
  | .wdStatus h => some (0x0A09, h, [])
  | .getEvidence h index => some (0x0A0A, h, [.n index])
  | .faultDecide h source action => some (0x0A0B, h, [.n source, .n action])
  | .setReactionMode h mode => some (0x0A0C, h, [.n mode])
  | .getCheckpoints h => some (0x0A0D, h, [])
  | .dailiesRead h fromSeq toSeq types => some (0x0E01, h, [.n fromSeq, .n toSeq, .n types])
  | .dailiesStatus h => some (0x0E02, h, [])
  | .dailiesMark h data => some (0x0E03, h, [.b data])
  | .updateBegin h half bytes => some (0x0C01, h, [.n half, .b bytes])
  | .updateData h offset data => some (0x0C02, h, [.n offset, .n data.length, .b data])
  | .updateVerify h => some (0x0C03, h, [])
  | .updateCancel h => some (0x0C04, h, [])
  | .activate h tmask scope at_ => some (0x0C05, h, [.n tmask, .n scope, .n at_])
  | .getUpdateStatus h => some (0x0C06, h, [])
  | .setActivationMode h mode => some (0x0C07, h, [.n mode])
  | .enterRecovery h p => some (0x0C08, h, [.p (some p)])
  | .setCustomerKey h key p => some (0x0C09, h, [.b key, .p (some p)])
  | .getLifecycle h => some (0x0D01, h, [])
  | .lcAdvance h targetState token p => some (0x0D02, h, [.n targetState] ++ tokenVal token ++ [.p (some p)])
  | .returnChallenge h p => some (0x0D03, h, [.p (some p)])
  | .enterReturn h token p => some (0x0D04, h, [.b token, .p (some p)])
  | .lcScrap h confirm token p => some (0x0D05, h, [.n confirm] ++ tokenVal token ++ [.p (some p)])
  | .lbistRun h dieMask _env p => some (0x0D06, h, [.n dieMask, .p (some p)])
  | .spiRead _ _ _ _ => none
  | .spiWrite _ _ _ _ _ _ => none
  | .quadRead _ _ _ _ => none
  | .quadWrite _ _ _ _ _ _ => none
  | .registerWrite _ _ => none
  | .doorbellIn _ => none
  | .mailboxTakeFrame => none
  | .replyWrite _ => none
  | .doorbellOutack _ => none
  | .rawresCodeRead => none
  | .rawresTagRead => none
  | .rawResultArrival _ _ _ _ _ _ _ => none
  | .urggo => none
  | .urgclr => none
  | .urgentRequestArrival _ => none
  | .urgentConversion _ => none
  | .wdaWrite _ _ => none
  | .wdTimeout => none
  | .abortWrite _ => none
  | .operationAbortStop _ _ => none
  | .strrdWrite _ => none
  | .swrstWrite _ => none
  | .rstnAssert => none
  | .rstnRelease => none
  | .rstnStuck => none
  | .rstnIgnoreEnd => none
  | .partStart _ => none
  | .studioReady _ => none
  | .shutdownSequence _ => none
  | .lbistSupervisionResume _ => none
  | .scrubStep _ _ => none
  | .scrubDue => none
  | .wake _ => none
  | .vlvLow _ => none
  | .vlvBrownOut _ => none
  | .vlvReturn _ => none
  | .monitorBurst => none
  | .ringBurst _ => none
  | .guardPass _ _ => none
  | .studioSleep => none
  | .sleepCheck _ _ _ => none
  | .clock32kFault => none
  | .pllLock => none
  | .pllUnlock _ => none
  | .housekeepingRound _ _ _ _ => none
  | .thermalLevel _ _ _ => none
  | .thermalRestart _ => none
  | .segmentSupplyLow _ => none
  | .segmentSupplyRestart _ => none
  | .coreSupplyReset _ => none
  | .modeSwitchTakesEffect => none
  | .clapPinEdge _ => none
  | .scheduleSend => none
  | .clapper _ => none
  | .quietGate _ _ _ _ => none
  | .sweepEnd => none
  | .clapPinSilent => none
  | .selftestStart _ => none
  | .selftestEnd _ _ _ _ => none
  | .refokChange _ _ _ => none
  | .refStartTimeout _ _ => none
  | .statusWordTimer _ => none
  | .guardGroup _ _ => none
  | .historyRecordWrite => none
  | .chargePresetApply => none
  | .dieBlock _ _ => none
  | .slatePublish => none
  | .continuityWindowClose _ => none
  | .continuityVerdict _ _ => none
  | .commitNotice => none
  | .windowIncomplete _ => none
  | .openWindowFinish _ _ => none
  | .verdictTimeout => none
  | .calTapsStepEnd _ => none
  | .flashStepComplete => none
  | .openTapProbeStart _ _ _ => none
  | .openTapVerdict _ _ _ _ => none
  | .refXcheckBlock _ => none
  | .matrixTestStep _ _ _ _ => none
  | .leakageTestEnd _ _ _ _ => none
  | .groupTestDue _ _ => none
  | .plannerPrepare => none
  | .dollyApplyItem _ _ => none
  | .dollyLeaseExpired _ _ _ _ => none
  | .transferLimitEnd _ _ _ _ => none
  | .dollyOvercurrent _ _ => none
  | .dollyRegulation _ _ => none
  | .dollySpanVoltage _ _ _ => none
  | .dollyNoTransfer _ _ => none
  | .dollyDriverSupply _ => none
  | .dollyCheckTransferEnd _ _ _ => none
  | .dollyThermalResume _ => none
  | .sleepBalanceWake _ => none
  | .sleepTakeEnd _ _ _ => none
  | .sleepTakeRepeat _ => none
  | .sleepAwakeLimit _ => none
  | .pointReadbackWrite => none
  | .modulateOrderEnd _ _ _ _ => none
  | .lockinBlock _ => none
  | .enumerationTimeout => none
  | .clapperEvent _ => none
  | .ringPackTime _ _ => none
  | .ringCurrentSample _ _ _ => none
  | .ringConfigurationMessage _ _ => none
  | .statusWord _ _ _ => none
  | .faultMessage _ => none
  | .ringInputLost _ => none
  | .ringLoss => none
  | .fullSlateFrame _ _ => none
  | .compactSlateFrame _ _ => none
  | .commitNoticeFrame _ _ => none
  | .otherStreamRecordFrame _ _ _ => none
  | .mailboxCommandFrame _ _ _ => none
  | .mailboxReplyFrame _ _ _ => none
  | .faultRecordFrame _ _ => none
  | .superframeFrame _ _ _ _ _ _ _ _ _ => none
  | .heartbeat _ _ _ _ => none
  | .join _ _ _ _ _ => none
  | .enumeration _ _ _ _ _ => none
  | .scheduleFrame _ _ => none
  | .bulkFrame _ _ _ _ _ => none
  | .configurationFrame _ _ _ _ => none
  | .clapSet _ _ _ => none
  | .currentSet _ _ _ _ => none
  | .syncSet _ _ _ _ _ _ => none
  | .alarmSet _ _ _ _ => none
  | .delayReq _ _ => none
  | .delayResp _ _ _ => none
  | .delayMeasurement => none
  | .superframeStart _ => none
  | .timePortChange => none
  | .packtimeUnlocked => none
  | .timeMasterTakeover => none
  | .packtimeRefLost => none
  | .packTimeSave => none
  | .noticeGapTimeout => none
  | .linkDown _ => none
  | .linkUp _ => none
  | .packageLost _ => none
  | .radioSlot => none
  | .radioBeacon _ _ _ _ _ => none
  | .radioAlarmFrame _ _ _ _ _ => none
  | .radioDataFrame _ _ _ _ _ _ _ => none
  | .radioAcknowledgement _ _ => none
  | .registerReadRequest _ _ => none
  | .statementRequest _ _ => none
  | .displayRequest _ _ => none
  | .metroAnswer => none
  | .metroWithdrawn => none
  | .legalSample _ _ => none
  | .streamFrame _ _ _ _ _ _ => none
  | .metroStreamLost => none
  | .metroRestored => none
  | .mstatusPoll => none
  | .mStart _ _ _ _ => none
  | .mPeriodicCheck _ _ => none
  | .mIdleTimeout => none
  | .mDormantTimeout => none
  | .mWake _ => none
  | .journalStore => none
  | .powerFailStore => none
  | .metroCalRead _ _ => none
  | .metroCalPoint _ _ => none
  | .metroCalPointDone _ => none
  | .calStore => none
  | .setAuthority _ => none
  | .sealMetro => none
  | .unsealMetro _ => none
  | .mTestAccess _ => none
  | .safetyConfigApply => none
  | .sessionTimeout _ => none
  | .loginLockEnd => none
  | .testPulse _ _ _ => none
  | .safetyChannelChange _ _ _ => none
  | .siDiscrepancy _ => none
  | .tpOverload _ => none
  | .hvilSlot _ _ _ => none
  | .soFeedbackCheck _ _ => none
  | .offPulseTest _ => none
  | .offPulseTestEnd _ _ _ => none
  | .safetyClockCheck _ => none
  | .graceExpired _ _ _ => none
  | .forceHoldEnd _ => none
  | .infoRecordClose _ => none
  | .checkpointCheckIn _ => none
  | .checkpointWindowEnd _ => none
  | .mpuViolation _ _ => none
  | .sramEccError _ _ _ _ => none
  | .keeperWatchdog _ => none
  | .dailiesBucketRefill => none
  | .dailiesRecordWrite => none
  | .activationCommitPoint _ => none
  | .activation => none
  | .confirmation _ _ => none
  | .confirmTimeout => none
  | .nonceExpiry => none
  | .testAccessAttempt _ => none
  | .arbitrationWindowClose => none
  | .ringInputReturn _ => none
  | .notLocked => none

/-- The parameters of a mailbox command as bytes, in RETURN or outside it. -/
def paramBytes (inReturn : Bool) (i : Instr) : Option (List Byte) :=
  (spelled i).bind fun x => (layoutOf inReturn x.1).map fun l => writeParams l x.2.2

/-- A mailbox command as the bytes of its frame (R63). -/
def wireBytes (inReturn : Bool) (i : Instr) : Option (List Byte) :=
  (spelled i).bind fun x => (paramBytes inReturn i).map fun b => frameBytes x.1 x.2.1.tag x.2.1.target b

end Sys2Proof.Machine
end

