-- ==== Sys2Proof/WellFormed.lean ====
section
/-! DEFINITION. The well-formed commands: every operand in the range of its field, every parameter list as its layout says
(R6, R63, R69, R72, R296, R298, R563). -/
namespace Sys2Proof

/-- A number of at most `w` bits. -/
def uOk (w v : Nat) : Bool := decide (v < 2 ^ w)

/-- A die code (R6). -/
def dieOk (d : Nat) : Bool := decide (d ≤ 7)

/-- A Dolly of a die (R229). -/
def dollyOk (j : Nat) : Bool := decide (1 ≤ j) && decide (j ≤ 4)

/-- A frame header of a mailbox command: priority, tag, target, and the address of the head that sent it (R63, R69, R83). -/
def headerOk (h : Hdr) : Bool := uOk 2 h.prio && uOk 16 h.tag && uOk 8 h.target && decide (h.origin ≤ 32)

/-- A DeariLink frame header (R296). -/
def frameOk (f : FrameHdr) : Bool := uOk 8 f.dest && uOk 8 f.src && uOk 8 f.flags && uOk 16 f.seq && uOk 5 f.hops && uOk 1 f.port

/-- Are the operands of a command in their ranges? -/
def operandsOk : Instr → Bool
  | .getIdentity h => headerOk h
  | .getPowerStatus h => headerOk h
  | .setPowerState h _ _ _ => headerOk h
  | .setWake h _ _ _ _ _ => headerOk h
  | .setMonitor h _ _ _ => headerOk h
  | .setThermal h _ _ _ _ _ => headerOk h
  | .getThermal h => headerOk h
  | .setScrub h _ => headerOk h
  | .scrubNow h => headerOk h
  | .setClocks h _ => headerOk h
  | .setSequence h _ _ => headerOk h
  | .getSequence h _ => headerOk h
  | .setTrigger h _ _ _ _ _ _ => headerOk h
  | .scheduleClappers h _ _ => headerOk h
  | .setSchedulingMode h _ => headerOk h
  | .setDollyInteraction h _ _ => headerOk h
  | .sweepControl h _ => headerOk h
  | .getSweepStatus h => headerOk h
  | .setSelftest h _ => headerOk h
  | .setFilters h _ _ => headerOk h
  | .getFilters h => headerOk h
  | .setAlignment h _ _ _ _ _ => headerOk h
  | .setResistance h _ _ => headerOk h
  | .getResistance h _ _ => headerOk h
  | .setFilterMode h _ _ => headerOk h
  | .setContinuity h _ _ _ => headerOk h
  | .sendVerdict h _ _ => headerOk h
  | .setStream h _ => headerOk h
  | .readHistory h _ _ => headerOk h
  | .charge h _ _ => headerOk h
  | .getSlateStatus h => headerOk h
  | .calStart h _ _ _ => headerOk h
  | .calPoint h _ _ _ => headerOk h
  | .calCommit h => headerOk h
  | .calCancel h => headerOk h
  | .calCellGain h _ _ _ => headerOk h
  | .calTaps h _ _ => headerOk h
  | .setTapResistance h _ _ _ => headerOk h
  | .getCalibration h _ _ _ => headerOk h
  | .calErase h _ _ _ => headerOk h
  | .setOpenTap h _ _ _ => headerOk h
  | .probeTap h _ _ => headerOk h
  | .getSenseStatus h => headerOk h
  | .runMatrixTest h _ => headerOk h
  | .runLeakageTest h _ _ _ => headerOk h
  | .setThermistors h _ _ _ _ => headerOk h
  | .setSpans h _ => headerOk h
  | .setGoal h _ _ _ _ _ => headerOk h
  | .setCellCapacity h _ _ => headerOk h
  | .setChargeGoal h _ _ => headerOk h
  | .setBalanceMode h _ => headerOk h
  | .dollyOrder h _ _ _ _ _ _ _ => headerOk h
  | .setDollyLimits h _ _ _ => headerOk h
  | .setDerating h _ _ => headerOk h
  | .setSleepBalance h _ _ _ _ _ _ => headerOk h
  | .getPlan h _ => headerOk h
  | .getBalanceStatus h _ => headerOk h
  | .defineSession h _ _ _ _ _ _ _ _ _ => headerOk h
  | .startSession h _ => headerOk h
  | .getSessionStatus h => headerOk h
  | .readPoints h _ _ => headerOk h
  | .setTempCoeffs h _ _ _ => headerOk h
  | .setImpedanceMode h _ => headerOk h
  | .modulateOrder h _ _ _ _ _ _ _ => headerOk h
  | .enumerate h _ => headerOk h
  | .getChainMap h _ _ => headerOk h
  | .getLinkStatus h => headerOk h
  | .setTimebase h _ _ => headerOk h
  | .setPlacement h _ _ => headerOk h
  | .setRadio h _ _ _ => headerOk h
  | .radioRekey h => headerOk h
  | .setService h _ _ => headerOk h
  | .getRadioStatus h _ _ => headerOk h
  | .readMetro h _ _ => headerOk h
  | .signStatement h _ => headerOk h
  | .setDisplay h _ _ => headerOk h
  | .readEvents h _ _ => headerOk h
  | .getMetroStatus h => headerOk h
  | .setCurrentSource h _ => headerOk h
  | .safetyLogin h _ _ => headerOk h
  | .safetyLogout h _ => headerOk h
  | .safetyConfigRead h _ => headerOk h
  | .safetyConfigStage h _ _ _ => headerOk h
  | .safetyConfigCommit h _ _ => headerOk h
  | .setPassword h _ _ _ => headerOk h
  | .soCommand h _ _ _ => headerOk h
  | .safetyDecide h _ _ => headerOk h
  | .getSafetyStatus h => headerOk h
  | .readChangeLog h _ _ => headerOk h
  | .crashRelease h _ _ => headerOk h
  | .faultRead h _ _ _ => headerOk h
  | .faultClear h _ _ _ => headerOk h
  | .getFaultStatus h => headerOk h
  | .setReaction h _ _ _ => headerOk h
  | .getReaction h _ _ => headerOk h
  | .faultForce h _ _ _ _ _ _ => headerOk h
  | .injectCheck h _ _ _ _ => headerOk h
  | .wdConfig h _ _ _ _ => headerOk h
  | .wdStatus h => headerOk h
  | .getEvidence h _ => headerOk h
  | .faultDecide h _ _ => headerOk h
  | .setReactionMode h _ => headerOk h
  | .getCheckpoints h => headerOk h
  | .dailiesRead h _ _ _ => headerOk h
  | .dailiesStatus h => headerOk h
  | .dailiesMark h _ => headerOk h
  | .updateBegin h _ _ => headerOk h
  | .updateData h _ _ => headerOk h
  | .updateVerify h => headerOk h
  | .updateCancel h => headerOk h
  | .activate h _ _ _ => headerOk h
  | .getUpdateStatus h => headerOk h
  | .setActivationMode h _ => headerOk h
  | .enterRecovery h _ => headerOk h
  | .setCustomerKey h _ _ => headerOk h
  | .getLifecycle h => headerOk h
  | .lcAdvance h _ _ _ => headerOk h
  | .returnChallenge h _ => headerOk h
  | .enterReturn h _ _ => headerOk h
  | .lcScrap h _ _ _ => headerOk h
  | .lbistRun h _ _ _ => headerOk h
  | .spiRead addr len hdrCrc clocks => uOk 16 addr && uOk 16 len && uOk 16 hdrCrc && uOk 32 clocks
  | .spiWrite addr len hdrCrc _ dataCrc clocks => uOk 16 addr && uOk 16 len && uOk 16 hdrCrc && uOk 16 dataCrc && uOk 32 clocks
  | .quadRead addr len hdrCrc clocks => uOk 16 addr && uOk 16 len && uOk 16 hdrCrc && uOk 32 clocks
  | .quadWrite addr len hdrCrc _ dataCrc clocks => uOk 16 addr && uOk 16 len && uOk 16 hdrCrc && uOk 16 dataCrc && uOk 32 clocks
  | .registerWrite addr _ => uOk 16 addr
  | .doorbellIn n => uOk 2 n
  | .mailboxTakeFrame => true
  | .replyWrite n => uOk 2 n
  | .doorbellOutack n => uOk 2 n
  | .rawresCodeRead => true
  | .rawresTagRead => true
  | .rawResultArrival code input die sweep _ _ _ => uOk 16 code && uOk 5 input && dieOk die && uOk 5 sweep
  | .urggo => true
  | .urgclr => true
  | .urgentRequestArrival die => dieOk die
  | .urgentConversion _ => true
  | .wdaWrite token _ => uOk 32 token
  | .wdTimeout => true
  | .abortWrite word => uOk 32 word
  | .operationAbortStop prio tag => uOk 2 prio && uOk 16 tag
  | .strrdWrite value => uOk 32 value
  | .swrstWrite value => uOk 32 value
  | .rstnAssert => true
  | .rstnRelease => true
  | .rstnStuck => true
  | .rstnIgnoreEnd => true
  | .partStart _ => true
  | .studioReady _ => true
  | .shutdownSequence _ => true
  | .lbistSupervisionResume silent => silent.all dieOk
  | .scrubStep _ _ => true
  | .scrubDue => true
  | .wake code => uOk 8 code
  | .vlvLow mv => uOk 16 mv
  | .vlvBrownOut mv => uOk 16 mv
  | .vlvReturn mv => uOk 16 mv
  | .monitorBurst => true
  | .ringBurst dies => dies.all dieOk
  | .guardPass die _ => dieOk die
  | .studioSleep => true
  | .sleepCheck die _ _ => dieOk die
  | .clock32kFault => true
  | .pllLock => true
  | .pllUnlock which => uOk 2 which
  | .housekeepingRound die _ _ _ => dieOk die
  | .thermalLevel die level _ => dieOk die && uOk 3 level
  | .thermalRestart die => dieOk die
  | .segmentSupplyLow die => dieOk die
  | .segmentSupplyRestart die => dieOk die
  | .coreSupplyReset die => dieOk die
  | .modeSwitchTakesEffect => true
  | .clapPinEdge _ => true
  | .scheduleSend => true
  | .clapper _ => true
  | .quietGate die dolly input _ => dieOk die && dollyOk dolly && uOk 8 input
  | .sweepEnd => true
  | .clapPinSilent => true
  | .selftestStart die => dieOk die
  | .selftestEnd die _ _ _ => dieOk die
  | .refokChange die ref _ => dieOk die && uOk 2 ref
  | .refStartTimeout die ref => dieOk die && uOk 2 ref
  | .statusWordTimer die => dieOk die
  | .guardGroup die _ => dieOk die
  | .historyRecordWrite => true
  | .chargePresetApply => true
  | .dieBlock die _ => dieOk die
  | .slatePublish => true
  | .continuityWindowClose die => dieOk die
  | .continuityVerdict die _ => dieOk die
  | .commitNotice => true
  | .windowIncomplete die => dieOk die
  | .openWindowFinish die _ => dieOk die
  | .verdictTimeout => true
  | .calTapsStepEnd _ => true
  | .flashStepComplete => true
  | .openTapProbeStart die _ _ => dieOk die
  | .openTapVerdict die _ _ _ => dieOk die
  | .refXcheckBlock die => dieOk die
  | .matrixTestStep die group vcs seen => dieOk die && uOk 8 group && uOk 32 vcs && uOk 32 seen
  | .leakageTestEnd die group v0 v1 => dieOk die && uOk 8 group && uOk 32 v0 && uOk 32 v1
  | .groupTestDue die group => dieOk die && uOk 8 group
  | .plannerPrepare => true
  | .dollyApplyItem die dolly => dieOk die && dollyOk dolly
  | .dollyLeaseExpired die dolly _ loss => dieOk die && dollyOk dolly && uOk 32 loss
  | .transferLimitEnd die dolly _ loss => dieOk die && dollyOk dolly && uOk 32 loss
  | .dollyOvercurrent die dolly => dieOk die && dollyOk dolly
  | .dollyRegulation die dolly => dieOk die && dollyOk dolly
  | .dollySpanVoltage die dolly mv => dieOk die && dollyOk dolly && uOk 16 mv
  | .dollyNoTransfer die dolly => dieOk die && dollyOk dolly
  | .dollyDriverSupply die => dieOk die
  | .dollyCheckTransferEnd die dolly _ => dieOk die && dollyOk dolly
  | .dollyThermalResume die => dieOk die
  | .sleepBalanceWake die => dieOk die
  | .sleepTakeEnd die _ _ => dieOk die
  | .sleepTakeRepeat die => dieOk die
  | .sleepAwakeLimit die => dieOk die
  | .pointReadbackWrite => true
  | .modulateOrderEnd die dolly measured _ => dieOk die && dollyOk dolly && uOk 32 measured
  | .lockinBlock _ => true
  | .enumerationTimeout => true
  | .clapperEvent die => dieOk die
  | .ringPackTime die _ => dieOk die
  | .ringCurrentSample time _ _ => uOk 64 time
  | .ringConfigurationMessage die _ => dieOk die
  | .statusWord die _ _ => dieOk die
  | .faultMessage _ => true
  | .ringInputLost die => dieOk die
  | .ringLoss => true
  | .fullSlateFrame f payload => frameOk f && decide (payload.length ≤ 1024)
  | .compactSlateFrame f payload => frameOk f && decide (payload.length ≤ 1024)
  | .commitNoticeFrame f payload => frameOk f && decide (payload.length ≤ 1024)
  | .otherStreamRecordFrame f rtype payload => frameOk f && uOk 8 rtype && decide (payload.length ≤ 1024)
  | .mailboxCommandFrame f prio payload => frameOk f && uOk 2 prio && decide (payload.length ≤ 1024)
  | .mailboxReplyFrame f prio payload => frameOk f && uOk 2 prio && decide (payload.length ≤ 1024)
  | .faultRecordFrame f payload => frameOk f && decide (payload.length ≤ 1024)
  | .superframeFrame f sfnum master count _ admitMask placeb rsf _ => frameOk f && uOk 32 sfnum && uOk 8 master && uOk 8 count && uOk 32 admitMask && uOk 32 placeb && uOk 32 rsf
  | .heartbeat f state queue ports => frameOk f && uOk 16 state && uOk 32 queue && uOk 8 ports
  | .join f uid chainId addr position => frameOk f && uOk 64 uid && uOk 32 chainId && uOk 16 addr && uOk 8 position
  | .enumeration f chainId next expect port => frameOk f && uOk 32 chainId && uOk 8 next && uOk 8 expect && uOk 1 port
  | .scheduleFrame f _ => frameOk f
  | .bulkFrame f stream tid offset _ => frameOk f && uOk 8 stream && uOk 8 tid && uOk 32 offset
  | .configurationFrame f kind value time => frameOk f && uOk 8 kind && uOk 128 value && uOk 64 time
  | .clapSet time _ _ => uOk 64 time
  | .currentSet src time _ _ => uOk 8 src && uOk 64 time
  | .syncSet time correction port hops _ _ => uOk 64 time && uOk 24 correction && uOk 1 port && uOk 8 hops
  | .alarmSet src _ time _ => uOk 8 src && uOk 64 time
  | .delayReq port time => uOk 1 port && uOk 64 time
  | .delayResp port time delay => uOk 1 port && uOk 64 time && uOk 32 delay
  | .delayMeasurement => true
  | .superframeStart spare => uOk 32 spare
  | .timePortChange => true
  | .packtimeUnlocked => true
  | .timeMasterTakeover => true
  | .packtimeRefLost => true
  | .packTimeSave => true
  | .noticeGapTimeout => true
  | .linkDown port => uOk 1 port
  | .linkUp port => uOk 1 port
  | .packageLost addr => uOk 16 addr
  | .radioSlot => true
  | .radioBeacon src counter _ time chainId => uOk 8 src && uOk 32 counter && uOk 64 time && uOk 32 chainId
  | .radioAlarmFrame src counter _ _ time => uOk 8 src && uOk 32 counter && uOk 64 time
  | .radioDataFrame src counter _ stream tid offset _ => uOk 8 src && uOk 32 counter && uOk 8 stream && uOk 8 tid && uOk 32 offset
  | .radioAcknowledgement src _ => uOk 8 src
  | .registerReadRequest addr len => uOk 16 addr && uOk 16 len
  | .statementRequest regid time => uOk 8 regid && uOk 64 time
  | .displayRequest param _ => uOk 8 param
  | .metroAnswer => true
  | .metroWithdrawn => true
  | .legalSample _ _ => true
  | .streamFrame _ _ _ _ _ _ => true
  | .metroStreamLost => true
  | .metroRestored => true
  | .mstatusPoll => true
  | .mStart cause failed _ swid => uOk 8 cause && uOk 8 failed && uOk 32 swid
  | .mPeriodicCheck failed _ => uOk 8 failed
  | .mIdleTimeout => true
  | .mDormantTimeout => true
  | .mWake _ => true
  | .journalStore => true
  | .powerFailStore => true
  | .metroCalRead addr len => uOk 16 addr && uOk 16 len
  | .metroCalPoint input _ => uOk 8 input
  | .metroCalPointDone input => uOk 1 input
  | .calStore => true
  | .setAuthority _ => true
  | .sealMetro => true
  | .unsealMetro _ => true
  | .mTestAccess _ => true
  | .safetyConfigApply => true
  | .sessionTimeout head => uOk 1 head
  | .loginLockEnd => true
  | .testPulse feed _ _ => uOk 1 feed
  | .safetyChannelChange input channel _ => uOk 8 input && uOk 1 channel
  | .siDiscrepancy input => uOk 8 input
  | .tpOverload feed => uOk 1 feed
  | .hvilSlot inPulse inOff _ => uOk 8 inPulse && uOk 8 inOff
  | .soFeedbackCheck output _ => uOk 2 output
  | .offPulseTest output => uOk 2 output
  | .offPulseTestEnd output _ _ => uOk 2 output
  | .safetyClockCheck _ => true
  | .graceExpired die cell _ => dieOk die && uOk 8 cell
  | .forceHoldEnd source => uOk 16 source
  | .infoRecordClose source => uOk 16 source
  | .checkpointCheckIn task => uOk 4 task
  | .checkpointWindowEnd pc => uOk 32 pc
  | .mpuViolation region access => uOk 4 region && uOk 8 access
  | .sramEccError ram addr _ _ => uOk 1 ram && uOk 16 addr
  | .keeperWatchdog pc => uOk 32 pc
  | .dailiesBucketRefill => true
  | .dailiesRecordWrite => true
  | .activationCommitPoint _ => true
  | .activation => true
  | .confirmation _ _ => true
  | .confirmTimeout => true
  | .nonceExpiry => true
  | .testAccessAttempt die => dieOk die
  | .arbitrationWindowClose => true
  | .ringInputReturn die => dieOk die
  | .notLocked => true

/-- Do the parameters of a mailbox command fit its layout and the 244 bytes of a frame, in RETURN or outside it (R63, R521)? -/
def paramsOk (i : Instr) : Bool :=
  match Machine.spelled i with
  | none => true
  | some x => [false, true].any fun r => (Machine.layoutOf r x.1).any fun l =>
      Machine.fits l [] [] x.2.2 && decide ((Machine.writeParams l x.2.2).length ≤ 244)

/-- A well-formed command. -/
def Instr.wf (i : Instr) : Bool := operandsOk i && paramsOk i

end Sys2Proof
end

