-- ==== Sys2Proof/Safety.lean ====
section
/-! DEFINITION. The terms in which the statements speak of a state: what a run keeps, when the port answers, when a command is served,
and the state that an accepted access or a taken command leaves. -/
namespace Sys2Proof.Machine

/-- The port answers, no software-reset key is half written, and the role of the package is settled (R86, R88, R308, R446). -/
def portReady (s : State) : Bool := cUp s && s.port.swrstAt.isNone && (s.chain.isHead || s.chain.badHead)

/-- The state after an accepted transaction, before its effect: XSTAT was sent, PREV reads accepted (R49). -/
def accepted (s : State) : State := setPrev (xstatSent s) 0

/-- The state after an accepted read that returned some bytes (R45, R49). -/
def answeredRead (s : State) (l : List Byte) : State := setPrev (drive (xstatSent s) l (crc16 l)) 0

/-- The engine serves a command: it is its turn, and no status of R71, R73, R308, R501 or R511 turns it away. -/
abbrev served (s : State) (h : Hdr) (op : Nat) : Prop := turn s h op = true ∧ gate s h op = none

/-- The state in which a command has been answered at once. -/
def answeredCmd (s : State) (h : Hdr) (op status : Nat) (result : List Byte) : State := reply (dequeue s h op) h op status result

/-- An operation can be opened: fewer than 8 of its priority are open (R70). -/
abbrev canOpen (s : State) (h : Hdr) : Prop := (s.mail.ops.filter fun o => o.prio == h.prio).length < 8

/-- The state in which a command has opened its operation and answered QUEUED (R70). -/
def openedCmd (s : State) (h : Hdr) (op : Nat) : State :=
  let s := dequeue s h op
  let o : Op := { origin := h.origin, prio := h.prio, tag := h.tag, opcode := op, source := h.target, stop := false }
  reply { s with mail := { s.mail with ops := s.mail.ops ++ [o] } } h op stQueued []

/-- The state in which a switch command has opened its operation and waits for its Take boundary (R32). -/
def waitingSwitch (s : State) (h : Hdr) (op func : Nat) (x : Setting) : State :=
  let u := openedCmd s h op
  { u with mail := { u.mail with
    switches := u.mail.switches ++ [{ hdr := h, opcode := op, setting := x, func := func, acceptedAt := s.now }] } }

/-- No earlier switch of a function waits from the head of a command (R33). -/
abbrev noRival (s : State) (h : Hdr) (func : Nat) : Prop :=
  (s.mail.switches.filter fun w => w.func == func && headOf w.hdr == headOf h) = []

/-- A frame of DeariLink is used: it is intact, not an own one come round, new, and addressed to this package (R296, R300). -/
def freshFrame (s : State) (f : FrameHdr) (type : Nat) : Bool :=
  cUp s && f.goodCrc && !(f.src == s.chain.addr && s.chain.addr != 0) && !s.chain.seen.contains (f.src, type, f.seq) && forMe s f.dest

/-- The state in which a frame has been heard, passed on and noted as used (R300, R315). -/
def takenFrame (s : State) (f : FrameHdr) (type : Nat) (payload : List Byte) : State :=
  remember (passOn (heardFrom s f.src) f type payload) (f.src, type, f.seq)

/-- An express set is used: it is intact, not an own one come round, and new (R298, R300). -/
def freshSet (s : State) (type src : Nat) (key : Nat × Nat) : Bool :=
  cUp s && !(src == s.chain.addr && s.chain.addr != 0) && !s.chain.seen.contains (256 + type, key.1, key.2)

/-- The state in which an express set has been passed on and noted as used (R300). -/
def takenSet (s : State) (type : Nat) (key : Nat × Nat) (body : List Byte) : State :=
  remember (sendSet s type body) (256 + type, key.1, key.2)

/-- The header, the type and the payload of the frame that a row of the chain brings (R296, R297). An enumeration frame is no copy of another
one. -/
def frameOf : Instr → Option (FrameHdr × Nat × List Byte)
  | .fullSlateFrame f p => some (f, 0x01, p)
  | .compactSlateFrame f p => some (f, 0x02, p)
  | .commitNoticeFrame f p => some (f, 0x03, p)
  | .otherStreamRecordFrame f n p => some (f, 0x04, recordBytes n f.src p)
  | .mailboxCommandFrame f _ p => some (f, 0x05, p)
  | .mailboxReplyFrame f _ p => some (f, 0x06, p)
  | .faultRecordFrame f p => some (f, 0x07, p)
  | .superframeFrame f n m k a i z r l => some (f, 0x08, superframeBytes n m k a i z r l)
  | .heartbeat f a q p => some (f, 0x09, heartbeatBytes a q p)
  | .join f u i a p => some (f, 0x0A, le 8 u ++ le 4 i ++ le 1 a ++ le 3 p)
  | .scheduleFrame f l => some (f, 0x0C, l.flatMap (le 8))
  | .bulkFrame f a b o l => some (f, 0x0D, le 1 a ++ le 1 b ++ le 4 o ++ l)
  | .configurationFrame f k v w => some (f, 0x0E, le 1 k ++ zeros 3 ++ le 8 w ++ le 16 v)
  | _ => none

/-- The type, the source, the key and the content of the express set that a row brings, but for SYNC and the measurement of delays
(R298). -/
def setOf : Instr → Option (Nat × Nat × (Nat × Nat) × List Byte)
  | .clapSet a up _ => some (0x10 + b2n (!up), 0, (a % 2 ^ 32, 0), le 4 a)
  | .currentSet a n i _ => some (0x20, a, (n % 2 ^ 32, a), le 1 a ++ le 4 n ++ leInt 4 i)
  | .alarmSet a m n _ => some (0x40, a, (a * 2 ^ 32 + n % 2 ^ 32, m.toNat), le 1 a ++ le 4 m.toNat ++ le 4 n)
  | _ => none

/-- One step of the IEEE CRC-32: the polynomial 0x04C11DB7 with its bits reversed (R64). -/
def crcShift (c : BitVec 32) : BitVec 32 := if c.getLsbD 0 then (c >>> 1) ^^^ (0x04C11DB7 : BitVec 32).reverse else c >>> 1

/-- The dies of a state are the fitted ones, S1 first (R1, R6). -/
def fittedDies (s : State) : Bool := s.segs.map (·.code) == s.part.segCodes

/-- The Studio serves no mailbox in FATAL nor once it is halted (R414, R425). -/
def servesRight (s : State) : Bool := !((s.sup.fatal || s.sup.halted) && s.sup.ready)

/-- What every step keeps: memory in its canonical form, the fitted dies, and a Studio that serves only where it may. -/
def kept (s : State) : Bool := Memory.wf s.mem && fittedDies s && servesRight s

/-- The commands that act in the metrology die: its own events, the accesses on its service port, its three requests, and the loss of its
supply (R17, R333 to R352). -/
def reachesM : Instr → Bool
  | .registerReadRequest _ _ | .statementRequest _ _ | .displayRequest _ _ | .legalSample _ _ | .mstatusPoll | .mStart _ _ _ _
  | .mPeriodicCheck _ _ | .mIdleTimeout | .mDormantTimeout | .mWake _ | .journalStore | .powerFailStore | .metroCalRead _ _
  | .metroCalPoint _ _ | .metroCalPointDone _ | .calStore | .setAuthority _ | .sealMetro | .unsealMetro _ | .mTestAccess _
  | .coreSupplyReset _ => true
  | _ => false

end Sys2Proof.Machine
end

