-- ==== Sys2Proof/Certificates/Slice0/Obligations.lean ====
section
/-! DEFINITION. The statements for the provers. Each docstring says what the statement formalises, with the rules of spec/. -/
open Sys2Proof Sys2Proof.Machine

/-- For every command c and state s, step of s with c at the front of its queue is exec c on s with the queue's rest. -/
def Obligations.StepRunsTheFront : Prop :=
  ∀ (c : Instr) (r : List Instr) (s : State), step { s with pending := c :: r } = exec c { s with pending := r }

/-- While no command waits and no abort is pending, a step is one tick: local time advances by one, and pack time by one; a locked
package with a slew left advances pack time by two or by nothing in every thousandth tick, and its slew shrinks by one. Every die takes
`SegDie.tick` (its copy of pack time and its matrix words), `lapse` drops the Clappers that an unlocked package misses, and nothing else
changes. While no ring input is lost every die copy of pack time moves exactly as pack time does. That an empty queue ticks is the choice
of the model (log entry 1). Rests on R10, R16, R310, R312 and R550. -/
def Obligations.IdleTicks : Prop :=
  ∀ (s : State),
    (s.pending = [] → s.port.abortResult ≠ 1 → s.chain.locked = false ∨ s.chain.slew = 0 ∨ s.now % 1000 ≠ 0 →
       step s = .next ({ s with now := s.now + 1, packTime := s.packTime + 1, sweep := lapse s s.sweep, segs := s.segs.map (SegDie.tick (s.now + 1) 1) })) ∧
    (s.pending = [] → s.port.abortResult ≠ 1 → s.chain.locked = true → 0 < s.chain.slew → s.now % 1000 = 0 →
       step s = .next ({ s with now := s.now + 1, packTime := s.packTime + 2, sweep := lapse s s.sweep, segs := s.segs.map (SegDie.tick (s.now + 1) 2), chain := { s.chain with slew := s.chain.slew - 1 } })) ∧
    (s.pending = [] → s.port.abortResult ≠ 1 → s.chain.locked = true → s.chain.slew < 0 → s.now % 1000 = 0 →
       step s = .next ({ s with now := s.now + 1, packTime := s.packTime + 0, sweep := lapse s s.sweep, segs := s.segs.map (SegDie.tick (s.now + 1) 0), chain := { s.chain with slew := s.chain.slew + 1 } })) ∧
    (s.pending = [] → s.port.abortResult ≠ 1 → (∀ d ∈ s.segs, d.ringLost = false) → ∃ t, step s = .next t ∧ t.now = s.now + 1 ∧
       t.segs.map (fun d => d.packTime) = s.segs.map fun d => d.packTime + (t.packTime - s.packTime))

/-- A single or quad read of the mailboxes or the stream window with a good header and the right number of clocks returns the bytes of
its addresses, which wrap in the window, with their CRC-16; PREV then reads accepted, and nothing else changes but the XSTAT byte sent.
Rests on R45 to R50. -/
def Obligations.ReadsReturnMemory : Prop :=
  ∀ (s : State),
    (∀ (a n r : Nat), portReady s = true → 0 < n → n ≤ 4096 → regionOf a n = some r → r ≠ 0 →
       exec (.spiRead a n (headerCrc true false a n).toNat (clockCount true false n)) s = .next (answeredRead s ((List.range n).map fun k => memRead s.mem (byteAddr r a k)))) ∧
    (∀ (a n r : Nat), portReady s = true → s.port.quadEn = true → 0 < n → n ≤ 4096 → regionOf a n = some r → r ≠ 0 →
       exec (.quadRead a n (headerCrc true true a n).toNat (clockCount true true n)) s = .next (answeredRead s ((List.range n).map fun k => memRead s.mem (byteAddr r a k))))

/-- A read whose header CRC is wrong, with the right number of clocks, returns zeros followed by the complement of their CRC, sets PREV
01 and CRCERR, and is recorded as SPI_CRC (0xD0) with its start address; nothing else changes but the XSTAT byte sent. Rests on R48, R49,
R53 and R89. -/
def Obligations.BadReadHasNoEffect : Prop :=
  ∀ (s : State),
    (∀ (a n k : Nat), portReady s = true → k ≠ (headerCrc true false a n).toNat →
       exec (.spiRead a n k (clockCount true false n)) s = .next (raise ((setPrev (drive (xstatSent s) (zeros n) (~~~(crc16 (zeros n)))) 1).setHpErr 0x100) 0 0 0xD0 a))

/-- A single or quad write into inbound mailboxes whose doorbells are clear, with good CRCs and the right number of clocks, stores its
bytes: each byte of the write reads back, every other address reads as before, and nothing else changes but XSTAT and PREV. Rests on R45,
R46, R48, R49, R50 and R65. -/
def Obligations.WritesFillTheMailbox : Prop :=
  ∀ (s : State),
    (∀ (a : Nat) (data : List Byte), portReady s = true → data ≠ [] → regionOf a data.length = some 1 → writeRefused s a data = false →
       Memory.wf s.mem = true → ∃ t,
       exec (.spiWrite a data.length (headerCrc false false a data.length).toNat data (crc16 data).toNat (clockCount false false data.length)) s = .next t ∧
       t = { accepted s with mem := t.mem } ∧ (∀ k, k < data.length → memRead t.mem (a + k) = data.getD k 0) ∧
       (∀ x, x < a ∨ a + data.length ≤ x → memRead t.mem x = memRead s.mem x)) ∧
    (∀ (a : Nat) (data : List Byte), portReady s = true → s.port.quadEn = true → data ≠ [] → regionOf a data.length = some 1 →
       writeRefused s a data = false → Memory.wf s.mem = true → ∃ t,
       exec (.quadWrite a data.length (headerCrc false true a data.length).toNat data (crc16 data).toNat (clockCount false true data.length)) s = .next t ∧
       t = { accepted s with mem := t.mem } ∧ (∀ k, k < data.length → memRead t.mem (a + k) = data.getD k 0) ∧
       (∀ x, x < a ∨ a + data.length ≤ x → memRead t.mem x = memRead s.mem x))

/-- A write of any bytes within inbound mailbox n while its doorbell bit is 1 is refused: PREV 11, MBWRERR set, a MAILBOX_WRITE_REFUSED
record (0xD2) with the mailbox number, and nothing else, so no byte is stored. Rests on R48, R49, R53, R65 and R89. -/
def Obligations.FullMailboxRefusesWrites : Prop :=
  ∀ (s : State),
    (∀ (a n : Nat) (data : List Byte), portReady s = true → n < 4 → s.mail.doorbell.getLsbD n = true → data ≠ [] →
       0x100 + 256 * n ≤ a → a + data.length ≤ 0x200 + 256 * n →
       exec (.registerWrite a data) s = .next (raise ((setPrev (xstatSent s) 3).setHpErr 0x400) 0 0 0xD2 n))

/-- A write of IRQEN takes its bits 13 to 0; a one in a write of IRQSTAT or HPSTAT clears that W1C bit; HPCFG takes QUADEN and IRQOD;
URGCLR clears URGDROP; OUTACK bit n releases outbound mailbox n; DOORBELL.IN bit n sets that doorbell, and `wakeStudio` wakes a Studio
that MONITOR put to sleep. Nothing else changes but XSTAT and PREV. Rests on R48, R49, R53, R54, R55, R56, R61, R65, R67, R68 and R448. -/
def Obligations.RegisterWritesAct : Prop :=
  ∀ (s : State),
    (∀ (v : BitVec 32), portReady s = true →
       exec (.registerWrite 0x0C (le 4 v.toNat)) s = .next ({ accepted s with port := { (accepted s).port with irqEn := (s.port.irqEn &&& ~~~0x3FFF) ||| (v &&& 0x3FFF) } })) ∧
    (∀ (v : BitVec 32), portReady s = true →
       exec (.registerWrite 0x08 (le 4 v.toNat)) s = .next ({ accepted s with port := { (accepted s).port with irq := s.port.irq &&& ~~~(v &&& 0x2B0F) } })) ∧
    (∀ (v : BitVec 32), portReady s = true →
       exec (.registerWrite 0x04 (le 4 v.toNat)) s = .next ({ accepted s with port := { (accepted s).port with hpErr := s.port.hpErr &&& ~~~(v &&& 0x2F00) } })) ∧
    (∀ (v : BitVec 8), portReady s = true →
       exec (.registerWrite 0x14 [v]) s = .next ({ accepted s with port := { (accepted s).port with quadEn := v.getLsbD 0, irqOd := v.getLsbD 1 } })) ∧
    (portReady s = true → exec (.urgclr) s = .next ({ accepted s with port := { (accepted s).port with urgDrop := 0 } })) ∧
    (∀ (n : Nat), portReady s = true → n < 4 →
       exec (.doorbellOutack n) s = .next ({ accepted s with mail := { s.mail with outFull := s.mail.outFull &&& ~~~(BitVec.ofNat 4 (2 ^ n)) } })) ∧
    (∀ (n : Nat), portReady s = true → n < 4 →
       exec (.doorbellIn n) s = .next (wakeStudio { accepted s with mail := { s.mail with doorbell := s.mail.doorbell ||| BitVec.ofNat 4 (2 ^ n) } }))

/-- The oldest raw result that waits on the ring, which is the one that can arrive (log entry 154), fills an empty holding register, and
sets OVRN where the shadow is open; no other result arrives; a read of the code returns and consumes the held pair, keeps it in RAWLAST
and opens the shadow; a read of the tag returns the shadow and closes it. Nothing else changes but, for the reads, XSTAT and PREV. Rests
on R57 to R60. -/
def Obligations.RawResultPath : Prop :=
  ∀ (s : State),
    (∀ (a n k y : Nat) (u b o : Bool) (r : List (BitVec 32)), cUp s = true → s.ring.raw = rawPair a n k y u b o :: r →
       s.port.rawValid = false →
       exec (.rawResultArrival a n k y u b o) s = .next ({ s with ring := { s.ring with raw := r }, port := { s.port with rawValid := true, rawHold := rawPair a n k y u b o, ovrn := s.port.ovrn || s.port.shadowOpen } })) ∧
    (∀ (a n k y : Nat) (u b o : Bool), cUp s = false ∨ s.ring.raw.head? ≠ some (rawPair a n k y u b o) →
       exec (.rawResultArrival a n k y u b o) s = .next (s)) ∧
    (portReady s = true → s.port.rawValid = true →
       exec (.rawresCodeRead) s = .next ({ answeredRead s (le 2 s.port.rawHold.toNat) with port := { (answeredRead s (le 2 s.port.rawHold.toNat)).port with rawValid := false, rawLast := s.port.rawHold, shadowTag := (s.port.rawHold >>> 16).truncate 16, shadowOpen := true } })) ∧
    (portReady s = true →
       exec (.rawresTagRead) s = .next ({ answeredRead s (le 2 s.port.shadowTag.toNat) with port := { (answeredRead s (le 2 s.port.shadowTag.toNat)).port with shadowOpen := false } }))

/-- URGGO puts a request for a fitted die on its way; the oldest request, which is the one that can arrive (log entry 154), that reaches
a die whose main converter is idle and that does not refuse it is accepted; the oldest accepted request converts: where the input exists
and its reference is valid, the raw holding register, empty before, takes a pair with the code that `convert` gives and the tag of that
die, input and sweep with URG set, and the die keeps the residue. An input without a valid reference gives the code 0x8000. Memory, the
mailboxes and M are unchanged. Rests on R56, R57, R123 and R124. -/
def Obligations.UrgentPath : Prop :=
  ∀ (s : State),
    (portReady s = true → (s.die? s.port.urgDie.toNat).isSome = true →
       exec (.urggo) s = .next ({ accepted s with ring := { s.ring with urgent := s.ring.urgent ++ [(s.port.urgDie.toNat, s.port.urgIn.toNat)] } })) ∧
    (∀ (k x : Nat) (r : List (Nat × Nat)) (d : SegDie), s.ring.urgent = (k, x) :: r → s.die? k = some d → urgRefuses s d = false →
       d.test.heldUrgent = none → d.test.running = false → urgIdle { s with ring := { s.ring with urgent := r } } d = true →
       exec (.urgentRequestArrival k) s = .next ({ s with ring := { s.ring with urgent := r, accepted := s.ring.accepted ++ [(d.code, x)] } })) ∧
    (∀ (k : Nat), s.ring.urgent.head?.map Prod.fst ≠ some k → exec (.urgentRequestArrival k) s = .next (s)) ∧
    (∀ (k x : Nat) (r : List (Nat × Nat)) (d : SegDie) (v : Int), s.ring.accepted = (k, x) :: r → s.die? k = some d →
       d.hasInput x = true → urgRefOk d x = true → s.port.rawValid = false → ∃ t, exec (.urgentConversion v) s = .next t ∧
       t.port.rawValid = true ∧
       t.port.rawHold = rawPair ((convert d x (v * 1000)).code % 65536).toNat x k d.sweepNo true false (decide ((convert d x (v * 1000)).ovr ≠ 0)) ∧
       t.ring.accepted = r ∧ t.metro = s.metro ∧ t.mail = s.mail ∧ t.mem = s.mem) ∧
    (∀ (k x : Nat) (r : List (Nat × Nat)) (d : SegDie) (v : Int), s.ring.accepted = (k, x) :: r → s.die? k = some d →
       d.hasInput x = false ∨ urgRefOk d x = false → s.port.rawValid = false →
       exec (.urgentConversion v) s = .next ({ s with ring := { s.ring with accepted := r }, port := { s.port with rawValid := true, rawHold := rawPair 0x8000 x k d.sweepNo true false false, ovrn := s.port.ovrn || s.port.shadowOpen } }))

/-- A two-byte write of a value to STRRD whose low 12 bits are a multiple of 4 from the current STRRD up to STRWR is accepted and moves
STRRD; with any other low 12 bits it is refused, sets PREV 11 and PTRERR, is recorded as STREAM_POINTER (0xD9) with the value written,
and leaves STRRD. Nothing else changes but XSTAT and PREV. Rests on R12, R49, R53, R80 and R89. -/
def Obligations.StreamPointer : Prop :=
  ∀ (s : State),
    (∀ (v : Nat), portReady s = true → v < 65536 → v % 4 = 0 → (BitVec.ofNat 12 v - s.port.strRd).toNat ≤ pendingBytes s →
       exec (.strrdWrite v) s = .next ({ accepted s with port := { (accepted s).port with strRd := BitVec.ofNat 12 v } })) ∧
    (∀ (v : Nat), portReady s = true → v < 65536 → v % 4 ≠ 0 ∨ pendingBytes s < (BitVec.ofNat 12 v - s.port.strRd).toNat →
       exec (.strrdWrite v) s = .next (raise ((setPrev (xstatSent s) 3).setHpErr 0x800) 0 0 0xD9 v))

/-- A write to ABORT with GO makes the abort pending with its tag (RESULT 1); while it is pending every write to ABORT is refused with
PREV 11 and changes nothing else. At the end of an engine cycle, in a step on an empty queue, an abort whose frame is not in its inbound
mailbox, while no command waits and no order is held, marks the named open operation of this head to stop and gives RESULT 2 with the tag
and ABORT_DONE, or, where no operation and no reply is there, gives RESULT 3. A marked operation outside a flash step and a committed
activation, with no session running, drops its work (`cancelWork`) and replies ABORTED. That the answer comes at the end of the engine
cycle is the choice of the model (log entry 126). Rests on R29, R81 and R82. -/
def Obligations.AbortOfAnOperation : Prop :=
  ∀ (s : State),
    (∀ (p k : Nat), portReady s = true → p < 4 → k < 65536 → s.port.abortResult ≠ 1 →
       exec (.abortWrite (2 ^ 31 + 65536 * p + k)) s = .next ({ accepted s with port := { (accepted s).port with abortTag := BitVec.ofNat 16 k, abortPrio := BitVec.ofNat 2 p, abortResult := 1, abortStatTag := BitVec.ofNat 16 k } })) ∧
    (∀ (w : Nat), portReady s = true → s.port.abortResult = 1 → exec (.abortWrite w) s = .next (setPrev (xstatSent s) 3)) ∧
    (∀ (o : Op), s.pending = [] → s.port.abortResult = 1 → s.now % 2 = 1 → s.mail.doorbell.getLsbD s.port.abortPrio.toNat = false →
       s.mail.waiting = [] → s.mail.arb = [] →
       ((s.mail.ops.find? fun o => o.origin == 0 && o.prio == s.port.abortPrio.toNat && o.tag == s.port.abortTag.toNat) = some o) →
       ∃ t, step s = .next t ∧ t.port.abortResult = 2 ∧ t.port.abortStatTag = s.port.abortTag ∧
       t.port.irq = s.port.irq ||| irqAbortDone ∧
       t.mail = { s.mail with ops := upd s.mail.ops (fun x => x == o) fun x => { x with stop := true } } ∧ t.metro = s.metro ∧
       t.nv = s.nv ∧ t.mem = s.mem) ∧
    (s.pending = [] → s.port.abortResult = 1 → s.now % 2 = 1 → s.mail.doorbell.getLsbD s.port.abortPrio.toNat = false →
       s.mail.waiting = [] → s.mail.arb = [] → s.mail.ops = [] → s.mail.replies = [] → ∃ t, step s = .next t ∧
       t.port.abortResult = 3 ∧ t.port.abortStatTag = s.port.abortTag ∧ t.port.irq = s.port.irq ||| irqAbortDone ∧
       t.mail = s.mail ∧ t.metro = s.metro ∧ t.nv = s.nv ∧ t.mem = s.mem) ∧
    (∀ (p k : Nat) (o : Op), ((s.mail.ops.find? fun o => o.stop && o.prio == p && o.tag == k) = some o) → inFlashStep s o.hdr = false →
       isCommitted s o.hdr = false → s.imp.run = none →
       exec (.operationAbortStop p k) s = .next (completeOp (cancelWork s o.hdr) o.hdr stAborted []))

/-- A good frame for this package from the next pending mailbox, whose command no status turns away and whose parameters have the form of
its opcode, enters the queue of waiting commands while no second head is known; its inbound mailbox then reads zeros, its doorbell is
clear, and every other byte of memory, the port and M stay. A frame with a bad check value, a non-zero reserved byte, a TARGET above 32
or the TAG of an open operation of this head is taken too, completes with FRAME_INVALID and is recorded as FRAME_INVALID (0xD3) with its
TAG. While no reply for another head waits, the oldest reply of a priority fills its outbound mailbox when that is free, sets its REPLY
bit and leaves the queue of replies. When arbitration windows close, every held order whose window is over is closed (`closeArb`), and
the orders whose window overlaps no open one are forgotten; of one order held alone this means that it enters the queue, and of two of
which one loses (`losesTo`), the loser completes with CONFLICT, is recorded as CONFLICT (0xD7) with its opcode, and the other enters the
queue. Choices of the model: what the losing order is compared with (log entry 127). Rests on R84, R65, R66, R67, R69, R72, R85 and R89. -/
def Obligations.MailboxTakesAFrame : Prop :=
  ∀ (s : State),
    (∀ (n : Nat) (f : Frame) (l : List Fld) (v : List Val), cUp s = true → nextMailbox s = some n →
       readFrame (memReadList s.mem (0x100 + 256 * n) 256) = f → frameBad s f = false → f.target = 0 ∨ f.target = s.chain.addr →
       layoutOf (decide (s.life.state = 4)) f.op = some l →
       gate s { origin := 0, prio := n, tag := f.tag, target := f.target } f.op = none → readParams l [] [] f.params = some v →
       twoHeads s = false →
       exec (.mailboxTakeFrame) s = .next (enqueue (clearInbound s n) { origin := 0, prio := n, tag := f.tag, target := f.target } f.op f.params)) ∧
    (∀ (n : Nat) (f : Frame) (l : List Fld) (v : List Val), cUp s = true → nextMailbox s = some n →
       readFrame (memReadList s.mem (0x100 + 256 * n) 256) = f → frameBad s f = false → f.target = 0 ∨ f.target = s.chain.addr →
       layoutOf (decide (s.life.state = 4)) f.op = some l →
       gate s { origin := 0, prio := n, tag := f.tag, target := f.target } f.op = none → readParams l [] [] f.params = some v →
       twoHeads s = false → Memory.wf s.mem = true → ∃ t, exec (.mailboxTakeFrame) s = .next t ∧
       t.mail.doorbell.getLsbD n = false ∧ (∀ k, k < 256 → memRead t.mem (0x100 + 256 * n + k) = 0) ∧
       (∀ x, x < 0x100 + 256 * n ∨ 0x200 + 256 * n ≤ x → memRead t.mem x = memRead s.mem x) ∧ t.metro = s.metro ∧ t.port = s.port) ∧
    (∀ (n : Nat) (f : Frame), cUp s = true → nextMailbox s = some n → readFrame (memReadList s.mem (0x100 + 256 * n) 256) = f →
       (f.crcGood = false ∨ f.reserved ≠ 0 ∨ 32 < f.target ∨ (s.mail.ops.any fun o => o.origin == 0 && o.tag == f.tag) = true) →
       exec (.mailboxTakeFrame) s = .next (raise (reply (clearInbound s n) (ownHdr s { origin := 0, prio := n, tag := f.tag, target := f.target }) f.op stFrameInvalid []) 0 0 0xD3 f.tag)) ∧
    (∀ (n : Nat) (r : Reply), cUp s = true → n < 4 → s.mail.outFull.getLsbD n = false →
       ((s.mail.replies.filter fun r => r.origin != 0 && r.prio == n) = []) → nextReply s n = some r → ∃ t,
       exec (.replyWrite n) s = .next t ∧ t.mem = memWriteList s.mem (0x500 + 256 * n) (replyBytes r) ∧
       t.mail = { s.mail with replies := s.mail.replies.erase r, outFull := s.mail.outFull ||| BitVec.ofNat 4 (2 ^ n) } ∧
       t.power = { s.power with lastReply := s.now } ∧ t.port = s.port ∧ t.metro = s.metro ∧ t.nv = s.nv ∧ t.faults = s.faults) ∧
    (exec (.arbitrationWindowClose) s = .next (let u := (s.mail.arb.filter fun x => x.closed.isNone && windowOver s x).foldl closeArb s; { u with mail := { u.mail with arb := u.mail.arb.filter fun x => x.closed.isNone || u.mail.arb.any fun y => y.closed.isNone && overlaps x y } })) ∧
    (∀ (a : Arb), s.mail.arb = [a] → a.held = true → a.closed = none → windowOver s a = false →
       exec (.arbitrationWindowClose) s = .next (s)) ∧
    (∀ (a : Arb), s.mail.arb = [a] → a.held = true → a.closed = none → windowOver s a = true →
       exec (.arbitrationWindowClose) s = .next (enqueue { s with mail := { s.mail with arb := [] } } a.hdr a.opcode a.params)) ∧
    (∀ (a b : Arb), s.mail.arb = [a, b] → a.held = true → b.held = true → a.closed = none → b.closed = none → windowOver s a = true →
       windowOver s b = true → losesTo s a b = true → losesTo s b a = false →
       exec (.arbitrationWindowClose) s = .next ((fun u => { u with mail := { u.mail with arb := [] } }) (enqueue (raise (refuse { s with mail := { s.mail with arb := [{ a with held := false, closed := some s.now }, b] } } a.hdr a.opcode stConflict) 0 0 0xD7 a.opcode) b.hdr b.opcode b.params)))

/-- While the watchdog is armed: the token of R421 written whole from 0.4 P to P after the period start is accepted: GOOD goes up, the
time of the last good answer is now, a new question, never 0 and different from the last, starts a period with the settings that wait,
and IRQSTAT.WDQ is set, with memory, M, the records and the safety configuration unchanged. A write of all four bytes with another value
in that time gives `wdFault` with WD_WRONG_TOKEN (0x81) and SEQ, any write before it `wdFault` with WD_EARLY (0x82) and the milliseconds
since the period start, and the end of a period without an accepted answer `wdFault` with WD_TIMEOUT (0x80) and SEQ; `wdFault` captures
the evidence, raises the kind with that detail and issues a new question. While the watchdog is disarmed a write changes only XSTAT and
PREV. Rests on R62, R420, R421, R422 and R427. -/
def Obligations.WatchdogAnswers : Prop :=
  ∀ (s : State),
    (portReady s = true → s.wd.armed = true → wdOpens s ≤ wdElapsed s → wdElapsed s ≤ wdCloses s → ∃ t,
       exec (.wdaWrite (wdToken s.wd) true) s = .next t ∧ t.wd.question ≠ s.wd.question ∧ t.wd.question ≠ 0 ∧
       t.wd = { s.wd with good := sat 16 (s.wd.good + 1), lastGood := s.packTime, question := t.wd.question, seq := s.wd.seq + 1, start := s.packTime, period := s.wd.nextPeriod, seed := s.wd.nextSeed } ∧
       t.port.irq = s.port.irq ||| irqWdq ∧ t.safety = s.safety ∧ t.faults = s.faults ∧ t.mem = s.mem ∧ t.metro = s.metro) ∧
    (∀ (k : Nat), portReady s = true → s.wd.armed = true → wdOpens s ≤ wdElapsed s → wdElapsed s ≤ wdCloses s → k < 2 ^ 32 →
       k ≠ wdToken s.wd → exec (.wdaWrite k true) s = .next (wdFault (accepted s) 0x81 s.wd.seq.toNat (studioPc s))) ∧
    (∀ (k : Nat) (whole : Bool), portReady s = true → s.wd.armed = true → wdElapsed s < wdOpens s →
       exec (.wdaWrite k whole) s = .next (wdFault (accepted s) 0x82 (wdElapsed s / msT) (studioPc s))) ∧
    (∀ (k : Nat) (whole : Bool), portReady s = true → s.wd.armed = false → exec (.wdaWrite k whole) s = .next (accepted s)) ∧
    (cUp s = true → s.wd.armed = true → wdCloses s ≤ wdElapsed s →
       exec (.wdTimeout) s = .next (wdFault s 0x80 s.wd.seq.toNat (studioPc s)))

/-- While no sequence is open, a write of 0xC1A9 to SWRST opens one and any other value is recorded as SWRST_SEQUENCE (0xD8) with that
value. While one is open, 0x3E56 within 1 ms is a part reset with wake cause 1: M, the flash and pack time stay, the mailboxes, the
watchdog, the safety stage, the memory of the port and IRQSTAT are as after reset, and every die is as after its start; 0xC1A9 records
SWRST_SEQUENCE and opens a new sequence; any other value, or 0x3E56 after more than 1 ms, discards the sequence and records
SWRST_SEQUENCE. Rests on R29, R41, R86, R88, R89 and R452. -/
def Obligations.ResetKey : Prop :=
  ∀ (s : State),
    (portReady s = true →
       exec (.swrstWrite 0x0000C1A9) s = .next ({ accepted s with port := { (accepted s).port with swrstAt := some s.now } })) ∧
    (∀ (k : Tick), cUp s = true → s.chain.isHead = true → s.port.swrstAt = some k → s.now ≤ k + msT →
       exec (.swrstWrite 0x00003E56) s = .next (partReset (accepted s) 1)) ∧
    (∀ (k : Tick), cUp s = true → s.chain.isHead = true → s.port.swrstAt = some k → s.now ≤ k + msT → ∃ t,
       exec (.swrstWrite 0x00003E56) s = .next t ∧ t.metro = s.metro ∧ t.nv = s.nv ∧ t.packTime = s.packTime ∧
       t.aon.wakeCause = 1 ∧ t.stage = Stage.reset ∧ t.mail = Mail.reset ∧ t.port.irq = Port.reset.irq ∧ t.wd = Watchdog.reset ∧
       t.mem = [] ∧ t.segs = s.segs.map (dieStart s)) ∧
    (∀ (v : Nat), cUp s = true → s.chain.isHead = true → s.port.swrstAt = none → v < 2 ^ 32 → v ≠ 0xC1A9 →
       exec (.swrstWrite v) s = .next (raise (accepted s) 0 0 0xD8 v)) ∧
    (∀ (k : Tick), cUp s = true → s.chain.isHead = true → s.port.swrstAt = some k →
       exec (.swrstWrite 0x0000C1A9) s = .next ((fun u => { u with port := { u.port with swrstAt := some s.now } }) (swrstBreak (accepted s) 0xC1A9))) ∧
    (∀ (k : Tick) (v : Nat), cUp s = true → s.chain.isHead = true → s.port.swrstAt = some k → v < 2 ^ 32 → v ≠ 0xC1A9 →
       v ≠ 0x3E56 ∨ k + msT < s.now → exec (.swrstWrite v) s = .next (swrstBreak (accepted s) v))

/-- A low that passed the filter while RSTN is not ignored holds the port in reset: M, the flash and pack time stay, the safety stage is
as after reset, every die is as after its start and IRQSTAT is as after reset; while RSTN is ignored a low only marks the pin low and
restarts the count. When RSTN rises the reset ends. A part still in reset with RSTN low for 200 ms leaves reset, sets RSTNIGN and
RSTNSTUCK and raises RSTN_STUCK (0xD6). RSTN high for 20 ms without a break while it is ignored clears RSTNIGN. Rests on R29, R41, R86,
R87 and R89. -/
def Obligations.ResetPin : Prop :=
  ∀ (s : State),
    (s.port.rstnLow = false → s.port.rstnIgn = false → ∃ t, exec (.rstnAssert) s = .next t ∧ t.port.inReset = true ∧
       t.port.rstnLow = true ∧ t.port.rstnEdge = s.now ∧ t.metro = s.metro ∧ t.nv = s.nv ∧ t.packTime = s.packTime ∧
       t.stage = Stage.reset ∧ t.segs = s.segs.map (dieStart s) ∧ t.port.irq = Port.reset.irq) ∧
    (s.port.rstnLow = false → s.port.rstnIgn = true →
       exec (.rstnAssert) s = .next ({ s with port := { s.port with rstnLow := true, rstnEdge := s.now } })) ∧
    (s.port.rstnLow = true →
       exec (.rstnRelease) s = .next ({ s with port := { s.port with rstnLow := false, rstnEdge := s.now, inReset := false } })) ∧
    (s.port.inReset = true → s.port.rstnLow = true → s.port.rstnEdge + 200 * msT ≤ s.now →
       exec (.rstnStuck) s = .next (raise ({ s with port := { s.port with inReset := false, rstnIgn := true } }.setHpErr 0x2000) 0 0 0xD6 0)) ∧
    (s.port.rstnIgn = true → s.port.rstnLow = false → s.port.rstnEdge + 20 * msT ≤ s.now →
       exec (.rstnIgnoreEnd) s = .next ({ s with port := { s.port with rstnIgn := false } }))

/-- A start that finds both slots of the Keeper and of the Studio and the boot sectors good, with no pending set, no recovery and no
record carried, runs the active places and goes on as `keeperStart` says. A start that finds both Keeper slots bad, with no pending set,
runs Tadpole: RECOVERY is 1, KEEPER and READY are 0, and M is unchanged. When the Studio that the Keeper started is ready, READY and
IRQSTAT.READY are set, and M, memory, the safety configuration and the watchdog are unchanged. ACTIVATE in Tadpole answers REJECTED_STATE
for AT or SCOPE not 0, NOT_VERIFIED with no verified KEEPER or STUDIO image, else makes those images the pending set (`commitBoot`) and
resets the part. ENTER_RECOVERY answers AUTH_FAILED without an accepted proof, REJECTED_STATE with BOOTREC low, else sets the flag and
resets the part after its reply (log entry 43). CONFIRMATION of an unconfirmed set, healthy, with the Studio ready, makes the running
places active, clears PENDING, BOOTCOUNT, ACTAT and MIGRATE, sets ROLLIDX of each target of the set, stops the timer, raises 0xBA and
ends the ACTIVATE (`finishActivate`). CONFIRM_TIMEOUT, once the timer of an unconfirmed set is over, raises 0xB4 with BOOTCOUNT and
counts a failed attempt (`attemptFailed`); at BOOTCOUNT 3 a Studio-level set falls back: PENDING is 0, the active places run, and ACTIVE,
ROLLIDX, VERIFIED and M stay. Else neither changes anything. Rests on R388, R445, R480, R481, R488, R494 to R498, R500 to R505. -/
def Obligations.PartStarts : Prop :=
  ∀ (s : State),
    (∀ (b : BootFindings), cUp s = true → s.sup.keeper = false → s.sup.recovery = false → s.nv.boot.pending = 0 →
       (s.aon.recoveryFlag && b.bootrec) = false → nth b.keeperGood 0 true = true → nth b.keeperGood 1 true = true →
       nth b.studioGood 0 true = true → nth b.studioGood 1 true = true → s.aon.carried = [] → (∀ d ∈ s.segs, d.aonRecs = []) →
       b.bootSectorGood = [] →
       exec (.partStart b) s = .next (keeperStart { s with aon := { s.aon with bootrec := b.bootrec }, fw := { s.fw with running := s.nv.boot.active } } b)) ∧
    (∀ (b : BootFindings), cUp s = true → s.sup.keeper = false → s.sup.recovery = false → s.nv.boot.pending = 0 →
       nth b.keeperGood 0 true = false → nth b.keeperGood 1 true = false → ∃ t, exec (.partStart b) s = .next t ∧
       t.sup.recovery = true ∧ t.sup.keeper = false ∧ t.sup.ready = false ∧ t.metro = s.metro) ∧
    (cUp s = true → s.sup.keeper = true → s.sup.ready = false → s.sup.halted = false → s.sup.fatal = false → s.sup.recovery = false →
       ∃ t, exec (.studioReady true) s = .next t ∧ t.sup.ready = true ∧ t.sup.stopped = false ∧
       t.port.irq = s.port.irq ||| irqReady ∧ t.metro = s.metro ∧ t.mem = s.mem ∧ t.safety = s.safety ∧ t.wd = s.wd) ∧
    (∀ (h : Hdr) (m k n : Nat), served s h 0x0C05 → s.sup.recovery = true → n ≠ 0 ∨ k ≠ 0 →
       exec (.activate h m k n) s = .next (answeredCmd s h 0x0C05 stRejected [])) ∧
    (∀ (h : Hdr) (m : Nat), served s h 0x0C05 → s.sup.recovery = true → s.nv.boot.verified % 4 = 0 →
       exec (.activate h m 0 0) s = .next (answeredCmd s h 0x0C05 0x88 [])) ∧
    (∀ (h : Hdr) (m : Nat), served s h 0x0C05 → canOpen s h → s.sup.recovery = true → s.nv.boot.verified % 4 ≠ 0 →
       exec (.activate h m 0 0) s = .next (partReset (commitBoot (openedCmd s h 0x0C05) (s.nv.boot.verified % 4) (max 1 s.packTime)) 1)) ∧
    (∀ (h : Hdr) (p : Proof), served s h 0x0C08 → proofGood s h 0x0C08 (zeros 4) p = false →
       exec (.enterRecovery h p) s = .next (answeredCmd s h 0x0C08 stAuthFailed [])) ∧
    (∀ (h : Hdr) (p : Proof), served s h 0x0C08 → proofGood s h 0x0C08 (zeros 4) p = true → s.aon.bootrec = false →
       exec (.enterRecovery h p) s = .next (reply (useProof (dequeue s h 0x0C08) h p) h 0x0C08 stRejected [])) ∧
    (∀ (h : Hdr) (p : Proof), served s h 0x0C08 → proofGood s h 0x0C08 (zeros 4) p = true → s.aon.bootrec = true →
       exec (.enterRecovery h p) s = .next ((fun u => partReset { u with aon := { u.aon with recoveryFlag := true } } 1) (emit (useProof (dequeue s h 0x0C08) h p) 4 0 h.prio (replyBytes (mkReply h 0x0C08 stOk []))))) ∧
    (∀ (b : Bool) (l : List (Nat × Nat × Nat)), unconfirmed s = false ∨ b = false ∨ s.sup.ready = false →
       exec (.confirmation b l) s = .next (s)) ∧
    (∀ (l : List (Nat × Nat × Nat)), unconfirmed s = true → s.sup.ready = true →
       exec (.confirmation true l) s = .next (let u := writeBoot s { s.nv.boot with active := confirmedPlaces s, pending := 0, bootCount := 0, actAt := 0, rollIdx := ((List.range 5).map fun k => if bit s.nv.boot.pending k then ((imageAt s (placeIdx k (bit s.fw.running k))).map (·.rollback)).getD 0 else nth s.nv.boot.rollIdx k 0), verified := s.nv.boot.verified - (s.nv.boot.verified &&& emptyBehind s), complete := s.nv.boot.complete - (s.nv.boot.complete &&& emptyBehind s), migrate := 0 }; finishActivate (raise { u with fw := { s.fw with running := confirmedPlaces s }, nv := { u.nv with setFmt := (s.nv.migrated.map (·.fmt)).getD s.nv.setFmt, migrated := none, customerKey := s.nv.newKey.getD s.nv.customerKey, newKey := none }, aon := { s.aon with confirmEnd := none } } 0 9 0xBA (256 * s.nv.boot.pending + 1)) l)) ∧
    ((unconfirmed s = false ∨ (s.aon.confirmEnd.any fun k => decide (k ≤ s.now)) = false) → exec (.confirmTimeout) s = .next (s)) ∧
    (∀ (k : Tick), unconfirmed s = true → s.aon.confirmEnd = some k → k ≤ s.now →
       exec (.confirmTimeout) s = .next (attemptFailed (raise { s with aon := { s.aon with confirmEnd := none } } 0 9 0xB4 s.nv.boot.bootCount) 0xB4)) ∧
    (∀ (k : Tick), unconfirmed s = true → s.aon.confirmEnd = some k → k ≤ s.now → partLevel s.nv.boot.pending = false →
       3 ≤ s.nv.boot.bootCount → ∃ t, exec (.confirmTimeout) s = .next t ∧ t.nv.boot.pending = 0 ∧
       t.nv.boot.active = s.nv.boot.active ∧ t.nv.boot.rollIdx = s.nv.boot.rollIdx ∧ t.nv.boot.verified = s.nv.boot.verified ∧
       t.fw.running = s.nv.boot.active ∧ t.sup.ready = false ∧ t.metro = s.metro)

/-- GET_IDENTITY answers OK with the 36 bytes of its table; GET_POWER_STATUS with the 28 bytes of its table, in which `cDomains` and
`sDomains` give the powered domains; GET_THERMAL with the record of C, that of M where it is fitted, and that of each segment die, where
what it says of M is free within its fields (log entry 63). SET_WAKE with WAKESTATE 2 or 3, SET_MONITOR within its ranges, SET_THERMAL,
SET_SCRUB and SET_CLOCKS with MODE or SRC32 0 or 1 answer OK and store their values in settings; a WAKETIME that has passed is not armed,
SET_THERMAL starts the level records and dwells of every die afresh, and SET_CLOCKS 1 leaves the crystal. Nothing else changes but the
reply. Rests on R447, R452, R457, R461, R471 and R472. -/
def Obligations.PowerSettings : Prop :=
  ∀ (s : State),
    (∀ (h : Hdr), served s h 0x0101 →
       exec (.getIdentity h) s = .next (answeredCmd s h 0x0101 stOk (le 1 3 ++ le 1 (partCode s.part) ++ le 1 s.part.dieMask ++ [0] ++ le 8 Config.unitId ++ le 4 (runningRelease s 1) ++ le 4 (runningRelease s 0) ++ le 4 (runningRelease s 2) ++ le 4 (runningRelease s 3) ++ le 2 0x15A6 ++ le 1 (b2n (bit s.fw.running 0) + 2 * b2n (bit s.fw.running 1)) ++ [0] ++ le 4 (if s.part.hasM then s.metro.swid else 0)))) ∧
    (∀ (h : Hdr), served s h 0x0102 →
       exec (.getPowerStatus h) s = .next (answeredCmd s h 0x0102 stOk (le 1 s.power.state.code ++ le 1 s.aon.wakeCause ++ le 1 s.nv.settings.wakeState ++ le 1 (b2n s.power.crystal32 + 2 * b2n s.power.pllLocked + 4 * b2n s.power.pllOnRef) ++ le 2 (cDomains s) ++ [2, 3, 4, 5, 6, 7].flatMap (fun c => le 1 (sDomains s c)) ++ le 2 s.power.vlv ++ le 1 s.nv.settings.scrubMode ++ [0] ++ le 4 (scrubAge s / dayT) ++ le 2 ((s.power.scrub.map fun c => c.done).getD 0xFFFF) ++ zeros 2 ++ le 4 s.aon.wakes))) ∧
    (∀ (h : Hdr) (m w c k p : Nat), served s h 0x0104 → w = 2 ∨ w = 3 →
       exec (.setWake h m w c k p) s = .next (answeredCmd { s with nv := { s.nv with settings := { s.nv.settings with wakeMask := m, wakeState := w, sleepChk := c, wakeTime := k, wakeArmed := decide (s.packTime < k), sleepTemp := p } } } h 0x0104 stOk [])) ∧
    (∀ (h : Hdr) (p o d : Nat), served s h 0x0105 → 100 ≤ p → p ≤ 60000 → 1 ≤ o → o ≤ 4 → 8 ≤ d → d ≤ 256 →
       exec (.setMonitor h p o d) s = .next (answeredCmd { s with nv := { s.nv with settings := { s.nv.settings with monPeriod := p, monOrder := o, monDec := d } } } h 0x0105 stOk [])) ∧
    (∀ (h : Hdr) (a b c d : Int) (r : Nat), served s h 0x0106 →
       exec (.setThermal h a b c d r) s = .next (answeredCmd { s with nv := { s.nv with settings := { s.nv.settings with levels := [a, b, c, d], rise := r } }, power := { s.power with therm := freshLevels s.power.therm }, segs := s.segs.map fun x => { x with therm := freshLevels x.therm } } h 0x0106 stOk [])) ∧
    (∀ (h : Hdr), served s h 0x0107 →
       exec (.getThermal h) s = .next (answeredCmd (s.draw) h 0x0107 stOk (thermRecord 0 s.power.therm false false ++ (if s.part.hasM then le 1 1 ++ metroTherm (s.freeBytes 7) else []) ++ s.segs.flatMap fun d => thermRecord d.code d.therm (d.stopped || d.stopping) d.cutOff))) ∧
    (∀ (h : Hdr) (m : Nat), served s h 0x0108 → m ≤ 1 →
       exec (.setScrub h m) s = .next (answeredCmd { s with nv := { s.nv with settings := { s.nv.settings with scrubMode := m } } } h 0x0108 stOk [])) ∧
    (∀ (h : Hdr) (c : Nat), served s h 0x010A → c ≤ 1 →
       exec (.setClocks h c) s = .next (answeredCmd { s with nv := { s.nv with settings := { s.nv.settings with src32 := c } }, power := { s.power with crystal32 := s.power.crystal32 && c == 0 } } h 0x010A stOk []))

/-- An order for the present state opens its operation and completes it with AT and no other effect. While no shutdown and no move of the
chain is under way and LBIST passed on every die, an order for MONITOR, RUN or SERVICE of this package makes the move (`moveAwake`) and
completes, and one for SLEEP with one of the wake codes 2 to 5 enabled begins the shutdown; with none of them enabled it answers
WAKE_NONE. A STATE above 4 answers STATE_INVALID, and SHIP without a proof AUTH_FAILED, with no other effect. Once the sweeps are done,
SHUTDOWN_SEQUENCE takes the steps of R444 (`shutdownSteps`), decides LBIST for every die and C, and powers down where no die runs it;
when every die that ran LBIST has answered, LBIST_SUPERVISION_RESUME powers down. In SLEEP or SHIP, outside a brown-out and a thermal
stop, a source that fires starts C (`wakeUp`) with its code as the cause: M, pack time and the evidence stay, and the Keeper and the
safety stage are as after reset. Rests on R442, R444, R445, R452, R472, R473, R512 and R513. -/
def Obligations.PowerMoves : Prop :=
  ∀ (s : State),
    (∀ (h : Hdr) (n sc : Nat) (p : Option Proof), served s h 0x0103 → canOpen s h → stateOf n = some s.power.state →
       s.power.state ≠ .ship → s.power.shutdown = none → sc ≤ 1 →
       exec (.setPowerState h n sc p) s = .next (moved (openedCmd s h 0x0103) (some h))) ∧
    (∀ (h : Hdr) (n : Nat) (x : PState) (p : Option Proof), served s h 0x0103 → canOpen s h → stateOf n = some x → x ≠ s.power.state →
       x.dark = false → s.power.shutdown = none → s.power.chainMove = none → s.life.degraded = 0 →
       exec (.setPowerState h n 0 p) s = .next (moved (moveAwake (openedCmd s h 0x0103) x) (some h))) ∧
    (∀ (h : Hdr) (p : Option Proof), served s h 0x0103 → canOpen s h → s.power.state ≠ .sleep → s.nv.settings.wakeMask &&& 0x3C ≠ 0 →
       s.power.shutdown = none → s.power.chainMove = none → s.life.degraded = 0 →
       exec (.setPowerState h 1 0 p) s = .next (beginShutdown (openedCmd s h 0x0103) (some h) .sleep)) ∧
    (∀ (h : Hdr) (n sc : Nat) (p : Option Proof), served s h 0x0103 → 4 < n → sc ≤ 1 →
       exec (.setPowerState h n sc p) s = .next (answeredCmd s h 0x0103 0x80 [])) ∧
    (∀ (h : Hdr) (p : Option Proof), served s h 0x0103 → s.power.state ≠ .sleep → s.nv.settings.wakeMask &&& 0x3C = 0 →
       s.power.shutdown = none → s.power.chainMove = none → s.life.degraded = 0 →
       exec (.setPowerState h 1 0 p) s = .next (answeredCmd s h 0x0103 0x81 [])) ∧
    (∀ (h : Hdr) (sc : Nat), served s h 0x0103 → sc ≤ 1 →
       exec (.setPowerState h 0 sc none) s = .next (answeredCmd s h 0x0103 stAuthFailed [])) ∧
    (∀ (env : List LbistEnv) (x : Shutdown) (u : State), s.power.shutdown = some x → sweepsDone s = true →
       (s.segs.any (·.lbist)) = false → u = (s.segs.map SegDie.code ++ [0]).foldl (shutdownLbist env) (shutdownSteps s x) →
       (u.segs.any (·.lbist)) = false → exec (.shutdownSequence env) s = .next (powerDown u x.target)) ∧
    (∀ (x : Shutdown) (quiet : List Nat), s.power.shutdown = some x → (s.segs.any (·.lbist)) = true →
       ((quiet.filter fun c => (s.die? c).isSome) = []) →
       exec (.lbistSupervisionResume quiet) s = .next (powerDown { s with segs := s.segs.map fun d => { d with lbist := false, statusAt := s.now } } x.target)) ∧
    (∀ (k : Nat), isDark s = true → s.aon.brownOut = false → s.aon.cStopped = false → wakeFires s k = true → 0 < k → ∃ t,
       exec (.wake k) s = .next t ∧ t = wakeUp s k ∧ t.aon.wakeCause = k ∧ t.metro = s.metro ∧ t.packTime = s.packTime ∧
       t.sup.keeper = Supervision.reset.keeper ∧ t.stage = Stage.reset ∧ t.aon.evidence = s.aon.evidence)

/-- VLV below 6.0 V is stored and raises VLV_LOW (0xA8) with its value. Below 5.0 V C goes down from any state in which it runs: it is
dark with BROWNOUT noted, the safety stage is as after reset, and M, pack time, the safety image and the queue stay. Above 5.5 V after a
brown-out C starts with wake cause 9 and M stays. A PLL that loses lock raises PLL_UNLOCK (0xAA) and holds the sweeps, and a lock with no
SET_TIMEBASE waiting lets them go on and locks an unenumerated primary head. A stopped 32 kHz crystal raises CLOCK_32K_FAULT (0xA9) and
the RC takes over. SCRUB_NOW opens its operation and begins a pass, or answers SCRUB_RUNNING while one runs; a pass that is due begins; a
step that finds all blocks good adds four blocks, 10 s after the last in the background, and the last step ends the pass (`scrubDone`).
In MONITOR a burst begins with a filter restart at a multiple of MONPERIOD, a ring burst marks its dies heard, a guard pass 10 ms after
the last reads every mapped cell, and the idle Studio sleeps 50 ms after its last reply. Rests on R41, R447, R448, R449, R456, R457,
R459, R469, R470, R471 and R473. -/
def Obligations.SupplyAndClockEvents : Prop :=
  ∀ (s : State),
    (∀ (v : Nat), cUp s = true → v < 6000 →
       exec (.vlvLow v) s = .next (raise { s with power := { s.power with vlv := v } } 0 13 0xA8 v)) ∧
    (∀ (v : Nat), isDark s = false → v < 5000 → ∃ t, exec (.vlvBrownOut v) s = .next t ∧ t.aon.brownOut = true ∧
       t.power.state = .sleep ∧ t.stage = Stage.reset ∧ t.metro = s.metro ∧ t.packTime = s.packTime ∧
       t.safety.image = s.safety.image ∧ t.pending = s.pending) ∧
    (∀ (v : Nat), 5500 < v → s.aon.brownOut = true → ∃ t, exec (.vlvReturn v) s = .next t ∧ t.aon.wakeCause = 9 ∧
       t.aon.brownOut = false ∧ t.power.vlv = v ∧ t.metro = s.metro ∧ t.power.state = Power.reset.state) ∧
    (∀ (k : Nat), cUp s = true → s.power.pllLocked = true →
       exec (.pllUnlock k) s = .next (raise { s with power := { s.power with pllLocked := false, pllOnRef := false }, sweep := { s.sweep with pllHold := true } } 0 13 0xAA k)) ∧
    (cUp s = true → s.chain.timebaseOp = none → s.chain.refLost = false →
       exec (.pllLock) s = .next ({ s with power := { s.power with pllLocked := true, pllOnRef := true }, sweep := { s.sweep with pllHold := false }, chain := { s.chain with locked := s.chain.locked || (primaryHead s && decide (s.chain.syncs = 0)) } })) ∧
    (cUp s = true → s.power.crystal32 = true →
       exec (.clock32kFault) s = .next (raise { s with power := { s.power with crystal32 := false } } 0 13 0xA9 0)) ∧
    (∀ (h : Hdr), served s h 0x0109 → canOpen s h → s.power.scrub = none →
       exec (.scrubNow h) s = .next ({ (openedCmd s h 0x0109) with power := { s.power with scrub := some { hdr := some h, done := 0, rewritten := 0, failed := 0, stepAt := s.now } } })) ∧
    (∀ (h : Hdr), served s h 0x0109 → s.power.scrub.isSome = true → exec (.scrubNow h) s = .next (answeredCmd s h 0x0109 0x82 [])) ∧
    (∀ (x : Scrub), cUp s = true → s.power.scrub = some x → s.aon.scrubReturn.isSome = true ∨ x.stepAt + 10000 * msT ≤ s.now →
       x.done + 4 < 1024 →
       exec (.scrubStep [] []) s = .next ({ s with power := { s.power with scrub := some { x with done := x.done + 4, stepAt := s.now } } })) ∧
    (∀ (x : Scrub), cUp s = true → s.power.scrub = some x → s.aon.scrubReturn.isSome = true ∨ x.stepAt + 10000 * msT ≤ s.now →
       1024 ≤ x.done + 4 → exec (.scrubStep [] []) s = .next (scrubDone s { x with done := x.done + 4, stepAt := s.now })) ∧
    (s.nv.settings.scrubMode = 0 → s.power.scrub = none → cUp s = true → s.sup.keeper = true → 730 * dayT ≤ scrubAge s →
       exec (.scrubDue) s = .next ({ s with power := { s.power with scrub := some { hdr := none, done := 0, rewritten := 0, failed := 0, stepAt := s.now } } })) ∧
    (s.power.state = .monitor → cUp s = true → s.sweep.burst = false → s.nv.settings.monPeriod ≠ 0 →
       s.packTime % (s.nv.settings.monPeriod * msT) = 0 →
       exec (.monitorBurst) s = .next (restartFilters { s with sweep := { s.sweep with burst := true } })) ∧
    (∀ (l : List Nat), s.power.state = .monitor →
       exec (.ringBurst l) s = .next ({ s with segs := upd s.segs (fun d => l.contains d.code && !d.unpowered && !d.lbist) fun d => { d with statusAt := s.now, sentAt := s.now } })) ∧
    (∀ (k : Nat) (l : List Int) (d : SegDie), s.die? k = some d → s.power.state = .monitor → d.checkAt + 10 * msT ≤ s.now →
       exec (.guardPass k l) s = .next ((List.range d.cells).foldl (fun s j => diagReading s k (j + 1) (nth l j 0)) (s.updDie k fun d => { d with checkAt := s.now }))) ∧
    (s.power.state = .monitor → s.power.studioAsleep = false → s.sup.ready = true → s.mail.doorbell = 0 → s.mail.waiting = [] →
       s.mail.replies = [] → s.power.lastReply + 50 * msT ≤ s.now →
       exec (.studioSleep) s = .next ({ s with power := { s.power with studioAsleep := true } }))

/-- A housekeeping round of C that is due takes its reading into the record (`thermRead`), sends its messages and throttles C; where C
then stands at 140 °C or above its orderly stop (`stopC`) follows. A round of a segment die that is due, powered and in no LBIST is
`roundDie`. A level whose dwell of 2 s is over raises THERMAL_LEVEL (0xA0) and flips its record, on C and on a segment die. A stopped
segment die that has stayed cool for 5 s restarts, its references start, and it raises THERMAL_RESTART (0xA6); C after its thermal stop
starts with wake cause 10, and M stays. A segment below its supply makes the die start anew without power, and its return with power. A
core supply outside its window resets the part, starts M anew, or starts one segment die with a good trim anew. In SLEEP a check that is
due, on a powered die without sleep balancing, stores its temperature and time, and M stays. Rests on R178, R450, R460, R461, R465, R467,
R468, R514, R534 and R535. -/
def Obligations.TemperatureEvents : Prop :=
  ∀ (s : State),
    (∀ (x : Int) (u : State), s.port.inReset = false → isDark s = false → roundDue s.now (roundPeriod s) s.power.therm = true →
       u = throttle (thermMessages { s with power := { s.power with therm := riseTaken (thermRead s.now s.nv.settings.levels s.nv.settings.rise x s.power.therm) } } 0 13 s.power.therm (thermRead s.now s.nv.settings.levels s.nv.settings.rise x s.power.therm)) →
       u.power.therm.eff < 14000 → exec (.housekeepingRound 0 x true true) s = .next (u)) ∧
    (∀ (x : Int) (u : State), s.port.inReset = false → isDark s = false → roundDue s.now (roundPeriod s) s.power.therm = true →
       u = throttle (thermMessages { s with power := { s.power with therm := riseTaken (thermRead s.now s.nv.settings.levels s.nv.settings.rise x s.power.therm) } } 0 13 s.power.therm (thermRead s.now s.nv.settings.levels s.nv.settings.rise x s.power.therm)) →
       14000 ≤ u.power.therm.eff → exec (.housekeepingRound 0 x true true) s = .next (stopC u)) ∧
    (∀ (k : Nat) (x : Int) (a b : Bool) (d : SegDie), s.die? k = some d → 0 < k → d.unpowered = false → cUp s = true →
       d.lbist = false → roundDue s.now (roundPeriod s) d.therm = true →
       exec (.housekeepingRound k x a b) s = .next (roundDie s d x a b)) ∧
    (∀ (n : Nat) (up : Bool), cUp s = true → crossDue s.now s.power.therm n up = true →
       exec (.thermalLevel 0 n up) s = .next (raise { s with power := { s.power with therm := crossLevel n s.power.therm } } 0 13 0xA0 (levelDetail s.power.therm n up))) ∧
    (∀ (k n : Nat) (up : Bool) (d : SegDie), s.die? k = some d → 0 < k → cUp s = true → crossDue s.now d.therm n up = true →
       exec (.thermalLevel k n up) s = .next (raise (s.updDie k fun d => { d with therm := crossLevel n d.therm }) k 10 0xA0 (levelDetail d.therm n up))) ∧
    (∀ (k : Nat) (d : SegDie), s.die? k = some d → 0 < k → d.stopped = true ∨ d.cutOff = true → cooled s.now d.therm = true →
       cUp s = true →
       exec (.thermalRestart k) s = .next (raise (restartDie (s.updDie k fun d => { d with stopping := false, stopped := false, cutOff := false, refAt := [s.now, s.now, s.now], therm := { d.therm with coolSince := none } }) k) k 10 0xA6 (d.therm.temp % 65536).toNat)) ∧
    (s.aon.cStopped = true → cooled s.now s.power.therm = true → ∃ t, exec (.thermalRestart 0) s = .next t ∧ t.aon.wakeCause = 10 ∧
       t.aon.cStopped = false ∧ t.metro = s.metro) ∧
    (∀ (k : Nat) (d : SegDie), s.die? k = some d → d.unpowered = false →
       exec (.segmentSupplyLow k) s = .next (s.updDie k fun d => dieAgain s d true)) ∧
    (∀ (k : Nat) (d : SegDie), s.die? k = some d → d.unpowered = true → d.trimBad = false →
       exec (.segmentSupplyRestart k) s = .next (s.updDie k fun d => dieAgain s d false)) ∧
    (isDark s = false → exec (.coreSupplyReset 0) s = .next (partReset s 1)) ∧
    (∀ (k : Nat) (d : SegDie), s.die? k = some d → 1 < k → d.trimBad = false →
       exec (.coreSupplyReset k) s = .next (s.updDie k fun x => { dieAgain s x x.unpowered with lbist := x.lbist, lbWord := if d.lbist then lbAborted x.lbWord else x.lbWord })) ∧
    (s.part.hasM = true → exec (.coreSupplyReset 1) s = .next ({ s with metro := { s.metro with state := .starting } })) ∧
    (∀ (k : Nat) (l : List Int) (x : Int) (a b : Bool) (y : Option Int) (d : SegDie), s.die? k = some d → s.power.state = .sleep →
       d.unpowered = false → d.checkAt + s.nv.settings.sleepChk * secT ≤ s.now → d.sleep.cfg = none → ∃ t,
       exec (.sleepCheck k l ⟨x, a, b, y⟩) s = .next t ∧
       (∃ e, (t.die? k) = some e ∧ e.therm.temp = x ∧ e.tempAt = some s.now ∧ e.checkAt = s.now) ∧ t.metro = s.metro)

/-- While sweeps run, each switch command of classes 0x02, 0x03, 0x05, 0x06 and 0x0B and SET_REACTION_MODE whose parameters lie in their
ranges and meet the checks named, in the states that its class asks for, opens its operation, answers QUEUED and waits with its values,
where no switch of its function from its head waits; nothing else changes. SET_SCHEDULING_MODE while sweeps are stopped takes effect at
once. MODE_SWITCH_TAKES_EFFECT: while sweeps are stopped, and at a boundary that follows its acceptance by 100 µs, the one switch that
waits has its effect (`switchEffect`) and its operation completes with its result (`switchResult`, FIRST_TAKE), and calibration records
whose boundary has come are put in force; before that boundary nothing changes. That a function of SET_SEQUENCE and SET_DOLLY_INTERACTION
includes the die mask is the choice of the model (log entry 93). Rests on R32, R33, R105, R115, R133, R134, R172, R173, R180, R228, R258,
R284 and R433. -/
def Obligations.ModeSwitches : Prop :=
  ∀ (s : State),
    (∀ (h : Hdr) (m : Nat) (es : List SeqEntry), served s h 0x0201 → canOpen s h → noRival s h (0x0201 * 256 + m) →
       s.sweep.running = true → sweepState s = true → 1 ≤ es.length → es.length ≤ 16 → maskUnfitted s m = false →
       (((s.segs.map fun d => if bit m d.code then withSeq d es else d).any fun d => bit m d.code && !slowFits d) = false) →
       (tooLong s (s.segs.map fun d => if bit m d.code then withSeq d es else d) s.sweep.trig.source s.sweep.trig.period = false) →
       exec (.setSequence h m es) s = .next (waitingSwitch s h 0x0201 (0x0201 * 256 + m) (.sequence m es))) ∧
    (∀ (h : Hdr) (a e w d p q : Nat), served s h 0x0203 → canOpen s h → noRival s h (0x0203) → s.sweep.running = true →
       sweepState s = true → a ≤ 4 → e ≤ 1 → w ≤ 1000 → d ≤ 100000 → 2500 ≤ p → p ≤ 1000000000 → tooLong s s.segs a p = false →
       takeRateBad a p s.slates.takedec = false →
       exec (.setTrigger h a e w d p q) s = .next (waitingSwitch s h 0x0203 (0x0203) (.trigger a e w d p q))) ∧
    (∀ (h : Hdr) (m : Nat), served s h 0x0205 → canOpen s h → noRival s h (0x0205) → s.sweep.running = true → sweepState s = true →
       m ≤ 1 → exec (.setSchedulingMode h m) s = .next (waitingSwitch s h 0x0205 (0x0205) (.scheduling m))) ∧
    (∀ (h : Hdr) (k m : Nat), served s h 0x0206 → canOpen s h → noRival s h (0x0206 * 256 + k) → s.sweep.running = true →
       sweepState s = true → m ≤ 1 → maskUnfitted s k = false →
       (m = 1 → (s.segs.any fun d => bit k d.code && !tapsCalibrated s d) = false) →
       exec (.setDollyInteraction h k m) s = .next (waitingSwitch s h 0x0206 (0x0206 * 256 + k) (.interaction k m))) ∧
    (∀ (h : Hdr) (n : Nat) (fs : List FilterSet), served s h 0x0301 → canOpen s h → noRival s h (0x0301) → s.sweep.running = true →
       sweepState s = true → 1 ≤ n → n ≤ 1024 → fs.length = 4 → ∀ x ∈ fs, 1 ≤ x.order ∧ x.order ≤ 4 ∧ 1 ≤ x.d ∧ x.d ≤ 1024 →
       takeRateBad s.sweep.trig.source s.sweep.trig.period n = false →
       exec (.setFilters h n fs) s = .next (waitingSwitch s h 0x0301 (0x0301) (.filters n fs))) ∧
    (∀ (h : Hdr) (m i k x r : Nat), served s h 0x0303 → canOpen s h → noRival s h (0x0303) → s.sweep.running = true →
       sweepState s = true → m ≤ 1 → i ≤ 2 → r ≤ 1 → 24 ≤ x → x ≤ 31 → i = 1 → (s.die? k).isSome = true ∧
       currentCal s k x = true →
       exec (.setAlignment h m i k x r) s = .next (waitingSwitch s h 0x0303 (0x0303) (.alignment m i k x r))) ∧
    (∀ (h : Hdr) (m k : Nat), served s h 0x0306 → canOpen s h → noRival s h (0x0306) → s.sweep.running = true → sweepState s = true →
       m ≤ 1 → m = 1 → (s.die? k).isSome = true →
       exec (.setFilterMode h m k) s = .next (waitingSwitch s h 0x0306 (0x0306) (.filterMode m k))) ∧
    (∀ (h : Hdr) (m t v : Nat), served s h 0x0307 → canOpen s h → noRival s h (0x0307) → s.sweep.running = true → sweepState s = true →
       m ≤ 1 → 10 ≤ t → t ≤ 200 → 1 ≤ v → v ≤ 1000 →
       exec (.setContinuity h m t v) s = .next (waitingSwitch s h 0x0307 (0x0307) (.continuity m t v))) ∧
    (∀ (h : Hdr) (g i t b z : Nat), served s h 0x0502 → canOpen s h → noRival s h (0x0502) → s.sweep.running = true →
       s.power.state = .run → g ≤ 3 → 50 ≤ i → i ≤ 3000 → 1000 ≤ b → b ≤ 100000 →
       exec (.setGoal h g i t b z) s = .next (waitingSwitch s h 0x0502 (0x0502) (.goal g i t b z))) ∧
    (∀ (h : Hdr) (m : Nat), served s h 0x0505 → canOpen s h → noRival s h (0x0505) → s.sweep.running = true → s.power.state = .run →
       m ≤ 1 → exec (.setBalanceMode h m) s = .next (waitingSwitch s h 0x0505 (0x0505) (.balanceMode m))) ∧
    (∀ (h : Hdr) (m : Nat) (es : List DerateEntry), served s h 0x0508 → canOpen s h → noRival s h (0x0508) → s.sweep.running = true →
       s.power.state = .run → m ≤ 1 → 1 ≤ es.length → es.length ≤ 6 → ∀ e ∈ es, e.therm ≠ 0 → e.knee + 500 ≤ e.stop →
       ((es.any fun e => (s.die? e.die).isNone) = false) →
       ((es.any fun e => decide (e.therm ≠ 0) && !tempCal s e.die e.therm) = false) →
       exec (.setDerating h m es) s = .next (waitingSwitch s h 0x0508 (0x0508) (.derating m es))) ∧
    (∀ (h : Hdr) (m : Nat), served s h 0x0606 → canOpen s h → noRival s h (0x0606) → s.sweep.running = true → s.power.state = .run →
       m ≤ 1 → exec (.setImpedanceMode h m) s = .next (waitingSwitch s h 0x0606 (0x0606) (.impedanceMode m))) ∧
    (∀ (h : Hdr) (m p j : Nat), served s h 0x0B01 → canOpen s h → noRival s h (0x0B01) → s.sweep.running = true → m ≤ 1 →
       exec (.setOpenTap h m p j) s = .next (waitingSwitch s h 0x0B01 (0x0B01) (.openTap m p j))) ∧
    (∀ (h : Hdr) (m : Nat), served s h 0x0A0C → canOpen s h → noRival s h (0x0A0C) → s.sweep.running = true → m ≤ 1 →
       exec (.setReactionMode h m) s = .next (waitingSwitch s h 0x0A0C (0x0A0C) (.reactionMode m))) ∧
    (∀ (h : Hdr) (m : Nat), served s h 0x0205 → canOpen s h → noRival s h 0x0205 → s.sweep.running = false → sweepState s = true →
       m ≤ 1 → exec (.setSchedulingMode h m) s = .next (allSwitches (waitingSwitch s h 0x0205 0x0205 (.scheduling m)))) ∧
    (∀ (w : Switch) (o : Op), s.sweep.running = false → s.sweep.burst = false → s.mail.switches = [w] → opOf s w.hdr = some o →
       o.stop = false →
       exec (.modeSwitchTakesEffect) s = .next (let u := switchEffect { s with mail := { s.mail with switches := [] } } w.setting; applyCal (completeOp u w.hdr stOk (switchResult u w.opcode)) true)) ∧
    (∀ (w : Switch) (o : Op), s.sweep.running = true → s.mail.switches = [w] → w.acceptedAt + 100 * usT ≤ s.sweep.boundaryAt →
       opOf s w.hdr = some o → o.stop = false →
       exec (.modeSwitchTakesEffect) s = .next (let u := switchEffect { s with mail := { s.mail with switches := [] } } w.setting; applyCal (completeOp u w.hdr stOk (switchResult u w.opcode)) false)) ∧
    (∀ (w : Switch), s.sweep.running = true → s.mail.switches = [w] → s.sweep.boundaryAt < w.acceptedAt + 100 * usT →
       s.cal.waiting = [] → exec (.modeSwitchTakesEffect) s = .next (s))

/-- A stop while sweeps are stopped and no start waits completes with the last Take that received a number; a stop of running sweeps
opens its operation and waits for its Take boundary; a start of stopped sweeps, in RUN or SERVICE and with no start waiting, opens its
operation and waits for its first Clapper from now on. SCHEDULE_CLAPPERS with OP 0 adds times that lie at least 250 µs ahead in ascending
order to the pending ones and answers the free entries, answers SCHEDULE_TOO_LATE where one lies nearer and SCHEDULE_FULL where 32 are
exceeded, and with OP 1 empties the queue. GET_SEQUENCE answers the slot timetable of a fitted segment die and NOT_FITTED for any other
code (for C and M a choice of the model, log entry 118); GET_SWEEP_STATUS answers its counts and a record of each die (`sweepRecord`);
SET_SELFTEST stores a period of 1 to 60 s. Nothing else changes but the reply. That a stop is accepted in every state is a reading of the
model (log entry 77). Rests on R112, R130, R133, R134 and R135. -/
def Obligations.SweepCommands : Prop :=
  ∀ (s : State),
    (∀ (h : Hdr), served s h 0x0207 → canOpen s h → s.sweep.running = false → s.sweep.startPending = none →
       exec (.sweepControl h 0) s = .next (completeOp (openedCmd s h 0x0207) h stOk (le 4 (lastTake s)))) ∧
    (∀ (h : Hdr), served s h 0x0207 → canOpen s h → s.sweep.running = true → s.sweep.startPending = none →
       exec (.sweepControl h 0) s = .next ({ (openedCmd s h 0x0207) with sweep := { s.sweep with stops := s.sweep.stops ++ [h] } })) ∧
    (∀ (h : Hdr) (k : Nat), served s h 0x0207 → canOpen s h → k = 1 → sweepState s = true → s.sweep.running = false →
       s.sweep.startPending = none →
       exec (.sweepControl h k) s = .next ({ (openedCmd s h 0x0207) with sweep := { s.sweep with startPending := some h, startAt := s.packTime } })) ∧
    (∀ (h : Hdr) (l : List Nat), served s h 0x0204 → ∀ t ∈ l, s.packTime + 25000 ≤ t →
       (l.foldl (fun q t => insertTime t q) (pendingTimes s)).length ≤ 32 →
       exec (.scheduleClappers h 0 l) s = .next (answeredCmd { s with sweep := { s.sweep with queue := l.foldl (fun q t => insertTime t q) (pendingTimes s) } } h 0x0204 stOk (le 1 (32 - (l.foldl (fun q t => insertTime t q) (pendingTimes s)).length) ++ zeros 3))) ∧
    (∀ (h : Hdr) (l : List Nat), served s h 0x0204 → ∀ t ∈ l, s.packTime + 25000 ≤ t →
       32 < (l.foldl (fun q t => insertTime t q) (pendingTimes s)).length →
       exec (.scheduleClappers h 0 l) s = .next (answeredCmd s h 0x0204 0x82 [])) ∧
    (∀ (h : Hdr) (l : List Nat), served s h 0x0204 → ∃ t ∈ l, t < s.packTime + 25000 →
       exec (.scheduleClappers h 0 l) s = .next (answeredCmd s h 0x0204 0x83 [])) ∧
    (∀ (h : Hdr) (l : List Nat), served s h 0x0204 →
       exec (.scheduleClappers h 1 l) s = .next (answeredCmd { s with sweep := { s.sweep with queue := [], queueSent := [] } } h 0x0204 stOk (le 1 32 ++ zeros 3))) ∧
    (∀ (h : Hdr) (k : Nat) (d : SegDie), served s h 0x0202 → s.die? k = some d →
       exec (.getSequence h k) s = .next (answeredCmd s h 0x0202 stOk (le 1 d.code ++ le 1 (timetable d s.sweep.hostSched).length ++ le 2 (duration d s.sweep.hostSched) ++ (timetable d s.sweep.hostSched).flatMap fun x => le 1 (x.input.getD 0xFF) ++ le 1 x.kind ++ le 2 x.sample))) ∧
    (∀ (h : Hdr) (k : Nat), served s h 0x0202 → s.die? k = none →
       exec (.getSequence h k) s = .next (answeredCmd s h 0x0202 stNotFitted [])) ∧
    (∀ (h : Hdr), served s h 0x0208 →
       exec (.getSweepStatus h) s = .next (answeredCmd s h 0x0208 stOk (le 4 s.sweep.claps ++ le 4 s.sweep.overruns ++ le 8 s.sweep.lastClap ++ s.segs.flatMap (sweepRecord s)))) ∧
    (∀ (h : Hdr) (p : Nat), served s h 0x0209 → 1 ≤ p → p ≤ 60 →
       exec (.setSelftest h p) s = .next (answeredCmd { s with sweep := { s.sweep with selftest := p } } h 0x0209 stOk []))

/-- On a package that leads no Clapper and whose source is PIN, the selected edge, 50 ns or more after the edge before, sets one Clapper
at its pack time plus the larger of DELAY and 1 µs, and resets the watch. A Clapper that is due while sweeps run and no start waits
starts a sweep (`startSweep`) where it is the first since reset or comes at least the minimum period after the last, and is skipped
(`skipClapper`: counted and recorded as CLAP_OVERRUN) where it comes sooner. A sweep end ends the sweep, counts it, and notes the status
words of the dies that swept; where TAKEDEC sweeps are complete, it also forms the Take boundary and carries out the stops that wait for
it. The head of a chain sends the pending times that were not sent in one frame of type 0x0C, and a package on SCHEDULE outside a chain
takes them itself. A source PIN or CHAIN that stays silent for WATCH raises CLAP_PIN_SILENT (0x03) once. Rests on R37, R99, R101, R108,
R109, R112, R113, R114, R135, R136, R139 and R293. The glitch filter follows log entry 134. -/
def Obligations.Clappers : Prop :=
  ∀ (s : State),
    (∀ (up : Bool), cUp s = true → s.sweep.trig.source = 1 → edgeSelected s up = true → leadsClap s = false →
       ((s.sweep.edgeAt.any fun t => decide (s.now < t + 5)) = false) →
       exec (.clapPinEdge up) s = .next ({ s with sweep := { s.sweep with edgeAt := some s.now, events := s.sweep.events ++ [{ event := s.packTime, clap := s.packTime + max s.sweep.trig.delay 100 }], lastEvent := s.now, silent := false } })) ∧
    (∀ (q : Sweep) (k : Nat) (l : List DieMeas), dueClapper s = some (k, q) → sweepsNow { s with sweep := q } k = true →
       q.startPending = none → 0 < q.claps → k < q.lastClap + minPeriod { s with sweep := q } →
       exec (.clapper l) s = .next (skipClapper { s with sweep := q })) ∧
    (∀ (q : Sweep) (k : Nat) (l : List DieMeas), dueClapper s = some (k, q) → sweepsNow { s with sweep := q } k = true →
       q.startPending = none → q.claps = 0 ∨ q.lastClap + minPeriod { s with sweep := q } ≤ k →
       exec (.clapper l) s = .next (startSweep { s with sweep := q } k l)) ∧
    (s.sweep.inSweep = true → takeDec s = 0 ∨ (s.sweep.sinceRestart + 1) % takeDec s ≠ 0 →
       exec (.sweepEnd) s = .next ({ s with sweep := { s.sweep with inSweep := false, sinceRestart := s.sweep.sinceRestart + 1 }, segs := upd s.segs (fun d => d.sweeps && !d.lbist) fun d => { d with sentAt := s.now } })) ∧
    (∀ (u : State), s.sweep.inSweep = true →
       (u = { s with sweep := { s.sweep with inSweep := false, sinceRestart := s.sweep.sinceRestart + 1 }, segs := upd s.segs (fun d => d.sweeps && !d.lbist) fun d => { d with sentAt := s.now } }) →
       takeDec s ≠ 0 → (s.sweep.sinceRestart + 1) % takeDec s = 0 →
       exec (.sweepEnd) s = .next (thermalAtBoundary (stopAtBoundary (takeBoundary u)))) ∧
    (∀ (q : List Nat), cUp s = true → (((pendingTimes s).filter fun t => !s.sweep.queueSent.contains t) = q) → q ≠ [] →
       s.sweep.trig.source ≠ 4 → s.chain.isHead = true → 1 < s.chain.count →
       exec (.scheduleSend) s = .next (sendFrame { s with sweep := { s.sweep with queueSent := s.sweep.queue, queue := s.sweep.queue.filter fun t => decide (s.packTime ≤ t) || !s.sweep.queue.contains t } } 0x0C 0xFF 1 false false (q.flatMap (le 8)))) ∧
    (∀ (q : List Nat), cUp s = true → (((pendingTimes s).filter fun t => !s.sweep.queueSent.contains t) = q) → q ≠ [] →
       s.sweep.trig.source = 4 → s.chain.isHead = false ∨ s.chain.count ≤ 1 →
       exec (.scheduleSend) s = .next (takeTimes { s with sweep := { s.sweep with queueSent := s.sweep.queue, queue := s.sweep.queue.filter fun t => decide (s.packTime ≤ t) || !s.sweep.queue.contains t } } q)) ∧
    (s.sweep.trig.source = 1 ∨ s.sweep.trig.source = 2 → s.sweep.trig.watch ≠ 0 → s.sweep.silent = false → cUp s = true →
       s.sweep.lastEvent + s.sweep.trig.watch * msT ≤ s.now →
       exec (.clapPinSilent) s = .next (raise { s with sweep := { s.sweep with silent := true } } 0 2 0x03 s.sweep.trig.watch))

/-- A gated sample notes its gate on the Dolly; with more than 20 mA it also marks the sample and raises QUIET_VIOLATION (0x09) with
Dolly and input; a sample that gates no transfer changes nothing. A reading outside the window of a reference in use that was good clears
its flag and raises REF_LOST (0x05); the internal reference in its window is good at once, the others once they have been there for 100
µs. A reference in use that is not good 10 ms after it should have started raises REF_START_TIMEOUT (0x04). A self-test starts for a
cross-check that waits, else at its period mark where it fits; at its end, without a cross-check, a failed step is recorded as
SELFTEST_FAIL (0x08) with the step. A powered die that has sent nothing for 250 µs sends its status word. A guard group that is due and
fits reads the next cells of the guard rotation for the comparators, with the correction of R128, and notes its gates. Rests on R118,
R120, R124, R125, R127, R128, R130, R132, R204, R205, R221 and R293. The period marks follow log entry 135. -/
def Obligations.ConverterEvents : Prop :=
  ∀ (s : State),
    (∀ (k j x : Nat) (ma : Int) (d : SegDie), s.die? k = some d → gatesDolly s d j x = true → 20 < ma →
       exec (.quietGate k j x ma) s = .next (raise ((s.updDolly k j fun y => { y with gateAt := some s.now }).updDie k fun d => { d with hist := updAt d.hist x fun l => match l with | a :: r => { a with quiet := true } :: r | [] => [] }) k (2 + j) 0x09 (256 * j + x))) ∧
    (∀ (k j x : Nat) (ma : Int) (d : SegDie), s.die? k = some d → gatesDolly s d j x = true → ma ≤ 20 →
       exec (.quietGate k j x ma) s = .next (s.updDolly k j fun y => { y with gateAt := some s.now })) ∧
    (∀ (k j x : Nat) (ma : Int) (d : SegDie), s.die? k = some d → gatesDolly s d j x = false → exec (.quietGate k j x ma) s = .next (s)) ∧
    (∀ (k x : Nat) (v : Int) (d : SegDie), s.die? k = some d → d.unpowered = false → d.stopped = false → cUp s = true →
       nth d.refOk x false = true → refInUse d x = true → refWindow x v = false →
       exec (.refokChange k x v) s = .next (raise (s.updDie k fun d => { d with refOk := d.refOk.set x false, refSince := d.refSince.set x none, refUv := d.refUv.set x v }) k 2 0x05 (256 * x))) ∧
    (∀ (k : Nat) (v : Int) (d : SegDie), s.die? k = some d → d.unpowered = false → d.stopped = false → refWindow 0 v = true →
       exec (.refokChange k 0 v) s = .next (s.updDie k fun d => { d with refOk := d.refOk.set 0 true, refSince := d.refSince.set 0 (some ((nth d.refSince 0 none).getD s.now)), refUv := d.refUv.set 0 v })) ∧
    (∀ (k x : Nat) (v : Int) (t : Tick) (d : SegDie), s.die? k = some d → d.unpowered = false → d.stopped = false → 0 < x →
       refWindow x v = true → nth d.refSince x none = some t → t + 100 * usT ≤ s.now →
       exec (.refokChange k x v) s = .next (s.updDie k fun d => { d with refOk := d.refOk.set x true, refSince := d.refSince.set x (some t), refUv := d.refUv.set x v })) ∧
    (∀ (k x : Nat) (d : SegDie), s.die? k = some d → nth d.refOk x true = false → refInUse d x = true → d.unpowered = false →
       d.stopped = false → nth d.refAt x 0 + 10 * msT ≤ s.now → exec (.refStartTimeout k x) s = .next (raise s k 2 0x04 (256 * x))) ∧
    (∀ (k : Nat) (d : SegDie), s.die? k = some d → canTest s d = true → d.xcWait = true →
       exec (.selftestStart k) s = .next (s.updDie k fun d => { d with xcWait := false, test := { d.test with running := true, xcheck := true } })) ∧
    (∀ (k : Nat) (d : SegDie), s.die? k = some d → canTest s d = true → d.xcWait = false → testMark s d = true → testFits s d = true →
       exec (.selftestStart k) s = .next (s.updDie k fun d => { d with test := { d.test with running := true, startedAt := some s.now } })) ∧
    (∀ (k n : Nat) (d : SegDie), s.die? k = some d → d.test.running = true → d.test.xcheck = false → d.xcWait = false →
       exec (.selftestEnd k (some n) false false) s = .next (raise (s.updDie k fun d => { d with test := { d.test with running := false, xcheck := false, failed := true } }) k 0 0x08 n)) ∧
    (∀ (k : Nat) (d : SegDie), s.die? k = some d → d.test.running = true → d.test.xcheck = false → d.xcWait = false →
       exec (.selftestEnd k none false false) s = .next (s.updDie k fun d => { d with test := { d.test with running := false, xcheck := false, failed := false } })) ∧
    (∀ (k : Nat) (d : SegDie), s.die? k = some d → d.unpowered = false → d.lbist = false → d.sentAt + 250 * usT ≤ s.now →
       exec (.statusWordTimer k) s = .next (s.updDie k fun d => { d with sentAt := s.now })) ∧
    (∀ (k : Nat) (l y : List Int) (d : SegDie), s.die? k = some d → guardRuns s d = true → lastDiag s d + 2000 ≤ s.packTime →
       guardFits s d = true →
       exec (.guardGroup k ⟨l, y⟩) s = .next ((rotationGroup d.cells d.guardIdx).foldl (fun s j => diagReading s k j (nth l (j - 1) 0 - tapCorrection s d j y / 1000)) ((rotationGroup d.cells d.guardIdx).foldl (fun s j => noteGate s k j 0) (s.updDie k fun d => { d with guardIdx := (d.guardIdx + 1) % max 1 (rotationLen d.cells), diagAt := s.packTime }))))

/-- GET_FILTERS answers the decimation, the four filter sets and FILTERID; SET_RESISTANCE in RUN or SERVICE replaces the values of the
named cells, in order, and no other cell's; GET_RESISTANCE answers value and convergence of 1 to 80 mapped cells; SEND_VERDICT records 0
or 1 for a Slate that awaits a verdict, and answers VERDICT_LATE for another one in host-assisted mode and REJECTED_STATE in hardware
mode; SET_STREAM replaces the entries of the 1 to 33 packages that it names; CHARGE reads the total with OP 0, and with OP 1 answers the
same and lets the preset wait at the current source, and is refused elsewhere; READ_HISTORY opens its operation over the held Slates of
its range, or answers HISTORY_GONE; GET_SLATE_STATUS answers its counts. But for this and the reply nothing changes. Rests on R3, R146,
R165, R166, R168, R169, R172 and R173. -/
def Obligations.SlateCommands : Prop :=
  ∀ (s : State),
    (∀ (h : Hdr), served s h 0x0302 →
       exec (.getFilters h) s = .next (answeredCmd s h 0x0302 stOk (le 2 s.slates.takedec ++ zeros 2 ++ s.slates.sets.flatMap (fun f => le 1 f.order ++ [0] ++ le 2 f.d) ++ le 1 s.slates.filterId ++ zeros 3))) ∧
    (∀ (h : Hdr) (f : Nat) (l : List Nat), served s h 0x0304 → sweepState s = true → 1 ≤ l.length → l.length ≤ 120 → ∀ x ∈ l, 1 ≤ x ∧
       x ≤ 65535 → rangeUnmapped s f l.length = false → ∃ t, exec (.setResistance h f l) s = .next t ∧
       (∃ r, t = answeredCmd { s with slates := { s.slates with rho := r } } h 0x0304 stOk [] ∧ r.length = s.slates.rho.length ∧ (∀ k, k < l.length → f - 1 + k < r.length → (r[f - 1 + k]?).map (·.nohm) = some (1000 * l.getD k 0)) ∧ (∀ k, k < f - 1 ∨ f - 1 + l.length ≤ k → r[k]? = s.slates.rho[k]?))) ∧
    (∀ (h : Hdr) (f n : Nat), served s h 0x0305 → 1 ≤ n → n ≤ 80 → rangeUnmapped s f n = false →
       exec (.getResistance h f n) s = .next (answeredCmd s h 0x0305 stOk ((List.range n).flatMap fun k => le 2 (sat 16 ((rhoOf s (f + k) + 500) / 1000)) ++ le 1 (b2n ((s.slates.rho[f + k - 1]?).any fun r => decide (4096 ≤ r.count)))))) ∧
    (∀ (h : Hdr) (q v : Nat), served s h 0x0308 → sweepState s = true → v ≤ 1 →
       ((s.slates.takes.any fun t => t.seq == q && awaitsVerdict t) = true) →
       exec (.sendVerdict h q v) s = .next (answeredCmd (setVerdict s q v) h 0x0308 stOk [])) ∧
    (∀ (h : Hdr) (q v : Nat), served s h 0x0308 → sweepState s = true → v ≤ 1 →
       ((s.slates.takes.any fun t => t.seq == q && awaitsVerdict t) = false) → s.slates.contHost = true →
       exec (.sendVerdict h q v) s = .next (answeredCmd s h 0x0308 0x82 [])) ∧
    (∀ (h : Hdr) (q v : Nat), served s h 0x0308 → sweepState s = true → v ≤ 1 →
       ((s.slates.takes.any fun t => t.seq == q && awaitsVerdict t) = false) → s.slates.contHost = false →
       exec (.sendVerdict h q v) s = .next (answeredCmd s h 0x0308 stRejected [])) ∧
    (∀ (h : Hdr) (es : List StreamSel), served s h 0x0309 → sweepState s = true → 1 ≤ es.length → es.length ≤ 33 → ∀ e ∈ es,
       e.form ≤ 2 ∧ 1 ≤ e.div ∧ e.div ≤ 1000 →
       exec (.setStream h es) s = .next (answeredCmd { s with slates := { s.slates with sel := es.foldl (fun l e => (l.filter fun x => x.pkg != e.pkg) ++ [e]) s.slates.sel } } h 0x0309 stOk [])) ∧
    (∀ (h : Hdr) (v : Int), served s h 0x030B → sweepState s = true →
       exec (.charge h 0 v) s = .next (answeredCmd s h 0x030B stOk (leInt 8 s.slates.charge ++ le 8 s.slates.chargeAt))) ∧
    (∀ (h : Hdr) (v : Int), served s h 0x030B → sweepState s = true → ownSource s = true →
       exec (.charge h 1 v) s = .next (answeredCmd { s with slates := { s.slates with presetWait := some (v, s.now) } } h 0x030B stOk (leInt 8 s.slates.charge ++ le 8 s.slates.chargeAt))) ∧
    (∀ (h : Hdr) (v : Int), served s h 0x030B → sweepState s = true → ownSource s = false →
       exec (.charge h 1 v) s = .next (answeredCmd s h 0x030B stRejected [])) ∧
    (∀ (h : Hdr), served s h 0x030C →
       exec (.getSlateStatus h) s = .next (answeredCmd s h 0x030C stOk (le 4 s.slates.published ++ le 4 s.slates.committed ++ le 4 s.slates.voided ++ le 4 s.slates.chainDrops ++ le 1 (s.slates.takes.filter (·.published)).length ++ le 1 s.slates.filterId ++ le 2 s.slates.history.length ++ le 4 s.slates.takeInt))) ∧
    (∀ (h : Hdr) (a b : Nat) (x : List Byte) (r : List (List Byte)), served s h 0x030A → canOpen s h → sweepState s = true →
       ((s.slates.history.filter fun l => decide (a ≤ slateClap l) && decide (slateClap l ≤ b)) = x :: r) →
       exec (.readHistory h a b) s = .next ({ (openedCmd s h 0x030A) with slates := { s.slates with reads := s.slates.reads ++ [{ hdr := h, left := x :: r, count := 0, firstTime := slateClap x }] } })) ∧
    (∀ (h : Hdr) (a b : Nat), served s h 0x030A → sweepState s = true →
       ((s.slates.history.filter fun l => decide (a ≤ slateClap l) && decide (slateClap l ≤ b)) = []) →
       exec (.readHistory h a b) s = .next (answeredCmd s h 0x030A 0x81 (zeros 12)))

/-- SLATE_PUBLISH publishes the oldest Take not yet published and counts it; with none nothing changes. DIE_BLOCK marks a die's block of
the oldest such Take good or bad, a bad one counted as a ring failure (`ringFailure`). CONTINUITY_WINDOW_CLOSE marks the result of the
die's oldest finished window sent; a mismatch raises CONTINUITY_MISMATCH with the first cell and makes every failed cell suspect.
CONTINUITY_VERDICT brings it to C, a bad check value counting as a ring failure; WINDOW_INCOMPLETE marks one missing that C lacks 10 µs
after its close. OPEN_WINDOW_FINISH lets a powered die complete its windows alone (`aloneReading`) when sweeps are quiet or it stops.
VERDICT_TIMEOUT voids a Slate that waited VERDICTTMO and raises its record. COMMIT_NOTICE, without an impedance run: the oldest Take,
once decided, leaves the queue with its notice and commits (`commitTake`), or is voided with its REASON and FAILMASK (`voidTake`);
undecided, nothing changes. CHARGE_PRESET_APPLY at the first Take boundary 100 µs after the acceptance: the preset is in force and waits
no more, the stored total unchanged. HISTORY_RECORD_WRITE writes the next record where room stays and completes the read with the last
one. Rests on R21 to R26, R78, R161 to R166, R168, R172, R210, R292, R303 and R465. -/
def Obligations.SlatePipeline : Prop :=
  ∀ (s : State),
    (∀ (k : Take), ((s.slates.takes.find? fun t => !t.published) = some k) → ∃ t, exec (.slatePublish) s = .next t ∧
       t.slates.takes.length = s.slates.takes.length ∧ t.slates.published = (s.slates.published + 1) % 2 ^ 32 ∧
       (∃ x ∈ t.slates.takes, x.seq = k.seq ∧ x.published = true ∧ x.publishedAt = s.now) ∧ t.metro = s.metro) ∧
    (((s.slates.takes.find? fun t => !t.published) = none) → exec (.slatePublish) s = .next (s)) ∧
    (∀ (k : Nat) (d : SegDie), s.die? k = some d →
       exec (.dieBlock k true) s = .next ({ s with slates := { s.slates with takes := blockGot k true s.slates.takes } })) ∧
    (∀ (k : Nat) (d : SegDie), s.die? k = some d →
       exec (.dieBlock k false) s = .next (ringFailure { s with slates := { s.slates with takes := blockGot k false s.slates.takes } } k)) ∧
    (∀ (k x : Nat) (l : List Nat) (d : SegDie) (w : Window), s.die? k = some d → findWindow s k windowDone = some w →
       w.fails = x :: l →
       exec (.continuityWindowClose k) s = .next (w.fails.foldl (fun s j => suspectCell s k j) (raise { s with slates := { s.slates with takes := updWindow k windowDone (fun w => { w with sent := some w.fails.isEmpty }) s.slates.takes } } k 1 0x21 (x - 1)))) ∧
    (∀ (k : Nat) (d : SegDie) (w : Window), s.die? k = some d → findWindow s k windowDone = some w → w.fails = [] →
       exec (.continuityWindowClose k) s = .next ({ s with slates := { s.slates with takes := updWindow k windowDone (fun w => { w with sent := some w.fails.isEmpty }) s.slates.takes } })) ∧
    (∀ (k : Nat) (d : SegDie), s.die? k = some d →
       exec (.continuityVerdict k true) s = .next ({ s with slates := { s.slates with takes := updWindow k windowSent (fun w => { w with got := some (b2n (w.sent == some false)) }) s.slates.takes } })) ∧
    (∀ (k : Nat) (d : SegDie), s.die? k = some d →
       exec (.windowIncomplete k) s = .next ({ s with slates := { s.slates with takes := updWindow k (windowLate s.now) (fun w => { w with got := some 2 }) s.slates.takes } })) ∧
    (∀ (k : Nat) (l : List Int) (d : SegDie), s.die? k = some d → sweepsQuiet s = true ∨ d.stopped = true → d.cutOff = false →
       d.unpowered = false →
       exec (.openWindowFinish k l) s = .next ((List.range ((s.slates.takes.flatMap (·.windows)).foldl (fun a w => if w.die = k then max a w.left else a) 0)).foldl (aloneReading k l) s)) ∧
    (∀ (x : Take),
       ((s.slates.takes.find? fun t => awaitsVerdict t && decide (t.publishedAt + s.slates.verdictTmo * msT ≤ s.now)) = some x) →
       exec (.verdictTimeout) s = .next (raise (setVerdict s x.seq 2) 0 1 0x22 (x.seq % 65536))) ∧
    (∀ (x : Take) (r : List Take), s.slates.takes = x :: r → decision x = some (0, 0) → s.imp.run = none →
       exec (.commitNotice) s = .next (commitTake (sendNotice { s with slates := { s.slates with takes := r, prepHold := false, summaries := s.slates.summaries.erase x.seq } } x 0 0) x)) ∧
    (∀ (x : Take) (r : List Take) (n m : Nat), s.slates.takes = x :: r → decision x = some (n, m) → n ≠ 0 → s.imp.run = none →
       exec (.commitNotice) s = .next (voidTake (sendNotice { s with slates := { s.slates with takes := r, prepHold := false, summaries := s.slates.summaries.erase x.seq } } x n m) x n m)) ∧
    (∀ (x : Take) (r : List Take), s.slates.takes = x :: r → decision x = none → exec (.commitNotice) s = .next (s)) ∧
    (∀ (p : Int × Nat) (k : Take), s.slates.presetWait = some p → s.slates.takes.getLast? = some k →
       p.2 + 100 * usT ≤ s.sweep.boundaryAt → k.boundary = s.sweep.boundaryPack → ∃ t, exec (.chargePresetApply) s = .next t ∧
       t.slates.presetWait = none ∧ t.slates.preset = p.1 * mAsUnit ∧ t.slates.gap = false ∧ t.slates.charge = s.slates.charge ∧
       t.metro = s.metro ∧ t.mem = s.mem) ∧
    (∀ (q : HistRead) (l : List HistRead), s.slates.reads = q :: l → q.left ≠ [] → streamRoom s 5 660 664 = false →
       exec (.historyRecordWrite) s = .next (s)) ∧
    (∀ (q : HistRead) (l : List HistRead) (x : List Byte) (m : List (List Byte)), s.slates.reads = q :: l → q.left = x :: m → m ≠ [] →
       streamRoom s 5 660 664 = true →
       exec (.historyRecordWrite) s = .next ({ sendRecord (endRun (streamWrite s 5 0 x) 0) 5 x with slates := { s.slates with reads := { q with left := m, count := q.count + 1 } :: l } })) ∧
    (∀ (q : HistRead) (l : List HistRead) (x : List Byte), s.slates.reads = q :: l → q.left = [x] → streamRoom s 5 660 664 = true →
       exec (.historyRecordWrite) s = .next (completeOp { sendRecord (endRun (streamWrite s 5 0 x) 0) 5 x with slates := { s.slates with reads := l } } q.hdr stOk (le 2 (q.count + 1) ++ zeros 2 ++ le 8 q.firstTime)))

/-- For a segment die that passes the gate of class 0x04 (`calGate`): CAL_START opens the session on an input that an entry names, with
its gain, the reference in use and the unit, and answers CAL_NOT_SWEPT otherwise; CAL_POINT in a session whose input is as it was opens a
point capture, without a session CAL_NO_SESSION; CAL_COMMIT of two points opens its operation, closes the session and stores the
coefficients of the points (`calCoeffs`), answers CAL_RANGE where they lie nearer than 10 % of the input span and CAL_INCOMPLETE where
one is missing; CAL_CANCEL closes the session; CAL_CELL_GAIN opens a capture of cells of the die; CAL_TAPS on fitted dies whose
conditions hold opens its run and starts its first step (`tapStepStart`); CAL_TAPS_STEP_END, where no die has failed: before 2048 sweeps
of the step nothing changes, then the step's transfers end, its results (`tapResults`) are kept and the next step starts, or after the
sixth the run ends (`finishTaps`); SET_TAP_RESISTANCE stores a value; GET_CALIBRATION answers up to 8 records from FROM with their total
and the lost channels; CAL_ERASE goes to the flash gate. FLASH_STEP_COMPLETE ends the first job (`applyJob`), and a deferred watchdog
reset follows, carrying RESET_DEFERRED. But for this, replies and operations nothing changes. That a session or capture in hand is not
displaced is a choice of the model (log entry 33). Rests on R179, R181, R182, R183, R185, R188, R191, R192, R200, R201, R202 and R428. -/
def Obligations.Calibration : Prop :=
  ∀ (s : State),
    (∀ (h : Hdr) (k x u : Nat) (d : SegDie) (e : SeqEntry), served s h 0x0401 → s.die? k = some d → calGate s k = none →
       s.cal.session = none → 24 ≤ x → x ≤ 31 → u ≤ 3 → d.entry? x = some e →
       exec (.calStart h k x u) s = .next (answeredCmd { s with cal := { s.cal with session := some { die := k, input := x, unit_ := u, gain := e.gain % 4, ref := refOf d x, low := none, high := none } } } h 0x0401 stOk [])) ∧
    (∀ (h : Hdr) (k x u : Nat) (d : SegDie), served s h 0x0401 → s.die? k = some d → calGate s k = none → s.cal.session = none →
       24 ≤ x → x ≤ 31 → u ≤ 3 → d.entry? x = none → exec (.calStart h k x u) s = .next (answeredCmd s h 0x0401 0x85 [])) ∧
    (∀ (h : Hdr) (n m : Nat) (v : Int) (q : CalSession) (d : SegDie), served s h 0x0402 → canOpen s h → s.cal.session = some q →
       s.die? q.die = some d → calGate s q.die = none → sessionBreak s q = none → s.cal.capture = none → n ≤ 1 → 16 ≤ m →
       m ≤ 4096 →
       exec (.calPoint h n m v) s = .next ({ (openedCmd s h 0x0402) with cal := { s.cal with capture := some { hdr := h, gainRun := false, kind := n, die := q.die, ntakes := m, applied := v, cells := [], acceptedAt := s.packTime, counted := 0, skipped := 0, seen := 0, values := [], tmin := 0, tmax := 0 } } })) ∧
    (∀ (h : Hdr) (n m : Nat) (v : Int), served s h 0x0402 → s.power.state = .run → s.cal.session = none → n ≤ 1 → 16 ≤ m → m ≤ 4096 →
       exec (.calPoint h n m v) s = .next (answeredCmd s h 0x0402 0x80 [])) ∧
    (∀ (h : Hdr) (q : CalSession) (d : SegDie) (a b : CalPt), served s h 0x0403 → canOpen s h → s.cal.session = some q →
       s.die? q.die = some d → calGate s q.die = none → sessionBreak s q = none → s.cal.capture = none → q.low = some a →
       q.high = some b → spanOf d q.input ≤ 10 * (b.mean - a.mean).natAbs →
       exec (.calCommit h) s = .next (storeCal { (openedCmd s h 0x0403) with cal := { s.cal with session := none } } [calRecord (openedCmd s h 0x0403) 0 q.die q.input (q.gain + 4 * q.ref + 16 * (q.unit_ % 4)) (calCoeffs a b).1 (calCoeffs a b).2] (some h) [])) ∧
    (∀ (h : Hdr) (q : CalSession) (d : SegDie) (a b : CalPt), served s h 0x0403 → s.cal.session = some q → s.die? q.die = some d →
       calGate s q.die = none → sessionBreak s q = none → s.cal.capture = none → q.low = some a → q.high = some b →
       10 * (b.mean - a.mean).natAbs < spanOf d q.input → exec (.calCommit h) s = .next (answeredCmd s h 0x0403 0x81 [])) ∧
    (∀ (h : Hdr) (q : CalSession) (d : SegDie), served s h 0x0403 → s.cal.session = some q → s.die? q.die = some d →
       calGate s q.die = none → sessionBreak s q = none → s.cal.capture = none → q.low = none ∨ q.high = none →
       exec (.calCommit h) s = .next (answeredCmd s h 0x0403 0x83 [])) ∧
    (∀ (h : Hdr) (q : CalSession) (d : SegDie), served s h 0x0404 → s.cal.session = some q → s.die? q.die = some d →
       calGate s q.die = none → s.cal.capture = none →
       exec (.calCancel h) s = .next (answeredCmd { s with cal := { s.cal with session := none } } h 0x0404 stOk [])) ∧
    (∀ (h : Hdr) (k m : Nat) (es : List TrueCell) (d : SegDie), served s h 0x0405 → canOpen s h → s.die? k = some d →
       calGate s k = none → ∀ e ∈ es, 1 ≤ e.cell ∧ e.cell ≤ d.cells → s.cal.capture = none →
       exec (.calCellGain h k m es) s = .next ({ (openedCmd s h 0x0405) with cal := { s.cal with capture := some { hdr := h, gainRun := true, kind := 0, die := k, ntakes := m, applied := 0, cells := es, acceptedAt := s.packTime, counted := 0, skipped := 0, seen := 0, values := [], tmin := 0, tmax := 0 } } })) ∧
    (∀ (h : Hdr) (m i : Nat), served s h 0x0406 → canOpen s h → s.power.state = .run → 200 ≤ i → i ≤ 2000 → bit m 1 = false →
       maskAbsent s m = false → (((s.segs.filter fun d => bit m d.code).any fun d => (calGate s d.code).isSome) = false) →
       s.cal.taps = none → (((s.segs.filter fun d => bit m d.code).any tapConditionsFail) = false) →
       exec (.calTaps h m i) s = .next (tapStepStart { (openedCmd s h 0x0406) with cal := { s.cal with taps := some { hdr := h, itest := i, step := 0, stepAt := s.now, dies := (s.segs.filter fun d => bit m d.code).map (·.code), failed := [], started := false, sweeps := 0, sums := [], found := [] } } })) ∧
    (∀ (l : List (Nat × Nat × Nat)) (q : TapRun), s.cal.taps = some q → tapFailures s q = [] → q.live ≠ [] → q.started = true →
       q.sweeps < 2048 → exec (.calTapsStepEnd l) s = .next (s)) ∧
    (∀ (l : List (Nat × Nat × Nat)) (q : TapRun), s.cal.taps = some q → tapFailures s q = [] → q.live ≠ [] → q.started = true →
       2048 ≤ q.sweeps → q.step < 5 →
       exec (.calTapsStepEnd l) s = .next (tapStepStart (stopWhere { s with cal := { s.cal with taps := some { q with step := q.step + 1, stepAt := s.now, started := false, found := q.found ++ (s.segs.filter fun d => q.live.contains d.code).flatMap (tapResults q l) } } } (fun x => x.hdr == some q.hdr) 0))) ∧
    (∀ (l : List (Nat × Nat × Nat)) (q : TapRun), s.cal.taps = some q → tapFailures s q = [] → q.live ≠ [] → q.started = true →
       2048 ≤ q.sweeps → q.step = 5 →
       exec (.calTapsStepEnd l) s = .next (let x : TapRun := { q with step := 6, stepAt := s.now, started := false, found := q.found ++ (s.segs.filter fun d => q.live.contains d.code).flatMap (tapResults q l) }; finishTaps (stopWhere { s with cal := { s.cal with taps := some x } } (fun x => x.hdr == some q.hdr) 0) x)) ∧
    (∀ (h : Hdr) (k x v : Nat) (d : SegDie), served s h 0x0407 → canOpen s h → s.die? k = some d → calGate s k = none → x ≤ 24 →
       exec (.setTapResistance h k x v) s = .next (storeCal (openedCmd s h 0x0407) [calRecord (openedCmd s h 0x0407) 2 k x 0 0 v] (some h) [])) ∧
    (∀ (h : Hdr) (k n f : Nat) (d : SegDie), served s h 0x0408 → s.die? k = some d → k ≠ 1 → n ≤ 2 →
       exec (.getCalibration h k n f) s = .next (answeredCmd s h 0x0408 stOk (le 1 ((heldCal s k n).drop f |>.take 8).length ++ le 1 (heldCal s k n).length ++ zeros 2 ++ le 4 ((s.cal.lost.filter fun x => x.1 == k && x.2.1 == n).foldl (fun a x => a ||| 2 ^ x.2.2) 0) ++ ((heldCal s k n).drop f |>.take 8).flatMap calBytes))) ∧
    (∀ (h : Hdr) (k n x : Nat) (d : SegDie), served s h 0x0409 → canOpen s h → s.die? k = some d → calGate s k = none → n ≤ 2 →
       exec (.calErase h k n x) s = .next (flashPush (openedCmd s h 0x0409) (.calErase k n x h))) ∧
    (∀ (j : FlashJob) (r : List FlashJob), s.flash.jobs = j :: r → s.flash.deferred = none →
       exec (.flashStepComplete) s = .next (applyJob { s with flash := { s.flash with jobs := r, stepAt := s.now } } j)) ∧
    (∀ (j : FlashJob) (r : List FlashJob) (k : Tick) (u : State), s.flash.jobs = j :: r → s.flash.deferred = some k →
       u = applyJob { s with flash := { s.flash with jobs := r, stepAt := s.now } } j → u.flash.deferred = some k →
       exec (.flashStepComplete) s = .next (partReset (carry u 10 0x8C ((u.now - k) / msT)) 1))

/-- PROBE_TAP answers REJECTED_STATE outside RUN, NOT_FITTED for a code that is no segment die, NOT_HOST_STEPPED in hardware mode and
TAP_IN_USE on a tap of a transfer; otherwise, where no earlier one waits at the die, its tap waits for its probe and the reply for the
verdict. GET_SENSE_STATUS answers the record of each die (`senseRecord`). RUN_MATRIX_TEST and RUN_LEAKAGE_TEST answer REJECTED_STATE
outside RUN; on fitted dies without a running test they open their operation and start on the groups of their mask (`startRun`), and the
limits of RUN_LEAKAGE_TEST become those of later tests. SET_THERMISTORS sets the mask and the limits of a die, with counts that start
afresh and causes of the inputs it no longer names dropped. But for this and the reply nothing changes. Choices of the model:
REJECTED_STATE before NOT_FITTED (log entry 116), and the fresh counts (log entry 149). Rests on R218, R220, R222, R224, R226, R228 and
R229. -/
def Obligations.SenseCommands : Prop :=
  ∀ (s : State),
    (∀ (h : Hdr) (k j : Nat), served s h 0x0B02 → s.power.state ≠ .run → j ≤ 24 →
       exec (.probeTap h k j) s = .next (answeredCmd s h 0x0B02 stRejected [])) ∧
    (∀ (h : Hdr) (k j : Nat), served s h 0x0B02 → s.power.state = .run → s.die? k = none → j ≤ 24 →
       exec (.probeTap h k j) s = .next (answeredCmd s h 0x0B02 stNotFitted [])) ∧
    (∀ (h : Hdr) (k j : Nat) (d : SegDie), served s h 0x0B02 → s.power.state = .run → s.die? k = some d → s.sense.stepped = false →
       j ≤ 24 → exec (.probeTap h k j) s = .next (answeredCmd s h 0x0B02 0x80 [])) ∧
    (∀ (h : Hdr) (k j : Nat) (d : SegDie), served s h 0x0B02 → s.power.state = .run → s.die? k = some d → s.sense.stepped = true →
       tapInUse d j = true → j ≤ 24 → exec (.probeTap h k j) s = .next (answeredCmd s h 0x0B02 0x82 [])) ∧
    (∀ (h : Hdr) (k j : Nat) (d : SegDie), served s h 0x0B02 → s.power.state = .run → s.die? k = some d → s.sense.stepped = true →
       tapInUse d j = false → d.probeWait = none → ((d.probe.any fun p => p.hdr.isSome) = false) → j ≤ 24 →
       exec (.probeTap h k j) s = .next ((dequeue s h 0x0B02).updDie k fun d => { d with probeWait := some (h, j, 0) })) ∧
    (∀ (h : Hdr), served s h 0x0B03 → exec (.getSenseStatus h) s = .next (answeredCmd s h 0x0B03 stOk (s.segs.flatMap (senseRecord s)))) ∧
    (∀ (h : Hdr) (m : Nat), served s h 0x0B04 → s.power.state ≠ .run →
       exec (.runMatrixTest h m) s = .next (answeredCmd s h 0x0B04 stRejected [])) ∧
    (∀ (h : Hdr) (m l v : Nat), served s h 0x0B05 → s.power.state ≠ .run → 5 ≤ l → l ≤ 1000 →
       exec (.runLeakageTest h m l v) s = .next (answeredCmd s h 0x0B05 stRejected [])) ∧
    (∀ (h : Hdr) (m : Nat), served s h 0x0B04 → canOpen s h → s.power.state = .run → maskAbsent s m = false → testsRun s m = false →
       exec (.runMatrixTest h m) s = .next (startRun (openedCmd s h 0x0B04) h false m)) ∧
    (∀ (h : Hdr) (m l v : Nat), served s h 0x0B05 → canOpen s h → s.power.state = .run → 5 ≤ l → l ≤ 1000 → maskAbsent s m = false →
       testsRun s m = false →
       exec (.runLeakageTest h m l v) s = .next (startRun { (openedCmd s h 0x0B05) with sense := { s.sense with leakThr := l, cin := v } } h true m)) ∧
    (∀ (h : Hdr) (k m o v : Nat) (d : SegDie), served s h 0x0B06 → s.die? k = some d → m ≤ 255 → o ≤ 65535 → v ≤ 65535 →
       exec (.setThermistors h k m o v) s = .next (answeredCmd (s.updDie k fun d => { d with thermMask := m, openLim := o, shortLim := v, thermCnt := List.replicate 8 (0, 0, 0, 0), thermOpen := d.thermOpen.filter fun i => bit m (i - 24), thermShort := d.thermShort.filter fun i => bit m (i - 24) }) h 0x0B06 stOk []))

/-- OPEN_TAP_PROBE_START, where the die can probe (`canProbe`): the tap of a waiting PROBE_TAP, a suspect or the schedule's tap
(`nextProbe`) is probed from the baseline readings, with the Dollies gated for them; with no such tap nothing changes. OPEN_TAP_VERDICT,
444 µs after the start, gates them for the check and the restore step; a pack current change above 2 A gives no verdict and the tap waits
again; on an interior tap, both cells off by 100 mV towards each other with the span within 15 mV raises OPEN_TAP, both within 30 mV is
CONNECTED (`tapConnected`) and, for PROBE_TAP, answers the nine readings and the verdict, and anything else is INCONCLUSIVE
(`tapUnclear`). REF_XCHECK_BLOCK after 256 sweeps: fewer than 64 pairs, or a block substituted in part, gives no result; else REFERR is
set, and an error above 0.25 % starts the self-test, or waits where the die cannot run one. MATRIX_TEST_STEP: 0.5 ms after the last step
a passing step is counted; 50 mV or more in step 1 with a span seen fails as stuck closed with the span's tap; after step 21 a passing
test that no run or clear waits for ends. LEAKAGE_TEST_END 51 ms after the start: up to LEAKTHR the test ends, above it FILTER_LEAKAGE is
raised with the group and the µA. GROUP_TEST_DUE in hardware mode in RUN: a group that is due, or idle for an hour, starts its matrix
test, or waits while it transfers. But for this nothing changes. Rests on R213 to R218, R221, R222, R224, R225, R228 and R229. -/
def Obligations.SenseTests : Prop :=
  ∀ (s : State),
    (∀ (k j : Nat) (b : Bool) (r : ProbeReading) (i : Int) (d : SegDie), s.die? k = some d → canProbe s d = true →
       ((d.probeWait.filter fun w => !tapInUse d w.2.1) = none) → nextProbe s d = some (j, b) →
       exec (.openTapProbeStart k r i) s = .next (probeGates (s.updDie k fun e => { e with probe := some { tap := j, baseline := probeReading d j r, current := i, startedAt := s.now, sched := b, hdr := none, retries := 0 }, suspects := if b then e.suspects else e.suspects.filter (· != j), probeAt := if b then some s.now else e.probeAt, cycleAt := if b && decide (e.nextTap = 0) then some s.now else e.cycleAt, nextTap := if b then (e.nextTap + 1) % (e.cells + 1) else e.nextTap }) k j s.now)) ∧
    (∀ (k j n : Nat) (r : ProbeReading) (i : Int) (d : SegDie) (w : Hdr), s.die? k = some d → canProbe s d = true →
       ((d.probeWait.filter fun w => !tapInUse d w.2.1) = some (w, j, n)) →
       exec (.openTapProbeStart k r i) s = .next (probeGates (s.updDie k fun e => { e with probe := some { tap := j, baseline := probeReading d j r, current := i, startedAt := s.now, sched := false, hdr := some w, retries := n }, probeWait := none }) k j s.now)) ∧
    (∀ (k : Nat) (r : ProbeReading) (i : Int) (d : SegDie), s.die? k = some d → canProbe s d = true → nextProbe s d = none →
       exec (.openTapProbeStart k r i) s = .next (s)) ∧
    (∀ (k : Nat) (a r : ProbeReading) (i : Int) (d : SegDie) (p : Probe), s.die? k = some d → d.probe = some p →
       p.startedAt + 444 * usT ≤ s.now → p.hdr = none → s.faults.clearing = none → 2000 < (i - p.current).natAbs →
       p.sched = true →
       exec (.openTapVerdict k a r i) s = .next ((probeGates (probeGates s k p.tap (p.startedAt + 220 * usT)) k p.tap (p.startedAt + 444 * usT)).updDie k (fun e => { e with probe := none }) |>.updDie k fun e => { e with nextTap := p.tap, cycleAt := if p.tap = 0 then none else e.cycleAt })) ∧
    (∀ (k : Nat) (a r : ProbeReading) (i : Int) (d : SegDie) (p : Probe), s.die? k = some d → d.probe = some p →
       p.startedAt + 444 * usT ≤ s.now → p.hdr = none → s.faults.clearing = none → 2000 < (i - p.current).natAbs →
       p.sched = false →
       exec (.openTapVerdict k a r i) s = .next ((probeGates (probeGates s k p.tap (p.startedAt + 220 * usT)) k p.tap (p.startedAt + 444 * usT)).updDie k (fun e => { e with probe := none }) |>.updDie k fun e => { e with suspects := p.tap :: e.suspects })) ∧
    (∀ (k : Nat) (a r : ProbeReading) (i : Int) (d : SegDie) (p : Probe), s.die? k = some d → d.probe = some p →
       p.startedAt + 444 * usT ≤ s.now → p.hdr = none → s.faults.clearing = none → (i - p.current).natAbs ≤ 2000 → 0 < p.tap →
       p.tap < d.cells → cellReading a.cellM ≤ p.baseline.cellM - 100000 → p.baseline.cellM1 + 100000 ≤ cellReading a.cellM1 →
       (spanReading a.span - p.baseline.span).natAbs ≤ 15000 →
       exec (.openTapVerdict k a r i) s = .next (raise ((probeGates (probeGates s k p.tap (p.startedAt + 220 * usT)) k p.tap (p.startedAt + 444 * usT)).updDie k (fun e => { e with probe := none }) |>.updDie k fun e => { e with inconclusive := e.inconclusive.set p.tap 0, connected := e.connected.filter (· != p.tap) }) k 8 0x93 p.tap)) ∧
    (∀ (k : Nat) (a r : ProbeReading) (i : Int) (d : SegDie) (p : Probe), s.die? k = some d → d.probe = some p →
       p.startedAt + 444 * usT ≤ s.now → p.hdr = none → s.faults.clearing = none → (i - p.current).natAbs ≤ 2000 → 0 < p.tap →
       p.tap < d.cells → (cellReading a.cellM - p.baseline.cellM).natAbs < 30000 →
       (cellReading a.cellM1 - p.baseline.cellM1).natAbs < 30000 →
       exec (.openTapVerdict k a r i) s = .next (tapConnected ((probeGates (probeGates s k p.tap (p.startedAt + 220 * usT)) k p.tap (p.startedAt + 444 * usT)).updDie k fun e => { e with probe := none }) k p.tap (probeReading d p.tap r))) ∧
    (∀ (k : Nat) (a r : ProbeReading) (i : Int) (d : SegDie) (p : Probe) (w : Hdr), s.die? k = some d → d.probe = some p →
       p.startedAt + 444 * usT ≤ s.now → p.hdr = some w → s.faults.clearing = none → (i - p.current).natAbs ≤ 2000 → 0 < p.tap →
       p.tap < d.cells → (cellReading a.cellM - p.baseline.cellM).natAbs < 30000 →
       (cellReading a.cellM1 - p.baseline.cellM1).natAbs < 30000 →
       exec (.openTapVerdict k a r i) s = .next (reply (tapConnected ((probeGates (probeGates s k p.tap (p.startedAt + 220 * usT)) k p.tap (p.startedAt + 444 * usT)).updDie k fun e => { e with probe := none }) k p.tap (probeReading d p.tap r)) w 0x0B02 stOk (readingBytes p.baseline ++ readingBytes (probeReading d p.tap a) ++ readingBytes (probeReading d p.tap r) ++ [0, 0, 0, 0]))) ∧
    (∀ (k : Nat) (a r : ProbeReading) (i : Int) (d : SegDie) (p : Probe), s.die? k = some d → d.probe = some p →
       p.startedAt + 444 * usT ≤ s.now → p.hdr = none → s.faults.clearing = none → (i - p.current).natAbs ≤ 2000 → 0 < p.tap →
       p.tap < d.cells → 30000 ≤ (cellReading a.cellM - p.baseline.cellM).natAbs →
       p.baseline.cellM - 100000 < cellReading a.cellM →
       exec (.openTapVerdict k a r i) s = .next (tapUnclear ((probeGates (probeGates s k p.tap (p.startedAt + 220 * usT)) k p.tap (p.startedAt + 444 * usT)).updDie k fun e => { e with probe := none }) k p.tap)) ∧
    (∀ (k : Nat) (d : SegDie), s.die? k = some d → 256 ≤ d.xcSweeps → d.xcSub = true ∨ d.xcPairs < 64 →
       exec (.refXcheckBlock k) s = .next (s.updDie k fun e => { e with xcD := 0, xcM := 0, xcPairs := 0, xcSweeps := 0, xcSub := false })) ∧
    (∀ (k : Nat) (d : SegDie), s.die? k = some d → 256 ≤ d.xcSweeps → d.xcSub = false → 64 ≤ d.xcPairs → 0 < d.xcM →
       (d.xcD - d.xcM).natAbs * 10000 ≤ 25 * d.xcM.toNat →
       exec (.refXcheckBlock k) s = .next (s.updDie k (fun e => { e with xcD := 0, xcM := 0, xcPairs := 0, xcSweeps := 0, xcSub := false }) |>.updDie k fun e => { e with refErr := divRound ((d.xcD - d.xcM) * 100000) d.xcM.toNat })) ∧
    (∀ (k : Nat) (d : SegDie), s.die? k = some d → 256 ≤ d.xcSweeps → d.xcSub = false → 64 ≤ d.xcPairs → 0 < d.xcM →
       canTest s d = true → 25 * d.xcM.toNat < (d.xcD - d.xcM).natAbs * 10000 →
       exec (.refXcheckBlock k) s = .next (s.updDie k (fun e => { e with xcD := 0, xcM := 0, xcPairs := 0, xcSweeps := 0, xcSub := false }) |>.updDie k (fun e => { e with refErr := divRound ((d.xcD - d.xcM) * 100000) d.xcM.toNat }) |>.updDie k fun e => { e with xcWait := false, test := { e.test with running := true, xcheck := true } })) ∧
    (∀ (k : Nat) (d : SegDie), s.die? k = some d → 256 ≤ d.xcSweeps → d.xcSub = false → 64 ≤ d.xcPairs → 0 < d.xcM →
       canTest s d = false → 25 * d.xcM.toNat < (d.xcD - d.xcM).natAbs * 10000 →
       exec (.refXcheckBlock k) s = .next (s.updDie k (fun e => { e with xcD := 0, xcM := 0, xcPairs := 0, xcSweeps := 0, xcSub := false }) |>.updDie k (fun e => { e with refErr := divRound ((d.xcD - d.xcM) * 100000) d.xcM.toNat }) |>.updDie k fun e => { e with xcWait := true })) ∧
    (∀ (k g v e : Nat) (d : SegDie) (y : Dolly) (q : GroupTest), s.die? k = some d → d.dolly? g = some y → y.test = some q →
       q.leak = false → q.at_ + 500 * usT ≤ s.now → q.result = 0 → q.step < 20 → matrixStep d g (q.step + 1) v e = none →
       exec (.matrixTestStep k g v e) s = .next (s.updDolly k g fun y => { y with test := some { q with step := q.step + 1, at_ := s.now } })) ∧
    (∀ (k g v e : Nat) (d : SegDie) (y : Dolly) (q : GroupTest), s.die? k = some d → d.dolly? g = some y → y.test = some q →
       q.leak = false → q.at_ + 500 * usT ≤ s.now → q.result = 0 → q.step = 0 → 50 ≤ v → e ≠ 0 →
       exec (.matrixTestStep k g v e) s = .next (s.updDolly k g fun y => { y with test := some { q with step := 1, at_ := s.now, result := 2, tap := e, rail := 1 } })) ∧
    (∀ (k g v e : Nat) (d : SegDie) (y : Dolly) (q : GroupTest), s.die? k = some d → d.dolly? g = some y → y.test = some q →
       q.leak = false → q.at_ + 500 * usT ≤ s.now → q.step = 20 → q.result = 0 → v < 50 → y.testDue = false →
       s.faults.clearing = none → s.sense.runs = [] →
       exec (.matrixTestStep k g v e) s = .next (s.updDolly k g fun y => { y with test := none, testedAt := some s.now, used := false })) ∧
    (∀ (k g v w : Nat) (d : SegDie) (y : Dolly) (q : GroupTest), s.die? k = some d → d.dolly? g = some y → y.test = some q →
       q.leak = true → q.at_ + 51 * msT ≤ s.now → s.sense.cin * (v - w) ≤ 500 * s.sense.leakThr → s.sense.runs = [] →
       exec (.leakageTestEnd k g v w) s = .next (s.updDolly k g fun y => { y with test := none, testedAt := some s.now, testDue := false, used := false })) ∧
    (∀ (k g v w : Nat) (d : SegDie) (y : Dolly) (q : GroupTest), s.die? k = some d → d.dolly? g = some y → y.test = some q →
       q.leak = true → q.at_ + 51 * msT ≤ s.now → 500 * s.sense.leakThr < s.sense.cin * (v - w) →
       exec (.leakageTestEnd k g v w) s = .next (noteTest (raise (s.updDolly k g fun y => { y with test := none, testedAt := some s.now, testDue := false, used := false }) k 7 0x9B (4096 * g + min 4095 (s.sense.cin * (v - w) / 500))) k g true (le 2 (min 0xFFFE (s.sense.cin * (v - w) / 500))))) ∧
    (∀ (k g : Nat) (d : SegDie) (y : Dolly), s.die? k = some d → d.dolly? g = some y → s.sense.stepped = false → s.power.state = .run →
       d.unpowered = false → d.stopped = false →
       ((y.testDue || y.testedAt.all fun t => !y.used && decide (t + 3600 * secT ≤ s.now)) = true) → y.transfer = none →
       y.test = none → y.withdrawn = [] →
       exec (.groupTestDue k g) s = .next (s.updDolly k g (fun y => { y with testDue := true }) |>.updDolly k g fun y => { y with test := some { group := g, leak := false, step := 0, result := 0, tap := 0, rail := 0, at_ := s.now } })) ∧
    (∀ (k g : Nat) (d : SegDie) (y : Dolly), s.die? k = some d → d.dolly? g = some y → s.sense.stepped = false → s.power.state = .run →
       d.unpowered = false → d.stopped = false →
       ((y.testDue || y.testedAt.all fun t => !y.used && decide (t + 3600 * secT ≤ s.now)) = true) → y.transfer.isSome = true →
       exec (.groupTestDue k g) s = .next (s.updDolly k g fun y => { y with testDue := true }))

/-- SET_SPANS in RUN sets the spans and frequencies of the Dollies of the fitted dies it names; it answers REJECTED_STATE outside RUN,
SPAN_INVALID for a straddling span of the highest die and DOLLIES_ACTIVE while a transfer runs on a named die. SET_CELL_CAPACITY and, in
RUN, SET_CHARGE_GOAL replace the values of mapped cells (`setFrom`), and answer NOT_FITTED beyond them; SET_CHARGE_GOAL answers
REJECTED_STATE outside RUN. DOLLY_ORDER in RUN with balancing host-assisted: mode 0 ends the transfer of a Dolly that is not withdrawn
and whose transfer holds it not, and answers the pack time; mode 1 or 2, where nothing keeps the transfer from starting (`orderBlock`
none), starts it at the lower of ISET and the die's limit for its duration and charge limit and answers that current; otherwise it
answers the status of `orderBlock`, with DOLLY_WITHDRAWN for a withdrawn Dolly, DOLLY_HELD for a held one, CELL_NOT_SERVED for a cell
outside its group and CELL_OUTSIDE_GUARD for one that meets the end guard; in hardware mode it answers NOT_HOST_ASSISTED.
SET_DOLLY_LIMITS and SET_SLEEP_BALANCE store their values. GET_PLAN and GET_BALANCE_STATUS answer the records of a segment die, and
NOT_FITTED for any other code. Choices of the model: the status where R249 lists none (log entry 54), REJECTED_STATE before NOT_FITTED
(log entry 116), the answer for C and M (log entry 118), and which transfers a stop order leaves (log entry 143). Rests on R3, R235,
R236, R240, R243, R247 to R249, R256, R258 and R259. -/
def Obligations.DollyCommands : Prop :=
  ∀ (s : State),
    (∀ (h : Hdr) (es : List SpanEntry), served s h 0x0501 → s.power.state = .run → 1 ≤ es.length → es.length ≤ 6 → ∀ e ∈ es,
       15 ≤ e.fsw ∧ e.fsw ≤ 40 → ((es.any fun e => (s.die? e.die).isNone) = false) →
       ((es.any fun e => decide (e.straddle % 16 ≠ 0) && (dieAbove s e.die).isNone) = false) →
       ((es.any fun e => (s.die? e.die).any fun d => d.dollies.any fun y => y.transfer.isSome) = false) →
       exec (.setSpans h es) s = .next (answeredCmd (es.foldl (fun s e => s.updDie e.die fun d => { d with dollies := d.dollies.zipIdx.map fun p => { p.1 with straddle := bit e.straddle p.2, fsw := e.fsw } }) s) h 0x0501 stOk [])) ∧
    (∀ (h : Hdr) (es : List SpanEntry), served s h 0x0501 → s.power.state ≠ .run → 1 ≤ es.length → es.length ≤ 6 → ∀ e ∈ es,
       15 ≤ e.fsw ∧ e.fsw ≤ 40 → exec (.setSpans h es) s = .next (answeredCmd s h 0x0501 stRejected [])) ∧
    (∀ (h : Hdr) (es : List SpanEntry), served s h 0x0501 → s.power.state = .run → 1 ≤ es.length → es.length ≤ 6 → ∀ e ∈ es,
       15 ≤ e.fsw ∧ e.fsw ≤ 40 → ((es.any fun e => (s.die? e.die).isNone) = false) →
       ((es.any fun e => decide (e.straddle % 16 ≠ 0) && (dieAbove s e.die).isNone) = true) →
       exec (.setSpans h es) s = .next (answeredCmd s h 0x0501 0x82 [])) ∧
    (∀ (h : Hdr) (es : List SpanEntry), served s h 0x0501 → s.power.state = .run → 1 ≤ es.length → es.length ≤ 6 → ∀ e ∈ es,
       15 ≤ e.fsw ∧ e.fsw ≤ 40 → ((es.any fun e => (s.die? e.die).isNone) = false) →
       ((es.any fun e => decide (e.straddle % 16 ≠ 0) && (dieAbove s e.die).isNone) = false) →
       ((es.any fun e => (s.die? e.die).any fun d => d.dollies.any fun y => y.transfer.isSome) = true) →
       exec (.setSpans h es) s = .next (answeredCmd s h 0x0501 0x86 [])) ∧
    (∀ (h : Hdr) (n : Nat) (l : List Nat), served s h 0x0503 → 1 ≤ l.length → l.length ≤ 120 → rangeUnmapped s n l.length = false →
       exec (.setCellCapacity h n l) s = .next (answeredCmd { s with balance := { s.balance with dqdv := setFrom s.balance.dqdv (n - 1) l } } h 0x0503 stOk [])) ∧
    (∀ (h : Hdr) (n : Nat) (l : List Nat), served s h 0x0503 → 1 ≤ l.length → l.length ≤ 120 → rangeUnmapped s n l.length = true →
       exec (.setCellCapacity h n l) s = .next (answeredCmd s h 0x0503 stNotFitted [])) ∧
    (∀ (h : Hdr) (n : Nat) (l : List Int), served s h 0x0504 → s.power.state = .run → 1 ≤ l.length → l.length ≤ 60 →
       rangeUnmapped s n l.length = false →
       exec (.setChargeGoal h n l) s = .next (answeredCmd { s with balance := { s.balance with charge := setFrom s.balance.charge (n - 1) l } } h 0x0504 stOk [])) ∧
    (∀ (h : Hdr) (n : Nat) (l : List Int), served s h 0x0504 → s.power.state = .run → 1 ≤ l.length → l.length ≤ 60 →
       rangeUnmapped s n l.length = true → exec (.setChargeGoal h n l) s = .next (answeredCmd s h 0x0504 stNotFitted [])) ∧
    (∀ (h : Hdr) (n : Nat) (l : List Int), served s h 0x0504 → s.power.state ≠ .run → 1 ≤ l.length → l.length ≤ 60 →
       exec (.setChargeGoal h n l) s = .next (answeredCmd s h 0x0504 stRejected [])) ∧
    (∀ (h : Hdr) (k j m x i u q : Nat) (d : SegDie), served s h 0x0506 → s.power.state = .run → s.die? k = some d →
       s.balance.hostMode = false → m ≤ 2 → 50 ≤ i → i ≤ 3000 → 10 ≤ u → u ≤ 600000 →
       exec (.dollyOrder h k j m x i u q) s = .next (answeredCmd s h 0x0506 0x81 [])) ∧
    (∀ (h : Hdr) (k j x i u q : Nat) (d : SegDie) (y : Dolly), served s h 0x0506 → s.power.state = .run → s.balance.hostMode = true →
       s.die? k = some d → d.dolly? j = some y → y.withdrawn = [] → y.transfer.any (·.holds) = false →
       exec (.dollyOrder h k j 0 x i u q) s = .next (reply (endFree (dequeue s h 0x0506) k j 3) h 0x0506 stOk (zeros 4 ++ le 8 s.packTime))) ∧
    (∀ (h : Hdr) (k j m x i u q : Nat) (d : SegDie) (y : Dolly), served s h 0x0506 → s.power.state = .run → s.balance.hostMode = true →
       s.die? k = some d → d.dolly? j = some y → 1 ≤ m → m ≤ 2 → 50 ≤ i → i ≤ 3000 → 10 ≤ u → u ≤ 600000 →
       orderBlock s d j y m x = none →
       exec (.dollyOrder h k j m x i u q) s = .next (reply (startTransfer (dequeue s h 0x0506) k j { mode := m, cell := x, set_ := i, running := min i (dieLimit s d), start := s.packTime, endAt := s.now + u * msT, lease := false, qlimit := q, freq := 0, iamp := 0, t0 := 0, hdr := none, remain := none, check := false }) h 0x0506 stOk (le 2 (min i (dieLimit s d)) ++ zeros 2 ++ le 8 s.packTime))) ∧
    (∀ (h : Hdr) (k j m x i u q : Nat) (d : SegDie) (y : Dolly) (e : Nat), served s h 0x0506 → s.power.state = .run →
       s.balance.hostMode = true → s.die? k = some d → d.dolly? j = some y → 1 ≤ m → m ≤ 2 → 50 ≤ i → i ≤ 3000 → 10 ≤ u →
       u ≤ 600000 → orderBlock s d j y m x = some e → exec (.dollyOrder h k j m x i u q) s = .next (answeredCmd s h 0x0506 e [])) ∧
    (∀ (h : Hdr) (k j m x i u q : Nat) (d : SegDie) (y : Dolly), served s h 0x0506 → s.power.state = .run → s.balance.hostMode = true →
       s.die? k = some d → d.dolly? j = some y → m ≤ 2 → 50 ≤ i → i ≤ 3000 → 10 ≤ u → u ≤ 600000 → y.withdrawn ≠ [] →
       exec (.dollyOrder h k j m x i u q) s = .next (answeredCmd s h 0x0506 0x80 [])) ∧
    (∀ (h : Hdr) (k j m x i u q : Nat) (d : SegDie) (y : Dolly), served s h 0x0506 → s.power.state = .run → s.balance.hostMode = true →
       s.die? k = some d → d.dolly? j = some y → 1 ≤ m → m ≤ 2 → 50 ≤ i → i ≤ 3000 → 10 ≤ u → u ≤ 600000 → y.withdrawn = [] →
       dollyHeld s d j = true → exec (.dollyOrder h k j m x i u q) s = .next (answeredCmd s h 0x0506 0x83 [])) ∧
    (∀ (h : Hdr) (k j m x i u q : Nat) (d : SegDie) (y : Dolly), served s h 0x0506 → s.power.state = .run → s.balance.hostMode = true →
       s.die? k = some d → d.dolly? j = some y → 1 ≤ m → m ≤ 2 → 50 ≤ i → i ≤ 3000 → 10 ≤ u → u ≤ 600000 → y.withdrawn = [] →
       dollyHeld s d j = false → inGroup d j x = false →
       exec (.dollyOrder h k j m x i u q) s = .next (answeredCmd s h 0x0506 0x87 [])) ∧
    (∀ (h : Hdr) (k j m x i u q : Nat) (d : SegDie) (y : Dolly), served s h 0x0506 → s.power.state = .run → s.balance.hostMode = true →
       s.die? k = some d → d.dolly? j = some y → 1 ≤ m → m ≤ 2 → 50 ≤ i → i ≤ 3000 → 10 ≤ u → u ≤ 600000 → y.withdrawn = [] →
       dollyHeld s d j = false → inGroup d j x = true → meetsGuard s d m x = true →
       exec (.dollyOrder h k j m x i u q) s = .next (answeredCmd s h 0x0506 0x84 [])) ∧
    (∀ (h : Hdr) (a b l : Nat), served s h 0x0507 → 1000000 ≤ a → a ≤ 5000000 → 1000000 ≤ b → b ≤ 5000000 → 10 ≤ l → l ≤ 10000 →
       exec (.setDollyLimits h a b l) s = .next (answeredCmd { s with balance := { s.balance with cellHi := a, cellLo := b, lease := l } } h 0x0507 stOk [])) ∧
    (∀ (h : Hdr) (e p a b i m : Nat), served s h 0x0509 → e ≤ 1 → 10 ≤ p → p ≤ 3600 → 50 ≤ i → i ≤ 3000 → 10 ≤ m → m ≤ 3600 →
       exec (.setSleepBalance h e p a b i m) s = .next (answeredCmd { s with balance := { s.balance with sleepOn := e != 0, sleepPeriod := p, sleepTarget := a, sleepBand := b, isleep := i, maxAwake := m } } h 0x0509 stOk [])) ∧
    (∀ (h : Hdr) (k : Nat) (d : SegDie), served s h 0x050A → s.die? k = some d →
       exec (.getPlan h k) s = .next (answeredCmd s h 0x050A stOk (d.dollies.zipIdx.flatMap fun p => planRecord s d (p.2 + 1) p.1))) ∧
    (∀ (h : Hdr) (k : Nat), served s h 0x050A → s.die? k = none → exec (.getPlan h k) s = .next (answeredCmd s h 0x050A stNotFitted [])) ∧
    (∀ (h : Hdr) (k : Nat) (d : SegDie), served s h 0x050B → s.die? k = some d →
       exec (.getBalanceStatus h k) s = .next (answeredCmd s h 0x050B stOk (le 1 k ++ le 1 (maskOf ((d.dollies.zipIdx.filter fun p => !p.1.withdrawn.isEmpty).map (·.2))) ++ le 1 (if s.balance.imax = 0 then 100 else min 100 (d.limit * 100 / s.balance.imax)) ++ le 1 (b2n s.balance.hostMode + 2 * b2n s.balance.hostCaps + 4 * b2n s.balance.sleepOn) ++ le 4 d.sleep.wakes ++ le 4 d.sleep.seconds ++ le 4 (nth s.balance.shortfall (k - 2) 0) ++ d.dollies.flatMap (fun y => le 4 y.moved) ++ le 4 (d.lossMj / 1000) ++ le 2 s.balance.recDrop ++ zeros 2))) ∧
    (∀ (h : Hdr) (k : Nat), served s h 0x050B → s.die? k = none →
       exec (.getBalanceStatus h k) s = .next (answeredCmd s h 0x050B stNotFitted []))

/-- PLANNER_PREPARE in RUN with a goal and planning on: a Slate that committed before its items were ready, else the oldest published one
with room in the planner and without items, gets its items (`planOn`) with the undecided Slates up to its own as their dependency set; in
host-assisted mode, without a goal, outside RUN or before the planner runs again nothing changes. DOLLY_APPLY_ITEM: the oldest item of
the Dolly whose dependencies are committed leaves the list and acts (`applyItem`), on a held Dolly only as a stop; a renewal of the
running transfer sets its current under the limit and its lease anew; with no such item nothing changes. A lease that has run out ends
the transfer and raises DOLLY_LEASE_EXPIRED, one that has not changes nothing; a reached charge limit ends a transfer with end cause 0, a
duration that has run out with 1. DOLLY_OVERCURRENT, DOLLY_REGULATION, DOLLY_NO_TRANSFER, and DOLLY_SPAN_VOLTAGE beyond 2.0 V to 4.6 V a
cell, of a running transfer, and DOLLY_DRIVER_SUPPLY of a powered die, are recorded with their detail (`dieFault`: raised, or in SLEEP
kept by the die, which withdraws the Dolly itself), and a clear that waits is looked at (`finishClear`). A check transfer that has run
its time ends; a clean one lifts from its Dolly the kinds that the clear in progress may lift. DOLLY_THERMAL_RESUME after 2 s: the
Dollies of the die may start again. But for this nothing changes. Rests on R26 to R29, R232, R239, R241, R242, R244, R246, R247, R252,
R255 and R260. -/
def Obligations.DollyEvents : Prop :=
  ∀ (s : State),
    (∀ (g : Take) (r : List Take), s.power.state = .run → s.balance.hostMode = false → s.balance.goal ≠ 0 → s.balance.planned = true →
       s.slates.late = g :: r → exec (.plannerPrepare) s = .next (planOn { s with slates := { s.slates with late := r } } g [])) ∧
    (∀ (g : Take), s.power.state = .run → s.balance.hostMode = false → s.balance.goal ≠ 0 → s.balance.planned = true →
       s.slates.late = [] → ((s.slates.takes.find? fun t => t.published && t.prepared && !t.planned) = some g) →
       exec (.plannerPrepare) s = .next (planOn { s with slates := { s.slates with takes := upd s.slates.takes (fun x => x.seq == g.seq) fun x => { x with planned := true } } } g ((s.slates.takes.takeWhile fun x => x.seq != g.seq).map (·.seq) ++ [g.seq]))) ∧
    (s.balance.hostMode = true ∨ s.balance.goal = 0 ∨ s.power.state ≠ .run ∨ s.balance.planned = false →
       exec (.plannerPrepare) s = .next (s)) ∧
    (∀ (k j : Nat) (d : SegDie) (y : Dolly) (i : PlanItem), s.die? k = some d → d.dolly? j = some y → s.power.state = .run →
       s.balance.planned = true → i.mode = 0 ∨ dollyHeld s d j = false →
       ((s.balance.items.find? fun i => i.die == k && i.dolly == j && (i.released || i.deps.isEmpty)) = some i) →
       exec (.dollyApplyItem k j) s = .next (applyItem { s with balance := { s.balance with items := s.balance.items.erase i } } d j y i)) ∧
    (∀ (k j : Nat) (d : SegDie) (y : Dolly) (i : PlanItem) (p : DollyTransfer), s.die? k = some d → d.dolly? j = some y →
       y.transfer = some p → s.power.state = .run → s.balance.planned = true → dollyHeld s d j = false →
       ((s.balance.items.find? fun i => i.die == k && i.dolly == j && (i.released || i.deps.isEmpty)) = some i) →
       i.mode = p.mode → i.cell = p.cell → p.lease = true → i.mode ≠ 0 →
       exec (.dollyApplyItem k j) s = .next (let u := { s with balance := { s.balance with items := s.balance.items.erase i } }; (if min i.iset (dieLimit s d) = p.running then u else dollyChanged u k).updDolly k j fun y => { y with transfer := some { p with set_ := i.iset, running := min i.iset (dieLimit s d), endAt := s.now + s.balance.lease * msT, remain := i.remain, ran := p.ran + p.running * (s.now - p.ranAt), ranAt := s.now } })) ∧
    (∀ (k j : Nat) (d : SegDie), s.die? k = some d →
       ((s.balance.items.find? fun i => i.die == k && i.dolly == j && (i.released || i.deps.isEmpty)) = none) →
       exec (.dollyApplyItem k j) s = .next (s)) ∧
    (∀ (k j : Nat) (v : Int) (w : Nat) (d : SegDie) (y : Dolly) (p : DollyTransfer), s.die? k = some d → d.dolly? j = some y →
       y.transfer = some p → p.lease = true → p.endAt ≤ s.now →
       exec (.dollyLeaseExpired k j v w) s = .next (raise (endMeasured s k j 2 v w) k (2 + j) 0x38 (256 * j + p.cell))) ∧
    (∀ (k j : Nat) (v : Int) (w : Nat) (d : SegDie) (y : Dolly) (p : DollyTransfer), s.die? k = some d → d.dolly? j = some y →
       y.transfer = some p → s.now < p.endAt → exec (.dollyLeaseExpired k j v w) s = .next (s)) ∧
    (∀ (k j : Nat) (v : Int) (w : Nat) (d : SegDie) (y : Dolly) (p : DollyTransfer), s.die? k = some d → d.dolly? j = some y →
       y.transfer = some p → p.holds = false → p.check = false → p.qlimit ≠ 0 → p.qlimit ≤ v.natAbs →
       exec (.transferLimitEnd k j v w) s = .next (endMeasured s k j 0 v w)) ∧
    (∀ (k j : Nat) (v : Int) (w : Nat) (d : SegDie) (y : Dolly) (p : DollyTransfer), s.die? k = some d → d.dolly? j = some y →
       y.transfer = some p → p.holds = false → p.check = false → p.qlimit = 0 → p.lease = false → p.endAt ≤ s.now →
       exec (.transferLimitEnd k j v w) s = .next (endMeasured s k j 1 v w)) ∧
    (∀ (k j : Nat) (d : SegDie) (y : Dolly) (p : DollyTransfer), s.die? k = some d → d.dolly? j = some y → y.transfer = some p →
       exec (.dollyOvercurrent k j) s = .next (finishClear (dieFault s k (2 + j) 0x30 (256 * j + p.cell)))) ∧
    (∀ (k j : Nat) (d : SegDie) (y : Dolly) (p : DollyTransfer), s.die? k = some d → d.dolly? j = some y → y.transfer = some p →
       exec (.dollyRegulation k j) s = .next (finishClear (dieFault s k (2 + j) 0x31 (256 * j + p.cell)))) ∧
    (∀ (k j : Nat) (d : SegDie) (y : Dolly) (p : DollyTransfer), s.die? k = some d → d.dolly? j = some y → y.transfer = some p →
       exec (.dollyNoTransfer k j) s = .next (finishClear (dieFault s k (2 + j) 0x33 (256 * j + p.cell)))) ∧
    (∀ (k j : Nat) (d : SegDie) (y : Dolly) (p : DollyTransfer) (mv : Nat), s.die? k = some d → d.dolly? j = some y →
       y.transfer = some p →
       outside (2000 * (spanCells s d y.straddle).length) (4600 * (spanCells s d y.straddle).length) mv = true →
       exec (.dollySpanVoltage k j mv) s = .next (finishClear (dieFault s k (2 + j) 0x32 (256 * j + p.cell)))) ∧
    (∀ (k j : Nat) (d : SegDie) (y : Dolly) (p : DollyTransfer) (mv : Nat), s.die? k = some d → d.dolly? j = some y →
       y.transfer = some p →
       outside (2000 * (spanCells s d y.straddle).length) (4600 * (spanCells s d y.straddle).length) mv = false →
       exec (.dollySpanVoltage k j mv) s = .next (s)) ∧
    (∀ (k : Nat) (d : SegDie), s.die? k = some d → d.unpowered = false → d.stopped = false → (isDark s && !d.sleep.awake) = false →
       exec (.dollyDriverSupply k) s = .next (finishClear (dieFault s k 10 0x34 0))) ∧
    (∀ (k j : Nat) (d : SegDie) (y : Dolly) (p : DollyTransfer), s.die? k = some d → d.dolly? j = some y → y.transfer = some p →
       p.check = true → p.endAt ≤ s.now →
       exec (.dollyCheckTransferEnd k j true) s = .next (finishClear ((endFree s k j 1).updDolly k j fun y => { y with withdrawn := y.withdrawn.filter fun n => !((clearCauses s k).filter fun c => between 0x30 0x33 c.kind && c.detail / 256 == j || c.kind == 0x34).any fun c => c.kind == n }))) ∧
    (∀ (k j : Nat) (d : SegDie) (y : Dolly) (p : DollyTransfer), s.die? k = some d → d.dolly? j = some y → y.transfer = some p →
       p.check = true → p.endAt ≤ s.now → exec (.dollyCheckTransferEnd k j false) s = .next (finishClear (endFree s k j 1))) ∧
    (∀ (k a : Nat) (d : SegDie), s.die? k = some d → d.calmAt = some a → a + 2 * secT ≤ s.now →
       exec (.dollyThermalResume k) s = .next (s.updDie k fun d => { d with calmAt := none, dollies := d.dollies.map fun y => { y with thermal := false } }))

/-- SLEEP_BALANCE_WAKE in SLEEP, at its time on an own supply: the die is awake with its references still to settle, counts the wake and
sets the next one PERIOD later; a die that is awake stays as it is. SLEEP_TAKE_END of a die that is awake, with its internal reference
settled and 6.4 ms after the Take began: a mismatch records SLEEP_TAKE_VOID with the first cell and the die returns to sleep; without one
the end guard (`sleepGuard`) and then the groups act (`sleepGroup`), and the die returns to sleep when no group has a candidate or a
transfer (`sleepBusy`), so at once where no cell lies above TARGET + BAND and no transfer runs; a die without sleep balancing does
nothing. SLEEP_TAKE_REPEAT starts the next Take 1 s after the last, not before. SLEEP_AWAKE_LIMIT after MAXAWAKE records
SLEEP_AWAKE_LIMIT with the number of cells above TARGET + BAND and the die returns to sleep; before, nothing changes. But for this
nothing changes. Rests on R118, R240, R254 and R255. -/
def Obligations.SleepBalancing : Prop :=
  ∀ (s : State),
    (∀ (k p a b i m : Nat) (d : SegDie) (w : Nat), s.die? k = some d → d.sleep.cfg = some (p, a, b, i, m) → s.power.state = .sleep →
       d.sleep.awake = false → d.unpowered = false → d.sleep.nextWake = some w → w ≤ s.now →
       exec (.sleepBalanceWake k) s = .next (s.updDie k fun d => { d with refOk := [false, false, false], refSince := [none, none, none], refAt := [s.now, s.now, s.now], sleep := { d.sleep with awake := true, wokeAt := s.now, takeAt := s.now, wakes := d.sleep.wakes + 1, nextWake := some (s.now + p * secT) } })) ∧
    (∀ (k p a b i m : Nat) (d : SegDie), s.die? k = some d → d.sleep.cfg = some (p, a, b, i, m) → d.sleep.awake = true →
       exec (.sleepBalanceWake k) s = .next (s)) ∧
    (∀ (k p a b i m : Nat) (l x : List Int) (d : SegDie) (n : Nat) (r : List Nat), s.die? k = some d →
       d.sleep.cfg = some (p, a, b, i, m) → d.sleep.awake = true → nth d.refOk 0 false = true →
       d.sleep.takeAt + 6400 * usT ≤ s.now → exec (.sleepTakeEnd k ⟨l, x⟩ (n :: r)) s = .next (dieAsleep (sleepRec s k 0x3A n) k)) ∧
    (∀ (k p a b i m : Nat) (l x : List Int) (d : SegDie), s.die? k = some d → d.sleep.cfg = some (p, a, b, i, m) →
       d.sleep.awake = true → nth d.refOk 0 false = true → d.sleep.takeAt + 6400 * usT ≤ s.now →
       exec (.sleepTakeEnd k ⟨l, x⟩ []) s = .next (let u := [1, 2, 3, 4].foldl (sleepGroup k l (p, a, b, i, m)) ([1, 2, 3, 4].foldl (sleepGuard x k) s); if sleepBusy u k l ((a : Int) + b) then u else dieAsleep u k)) ∧
    (∀ (k p a b i m : Nat) (l x : List Int) (d : SegDie), s.die? k = some d → d.sleep.cfg = some (p, a, b, i, m) →
       d.sleep.awake = true → nth d.refOk 0 false = true → d.sleep.takeAt + 6400 * usT ≤ s.now → ∀ v ∈ l, v ≤ (a : Int) + b →
       ∀ y ∈ d.dollies, y.transfer = none → exec (.sleepTakeEnd k ⟨l, x⟩ []) s = .next (dieAsleep s k)) ∧
    (∀ (k : Nat) (l x : List Int) (d : SegDie), s.die? k = some d → d.sleep.cfg = none → exec (.sleepTakeEnd k ⟨l, x⟩ []) s = .next (s)) ∧
    (∀ (k : Nat) (d : SegDie), s.die? k = some d → d.sleep.awake = true → d.sleep.takeAt + secT ≤ s.now →
       exec (.sleepTakeRepeat k) s = .next (s.updDie k fun d => { d with sleep := { d.sleep with takeAt := s.now } })) ∧
    (∀ (k : Nat) (d : SegDie), s.die? k = some d → s.now < d.sleep.takeAt + secT → exec (.sleepTakeRepeat k) s = .next (s)) ∧
    (∀ (k p a b i m : Nat) (d : SegDie), s.die? k = some d → d.sleep.cfg = some (p, a, b, i, m) → d.sleep.awake = true →
       d.sleep.wokeAt + m * secT ≤ s.now →
       exec (.sleepAwakeLimit k) s = .next (dieAsleep (sleepRec s k 0x3B ((List.range d.cells).filter fun k => decide (((a + b : Nat) : Int) < cellUv d (k + 1))).length) k)) ∧
    (∀ (k p a b i m : Nat) (d : SegDie), s.die? k = some d → d.sleep.cfg = some (p, a, b, i, m) → s.now < d.sleep.wokeAt + m * secT →
       exec (.sleepAwakeLimit k) s = .next (s))

/-- DEFINE_SESSION answers RESOURCE_BUSY while a session runs, then the first that applies of NO_CURRENT_REF, NOT_FITTED and
NOT_CALIBRATED (source EXTERNAL_AUX), FREQ_RANGE (`freqBad`, `auxSlow`), NO_CELLS and SESSION_TOO_LONG, and otherwise stores the
definition under the next number, erases the stored points and answers number, rounds, points and nominal duration (`roundsOf`,
`nominalFrac`). START_SESSION answers REJECTED_STATE outside RUN and in host-assisted mode, RESOURCE_BUSY while a session runs and status
0x83 without a definition or beyond its points; otherwise it opens its operation and starts its point (`startPoint`). GET_SESSION_STATUS
answers state 0, 1 or 2 with its fields. READ_POINTS answers status 0x83 without a definition or from beyond its points; otherwise its
operation completes at once with no stored point in the range, or waits to write them. SET_TEMP_COEFFS sets FT and the coefficients of
mapped cells, and answers NOT_FITTED beyond them. MODULATE_ORDER answers REJECTED_STATE outside RUN and status 0x84 in hardware mode;
where nothing keeps the transfer from starting, it opens its operation, the Dolly modulates (`startModulate`) and the order is held. But
for this and the reply nothing changes. Choices of the model: the order of the checks and the sweep interval of the frequency limit (log
entry 56), REJECTED_STATE before NOT_FITTED (log entry 116). Rests on R3, R262, R263, R265, R274, R275, R280, R282, R284 to R286. -/
def Obligations.ImpedanceCommands : Prop :=
  ∀ (s : State),
    (∀ (h : Hdr) (x t m a k i v u : Nat) (fs : List Nat), served s h 0x0601 → x ≤ 2 → 1 ≤ fs.length → fs.length ≤ 32 → 1 ≤ t → t ≤ 8 →
       1 ≤ m → m ≤ 16 → 100 ≤ i → i ≤ 1000 → 50 ≤ v → v ≤ 5000 → u < 2 ^ 144 → s.imp.run ≠ none →
       exec (.defineSession h x t m a k i v u fs) s = .next (answeredCmd s h 0x0601 stBusy [])) ∧
    (∀ (h : Hdr) (x t m a k i v u : Nat) (fs : List Nat), served s h 0x0601 → x ≤ 2 → 1 ≤ fs.length → fs.length ≤ 32 → 1 ≤ t → t ≤ 8 →
       1 ≤ m → m ≤ 16 → 100 ≤ i → i ≤ 1000 → 50 ≤ v → v ≤ 5000 → u < 2 ^ 144 → s.imp.run = none → x = 0 → sourceThere s = false →
       exec (.defineSession h x t m a k i v u fs) s = .next (answeredCmd s h 0x0601 0x82 [])) ∧
    (∀ (h : Hdr) (x t m a k i v u : Nat) (fs : List Nat), served s h 0x0601 → x ≤ 2 → 1 ≤ fs.length → fs.length ≤ 32 → 1 ≤ t → t ≤ 8 →
       1 ≤ m → m ≤ 16 → 100 ≤ i → i ≤ 1000 → 50 ≤ v → v ≤ 5000 → u < 2 ^ 144 → s.imp.run = none → x = 1 →
       (s.die? a).isNone = true → exec (.defineSession h x t m a k i v u fs) s = .next (answeredCmd s h 0x0601 stNotFitted [])) ∧
    (∀ (h : Hdr) (x t m a k i v u : Nat) (fs : List Nat), served s h 0x0601 → x ≤ 2 → 1 ≤ fs.length → fs.length ≤ 32 → 1 ≤ t → t ≤ 8 →
       1 ≤ m → m ≤ 16 → 100 ≤ i → i ≤ 1000 → 50 ≤ v → v ≤ 5000 → u < 2 ^ 144 → s.imp.run = none → x = 1 →
       ¬ (x = 1 ∧ (s.die? a).isNone = true) → currentCal s a k = false →
       exec (.defineSession h x t m a k i v u fs) s = .next (answeredCmd s h 0x0601 0x86 [])) ∧
    (∀ (h : Hdr) (x t m a k i v u : Nat) (fs : List Nat), served s h 0x0601 → x ≤ 2 → 1 ≤ fs.length → fs.length ≤ 32 → 1 ≤ t → t ≤ 8 →
       1 ≤ m → m ≤ 16 → 100 ≤ i → i ≤ 1000 → 50 ≤ v → v ≤ 5000 → u < 2 ^ 144 → s.imp.run = none →
       ¬ (x = 0 ∧ sourceThere s = false) → ¬ (x = 1 ∧ (s.die? a).isNone = true) → ¬ (x = 1 ∧ currentCal s a k = false) →
       (fs.any (freqBad s x) || (decide (x = 1) && auxSlow s a k)) = true →
       exec (.defineSession h x t m a k i v u fs) s = .next (answeredCmd s h 0x0601 0x81 [])) ∧
    (∀ (h : Hdr) (x t m a k i v u : Nat) (fs : List Nat), served s h 0x0601 → x ≤ 2 → 1 ≤ fs.length → fs.length ≤ 32 → 1 ≤ t → t ≤ 8 →
       1 ≤ m → m ≤ 16 → 100 ≤ i → i ≤ 1000 → 50 ≤ v → v ≤ 5000 → u < 2 ^ 144 → s.imp.run = none →
       ¬ (x = 0 ∧ sourceThere s = false) → ¬ (x = 1 ∧ (s.die? a).isNone = true) → ¬ (x = 1 ∧ currentCal s a k = false) →
       (fs.any (freqBad s x) || (decide (x = 1) && auxSlow s a k)) = false →
       ((s.segs.all fun d => (dieCells s u d).isEmpty) = true) →
       exec (.defineSession h x t m a k i v u fs) s = .next (answeredCmd s h 0x0601 0x87 [])) ∧
    (∀ (h : Hdr) (x t m a k i v u : Nat) (fs : List Nat), served s h 0x0601 → x ≤ 2 → 1 ≤ fs.length → fs.length ≤ 32 → 1 ≤ t → t ≤ 8 →
       1 ≤ m → m ≤ 16 → 100 ≤ i → i ≤ 1000 → 50 ≤ v → v ≤ 5000 → u < 2 ^ 144 → s.imp.run = none →
       ¬ (x = 0 ∧ sourceThere s = false) → ¬ (x = 1 ∧ (s.die? a).isNone = true) → ¬ (x = 1 ∧ currentCal s a k = false) →
       (fs.any (freqBad s x) || (decide (x = 1) && auxSlow s a k)) = false →
       ((s.segs.all fun d => (dieCells s u d).isEmpty) = false) →
       1200000 * (nominalFrac t m fs).2 < roundsOf s x u * (nominalFrac t m fs).1 →
       exec (.defineSession h x t m a k i v u fs) s = .next (answeredCmd s h 0x0601 0x80 [])) ∧
    (∀ (h : Hdr) (x t m a k i v u : Nat) (fs : List Nat), served s h 0x0601 → x ≤ 2 → 1 ≤ fs.length → fs.length ≤ 32 → 1 ≤ t → t ≤ 8 →
       1 ≤ m → m ≤ 16 → 100 ≤ i → i ≤ 1000 → 50 ≤ v → v ≤ 5000 → u < 2 ^ 144 → s.imp.run = none →
       ¬ (x = 0 ∧ sourceThere s = false) → ¬ (x = 1 ∧ (s.die? a).isNone = true) → ¬ (x = 1 ∧ currentCal s a k = false) →
       (fs.any (freqBad s x) || (decide (x = 1) && auxSlow s a k)) = false →
       ((s.segs.all fun d => (dieCells s u d).isEmpty) = false) →
       roundsOf s x u * (nominalFrac t m fs).1 ≤ 1200000 * (nominalFrac t m fs).2 →
       exec (.defineSession h x t m a k i v u fs) s = .next (answeredCmd { s with imp := { s.imp with lastNumber := (s.imp.lastNumber + 1) % 65536, next := 0, points := [], def_ := some { number := (s.imp.lastNumber + 1) % 65536, source := x, settle := t, nblocks := m, auxDie := a, auxIn := k, iamp := i, imin := v, cells := u, freqs := fs, rounds := roundsOf s x u, nominal := (roundsOf s x u * (nominalFrac t m fs).1 + (nominalFrac t m fs).2 - 1) / (nominalFrac t m fs).2 } } } h 0x0601 stOk (le 2 ((s.imp.lastNumber + 1) % 65536) ++ le 1 (roundsOf s x u) ++ [0] ++ le 2 (roundsOf s x u * fs.length) ++ zeros 2 ++ le 4 ((roundsOf s x u * (nominalFrac t m fs).1 + (nominalFrac t m fs).2 - 1) / (nominalFrac t m fs).2)))) ∧
    (∀ (h : Hdr) (n : Nat), served s h 0x0602 → s.power.state ≠ .run ∨ s.imp.hostMode = true →
       exec (.startSession h n) s = .next (answeredCmd s h 0x0602 stRejected [])) ∧
    (∀ (h : Hdr) (n : Nat), served s h 0x0602 → s.power.state = .run → s.imp.hostMode = false → s.imp.run ≠ none →
       exec (.startSession h n) s = .next (answeredCmd s h 0x0602 stBusy [])) ∧
    (∀ (h : Hdr) (n : Nat), served s h 0x0602 → s.power.state = .run → s.imp.hostMode = false → s.imp.run = none → s.imp.def_ = none →
       exec (.startSession h n) s = .next (answeredCmd s h 0x0602 0x83 [])) ∧
    (∀ (h : Hdr) (n : Nat) (f : ImpDef), served s h 0x0602 → s.power.state = .run → s.imp.hostMode = false → s.imp.run = none →
       s.imp.def_ = some f → f.points ≤ n → exec (.startSession h n) s = .next (answeredCmd s h 0x0602 0x83 [])) ∧
    (∀ (h : Hdr) (n : Nat) (f : ImpDef), served s h 0x0602 → canOpen s h → s.power.state = .run → s.imp.hostMode = false →
       s.imp.run = none → s.imp.def_ = some f → n < f.points →
       exec (.startSession h n) s = .next (startPoint (openedCmd s h 0x0602) f { hdr := h, point := n, startedAt := s.now, t0 := s.packTime, tried := 0, dies := [], acc := [] } n true)) ∧
    (∀ (h : Hdr), served s h 0x0603 → s.imp.def_ = none →
       exec (.getSessionStatus h) s = .next (answeredCmd s h 0x0603 stOk (zeros 8 ++ le 2 0xFFFF ++ zeros 12))) ∧
    (∀ (h : Hdr) (f : ImpDef), served s h 0x0603 → s.imp.def_ = some f → s.imp.run = none →
       exec (.getSessionStatus h) s = .next (answeredCmd s h 0x0603 stOk (le 2 f.number ++ le 1 1 ++ le 1 f.source ++ le 2 f.points ++ le 2 s.imp.next ++ le 2 0xFFFF ++ zeros 8 ++ le 4 f.nominal))) ∧
    (∀ (h : Hdr) (f : ImpDef) (r : ImpRun), served s h 0x0603 → s.imp.def_ = some f → s.imp.run = some r →
       exec (.getSessionStatus h) s = .next (answeredCmd s h 0x0603 stOk (le 2 f.number ++ le 1 2 ++ le 1 f.source ++ le 2 f.points ++ le 2 r.point ++ le 2 r.point ++ le 1 (r.dies.foldl (fun a x => min a x.good) f.nblocks) ++ le 1 (sat 8 (r.dies.foldl (fun a x => max a x.discarded) 0)) ++ zeros 2 ++ le 4 ((s.now - r.startedAt) / msT) ++ le 4 f.nominal))) ∧
    (∀ (h : Hdr) (n e : Nat) (f : ImpDef), served s h 0x0604 → s.imp.def_ = none ∨ s.imp.def_ = some f ∧ f.points ≤ n →
       exec (.readPoints h n e) s = .next (answeredCmd s h 0x0604 0x83 [])) ∧
    (∀ (h : Hdr) (n e : Nat) (f : ImpDef), served s h 0x0604 → canOpen s h → s.imp.def_ = some f → n < f.points →
       ((s.imp.points.filter fun p => decide (n ≤ p.1) && decide (p.1 ≤ e)) = []) →
       exec (.readPoints h n e) s = .next (completeOp (openedCmd s h 0x0604) h stOk (zeros 4))) ∧
    (∀ (h : Hdr) (n e : Nat) (f : ImpDef), served s h 0x0604 → canOpen s h → s.imp.def_ = some f → n < f.points →
       ((s.imp.points.filter fun p => decide (n ≤ p.1) && decide (p.1 ≤ e)) ≠ []) →
       exec (.readPoints h n e) s = .next ({ (openedCmd s h 0x0604) with imp := { s.imp with reads := s.imp.reads ++ [{ hdr := h, left := (s.imp.points.filter fun p => decide (n ≤ p.1) && decide (p.1 ≤ e)).map fun p => readBack p.2, count := 0 }] } })) ∧
    (∀ (h : Hdr) (n e : Nat) (l : List TempCoeff), served s h 0x0605 → 1 ≤ l.length → l.length ≤ 19 →
       rangeUnmapped s e l.length = false →
       exec (.setTempCoeffs h n e l) s = .next (answeredCmd { s with imp := { s.imp with ft := n, coeffs := setFrom s.imp.coeffs (e - 1) l } } h 0x0605 stOk [])) ∧
    (∀ (h : Hdr) (n e : Nat) (l : List TempCoeff), served s h 0x0605 → 1 ≤ l.length → l.length ≤ 19 →
       rangeUnmapped s e l.length = true → exec (.setTempCoeffs h n e l) s = .next (answeredCmd s h 0x0605 stNotFitted [])) ∧
    (∀ (h : Hdr) (k j x n i v u : Nat), served s h 0x0607 → s.power.state ≠ .run → 10 ≤ u → u ≤ 600000 →
       exec (.modulateOrder h k j x n i v u) s = .next (answeredCmd s h 0x0607 stRejected [])) ∧
    (∀ (h : Hdr) (k j x n i v u : Nat) (d : SegDie), served s h 0x0607 → s.power.state = .run → s.die? k = some d →
       s.imp.hostMode = false → 10 ≤ u → u ≤ 600000 →
       exec (.modulateOrder h k j x n i v u) s = .next (answeredCmd s h 0x0607 0x84 [])) ∧
    (∀ (h : Hdr) (k j x n i v u : Nat) (d : SegDie) (y : Dolly), served s h 0x0607 → canOpen s h → s.power.state = .run →
       s.die? k = some d → s.imp.hostMode = true → d.dolly? j = some y → orderBlock s d j y 3 x = none → 10 ≤ u → u ≤ 600000 →
       exec (.modulateOrder h k j x n i v u) s = .next (let q := startModulate (openedCmd s h 0x0607) d j x n i v (some h) (s.now + u * msT); { q with imp := { q.imp with orders := q.imp.orders ++ [{ hdr := h, die := k, dolly := j, freq := n, start := q.packTime, ended := none }] } }))

/-- LOCKIN_BLOCK without a session changes nothing; a lost current reference (`refLost`) raises IMP_CURRENT_REF_LOST and ends the session
with END 6; an accepted abort ends it with END 1; before the sweeps of the block are decided nothing changes. Then the block counts as
tried, each die counts or discards it (`blockDie`), its sums go, the marks of bad spans before its end go, and the dies whose last good
block this is store their records (`storeReady`); with NBLOCKS good blocks on every die, or three times NBLOCKS tried, the point
completes (`completePoint`), and before that the session goes on. MODULATE_ORDER_END: while the order's transfer runs within its duration
nothing changes; after it the transfer ends, the order leaves the list, and its operation completes with the measured current, the phase
and the whole periods that ran; without an order of the Dolly nothing changes. POINT_READBACK_WRITE writes the next stored record where
664 bytes stay free beside the reserve, completes the read with the last one, and waits without room. Rests on R168, R262, R267 to R270,
R276, R283, R284, R285 and R287. -/
def Obligations.ImpedanceEvents : Prop :=
  ∀ (s : State),
    (∀ (l : List SenseRun), s.imp.run = none → exec (.lockinBlock l) s = .next (s)) ∧
    (∀ (l : List SenseRun) (f : ImpDef) (r : ImpRun) (x : Nat), s.imp.run = some r → s.imp.def_ = some f → refLost s f = some x →
       exec (.lockinBlock l) s = .next (endSession (raise s 0 18 0x43 x) 6)) ∧
    (∀ (l : List SenseRun) (f : ImpDef) (r : ImpRun), s.imp.run = some r → s.imp.def_ = some f → refLost s f = none →
       (opOf s r.hdr).any (·.stop) = true → exec (.lockinBlock l) s = .next (endSession s 1)) ∧
    (∀ (l : List SenseRun) (f : ImpDef) (r : ImpRun), s.imp.run = some r → s.imp.def_ = some f → refLost s f = none →
       (opOf s r.hdr).any (·.stop) = false → sweepsDecided s (blockSpan f r r.tried).2 = false →
       exec (.lockinBlock l) s = .next (s)) ∧
    (∀ (l : List SenseRun) (f : ImpDef) (r q : ImpRun) (p : State × ImpRun), s.imp.run = some r → s.imp.def_ = some f →
       refLost s f = none → (opOf s r.hdr).any (·.stop) = false → sweepsDecided s (blockSpan f r r.tried).2 = true →
       (q = { r with tried := r.tried + 1, dies := r.dies.map (blockDie s f r l), acc := r.acc.filter fun a => decide (r.tried < a.block) }) →
       (p = storeReady { s with imp := { s.imp with bad := s.imp.bad.filter fun b => decide ((blockSpan f r r.tried).2 ≤ b.2.1) } } f q false) →
       ((q.dies.all fun x => decide (f.nblocks ≤ x.good)) = false) → q.tried < 3 * f.nblocks →
       exec (.lockinBlock l) s = .next ({ p.1 with imp := { p.1.imp with run := some p.2 } })) ∧
    (∀ (l : List SenseRun) (f : ImpDef) (r q : ImpRun) (p : State × ImpRun), s.imp.run = some r → s.imp.def_ = some f →
       refLost s f = none → (opOf s r.hdr).any (·.stop) = false → sweepsDecided s (blockSpan f r r.tried).2 = true →
       (q = { r with tried := r.tried + 1, dies := r.dies.map (blockDie s f r l), acc := r.acc.filter fun a => decide (r.tried < a.block) }) →
       (p = storeReady { s with imp := { s.imp with bad := s.imp.bad.filter fun b => decide ((blockSpan f r r.tried).2 ≤ b.2.1) } } f q false) →
       ((q.dies.all fun x => decide (f.nblocks ≤ x.good)) = true ∨ 3 * f.nblocks ≤ q.tried) →
       exec (.lockinBlock l) s = .next (completePoint { p.1 with imp := { p.1.imp with run := some p.2 } } f p.2)) ∧
    (∀ (k j m : Nat) (p : Int) (d : SegDie) (o : ModOrder), s.die? k = some d →
       ((s.imp.orders.find? fun o => o.die == k && o.dolly == j) = some o) →
       (((runs? d j).any fun t => t.hdr == some o.hdr && decide (s.now < t.endAt)) = false) →
       exec (.modulateOrderEnd k j m p) s = .next (let u := stopWhere s (fun t => t.hdr == some o.hdr) 1; completeOp { u with imp := { u.imp with orders := u.imp.orders.filter fun x => x.hdr != o.hdr } } o.hdr stOk (le 2 m ++ leInt 2 p ++ le 4 (periodsIn o.freq o.start (o.ended.getD s.packTime))))) ∧
    (∀ (k j m : Nat) (p : Int) (d : SegDie) (o : ModOrder), s.die? k = some d →
       ((s.imp.orders.find? fun o => o.die == k && o.dolly == j) = some o) →
       (((runs? d j).any fun t => t.hdr == some o.hdr && decide (s.now < t.endAt)) = true) →
       exec (.modulateOrderEnd k j m p) s = .next (s)) ∧
    (∀ (k j m : Nat) (p : Int) (d : SegDie), s.die? k = some d → ((s.imp.orders.find? fun o => o.die == k && o.dolly == j) = none) →
       exec (.modulateOrderEnd k j m p) s = .next (s)) ∧
    (∀ (r : PointRead) (l : List PointRead) (x : List Byte), s.imp.reads = r :: l → r.left = [x] → streamRoom s 7 x.length 664 = true →
       exec (.pointReadbackWrite) s = .next (let q := sendRecord (endRun (streamWrite s 7 0 x) 0) 7 x; completeOp { q with imp := { q.imp with reads := l } } r.hdr stOk (le 2 (r.count + 1) ++ zeros 2))) ∧
    (∀ (r : PointRead) (l : List PointRead) (x : List Byte) (z : List (List Byte)), s.imp.reads = r :: l → r.left = x :: z → z ≠ [] →
       streamRoom s 7 x.length 664 = true →
       exec (.pointReadbackWrite) s = .next (let q := sendRecord (endRun (streamWrite s 7 0 x) 0) 7 x; { q with imp := { q.imp with reads := { r with left := z, count := r.count + 1 } :: l } })) ∧
    (∀ (r : PointRead) (l : List PointRead) (x : List Byte) (z : List (List Byte)), s.imp.reads = r :: l → r.left = x :: z →
       streamRoom s 7 x.length 664 = false → exec (.pointReadbackWrite) s = .next (s))

/-- ENUMERATE and SET_TIMEBASE answer NOT_PRIMARY off the primary head, SWEEPS_RUNNING while a package sweeps, and RESOURCE_BUSY while an
earlier one is open; otherwise they open their operation, ENUMERATE with its frame out of port A, SET_TIMEBASE with the reference and
frequency stored and the PLL unlocked. ENUMERATION_TIMEOUT completes ENUMERATE with CHAIN_OPEN 10 ms after its frame left, and changes
nothing before. GET_CHAIN_MAP answers its records (`mapRecord`); GET_LINK_STATUS its 40 bytes, whose loads are free values;
GET_RADIO_STATUS the records of its addresses. SET_PLACEMENT of class A answers PIN_INVALID for the radio and else changes nothing; of
class B it stores the pin and, unless automatic, the placement to come; both answer the next superframe start (`nextSuperframe`).
SET_RADIO stores its values. RADIO_REKEY answers NOT_PRIMARY off the primary head and REJECTED_STATE where the key-use gate lets no key
in; otherwise its operation completes with the generation of a new key (`newKey`). SET_SERVICE answers NOT_FITTED for a die that is not
fitted, REJECTED_STATE where no segment die would stay in service, and else opens its operation and waits for a superframe. NOT_LOCKED
completes with status 0x84 the readmissions ordered 10 s ago or longer at an unlocked package, and changes nothing at a locked one.
Choices of the model: a second ENUMERATE or SET_TIMEBASE found busy (log entry 59), the order of the checks (151), places of the map
beyond the count (73), the loads (4), the key-use gate (129). Rests on R3, R19, R304, R306, R309, R316, R317, R318, R323, R327, R328,
R329 and R330. -/
def Obligations.LinkCommands : Prop :=
  ∀ (s : State),
    (∀ (h : Hdr) (e : Nat), served s h 0x0701 → e ≠ 1 → e ≤ 32 → primaryHead s = false →
       exec (.enumerate h e) s = .next (answeredCmd s h 0x0701 0x80 [])) ∧
    (∀ (h : Hdr) (e : Nat), served s h 0x0701 → e ≠ 1 → e ≤ 32 → primaryHead s = true → anySweeps s = true →
       exec (.enumerate h e) s = .next (answeredCmd s h 0x0701 0x81 [])) ∧
    (∀ (h : Hdr) (e : Nat), served s h 0x0701 → e ≠ 1 → e ≤ 32 → primaryHead s = true → anySweeps s = false →
       s.chain.enumerating ≠ none → exec (.enumerate h e) s = .next (answeredCmd s h 0x0701 stBusy [])) ∧
    (∀ (h : Hdr) (e : Nat), served s h 0x0701 → canOpen s h → e ≠ 1 → e ≤ 32 → primaryHead s = true → anySweeps s = false →
       s.chain.enumerating = none →
       exec (.enumerate h e) s = .next (emitCopy (stepFrameSeq { (openedCmd s h 0x0701) with chain := { s.chain with enumerating := some (h, e, s.now) } } 0x0B) 0 0x0B 0xFF 1 (nextFrameSeq s 0x0B) (enumBytes s.chain.chainId 2 e))) ∧
    (∀ (h : Hdr) (e : Nat) (k : Tick), s.chain.enumerating = some (h, e, k) → k + 10 * msT ≤ s.now →
       exec (.enumerationTimeout) s = .next (completeOp { s with chain := { s.chain with enumerating := none } } h 0x82 [])) ∧
    (((s.chain.enumerating.any fun x => decide (x.2.2 + 10 * msT ≤ s.now)) = false) → exec (.enumerationTimeout) s = .next (s)) ∧
    (∀ (h : Hdr) (a n : Nat), served s h 0x0702 → 1 ≤ a → a ≤ 32 → 1 ≤ n → n ≤ 16 →
       exec (.getChainMap h a n) s = .next (answeredCmd s h 0x0702 stOk ((List.range n).flatMap fun k => mapRecord s (a + k)))) ∧
    (∀ (h : Hdr), served s h 0x0703 →
       exec (.getLinkStatus h) s = .next ((answeredCmd s h 0x0703 stOk (le 4 s.chain.chainId ++ le 1 s.chain.count ++ le 1 (chainState s) ++ le 1 (portBits s) ++ le 1 s.chain.breakAt ++ le 8 s.packTime ++ le 2 (s.freeNat % 1001) ++ le 2 (s.freeNat / 1001 % 1001) ++ le 4 s.chain.crcErr ++ le 1 (b2n s.chain.placeB) ++ le 1 s.chain.pin ++ le 1 (ackedPct s (s.radio.peers.flatMap (·.acks))) ++ le 1 (b2n (decide (s.chain.pin ≠ 0) && decide (35700 < queueBytes s))) ++ leInt 2 s.chain.offset ++ zeros 2 ++ le 8 s.chain.lastBreak)).draw)) ∧
    (∀ (h : Hdr) (r f : Nat), served s h 0x0704 → r ≤ 1 → 16000 ≤ f → f ≤ 40000 → primaryHead s = false →
       exec (.setTimebase h r f) s = .next (answeredCmd s h 0x0704 0x80 [])) ∧
    (∀ (h : Hdr) (r f : Nat), served s h 0x0704 → r ≤ 1 → 16000 ≤ f → f ≤ 40000 → primaryHead s = true → anySweeps s = true →
       exec (.setTimebase h r f) s = .next (answeredCmd s h 0x0704 0x81 [])) ∧
    (∀ (h : Hdr) (r f : Nat), served s h 0x0704 → r ≤ 1 → 16000 ≤ f → f ≤ 40000 → primaryHead s = true → anySweeps s = false →
       s.chain.timebaseOp ≠ none → exec (.setTimebase h r f) s = .next (answeredCmd s h 0x0704 stBusy [])) ∧
    (∀ (h : Hdr) (r f : Nat), served s h 0x0704 → canOpen s h → r ≤ 1 → 16000 ≤ f → f ≤ 40000 → primaryHead s = true →
       anySweeps s = false → s.chain.timebaseOp = none →
       exec (.setTimebase h r f) s = .next ({ (openedCmd s h 0x0704) with chain := { s.chain with refClkin := r == 1, freq := f, timebaseOp := some h }, power := { s.power with pllLocked := false } })) ∧
    (∀ (h : Hdr), served s h 0x0705 → exec (.setPlacement h 0 2) s = .next (answeredCmd s h 0x0705 0x85 [])) ∧
    (∀ (h : Hdr) (p : Nat), served s h 0x0705 → p < 2 →
       exec (.setPlacement h 0 p) s = .next (answeredCmd s h 0x0705 stOk (le 8 (nextSuperframe s)))) ∧
    (∀ (h : Hdr) (p : Nat), served s h 0x0705 → p ≤ 2 →
       exec (.setPlacement h 1 p) s = .next (answeredCmd { s with chain := { s.chain with pin := p, placeNext := if p = 0 then s.chain.placeNext else some (p == 1, s.now) } } h 0x0705 stOk (le 8 (nextSuperframe s)))) ∧
    (∀ (h : Hdr) (e : Nat) (p : Int) (m : Nat), served s h 0x0706 → e ≤ 1 →
       exec (.setRadio h e p m) s = .next (answeredCmd { s with radio := { s.radio with enable := e == 1, txpwr := p, chmask := m } } h 0x0706 stOk [])) ∧
    (∀ (h : Hdr), served s h 0x0707 → primaryHead s = false → exec (.radioRekey h) s = .next (answeredCmd s h 0x0707 0x80 [])) ∧
    (∀ (h : Hdr), served s h 0x0707 → primaryHead s = true → keyGate s = false →
       exec (.radioRekey h) s = .next (answeredCmd s h 0x0707 stRejected [])) ∧
    (∀ (h : Hdr), served s h 0x0707 → canOpen s h → primaryHead s = true → keyGate s = true →
       exec (.radioRekey h) s = .next (completeOp (newKey (openedCmd s h 0x0707)) h stOk (le 4 ((s.radio.keyGen + 1) % 2 ^ 32)))) ∧
    (∀ (h : Hdr) (o m : Nat), served s h 0x0708 → o ≤ 1 → m % 4 = 0 → m < 256 → maskUnfitted s m = true →
       exec (.setService h o m) s = .next (answeredCmd s h 0x0708 stNotFitted [])) ∧
    (∀ (h : Hdr) (m : Nat), served s h 0x0708 → m % 4 = 0 → m < 256 → m ≠ 0 → maskUnfitted s m = false → leavesNone s m = true →
       exec (.setService h 0 m) s = .next (answeredCmd s h 0x0708 stRejected [])) ∧
    (∀ (h : Hdr) (o m : Nat), served s h 0x0708 → canOpen s h → o ≤ 1 → m % 4 = 0 → m < 256 → maskUnfitted s m = false →
       o = 1 ∨ m = 0 ∨ leavesNone s m = false →
       exec (.setService h o m) s = .next ({ (openedCmd s h 0x0708) with chain := { s.chain with services := s.chain.services ++ [(h, o, m, s.now)] } })) ∧
    (∀ (h : Hdr) (a n : Nat), served s h 0x0709 → 1 ≤ a → a ≤ 32 → 1 ≤ n → n ≤ 16 →
       exec (.getRadioStatus h a n) s = .next (answeredCmd s h 0x0709 stOk (le 1 n ++ zeros 3 ++ (List.range n).flatMap fun k => le 1 (a + k) ++ leInt 1 (peerOf s (a + k)).rssi ++ le 1 (ackedPct s (peerOf s (a + k)).acks) ++ [0] ++ le 4 (peerOf s (a + k)).sent))) ∧
    (s.chain.locked = false →
       exec (.notLocked) s = .next ((s.chain.services.filter fun x => isReadmit x && decide (x.2.2.2 + 10 * secT ≤ s.now)).foldl (fun u x => completeOp u x.1 0x84 []) { s with chain := { s.chain with services := s.chain.services.filter fun x => !(isReadmit x && decide (x.2.2.2 + 10 * secT ≤ s.now)) } })) ∧
    (s.chain.locked = true → exec (.notLocked) s = .next (s))

/-- CLAPPER_EVENT gives the event at the front of the ring's queue to a die that can hear; a die whose ring input is lost or that is not
supplied takes none. RING_INPUT_LOST sets the die's mark and takes its held Clapper, RING_INPUT_RETURN clears the mark. A good
RING_PACK_TIME sets the die's copy of pack time and the earliest instant that no TIMER event has passed; a die cut off or not supplied
gets none. A good RING_CURRENT_SAMPLE is kept, the latest 256, and aligns the dies' samples (`alignNow`). A bad one of either, or a bad
status word, counts as a ring failure (`ringFailure`). RING_CONFIGURATION_MESSAGE: a good one ends the count of failures of its die; a
failed or injected one counts, more than ten within 1 s raise 0x5B, and the third of a die is given up (`giveUp`). A good STATUS_WORD
restarts its die's time, holds since when it reports its ring input lost, and keeps the ring's loss only while a die is silent or reports
one. FAULT_MESSAGE goes to the collector. RING_LOSS, where a die is silent or cut off for 500 µs, raises RING_LOSS once, with the lowest
code that reports its input lost and the highest silent one. Otherwise, and for RING_LOSS of a ring already lost, nothing changes.
Choices of the model: no TIMER event of instants passed by a correction of more than two ticks (log entry 74), which switch a failed
message ends (60). Rests on R16, R42, R109, R145, R290, R292, R293, R331, R418 and R513. -/
def Obligations.RingMessages : Prop :=
  ∀ (s : State),
    (∀ (k : Nat) (d : SegDie) (e : ClapEvent) (l : List ClapEvent), s.die? k = some d → cUp s = true → d.unpowered = false →
       d.ringLost = false → s.sweep.events = e :: l →
       exec (.clapperEvent k) s = .next (s.updDie k fun d => { d with held := some e.clap })) ∧
    (∀ (k : Nat) (d : SegDie), s.die? k = some d → cUp s = false ∨ d.unpowered = true ∨ d.ringLost = true ∨ s.sweep.events = [] →
       exec (.clapperEvent k) s = .next (s)) ∧
    (∀ (k : Nat) (d : SegDie), s.die? k = some d →
       exec (.ringInputLost k) s = .next (s.updDie k fun d => { d with ringLost := true, held := none })) ∧
    (∀ (k : Nat) (d : SegDie), s.die? k = some d →
       exec (.ringInputReturn k) s = .next (s.updDie k fun d => { d with ringLost := false })) ∧
    (∀ (k : Nat) (d : SegDie), s.die? k = some d → cUp s = true → d.ringLost = false → d.unpowered = false →
       exec (.ringPackTime k true) s = .next (s.updDie k fun d => { d with packTime := s.packTime, packPrev := min s.packTime (max d.packPrev (s.packTime - 2)) })) ∧
    (∀ (k : Nat) (d : SegDie), s.die? k = some d → d.ringLost = true ∨ d.unpowered = true → exec (.ringPackTime k true) s = .next (s)) ∧
    (∀ (k : Nat) (d : SegDie), s.die? k = some d → cUp s = true → exec (.ringPackTime k false) s = .next (ringFailure s k)) ∧
    (∀ (a : Nat) (i : Int), cUp s = true →
       exec (.ringCurrentSample a i true) s = .next (alignNow { s with ring := { s.ring with current := ({ at_ := a, ma := i, int_ := 0 } :: s.ring.current).take 256 } })) ∧
    (∀ (a : Nat) (i : Int), cUp s = true → exec (.ringCurrentSample a i false) s = .next (ringFailure s 0)) ∧
    (∀ (k : Nat) (d : SegDie), s.die? k = some d → cUp s = true → injected s 2 = false →
       exec (.ringConfigurationMessage k true) s = .next ((useInject s 2).updDie k fun d => { d with msgFails := 0 })) ∧
    (∀ (k : Nat) (g : Bool) (d : SegDie) (l : List Tick) (u : State), s.die? k = some d → cUp s = true →
       g = false ∨ injected s 2 = true → (l = s.now :: s.ring.errors.filter fun t => decide (s.now < t + secT)) →
       (u = if 10 < l.length then settle (collect { useInject s 2 with ring := { s.ring with errors := l } } (faultMsg 0 3 0x5B k) (if injected s 2 then { forced := true, suppressed := false, until_ := s.now } else realMsg)) else { useInject s 2 with ring := { s.ring with errors := l } }) →
       d.msgFails < 2 → exec (.ringConfigurationMessage k g) s = .next (u.updDie k fun d => { d with msgFails := d.msgFails + 1 })) ∧
    (∀ (k : Nat) (g : Bool) (d : SegDie) (l : List Tick) (u : State), s.die? k = some d → cUp s = true →
       g = false ∨ injected s 2 = true → (l = s.now :: s.ring.errors.filter fun t => decide (s.now < t + secT)) →
       (u = if 10 < l.length then settle (collect { useInject s 2 with ring := { s.ring with errors := l } } (faultMsg 0 3 0x5B k) (if injected s 2 then { forced := true, suppressed := false, until_ := s.now } else realMsg)) else { useInject s 2 with ring := { s.ring with errors := l } }) →
       2 ≤ d.msgFails → exec (.ringConfigurationMessage k g) s = .next (giveUp (u.updDie k fun d => { d with msgFails := 0 }) k)) ∧
    (∀ (k : Nat) (d : SegDie), s.die? k = some d → cUp s = true → d.unpowered = false → d.lbist = false →
       exec (.statusWord k true d.ringLost) s = .next (let u := s.updDie k fun d => { d with statusAt := s.now, sentAt := s.now, lostSince := if d.ringLost then some (d.lostSince.getD s.now) else none }; { u with ring := { u.ring with lost := u.ring.lost && u.segs.any fun d => dieSilent u d || d.lostSince.isSome } })) ∧
    (∀ (k : Nat) (x : Bool) (d : SegDie), s.die? k = some d → cUp s = true → d.unpowered = false → d.lbist = false →
       exec (.statusWord k false x) s = .next (ringFailure s k)) ∧
    (∀ (k : Nat) (g x : Bool) (d : SegDie), s.die? k = some d → d.unpowered = true ∨ d.lbist = true ∨ g = true ∧ x ≠ d.ringLost →
       exec (.statusWord k g x) s = .next (s)) ∧
    (∀ (m : BitVec 32), exec (.faultMessage m) s = .next (settle (collect s m realMsg))) ∧
    (∀ (a b : List Nat), cUp s = true → s.ring.lost = false → a = (s.segs.filter (dieSilent s)).map SegDie.code →
       b = (s.segs.filter (dieCutOff s)).map SegDie.code → a ≠ [] ∨ b ≠ [] →
       exec (.ringLoss) s = .next (raise { s with ring := { s.ring with lost := true } } 0 3 0x5A (256 * (if b = [] then 0 else b.foldl min 7) + a.foldl max 0))) ∧
    (s.ring.lost = true ∨ (s.segs.filter (dieSilent s)).map SegDie.code = [] ∧ (s.segs.filter (dieCutOff s)).map SegDie.code = [] →
       exec (.ringLoss) s = .next (s))

/-- Of every frame but ENUMERATION (`frameOf`): while C is down it changes nothing; with a bad check value it is counted and passed on as
such (`frameError`, `passOn`); an own frame that came round changes nothing; a copy whose source, type and sequence number were seen is
passed on and not used; a first copy is passed on and remembered (`takenFrame`), and used where it is addressed to this package. Used,
FULL_SLATE and COMPACT_SLATE of the right length enter a head's window (`slateIn`), a FULL_SLATE after the member copied the source's
CHARGE (`copyCharge`); COMMIT_NOTICE of 8 bytes is counted (`noticeIn`); OTHER_STREAM_RECORD and FAULT_RECORD of 16 bytes enter a head's
window, the latter with the break it tells (`recordIn`, `recordBreak`); MAILBOX_COMMAND and MAILBOX_REPLY of priority 0 to 3 run and
return (`commandIn`, `replyIn`); SUPERFRAME tells its fields (`superframeUse`); HEARTBEAT enters the map and ends the breaks of ports
that are up; JOIN starts what a head keeps of the sender afresh and is judged by the primary head (`judgeJoin`); SCHEDULE adds its times
where the trigger source is 4 (`takeTimes`); BULK is appended (`bulkIn`); CONFIGURATION acts (`configure`). ENUMERATION with a bad check
value is counted; back at the head's port B it ends the enumeration (`enumerated`), elsewhere the package takes the next address and
sends it on. Choices of the model: the bytes of joins, heartbeats and configurations (log entry 62), the abandoned copy (10). Rests on
R38, R39, R74, R79, R112, R166, R295 to R307, R313, R315, R318 and R412. -/
def Obligations.LinkFrames : Prop :=
  ∀ (s : State),
    (∀ (i : Instr) (f : FrameHdr) (n : Nat) (p : List Byte), frameOf i = some (f, n, p) → cUp s = false → exec i s = .next (s)) ∧
    (∀ (i : Instr) (f : FrameHdr) (n : Nat) (p : List Byte), frameOf i = some (f, n, p) → cUp s = true → f.goodCrc = false →
       exec i s = .next (passOn (frameError s f.port) f n p)) ∧
    (∀ (i : Instr) (f : FrameHdr) (n : Nat) (p : List Byte), frameOf i = some (f, n, p) → f.goodCrc = true → f.src = s.chain.addr →
       s.chain.addr ≠ 0 → exec i s = .next (s)) ∧
    (∀ (i : Instr) (f : FrameHdr) (n : Nat) (p : List Byte), frameOf i = some (f, n, p) → cUp s = true → f.goodCrc = true →
       ¬ (f.src = s.chain.addr ∧ s.chain.addr ≠ 0) → s.chain.seen.contains (f.src, n, f.seq) = true →
       exec i s = .next (passOn (heardFrom s f.src) f n p)) ∧
    (∀ (i : Instr) (f : FrameHdr) (n : Nat) (p : List Byte), frameOf i = some (f, n, p) → n ≠ 1 → cUp s = true → f.goodCrc = true →
       ¬ (f.src = s.chain.addr ∧ s.chain.addr ≠ 0) → s.chain.seen.contains (f.src, n, f.seq) = false → forMe s f.dest = false →
       exec i s = .next (takenFrame s f n p)) ∧
    (∀ (f : FrameHdr) (p : List Byte), cUp s = true → f.goodCrc = true → ¬ (f.src = s.chain.addr ∧ s.chain.addr ≠ 0) →
       s.chain.seen.contains (f.src, 1, f.seq) = false →
       exec (.fullSlateFrame f p) s = .next (let u := copyCharge (takenFrame s f 1 p) f.src p; if forMe s f.dest = true ∧ s.chain.isHead = true ∧ p.length = 660 then slateIn u f.src 1 p else u)) ∧
    (∀ (f : FrameHdr) (p : List Byte), freshFrame s f 0x02 = true → s.chain.isHead = true → p.length = 324 →
       exec (.compactSlateFrame f p) s = .next (slateIn (takenFrame s f 0x02 (p)) f.src 2 p)) ∧
    (∀ (f : FrameHdr) (p : List Byte), freshFrame s f 0x02 = true → s.chain.isHead = false ∨ p.length ≠ 324 →
       exec (.compactSlateFrame f p) s = .next ((takenFrame s f 0x02 (p)))) ∧
    (∀ (f : FrameHdr) (p : List Byte), freshFrame s f 0x03 = true → s.chain.isHead = true → p.length = 8 →
       exec (.commitNoticeFrame f p) s = .next (noticeIn (takenFrame s f 0x03 (p)) f.src f.seq p)) ∧
    (∀ (f : FrameHdr) (p : List Byte), freshFrame s f 0x03 = true → s.chain.isHead = false ∨ p.length ≠ 8 →
       exec (.commitNoticeFrame f p) s = .next ((takenFrame s f 0x03 (p)))) ∧
    (∀ (f : FrameHdr) (n : Nat) (p : List Byte), freshFrame s f 0x04 = true →
       exec (.otherStreamRecordFrame f n p) s = .next (if s.chain.isHead then recordIn (takenFrame s f 0x04 (recordBytes n f.src p)) f.src n p else (takenFrame s f 0x04 (recordBytes n f.src p)))) ∧
    (∀ (f : FrameHdr) (n : Nat) (p : List Byte), freshFrame s f 0x05 = true → n < 4 →
       exec (.mailboxCommandFrame f n p) s = .next (commandIn (takenFrame s f 0x05 (p)) f.src n p)) ∧
    (∀ (f : FrameHdr) (n : Nat) (p : List Byte), freshFrame s f 0x06 = true → n < 4 →
       exec (.mailboxReplyFrame f n p) s = .next (replyIn (takenFrame s f 0x06 (p)) n p)) ∧
    (∀ (f : FrameHdr) (p : List Byte), freshFrame s f 0x07 = true → s.chain.isHead = true → p.length = 16 →
       exec (.faultRecordFrame f p) s = .next (recordBreak (recordIn (takenFrame s f 0x07 (p)) f.src 0x0A p) f.src p)) ∧
    (∀ (f : FrameHdr) (p : List Byte), freshFrame s f 0x07 = true → s.chain.isHead = false ∨ p.length ≠ 16 →
       exec (.faultRecordFrame f p) s = .next ((takenFrame s f 0x07 (p)))) ∧
    (∀ (f : FrameHdr) (n m k : Nat) (a : List Nat) (i z r : Nat) (l : List (Nat × Nat)), freshFrame s f 0x08 = true →
       exec (.superframeFrame f n m k a i z r l) s = .next (superframeUse (takenFrame s f 0x08 (superframeBytes n m k a i z r l)) m k a i z l)) ∧
    (∀ (f : FrameHdr) (a q p : Nat), freshFrame s f 0x09 = true →
       exec (.heartbeat f a q p) s = .next (let e := updEntry (noteHead (takenFrame s f 0x09 (heartbeatBytes a q p)) f.src (bit a 6)) f.src fun e => { e with state := if e.state = 3 ∨ a % 16 = 0 ∨ 3 < a % 16 then e.state else a % 16, sweeping := bit a 4, locked := bit a 5, dieOut := a / 256 % 256, queue := q, ports := p }; let u := if bit p 0 then portUp e f.src 0 else e; if bit p 1 then portUp u f.src 1 else u)) ∧
    (∀ (f : FrameHdr) (u i a p : Nat), freshFrame s f 0x0A = true → s.chain.isHead = true → primaryHead s = true →
       exec (.join f u i a p) s = .next (judgeJoin (freshSender (takenFrame s f 0x0A (le 8 u ++ le 4 i ++ le 1 a ++ le 3 p)) f.src) u i a (positionOf s f))) ∧
    (∀ (f : FrameHdr) (u i a p : Nat), freshFrame s f 0x0A = true → s.chain.isHead = true → primaryHead s = false →
       exec (.join f u i a p) s = .next (freshSender (takenFrame s f 0x0A (le 8 u ++ le 4 i ++ le 1 a ++ le 3 p)) f.src)) ∧
    (∀ (f : FrameHdr) (u i a p : Nat), freshFrame s f 0x0A = true → s.chain.isHead = false →
       exec (.join f u i a p) s = .next ((takenFrame s f 0x0A (le 8 u ++ le 4 i ++ le 1 a ++ le 3 p)))) ∧
    (∀ (f : FrameHdr) (i n e p : Nat), cUp s = true → f.goodCrc = false → exec (.enumeration f i n e p) s = .next (frameError s p)) ∧
    (∀ (f : FrameHdr) (i n e p : Nat) (h : Hdr) (w : Nat) (k : Tick), cUp s = true → f.goodCrc = true →
       s.chain.enumerating = some (h, w, k) → p = 1 → exec (.enumeration f i n e p) s = .next (enumerated s h w (n - 1))) ∧
    (∀ (f : FrameHdr) (i n e p : Nat), cUp s = true → f.goodCrc = true → s.chain.enumerating = none →
       exec (.enumeration f i n e p) s = .next (emit { s with chain := { s.chain with addrNext := some n } } 1 0x0B f.dest (onwardBytes f 0x0B (enumBytes i (n + 1) e)))) ∧
    (∀ (f : FrameHdr) (l : List Nat), freshFrame s f 0x0C = true →
       exec (.scheduleFrame f l) s = .next (if s.sweep.trig.source = 4 then takeTimes (takenFrame s f 0x0C (l.flatMap (le 8))) l else (takenFrame s f 0x0C (l.flatMap (le 8))))) ∧
    (∀ (f : FrameHdr) (a b o : Nat) (l : List Byte), freshFrame s f 0x0D = true →
       exec (.bulkFrame f a b o l) s = .next (bulkIn (takenFrame s f 0x0D (le 1 a ++ le 1 b ++ le 4 o ++ l)) f.src a b o l)) ∧
    (∀ (f : FrameHdr) (k v w : Nat), freshFrame s f 0x0E = true →
       exec (.configurationFrame f k v w) s = .next (configure (takenFrame s f 0x0E (le 1 k ++ zeros 3 ++ le 8 w ++ le 16 v)) f.src k v w))

/-- A CLAP, CURRENT or ALARM set (`setOf`) whose key was seen is sent on and not used; a bad one changes nothing. A first CLAP set sets a
Clapper at a locked member whose trigger source is 2 and whose edge it names (`clapEvent`, `clapOf` with 20 µs), a first CURRENT set of
the named source adds its sample (`pushCurrent`), a first ALARM set enters a head's window once (`alarmIn`). An own SYNC set changes
nothing; another goes on out of the other port, at fewer than 31 hops, with the hop's delay and the time spent here added, and is used
(`syncUse`) but at a primary head that is the time master: at a member, the tenth consecutive set of the time port locks, and a locked
member sets its pack time to time and correction where that lies 0 to 4 ticks ahead. DELAY_REQ is answered on its port, DELAY_RESP stores
a port's delay, DELAY_MEASUREMENT asks on both ports every 16 ms. TIME_PORT_CHANGE, 50 µs after a superframe start without a set of the
time port but with one of the other, changes the port; PACKTIME_UNLOCKED, 2 ms without any set, unlocks and raises 0x55;
TIME_MASTER_TAKEOVER, 2 ms without the primary's, asks for the role; PACKTIME_REF_LOST raises 0x56 once; PACK_TIME_SAVE saves hourly;
NOTICE_GAP_TIMEOUT writes the gaps due (`gapNotice`). LINK_DOWN and LINK_UP (after 100 ms and a measured delay) change a port and raise
0x50 and 0x51; PACKAGE_LOST, 24 ms after the last frame, marks the entry and raises 0x53. Choices of the model: log entries 61, 66, 145.
Rests on R10, R37, R109, R298, R300 to R303, R309 to R313, R315, R325. -/
def Obligations.ExpressSets : Prop :=
  ∀ (s : State),
    (∀ (i : Instr) (n a : Nat) (k : Nat × Nat) (b : List Byte) (x y : Nat) (z : Int) (m : BitVec 32) (up : Bool),
       setOf i = some (n, a, k, b) → leadsClap s = false → cUp s = true → ¬ (a = s.chain.addr ∧ s.chain.addr ≠ 0) →
       s.chain.seen.contains (256 + n, k.1, k.2) = true →
       i = .clapSet x up true ∨ i = .currentSet x y z true ∨ i = .alarmSet x m y true → exec i s = .next (sendSet s n b)) ∧
    (∀ (i : Instr) (x y : Nat) (z : Int) (m : BitVec 32) (up : Bool),
       i = .clapSet x up false ∨ i = .currentSet x y z false ∨ i = .alarmSet x m y false → exec i s = .next (s)) ∧
    (∀ (a : Nat) (up : Bool), freshSet s (0x10 + b2n (!up)) 0 (a % 2 ^ 32, 0) = true → s.sweep.trig.source = 2 →
       s.chain.locked = true → leadsClap s = false → edgeSelected s up = true →
       exec (.clapSet a up true) s = .next (clapEvent (takenSet s (0x10 + b2n (!up)) (a % 2 ^ 32, 0) (le 4 a)) (fullTime s.packTime a) (clapOf (fullTime s.packTime a) s.sweep.trig.delay 2000))) ∧
    (∀ (a : Nat) (up : Bool), freshSet s (0x10 + b2n (!up)) 0 (a % 2 ^ 32, 0) = true → leadsClap s = false →
       s.sweep.trig.source ≠ 2 ∨ s.chain.locked = false ∨ edgeSelected s up = false →
       exec (.clapSet a up true) s = .next (takenSet s (0x10 + b2n (!up)) (a % 2 ^ 32, 0) (le 4 a))) ∧
    (∀ (a n : Nat) (i : Int), freshSet s 0x20 a (n % 2 ^ 32, a) = true → chainSource s = true → a = s.chain.source →
       exec (.currentSet a n i true) s = .next (let q := takenSet s 0x20 (n % 2 ^ 32, a) (le 1 a ++ le 4 n ++ leInt 4 i); pushCurrent { q with chain := { q.chain with currentAt := some s.now } } (fullTime s.packTime n) i)) ∧
    (∀ (a n : Nat) (i : Int), freshSet s 0x20 a (n % 2 ^ 32, a) = true → chainSource s = false ∨ a ≠ s.chain.source →
       exec (.currentSet a n i true) s = .next (takenSet s 0x20 (n % 2 ^ 32, a) (le 1 a ++ le 4 n ++ leInt 4 i))) ∧
    (∀ (a n p g : Nat) (b : Bool), ownSync s b = true → exec (.syncSet a n p g b true) s = .next (s)) ∧
    (∀ (a n p g : Nat) (b : Bool), ownSync s b = false → cUp s = true → primaryHead s = true → s.chain.master = true →
       exec (.syncSet a n p g b true) s = .next (let r := n + hopDelay s p; let z := le 8 a ++ le 3 (r + residence s); let u := if g < 31 then (emit s 1 0x30 (1 - p) (z ++ [crc8 (0x30 :: z)])).draw else s; u)) ∧
    (∀ (a n p g : Nat) (b : Bool), ownSync s b = false → cUp s = true → primaryHead s = false ∨ s.chain.master = false →
       exec (.syncSet a n p g b true) s = .next (let r := n + hopDelay s p; let z := le 8 a ++ le 3 (r + residence s); let u := if g < 31 then (emit s 1 0x30 (1 - p) (z ++ [crc8 (0x30 :: z)])).draw else s; syncUse u a r p g b)) ∧
    (∀ (a n p g : Nat), s.chain.master = false → s.chain.isHead = false → cUp s = true → g < 31 →
       timePortB (if p = 0 then g else s.chain.hopsA) (if p = 0 then s.chain.hopsB else g) = decide (p = 1) →
       s.now ≤ s.chain.portSyncAt + 150000 → 9 ≤ s.chain.syncs → s.chain.locked = false →
       s.packTime + 4 < a + (n + hopDelay s p) / 100 → ∃ t, exec (.syncSet a n p g true true) s = .next t ∧
       t.chain.locked = true ∧ t.packTime = s.packTime ∧
       t.chain.slew = ((a + (n + hopDelay s p) / 100 : Nat) : Int) - s.packTime ∧ t.metro = s.metro ∧ t.mem = s.mem ∧
       t.segs = s.segs) ∧
    (∀ (a n p g : Nat), s.chain.master = false → cUp s = true → g < 31 →
       timePortB (if p = 0 then g else s.chain.hopsA) (if p = 0 then s.chain.hopsB else g) = decide (p = 1) →
       s.now ≤ s.chain.portSyncAt + 150000 → s.chain.locked = true → s.packTime ≤ a + (n + hopDelay s p) / 100 →
       a + (n + hopDelay s p) / 100 ≤ s.packTime + 4 → ∃ t, exec (.syncSet a n p g true true) s = .next t ∧
       t.chain.locked = true ∧ t.packTime = a + (n + hopDelay s p) / 100 ∧ t.metro = s.metro ∧ t.mem = s.mem ∧ t.segs = s.segs) ∧
    (∀ (a : Nat) (m : BitVec 32) (n : Nat), freshSet s 0x40 a (a * 2 ^ 32 + n % 2 ^ 32, m.toNat) = true →
       exec (.alarmSet a m n true) s = .next (alarmIn (takenSet s 0x40 (a * 2 ^ 32 + n % 2 ^ 32, m.toNat) (le 1 a ++ le 4 m.toNat ++ le 4 n)) a 0 m n)) ∧
    (∀ (p n : Nat), cUp s = true →
       exec (.delayReq p n) s = .next (emit s 1 0x60 p (le 4 s.packTime ++ [crc8 (0x60 :: le 4 s.packTime)]))) ∧
    (∀ (n e : Nat), cUp s = true →
       exec (.delayResp 0 n e) s = .next ({ s with chain := { s.chain with delayA := e, delayDone := s.chain.delayDone ||| 1 } })) ∧
    (∀ (n e : Nat), cUp s = true →
       exec (.delayResp 1 n e) s = .next ({ s with chain := { s.chain with delayB := e, delayDone := s.chain.delayDone ||| 2 } })) ∧
    (cUp s = true → s.chain.measuredAt + 16 * msT ≤ s.now →
       exec (.delayMeasurement) s = .next (emit (emit { s with chain := { s.chain with measuredAt := s.now } } 1 0x50 0 (le 4 s.packTime ++ [crc8 (0x50 :: le 4 s.packTime)])) 1 0x50 1 (le 4 s.packTime ++ [crc8 (0x50 :: le 4 s.packTime)]))) ∧
    (s.now < s.chain.measuredAt + 16 * msT → exec (.delayMeasurement) s = .next (s)) ∧
    (cUp s = true → s.chain.master = false → 5000 ≤ s.packTime % 100000 → s.chain.portSyncAt + s.packTime % 100000 < s.now →
       s.now ≤ s.chain.syncAt + s.packTime % 100000 →
       exec (.timePortChange) s = .next ({ s with chain := { s.chain with portB := !s.chain.portB, portSyncAt := s.chain.syncAt, hopsA := if s.chain.portB then s.chain.hopsA else 0, hopsB := if s.chain.portB then 0 else s.chain.hopsB } })) ∧
    (s.packTime % 100000 < 5000 ∨ s.now ≤ s.chain.portSyncAt + s.packTime % 100000 ∨ s.chain.syncAt + s.packTime % 100000 < s.now →
       exec (.timePortChange) s = .next (s)) ∧
    (cUp s = true → s.chain.master = false → s.chain.locked = true → s.chain.syncAt + 2 * msT ≤ s.now →
       exec (.packtimeUnlocked) s = .next (raise { s with chain := { s.chain with locked := false, syncs := 0, slew := 0 } } 0 4 0x55 (256 * s.chain.addr))) ∧
    (s.chain.master = true ∨ s.chain.locked = false ∨ s.now < s.chain.syncAt + 2 * msT → exec (.packtimeUnlocked) s = .next (s)) ∧
    (cUp s = true → s.chain.master = false → s.chain.secondary = true → s.chain.locked = true → s.chain.primaryAt + 2 * msT ≤ s.now →
       exec (.timeMasterTakeover) s = .next ({ s with chain := { s.chain with takeover := true } })) ∧
    (cUp s = true → primaryHead s = true → s.chain.refLost = false →
       exec (.packtimeRefLost) s = .next (raise { s with chain := { s.chain with refLost := true }, power := { s.power with pllOnRef := false } } 0 13 0x56 (b2n s.chain.refClkin))) ∧
    (cUp s = true → s.sup.keeper = true → s.chain.savedAt + 3600 * secT ≤ s.now →
       exec (.packTimeSave) s = .next ({ s with nv := { s.nv with packSaved := s.packTime }, chain := { s.chain with savedAt := s.now } })) ∧
    (s.now < s.chain.savedAt + 3600 * secT → exec (.packTimeSave) s = .next (s)) ∧
    (cUp s = true → exec (.noticeGapTimeout) s = .next (s.chain.tracks.foldl (fun s t => t.waiting.foldl (gapNotice t.addr) s) s)) ∧
    (cUp s = true →
       exec (.linkDown 0) s = .next (raise (portDown { s with chain := { s.chain with upA := false, hopsA := 0, delayDone := s.chain.delayDone &&& 2, downAtA := s.now } } s.chain.addr 0 s.packTime) 0 4 0x50 (256 * s.chain.addr))) ∧
    (cUp s = true →
       exec (.linkDown 1) s = .next (raise (portDown { s with chain := { s.chain with upB := false, hopsB := 0, delayDone := s.chain.delayDone &&& 1, downAtB := s.now } } s.chain.addr 1 s.packTime) 0 4 0x50 (256 * s.chain.addr + 1))) ∧
    (cUp s = true → bit s.chain.delayDone 0 = true → s.chain.upA = false → s.chain.downAtA + 100 * msT ≤ s.now →
       exec (.linkUp 0) s = .next (raise (portUp { s with chain := { s.chain with upA := true } } s.chain.addr 0) 0 4 0x51 (256 * s.chain.addr))) ∧
    (cUp s = true → bit s.chain.delayDone 1 = true → s.chain.upB = false → s.chain.downAtB + 100 * msT ≤ s.now →
       exec (.linkUp 1) s = .next (raise (portUp { s with chain := { s.chain with upB := true } } s.chain.addr 1) 0 4 0x51 (256 * s.chain.addr + 1))) ∧
    (∀ (a : Nat) (e : MapEntry), entryOf s a = some e → cUp s = true → primaryHead s = true → e.lost = false → a ≠ s.chain.addr →
       e.heard + 24 * msT ≤ s.now →
       exec (.packageLost a) s = .next (let q := updEntry s a fun e => { e with lost := true, state := 0, sweeping := false, locked := false }; raise { q with chain := { q.chain with seen := s.chain.seen.filter fun k => k.1 != a } } 0 4 0x53 a)) ∧
    (∀ (a : Nat) (e : MapEntry), entryOf s a = some e → s.now < e.heard + 24 * msT → exec (.packageLost a) s = .next (s))

/-- While the number of the superframe that runs is the one already begun, nothing changes. At a new number, the state that follows is
that of these steps in this order: the master role is taken (`takeMaster`); a decided placement takes effect, waiting class B traffic
leaves, a new slot map is in force (`applyPlacement`, `drainBulk`, `radioSuperframe`); orders of SET_SERVICE and admissions are carried
out, a new current source takes effect and the impedance reference is checked (`applyServices`, `admitReady`, `applySource`, `checkRef`);
notices are repeated and waiting Slates leave (`repeatNotices`, `drainSlates`); the head decides placements, the master sends its frames,
a member its heartbeat (`decidePlacement`, `masterSends`, `sendHeartbeat`); a move of the chain is made (`applyChainMove`). At a package
without an address for which nothing waits, the number alone changes of the fields named. The order among the steps is a choice of the
model (log entry 150); the operand, the spare capacity, is what the frame scheduler found. Rests on R283, R303, R304, R311, R316, R317,
R318, R320, R327, R360 and R455. -/
def Obligations.Superframes : Prop :=
  ∀ (s : State),
    (∀ (n : Nat), cUp s = true → s.packTime / 100000 % 2 ^ 32 = s.chain.sfnum → exec (.superframeStart n) s = .next (s)) ∧
    (∀ (n m : Nat) (a b k e : State), cUp s = true → m = s.packTime / 100000 % 2 ^ 32 → m ≠ s.chain.sfnum →
       a = takeMaster { s with chain := { s.chain with sfnum := m } } →
       b = radioSuperframe (drainBulk (applyPlacement a)) s.chain.sfnum →
       k = drainSlates (repeatNotices (checkRef (applySource (admitReady (applyServices b))))) →
       e = sendHeartbeat (masterSends (decidePlacement k n)) → exec (.superframeStart n) s = .next (applyChainMove e)) ∧
    (∀ (n : Nat), cUp s = true → s.chain.addr = 0 → s.chain.sfnum = 0 → s.packTime = 100000 → s.chain.isHead = false →
       s.chain.placeNext = none → s.chain.placeB = false → s.chain.services = [] → s.chain.sourceNext = none →
       s.slates.chainQueue = [] → s.chain.notices = [] → s.power.chainMove = none → s.imp.run = none → ∃ t,
       exec (.superframeStart n) s = .next t ∧ t.chain.sfnum = 1 ∧ t.mem = s.mem ∧ t.metro = s.metro ∧ t.segs = s.segs ∧
       t.sent = s.sent ∧ t.faults = s.faults)

/-- RADIO_SLOT in a slot already begun changes nothing; a new slot is noted, and with the radio off or the slot taken from the
transmitter (`slotLeft`) nothing else happens. Otherwise slot 0 sends the master's beacon and nothing elsewhere, slots 1 to 4 an alarm
drawn for them (`alarmSlot`), slots 5 to 39 the data frame of the package that the map names (`dataSlot`). With the radio off a beacon,
alarm or data frame changes nothing. One whose MIC fails or whose counter is not above the last of its sender, or a beacon of another
chain, raises RADIO_REJECTED. An accepted one stores the counter and a signal strength; the alarm then enters as one of the radio path
(`alarmIn`), and the data are acknowledged and appended (`bulkIn`). RADIO_ACKNOWLEDGEMENT, for the frame in flight, keeps the results of
the last 10 radio superframes with this one; the frame leaves the queue where it was acknowledged and stays where not. Without a frame in
flight nothing changes. Choices of the model: signal strengths are free values (log entry 4), the slots left under throttling (75), the
beacon of another chain (76). Rests on R304, R320 to R325, R327, R329, R332 and R464. -/
def Obligations.PackRadio : Prop :=
  ∀ (s : State),
    (slotNow s % 40 = s.radio.slot → exec (.radioSlot) s = .next (s)) ∧
    (∀ (u : State), slotNow s % 40 ≠ s.radio.slot → u = { s with radio := { s.radio with slot := slotNow s % 40 } } →
       radioOn u = false ∨ slotLeft u (slotNow s % 40) = false → exec (.radioSlot) s = .next (u)) ∧
    (∀ (u : State), u = { s with radio := { s.radio with slot := 0 } } → slotNow s % 40 = 0 → s.radio.slot ≠ 0 → radioOn u = true →
       slotLeft u 0 = true →
       exec (.radioSlot) s = .next (if s.chain.master then radioSend u 1 0xFF false (le 8 s.packTime ++ le 4 s.chain.chainId) else u)) ∧
    (∀ (u : State) (k : Nat), k = slotNow s % 40 → u = { s with radio := { s.radio with slot := k } } → k ≠ s.radio.slot → 1 ≤ k →
       k ≤ 4 → radioOn u = true → slotLeft u k = true → exec (.radioSlot) s = .next (alarmSlot u k)) ∧
    (∀ (u : State) (k : Nat), k = slotNow s % 40 → u = { s with radio := { s.radio with slot := k } } → k ≠ s.radio.slot → 5 ≤ k →
       radioOn u = true → slotLeft u k = true → exec (.radioSlot) s = .next (dataSlot u k)) ∧
    (∀ (a n k i : Nat) (g : Bool), radioOn s = false → exec (.radioBeacon a n g k i) s = .next (s)) ∧
    (∀ (a n k i : Nat), radioOn s = true → (peerOf s a).counter.any (fun c => decide (n ≤ c)) = false → i = s.chain.chainId →
       exec (.radioBeacon a n true k i) s = .next ((setPeer s { peerOf s a with counter := some n, rssi := Config.freeInt s.free % 256 - 128 }).draw)) ∧
    (∀ (a n k i : Nat) (g : Bool), radioOn s = true →
       g = false ∨ (peerOf s a).counter.any (fun c => decide (n ≤ c)) = true ∨ i ≠ s.chain.chainId →
       exec (.radioBeacon a n g k i) s = .next (raise s 0 5 0x5D a)) ∧
    (∀ (a n : Nat) (m : BitVec 32) (k : Nat) (g : Bool), radioOn s = false → exec (.radioAlarmFrame a n g m k) s = .next (s)) ∧
    (∀ (a n : Nat) (m : BitVec 32) (k : Nat) (g : Bool), radioOn s = true →
       g = false ∨ (peerOf s a).counter.any (fun c => decide (n ≤ c)) = true →
       exec (.radioAlarmFrame a n g m k) s = .next (raise s 0 5 0x5D a)) ∧
    (∀ (a n : Nat) (m : BitVec 32) (k : Nat), radioOn s = true → (peerOf s a).counter.any (fun c => decide (n ≤ c)) = false →
       exec (.radioAlarmFrame a n true m k) s = .next (alarmIn (setPeer s { peerOf s a with counter := some n, rssi := Config.freeInt s.free % 256 - 128 }).draw a 1 m k)) ∧
    (∀ (a n x y o : Nat) (l : List Byte) (g : Bool), radioOn s = false → exec (.radioDataFrame a n g x y o l) s = .next (s)) ∧
    (∀ (a n x y o : Nat) (l : List Byte) (g : Bool), radioOn s = true →
       g = false ∨ (peerOf s a).counter.any (fun c => decide (n ≤ c)) = true →
       exec (.radioDataFrame a n g x y o l) s = .next (raise s 0 5 0x5D a)) ∧
    (∀ (a n x y o : Nat) (l : List Byte), radioOn s = true → (peerOf s a).counter.any (fun c => decide (n ≤ c)) = false →
       exec (.radioDataFrame a n true x y o l) s = .next (let q := (setPeer s { peerOf s a with counter := some n, rssi := Config.freeInt s.free % 256 - 128 }).draw; bulkIn (emit q 2 3 a (ackBytes q a)) a x y o l)) ∧
    (∀ (a : Nat) (x : BulkItem), radioOn s = true → s.radio.inFlight = some x →
       exec (.radioAcknowledgement a true) s = .next (let q := setPeer s { peerOf s a with acks := (rsfNow s, true) :: (peerOf s a).acks.filter fun k => decide (rsfNow s < k.1 + 10) }; { q with radio := { q.radio with inFlight := none } })) ∧
    (∀ (a : Nat) (x : BulkItem), radioOn s = true → s.radio.inFlight = some x →
       exec (.radioAcknowledgement a false) s = .next (setPeer s { peerOf s a with acks := (rsfNow s, false) :: (peerOf s a).acks.filter fun k => decide (rsfNow s < k.1 + 10) })) ∧
    (∀ (a : Nat) (g : Bool), s.radio.inFlight = none → exec (.radioAcknowledgement a g) s = .next (s))

/-- Without M the first five answer NOT_FITTED. With M, READ_METRO of 1 to 240 bytes, READ_EVENTS of 1 to 14 entries and SET_DISPLAY of a
parameter 0 to 2 and at most 16 bytes enter C's queue of requests, whose next one of its kind goes to M (`askM`); SET_DISPLAY answers
REJECTED_STATE outside RUN. SIGN_STATEMENT of register 0 to 4 answers RESOURCE_BUSY where four statement requests are held, and otherwise
opens its operation and enters the queue with the present pack time. GET_METRO_STATUS answers its fields. SET_CURRENT_SOURCE answers
REJECTED_STATE outside RUN, NOT_PRIMARY off the primary head, and NOT_FITTED for an address that names no package with M (`namesNoM`);
otherwise it notes the source to come, sends it in a configuration frame, and answers the next superframe start (`nextSuperframe`). But
for this and the reply nothing changes. Choices of the model: values outside the table (log entry 59, no clause here), the bytes of the
configuration frame (62), an address of no package (81), the time a statement carries where it waits (81). Rests on R3, R304, R353, R354,
R360, R361 and R362. -/
def Obligations.MetrologyCommands : Prop :=
  ∀ (s : State),
    (∀ (h : Hdr) (a n : Nat), served s h 0x0801 → s.part.hasM = false →
       exec (.readMetro h a n) s = .next (answeredCmd s h 0x0801 stNotFitted [])) ∧
    (∀ (h : Hdr) (r : Nat), served s h 0x0802 → s.part.hasM = false →
       exec (.signStatement h r) s = .next (answeredCmd s h 0x0802 stNotFitted [])) ∧
    (∀ (h : Hdr) (p : Nat) (l : List Byte), served s h 0x0803 → s.part.hasM = false →
       exec (.setDisplay h p l) s = .next (answeredCmd s h 0x0803 stNotFitted [])) ∧
    (∀ (h : Hdr) (f n : Nat), served s h 0x0804 → s.part.hasM = false →
       exec (.readEvents h f n) s = .next (answeredCmd s h 0x0804 stNotFitted [])) ∧
    (∀ (h : Hdr), served s h 0x0805 → s.part.hasM = false → exec (.getMetroStatus h) s = .next (answeredCmd s h 0x0805 stNotFitted [])) ∧
    (∀ (h : Hdr) (a n : Nat), served s h 0x0801 → s.part.hasM = true → 1 ≤ n → n ≤ 240 →
       exec (.readMetro h a n) s = .next (askM (dequeue s h 0x0801) { hdr := h, opcode := 0x0801, kind := .read a n, sentAt := none })) ∧
    (∀ (h : Hdr) (r : Nat), served s h 0x0802 → s.part.hasM = true → r ≤ 4 → (s.mport.reqs.filter (·.statement)).length < 4 →
       canOpen s h →
       exec (.signStatement h r) s = .next (askM (openedCmd s h 0x0802) { hdr := h, opcode := 0x0802, kind := .statement r s.packTime, sentAt := none })) ∧
    (∀ (h : Hdr) (r : Nat), served s h 0x0802 → s.part.hasM = true → r ≤ 4 → 4 ≤ (s.mport.reqs.filter (·.statement)).length →
       exec (.signStatement h r) s = .next (answeredCmd s h 0x0802 stBusy [])) ∧
    (∀ (h : Hdr) (p : Nat) (l : List Byte), served s h 0x0803 → s.part.hasM = true → s.power.state ≠ .run →
       exec (.setDisplay h p l) s = .next (answeredCmd s h 0x0803 stRejected [])) ∧
    (∀ (h : Hdr) (p : Nat) (l : List Byte), served s h 0x0803 → s.part.hasM = true → s.power.state = .run → p ≤ 2 → l.length ≤ 16 →
       exec (.setDisplay h p l) s = .next (askM (dequeue s h 0x0803) { hdr := h, opcode := 0x0803, kind := .display p l, sentAt := none })) ∧
    (∀ (h : Hdr) (f n : Nat), served s h 0x0804 → s.part.hasM = true → 1 ≤ n → n ≤ 14 →
       exec (.readEvents h f n) s = .next (askM (dequeue s h 0x0804) { hdr := h, opcode := 0x0804, kind := .events f n [], sentAt := none })) ∧
    (∀ (h : Hdr), served s h 0x0805 → s.part.hasM = true →
       exec (.getMetroStatus h) s = .next (answeredCmd s h 0x0805 stOk (le 1 (b2n s.mport.withdrawn) ++ le 1 s.mport.cause ++ le 1 s.chain.source ++ [0] ++ leInt 4 s.mport.rate ++ le 4 s.mport.frames ++ le 4 s.mport.crcErr ++ le 4 s.mport.mstatus))) ∧
    (∀ (h : Hdr) (a : Nat), served s h 0x0806 → s.power.state ≠ .run →
       exec (.setCurrentSource h a) s = .next (answeredCmd s h 0x0806 stRejected [])) ∧
    (∀ (h : Hdr) (a : Nat), served s h 0x0806 → s.power.state = .run → a ≤ 32 → primaryHead s = false →
       exec (.setCurrentSource h a) s = .next (answeredCmd s h 0x0806 0x82 [])) ∧
    (∀ (h : Hdr) (a : Nat), served s h 0x0806 → s.power.state = .run → a ≤ 32 → primaryHead s = true → namesNoM s a = true →
       exec (.setCurrentSource h a) s = .next (answeredCmd s h 0x0806 stNotFitted [])) ∧
    (∀ (h : Hdr) (a : Nat), served s h 0x0806 → s.power.state = .run → a ≤ 32 → primaryHead s = true → namesNoM s a = false →
       exec (.setCurrentSource h a) s = .next (let q := dequeue s h 0x0806; reply (sendFrame { q with chain := { s.chain with sourceNext := some (a, s.now) } } 0x0E 0xFF 2 false false (le 1 2 ++ le 1 a ++ zeros 2 ++ le 8 s.packTime)) h 0x0806 stOk (le 8 (nextSuperframe s))))

/-- Without M a request changes nothing, and in STARTING and DORMANT M gives no answer; every request is activity on its return path
(`mActive`). M answers a read within one register or its event log (`mRead`), and a display value in its range, which it takes
(`mDisplay`); for a statement of register 0 to 4 its counter is stepped and stored before the statement is built (`statementBytes`). Any
other request it refuses, and raises METRO_BAD_REQUEST with the kind (`mRaise`). METRO_ANSWER takes the oldest answer at C's port to the
request of its kind that is with M: an event read that is not complete goes on with its rest, any other request is replied to
(`answered`) and leaves the queue; then the next request of the kind goes to M (`sendNext`). Without such a request the answer goes;
without an answer nothing changes. METRO_WITHDRAWN acts on every request whose bound has passed (`unanswered`): a statement's operation
completes with METRO_WITHDRAWN, any other command is answered so, and the next request goes to M; with none overdue nothing changes.
Choices of the model: one request of each kind in flight and the split of event reads (log entry 81); what a signature is stays open (5).
Rests on R17, R334, R340, R342, R345, R352, R353, R354, R361, R362 and R363. -/
def Obligations.MetrologyRequests : Prop :=
  ∀ (s : State),
    (∀ (a n : Nat) (l : List Byte), s.part.hasM = true → mAnswers s.metro = true → mRead s.metro a n = some l →
       exec (.registerReadRequest a n) s = .next ({ s.updM mActive with mport := { s.mport with answers := s.mport.answers ++ [(false, true, l)] } })) ∧
    (∀ (a n : Nat), s.part.hasM = true → mAnswers s.metro = true → mRead s.metro a n = none →
       exec (.registerReadRequest a n) s = .next (mRaise { s.updM mActive with mport := { s.mport with answers := s.mport.answers ++ [(false, false, [])] } } 2 0x69 0)) ∧
    (∀ (a n : Nat), s.part.hasM = true → mAnswers s.metro = false → exec (.registerReadRequest a n) s = .next (s.updM mActive)) ∧
    (∀ (a n : Nat), s.part.hasM = false → exec (.registerReadRequest a n) s = .next (s)) ∧
    (∀ (r k : Nat) (m : Metro), s.part.hasM = true → mAnswers s.metro = true → r ≤ 4 →
       m = mStore { s.metro with stmtCtr := (s.metro.stmtCtr + 1) % 2 ^ 64 } →
       exec (.statementRequest r k) s = .next ({ s with metro := mActive m, mport := { s.mport with answers := s.mport.answers ++ [(true, true, statementBytes m r k)] } })) ∧
    (∀ (r k : Nat), s.part.hasM = true → mAnswers s.metro = true → 4 < r →
       exec (.statementRequest r k) s = .next (mRaise { s.updM mActive with mport := { s.mport with answers := s.mport.answers ++ [(true, false, [])] } } 2 0x69 1)) ∧
    (∀ (r k : Nat), s.part.hasM = true → mAnswers s.metro = false → exec (.statementRequest r k) s = .next (s.updM mActive)) ∧
    (∀ (r k : Nat), s.part.hasM = false → exec (.statementRequest r k) s = .next (s)) ∧
    (∀ (p : Nat) (l : List Byte) (m : Metro), s.part.hasM = true → mAnswers s.metro = true → mDisplay s.metro p l = some m →
       exec (.displayRequest p l) s = .next ({ s with metro := mActive m, mport := { s.mport with answers := s.mport.answers ++ [(false, true, [])] } })) ∧
    (∀ (p : Nat) (l : List Byte), s.part.hasM = true → mAnswers s.metro = true → mDisplay s.metro p l = none →
       exec (.displayRequest p l) s = .next (mRaise { s.updM mActive with mport := { s.mport with answers := s.mport.answers ++ [(false, false, [])] } } 2 0x69 2)) ∧
    (∀ (p : Nat) (l : List Byte), s.part.hasM = true → mAnswers s.metro = false → exec (.displayRequest p l) s = .next (s.updM mActive)) ∧
    (∀ (p : Nat) (l : List Byte), s.part.hasM = false → exec (.displayRequest p l) s = .next (s)) ∧
    (∀ (b g : Bool) (l : List Byte) (a : List (Bool × Bool × List Byte)) (r : MReq), s.mport.answers = (b, g, l) :: a →
       ((s.mport.reqs.find? fun r => r.statement == b && r.sentAt.isSome) = some r) → r.rest g l = none →
       exec (.metroAnswer) s = .next (sendNext (answered { s with mport := { s.mport with answers := a, reqs := s.mport.reqs.filter fun x => x != r } } r g l) b)) ∧
    (∀ (b g : Bool) (l : List Byte) (a : List (Bool × Bool × List Byte)) (r : MReq) (q : MReq), s.mport.answers = (b, g, l) :: a →
       ((s.mport.reqs.find? fun r => r.statement == b && r.sentAt.isSome) = some r) → r.rest g l = some q →
       exec (.metroAnswer) s = .next (sendNext { s with mport := { s.mport with answers := a, reqs := upd s.mport.reqs (fun x => x == r) fun _ => q } } b)) ∧
    (∀ (b g : Bool) (l : List Byte) (a : List (Bool × Bool × List Byte)), s.mport.answers = (b, g, l) :: a →
       ((s.mport.reqs.find? fun r => r.statement == b && r.sentAt.isSome) = none) →
       exec (.metroAnswer) s = .next ({ s with mport := { s.mport with answers := a } })) ∧
    (s.mport.answers = [] → exec (.metroAnswer) s = .next (s)) ∧
    (exec (.metroWithdrawn) s = .next ((s.mport.reqs.filter fun r => r.sentAt.any fun t => decide (t + r.bound ≤ s.now)).foldl unanswered s)) ∧
    (∀ (r : MReq), ((s.mport.reqs.filter fun r => r.sentAt.any fun t => decide (t + r.bound ≤ s.now)) = [r]) → r.statement = false →
       exec (.metroWithdrawn) s = .next (sendNext (reply { s with mport := { s.mport with reqs := s.mport.reqs.filter fun x => x != r, answers := s.mport.answers.filter fun a => a.1 != r.statement } } r.hdr r.opcode 0x80 []) false)) ∧
    (∀ (r : MReq), ((s.mport.reqs.filter fun r => r.sentAt.any fun t => decide (t + r.bound ≤ s.now)) = [r]) → r.statement = true →
       exec (.metroWithdrawn) s = .next (sendNext (completeOp { s with mport := { s.mport with reqs := s.mport.reqs.filter fun x => x != r, answers := s.mport.answers.filter fun a => a.1 != r.statement } } r.hdr 0x80 []) true)) ∧
    (((s.mport.reqs.filter fun r => r.sentAt.any fun t => decide (t + r.bound ≤ s.now)) = []) → exec (.metroWithdrawn) s = .next (s))

/-- While M counts, the sample is taken, metered with the two inputs saturated, and overloads end and begin (`takeSample`, `meterSample`,
`overloadEnd`, `overloadBegin`, `overloadRun`). Of a sample in range with no overload open this says: where the shunt voltage is at least
Ist and the current not negative, voltage times current and current, with their remainders, are added to import energy and import charge,
which stand still at their largest value, and export stays; where the current is negative they are added to export energy and export
charge, and import stays; a negative voltage counts as 0; M is then in METERING; below Ist the four registers and the state stay and the
quiet samples count one more. In the three cases the dies, C's metrology port, memory and faults, and M's calibration generation, seal,
events, journal and statement counter stay. In HALTED M takes the sample and counts nothing; in STARTING and DORMANT, and without M,
nothing changes. Choice of the model: the roundings of `legalCurrent` and `legalVoltage` and the registers at their largest value (log
entries 86 and 88). Rests on R335 to R338, R342, R346 and R347. -/
def Obligations.LegalSamples : Prop :=
  ∀ (s : State),
    (∀ (x v : Int), s.part.hasM = true → mCounts s.metro = true →
       exec (.legalSample x v) s = .next ((overloadBegin ((s.updM (takeSample · x v)).updM fun m => overloadEnd (meterSample m x v) (decide (37500000 < x.natAbs)) (decide (1200000000 < v.natAbs))) (decide (37500000 < x.natAbs)) (decide (1200000000 < v.natAbs))).updM overloadRun)) ∧
    (∀ (x v : Int), s.part.hasM = true → mCounts s.metro = true → -37500000 ≤ x → x ≤ 37500000 → -1200000000 ≤ v → v ≤ 1200000000 →
       s.metro.overI = false → s.metro.overU = false → 37500 ≤ (legalShunt s.metro x).natAbs → 0 ≤ legalCurrent s.metro x → ∃ t,
       exec (.legalSample x v) s = .next t ∧
       t.metro.eimp = min (s.metro.eimp + (s.metro.remEimp + (legalVoltage s.metro v).toNat * (legalCurrent s.metro x).natAbs) / 28800000000000) (2 ^ 64 - 1) ∧
       t.metro.remEimp = (s.metro.remEimp + (legalVoltage s.metro v).toNat * (legalCurrent s.metro x).natAbs) % 28800000000000 ∧
       t.metro.qimp = min (s.metro.qimp + (s.metro.remQimp + (legalCurrent s.metro x).natAbs) / 8000000) (2 ^ 64 - 1) ∧
       t.metro.remQimp = (s.metro.remQimp + (legalCurrent s.metro x).natAbs) % 8000000 ∧ t.metro.eexp = s.metro.eexp ∧
       t.metro.qexp = s.metro.qexp ∧ t.metro.state = .metering ∧ t.segs = s.segs ∧ t.mport = s.mport ∧ t.mem = s.mem ∧
       t.faults = s.faults ∧ t.metro.calGen = s.metro.calGen ∧ t.metro.sealed_ = s.metro.sealed_ ∧
       t.metro.events = s.metro.events ∧ t.metro.journal = s.metro.journal ∧ t.metro.stmtCtr = s.metro.stmtCtr) ∧
    (∀ (x v : Int), s.part.hasM = true → mCounts s.metro = true → -37500000 ≤ x → x ≤ 37500000 → -1200000000 ≤ v → v ≤ 1200000000 →
       s.metro.overI = false → s.metro.overU = false → 37500 ≤ (legalShunt s.metro x).natAbs → legalCurrent s.metro x < 0 → ∃ t,
       exec (.legalSample x v) s = .next t ∧
       t.metro.eexp = min (s.metro.eexp + (s.metro.remEexp + (legalVoltage s.metro v).toNat * (legalCurrent s.metro x).natAbs) / 28800000000000) (2 ^ 64 - 1) ∧
       t.metro.remEexp = (s.metro.remEexp + (legalVoltage s.metro v).toNat * (legalCurrent s.metro x).natAbs) % 28800000000000 ∧
       t.metro.qexp = min (s.metro.qexp + (s.metro.remQexp + (legalCurrent s.metro x).natAbs) / 8000000) (2 ^ 64 - 1) ∧
       t.metro.remQexp = (s.metro.remQexp + (legalCurrent s.metro x).natAbs) % 8000000 ∧ t.metro.eimp = s.metro.eimp ∧
       t.metro.qimp = s.metro.qimp ∧ t.metro.state = .metering ∧ t.segs = s.segs ∧ t.mport = s.mport ∧ t.mem = s.mem ∧
       t.faults = s.faults ∧ t.metro.calGen = s.metro.calGen ∧ t.metro.sealed_ = s.metro.sealed_ ∧
       t.metro.events = s.metro.events ∧ t.metro.journal = s.metro.journal ∧ t.metro.stmtCtr = s.metro.stmtCtr) ∧
    (∀ (x v : Int), s.part.hasM = true → mCounts s.metro = true → -37500000 ≤ x → x ≤ 37500000 → -1200000000 ≤ v → v ≤ 1200000000 →
       s.metro.overI = false → s.metro.overU = false → (legalShunt s.metro x).natAbs < 37500 → ∃ t,
       exec (.legalSample x v) s = .next t ∧ t.metro.eimp = s.metro.eimp ∧ t.metro.eexp = s.metro.eexp ∧
       t.metro.qimp = s.metro.qimp ∧ t.metro.qexp = s.metro.qexp ∧ t.metro.state = s.metro.state ∧
       t.metro.quietSamples = s.metro.quietSamples + 1 ∧ t.segs = s.segs ∧ t.mport = s.mport ∧ t.mem = s.mem ∧
       t.faults = s.faults ∧ t.metro.calGen = s.metro.calGen ∧ t.metro.sealed_ = s.metro.sealed_ ∧
       t.metro.events = s.metro.events ∧ t.metro.journal = s.metro.journal ∧ t.metro.stmtCtr = s.metro.stmtCtr) ∧
    (∀ (x v : Int), s.part.hasM = true → mAnswers s.metro = true → mCounts s.metro = false →
       exec (.legalSample x v) s = .next (s.updM (takeSample · x v))) ∧
    (∀ (x v : Int), s.part.hasM = false ∨ mAnswers s.metro = false → exec (.legalSample x v) s = .next (s))

/-- M_START clears M's flags (`mClear`), resumes from the newest good slot of the journal (`mFromJournal`), stores the software
identifier and logs its cause; an incomplete store is logged and raises METRO_STORE_INCOMPLETE. With every check passed and a slot left M
is in METERING; a failed check halts it with its cause, no slot with cause 4 (`mHalt`); the faults of a broken or open seal follow
(`mStartFaults`). M_PERIODIC_CHECK, while M counts, judges the temperature (`mTemp`), and a failed check halts M with the pulse ended;
else nothing changes. M_IDLE_TIMEOUT: METERING after 10 s below Ist becomes IDLE. M_DORMANT_TIMEOUT: IDLE after 10 s without a request
becomes DORMANT, with a store and an event before. M_WAKE: DORMANT, where the comparator sees twice Ist or the return path was active
(`mWakes`), becomes METERING, with the seconds slept added, the counts of quiet and idle samples at 0, and an event. JOURNAL_STORE stores
a slot where M counts, something has changed and 10 s have passed; POWER_FAIL_STORE stores one and logs it while M counts or is halted.
Where a condition of the last five is not met, nothing changes. Choices of the model: the first slot of a new M (log entry 87), the
seconds that OPSEC counts (83), the comparator judged on the first sample (146). Rests on R339, R341 to R345, R349, R351 and R363. -/
def Obligations.MetrologyStates : Prop :=
  ∀ (s : State),
    (∀ (k e w : Nat) (i : Bool) (m : Metro) (u : State), s.part.hasM = true →
       m = mEvent 0x01 (le 1 k) { mClear (mFromJournal s.metro i) with swid := w % 2 ^ 32, state := .starting } →
       (u = if i then mRaise { s with metro := mEvent 0x03 (le 4 m.journalGen) m } 1 0x67 (m.journalGen % 65536) else { s with metro := m }) →
       e = 0 → u.metro.journal ≠ [] →
       exec (.mStart k e i w) s = .next (mStartFaults (u.updM fun m => { m with state := .metering }))) ∧
    (∀ (k e w : Nat) (i : Bool) (m : Metro) (u : State), s.part.hasM = true →
       m = mEvent 0x01 (le 1 k) { mClear (mFromJournal s.metro i) with swid := w % 2 ^ 32, state := .starting } →
       (u = if i then mRaise { s with metro := mEvent 0x03 (le 4 m.journalGen) m } 1 0x67 (m.journalGen % 65536) else { s with metro := m }) →
       e = 0 → u.metro.journal = [] → exec (.mStart k e i w) s = .next (mStartFaults (mHalt u 4))) ∧
    (∀ (k e w : Nat) (i : Bool) (m : Metro) (u : State), s.part.hasM = true →
       m = mEvent 0x01 (le 1 k) { mClear (mFromJournal s.metro i) with swid := w % 2 ^ 32, state := .starting } →
       (u = if i then mRaise { s with metro := mEvent 0x03 (le 4 m.journalGen) m } 1 0x67 (m.journalGen % 65536) else { s with metro := m }) →
       e ≠ 0 → exec (.mStart k e i w) s = .next (mStartFaults (mHalt u e))) ∧
    (∀ (k e w : Nat) (i : Bool), s.part.hasM = false → exec (.mStart k e i w) s = .next (s)) ∧
    (∀ (k : Int), s.part.hasM = true → mCounts s.metro = true → exec (.mPeriodicCheck 0 k) s = .next (s.updM (mTemp k))) ∧
    (∀ (e : Nat) (k : Int), s.part.hasM = true → mCounts s.metro = true → e ≠ 0 →
       exec (.mPeriodicCheck e k) s = .next (mHalt (s.updM fun m => { mTemp k m with pulse := false }) e)) ∧
    (∀ (e : Nat) (k : Int), s.part.hasM = false ∨ mCounts s.metro = false → exec (.mPeriodicCheck e k) s = .next (s)) ∧
    (s.part.hasM = true → s.metro.state = .metering → 10 * sps ≤ s.metro.quietSamples →
       exec (.mIdleTimeout) s = .next (s.updM fun m => { m with state := .idle })) ∧
    (s.part.hasM = false ∨ s.metro.state ≠ .metering ∨ s.metro.quietSamples < 10 * sps → exec (.mIdleTimeout) s = .next (s)) ∧
    (s.part.hasM = true → s.metro.state = .idle → 10 * sps ≤ s.metro.idleSamples →
       exec (.mDormantTimeout) s = .next (s.updM fun m => mEvent 0x0B [] { mStore m with state := .dormant, dormantAt := s.now, pulse := false })) ∧
    (s.part.hasM = false ∨ s.metro.state ≠ .idle ∨ s.metro.idleSamples < 10 * sps → exec (.mDormantTimeout) s = .next (s)) ∧
    (∀ (k : Int), s.part.hasM = true → s.metro.state = .dormant → mWakes s.metro k = true →
       exec (.mWake k) s = .next (s.updM fun m => mEvent 0x0C (leInt 4 k) { m with state := .metering, called := false, opsec := (m.opsec + (s.now - m.dormantAt) / secT) % 2 ^ 32, quietSamples := 0, idleSamples := 0 })) ∧
    (∀ (k : Int), s.part.hasM = false ∨ s.metro.state ≠ .dormant ∨ mWakes s.metro k = false → exec (.mWake k) s = .next (s)) ∧
    (s.part.hasM = true → mCounts s.metro = true → s.metro.dirty = true → 10 * sps ≤ s.metro.storeSamples →
       exec (.journalStore) s = .next (s.updM fun m => { m with journal := (mSlotOf m :: m.journal).take 4096, journalGen := m.journalGen + 1, storeSamples := 0, dirty := false })) ∧
    (s.part.hasM = false ∨ mCounts s.metro = false ∨ s.metro.dirty = false ∨ s.metro.storeSamples < 10 * sps →
       exec (.journalStore) s = .next (s)) ∧
    (s.part.hasM = true → mCounts s.metro = true ∨ s.metro.state = .halted →
       exec (.powerFailStore) s = .next (s.updM fun m => mEvent 0x02 (le 4 (m.journalGen + 1)) (mStore m))) ∧
    (s.part.hasM = false ∨ mCounts s.metro = false ∧ s.metro.state ≠ .halted → exec (.powerFailStore) s = .next (s))

/-- Where the interface hears (`mUart`: with M, in any state but STARTING and DORMANT): METRO_CAL_READ puts out the reply frame of a
register (`mRead`), and an empty one where M refuses. While M is UNSEALED: METRO_CAL_POINT of current or voltage begins a point;
CAL_STORE, where the two points of each input fit (`calFit`), stores gains and offsets with the next generation and an event;
SET_AUTHORITY of 64 bytes stores the key where none is stored or the seal is broken; SEAL, with a calibration and an authority key, seals
and logs. METRO_CAL_POINT_DONE after 4 s of samples keeps the average with the applied value, the latest two of an input. While M is
SEALED, UNSEAL whose token verifies under the authority key unseals and breaks the seal (`breakSeal`). M_TEST_ACCESS whose token verifies
under the Folhary key breaks the seal in any seal state. Where the conditions are not met nothing changes. What a signature verifies to
is open (log entry 5). Choices of the model: the form of the answers (84), the messages signed (85), points that give no gain (86). Rests
on R340, R342, R346, R347 and R348. -/
def Obligations.SealAndCalibration : Prop :=
  ∀ (s : State),
    (∀ (a n : Nat) (l : List Byte), mUart s = true → mRead s.metro a n = some l →
       exec (.metroCalRead a n) s = .next (s.updM fun m => { m with uartOut := le 1 1 ++ le 1 l.length ++ l ++ le 2 (crc16 (le 1 1 ++ le 1 l.length ++ l)).toNat })) ∧
    (∀ (a n : Nat), mUart s = true → mRead s.metro a n = none →
       exec (.metroCalRead a n) s = .next (s.updM fun m => { m with uartOut := [] })) ∧
    (∀ (a n : Nat), mUart s = false → exec (.metroCalRead a n) s = .next (s)) ∧
    (∀ (x : Nat) (v : Int), mUart s = true → s.metro.sealed_ = false → x ≤ 1 →
       exec (.metroCalPoint x v) s = .next (s.updM fun m => { m with ptRun := some (x, v), ptSum := 0, ptN := 0 })) ∧
    (∀ (x : Nat) (v : Int), mUart s = false ∨ s.metro.sealed_ = true ∨ 1 < x → exec (.metroCalPoint x v) s = .next (s)) ∧
    (∀ (a : Int), mUart s = true → 4 * sps ≤ s.metro.ptN → s.metro.ptRun = some (0, a) →
       exec (.metroCalPointDone 0) s = .next (s.updM fun m => { m with ptRun := none, ptI := ((a, divRound m.ptSum m.ptN) :: m.ptI).take 2 })) ∧
    (∀ (a : Int), mUart s = true → 4 * sps ≤ s.metro.ptN → s.metro.ptRun = some (1, a) →
       exec (.metroCalPointDone 1) s = .next (s.updM fun m => { m with ptRun := none, ptU := ((a, divRound m.ptSum m.ptN) :: m.ptU).take 2 })) ∧
    (∀ (x : Nat), mUart s = false ∨ s.metro.ptN < 4 * sps ∨ s.metro.ptRun.map Prod.fst ≠ some x →
       exec (.metroCalPointDone x) s = .next (s)) ∧
    (∀ (r k a b : Int), mUart s = true → s.metro.sealed_ = false → calFit s.metro.ptI s.metro.ptU = some (r, k, a, b) →
       exec (.calStore) s = .next (s.updM fun m => mEvent 0x07 (le 2 ((m.calGen + 1) % 65536)) { m with shunt := r, ratio := k, offI := a, offU := b, calGen := (m.calGen + 1) % 65536, ptI := [], ptU := [] })) ∧
    (mUart s = false ∨ s.metro.sealed_ = true ∨ calFit s.metro.ptI s.metro.ptU = none → exec (.calStore) s = .next (s)) ∧
    (∀ (l : List Byte), mUart s = true → s.metro.sealed_ = false → l.length = 64 → s.metro.authority = [] ∨ s.metro.sealBroken = true →
       exec (.setAuthority l) s = .next (s.updM fun m => { m with authority := l })) ∧
    (∀ (l : List Byte), mUart s = false ∨ s.metro.sealed_ = true ∨ s.metro.authority ≠ [] ∧ s.metro.sealBroken = false →
       exec (.setAuthority l) s = .next (s)) ∧
    (mUart s = true → s.metro.sealed_ = false → s.metro.calGen ≠ 0 → s.metro.authority ≠ [] →
       exec (.sealMetro) s = .next (s.updM fun m => mEvent 0x04 (le 2 m.calGen) { m with sealed_ := true })) ∧
    (mUart s = false ∨ s.metro.sealed_ = true ∨ s.metro.calGen = 0 ∨ s.metro.authority = [] → exec (.sealMetro) s = .next (s)) ∧
    (∀ (l : List Byte), mUart s = true → s.metro.sealed_ = true →
       exec (.unsealMetro l) s = .next (if Config.ecdsaVerify s.metro.authority (tokenBytes s.metro) l then s.updM fun m => breakSeal 0x05 (l.take 4) { m with sealed_ := false } else s)) ∧
    (∀ (l : List Byte), mUart s = false ∨ s.metro.sealed_ = false → exec (.unsealMetro l) s = .next (s)) ∧
    (∀ (l : List Byte), mUart s = true →
       exec (.mTestAccess l) s = .next (if Config.ecdsaVerify Config.folharyKey (tokenBytes s.metro) l then s.updM (breakSeal 0x06 []) else s)) ∧
    (∀ (l : List Byte), mUart s = false → exec (.mTestAccess l) s = .next (s))

/-- STREAM_FRAME, once for each of M's samples, in every state but STARTING and DORMANT, and while C is up, sends the frame of that
sample (`streamBytes`). A frame that reaches C with a wrong CRC is discarded and counted (`badStreamFrame`). One with a good CRC enters
C's port (`portFrame`); one that shows STATE HALTED withdraws the stream for METRO_HALTED, a fitted period off by more than 200 ppm
withdraws it with METRO_CLOCK_DRIFT and the clock error in ppm (`dropStream`); then the sample goes to its use (`useSample`). Otherwise
nothing changes. METRO_STREAM_LOST, 1 ms after the last good frame, withdraws the stream with METRO_STREAM_LOST. METRO_RESTORED: a
withdrawn stream that has been fit for 1 s is to return at the next Take boundary. MSTATUS_POLL, once per second in RUN, MONITOR and
SERVICE, is activity on M's return path and reads MSTATUS where M answers. Where the conditions are not met nothing changes. Choices of
the model: the latency and the fit of sample instants (log entries 82 and 147). Rests on R302, R342, R344, R356, R358, R359 and R363. -/
def Obligations.CurrentStream : Prop :=
  ∀ (s : State),
    (∀ (i : Int) (n p v : BitVec 32) (m k : BitVec 16), cUp s = true → s.part.hasM = true → mAnswers s.metro = true →
       s.mport.lastSample ≠ some s.metro.sample → crc16 (streamFields n p v m) ≠ k →
       exec (.streamFrame i n p v m k) s = .next (badStreamFrame (emit { s with mport := { s.mport with lastSample := some s.metro.sample } } 3 3 0 (streamBytes s.metro i)))) ∧
    (∀ (i : Int) (n p v : BitVec 32) (m : BitVec 16), cUp s = true → s.part.hasM = true → mAnswers s.metro = true →
       s.mport.lastSample ≠ some s.metro.sample →
       exec (.streamFrame i n p v m (crc16 (streamFields n p v m))) s = .next (let f := portFrame (emit { s with mport := { s.mport with lastSample := some s.metro.sample } } 3 3 0 (streamBytes s.metro i)) n.toNat m.toNat; let q := if m.toNat % 8 = 3 then dropStream f 0x64 false 0 else f; useSample (if (lineFit q.mport.arrivals).off q.mport.arrivals 200 then dropStream q 0x61 true ((divRound q.mport.rate 10) % 65536).toNat else q) p.toInt)) ∧
    (∀ (i : Int) (n p v : BitVec 32) (m k : BitVec 16),
       cUp s = false ∨ s.part.hasM = false ∨ mAnswers s.metro = false ∨ s.mport.lastSample = some s.metro.sample →
       exec (.streamFrame i n p v m k) s = .next (s)) ∧
    (cUp s = true → s.part.hasM = true → s.mport.goodAt + msT ≤ s.now → exec (.metroStreamLost) s = .next (dropStream s 0x60 true 0)) ∧
    (cUp s = false ∨ s.part.hasM = false ∨ s.now < s.mport.goodAt + msT → exec (.metroStreamLost) s = .next (s)) ∧
    (∀ (k : Tick), cUp s = true → s.mport.withdrawn = true → s.mport.goodSince = some k → k + secT ≤ s.now →
       exec (.metroRestored) s = .next ({ s with mport := { s.mport with restoring := true } })) ∧
    ((cUp s = false ∨ s.mport.withdrawn = false ∨ (s.mport.goodSince.any fun t => decide (t + secT ≤ s.now)) = false) →
       exec (.metroRestored) s = .next (s)) ∧
    (cUp s = true → s.part.hasM = true → s.mport.polledAt + secT ≤ s.now →
       s.power.state = .run ∨ s.power.state = .monitor ∨ s.power.state = .service → mAnswers s.metro = true →
       exec (.mstatusPoll) s = .next ({ s with metro := mActive s.metro, mport := { s.mport with mstatus := mstatusOf s.metro, polledAt := s.now } })) ∧
    (cUp s = true → s.part.hasM = true → s.mport.polledAt + secT ≤ s.now →
       s.power.state = .run ∨ s.power.state = .monitor ∨ s.power.state = .service → mAnswers s.metro = false →
       exec (.mstatusPoll) s = .next ({ s with metro := mActive s.metro, mport := { s.mport with polledAt := s.now } })) ∧
    (cUp s = false ∨ s.part.hasM = false ∨ s.now < s.mport.polledAt + secT ∨ ¬ (s.power.state = .run ∨ s.power.state = .monitor ∨ s.power.state = .service) →
       exec (.mstatusPoll) s = .next (s))

/-- SAFETY_LOGIN during the lock answers LOCKED_OUT; with a wrong password it is a failed login (`loginFailed`) and answers AUTH_FAILED;
with the password it gives its head one session, with the host identity, a number, a challenge and the key SHA-256 of challenge and
password, and answers number and challenge. SAFETY_LOGOUT, SAFETY_CONFIG_STAGE, SAFETY_CONFIG_COMMIT, SET_PASSWORD, SO_COMMAND,
SAFETY_DECIDE and CRASH_RELEASE without an accepted proof (`proofGood`) answer AUTH_FAILED and change nothing else; an accepted proof
counts for the session (`useProof`). SAFETY_LOGOUT then ends its head's session. SET_PASSWORD of bytes outside the rule answers
FRAME_INVALID, with a wrong old password it is a failed login and answers AUTH_FAILED, and with the right one it logs the change, stores
the new password and ends every session. SESSION_TIMEOUT ends a head's session 60 s after its last accepted proof and keeps any other;
LOGIN_LOCK_END ends a lock whose 60 s have passed and changes nothing before. Session numbers and challenges are free values (log entry
4). Choices of the model: a wrong old password as a failed login and a malformed new one as FRAME_INVALID (log entry 96). Rests on R387
to R390, R395 and R400. -/
def Obligations.SafetySessions : Prop :=
  ∀ (s : State),
    (∀ (h : Hdr) (a : Nat) (l : List Byte), served s h 0x0901 → loginLocked s = true →
       exec (.safetyLogin h a l) s = .next (answeredCmd s h 0x0901 0x83 [])) ∧
    (∀ (h : Hdr) (a : Nat) (l : List Byte), served s h 0x0901 → loginLocked s = false → l ≠ s.nv.password →
       exec (.safetyLogin h a l) s = .next (reply (loginFailed (dequeue s h 0x0901) a) h 0x0901 stAuthFailed [])) ∧
    (∀ (h : Hdr) (a : Nat), served s h 0x0901 → loginLocked s = false →
       exec (.safetyLogin h a s.nv.password) s = .next (reply ({ (dequeue s h 0x0901).draw with safety := { s.safety with sessions := (s.safety.sessions.filter fun y => y.head != headOf h) ++ [{ head := headOf h, host := a, number := s.freeNat % 2 ^ 32, challenge := s.freeBytes 16, key := Config.sha256 (s.freeBytes 16 ++ s.nv.password), lastN := 0, lastProof := s.now, staging := none }] } }) h 0x0901 stOk (le 4 (s.freeNat % 2 ^ 32) ++ s.freeBytes 16))) ∧
    (∀ (h : Hdr) (p : Proof), served s h 0x0902 → proofGood s h 0x0902 ([]) p = true →
       exec (.safetyLogout h p) s = .next (reply { (useProof (dequeue s h 0x0902) h p) with safety := { s.safety with sessions := (useProof s h p).safety.sessions.filter fun x => x.head != headOf h } } h 0x0902 stOk [])) ∧
    (∀ (h : Hdr) (p : Proof), served s h 0x0902 → proofGood s h 0x0902 ([]) p = false →
       exec (.safetyLogout h p) s = .next (answeredCmd s h 0x0902 stAuthFailed [])) ∧
    (∀ (h : Hdr) (p : Proof) (n : Nat) (l : List Byte), served s h 0x0904 →
       proofGood s h 0x0904 (le 1 n ++ le 1 l.length ++ zeros 2 ++ l) p = false →
       exec (.safetyConfigStage h n l p) s = .next (answeredCmd s h 0x0904 stAuthFailed [])) ∧
    (∀ (h : Hdr) (p : Proof) (n : Nat), served s h 0x0905 → proofGood s h 0x0905 (le 4 n) p = false →
       exec (.safetyConfigCommit h n p) s = .next (answeredCmd s h 0x0905 stAuthFailed [])) ∧
    (∀ (h : Hdr) (p : Proof) (a l : List Byte), served s h 0x0906 →
       proofGood s h 0x0906 (le 1 a.length ++ le 1 l.length ++ zeros 2 ++ a ++ l) p = false →
       exec (.setPassword h a l p) s = .next (answeredCmd s h 0x0906 stAuthFailed [])) ∧
    (∀ (h : Hdr) (p : Proof) (m a : Nat), served s h 0x0907 → proofGood s h 0x0907 (le 1 m ++ le 1 a ++ zeros 2) p = false →
       exec (.soCommand h m a p) s = .next (answeredCmd s h 0x0907 stAuthFailed [])) ∧
    (∀ (h : Hdr) (p : Proof) (n : Nat), served s h 0x0908 → proofGood s h 0x0908 (le 1 n ++ zeros 3) p = false →
       exec (.safetyDecide h n p) s = .next (answeredCmd s h 0x0908 stAuthFailed [])) ∧
    (∀ (h : Hdr) (p : Proof) (n : Nat), served s h 0x090B → proofGood s h 0x090B (le 1 n ++ zeros 3) p = false →
       exec (.crashRelease h n p) s = .next (answeredCmd s h 0x090B stAuthFailed [])) ∧
    (∀ (h : Hdr) (p : Proof) (a l : List Byte), served s h 0x0906 →
       proofGood s h 0x0906 (le 1 a.length ++ le 1 l.length ++ zeros 2 ++ a ++ l) p = true → passwordOk l = false →
       exec (.setPassword h a l p) s = .next (refuse (useProof (dequeue s h 0x0906) h p) h 0x0906 stFrameInvalid)) ∧
    (∀ (h : Hdr) (p : Proof) (l : List Byte), served s h 0x0906 →
       proofGood s h 0x0906 (le 1 s.nv.password.length ++ le 1 l.length ++ zeros 2 ++ s.nv.password ++ l) p = true →
       passwordOk l = true →
       exec (.setPassword h s.nv.password l p) s = .next (reply { logAdd (useProof (dequeue s h 0x0906) h p) [{ seq := 0, at_ := s.packTime, field := 0xFF, host := sessionHost s h, old := 0, new := 0, gen := s.safety.gen }] with nv := { (logAdd s [{ seq := 0, at_ := s.packTime, field := 0xFF, host := sessionHost s h, old := 0, new := 0, gen := s.safety.gen }]).nv with password := l }, safety := { s.safety with sessions := [] } } h 0x0906 stOk [])) ∧
    (∀ (h : Hdr) (p : Proof) (a l : List Byte), served s h 0x0906 →
       proofGood s h 0x0906 (le 1 a.length ++ le 1 l.length ++ zeros 2 ++ a ++ l) p = true → passwordOk l = true →
       a ≠ s.nv.password →
       exec (.setPassword h a l p) s = .next (reply (loginFailed (useProof (dequeue s h 0x0906) h p) (sessionHost s h)) h 0x0906 stAuthFailed [])) ∧
    (∀ (n : Nat),
       exec (.sessionTimeout n) s = .next ({ s with safety := { s.safety with sessions := s.safety.sessions.filter fun x => !(x.head == n && decide (x.lastProof + 60 * secT ≤ s.now)) } })) ∧
    (∀ (k : Tick), s.safety.lockEnd = some k → k ≤ s.now →
       exec (.loginLockEnd) s = .next ({ s with safety := { s.safety with lockEnd := none } })) ∧
    (((s.safety.lockEnd.any fun t => decide (t ≤ s.now)) = false) → exec (.loginLockEnd) s = .next (s))

/-- Each command that needs a proof is stated for an accepted one. SAFETY_CONFIG_READ answers the image in use, or with WHICH 1 the
staging copy, each with its CRC, and the generation. STAGE writes bytes into the session's staging copy, which starts as the active image
(`stagingOf`, `stageWrite`). COMMIT answers NO_PASSWORD while no password is set and CONFIG_CRC_MISMATCH for another CRC than that of the
copy; otherwise it opens its operation and hands image, next generation and change log to the flash gate (`commitLog`, `flashPush`).
SAFETY_CONFIG_APPLY puts the stored image in force, judges inputs and loop afresh (`reevaluate`) and completes the commit with the
generation and the count of changed fields; with nothing to apply it changes nothing. SO_COMMAND to open opens the outputs named; to
close it answers CLOSE_REFUSED with the first condition of R379 that fails (`closeReason`), and otherwise closes them and, for a mask
that names an output, arms the host watchdog (`wdArm`); its result carries the outputs. SAFETY_DECIDE answers status 0x84 where no grace
period runs; DECISION 1 opens SAFESTATE and ends the periods, another changes nothing. GET_SAFETY_STATUS and READ_CHANGE_LOG answer their
fields. CRASH_RELEASE answers 0x85 for an input without a crash latch, 0x86 before 1 s in operate, and else clears the latch. But for the
proof, this and the reply nothing changes. Choices of the model: REASON 8 judged first, CAUSES as a count, rounding of remaining times
(log entry 96), an input outside 1 to 4 (96). Rests on R376, R379, R385, R388, R391 to R393, R395, R399, R400 and R419. -/
def Obligations.SafetyCommands : Prop :=
  ∀ (s : State),
    (∀ (h : Hdr) (w : Nat), served s h 0x0903 → w ≠ 1 →
       exec (.safetyConfigRead h w) s = .next (answeredCmd s h 0x0903 stOk (imageBytes (safetyImage s) ++ le 4 s.safety.gen))) ∧
    (∀ (h : Hdr), served s h 0x0903 →
       exec (.safetyConfigRead h 1) s = .next (answeredCmd s h 0x0903 stOk (imageBytes (stagingOf s h) ++ le 4 s.safety.gen))) ∧
    (∀ (h : Hdr) (p : Proof) (n : Nat) (l : List Byte), served s h 0x0904 →
       proofGood s h 0x0904 (le 1 n ++ le 1 l.length ++ zeros 2 ++ l) p = true →
       exec (.safetyConfigStage h n l p) s = .next (reply { (useProof (dequeue s h 0x0904) h p) with safety := { s.safety with sessions := upd (useProof s h p).safety.sessions (fun x => x.head == headOf h) fun x => { x with staging := some (stageWrite (stagingOf s h) n l) } } } h 0x0904 stOk [])) ∧
    (∀ (h : Hdr) (p : Proof) (n : Nat), served s h 0x0905 → proofGood s h 0x0905 (le 4 n) p = true → s.nv.password = [] →
       exec (.safetyConfigCommit h n p) s = .next (reply (useProof (dequeue s h 0x0905) h p) h 0x0905 0x82 [])) ∧
    (∀ (h : Hdr) (p : Proof) (n : Nat), served s h 0x0905 → proofGood s h 0x0905 (le 4 n) p = true → s.nv.password ≠ [] →
       n ≠ (crc32 (fit 124 (stagingOf s h))).toNat →
       exec (.safetyConfigCommit h n p) s = .next (reply (useProof (dequeue s h 0x0905) h p) h 0x0905 0x81 [])) ∧
    (∀ (h : Hdr) (p : Proof) (n : Nat), served s h 0x0905 → proofGood s h 0x0905 (le 4 n) p = true → canOpen s h → s.nv.password ≠ [] →
       n = (crc32 (fit 124 (stagingOf s h))).toNat →
       exec (.safetyConfigCommit h n p) s = .next (flashPush (openedCmd (useProof s h p) h 0x0905) (.safetyImage { hdr := h, image := stagingOf s h, gen := s.safety.gen + 1, changed := (commitLog s h (stagingOf s h) (s.safety.gen + 1)).length } (commitLog s h (stagingOf s h) (s.safety.gen + 1))))) ∧
    (∀ (q : PendingCfg), s.safety.applying = some q →
       exec (.safetyConfigApply) s = .next (completeOp (reevaluate { s with safety := { s.safety with image := q.image, gen := q.gen, valid := true, applying := none } }) q.hdr stOk (le 4 q.gen ++ le 1 q.changed ++ zeros 3))) ∧
    (s.safety.applying = none → exec (.safetyConfigApply) s = .next (s)) ∧
    (∀ (h : Hdr) (p : Proof) (m a : Nat), served s h 0x0907 → proofGood s h 0x0907 (le 1 m ++ le 1 a ++ zeros 2) p = true → a ≠ 1 →
       exec (.soCommand h m a p) s = .next (reply (openOutputs (useProof (dequeue s h 0x0907) h p) (m % 4)) h 0x0907 stOk (le 1 0 ++ le 1 (outputsByte (openOutputs (useProof (dequeue s h 0x0907) h p) (m % 4))) ++ zeros 2))) ∧
    (∀ (h : Hdr) (p : Proof) (m : Nat), served s h 0x0907 → proofGood s h 0x0907 (le 1 m ++ le 1 1 ++ zeros 2) p = true →
       closeReason s (m % 4) ≠ 0 →
       exec (.soCommand h m 1 p) s = .next (reply (useProof (dequeue s h 0x0907) h p) h 0x0907 0x80 (le 1 (closeReason s (m % 4)) ++ le 1 (outputsByte s) ++ zeros 2))) ∧
    (∀ (h : Hdr) (p : Proof) (m : Nat), served s h 0x0907 → proofGood s h 0x0907 (le 1 m ++ le 1 1 ++ zeros 2) p = true →
       closeReason s (m % 4) = 0 →
       exec (.soCommand h m 1 p) s = .next (let u := closeOutputs (useProof (dequeue s h 0x0907) h p) (m % 4); reply (if m % 4 = 0 then u else wdArm u) h 0x0907 stOk (le 1 0 ++ le 1 (outputsByte (u)) ++ zeros 2))) ∧
    (∀ (h : Hdr) (p : Proof) (n : Nat), served s h 0x0908 → proofGood s h 0x0908 (le 1 n ++ zeros 3) p = true →
       ((s.stage.graces.any fun g => g.running) = false) →
       exec (.safetyDecide h n p) s = .next (reply (useProof (dequeue s h 0x0908) h p) h 0x0908 0x84 [])) ∧
    (∀ (h : Hdr) (p : Proof) (n : Nat), served s h 0x0908 → proofGood s h 0x0908 (le 1 n ++ zeros 3) p = true →
       ((s.stage.graces.any fun g => g.running) = true) → n ≠ 1 →
       exec (.safetyDecide h n p) s = .next (reply (useProof (dequeue s h 0x0908) h p) h 0x0908 stOk [])) ∧
    (∀ (h : Hdr) (p : Proof), served s h 0x0908 → proofGood s h 0x0908 (le 1 1 ++ zeros 3) p = true →
       ((s.stage.graces.any fun g => g.running) = true) →
       exec (.safetyDecide h 1 p) s = .next (reply (endGraces (openOutputs (useProof (dequeue s h 0x0908) h p) (safeState s))) h 0x0908 stOk [])) ∧
    (∀ (h : Hdr), served s h 0x0909 →
       exec (.getSafetyStatus h) s = .next (answeredCmd s h 0x0909 stOk (let ops := (s.stage.inputs.zipIdx.map fun p => b2n (inOperate s p.1) * 2 ^ p.2 + b2n p.1.latched * 2 ^ (p.2 + 4)).sum; let chs := (s.stage.inputs.zipIdx.map fun p => b2n p.1.chA * 4 ^ p.2 + b2n p.1.chB * 2 * 4 ^ p.2).sum; let crash := (s.stage.inputs.zipIdx.map fun p => b2n p.1.crash * 2 ^ p.2).sum; let sess := b2n (sessionOf s (headOf h)).isSome + 2 * b2n (s.safety.sessions.any fun x => x.head != headOf h) + 4 * b2n (loginLocked s); le 1 ops ++ le 1 chs ++ le 1 (outputsByte s) ++ le 1 s.stage.hvil ++ le 2 (sat 16 (activeCauses s).length) ++ le 2 (s.stage.graces.filter fun g => g.running).length ++ le 4 (graceEnd s) ++ le 4 s.safety.gen ++ crcTail (fit 124 (safetyImage s)) ++ le 4 s.nv.logSeq ++ le 1 sess ++ le 1 crash ++ zeros 2))) ∧
    (∀ (h : Hdr) (f n : Nat), served s h 0x090A →
       exec (.readChangeLog h f n) s = .next (answeredCmd s h 0x090A stOk (le 1 ((s.nv.log.filter fun e => decide (f ≤ e.seq)).take (min n 7)).length ++ zeros 3 ++ ((s.nv.log.filter fun e => decide (f ≤ e.seq)).take (min n 7)).flatMap logBytes))) ∧
    (∀ (h : Hdr) (p : Proof) (n : Nat), served s h 0x090B → proofGood s h 0x090B (le 1 n ++ zeros 3) p = true →
       n = 0 ∨ inputAt s n = none ∨ (inputAt s n).any (·.crash) = false →
       exec (.crashRelease h n p) s = .next (reply (useProof (dequeue s h 0x090B) h p) h 0x090B 0x85 [])) ∧
    (∀ (h : Hdr) (p : Proof) (n : Nat) (i : SInput), served s h 0x090B → proofGood s h 0x090B (le 1 n ++ zeros 3) p = true → 1 ≤ n →
       inputAt s n = some i → i.crash = true → inOperate s i = false ∨ s.now < i.operateAt + secT →
       exec (.crashRelease h n p) s = .next (reply (useProof (dequeue s h 0x090B) h p) h 0x090B 0x86 [])) ∧
    (∀ (h : Hdr) (p : Proof) (n : Nat) (i : SInput), served s h 0x090B → proofGood s h 0x090B (le 1 n ++ zeros 3) p = true → 1 ≤ n →
       inputAt s n = some i → i.crash = true → inOperate s i = true → i.operateAt + secT ≤ s.now →
       exec (.crashRelease h n p) s = .next (reply (updInput (useProof (dequeue s h 0x090B) h p) n fun i => { i with crash := false }) h 0x090B stOk []))

/-- SAFETY_CHANNEL_CHANGE of inputs 1 to 4 acts where the channel's state differs and INFILT ms of samples agree: the pair is judged
(`channelSet`); of an enabled input the first change to safe raises SI_SAFE and a pair out of time is a discrepancy (`discrepancy`).
SI_DISCREPANCY acts where the second channel has not changed by tick DISC + 1. TEST_PULSE ends the overload of its feed and each enabled
input counts (`pulseStep`); TP_OVERLOAD makes every enabled input safe and raises its fault. HVIL_SLOT counts with the loop enabled
(`hvilCounts`); a second unexpected current, a second low end and HVILMISS missed pulses raise HVIL_SHORT 1, HVIL_SHORT 0 and HVIL_OPEN
in this order; two clauses give the counts of a returned and of a missed pulse. SO_FEEDBACK_CHECK, 2 ms after the switching and outside a
test, notes the level (`setFb`), raises SO_STUCK_OFF of a closed output that reads low and SO_STUCK_ON of an open one that reads high
(`stuckOff`, `stuckOn`), and ends a clear that waited (`finishClear`). OFF_PULSE_TEST begins at multiples of 500 ms, of output 2 250 ms
later; its end is judged after OPDUR, and a return only after 200 µs more. SAFETY_CLOCK_CHECK beyond 5 % disables the drivers and raises
SAFETY_CLOCK. GRACE_EXPIRED ends the period and raises it only while the cause holds. Otherwise nothing changes. The operand that tells
the samples is the input filter's (log entry 152). Rests on R365, R368, R370 to R373, R377, R378, R380 to R383. -/
def Obligations.SafetyStage : Prop :=
  ∀ (s : State),
    (∀ (n k m : Nat) (b : Bool) (i j : SInput) (r : SInput × Bool), inputAt s n = some i → 1 ≤ n → n ≤ 4 →
       (if k = 0 then i.chA else i.chB) ≠ b → filterSamples s n ≤ m → r = channelSet s.now (inDisc s n) k b i →
       (j = { r.1 with bothSafe := r.1.bothSafe || (r.1.latched && !r.1.chA && !r.1.chB), operateAt := if inOperate s r.1 && !inOperate s i then s.now else r.1.operateAt }) →
       inFunc s n = 0 → exec (.safetyChannelChange n k ⟨b, m⟩) s = .next (updInput s n fun _ => { j with firstCh := none })) ∧
    (∀ (n k m : Nat) (b : Bool) (i j : SInput) (r : SInput × Bool) (u v : State), inputAt s n = some i → 1 ≤ n → n ≤ 4 →
       (if k = 0 then i.chA else i.chB) ≠ b → filterSamples s n ≤ m → r = channelSet s.now (inDisc s n) k b i →
       (j = { r.1 with bothSafe := r.1.bothSafe || (r.1.latched && !r.1.chA && !r.1.chB), operateAt := if inOperate s r.1 && !inOperate s i then s.now else r.1.operateAt }) →
       inFunc s n ≠ 0 → (u = updInput s n fun _ => { j with crash := j.crash || (inOperate s i && !b && inFunc s n == 3) }) →
       (v = if inOperate s i && !b then raise u 0 7 0x70 (256 * n + inFunc s n) else u) →
       exec (.safetyChannelChange n k ⟨b, m⟩) s = .next (if r.2 then discrepancy v n (if j.firstCh == some k then 1 - k else k) else v)) ∧
    (∀ (n m : Nat) (i : SInput), inputAt s n = some i → 1 ≤ n → n ≤ 4 → inFunc s n = 1 → 4 * cfg8 s 15 ≤ m → i.chA = true →
       i.chB = true → i.latched = false → i.firstCh = none → s.stage.overA = false → s.stage.overB = false →
       exec (.safetyChannelChange n 0 ⟨false, m⟩) s = .next (raise (updInput s n fun _ => { i with chA := false, firstCh := some 0, firstAt := s.now }) 0 7 0x70 (256 * n + 1))) ∧
    (∀ (n k m : Nat) (b : Bool) (i : SInput), inputAt s n = some i → 1 ≤ n → n ≤ 4 →
       (if k = 0 then i.chA else i.chB) = b ∨ m < filterSamples s n → exec (.safetyChannelChange n k ⟨b, m⟩) s = .next (s)) ∧
    (∀ (n k m : Nat) (b : Bool), n = 0 ∨ 4 < n ∨ inputAt s n = none → exec (.safetyChannelChange n k ⟨b, m⟩) s = .next (s)) ∧
    (∀ (n k : Nat) (i : SInput), inputAt s n = some i → 1 ≤ n → n ≤ 4 → i.firstCh = some k →
       i.firstAt / msT + inDisc s n + 1 ≤ s.now / msT → exec (.siDiscrepancy n) s = .next (discrepancy s n (1 - k))) ∧
    (∀ (n : Nat), 1 ≤ n → n ≤ 4 →
       (((inputAt s n).any fun i => i.firstCh.isSome && decide (i.firstAt / msT + inDisc s n + 1 ≤ s.now / msT)) = false) →
       exec (.siDiscrepancy n) s = .next (s)) ∧
    (∀ (a b : List Bool),
       exec (.testPulse 0 a b) s = .next ([1, 2, 3, 4].foldl (pulseStep 0 a b) { s with stage := { s.stage with overA := false } })) ∧
    (∀ (a b : List Bool),
       exec (.testPulse 1 a b) s = .next ([1, 2, 3, 4].foldl (pulseStep 1 a b) { s with stage := { s.stage with overB := false } })) ∧
    (∀ (n : Nat),
       exec (.tpOverload n) s = .next (let u := { s with stage := { s.stage with overA := s.stage.overA || decide (n = 0), overB := s.stage.overB || decide (n ≠ 0), inputs := s.stage.inputs.zipIdx.map fun p => { p.1 with crash := p.1.crash || inFunc s (p.2 + 1) == 3 } } }; raise (openOutputs u (((inputOpens s 1 ||| inputOpens s 2) ||| inputOpens s 3) ||| inputOpens s 4)) 0 7 0x73 (if n = 0 then 0 else 1))) ∧
    (∀ (a b : Nat) (l : Bool), hvilEn s = false → exec (.hvilSlot a b l) s = .next (s)) ∧
    (∀ (a b : Nat) (l : Bool) (c : Stage), hvilEn s = true → c = hvilCounts s a b l → c.hvilHigh = 2 →
       exec (.hvilSlot a b l) s = .next (raise { s with stage := { c with hvil := 4 } } 0 7 0x75 1)) ∧
    (∀ (a b : Nat) (l : Bool) (c : Stage), hvilEn s = true → c = hvilCounts s a b l → c.hvilHigh ≠ 2 → c.hvilLow = 2 →
       exec (.hvilSlot a b l) s = .next (raise { s with stage := { c with hvil := 3 } } 0 7 0x75 0)) ∧
    (∀ (a b : Nat) (l : Bool) (c : Stage), hvilEn s = true → c = hvilCounts s a b l → c.hvilHigh ≠ 2 → c.hvilLow ≠ 2 →
       c.hvilMiss = cfg8 s 17 → exec (.hvilSlot a b l) s = .next (raise { s with stage := { c with hvil := 2 } } 0 7 0x74 0)) ∧
    (∀ (a b : Nat) (l : Bool) (c : Stage), hvilEn s = true → c = hvilCounts s a b l → c.hvilHigh ≠ 2 → c.hvilLow ≠ 2 →
       c.hvilMiss ≠ cfg8 s 17 →
       exec (.hvilSlot a b l) s = .next ({ s with stage := { c with hvil := if c.hvilGood = 16 then 1 else max 1 c.hvil } })) ∧
    (∀ (a b : Nat), hvilEn s = true → cfg8 s 18 ≤ 2 * a → 2 * b < cfg8 s 18 → emptySlot s = false → 2 ≤ cfg8 s 17 →
       s.stage.hvilGood < 15 →
       exec (.hvilSlot a b false) s = .next ({ s with stage := { s.stage with hvilMiss := 0, hvilHigh := 0, hvilLow := 0, hvilGood := s.stage.hvilGood + 1, hvil := max 1 s.stage.hvil } })) ∧
    (∀ (a b : Nat), hvilEn s = true → 2 * a < cfg8 s 18 → 2 * b < cfg8 s 18 → emptySlot s = false → s.stage.hvilMiss + 1 = cfg8 s 17 →
       exec (.hvilSlot a b false) s = .next (raise { s with stage := { s.stage with hvilMiss := s.stage.hvilMiss + 1, hvilHigh := 0, hvilLow := 0, hvilGood := 0, hvil := 2 } } 0 7 0x74 0)) ∧
    (s.stage.so1 = true → s.stage.test1 = none → s.stage.at1 + 2 * msT ≤ s.now →
       exec (.soFeedbackCheck 1 false) s = .next (finishClear (stuckOff (setFb s 1 false) 1))) ∧
    (s.stage.so1 = true → s.stage.test1 = none → s.stage.at1 + 2 * msT ≤ s.now →
       exec (.soFeedbackCheck 1 true) s = .next (finishClear (setFb s 1 true))) ∧
    (s.stage.so1 = false → s.stage.test1 = none → s.stage.at1 + 2 * msT ≤ s.now →
       exec (.soFeedbackCheck 1 true) s = .next (finishClear (stuckOn (setFb s 1 true) 1))) ∧
    (s.stage.so1 = false → s.stage.test1 = none → s.stage.at1 + 2 * msT ≤ s.now →
       exec (.soFeedbackCheck 1 false) s = .next (finishClear (setFb s 1 false))) ∧
    (s.stage.so2 = true → s.stage.test2 = none → s.stage.at2 + 2 * msT ≤ s.now →
       exec (.soFeedbackCheck 2 false) s = .next (finishClear (stuckOff (setFb s 2 false) 2))) ∧
    (s.stage.so2 = true → s.stage.test2 = none → s.stage.at2 + 2 * msT ≤ s.now →
       exec (.soFeedbackCheck 2 true) s = .next (finishClear (setFb s 2 true))) ∧
    (s.stage.so2 = false → s.stage.test2 = none → s.stage.at2 + 2 * msT ≤ s.now →
       exec (.soFeedbackCheck 2 true) s = .next (finishClear (stuckOn (setFb s 2 true) 2))) ∧
    (s.stage.so2 = false → s.stage.test2 = none → s.stage.at2 + 2 * msT ≤ s.now →
       exec (.soFeedbackCheck 2 false) s = .next (finishClear (setFb s 2 false))) ∧
    (∀ (b : Bool), s.stage.test1 ≠ none ∨ s.now < s.stage.at1 + 2 * msT → exec (.soFeedbackCheck 1 b) s = .next (s)) ∧
    (∀ (b : Bool), s.stage.test2 ≠ none ∨ s.now < s.stage.at2 + 2 * msT → exec (.soFeedbackCheck 2 b) s = .next (s)) ∧
    (s.stage.so1 = true → s.packTime % (500 * msT) = 0 →
       exec (.offPulseTest 1) s = .next ({ s with stage := { s.stage with test1 := some s.now } })) ∧
    (s.stage.so2 = true → s.packTime % (500 * msT) = 250 * msT →
       exec (.offPulseTest 2) s = .next ({ s with stage := { s.stage with test2 := some s.now } })) ∧
    (s.stage.so1 = false ∨ s.packTime % (500 * msT) ≠ 0 → exec (.offPulseTest 1) s = .next (s)) ∧
    (s.stage.so2 = false ∨ s.packTime % (500 * msT) ≠ 250 * msT → exec (.offPulseTest 2) s = .next (s)) ∧
    (∀ (k : Tick) (l g : Bool), s.stage.test1 = some k → k + cfg8 s 14 * 10 * usT + (if l && !g then 200 * usT else 0) ≤ s.now →
       exec (.offPulseTestEnd 1 l g) s = .next (let u := setFb (endTest s 1) 1 g; if l = false then stuckOn u 1 else if g = false then stuckOff u 1 else u)) ∧
    (∀ (k : Tick) (l g : Bool), s.stage.test2 = some k → k + cfg8 s 14 * 10 * usT + (if l && !g then 200 * usT else 0) ≤ s.now →
       exec (.offPulseTestEnd 2 l g) s = .next (let u := setFb (endTest s 2) 2 g; if l = false then stuckOn u 2 else if g = false then stuckOff u 2 else u)) ∧
    (∀ (l g : Bool),
       ((s.stage.test1.any fun k => decide (k + cfg8 s 14 * 10 * usT + (if l && !g then 200 * usT else 0) ≤ s.now)) = false) →
       exec (.offPulseTestEnd 1 l g) s = .next (s)) ∧
    (∀ (l g : Bool),
       ((s.stage.test2.any fun k => decide (k + cfg8 s 14 * 10 * usT + (if l && !g then 200 * usT else 0) ≤ s.now)) = false) →
       exec (.offPulseTestEnd 2 l g) s = .next (s)) ∧
    (∀ (e : Int), -50 ≤ e → e ≤ 50 → exec (.safetyClockCheck e) s = .next ({ s with stage := { s.stage with driversOff := false } })) ∧
    (∀ (e : Int), 50 < e ∨ e < -50 →
       exec (.safetyClockCheck e) s = .next (raise (openOutputs { s with stage := { s.stage with driversOff := true } } 3) 0 7 0x7C (leVal (leInt 2 e)))) ∧
    (∀ (k x : Nat) (b : Bool) (g : Grace),
       ((s.stage.graces.find? fun g => g.die == k && g.cell == x && g.under == b && g.running && decide (g.endAt ≤ s.now)) = some g) →
       compHolds s k x b = true →
       exec (.graceExpired k x b) s = .next (raise { s with stage := { s.stage with graces := upd s.stage.graces (fun y => y == g) fun y => { y with running := false } } } 0 7 0x78 (partCell s k x + if b then 0x8000 else 0))) ∧
    (∀ (k x : Nat) (b : Bool) (g : Grace),
       ((s.stage.graces.find? fun g => g.die == k && g.cell == x && g.under == b && g.running && decide (g.endAt ≤ s.now)) = some g) →
       compHolds s k x b = false →
       exec (.graceExpired k x b) s = .next ({ s with stage := { s.stage with graces := upd s.stage.graces (fun y => y == g) fun y => { y with running := false } } })) ∧
    (∀ (k x : Nat) (b : Bool),
       ((s.stage.graces.find? fun g => g.die == k && g.cell == x && g.under == b && g.running && decide (g.endAt ≤ s.now)) = none) →
       exec (.graceExpired k x b) s = .next (s))

/-- FAULT_READ answers up to seven records from its index, or NO_RECORD beyond them. FAULT_CLEAR answers RESOURCE_BUSY while another
runs, NO_RECORD for a source without an open record, FRAME_INVALID where a named record of class SAFE or FATAL comes without a proof or a
lower one with one, AUTH_FAILED for a proof not accepted, and else begins (`beginClear`); a record without causes closes at once.
GET_FAULT_STATUS, GET_REACTION, WD_STATUS, GET_CHECKPOINTS and GET_EVIDENCE answer their fields, GET_EVIDENCE of none NO_RECORD.
SET_REACTION refuses what R406 fixes (`reactionFixed`), else sets and stores the table. FAULT_FORCE and INJECT_CHECK answer
REJECTED_STATE outside their states; FAULT_FORCE answers NOT_FITTED for an absent die and FORCE_REFUSED for a kind the source does not
raise, else sets the force bit, records the message and, unless suppressed, acts for the block (`ownAction`); INJECT_CHECK arms the
checker. WD_CONFIG answers WD_LOCKED for ARM 0 while armed, else stores period and seed; ARM 1 arms (`wdArm`). FAULT_DECIDE answers
NO_RECORD, then NOT_HOST_ASSISTED for a record that waits for no decision, else decides it (`decideRec`). Session commands without an
accepted proof answer AUTH_FAILED; the others are stated for an accepted one. But for this and the reply nothing changes. Choices of the
model: log entries 27, 96, 98; values outside a table FRAME_INVALID (59). Rests on R3, R388, R406, R408, R409, R413, R415 to R419, R427,
R433, R434 and R563. -/
def Obligations.FaultCommands : Prop :=
  ∀ (s : State),
    (∀ (h : Hdr) (w n f : Nat), served s h 0x0A01 → (heldRecs s w).length ≤ f →
       exec (.faultRead h w n f) s = .next (answeredCmd s h 0x0A01 0x80 [])) ∧
    (∀ (h : Hdr) (w n f : Nat), served s h 0x0A01 → f < (heldRecs s w).length →
       exec (.faultRead h w n f) s = .next (answeredCmd s h 0x0A01 stOk (le 1 (((heldRecs s w).drop f).take (min n 7)).length ++ zeros 3 ++ (((heldRecs s w).drop f).take (min n 7)).flatMap fun r => frecBytes r (r.open_ && recPersists (dequeue s h 0x0A01) r)))) ∧
    (∀ (h : Hdr) (x a : Nat) (p : Option Proof), served s h 0x0A02 → s.faults.clearing ≠ none →
       exec (.faultClear h x a p) s = .next (answeredCmd s h 0x0A02 stBusy [])) ∧
    (∀ (h : Hdr) (x : Nat) (p : Option Proof), served s h 0x0A02 → s.faults.clearing = none → openOf s x = none →
       exec (.faultClear h x 0 p) s = .next (answeredCmd s h 0x0A02 0x80 [])) ∧
    (∀ (h : Hdr) (x : Nat) (p : Option Proof) (r : FRec), served s h 0x0A02 → s.faults.clearing = none → openOf s x = some r →
       p.isSome ≠ decide (3 ≤ r.cls) → exec (.faultClear h x 0 p) s = .next (refuse (dequeue s h 0x0A02) h 0x0A02 stFrameInvalid)) ∧
    (∀ (h : Hdr) (x a : Nat), served s h 0x0A02 → s.faults.clearing = none → a ≠ 0 →
       exec (.faultClear h x a none) s = .next (beginClear (dequeue s h 0x0A02) h x a false)) ∧
    (∀ (h : Hdr) (x : Nat) (r : FRec), served s h 0x0A02 → s.faults.clearing = none → openOf s x = some r → r.cls < 3 →
       exec (.faultClear h x 0 none) s = .next (beginClear (dequeue s h 0x0A02) h x 0 false)) ∧
    (∀ (h : Hdr) (x : Nat) (r : FRec), served s h 0x0A02 → s.faults.clearing = none → s.faults.open_ = [r] → openOf s x = some r →
       r.cls < 3 → r.causes = [] → opOf s h = none →
       exec (.faultClear h x 0 none) s = .next (answeredCmd (closeRec s r) h 0x0A02 stOk (le 1 1 ++ le 1 0 ++ zeros 2))) ∧
    (∀ (h : Hdr) (x a : Nat) (p : Proof), served s h 0x0A02 → s.faults.clearing = none →
       a ≠ 0 ∨ (openOf s x).any (fun r => decide (3 ≤ r.cls)) = true → proofGood s h 0x0A02 (clearPre x a) p = false →
       exec (.faultClear h x a (some p)) s = .next (answeredCmd s h 0x0A02 stAuthFailed [])) ∧
    (∀ (h : Hdr) (p : Proof) (x a : Nat), served s h 0x0A02 → proofGood s h 0x0A02 (clearPre x a) p = true → s.faults.clearing = none →
       a ≠ 0 ∨ (openOf s x).any (fun r => decide (3 ≤ r.cls)) = true →
       exec (.faultClear h x a (some p)) s = .next (beginClear (useProof (dequeue s h 0x0A02) h p) h x a true)) ∧
    (∀ (h : Hdr), served s h 0x0A03 →
       exec (.getFaultStatus h) s = .next (answeredCmd s h 0x0A03 stOk (le 1 s.faults.open_.length ++ [0] ++ (List.range 5).flatMap (fun c => le 1 (s.faults.open_.filter fun r => r.cls == c).length) ++ le 1 (sat 8 s.faults.forces.length) ++ le 1 (b2n s.faults.hostMode) ++ zeros 3 ++ le 4 s.faults.nextId))) ∧
    (∀ (h : Hdr) (k n : Nat) (p : Proof), served s h 0x0A04 → 4 < n →
       exec (.setReaction h k n p) s = .next (refuse (dequeue s h 0x0A04) h 0x0A04 stFrameInvalid)) ∧
    (∀ (h : Hdr) (k n : Nat) (p : Proof), served s h 0x0A04 → n ≤ 4 → proofGood s h 0x0A04 (le 1 k ++ le 1 n ++ zeros 2) p = false →
       exec (.setReaction h k n p) s = .next (answeredCmd s h 0x0A04 stAuthFailed [])) ∧
    (∀ (h : Hdr) (p : Proof) (k n : Nat), served s h 0x0A04 → proofGood s h 0x0A04 (le 1 k ++ le 1 n ++ zeros 2) p = true → n ≤ 4 →
       reactionFixed k n = true →
       exec (.setReaction h k n p) s = .next (reply (useProof (dequeue s h 0x0A04) h p) h 0x0A04 0x81 [])) ∧
    (∀ (h : Hdr) (p : Proof) (k n : Nat), served s h 0x0A04 → proofGood s h 0x0A04 (le 1 k ++ le 1 n ++ zeros 2) p = true → n ≤ 4 →
       reactionFixed k n = false →
       exec (.setReaction h k n p) s = .next (reply (flashPush { (useProof (dequeue s h 0x0A04) h p) with faults := { s.faults with table := s.faults.table.set k n, tableGen := s.faults.tableGen + 1 } } (.reactionTable (s.faults.table.set k n) (s.faults.tableGen + 1))) h 0x0A04 stOk (le 4 (s.faults.tableGen + 1)))) ∧
    (∀ (h : Hdr) (f n : Nat), served s h 0x0A05 →
       exec (.getReaction h f n) s = .next (answeredCmd s h 0x0A05 stOk ((List.range (min n 128)).flatMap fun k => le 1 (classOf s (f + k))))) ∧
    (∀ (h : Hdr) (x k d m u : Nat) (p : Proof), served s h 0x0A06 → injectPermitted s = false →
       exec (.faultForce h x k d m u p) s = .next (answeredCmd s h 0x0A06 stRejected [])) ∧
    (∀ (h : Hdr) (x k d m u : Nat) (p : Proof), served s h 0x0A06 → injectPermitted s = true → s.fitted (x / 32) = false →
       exec (.faultForce h x k d m u p) s = .next (answeredCmd s h 0x0A06 stNotFitted [])) ∧
    (∀ (h : Hdr) (x k d m u : Nat) (p : Proof), served s h 0x0A06 → injectPermitted s = true → s.fitted (x / 32) = true →
       proofGood s h 0x0A06 (le 1 x ++ le 1 k ++ le 2 d ++ le 2 m ++ le 1 u ++ [0]) p = false →
       exec (.faultForce h x k d m u p) s = .next (answeredCmd s h 0x0A06 stAuthFailed [])) ∧
    (∀ (h : Hdr) (p : Proof) (x k d m u : Nat), served s h 0x0A06 →
       proofGood s h 0x0A06 (le 1 x ++ le 1 k ++ le 2 d ++ le 2 m ++ le 1 u ++ [0]) p = true → injectPermitted s = true →
       s.fitted (x / 32) = true → sourceRaises (x / 32) (x % 32) k = false →
       exec (.faultForce h x k d m u p) s = .next (reply (useProof (dequeue s h 0x0A06) h p) h 0x0A06 0x84 [])) ∧
    (∀ (h : Hdr) (p : Proof) (x k d m u : Nat), served s h 0x0A06 →
       proofGood s h 0x0A06 (le 1 x ++ le 1 k ++ le 2 d ++ le 2 m ++ le 1 u ++ [0]) p = true → injectPermitted s = true →
       s.fitted (x / 32) = true → sourceRaises (x / 32) (x % 32) k = true →
       exec (.faultForce h x k d m u p) s = .next (let u_ := (useProof (dequeue s h 0x0A06) h p); let v := settle (collect { u_ with faults := { u_.faults with forces := (s.faults.forces.filter fun f => f.1 != x) ++ [(x, s.now + m * msT)] } } (faultMsg (x / 32) (x % 32) k d) { forced := true, suppressed := u == 1, until_ := s.now + m * msT }); reply (if u = 1 then v else ownAction v (x / 32) k d) h 0x0A06 stOk (le 4 (((openOf v x).map (·.recid)).getD (v.faults.nextId - 1))))) ∧
    (∀ (h : Hdr) (x m n : Nat) (p : Proof), served s h 0x0A07 → injectPermitted s = false →
       exec (.injectCheck h x m n p) s = .next (answeredCmd s h 0x0A07 stRejected [])) ∧
    (∀ (h : Hdr) (x m n : Nat) (p : Proof), served s h 0x0A07 → injectPermitted s = true →
       proofGood s h 0x0A07 (le 1 x ++ le 1 m ++ le 1 n ++ [0]) p = false →
       exec (.injectCheck h x m n p) s = .next (answeredCmd s h 0x0A07 stAuthFailed [])) ∧
    (∀ (h : Hdr) (p : Proof) (x m n : Nat), served s h 0x0A07 → proofGood s h 0x0A07 (le 1 x ++ le 1 m ++ le 1 n ++ [0]) p = true →
       injectPermitted s = true →
       exec (.injectCheck h x m n p) s = .next (reply { (useProof (dequeue s h 0x0A07) h p) with faults := { s.faults with injects := (s.faults.injects.filter fun i => i.1 != x) ++ [(x, m, n)] } } h 0x0A07 stOk [])) ∧
    (∀ (h : Hdr) (p : Proof) (a n x : Nat), served s h 0x0A08 → proofGood s h 0x0A08 (le 1 a ++ [0] ++ le 2 n ++ le 4 x) p = false →
       exec (.wdConfig h a n x p) s = .next (answeredCmd s h 0x0A08 stAuthFailed [])) ∧
    (∀ (h : Hdr) (p : Proof) (n x : Nat), served s h 0x0A08 → proofGood s h 0x0A08 (le 1 0 ++ [0] ++ le 2 n ++ le 4 x) p = true →
       s.wd.armed = true → exec (.wdConfig h 0 n x p) s = .next (reply (useProof (dequeue s h 0x0A08) h p) h 0x0A08 0x83 [])) ∧
    (∀ (h : Hdr) (p : Proof) (n x : Nat), served s h 0x0A08 → proofGood s h 0x0A08 (le 1 0 ++ [0] ++ le 2 n ++ le 4 x) p = true →
       s.wd.armed = false →
       exec (.wdConfig h 0 n x p) s = .next (reply { (useProof (dequeue s h 0x0A08) h p) with wd := { s.wd with nextPeriod := n, nextSeed := x } } h 0x0A08 stOk (le 2 s.wd.seq.toNat ++ zeros 2))) ∧
    (∀ (h : Hdr) (p : Proof) (n x : Nat), served s h 0x0A08 → proofGood s h 0x0A08 (le 1 1 ++ [0] ++ le 2 n ++ le 4 x) p = true →
       exec (.wdConfig h 1 n x p) s = .next (let u := wdArm { (useProof (dequeue s h 0x0A08) h p) with wd := { s.wd with nextPeriod := n, nextSeed := x } }; reply u h 0x0A08 stOk (le 2 u.wd.seq.toNat ++ zeros 2))) ∧
    (∀ (h : Hdr) (p : Proof) (n x : Nat), served s h 0x0A08 → proofGood s h 0x0A08 (le 1 1 ++ [0] ++ le 2 n ++ le 4 x) p = true →
       s.wd.armed = false →
       exec (.wdConfig h 1 n x p) s = .next (reply (wdIssue { (useProof (dequeue s h 0x0A08) h p) with wd := { s.wd with armed := true, nextPeriod := n, nextSeed := x } }) h 0x0A08 stOk (le 2 (s.wd.seq + 1).toNat ++ zeros 2))) ∧
    (∀ (h : Hdr), served s h 0x0A09 →
       exec (.wdStatus h) s = .next (answeredCmd s h 0x0A09 stOk (le 1 (b2n s.wd.armed) ++ [0] ++ le 2 s.wd.seq.toNat ++ le 2 s.wd.nextPeriod ++ le 2 (if s.wd.armed then wdMs s (wdOpens s) else 0) ++ le 2 (if s.wd.armed then wdMs s (wdCloses s) else 0) ++ le 2 s.wd.good ++ le 8 s.wd.lastGood))) ∧
    (∀ (h : Hdr) (i : Nat) (e : Evidence), served s h 0x0A0A → s.aon.evidence[i]? = some e →
       exec (.getEvidence h i) s = .next (answeredCmd s h 0x0A0A stOk (evidenceBytes e))) ∧
    (∀ (h : Hdr) (i : Nat), served s h 0x0A0A → s.aon.evidence[i]? = none →
       exec (.getEvidence h i) s = .next (answeredCmd s h 0x0A0A 0x80 [])) ∧
    (∀ (h : Hdr) (x a : Nat), served s h 0x0A0B → a ≠ 1 → a ≠ 2 →
       exec (.faultDecide h x a) s = .next (refuse (dequeue s h 0x0A0B) h 0x0A0B stFrameInvalid)) ∧
    (∀ (h : Hdr) (x a : Nat), served s h 0x0A0B → a = 1 ∨ a = 2 → openOf s x = none →
       exec (.faultDecide h x a) s = .next (answeredCmd s h 0x0A0B 0x80 [])) ∧
    (∀ (h : Hdr) (x a : Nat) (r : FRec), served s h 0x0A0B → a = 1 ∨ a = 2 → openOf s x = some r →
       s.faults.hostMode = false ∨ r.decide_ = false → exec (.faultDecide h x a) s = .next (answeredCmd s h 0x0A0B 0x82 [])) ∧
    (∀ (h : Hdr) (x a : Nat) (r : FRec), served s h 0x0A0B → a = 1 ∨ a = 2 → openOf s x = some r → s.faults.hostMode = true →
       r.decide_ = true → exec (.faultDecide h x a) s = .next (reply (decideRec (dequeue s h 0x0A0B) r a) h 0x0A0B stOk [])) ∧
    (∀ (h : Hdr), served s h 0x0A0D →
       exec (.getCheckpoints h) s = .next (answeredCmd s h 0x0A0D stOk (le 2 s.sup.window ++ zeros 2 ++ (List.range 16).flatMap fun k => le 1 (nth s.sup.limits k (0, 0)).1 ++ le 1 (nth s.sup.limits k (0, 0)).2 ++ le 1 (nth s.sup.lastCounts k 0) ++ [0])))

/-- FAULT_MESSAGE gives the message to the collector (`collect`), and then the records that found no room in the stream window are told
(`settle`). A message of a source without an open record, with fewer than 64 open, opens one with the class that the table gives, REAL,
and the next RECID; one of a source that has a record merges into it (`mergeRec`) and takes no RECID; with 64 open, and none of its
source, its reaction runs and it merges into the overflow record or opens it (`collectOverflow`). A message of class INFO that opens a
record changes nothing but the records. One of WARN or higher that opens a record sets IRQSTAT.FAULT; one of FATAL leaves both outputs
open, the Studio not ready and fatal, and no sweep running. No message changes the closed records, the power and safety state, the Slates
or M. INFO_RECORD_CLOSE closes an INFO record 1 s after its latest message and changes nothing before; FORCE_HOLD_END takes the force
bits of a source whose hold has ended. Choices of the model: a record about a dropped record (log entry 13), message and reaction in one
step (14). Rests on R78, R79, R89, R405, R409 to R411, R414 and R415. -/
def Obligations.FaultRecords : Prop :=
  ∀ (s : State),
    (∀ (m : BitVec 32), openOf s (msgSource m) = none → s.faults.open_.length < 64 → ∃ t, exec (.faultMessage m) s = .next t ∧
       t = settle (collect s m realMsg) ∧
       (collect s m realMsg).faults.open_ = s.faults.open_ ++ [newRec s m (classOf s (msgKind m)) realMsg] ∧
       (collect s m realMsg).faults.nextId = s.faults.nextId + 1 ∧ t.faults.closed = s.faults.closed ∧ t.power = s.power ∧
       t.safety = s.safety ∧ t.slates = s.slates ∧ t.metro = s.metro) ∧
    (∀ (m : BitVec 32) (r : FRec), openOf s (msgSource m) = some r → ∃ t, exec (.faultMessage m) s = .next t ∧
       t = settle (collect s m realMsg) ∧
       (collect s m realMsg).faults.open_ = upd s.faults.open_ (fun x => x.recid == r.recid) (fun _ => mergeRec s r m (classOf s (msgKind m)) realMsg) ∧
       (collect s m realMsg).faults.nextId = s.faults.nextId ∧ t.faults.closed = s.faults.closed ∧ t.power = s.power ∧
       t.safety = s.safety ∧ t.slates = s.slates ∧ t.metro = s.metro) ∧
    (∀ (m : BitVec 32), openOf s (msgSource m) = none → 64 ≤ s.faults.open_.length → ∃ t, exec (.faultMessage m) s = .next t ∧
       t = settle (collectOverflow s m realMsg) ∧ t.faults.closed = s.faults.closed ∧ t.power = s.power ∧ t.safety = s.safety ∧
       t.slates = s.slates ∧ t.metro = s.metro) ∧
    (∀ (m : BitVec 32), openOf s (msgSource m) = none → s.faults.open_.length < 64 → classOf s (msgKind m) = 0 →
       exec (.faultMessage m) s = .next (settle { s with faults := { s.faults with open_ := s.faults.open_ ++ [newRec s m 0 realMsg], nextId := s.faults.nextId + 1 } })) ∧
    (∀ (m : BitVec 32), openOf s (msgSource m) = none → s.faults.open_.length < 64 → 1 ≤ classOf s (msgKind m) → ∃ t,
       exec (.faultMessage m) s = .next t ∧ t.port.irq &&& irqFault = irqFault) ∧
    (∀ (m : BitVec 32), openOf s (msgSource m) = none → s.faults.open_.length < 64 → classOf s (msgKind m) = 4 → ∃ t,
       exec (.faultMessage m) s = .next t ∧ t.stage.so1 = false ∧ t.stage.so2 = false ∧ t.sup.ready = false ∧ t.sup.fatal = true ∧
       t.sweep.running = false) ∧
    (∀ (x : Nat) (r : FRec), openOf s x = some r → r.cls = 0 → r.heard + secT ≤ s.now →
       exec (.infoRecordClose x) s = .next (closeRec s r)) ∧
    (∀ (x : Nat), (((openOf s x).any fun r => decide (r.cls = 0) && decide (r.heard + secT ≤ s.now)) = false) →
       exec (.infoRecordClose x) s = .next (s)) ∧
    (∀ (x : Nat),
       exec (.forceHoldEnd x) s = .next ({ s with faults := { s.faults with forces := s.faults.forces.filter fun f => !(f.1 == x && decide (f.2 ≤ s.now)) } }))

/-- CHECKPOINT_CHECK_IN counts for a task below 16 while the Studio runs. CHECKPOINT_WINDOW_END keeps the counts and begins them afresh;
each failure (`checkpointFailures`) leaves evidence and raises its fault, and any failure restarts the Studio once (`warmRestart`); a
stopped or sleeping Studio has no window. MPU_VIOLATION raises its fault with region and access and restarts the Studio. SRAM_ECC_ERROR
uses an armed injection and records a corrected error, an uncorrectable one of the Keeper's memory or one of the Studio's, and the last
restarts the Studio; under an injection the record is forced. KEEPER_WATCHDOG opens both outputs, keeps evidence (`capture`) and a
carried FATAL record, and resets the part (`partReset`), or defers that while a flash job runs. DAILIES_BUCKET_REFILL adds an entry every
4 s up to 512, and with 64 there and entries dropped writes their count and raises DAILIES_DROPPED. DAILIES_READ answers DAILIES_NONE
without entries in range, and otherwise opens its operation; DAILIES_RECORD_WRITE writes the next one where 664 bytes stay free beside
the reserve, passes over one no longer held, completes with the last, and else waits. DAILIES_STATUS answers its fields. DAILIES_MARK
answers DAILIES_RATE below 64 entries in the bucket, and otherwise writes a marker. Otherwise nothing changes.. Rests on R18, R168, R418,
R423 to R428, R430, R431, R435 to R437 and R495. -/
def Obligations.Supervision : Prop :=
  ∀ (s : State),
    (∀ (k : Nat), s.sup.stopped = false → k < 16 →
       exec (.checkpointCheckIn k) s = .next ({ s with sup := { s.sup with counts := updAt s.sup.counts k (· + 1), lastCheckin := s.sup.lastCheckin.set k (s.packTime % 2 ^ 32) } })) ∧
    (∀ (k : Nat), s.sup.stopped = true ∨ 16 ≤ k → exec (.checkpointCheckIn k) s = .next (s)) ∧
    (∀ (n : Nat), s.sup.stopped = false → studioAsleep s = false →
       exec (.checkpointWindowEnd n) s = .next (let u := (checkpointFailures s).foldl (fun v x => raise (capture v (16 + x.1) x.2.1 n) 0 (16 + x.1) x.2.1 (256 * x.1 + sat 8 x.2.2)) { s with sup := { s.sup with lastCounts := s.sup.counts.map (sat 8), counts := List.replicate 16 0 } }; if checkpointFailures s = [] then u else warmRestart u 0x83)) ∧
    (∀ (n : Nat), s.sup.stopped = true ∨ studioAsleep s = true → exec (.checkpointWindowEnd n) s = .next (s)) ∧
    (∀ (r a : Nat), exec (.mpuViolation r a) s = .next (warmRestart (raise s 0 15 0x85 (256 * r + a)) 0x85)) ∧
    (∀ (r a : Nat) (b : Bool),
       exec (.sramEccError r a false b) s = .next (settle (collect (useInject s (r % 2)) (faultMsg 0 (11 + r % 2) 0x89 (a / 16)) (if injected s (r % 2) then { forced := true, suppressed := false, until_ := s.now } else realMsg)))) ∧
    (∀ (r a : Nat),
       exec (.sramEccError r a true true) s = .next (settle (collect (useInject s (r % 2)) (faultMsg 0 (11 + r % 2) 0x8B (a / 16)) (if injected s (r % 2) then { forced := true, suppressed := false, until_ := s.now } else realMsg)))) ∧
    (∀ (r a : Nat),
       exec (.sramEccError r a true false) s = .next (warmRestart (settle (collect (useInject s (r % 2)) (faultMsg 0 (11 + r % 2) 0x8A (a / 16)) (if injected s (r % 2) then { forced := true, suppressed := false, until_ := s.now } else realMsg))) 0x8A)) ∧
    (∀ (n : Nat), s.flash.jobs = [] →
       exec (.keeperWatchdog n) s = .next (let u := keepDailies (capture (openOutputs s 3) 9 0x87 n) s.flash.jobs.length; let v := { u with aon := { u.aon with carried := u.aon.carried ++ [{ newRec u (faultMsg 0 9 0x87 0) 4 realMsg with carried := true }] } }; partReset v 1)) ∧
    (∀ (n : Nat), s.flash.jobs ≠ [] →
       exec (.keeperWatchdog n) s = .next (let u := keepDailies (capture (openOutputs s 3) 9 0x87 n) s.flash.jobs.length; let v := { u with aon := { u.aon with carried := u.aon.carried ++ [{ newRec u (faultMsg 0 9 0x87 0) 4 realMsg with carried := true }] } }; { v with flash := { v.flash with deferred := some s.now } })) ∧
    (∀ (n : Nat), s.flash.jobs ≠ [] → ∃ t, exec (.keeperWatchdog n) s = .next t ∧ t.stage.so1 = false ∧ t.stage.so2 = false ∧
       t.flash.deferred = some s.now ∧ t.aon.carried.length = s.aon.carried.length + 1 ∧ t.metro = s.metro ∧ t.sup = s.sup) ∧
    (s.dailies.refillAt + 4 * secT ≤ s.now → s.dailies.dropped = 0 ∨ min 512 (s.dailies.bucket + 1) < 64 →
       exec (.dailiesBucketRefill) s = .next ({ s with dailies := { s.dailies with bucket := min 512 (s.dailies.bucket + 1), refillAt := s.dailies.refillAt + 4 * secT } })) ∧
    (s.dailies.refillAt + 4 * secT ≤ s.now → s.dailies.dropped ≠ 0 → 64 ≤ min 512 (s.dailies.bucket + 1) →
       exec (.dailiesBucketRefill) s = .next (raise (dailiesPut { s with dailies := { s.dailies with bucket := min 512 (s.dailies.bucket + 1), refillAt := s.dailies.refillAt + 4 * secT, dropped := 0 } } { dseq := 0, at_ := s.packTime, source := 10, kind := 0x8D, dtype := 6, dflags := 8 * b2n (!s.chain.locked), data := fit 28 (le 4 s.dailies.dropped) } true) 0 10 0x8D (sat 16 s.dailies.dropped))) ∧
    (s.now < s.dailies.refillAt + 4 * secT → exec (.dailiesBucketRefill) s = .next (s)) ∧
    (∀ (h : Hdr) (a b k : Nat), served s h 0x0E01 → dailiesRange s a b k = [] →
       exec (.dailiesRead h a b k) s = .next (answeredCmd s h 0x0E01 0x80 [])) ∧
    (∀ (h : Hdr) (a b k d : Nat) (l : List Nat), served s h 0x0E01 → canOpen s h → dailiesRange s a b k = d :: l →
       exec (.dailiesRead h a b k) s = .next ({ (openedCmd s h 0x0E01) with dailies := { s.dailies with reads := s.dailies.reads ++ [(h, d :: l, 0, d)] } })) ∧
    (s.dailies.reads = [] → exec (.dailiesRecordWrite) s = .next (s)) ∧
    (∀ (h : Hdr) (d n f : Nat) (l : List Nat) (r : List (Hdr × List Nat × Nat × Nat)), s.dailies.reads = (h, d :: l, n, f) :: r →
       ((s.nv.dailies.find? fun x => x.dseq == d) = none) →
       exec (.dailiesRecordWrite) s = .next ({ s with dailies := { s.dailies with reads := (h, l, n, f) :: r } })) ∧
    (∀ (h : Hdr) (d n f : Nat) (l : List Nat) (r : List (Hdr × List Nat × Nat × Nat)) (e : DEntry),
       s.dailies.reads = (h, d :: l, n, f) :: r → ((s.nv.dailies.find? fun x => x.dseq == d) = some e) →
       streamRoom s 9 48 664 = false → exec (.dailiesRecordWrite) s = .next (s)) ∧
    (∀ (h : Hdr) (d n f : Nat) (l : List Nat) (r : List (Hdr × List Nat × Nat × Nat)) (e : DEntry),
       s.dailies.reads = (h, d :: l, n, f) :: r → ((s.nv.dailies.find? fun x => x.dseq == d) = some e) →
       streamRoom s 9 48 664 = true → l = [] →
       exec (.dailiesRecordWrite) s = .next (let u := sendRecord (streamWrite s 9 0 (dentryBytes e)) 9 (dentryBytes e); completeOp { u with dailies := { u.dailies with reads := r } } h stOk (le 4 (n + 1) ++ le 4 f))) ∧
    (∀ (h : Hdr) (d n f : Nat) (l : List Nat) (r : List (Hdr × List Nat × Nat × Nat)) (e : DEntry),
       s.dailies.reads = (h, d :: l, n, f) :: r → ((s.nv.dailies.find? fun x => x.dseq == d) = some e) →
       streamRoom s 9 48 664 = true → l ≠ [] →
       exec (.dailiesRecordWrite) s = .next (let u := sendRecord (streamWrite s 9 0 (dentryBytes e)) 9 (dentryBytes e); { u with dailies := { u.dailies with reads := (h, l, n + 1, f) :: r } })) ∧
    (∀ (h : Hdr) (n f : Nat) (r : List (Hdr × List Nat × Nat × Nat)), s.dailies.reads = (h, [], n, f) :: r →
       exec (.dailiesRecordWrite) s = .next (completeOp { s with dailies := { s.dailies with reads := r } } h stOk (le 4 n ++ le 4 f))) ∧
    (∀ (h : Hdr), served s h 0x0E02 →
       exec (.dailiesStatus h) s = .next (answeredCmd s h 0x0E02 stOk (le 4 (((s.nv.dailies.head?).map (·.dseq)).getD s.nv.dseq) ++ le 4 s.nv.dseq ++ le 2 s.dailies.bucket ++ zeros 2 ++ le 4 s.nv.dailiesDropped))) ∧
    (∀ (h : Hdr) (l : List Byte), served s h 0x0E03 → s.dailies.bucket < 64 →
       exec (.dailiesMark h l) s = .next (answeredCmd s h 0x0E03 0x81 [])) ∧
    (∀ (h : Hdr) (l : List Byte), served s h 0x0E03 → 64 ≤ s.dailies.bucket →
       exec (.dailiesMark h l) s = .next (answeredCmd (flashPush { s with dailies := { s.dailies with bucket := s.dailies.bucket - 1 }, nv := { s.nv with dseq := s.nv.dseq + 1 } } (.dailies { dseq := s.nv.dseq, at_ := s.packTime, source := 0, kind := 0, dtype := 5, dflags := 8 * b2n (!s.chain.locked), data := fit 28 (fit 16 l) })) h 0x0E03 stOk (le 4 s.nv.dseq)))

/-- UPDATE_BEGIN answers RESOURCE_BUSY while a transfer is open. Its first half is kept and answers OK. Its second half ends the header:
where `headerCheck` names a check of R485 that the 256 bytes fail, the answer is the status of that check (`checkStatus`) with its number
and IMAGE_REFUSED (0xB2) is raised with target and check; else the transfer opens (`openTransfer`) and the answer is OK. A second half
without a first one fails check 1. In Tadpole a header for another target than KEEPER and STUDIO answers REJECTED_STATE. UPDATE_DATA,
UPDATE_VERIFY and UPDATE_CANCEL answer NO_TRANSFER without a transfer. A chunk at the offset of the bytes received, within LENGTH, is
appended and answers the bytes received, the last one sets the COMPLETE bit; a repeat of the last chunk answers OK and writes nothing;
any other answers OUT_OF_ORDER. UPDATE_VERIFY before LENGTH bytes are in answers REJECTED_STATE, else it ends the transfer, marks the
image verified or invalidates its place (`verifyEnd`), and completes as `verifyImage` says. UPDATE_CANCEL ends the transfer and
invalidates the place. GET_UPDATE_STATUS answers its 72 bytes (`updateStatus`). SET_ACTIVATION_MODE answers ACTIVATION_PENDING with an
activation, else sets the mode. SET_CUSTOMER_KEY answers AUTH_FAILED without an accepted proof, NO_CUSTOMER_KEY with a key stored,
REJECTED_STATE outside CONFIGURED and FIELD, else stores the key. Choices of the model: log entries 39 (second half alone), 40 (early
verification). Rests on R482 to R487, R493, R501, R503 to R505. -/
def Obligations.UpdateTransfers : Prop :=
  ∀ (s : State),
    (∀ (h : Hdr) (n : Nat) (l : List Byte), served s h 0x0C01 → s.fw.transfer ≠ none → n ≤ 1 →
       exec (.updateBegin h n l) s = .next (answeredCmd s h 0x0C01 stBusy [])) ∧
    (∀ (h : Hdr) (l : List Byte), served s h 0x0C01 → s.fw.transfer = none →
       exec (.updateBegin h 0 l) s = .next (answeredCmd { s with fw := { s.fw with head := some l } } h 0x0C01 stOk (le 1 0 ++ zeros 3))) ∧
    (∀ (h : Hdr) (l l0 : List Byte), served s h 0x0C01 → s.fw.transfer = none → s.fw.head = some l0 →
       s.sup.recovery = false ∨ hdrVal (l0 ++ l) 8 1 ≤ 1 →
       exec (.updateBegin h 1 l) s = .next (let k := headerCheck s (l0 ++ l); if k = 0 then reply (openTransfer (dequeue s h 0x0C01) (l0 ++ l)) h 0x0C01 stOk (le 1 0 ++ zeros 3) else raise (reply { (dequeue s h 0x0C01) with fw := { s.fw with head := none } } h 0x0C01 (checkStatus k) (le 1 k ++ zeros 3)) 0 9 0xB2 (256 * hdrVal (l0 ++ l) 8 1 + k))) ∧
    (∀ (h : Hdr) (l : List Byte), served s h 0x0C01 → s.fw.transfer = none → s.fw.head = none →
       exec (.updateBegin h 1 l) s = .next (raise (reply (dequeue s h 0x0C01) h 0x0C01 0x80 (le 1 1 ++ zeros 3)) 0 9 0xB2 (256 * hdrVal l 8 1 + 1))) ∧
    (∀ (h : Hdr) (l l0 : List Byte), served s h 0x0C01 → s.fw.transfer = none → s.fw.head = some l0 → s.sup.recovery = true →
       1 < hdrVal (l0 ++ l) 8 1 →
       exec (.updateBegin h 1 l) s = .next (reply { (dequeue s h 0x0C01) with fw := { s.fw with head := none } } h 0x0C01 stRejected [])) ∧
    (∀ (h : Hdr) (n : Nat) (l : List Byte), served s h 0x0C02 → s.fw.transfer = none →
       exec (.updateData h n l) s = .next (answeredCmd s h 0x0C02 0x87 [])) ∧
    (∀ (h : Hdr) (n : Nat) (l : List Byte) (q : Transfer), served s h 0x0C02 → s.fw.transfer = some q → n = q.received →
       q.received + l.length < q.length →
       exec (.updateData h n l) s = .next (reply { (dequeue s h 0x0C02) with nv := { s.nv with images := updAt s.nv.images (placeIdx q.target (q.place == 1)) (fun i => i.map fun i => { i with payload := i.payload ++ l }) }, fw := { s.fw with transfer := some { q with received := n + l.length, lastOffset := n, lastData := l } } } h 0x0C02 stOk (le 4 (n + l.length)))) ∧
    (∀ (h : Hdr) (n : Nat) (l : List Byte) (q : Transfer), served s h 0x0C02 → s.fw.transfer = some q → n = q.received →
       q.received + l.length = q.length →
       exec (.updateData h n l) s = .next (reply { (dequeue s h 0x0C02) with nv := { s.nv with images := updAt s.nv.images (placeIdx q.target (q.place == 1)) (fun i => i.map fun i => { i with payload := i.payload ++ l }), boot := { s.nv.boot with complete := setBit s.nv.boot.complete q.target true, brgen := (s.nv.boot.brgen + 1) % 2 ^ 32 } }, fw := { s.fw with transfer := some { q with received := q.length, lastOffset := n, lastData := l } } } h 0x0C02 stOk (le 4 q.length))) ∧
    (∀ (h : Hdr) (n : Nat) (l : List Byte) (q : Transfer), served s h 0x0C02 → s.fw.transfer = some q →
       n ≠ q.received ∨ q.length < q.received + l.length → n = q.lastOffset → l = q.lastData → 0 < q.received →
       exec (.updateData h n l) s = .next (answeredCmd s h 0x0C02 stOk (le 4 q.received))) ∧
    (∀ (h : Hdr) (n : Nat) (l : List Byte) (q : Transfer), served s h 0x0C02 → s.fw.transfer = some q →
       n ≠ q.received ∨ q.length < q.received + l.length → n ≠ q.lastOffset ∨ l ≠ q.lastData ∨ q.received = 0 →
       exec (.updateData h n l) s = .next (answeredCmd s h 0x0C02 0x86 [])) ∧
    (∀ (h : Hdr), served s h 0x0C03 → s.fw.transfer = none → exec (.updateVerify h) s = .next (answeredCmd s h 0x0C03 0x87 [])) ∧
    (∀ (h : Hdr) (q : Transfer), served s h 0x0C03 → s.fw.transfer = some q → q.received < q.length →
       exec (.updateVerify h) s = .next (answeredCmd s h 0x0C03 stRejected [])) ∧
    (∀ (h : Hdr) (q : Transfer), served s h 0x0C03 → canOpen s h → s.fw.transfer = some q → q.length ≤ q.received →
       exec (.updateVerify h) s = .next (let v := verifyImage (openedCmd s h 0x0C03) q.target; completeOp (verifyEnd { (openedCmd s h 0x0C03) with fw := { s.fw with transfer := none } } q.target v.1) h v.1 v.2)) ∧
    (∀ (h : Hdr), served s h 0x0C04 → s.fw.transfer = none → exec (.updateCancel h) s = .next (answeredCmd s h 0x0C04 0x87 [])) ∧
    (∀ (h : Hdr) (q : Transfer), served s h 0x0C04 → s.fw.transfer = some q →
       exec (.updateCancel h) s = .next (reply (invalidate { (dequeue s h 0x0C04) with fw := { s.fw with transfer := none } } q.target) h 0x0C04 stOk [])) ∧
    (∀ (h : Hdr), served s h 0x0C06 → exec (.getUpdateStatus h) s = .next (answeredCmd s h 0x0C06 stOk (updateStatus s))) ∧
    (∀ (h : Hdr) (m : Nat), served s h 0x0C07 → m ≤ 1 → s.nv.boot.pending ≠ 0 ∨ s.fw.activation ≠ none →
       exec (.setActivationMode h m) s = .next (answeredCmd s h 0x0C07 0x8C [])) ∧
    (∀ (h : Hdr) (m : Nat), served s h 0x0C07 → m ≤ 1 → s.nv.boot.pending = 0 → s.fw.activation = none →
       exec (.setActivationMode h m) s = .next (answeredCmd { s with fw := { s.fw with hostMode := m == 1 } } h 0x0C07 stOk [])) ∧
    (∀ (h : Hdr) (p : Proof) (l : List Byte), served s h 0x0C09 → proofGood s h 0x0C09 (zeros 4 ++ l) p = false →
       exec (.setCustomerKey h l p) s = .next (answeredCmd s h 0x0C09 stAuthFailed [])) ∧
    (∀ (h : Hdr) (p : Proof) (l : List Byte), served s h 0x0C09 → proofGood s h 0x0C09 (zeros 4 ++ l) p = true →
       s.nv.customerKey ≠ [] → exec (.setCustomerKey h l p) s = .next (reply (useProof (dequeue s h 0x0C09) h p) h 0x0C09 0x8B [])) ∧
    (∀ (h : Hdr) (p : Proof) (l : List Byte), served s h 0x0C09 → proofGood s h 0x0C09 (zeros 4 ++ l) p = true →
       s.nv.customerKey = [] → lifeInUse s = false →
       exec (.setCustomerKey h l p) s = .next (reply (useProof (dequeue s h 0x0C09) h p) h 0x0C09 stRejected [])) ∧
    (∀ (h : Hdr) (p : Proof) (l : List Byte), served s h 0x0C09 → proofGood s h 0x0C09 (zeros 4 ++ l) p = true →
       s.nv.customerKey = [] → lifeInUse s = true →
       exec (.setCustomerKey h l p) s = .next (reply { (useProof (dequeue s h 0x0C09) h p) with nv := { s.nv with customerKey := l } } h 0x0C09 stOk []))

/-- Outside Tadpole ACTIVATE answers in this order: ACTIVATION_PENDING with an activation pending; in host-assisted mode ACTIVATION_TIME
for AT not 0 and REJECTED_STATE for SCOPE not 0, in hardware mode ACTIVATION_TIME for AT outside 500 ms to 86400 s from now and
REJECTED_STATE for SCOPE 1 off the primary head; NOT_VERIFIED for a mask with no target or a target without a verified image;
ROLLBACK_REFUSED for an image whose rollback index is too low (`rolledBack`); ACTIVATION_CONDITIONS where R489 does not hold
(`conditionsHold`). Else it opens its operation: in hardware mode the activation is held for AT, with SCOPE 1 the arming frame goes out
(`armFrame`); in host-assisted mode it is committed for 100 ms from now. ACTIVATION_COMMIT_POINT, from 100 ms before AT of an activation
not committed: with no package failed, this one included, the boot record takes PENDING and ACTAT; else, with SCOPE 1 after the
cancelling frame, the ACTIVATE ends with ACTIVATION_CONDITIONS and the first package that failed, this one first; before that time and
once committed nothing changes. ACTIVATION, at or after ACTAT of a pending set that does not run yet: a part-level set resets the part;
otherwise the places switch (`switchPlaces`), a RADIO in the set puts class B on DeariLink, a STUDIO or CONFIG restarts the Studio; with
STUDIO alone the STUDIO place changes, BOOTCOUNT is 1, ROLLIDX and M stay, the 60 s timer starts and the Studio is not ready. Else
nothing changes. Choices of the model: an empty mask (log entry 41), SCOPE above 1 (59). Rests on R488 to R490, R493, R495, R498, R504
and R505. -/
def Obligations.Activations : Prop :=
  ∀ (s : State),
    (∀ (h : Hdr) (m k n : Nat), served s h 0x0C05 → s.sup.recovery = false → s.nv.boot.pending ≠ 0 ∨ s.fw.activation ≠ none →
       exec (.activate h m k n) s = .next (answeredCmd s h 0x0C05 0x8C [])) ∧
    (∀ (h : Hdr) (m k n : Nat), served s h 0x0C05 → s.sup.recovery = false → s.nv.boot.pending = 0 → s.fw.activation = none →
       s.fw.hostMode = true → n ≠ 0 → exec (.activate h m k n) s = .next (answeredCmd s h 0x0C05 0x89 [])) ∧
    (∀ (h : Hdr) (m k : Nat), served s h 0x0C05 → s.sup.recovery = false → s.nv.boot.pending = 0 → s.fw.activation = none →
       s.fw.hostMode = true → k ≠ 0 → exec (.activate h m k 0) s = .next (answeredCmd s h 0x0C05 stRejected [])) ∧
    (∀ (h : Hdr) (m k n : Nat), served s h 0x0C05 → s.sup.recovery = false → s.nv.boot.pending = 0 → s.fw.activation = none →
       s.fw.hostMode = false → n < s.packTime + 500 * msT ∨ s.packTime + 86400 * secT < n →
       exec (.activate h m k n) s = .next (answeredCmd s h 0x0C05 0x89 [])) ∧
    (∀ (h : Hdr) (m n : Nat), served s h 0x0C05 → s.sup.recovery = false → s.nv.boot.pending = 0 → s.fw.activation = none →
       s.fw.hostMode = false → s.packTime + 500 * msT ≤ n → n ≤ s.packTime + 86400 * secT → primaryHead s = false →
       exec (.activate h m 1 n) s = .next (answeredCmd s h 0x0C05 stRejected [])) ∧
    (∀ (h : Hdr) (m k n : Nat), served s h 0x0C05 → s.sup.recovery = false → s.nv.boot.pending = 0 → s.fw.activation = none →
       s.fw.hostMode = false → s.packTime + 500 * msT ≤ n → n ≤ s.packTime + 86400 * secT →
       (k = 0 ∨ k = 1 ∧ primaryHead s = true) → m % 32 = 0 ∨ allVerified s m = false →
       exec (.activate h m k n) s = .next (answeredCmd s h 0x0C05 0x88 [])) ∧
    (∀ (h : Hdr) (m : Nat), served s h 0x0C05 → s.sup.recovery = false → s.nv.boot.pending = 0 → s.fw.activation = none →
       s.fw.hostMode = true → m % 32 = 0 ∨ allVerified s m = false →
       exec (.activate h m 0 0) s = .next (answeredCmd s h 0x0C05 0x88 [])) ∧
    (∀ (h : Hdr) (m k n : Nat), served s h 0x0C05 → s.sup.recovery = false → s.nv.boot.pending = 0 → s.fw.activation = none →
       s.fw.hostMode = false → s.packTime + 500 * msT ≤ n → n ≤ s.packTime + 86400 * secT →
       (k = 0 ∨ k = 1 ∧ primaryHead s = true) → m % 32 ≠ 0 → allVerified s m = true → rolledBack s m = true →
       exec (.activate h m k n) s = .next (answeredCmd s h 0x0C05 0x83 [])) ∧
    (∀ (h : Hdr) (m k n : Nat), served s h 0x0C05 → s.sup.recovery = false → s.nv.boot.pending = 0 → s.fw.activation = none →
       s.fw.hostMode = false → s.packTime + 500 * msT ≤ n → n ≤ s.packTime + 86400 * secT →
       (k = 0 ∨ k = 1 ∧ primaryHead s = true) → m % 32 ≠ 0 → allVerified s m = true → rolledBack s m = false →
       conditionsHold s m = false → exec (.activate h m k n) s = .next (answeredCmd s h 0x0C05 0x8A [])) ∧
    (∀ (h : Hdr) (m n : Nat), served s h 0x0C05 → canOpen s h → s.sup.recovery = false → s.nv.boot.pending = 0 →
       s.fw.activation = none → s.fw.hostMode = false → s.packTime + 500 * msT ≤ n → n ≤ s.packTime + 86400 * secT → m % 32 ≠ 0 →
       allVerified s m = true → rolledBack s m = false → conditionsHold s m = true →
       exec (.activate h m 0 n) s = .next ({ (openedCmd s h 0x0C05) with fw := { s.fw with activation := some { hdr := some h, tmask := m % 32, scope := 0, at_ := n, committed := false, done := false } } })) ∧
    (∀ (h : Hdr) (m n : Nat), served s h 0x0C05 → canOpen s h → s.sup.recovery = false → s.nv.boot.pending = 0 →
       s.fw.activation = none → s.fw.hostMode = false → s.packTime + 500 * msT ≤ n → n ≤ s.packTime + 86400 * secT →
       primaryHead s = true → m % 32 ≠ 0 → allVerified s m = true → rolledBack s m = false → conditionsHold s m = true →
       exec (.activate h m 1 n) s = .next (sendFrame { (openedCmd s h 0x0C05) with fw := { s.fw with activation := some { hdr := some h, tmask := m % 32, scope := 1, at_ := n, committed := false, done := false } } } 0x0E 0xFF 2 false false (armFrame 1 (m % 32) n))) ∧
    (∀ (h : Hdr) (m : Nat), served s h 0x0C05 → canOpen s h → s.sup.recovery = false → s.nv.boot.pending = 0 → s.fw.activation = none →
       s.fw.hostMode = true → m % 32 ≠ 0 → allVerified s m = true → rolledBack s m = false → conditionsHold s m = true →
       exec (.activate h m 0 0) s = .next (commitBoot { (openedCmd s h 0x0C05) with fw := { s.fw with activation := some { hdr := some h, tmask := m % 32, scope := 0, at_ := s.packTime + 100 * msT, committed := true, done := false } } } (m % 32) (s.packTime + 100 * msT))) ∧
    (∀ (l : List Nat),
       (s.fw.activation = none ∨ (s.fw.activation.any fun a => a.committed || decide (s.packTime + 100 * msT < a.at_)) = true) →
       exec (.activationCommitPoint l) s = .next (s)) ∧
    (∀ (q : Activation), s.fw.activation = some q → q.committed = false → q.at_ ≤ s.packTime + 100 * msT →
       conditionsHold s q.tmask = true → allVerified s q.tmask = true →
       exec (.activationCommitPoint []) s = .next (commitBoot { s with fw := { s.fw with activation := some { q with committed := true } } } q.tmask q.at_)) ∧
    (∀ (q : Activation) (l : List Nat) (n : Nat), s.fw.activation = some q → q.committed = false → q.at_ ≤ s.packTime + 100 * msT →
       (if (conditionsHold s q.tmask && allVerified s q.tmask) = true then l else s.chain.addr :: l).head? = some n →
       exec (.activationCommitPoint l) s = .next (endActivation (if (q.scope == 1 && q.hdr.isSome) = true then sendFrame s 0x0E 0xFF 2 false false (armFrame 3 q.tmask q.at_) else s) 0x8A (le 1 1 ++ zeros 3 ++ outcomeBytes n 2 0))) ∧
    (s.nv.boot.pending = 0 ∨ s.fw.running ≠ s.nv.boot.active ∨ s.packTime < s.nv.boot.actAt → exec (.activation) s = .next (s)) ∧
    (s.nv.boot.pending ≠ 0 → s.fw.running = s.nv.boot.active → s.nv.boot.actAt ≤ s.packTime → partLevel s.nv.boot.pending = true →
       exec (.activation) s = .next (partReset ({ s with fw := { s.fw with activation := s.fw.activation.map fun a => { a with done := true } } }) 1)) ∧
    (s.nv.boot.pending ≠ 0 → s.fw.running = s.nv.boot.active → s.nv.boot.actAt ≤ s.packTime → partLevel s.nv.boot.pending = false →
       bit s.nv.boot.pending 3 = false → bit s.nv.boot.pending 1 = true ∨ bit s.nv.boot.pending 4 = true →
       exec (.activation) s = .next (studioRestart (switchPlaces { s with fw := { s.fw with activation := s.fw.activation.map fun a => { a with done := true } } }) false)) ∧
    (s.nv.boot.pending ≠ 0 → s.fw.running = s.nv.boot.active → s.nv.boot.actAt ≤ s.packTime → partLevel s.nv.boot.pending = false →
       bit s.nv.boot.pending 3 = true → bit s.nv.boot.pending 1 = true ∨ bit s.nv.boot.pending 4 = true →
       exec (.activation) s = .next (studioRestart ((fun u => { u with chain := { u.chain with placeB := true }, fw := { u.fw with noRadio := false } }) (switchPlaces { s with fw := { s.fw with activation := s.fw.activation.map fun a => { a with done := true } } })) false)) ∧
    (s.nv.boot.pending ≠ 0 → s.fw.running = s.nv.boot.active → s.nv.boot.actAt ≤ s.packTime → partLevel s.nv.boot.pending = false →
       bit s.nv.boot.pending 1 = false → bit s.nv.boot.pending 4 = false → bit s.nv.boot.pending 3 = true →
       exec (.activation) s = .next ((fun u => { u with chain := { u.chain with placeB := true }, fw := { u.fw with noRadio := false } }) (switchPlaces { s with fw := { s.fw with activation := s.fw.activation.map fun a => { a with done := true } } }))) ∧
    (s.nv.boot.pending = 2 → s.fw.running = s.nv.boot.active → s.nv.boot.actAt ≤ s.packTime → ∃ t, exec (.activation) s = .next t ∧
       t.fw.running = s.nv.boot.active ^^^ 2 ∧ t.nv.boot.bootCount = 1 ∧ t.nv.boot.rollIdx = s.nv.boot.rollIdx ∧
       t.aon.confirmEnd = some (s.now + 60 * secT) ∧ t.sup.ready = false ∧ t.metro = s.metro)

/-- GET_LIFECYCLE answers state, failed dies, generation and result words. LC_ADVANCE, RETURN_CHALLENGE, ENTER_RETURN, LBIST_RUN without
an accepted proof answer AUTH_FAILED, and LC_SCRAP too outside RETURN; with one: LC_ADVANCE goes from CONFIGURED to FIELD where
`fieldNeeds` holds (`lifeSet`), from RETURN to CONFIGURED with a token, and else answers LC_CONDITIONS. RETURN_CHALLENGE issues a nonce,
a free value (log entry 4), in place of the one held. ENTER_RETURN outside CONFIGURED and FIELD answers LC_CONDITIONS, with an activation
ACTIVATION_PENDING; else its token decides: the transition, the erasure, open outputs, the reply, the reset. A token without a nonce
held, or with an expired one, answers NO_NONCE; a token costs the nonce; one that fails (`tokenFault`) answers TOKEN_INVALID and raises
RETURN_TOKEN_REFUSED (0xC5) with what failed. LC_SCRAP with another CONFIRM answers CONFIRM_WRONG; with CONFIRM it scraps (`scrap`) in
CONFIGURED, FIELD and RETURN, by a maker token in RETURN without a proof (log entry 65). LBIST_RUN answers FRAME_INVALID for C or M in
its mask, NOT_FITTED for an unfitted die, LBIST_CONDITIONS outside its conditions, and else its dies run it (`lbistEnd`), restart, and
the operation completes with their words. NONCE_EXPIRY ends a nonce 7 days old and no other. TEST_ACCESS_ATTEMPT with C up raises 0xC4
with its die, C or a fitted segment die, outside MAKER_TEST and RETURN, the first time since the start; else nothing changes. Rests on
R3, R388, R510 to R512, R514, R516 to R523. -/
def Obligations.LifeCycle : Prop :=
  ∀ (s : State),
    (∀ (h : Hdr), served s h 0x0D01 →
       exec (.getLifecycle h) s = .next (answeredCmd s h 0x0D01 stOk (le 1 s.life.state ++ le 1 s.life.degraded ++ zeros 2 ++ le 4 s.life.gen ++ (List.range 8).flatMap fun k => le 4 (lbReport s k)))) ∧
    (∀ (h : Hdr) (p : Proof) (n : Nat) (l : List Byte), served s h 0x0D02 → proofGood s h 0x0D02 (le 1 n ++ zeros 3 ++ l) p = false →
       exec (.lcAdvance h n l p) s = .next (answeredCmd s h 0x0D02 stAuthFailed [])) ∧
    (∀ (h : Hdr) (p : Proof), served s h 0x0D03 → proofGood s h 0x0D03 ([]) p = false →
       exec (.returnChallenge h p) s = .next (answeredCmd s h 0x0D03 stAuthFailed [])) ∧
    (∀ (h : Hdr) (p : Proof) (l : List Byte), served s h 0x0D04 → proofGood s h 0x0D04 (l) p = false →
       exec (.enterReturn h l p) s = .next (answeredCmd s h 0x0D04 stAuthFailed [])) ∧
    (∀ (h : Hdr) (p : Proof) (m : Nat) (e : List LbistEnv), served s h 0x0D06 → proofGood s h 0x0D06 (le 1 m ++ zeros 3) p = false →
       exec (.lbistRun h m e p) s = .next (answeredCmd s h 0x0D06 stAuthFailed [])) ∧
    (∀ (h : Hdr) (p : Proof) (l : List Byte), served s h 0x0D02 → proofGood s h 0x0D02 (le 1 3 ++ zeros 3 ++ l) p = true →
       s.life.state = 2 → fieldNeeds s = true →
       exec (.lcAdvance h 3 l p) s = .next (let u := lifeSet (useProof (dequeue s h 0x0D02) h p) 3; reply u h 0x0D02 stOk (le 4 u.life.gen))) ∧
    (∀ (h : Hdr) (p : Proof) (n : Nat) (l : List Byte), served s h 0x0D02 → proofGood s h 0x0D02 (le 1 n ++ zeros 3 ++ l) p = true →
       s.life.state ≠ 2 ∨ n ≠ 3 ∨ fieldNeeds s = false → s.life.state ≠ 4 ∨ n ≠ 2 →
       exec (.lcAdvance h n l p) s = .next (reply (useProof (dequeue s h 0x0D02) h p) h 0x0D02 0x80 [])) ∧
    (∀ (h : Hdr) (p : Proof) (l : List Byte), served s h 0x0D02 → proofGood s h 0x0D02 (le 1 2 ++ zeros 3 ++ l) p = true →
       s.life.state = 4 → ((s.life.nonce.filter fun x => !nonceOld s x) = none) →
       exec (.lcAdvance h 2 l p) s = .next (reply (useProof (dequeue s h 0x0D02) h p) h 0x0D02 0x82 [])) ∧
    (∀ (h : Hdr) (p : Proof) (l n : List Byte) (k : Nat), served s h 0x0D02 → proofGood s h 0x0D02 (le 1 2 ++ zeros 3 ++ l) p = true →
       s.life.state = 4 → s.life.nonce = some (n, k) → s.packTime < k + 7 * dayT →
       exec (.lcAdvance h 2 l p) s = .next (let u := lifeSet { (useProof (dequeue s h 0x0D02) h p) with life := { s.life with nonce := none } } 2; if tokenFault s l 2 n = 0 then reply u h 0x0D02 stOk (le 4 u.life.gen) else raise (reply { (useProof (dequeue s h 0x0D02) h p) with life := { s.life with nonce := none } } h 0x0D02 0x81 []) 0 9 0xC5 (tokenFault s l 2 n))) ∧
    (∀ (h : Hdr) (p : Proof), served s h 0x0D03 → proofGood s h 0x0D03 ([]) p = true →
       exec (.returnChallenge h p) s = .next (reply { (useProof (dequeue s h 0x0D03) h p).draw with life := { s.life with nonce := some (s.freeBytes 16, s.packTime) } } h 0x0D03 stOk (le 8 Config.unitId ++ le 8 (if s.part.hasM then s.metro.muid else 0) ++ le 1 s.life.state ++ zeros 3 ++ s.freeBytes 16))) ∧
    (∀ (h : Hdr) (p : Proof) (l : List Byte), served s h 0x0D04 → proofGood s h 0x0D04 (l) p = true → lifeInUse s = false →
       exec (.enterReturn h l p) s = .next (reply (useProof (dequeue s h 0x0D04) h p) h 0x0D04 0x80 [])) ∧
    (∀ (h : Hdr) (p : Proof) (l : List Byte), served s h 0x0D04 → proofGood s h 0x0D04 (l) p = true → lifeInUse s = true →
       s.nv.boot.pending ≠ 0 ∨ s.fw.activation ≠ none →
       exec (.enterReturn h l p) s = .next (reply (useProof (dequeue s h 0x0D04) h p) h 0x0D04 0x8C [])) ∧
    (∀ (h : Hdr) (p : Proof) (l : List Byte), served s h 0x0D04 → proofGood s h 0x0D04 (l) p = true → lifeInUse s = true →
       s.nv.boot.pending = 0 → s.fw.activation = none → ((s.life.nonce.filter fun x => !nonceOld s x) = none) →
       exec (.enterReturn h l p) s = .next (reply (useProof (dequeue s h 0x0D04) h p) h 0x0D04 0x82 [])) ∧
    (∀ (h : Hdr) (p : Proof) (l n : List Byte) (k : Nat), served s h 0x0D04 → proofGood s h 0x0D04 (l) p = true → lifeInUse s = true →
       s.nv.boot.pending = 0 → s.fw.activation = none → s.life.nonce = some (n, k) → s.packTime < k + 7 * dayT →
       exec (.enterReturn h l p) s = .next (if tokenFault s l 4 n = 0 then partReset (replyNow (flashAll (openOutputs (eraseKeys (lifeSet { (useProof (dequeue s h 0x0D04) h p) with life := { s.life with nonce := none } } 4)) 3)) h 0x0D04 stOk []) 1 else raise (reply { (useProof (dequeue s h 0x0D04) h p) with life := { s.life with nonce := none } } h 0x0D04 0x81 []) 0 9 0xC5 (tokenFault s l 4 n))) ∧
    (∀ (h : Hdr) (p : Proof) (n : Nat) (l : List Byte), served s h 0x0D05 → proofGood s h 0x0D05 (le 4 n ++ l) p = true →
       n ≠ 0x5C4A0D0D → exec (.lcScrap h n l p) s = .next (reply (useProof (dequeue s h 0x0D05) h p) h 0x0D05 0x84 [])) ∧
    (∀ (h : Hdr) (p : Proof) (l : List Byte), served s h 0x0D05 → proofGood s h 0x0D05 (le 4 0x5C4A0D0D ++ l) p = true →
       s.life.state = 2 ∨ s.life.state = 3 ∨ s.life.state = 4 →
       exec (.lcScrap h 0x5C4A0D0D l p) s = .next (scrap (useProof (dequeue s h 0x0D05) h p) h)) ∧
    (∀ (h : Hdr) (p : Proof) (l : List Byte), served s h 0x0D05 → proofGood s h 0x0D05 (le 4 0x5C4A0D0D ++ l) p = true →
       s.life.state ≠ 2 → s.life.state ≠ 3 → s.life.state ≠ 4 →
       exec (.lcScrap h 0x5C4A0D0D l p) s = .next (reply (useProof (dequeue s h 0x0D05) h p) h 0x0D05 0x80 [])) ∧
    (∀ (h : Hdr) (n : Nat) (l : List Byte) (p : Proof), served s h 0x0D05 → proofGood s h 0x0D05 (le 4 n ++ l) p = false →
       s.life.state ≠ 4 → exec (.lcScrap h n l p) s = .next (answeredCmd s h 0x0D05 stAuthFailed [])) ∧
    (∀ (h : Hdr) (n : Nat) (l : List Byte) (p : Proof), served s h 0x0D05 → proofGood s h 0x0D05 (le 4 n ++ l) p = false →
       s.life.state = 4 → n ≠ 0x5C4A0D0D → exec (.lcScrap h n l p) s = .next (answeredCmd s h 0x0D05 0x84 [])) ∧
    (∀ (h : Hdr) (l : List Byte) (p : Proof), served s h 0x0D05 → proofGood s h 0x0D05 (le 4 0x5C4A0D0D ++ l) p = false →
       s.life.state = 4 → ((s.life.nonce.filter fun x => !nonceOld s x) = none) →
       exec (.lcScrap h 0x5C4A0D0D l p) s = .next (answeredCmd s h 0x0D05 0x82 [])) ∧
    (∀ (h : Hdr) (l n : List Byte) (k : Nat) (p : Proof), served s h 0x0D05 → proofGood s h 0x0D05 (le 4 0x5C4A0D0D ++ l) p = false →
       s.life.state = 4 → s.life.nonce = some (n, k) → s.packTime < k + 7 * dayT →
       exec (.lcScrap h 0x5C4A0D0D l p) s = .next (let u := { (dequeue s h 0x0D05) with life := { s.life with nonce := none } }; if tokenFault s l 5 n = 0 then scrap u h else raise (reply u h 0x0D05 0x81 []) 0 9 0xC5 (tokenFault s l 5 n))) ∧
    (∀ (h : Hdr) (p : Proof) (m : Nat) (e : List LbistEnv), served s h 0x0D06 → proofGood s h 0x0D06 (le 1 m ++ zeros 3) p = true →
       bit m 0 = true ∨ bit m 1 = true →
       exec (.lbistRun h m e p) s = .next (refuse (useProof (dequeue s h 0x0D06) h p) h 0x0D06 stFrameInvalid)) ∧
    (∀ (h : Hdr) (p : Proof) (m : Nat) (e : List LbistEnv), served s h 0x0D06 → proofGood s h 0x0D06 (le 1 m ++ zeros 3) p = true →
       bit m 0 = false → bit m 1 = false → maskUnfitted s m = true →
       exec (.lbistRun h m e p) s = .next (reply (useProof (dequeue s h 0x0D06) h p) h 0x0D06 stNotFitted [])) ∧
    (∀ (h : Hdr) (p : Proof) (m : Nat) (e : List LbistEnv), served s h 0x0D06 → proofGood s h 0x0D06 (le 1 m ++ zeros 3) p = true →
       bit m 0 = false → bit m 1 = false → maskUnfitted s m = false →
       (s.power.state ≠ .service ∨ s.sweep.running = true ∨ s.sweep.inSweep = true ∨ s.stage.so1 = true ∨ s.stage.so2 = true ∨ lifeInUse s = false ∨ ((s.segs.filter fun d => bit m d.code).map (·.code)).all (lbAllowed e) = false) →
       exec (.lbistRun h m e p) s = .next (reply (useProof (dequeue s h 0x0D06) h p) h 0x0D06 0x83 [])) ∧
    (∀ (h : Hdr) (p : Proof) (m : Nat) (e : List LbistEnv), served s h 0x0D06 → proofGood s h 0x0D06 (le 1 m ++ zeros 3) p = true →
       canOpen s h → bit m 0 = false → bit m 1 = false → maskUnfitted s m = false → s.power.state = .service →
       s.sweep.running = false → s.sweep.inSweep = false → s.stage.so1 = false → s.stage.so2 = false → lifeInUse s = true →
       (((s.segs.filter fun d => bit m d.code).map (·.code)).all (lbAllowed e) = true) →
       exec (.lbistRun h m e p) s = .next (let u := ((s.segs.filter fun d => bit m d.code).map (·.code)).foldl (fun u k => match lbEnv e k with | some x => restartDie (lbistEnd u x) k | none => u) (openedCmd (useProof s h p) h 0x0D06); completeOp u h stOk (((s.segs.filter fun d => bit m d.code).map (·.code)).flatMap fun k => le 4 (lbWordOf u k).toNat))) ∧
    (∀ (l : List Byte) (k : Nat), s.life.nonce = some (l, k) → k + 7 * dayT ≤ s.packTime →
       exec (.nonceExpiry) s = .next ({ s with life := { s.life with nonce := none } })) ∧
    (((s.life.nonce.filter fun x => !nonceOld s x) = s.life.nonce) → exec (.nonceExpiry) s = .next (s)) ∧
    (∀ (k : Nat), cUp s = true → s.life.state ≠ 1 → s.life.state ≠ 4 → s.life.attempted = false → k ≠ 1 → s.fitted k = true →
       exec (.testAccessAttempt k) s = .next (raise { s with life := { s.life with attempted := true } } 0 9 0xC4 k)) ∧
    (∀ (k : Nat), cUp s = false ∨ s.life.state = 1 ∨ s.life.state = 4 ∨ s.life.attempted = true ∨ k = 1 ∨ s.fitted k = false →
       exec (.testAccessAttempt k) s = .next (s))

/-- State.reset meets `kept`: memory is canonical, the fitted dies are there, and no Studio serves. Memory lists nothing and no command
waits. No fault record is open or closed, RECID starts at 0, the reaction table holds the default classes, and no fault is forced. No
operation, switch, reply or order is held. The watchdog is disarmed with question 0, SEQ 0, PERIOD 100 and SEED 0. Both outputs are open.
No Take and no Slate history is held, no safety session is open, and every segment die has 24 cells. Rests on R29, R41, R62, R406, R409,
R419 and R484; a register value that no rule gives is named in log entry 3. -/
def Obligations.ResetState : Prop :=
  kept State.reset = true ∧ State.reset.mem = [] ∧ State.reset.pending = [] ∧ State.reset.faults.open_ = [] ∧ State.reset.faults.closed = [] ∧
  State.reset.faults.nextId = 0 ∧ State.reset.faults.table = defaultClasses ∧ State.reset.faults.forces = [] ∧ State.reset.mail.ops = [] ∧
  State.reset.mail.switches = [] ∧ State.reset.mail.replies = [] ∧ State.reset.mail.arb = [] ∧ State.reset.wd.armed = false ∧
  State.reset.wd.question = 0 ∧ State.reset.wd.seq = 0 ∧ State.reset.wd.period = 100 ∧ State.reset.wd.seed = 0 ∧
  State.reset.stage.so1 = false ∧ State.reset.stage.so2 = false ∧ State.reset.slates.takes = [] ∧ State.reset.slates.history = [] ∧
  State.reset.safety.sessions = [] ∧ (State.reset.segs.all fun d => d.cells == 24) = true

/-- From every state that meets it, a step that answers a next state leaves memory in its canonical form, the same dies fitted in the
same part, and no serving Studio in FATAL or after its halt (`kept`); the queue is what was behind the command that ran, and an empty
queue stays empty. Rests on R1, R6, R414 and R425; the queue is the model's (log entry 1). -/
def Obligations.EveryStepKeeps : Prop :=
  ∀ s t : State, kept s = true → step s = .next t → kept t = true ∧ t.part = s.part ∧ t.pending = s.pending.tail

/-- Nothing on C's side reaches M's legal registers, firmware, calibration or seal: whatever the state, every command that does not act
in M leaves all of M as it was, a part reset, a firmware activation, a life-cycle transition and a supply return of C among them. The
commands that act in M are those of `reachesM`; what they change is stated with them. Rests on R17, R86 and R334. -/
def Obligations.NothingElseReachesM : Prop :=
  ∀ (i : Instr) (s t : State), reachesM i = false → exec i s = .next t → t.metro = s.metro

/-- The CRC of any bytes starts from 0xFFFFFFFF, takes each byte into its low bits, shifts 8 times to the right with the polynomial
0x04C11DB7 in reversed bit order (`crcShift`), and ends with an XOR of 0xFFFFFFFF; over "123456789" it is 0xCBF43926. For every
well-formed mailbox command with every operand at every value that its fields allow: its frame fits the 256 bytes of a mailbox, ends with
the CRC of the bytes before, and the engine reads from it, whatever bytes follow, the opcode, TAG and TARGET of the command, a reserved
byte of 0, a good FCRC, and by the opcode's layout the command's own parameter values in order. -/
def Obligations.FramesReadBack : Prop :=
  (∀ l : List Byte, crc32 l = (l.foldl (fun c b => (List.range 8).foldl (fun c _ => crcShift c) (c ^^^ b.zeroExtend 32)) 0xFFFFFFFF) ^^^ 0xFFFFFFFF) ∧
  crc32 [0x31, 0x32, 0x33, 0x34, 0x35, 0x36, 0x37, 0x38, 0x39] = 0xCBF43926 ∧
  ∀ (i : Instr) (op : Nat) (h : Hdr) (vs : List Val), i.wf = true → spelled i = some (op, h, vs) →
    ∃ (r : Bool) (l : List Fld) (b : List Byte), layoutOf r op = some l ∧ wireBytes r i = some b ∧ b.length ≤ 256 ∧
      b.drop (b.length - 4) = le 4 (crc32 (b.take (b.length - 4))).toNat ∧
      ∀ tail : List Byte,
        (readFrame (b ++ tail)).op = op ∧ (readFrame (b ++ tail)).tag = h.tag ∧ (readFrame (b ++ tail)).target = h.target ∧
        (readFrame (b ++ tail)).reserved = 0 ∧ (readFrame (b ++ tail)).crcGood = true ∧
        readParams l [] [] (readFrame (b ++ tail)).params = some vs

/-- For every frame that the engine takes with a good form, a known opcode and this package as its target, and for every mailbox command
that starts at its turn: while neither the Studio nor Tadpole serves, the answer is RESOURCE_BUSY; while Tadpole runs, the answer to a
command outside the set that Tadpole accepts is REJECTED_STATE; and while the Studio serves, the answer to a command of a class that is
not accepted in its mailbox is WRONG_MAILBOX. The answer is the only effect, but for the frame that leaves its mailbox and the command
that leaves the queue. The set that Tadpole accepts is GET_IDENTITY (0x0101) and 0x0C01 to 0x0C06; classes 0x01 to 0x08, 0x0B and 0x0E
are accepted in mailboxes 1, 2 and 3, 0x09 and 0x0A in 0, 1 and 3, 0x0C in 2 and 3, and 0x0D in 3. The order of these answers is the
model's (log entry 37). -/
def Obligations.GateAnswersFirst : Prop :=
  ∀ (s : State),
    (∀ (n : Nat) (f : Frame), cUp s = true → nextMailbox s = some n → readFrame (memReadList s.mem (0x100 + 256 * n) 256) = f →
       frameBad s f = false → f.target = 0 ∨ f.target = s.chain.addr → layoutOf (decide (s.life.state = 4)) f.op ≠ none →
       s.sup.recovery = false → s.sup.ready = false →
       exec (.mailboxTakeFrame) s = .next (reply (clearInbound s n) { origin := 0, prio := n, tag := f.tag, target := f.target } f.op stBusy [])) ∧
    (∀ (i : Instr) (op : Nat) (h : Hdr) (vs : List Val), spelled i = some (op, h, vs) → turn s h op = true → s.sup.recovery = false →
       s.sup.ready = false → exec i s = .next (answeredCmd s h op stBusy [])) ∧
    (∀ (n : Nat) (f : Frame), cUp s = true → nextMailbox s = some n → readFrame (memReadList s.mem (0x100 + 256 * n) 256) = f →
       frameBad s f = false → f.target = 0 ∨ f.target = s.chain.addr → layoutOf (decide (s.life.state = 4)) f.op ≠ none →
       s.sup.recovery = true → tadpoleAccepts f.op = false →
       exec (.mailboxTakeFrame) s = .next (reply (clearInbound s n) { origin := 0, prio := n, tag := f.tag, target := f.target } f.op stRejected [])) ∧
    (∀ (i : Instr) (op : Nat) (h : Hdr) (vs : List Val), spelled i = some (op, h, vs) → turn s h op = true → s.sup.recovery = true →
       tadpoleAccepts op = false → exec i s = .next (answeredCmd s h op stRejected [])) ∧
    (∀ (n : Nat) (f : Frame), cUp s = true → nextMailbox s = some n → readFrame (memReadList s.mem (0x100 + 256 * n) 256) = f →
       frameBad s f = false → f.target = 0 ∨ f.target = s.chain.addr → layoutOf (decide (s.life.state = 4)) f.op ≠ none →
       s.sup.recovery = false → s.sup.ready = true → n ∉ classMailboxes (f.op / 256) →
       exec (.mailboxTakeFrame) s = .next (reply (clearInbound s n) { origin := 0, prio := n, tag := f.tag, target := f.target } f.op stWrongMailbox [])) ∧
    (∀ (i : Instr) (op : Nat) (h : Hdr) (vs : List Val), spelled i = some (op, h, vs) → turn s h op = true → s.sup.recovery = false →
       s.sup.ready = true → h.prio ∉ classMailboxes (op / 256) → exec i s = .next (answeredCmd s h op stWrongMailbox [])) ∧
    (∀ op, tadpoleAccepts op = true ↔ op = 0x0101 ∨ 0x0C01 ≤ op ∧ op ≤ 0x0C06) ∧
    (∀ k, (k ∈ [1, 2, 3, 4, 5, 6, 7, 8, 0x0B, 0x0E] → classMailboxes k = [1, 2, 3]) ∧ (k ∈ [9, 0x0A] → classMailboxes k = [0, 1, 3]) ∧
       classMailboxes 0x0C = [2, 3] ∧ classMailboxes 0x0D = [3])
end

