-- ==== Sys2Proof/Laws/Memory.lean ====
section
/-! SUPPORT. Memory: every write keeps the canonical form; what a read gives after a write. -/
namespace Sys2Proof.Machine

/-- The canonical form, without the Bool: every entry nonzero, addresses strictly rising. -/
theorem wf_cons (a : Nat) (v : Byte) (r : List Host.Cell) :
    Memory.wf ((a, v) :: r) = true ↔ v ≠ 0 ∧ (∀ c ∈ r.head?, a < c.1) ∧ Memory.wf r = true := by
  cases r with
  | nil => simp [Memory.wf]
  | cons c r => cases c; simp [Memory.wf, and_assoc]

/-- The first address after a write is the written one or an old one. -/
theorem memWrite_head (m : List Host.Cell) (a : Nat) (v : Byte) (x : Nat) (hx : x < a)
    (h : ∀ c ∈ m.head?, x < c.1) (hw : Memory.wf m = true) : ∀ c ∈ (memWrite m a v).head?, x < c.1 := by
  cases m with
  | nil => simp only [memWrite]; split <;> simp [hx]
  | cons d r =>
    obtain ⟨y, b⟩ := d
    have hy : x < y := h (y, b) (by simp)
    simp only [memWrite]
    split
    · split <;> simp [hx, hy]
    · split
      · split
        · intro c hc
          have := ((wf_cons y b r).1 hw).2.1 c hc
          omega
        · simp [hx]
      · simp [hy]

/-- A write keeps the canonical form. -/
theorem memWrite_wf (m : List Host.Cell) (a : Nat) (v : Byte) (h : Memory.wf m = true) : Memory.wf (memWrite m a v) = true := by
  induction m with
  | nil => simp only [memWrite]; split <;> simp_all [Memory.wf]
  | cons d r ih =>
    obtain ⟨y, b⟩ := d
    have hh := (wf_cons y b r).1 h
    simp only [memWrite]
    split
    · rename_i hlt
      split
      · exact h
      · rename_i hv
        exact (wf_cons a v _).2 ⟨hv, by simp [hlt], h⟩
    · rename_i hge
      split
      · rename_i heq
        split
        · exact hh.2.2
        · rename_i hv
          exact (wf_cons a v r).2 ⟨hv, heq ▸ hh.2.1, hh.2.2⟩
      · rename_i hne
        exact (wf_cons y b _).2 ⟨hh.1, memWrite_head r a v y (by omega) hh.2.1 hh.2.2, ih hh.2.2⟩

/-- Writing bytes keeps the canonical form. -/
theorem memWriteList_wf (l : List Byte) (m : List Host.Cell) (a : Nat) (h : Memory.wf m = true) :
    Memory.wf (memWriteList m a l) = true := by
  induction l generalizing m a with
  | nil => exact h
  | cons v r ih => exact ih _ _ (memWrite_wf m a v h)

/-- Writing into the stream window keeps the canonical form. -/
theorem winWrite_wf (l : List Byte) (m : List Host.Cell) (off : Nat) (h : Memory.wf m = true) :
    Memory.wf (winWrite m off l) = true := by
  induction l generalizing m off with
  | nil => exact h
  | cons v r ih => exact ih _ _ (memWrite_wf m _ v h)

/-- Below every entry of a canonical memory nothing is listed. -/
theorem memRead_below (m : List Host.Cell) (a : Nat) (h : Memory.wf m = true) (hb : ∀ c ∈ m.head?, a < c.1) : memRead m a = 0 := by
  induction m with
  | nil => rfl
  | cons d r ih =>
    obtain ⟨y, b⟩ := d
    have hh := (wf_cons y b r).1 h
    have hy : a < y := hb (y, b) (by simp)
    simp only [memRead]
    rw [if_neg (by omega)]
    exact ih hh.2.2 fun c hc => Nat.lt_trans hy (hh.2.1 c hc)

/-- A read after a write to the same address gives the value written. -/
theorem memRead_memWrite_same (m : List Host.Cell) (a : Nat) (v : Byte) (h : Memory.wf m = true) :
    memRead (memWrite m a v) a = v := by
  induction m with
  | nil => simp only [memWrite]; split <;> simp_all [memRead]
  | cons d r ih =>
    obtain ⟨y, b⟩ := d
    have hh := (wf_cons y b r).1 h
    simp only [memWrite]
    split
    · rename_i hlt
      split
      · rename_i hv
        rw [hv]
        exact memRead_below _ a h (by simp [hlt])
      · simp [memRead]
    · split
      · rename_i heq
        split
        · rename_i hv
          rw [hv]
          exact memRead_below r a hh.2.2 (heq ▸ hh.2.1)
        · simp [memRead]
      · rename_i hne
        simp only [memRead]
        rw [if_neg (fun e => hne e.symm)]
        exact ih hh.2.2

/-- A write leaves every other address alone. -/
theorem memRead_memWrite_other (m : List Host.Cell) (a b : Nat) (v : Byte) (hab : b ≠ a) :
    memRead (memWrite m a v) b = memRead m b := by
  induction m with
  | nil => simp only [memWrite]; split <;> simp [memRead, Ne.symm hab]
  | cons d r ih =>
    obtain ⟨y, w⟩ := d
    simp only [memWrite]
    split
    · split
      · rfl
      · simp [memRead, Ne.symm hab]
    · split
      · rename_i heq
        split <;> simp [memRead, heq ▸ Ne.symm hab, Ne.symm hab]
      · simp [memRead, ih]

/-- Bytes written at an address leave every address outside them alone. -/
theorem memRead_memWriteList_other (l : List Byte) (m : List Host.Cell) (a b : Nat) (h : b < a ∨ a + l.length ≤ b) :
    memRead (memWriteList m a l) b = memRead m b := by
  induction l generalizing m a with
  | nil => rfl
  | cons v r ih =>
    simp only [List.length_cons] at h
    rw [memWriteList, ih _ _ (by omega), memRead_memWrite_other _ _ _ _ (by omega)]

end Sys2Proof.Machine
end

