-- ==== Sys2Proof/Laws/Apart.lean ====
section
/-! SUPPORT. What an operation may not do: `Apart m r t` says that the state `t`, reached from the state `r`, has the same queue and the
same part, memory still in its canonical form, the same dies, a Studio that serves only where it may, and, if `m`, the same
metrology die. One lemma for each shared operation and each meaning says that it keeps `Apart`. -/
set_option Elab.async false
namespace Sys2Proof.Machine

/-- The Studio serves only while it is neither halted nor stopped by a FATAL reaction (R414, R425). -/
def servesP (u : Supervision) : Prop := (u.fatal || u.halted) = true → u.ready = false

/-- What stands between a state and a later one. -/
structure Apart (m : Bool) (r t : State) : Prop where
  pending : t.pending = r.pending
  part : t.part = r.part
  mem : Memory.wf r.mem = true → Memory.wf t.mem = true
  codes : t.segs.map (·.code) = r.segs.map (·.code)
  serves : servesP r.sup → servesP t.sup
  metro : m = true → t.metro = r.metro

/-- The same of an outcome: of its next state, if it has one. -/
structure ApartO (m : Bool) (r : State) (o : Host.Outcome State Fault Refusal) : Prop where
  of : ∀ t, o = .next t → Apart m r t

theorem Apart.refl (m : Bool) (r : State) : Apart m r r := ⟨rfl, rfl, id, rfl, id, fun _ => rfl⟩

theorem Apart.trans {m : Bool} {r s t : State} (h : Apart m r s) (g : Apart m s t) : Apart m r t :=
  ⟨g.pending.trans h.pending, g.part.trans h.part, g.mem ∘ h.mem, g.codes.trans h.codes, g.serves ∘ h.serves,
    fun e => (g.metro e).trans (h.metro e)⟩

/-- A state whose metrology die is the same is also one whose metrology die may differ. -/
theorem Apart.weaken {m : Bool} {r t : State} (h : Apart m r t) : Apart false r t :=
  ⟨h.pending, h.part, h.mem, h.codes, h.serves, fun e => nomatch e⟩

theorem ApartO.next {m : Bool} {r t : State} (h : Apart m r t) : ApartO m r (.next t) :=
  ⟨fun _ e => by cases e; exact h⟩

theorem ApartO.fault {m : Bool} {r : State} (f : Fault) : ApartO m r (.fault f) :=
  ⟨fun _ e => by cases e⟩

theorem ApartO.ite {m : Bool} {r : State} {c : Prop} [Decidable c] {a b : Host.Outcome State Fault Refusal} (ha : ApartO m r a)
    (hb : ApartO m r b) : ApartO m r (if c then a else b) := by
  split <;> assumption

theorem Apart.ite {m : Bool} {r a b : State} {c : Prop} [Decidable c] (ha : Apart m r a) (hb : Apart m r b) :
    Apart m r (if c then a else b) := by
  split <;> assumption

theorem Apart.ite_fst {m : Bool} {r : State} {α : Type} {a b : State × α} {c : Prop} [Decidable c] (ha : Apart m r a.1)
    (hb : Apart m r b.1) : Apart m r (if c then a else b).1 := by
  split <;> assumption

theorem Apart.of_pair {m : Bool} {r t : State} {α : Type} {a : α} {p : State × α} (h : p = (t, a)) (g : Apart m r p.1) :
    Apart m r t := by
  rw [h] at g
  exact g

theorem Apart.cut {m : Bool} {r z : State} {G : Prop} (h : Apart m r z) (g : Apart m r z → G) : G := g h

theorem Apart.cut_fst {m : Bool} {r : State} {α : Type} {z : State × α} {G : Prop} (h : Apart m r z.1) (g : Apart m r z.1 → G) : G := g h

theorem Apart.foldl {m : Bool} {r : State} {α : Type} {f : State → α → State} (l : List α) {s : State} (h : Apart m r s)
    (g : ∀ u x, Apart m r u → Apart m r (f u x)) : Apart m r (l.foldl f s) := by
  induction l generalizing s with
  | nil => exact h
  | cons x l ih => exact ih (g s x h)

theorem Apart.foldl_fst {m : Bool} {r : State} {α β : Type} {f : State × β → α → State × β} (l : List α) {p : State × β}
    (h : Apart m r p.1) (g : ∀ u x, Apart m r u.1 → Apart m r (f u x).1) : Apart m r (l.foldl f p).1 := by
  induction l generalizing p with
  | nil => exact h
  | cons x l ih => exact ih (g p x h)

/-- A list of dies changed die by die has the same codes. -/
theorem codes_map {l : List SegDie} {f : SegDie → SegDie} (h : ∀ d, (f d).code = d.code) :
    (l.map f).map (·.code) = l.map (·.code) := by
  simp [Function.comp_def, h]

theorem codes_upd {l : List SegDie} {p : SegDie → Bool} {f : SegDie → SegDie} (h : ∀ d, (f d).code = d.code) :
    (upd l p f).map (·.code) = l.map (·.code) := by
  refine codes_map fun d => ?_
  split
  · exact h d
  · rfl

theorem Apart.onDie {m : Bool} {r s : State} (code : Nat) {f : SegDie → State} (h : ∀ d, Apart m r (f d)) :
    ApartO m r (onDie s code f) := by
  unfold Machine.onDie
  split
  · exact .next (h _)
  · exact .fault _

/-- A state written out over another one: the queue and the part are its own, the rest as the operation says. -/
theorem Apart.over {m : Bool} {r s : State}
    {pending : List Instr} {part : Variant} {now : Tick} {packTime : Nat} {free : Nat} {sent : List Sent} {port : Port} {mem : List Host.Cell} {mail : Mail} {stream : Stream} {sweep : Sweep} {slates : Slates} {cal : Cal} {sense : Sense} {balance : Balance} {imp : Imp} {ring : Ring} {chain : Chain} {radio : Radio} {mport : MPort} {metro : Metro} {stage : Stage} {safety : SafetyCfg} {faults : Collector} {wd : Watchdog} {sup : Supervision} {dailies : Dailies} {power : Power} {fw : Fw} {flash : Flash} {life : Life} {nv : Nv} {aon : Aon} {segs : List SegDie}
    (h : Apart m r s) (hp : pending = s.pending) (hq : part = s.part) (hm : Memory.wf s.mem = true → Memory.wf mem = true)
    (hc : segs.map (·.code) = s.segs.map (·.code)) (hs : servesP s.sup → servesP sup) (hx : m = true → metro = s.metro) :
    Apart m r (State.mk pending part now packTime free sent port mem mail stream sweep slates cal sense balance imp ring chain radio mport metro stage safety faults wd sup dailies power fw flash life nv aon segs) :=
  h.trans ⟨hp, hq, hm, hc, hs, hx⟩

theorem State.updDie_apart {m : Bool} {r s : State} (code : Nat) {f : SegDie → SegDie} (h : Apart m r s)
    (g : ∀ d, (f d).code = d.code) : Apart m r (s.updDie code f) :=
  .over h rfl rfl id (codes_upd g) id fun _ => rfl

end Sys2Proof.Machine
end

