-- ==== Sys2Proof/Laws/ApartFlags.lean ====
section
/-! SUPPORT. Each operation of Machine/Flags keeps `Apart`. -/
set_option Elab.async false
set_option linter.unusedTactic false
namespace Sys2Proof.Machine

theorem State.setIrq_apart {m : Bool} {r : State} (s : State) (m1 : BitVec 32) (h : Apart m r s) : Apart m r (State.setIrq s m1) := by
  unfold State.setIrq
  exact .over h rfl rfl id rfl id fun _ => rfl

theorem State.setHpErr_apart {m : Bool} {r : State} (s : State) (m1 : BitVec 32) (h : Apart m r s) : Apart m r (State.setHpErr s m1) := by
  unfold State.setHpErr
  exact .over h rfl rfl id rfl id fun _ => rfl

end Sys2Proof.Machine
end

