-- ==== Sys2Proof/Laws/ApartOps.lean ====
section
/-! SUPPORT. Each operation of Machine/Ops keeps `Apart`. -/
set_option Elab.async false
set_option linter.unusedTactic false
namespace Sys2Proof.Machine

theorem State.draw_apart {m : Bool} {r : State} (s : State) (h : Apart m r s) : Apart m r (State.draw s) := by
  unfold State.draw
  exact .over h rfl rfl id rfl id fun _ => rfl

end Sys2Proof.Machine
end

