-- ==== Sys2Proof/Laws/ApartStream.lean ====
section
/-! SUPPORT. Each operation of Machine/Stream keeps `Apart`. -/
set_option Elab.async false
set_option linter.unusedTactic false
namespace Sys2Proof.Machine

theorem streamWrite_apart {m : Bool} {r : State} (s : State) (type pkg : Nat) (payload : List Byte) (h : Apart m r s) :
    Apart m r (streamWrite s type pkg payload) := by
  unfold streamWrite
  repeat' first
      | with_reducible assumption
      | with_reducible exact id
      | (intro _; with_reducible rfl)
      | with_reducible exact winWrite_wf _ _ _
      | ((fail_if_success fail_if_success (conv => arg 3; arg 34)); with_reducible refine Apart.over ?_ rfl rfl ?_ ?_ ?_ ?_)
      | (extract_lets +onlyGivenNames z; clear_value z)
      | with_reducible apply State.setIrq_apart
      | with_reducible rfl

theorem streamDrop_apart {m : Bool} {r : State} (s : State) (pkg : Nat) (h : Apart m r s) : Apart m r (streamDrop s pkg) := by
  unfold streamDrop
  repeat' first
      | with_reducible assumption
      | with_reducible exact id
      | (intro _; with_reducible rfl)
      | ((fail_if_success fail_if_success (conv => arg 3; arg 34)); with_reducible refine Apart.over ?_ rfl rfl ?_ ?_ ?_ ?_)
      | (extract_lets +onlyGivenNames z; clear_value z)
      | with_reducible apply State.setIrq_apart
      | with_reducible rfl

theorem endRun_apart {m : Bool} {r : State} (s : State) (pkg : Nat) (h : Apart m r s) : Apart m r (endRun s pkg) := by
  unfold endRun
  exact .over h rfl rfl id rfl id fun _ => rfl

theorem streamPut_apart {m : Bool} {r : State} (s : State) (type pkg : Nat) (payload : List Byte) (h : Apart m r s) :
    Apart m r (streamPut s type pkg payload) := by
  unfold streamPut
  repeat' first
      | with_reducible assumption
      | ((fail_if_success fail_if_success (conv => arg 3; arg 3)); with_reducible apply Apart.ite)
      | with_reducible apply endRun_apart
      | with_reducible apply streamWrite_apart
      | with_reducible apply streamDrop_apart

end Sys2Proof.Machine
end

