-- ==== Sys2Proof/Laws/ApartEffects.lean ====
section
/-! SUPPORT. Each operation of Machine/Effects keeps `Apart`. -/
set_option Elab.async false
set_option linter.unusedTactic false
namespace Sys2Proof.Machine

theorem flashPush_apart {m : Bool} {r : State} (s : State) (j : FlashJob) (h : Apart m r s) : Apart m r (flashPush s j) := by
  unfold flashPush
  exact .over h rfl rfl id rfl id fun _ => rfl

theorem emit_apart {m : Bool} {r : State} (s : State) (medium kind dest : Nat) (data : List Byte) (h : Apart m r s) :
    Apart m r (emit s medium kind dest data) := by
  unfold emit
  exact .over h rfl rfl id rfl id fun _ => rfl

theorem sendSet_apart {m : Bool} {r : State} (s : State) (type : Nat) (body : List Byte) (h : Apart m r s) :
    Apart m r (sendSet s type body) := by
  unfold sendSet
  repeat' first
      | with_reducible assumption
      | with_reducible apply emit_apart

theorem useInject_apart {m : Bool} {r : State} (s : State) (target : Nat) (h : Apart m r s) : Apart m r (useInject s target) := by
  unfold useInject
  exact .over h rfl rfl id rfl id fun _ => rfl

theorem emitCopy_apart {m : Bool} {r : State} (s : State) (port type dest flags seq : Nat) (payload : List Byte) (h : Apart m r s) :
    Apart m r (emitCopy s port type dest flags seq payload) := by
  unfold emitCopy
  repeat' first
      | with_reducible assumption
      | with_reducible apply useInject_apart
      | with_reducible apply emit_apart

theorem linkFrame_apart {m : Bool} {r : State} (s : State) (type dest prio : Nat) (classB repeat_ : Bool) (seq : Nat) (payload : List Byte)
    (h : Apart m r s) : Apart m r (linkFrame s type dest prio classB repeat_ seq payload) := by
  unfold linkFrame
  repeat' first
      | with_reducible assumption
      | (extract_lets +onlyGivenNames z; clear_value z)
      | with_reducible apply emitCopy_apart

theorem stepFrameSeq_apart {m : Bool} {r : State} (s : State) (type : Nat) (h : Apart m r s) : Apart m r (stepFrameSeq s type) := by
  unfold stepFrameSeq
  exact .over h rfl rfl id rfl id fun _ => rfl

theorem sendFrameAs_apart {m : Bool} {r : State} (s : State) (type dest prio stream : Nat) (classB repeat_ : Bool) (payload : List Byte)
    (h : Apart m r s) : Apart m r (sendFrameAs s type dest prio stream classB repeat_ payload) := by
  unfold sendFrameAs
  repeat' first
      | with_reducible assumption
      | with_reducible exact id
      | (intro _; with_reducible rfl)
      | ((fail_if_success fail_if_success (conv => arg 3; arg 3)); with_reducible apply Apart.ite)
      | ((fail_if_success fail_if_success (conv => arg 3; arg 34)); with_reducible refine Apart.over ?_ rfl rfl ?_ ?_ ?_ ?_)
      | (extract_lets +onlyGivenNames z
         first
         | (refine Apart.cut (m := m) (r := r) (z := z) ?_ ?_; rotate_left; clear_value z; intro _; rotate_left; unfold z; clear z)
         | clear_value z)
      | with_reducible apply stepFrameSeq_apart
      | with_reducible apply linkFrame_apart
      | with_reducible rfl

theorem sendFrame_apart {m : Bool} {r : State} (s : State) (type dest prio : Nat) (classB repeat_ : Bool) (payload : List Byte)
    (h : Apart m r s) : Apart m r (sendFrame s type dest prio classB repeat_ payload) := by
  unfold sendFrame
  repeat' first
      | with_reducible assumption
      | with_reducible apply sendFrameAs_apart

theorem sendMail_apart {m : Bool} {r : State} (s : State) (type dest n op : Nat) (payload : List Byte) (h : Apart m r s) :
    Apart m r (sendMail s type dest n op payload) := by
  unfold sendMail
  repeat' first
      | with_reducible assumption
      | with_reducible apply sendFrameAs_apart

theorem toHeads_apart {m : Bool} {r : State} (s : State) (type : Nat) (payload : List Byte) (h : Apart m r s) :
    Apart m r (toHeads s type payload) := by
  unfold toHeads
  repeat' first
      | with_reducible assumption
      | ((fail_if_success fail_if_success (conv => arg 3; arg 3)); with_reducible apply Apart.ite)
      | with_reducible apply sendFrame_apart

theorem sendRecord_apart {m : Bool} {r : State} (s : State) (type : Nat) (payload : List Byte) (h : Apart m r s) :
    Apart m r (sendRecord s type payload) := by
  unfold sendRecord
  repeat' first
      | with_reducible assumption
      | ((fail_if_success fail_if_success (conv => arg 3; arg 3)); with_reducible apply Apart.ite)
      | with_reducible apply sendFrame_apart

theorem State.updDolly_apart {m : Bool} {r : State} (s : State) (die j : Nat) (f : Dolly → Dolly) (h : Apart m r s) :
    Apart m r (State.updDolly s die j f) := by
  unfold State.updDolly
  repeat' first
      | with_reducible assumption
      | (intro _; with_reducible rfl)
      | with_reducible apply State.updDie_apart

theorem noteBad_apart {m : Bool} {r : State} (s : State) (from_ to_ mask : Nat) (h : Apart m r s) :
    Apart m r (noteBad s from_ to_ mask) := by
  unfold noteBad
  repeat' first
      | with_reducible assumption
      | with_reducible exact id
      | (intro _; with_reducible rfl)
      | ((fail_if_success fail_if_success (conv => arg 3; arg 3)); with_reducible apply Apart.ite)
      | ((fail_if_success fail_if_success (conv => arg 3; arg 34)); with_reducible refine Apart.over ?_ rfl rfl ?_ ?_ ?_ ?_)
      | with_reducible rfl

theorem dollyChanged_apart {m : Bool} {r : State} (s : State) (die : Nat) (h : Apart m r s) : Apart m r (dollyChanged s die) := by
  unfold dollyChanged
  repeat' first
      | with_reducible assumption
      | with_reducible apply noteBad_apart

theorem stopDolly_apart {m : Bool} {r : State} (s : State) (die j endc : Nat) (q : Int) (loss : Nat) (h : Apart m r s) :
    Apart m r (stopDolly s die j endc q loss) := by
  unfold stopDolly
  repeat' first
      | with_reducible assumption
      | with_reducible exact id
      | (intro _; with_reducible rfl)
      | ((fail_if_success fail_if_success (conv => arg 3; arg 3)); with_reducible apply Apart.ite)
      | ((fail_if_success fail_if_success (conv => arg 3; arg 34)); with_reducible refine Apart.over ?_ rfl rfl ?_ ?_ ?_ ?_)
      | (extract_lets +onlyGivenNames z
         first
         | (refine Apart.cut (m := m) (r := r) (z := z) ?_ ?_; rotate_left; clear_value z; intro _; rotate_left; unfold z; clear z)
         | clear_value z)
      | with_reducible apply State.updDolly_apart
      | with_reducible apply dollyChanged_apart
      | with_reducible apply sendRecord_apart
      | with_reducible apply streamPut_apart
      | with_reducible apply State.updDie_apart
      | with_reducible rfl
      | split

theorem stopFree_apart {m : Bool} {r : State} (s : State) (die j endc : Nat) (h : Apart m r s) : Apart m r (stopFree s die j endc) := by
  unfold stopFree
  repeat' first
      | with_reducible assumption
      | with_reducible apply State.draw_apart
      | with_reducible apply stopDolly_apart
      | split

theorem stopDie_apart {m : Bool} {r : State} (s : State) (die endc : Nat) (h : Apart m r s) : Apart m r (stopDie s die endc) := by
  unfold stopDie
  repeat' first
      | with_reducible assumption
      | intro _
      | with_reducible apply stopFree_apart
      | with_reducible apply Apart.foldl

theorem stopAllDollies_apart {m : Bool} {r : State} (s : State) (endc : Nat) (h : Apart m r s) : Apart m r (stopAllDollies s endc) := by
  unfold stopAllDollies
  repeat' first
      | with_reducible assumption
      | intro _
      | with_reducible apply stopDie_apart
      | with_reducible apply Apart.foldl

theorem withdrawDolly_apart {m : Bool} {r : State} (s : State) (die j kind : Nat) (h : Apart m r s) :
    Apart m r (withdrawDolly s die j kind) := by
  unfold withdrawDolly
  repeat' first
      | with_reducible assumption
      | with_reducible apply stopFree_apart
      | with_reducible apply State.updDolly_apart

theorem substitute_apart {m : Bool} {r : State} (s : State) (die kind : Nat) (h : Apart m r s) : Apart m r (substitute s die kind) := by
  unfold substitute
  repeat' first
      | with_reducible assumption
      | (intro _; with_reducible rfl)
      | with_reducible apply State.updDie_apart

theorem refSubstitute_apart {m : Bool} {r : State} (s : State) (die ref kind : Nat) (h : Apart m r s) :
    Apart m r (refSubstitute s die ref kind) := by
  unfold refSubstitute
  repeat' first
      | with_reducible assumption
      | (intro _; with_reducible rfl)
      | ((fail_if_success fail_if_success (conv => arg 3; arg 3)); with_reducible apply Apart.ite)
      | with_reducible apply substitute_apart
      | with_reducible apply State.updDie_apart

theorem withdrawMetro_apart {m : Bool} {r : State} (s : State) (kind : Nat) (h : Apart m r s) : Apart m r (withdrawMetro s kind) := by
  unfold withdrawMetro
  exact .over h rfl rfl id rfl id fun _ => rfl

theorem withdraw_apart {m : Bool} {r : State} (s : State) (kind die detail : Nat) (h : Apart m r s) :
    Apart m r (withdraw s kind die detail) := by
  unfold withdraw
  repeat' first
      | with_reducible assumption
      | with_reducible exact id
      | (intro _; with_reducible rfl)
      | intro _
      | ((fail_if_success fail_if_success (conv => arg 3; arg 34)); with_reducible refine Apart.over ?_ rfl rfl ?_ ?_ ?_ ?_)
      | (extract_lets +onlyGivenNames z; clear_value z)
      | with_reducible apply refSubstitute_apart
      | with_reducible apply substitute_apart
      | with_reducible apply withdrawDolly_apart
      | with_reducible apply withdrawMetro_apart
      | with_reducible apply State.updDie_apart
      | with_reducible apply Apart.foldl
      | with_reducible rfl
      | split

theorem alarmSend_apart {m : Bool} {r : State} (s : State) (msg : BitVec 32) (h : Apart m r s) : Apart m r (alarmSend s msg) := by
  unfold alarmSend
  repeat' first
      | with_reducible assumption
      | with_reducible exact id
      | (intro _; with_reducible rfl)
      | ((fail_if_success fail_if_success (conv => arg 3; arg 3)); with_reducible apply Apart.ite)
      | ((fail_if_success fail_if_success (conv => arg 3; arg 34)); with_reducible refine Apart.over ?_ rfl rfl ?_ ?_ ?_ ?_)
      | (extract_lets +onlyGivenNames z
         first
         | (refine Apart.cut (m := m) (r := r) (z := z) ?_ ?_; rotate_left; clear_value z; intro _; rotate_left; unfold z; clear z)
         | clear_value z)
      | with_reducible apply sendSet_apart
      | with_reducible apply State.draw_apart
      | with_reducible apply streamPut_apart
      | with_reducible rfl

theorem fatalStop_apart {m : Bool} {r : State} (s : State) (h : Apart m r s) : Apart m r (fatalStop s) := by
  unfold fatalStop
  repeat' first
      | with_reducible assumption
      | with_reducible exact id
      | exact fun _ _ => rfl
      | (intro _; with_reducible rfl)
      | ((fail_if_success fail_if_success (conv => arg 3; arg 34)); with_reducible refine Apart.over ?_ rfl rfl ?_ ?_ ?_ ?_)
      | (extract_lets +onlyGivenNames z; refine Apart.cut (m := m) (r := r) (z := z) ?_ ?_; rotate_left; clear_value z; intro _; rotate_left; unfold z; clear z)
      | with_reducible apply stopAllDollies_apart
      | with_reducible rfl

theorem releaseDolly_apart {m : Bool} {r : State} (s : State) (die j kind : Nat) (h : Apart m r s) :
    Apart m r (releaseDolly s die j kind) := by
  unfold releaseDolly
  repeat' first
      | with_reducible assumption
      | intro _
      | ((fail_if_success fail_if_success (conv => arg 3; arg 3)); with_reducible apply Apart.ite)
      | with_reducible apply State.updDolly_apart
      | with_reducible apply Apart.foldl

theorem clearComp_apart {m : Bool} {r : State} (s : State) (die cell : Nat) (under : Bool) (h : Apart m r s) :
    Apart m r (clearComp s die cell under) := by
  unfold clearComp
  repeat' first
      | with_reducible assumption
      | with_reducible exact id
      | (intro _; with_reducible rfl)
      | ((fail_if_success fail_if_success (conv => arg 3; arg 34)); with_reducible refine Apart.over ?_ rfl rfl ?_ ?_ ?_ ?_)
      | (extract_lets +onlyGivenNames z; refine Apart.cut (m := m) (r := r) (z := z) ?_ ?_; rotate_left; clear_value z; intro _; rotate_left; unfold z; clear z)
      | with_reducible apply State.updDie_apart
      | with_reducible rfl

theorem releaseCause_apart {m : Bool} {r : State} (s : State) (die : Nat) (c : Cause) (h : Apart m r s) :
    Apart m r (releaseCause s die c) := by
  unfold releaseCause
  repeat' first
      | with_reducible assumption
      | with_reducible exact id
      | (intro _; with_reducible rfl)
      | intro _
      | ((fail_if_success fail_if_success (conv => arg 3; arg 3)); with_reducible apply Apart.ite)
      | ((fail_if_success fail_if_success (conv => arg 3; arg 34)); with_reducible refine Apart.over ?_ rfl rfl ?_ ?_ ?_ ?_)
      | (extract_lets +onlyGivenNames z
         first
         | (refine Apart.cut (m := m) (r := r) (z := z) ?_ ?_; rotate_left; clear_value z; intro _; rotate_left; unfold z; clear z)
         | clear_value z)
      | with_reducible apply releaseDolly_apart
      | with_reducible apply clearComp_apart
      | with_reducible apply State.updDie_apart
      | with_reducible apply Apart.foldl
      | with_reducible rfl
      | split

theorem afterClear_apart {m : Bool} {r : State} (s : State) (r1 : FRec) (h : Apart m r s) : Apart m r (afterClear s r1) := by
  unfold afterClear
  repeat' first
      | with_reducible assumption
      | intro _
      | (extract_lets +onlyGivenNames z; clear_value z)
      | with_reducible apply releaseCause_apart
      | with_reducible apply Apart.foldl

theorem wakeStudio_apart {m : Bool} {r : State} (s : State) (h : Apart m r s) : Apart m r (wakeStudio s) := by
  unfold wakeStudio
  repeat' first
      | with_reducible assumption
      | with_reducible exact id
      | (intro _; with_reducible rfl)
      | (refine @id (servesP _ → servesP _) ?_; exact id)
      | ((fail_if_success fail_if_success (conv => arg 3; arg 3)); with_reducible apply Apart.ite)
      | ((fail_if_success fail_if_success (conv => arg 3; arg 34)); with_reducible refine Apart.over ?_ rfl rfl ?_ ?_ ?_ ?_)
      | with_reducible rfl

theorem urgDropped_apart {m : Bool} {r : State} (s : State) (h : Apart m r s) : Apart m r (urgDropped s) := by
  unfold urgDropped
  repeat' first
      | with_reducible assumption
      | with_reducible exact id
      | (intro _; with_reducible rfl)
      | ((fail_if_success fail_if_success (conv => arg 3; arg 34)); with_reducible refine Apart.over ?_ rfl rfl ?_ ?_ ?_ ?_)
      | (extract_lets +onlyGivenNames z; clear_value z)
      | with_reducible apply State.setIrq_apart
      | with_reducible rfl

end Sys2Proof.Machine
end

