-- ==== Sys2Proof/Laws/ApartSafety0.lean ====
section
/-! SUPPORT. Each operation of Machine/Safety0 keeps `Apart`. -/
set_option Elab.async false
set_option linter.unusedTactic false
namespace Sys2Proof.Machine

theorem openOutputs_apart {m : Bool} {r : State} (s : State) (mask : Nat) (h : Apart m r s) : Apart m r (openOutputs s mask) := by
  unfold openOutputs
  exact .over h rfl rfl id rfl id fun _ => rfl

theorem closeOutputs_apart {m : Bool} {r : State} (s : State) (mask : Nat) (h : Apart m r s) : Apart m r (closeOutputs s mask) := by
  unfold closeOutputs
  exact .over h rfl rfl id rfl id fun _ => rfl

theorem updInput_apart {m : Bool} {r : State} (s : State) (n : Nat) (f : SInput → SInput) (h : Apart m r s) :
    Apart m r (updInput s n f) := by
  unfold updInput
  exact .over h rfl rfl id rfl id fun _ => rfl

end Sys2Proof.Machine
end

