-- ==== Sys2Proof/Laws/ApartCollector.lean ====
section
/-! SUPPORT. Each operation of Machine/Collector keeps `Apart`. -/
set_option Elab.async false
set_option linter.unusedTactic false
namespace Sys2Proof.Machine

theorem dailiesPut_apart {m : Bool} {r : State} (s : State) (e : DEntry) (strong : Bool) (h : Apart m r s) :
    Apart m r (dailiesPut s e strong) := by
  unfold dailiesPut
  repeat' first
      | with_reducible assumption
      | with_reducible exact id
      | (intro _; with_reducible rfl)
      | ((fail_if_success fail_if_success (conv => arg 3; arg 3)); with_reducible apply Apart.ite)
      | ((fail_if_success fail_if_success (conv => arg 3; arg 34)); with_reducible refine Apart.over ?_ rfl rfl ?_ ?_ ?_ ?_)
      | (extract_lets +onlyGivenNames z; clear_value z)
      | with_reducible apply flashPush_apart
      | with_reducible rfl

theorem dailiesStore_apart {m : Bool} {r : State} (s : State) (e : DEntry) (h : Apart m r s) : Apart m r (dailiesStore s e) := by
  unfold dailiesStore
  exact .over h rfl rfl id rfl id fun _ => rfl

theorem keepDailies_apart {m : Bool} {r : State} (s : State) (n : Nat) (h : Apart m r s) : Apart m r (keepDailies s n) := by
  unfold keepDailies
  repeat' first
      | with_reducible assumption
      | with_reducible exact id
      | (intro _; with_reducible rfl)
      | intro _
      | ((fail_if_success fail_if_success (conv => arg 3; arg 34)); with_reducible refine Apart.over ?_ rfl rfl ?_ ?_ ?_ ?_)
      | (extract_lets +onlyGivenNames z; clear_value z)
      | with_reducible apply dailiesStore_apart
      | with_reducible apply Apart.foldl
      | with_reducible rfl
      | split

theorem dailiesRecord_apart {m : Bool} {r : State} (s : State) (r1 : FRec) (dtype : Nat) (h : Apart m r s) :
    Apart m r (dailiesRecord s r1 dtype) := by
  unfold dailiesRecord
  repeat' first
      | with_reducible assumption
      | with_reducible apply dailiesPut_apart

theorem faultRecordOut_apart {m : Bool} {r : State} (s : State) (r1 : FRec) (event cls : Nat) (h : Apart m r s) :
    Apart m r (faultRecordOut s r1 event cls) := by
  unfold faultRecordOut
  repeat' first
      | with_reducible assumption
      | (extract_lets +onlyGivenNames z; clear_value z)
      | with_reducible apply toHeads_apart
      | with_reducible apply streamPut_apart

theorem reaction_apart {m : Bool} {r : State} (s : State) (cls : Nat) (msg : BitVec 32) (h : Apart m r s) :
    Apart m r (reaction s cls msg) := by
  unfold reaction
  repeat' first
      | with_reducible assumption
      | ((fail_if_success fail_if_success (conv => arg 3; arg 3)); with_reducible apply Apart.ite)
      | (extract_lets +onlyGivenNames z; refine Apart.cut (m := m) (r := r) (z := z) ?_ ?_; rotate_left; clear_value z; intro _; rotate_left; unfold z; clear z)
      | with_reducible apply State.setIrq_apart
      | with_reducible apply withdraw_apart
      | with_reducible apply alarmSend_apart
      | with_reducible apply openOutputs_apart
      | with_reducible apply fatalStop_apart

theorem keepFatal_apart {m : Bool} {r : State} (s : State) (r1 : FRec) (h : Apart m r s) : Apart m r (keepFatal s r1) := by
  unfold keepFatal
  repeat' first
      | with_reducible assumption
      | with_reducible exact id
      | (intro _; with_reducible rfl)
      | ((fail_if_success fail_if_success (conv => arg 3; arg 3)); with_reducible apply Apart.ite)
      | ((fail_if_success fail_if_success (conv => arg 3; arg 34)); with_reducible refine Apart.over ?_ rfl rfl ?_ ?_ ?_ ?_)
      | with_reducible rfl

theorem openRec_apart {m : Bool} {r : State} (s : State) (r1 : FRec) (h : Apart m r s) : Apart m r (openRec s r1) := by
  unfold openRec
  repeat' first
      | with_reducible assumption
      | with_reducible exact id
      | (intro _; with_reducible rfl)
      | ((fail_if_success fail_if_success (conv => arg 3; arg 3)); with_reducible apply Apart.ite)
      | ((fail_if_success fail_if_success (conv => arg 3; arg 34)); with_reducible refine Apart.over ?_ rfl rfl ?_ ?_ ?_ ?_)
      | (extract_lets +onlyGivenNames z
         first
         | (refine Apart.cut (m := m) (r := r) (z := z) ?_ ?_; rotate_left; clear_value z; intro _; rotate_left; unfold z; clear z)
         | clear_value z)
      | with_reducible apply faultRecordOut_apart
      | with_reducible apply keepFatal_apart
      | with_reducible apply dailiesRecord_apart
      | with_reducible rfl

theorem mergeInto_apart {m : Bool} {r : State} (s : State) (r1 r' : FRec) (h : Apart m r s) : Apart m r (mergeInto s r1 r') := by
  unfold mergeInto
  repeat' first
      | with_reducible assumption
      | with_reducible exact id
      | (intro _; with_reducible rfl)
      | ((fail_if_success fail_if_success (conv => arg 3; arg 3)); with_reducible apply Apart.ite)
      | ((fail_if_success fail_if_success (conv => arg 3; arg 34)); with_reducible refine Apart.over ?_ rfl rfl ?_ ?_ ?_ ?_)
      | (extract_lets +onlyGivenNames z
         first
         | (refine Apart.cut (m := m) (r := r) (z := z) ?_ ?_; rotate_left; clear_value z; intro _; rotate_left; unfold z; clear z)
         | clear_value z)
      | with_reducible apply dailiesRecord_apart
      | with_reducible apply faultRecordOut_apart
      | with_reducible apply keepFatal_apart
      | with_reducible rfl

theorem releaseWaiting_apart {m : Bool} {r : State} (s : State) (r1 r' : FRec) (h : Apart m r s) : Apart m r (releaseWaiting s r1 r') := by
  unfold releaseWaiting
  repeat' first
      | with_reducible assumption
      | intro _
      | ((fail_if_success fail_if_success (conv => arg 3; arg 3)); with_reducible apply Apart.ite)
      | with_reducible apply withdraw_apart
      | with_reducible apply Apart.foldl

theorem suppressedIrq_apart {m : Bool} {r : State} (s : State) (h : Apart m r s) : Apart m r (suppressedIrq s) := by
  unfold suppressedIrq
  repeat' first
      | with_reducible assumption
      | with_reducible apply State.setIrq_apart

theorem collectNew_apart {m : Bool} {r : State} (s : State) (msg : BitVec 32) (k : MsgKind) (h : Apart m r s) :
    Apart m r (collectNew s msg k) := by
  unfold collectNew
  repeat' first
      | with_reducible assumption
      | ((fail_if_success fail_if_success (conv => arg 3; arg 3)); with_reducible apply Apart.ite)
      | (extract_lets +onlyGivenNames z
         first
         | (refine Apart.cut (m := m) (r := r) (z := z) ?_ ?_; rotate_left; clear_value z; intro _; rotate_left; unfold z; clear z)
         | clear_value z)
      | with_reducible apply openRec_apart
      | with_reducible apply suppressedIrq_apart
      | with_reducible apply reaction_apart

theorem collectMerge_apart {m : Bool} {r : State} (s : State) (r1 : FRec) (msg : BitVec 32) (k : MsgKind) (h : Apart m r s) :
    Apart m r (collectMerge s r1 msg k) := by
  unfold collectMerge
  repeat' first
      | with_reducible assumption
      | ((fail_if_success fail_if_success (conv => arg 3; arg 3)); with_reducible apply Apart.ite)
      | (extract_lets +onlyGivenNames z
         first
         | (refine Apart.cut (m := m) (r := r) (z := z) ?_ ?_; rotate_left; clear_value z; intro _; rotate_left; unfold z; clear z)
         | clear_value z)
      | with_reducible apply releaseWaiting_apart
      | with_reducible apply mergeInto_apart
      | with_reducible apply suppressedIrq_apart
      | with_reducible apply reaction_apart
      | with_reducible apply withdraw_apart

theorem collectOverflow_apart {m : Bool} {r : State} (s : State) (msg : BitVec 32) (k : MsgKind) (h : Apart m r s) :
    Apart m r (collectOverflow s msg k) := by
  unfold collectOverflow
  repeat' first
      | with_reducible assumption
      | ((fail_if_success fail_if_success (conv => arg 3; arg 3)); with_reducible apply Apart.ite)
      | (extract_lets +onlyGivenNames z
         first
         | (refine Apart.cut (m := m) (r := r) (z := z) ?_ ?_; rotate_left; clear_value z; intro _; rotate_left; unfold z; clear z)
         | clear_value z)
      | with_reducible apply suppressedIrq_apart
      | with_reducible apply reaction_apart
      | with_reducible apply collectMerge_apart
      | with_reducible apply collectNew_apart
      | split

theorem collect_apart {m : Bool} {r : State} (s : State) (msg : BitVec 32) (k : MsgKind) (h : Apart m r s) :
    Apart m r (collect s msg k) := by
  unfold collect
  repeat' first
      | with_reducible assumption
      | ((fail_if_success fail_if_success (conv => arg 3; arg 3)); with_reducible apply Apart.ite)
      | with_reducible apply collectMerge_apart
      | with_reducible apply collectNew_apart
      | with_reducible apply collectOverflow_apart
      | split

theorem raiseDrop_apart {m : Bool} {r : State} (s : State) (pkg : Nat) (h : Apart m r s) : Apart m r (raiseDrop s pkg) := by
  unfold raiseDrop
  repeat' first
      | with_reducible assumption
      | with_reducible apply collect_apart

theorem settle_apart {m : Bool} {r : State} (s : State) (h : Apart m r s) : Apart m r (settle s) := by
  unfold settle
  repeat' first
      | with_reducible assumption
      | with_reducible exact id
      | (intro _; with_reducible rfl)
      | intro _
      | ((fail_if_success fail_if_success (conv => arg 3; arg 34)); with_reducible refine Apart.over ?_ rfl rfl ?_ ?_ ?_ ?_)
      | (extract_lets +onlyGivenNames z; clear_value z)
      | with_reducible apply raiseDrop_apart
      | with_reducible apply Apart.foldl
      | with_reducible rfl

theorem raise_apart {m : Bool} {r : State} (s : State) (die block kind detail : Nat) (h : Apart m r s) :
    Apart m r (raise s die block kind detail) := by
  unfold raise
  repeat' first
      | with_reducible assumption
      | with_reducible apply settle_apart
      | with_reducible apply collect_apart

theorem collectCarried_apart {m : Bool} {r : State} (s : State) (r1 : FRec) (h : Apart m r s) : Apart m r (collectCarried s r1) := by
  unfold collectCarried
  repeat' first
      | with_reducible assumption
      | with_reducible exact id
      | (intro _; with_reducible rfl)
      | ((fail_if_success fail_if_success (conv => arg 3; arg 3)); with_reducible apply Apart.ite)
      | ((fail_if_success fail_if_success (conv => arg 3; arg 34)); with_reducible refine Apart.over ?_ rfl rfl ?_ ?_ ?_ ?_)
      | (extract_lets +onlyGivenNames z
         first
         | (refine Apart.cut (m := m) (r := r) (z := z) ?_ ?_; rotate_left; clear_value z; intro _; rotate_left; unfold z; clear z)
         | clear_value z
         | (unfold z; clear z))
      | with_reducible apply mergeInto_apart
      | with_reducible apply State.setIrq_apart
      | with_reducible apply dailiesRecord_apart
      | with_reducible apply faultRecordOut_apart
      | with_reducible rfl
      | split

theorem closeRec_apart {m : Bool} {r : State} (s : State) (r1 : FRec) (h : Apart m r s) : Apart m r (closeRec s r1) := by
  unfold closeRec
  repeat' first
      | with_reducible assumption
      | with_reducible exact id
      | (intro _; with_reducible rfl)
      | ((fail_if_success fail_if_success (conv => arg 3; arg 3)); with_reducible apply Apart.ite)
      | ((fail_if_success fail_if_success (conv => arg 3; arg 34)); with_reducible refine Apart.over ?_ rfl rfl ?_ ?_ ?_ ?_)
      | (extract_lets +onlyGivenNames z
         first
         | (refine Apart.cut (m := m) (r := r) (z := z) ?_ ?_; rotate_left; clear_value z; intro _; rotate_left; unfold z; clear z)
         | clear_value z)
      | with_reducible apply faultRecordOut_apart
      | with_reducible apply afterClear_apart
      | with_reducible apply dailiesRecord_apart
      | with_reducible rfl

theorem endFree_apart {m : Bool} {r : State} (s : State) (die j endc : Nat) (h : Apart m r s) : Apart m r (endFree s die j endc) := by
  unfold endFree
  repeat' first
      | with_reducible assumption
      | with_reducible apply settle_apart
      | with_reducible apply stopFree_apart

theorem endMeasured_apart {m : Bool} {r : State} (s : State) (die j endc : Nat) (q : Int) (loss : Nat) (h : Apart m r s) :
    Apart m r (endMeasured s die j endc q loss) := by
  unfold endMeasured
  repeat' first
      | with_reducible assumption
      | with_reducible apply settle_apart
      | with_reducible apply stopDolly_apart

theorem endDie_apart {m : Bool} {r : State} (s : State) (die endc : Nat) (h : Apart m r s) : Apart m r (endDie s die endc) := by
  unfold endDie
  repeat' first
      | with_reducible assumption
      | with_reducible apply settle_apart
      | with_reducible apply stopDie_apart

theorem endAll_apart {m : Bool} {r : State} (s : State) (endc : Nat) (h : Apart m r s) : Apart m r (endAll s endc) := by
  unfold endAll
  repeat' first
      | with_reducible assumption
      | with_reducible apply settle_apart
      | with_reducible apply stopAllDollies_apart

theorem streamRec_apart {m : Bool} {r : State} (s : State) (type pkg : Nat) (payload : List Byte) (h : Apart m r s) :
    Apart m r (streamRec s type pkg payload) := by
  unfold streamRec
  repeat' first
      | with_reducible assumption
      | with_reducible apply settle_apart
      | with_reducible apply streamPut_apart

end Sys2Proof.Machine
end

