-- ==== Sys2Proof/Laws/ApartMailbox.lean ====
section
/-! SUPPORT. Each operation of Machine/Mailbox keeps `Apart`. -/
set_option Elab.async false
set_option linter.unusedTactic false
namespace Sys2Proof.Machine

theorem reply_apart {m : Bool} {r : State} (s : State) (h1 : Hdr) (op status : Nat) (result : List Byte) (h : Apart m r s) :
    Apart m r (reply s h1 op status result) := by
  unfold reply
  exact .over h rfl rfl id rfl id fun _ => rfl

theorem refuse_apart {m : Bool} {r : State} (s : State) (h1 : Hdr) (op status : Nat) (h : Apart m r s) :
    Apart m r (refuse s h1 op status) := by
  unfold refuse
  repeat' first
      | with_reducible assumption
      | ((fail_if_success fail_if_success (conv => arg 3; arg 3)); with_reducible apply Apart.ite)
      | with_reducible apply raise_apart
      | with_reducible apply reply_apart

theorem startOp_apart {m : Bool} {r : State} (s : State) (h1 : Hdr) (op : Nat) (body : State → State) (h : Apart m r s)
    (g3 : ∀ u0, Apart m r u0 → Apart m r (body u0)) : Apart m r (startOp s h1 op body) := by
  unfold startOp
  repeat' first
      | with_reducible assumption
      | with_reducible exact id
      | (intro _; with_reducible rfl)
      | ((fail_if_success fail_if_success (conv => arg 3; arg 3)); with_reducible apply Apart.ite)
      | ((fail_if_success fail_if_success (conv => arg 3; arg 34)); with_reducible refine Apart.over ?_ rfl rfl ?_ ?_ ?_ ?_)
      | (extract_lets +onlyGivenNames z; clear_value z)
      | with_reducible apply g3
      | with_reducible apply refuse_apart
      | with_reducible apply reply_apart
      | with_reducible rfl

theorem dropOp_apart {m : Bool} {r : State} (s : State) (h1 : Hdr) (h : Apart m r s) : Apart m r (dropOp s h1) := by
  unfold dropOp
  exact .over h rfl rfl id rfl id fun _ => rfl

theorem completeOp_apart {m : Bool} {r : State} (s : State) (h1 : Hdr) (status : Nat) (result : List Byte) (h : Apart m r s) :
    Apart m r (completeOp s h1 status result) := by
  unfold completeOp
  repeat' first
      | with_reducible assumption
      | (extract_lets +onlyGivenNames z; clear_value z)
      | with_reducible apply reply_apart
      | with_reducible apply dropOp_apart
      | split

theorem completeOpFlash_apart {m : Bool} {r : State} (s : State) (h1 : Hdr) (result : List Byte) (h : Apart m r s) :
    Apart m r (completeOpFlash s h1 result) := by
  unfold completeOpFlash
  repeat' first
      | with_reducible assumption
      | with_reducible apply reply_apart
      | with_reducible apply dropOp_apart
      | split

theorem dequeue_apart {m : Bool} {r : State} (s : State) (h1 : Hdr) (op : Nat) (h : Apart m r s) : Apart m r (dequeue s h1 op) := by
  unfold dequeue
  exact .over h rfl rfl id rfl id fun _ => rfl

theorem runCmd_apart {m : Bool} {r : State} (s : State) (h1 : Hdr) (op : Nat) (body : State → State) (h : Apart m r s)
    (g3 : ∀ u0, Apart m r u0 → Apart m r (body u0)) : Apart m r (runCmd s h1 op body) := by
  unfold runCmd
  repeat' first
      | with_reducible assumption
      | ((fail_if_success fail_if_success (conv => arg 3; arg 3)); with_reducible apply Apart.ite)
      | (extract_lets +onlyGivenNames z; refine Apart.cut (m := m) (r := r) (z := z) ?_ ?_; rotate_left; clear_value z; intro _; rotate_left; unfold z; clear z)
      | with_reducible apply g3
      | with_reducible apply dequeue_apart
      | with_reducible apply refuse_apart
      | split

theorem useProof_apart {m : Bool} {r : State} (s : State) (h1 : Hdr) (p : Proof) (h : Apart m r s) : Apart m r (useProof s h1 p) := by
  unfold useProof
  exact .over h rfl rfl id rfl id fun _ => rfl

theorem withProof_apart {m : Bool} {r : State} (s : State) (h1 : Hdr) (op : Nat) (pre : List Byte) (p : Proof) (body : State → State)
    (h : Apart m r s) (g5 : ∀ u0, Apart m r u0 → Apart m r (body u0)) : Apart m r (withProof s h1 op pre p body) := by
  unfold withProof
  repeat' first
      | with_reducible assumption
      | ((fail_if_success fail_if_success (conv => arg 3; arg 3)); with_reducible apply Apart.ite)
      | with_reducible apply g5
      | with_reducible apply useProof_apart
      | with_reducible apply refuse_apart

theorem queueSwitch_apart {m : Bool} {r : State} (s : State) (h1 : Hdr) (op func : Nat) (x : Setting) (h : Apart m r s) :
    Apart m r (queueSwitch s h1 op func x) := by
  unfold queueSwitch
  repeat' first
      | with_reducible assumption
      | with_reducible exact id
      | (intro _; with_reducible rfl)
      | intro _
      | ((fail_if_success fail_if_success (conv => arg 3; arg 34)); with_reducible refine Apart.over ?_ rfl rfl ?_ ?_ ?_ ?_)
      | (extract_lets +onlyGivenNames z
         first
         | (refine Apart.cut (m := m) (r := r) (z := z) ?_ ?_; rotate_left; clear_value z; intro _; rotate_left; unfold z; clear z)
         | clear_value z)
      | with_reducible apply startOp_apart
      | with_reducible apply completeOp_apart
      | with_reducible apply Apart.foldl
      | with_reducible rfl

end Sys2Proof.Machine
end

