-- ==== Sys2Proof/Laws/ApartModes.lean ====
section
/-! SUPPORT. Each operation of Machine/Modes keeps `Apart`. -/
set_option Elab.async false
set_option linter.unusedTactic false
namespace Sys2Proof.Machine

/-- The bound of a reference's first use keeps the die's code. -/
theorem firstUse_code (now : Tick) (d : SegDie) (l : List SeqEntry) : (firstUse now d l).code = d.code := by
  unfold firstUse
  split <;> rfl

theorem restartFilters_apart {m : Bool} {r : State} (s : State) (h : Apart m r s) : Apart m r (restartFilters s) := by
  unfold restartFilters
  repeat' first
      | with_reducible assumption
      | with_reducible exact id
      | (intro _; with_reducible rfl)
      | ((fail_if_success fail_if_success (conv => arg 3; arg 34)); with_reducible refine Apart.over ?_ rfl rfl ?_ ?_ ?_ ?_)
      | with_reducible apply codes_map

theorem restartDie_apart {m : Bool} {r : State} (s : State) (die : Nat) (h : Apart m r s) : Apart m r (restartDie s die) := by
  unfold restartDie
  repeat' first
      | with_reducible assumption
      | (intro _; with_reducible rfl)
      | with_reducible apply State.updDie_apart

theorem stopWhere_apart {m : Bool} {r : State} (s : State) (p : DollyTransfer → Bool) (endc : Nat) (h : Apart m r s) :
    Apart m r (stopWhere s p endc) := by
  unfold stopWhere
  repeat' first
      | with_reducible assumption
      | intro _
      | ((fail_if_success fail_if_success (conv => arg 3; arg 3)); with_reducible apply Apart.ite)
      | with_reducible apply endFree_apart
      | with_reducible apply Apart.foldl

theorem endSession_apart {m : Bool} {r : State} (s : State) (endc : Nat) (h : Apart m r s) : Apart m r (endSession s endc) := by
  unfold endSession
  repeat' first
      | with_reducible assumption
      | with_reducible exact id
      | (intro _; with_reducible rfl)
      | ((fail_if_success fail_if_success (conv => arg 3; arg 3)); with_reducible apply Apart.ite)
      | ((fail_if_success fail_if_success (conv => arg 3; arg 34)); with_reducible refine Apart.over ?_ rfl rfl ?_ ?_ ?_ ?_)
      | (extract_lets +onlyGivenNames z
         first
         | (refine Apart.cut (m := m) (r := r) (z := z) ?_ ?_; rotate_left; clear_value z; intro _; rotate_left; unfold z; clear z)
         | clear_value z)
      | with_reducible apply stopWhere_apart
      | with_reducible apply raise_apart
      | with_reducible apply reply_apart
      | with_reducible apply dropOp_apart
      | with_reducible rfl
      | split

theorem discardPlans_apart {m : Bool} {r : State} (s : State) (h : Apart m r s) : Apart m r (discardPlans s) := by
  unfold discardPlans
  exact .over h rfl rfl id rfl id fun _ => rfl

theorem stopPlanner_apart {m : Bool} {r : State} (s : State) (h : Apart m r s) : Apart m r (stopPlanner s) := by
  unfold stopPlanner
  exact .over h rfl rfl id rfl id fun _ => rfl

theorem cancelArmed_apart {m : Bool} {r : State} (s : State) (h1 : Hdr) (h : Apart m r s) : Apart m r (cancelArmed s h1) := by
  unfold cancelArmed
  repeat' first
      | with_reducible assumption
      | ((fail_if_success fail_if_success (conv => arg 3; arg 3)); with_reducible apply Apart.ite)
      | with_reducible apply sendFrame_apart
      | split

theorem cancelWork_apart {m : Bool} {r : State} (s : State) (h1 : Hdr) (h : Apart m r s) : Apart m r (cancelWork s h1) := by
  unfold cancelWork
  repeat' first
      | with_reducible assumption
      | with_reducible exact id
      | (intro _; with_reducible rfl)
      | intro _
      | ((fail_if_success fail_if_success (conv => arg 3; arg 3)); with_reducible apply Apart.ite)
      | ((fail_if_success fail_if_success (conv => arg 3; arg 34)); with_reducible refine Apart.over ?_ rfl rfl ?_ ?_ ?_ ?_)
      | (extract_lets +onlyGivenNames z
         first
         | (refine Apart.cut (m := m) (r := r) (z := z) ?_ ?_; rotate_left; clear_value z; intro _; rotate_left; unfold z; clear z)
         | clear_value z)
      | with_reducible apply cancelArmed_apart
      | with_reducible apply stopWhere_apart
      | with_reducible apply restartDie_apart
      | with_reducible apply Apart.foldl
      | with_reducible rfl
      | split

theorem abortOp_apart {m : Bool} {r : State} (s : State) (o : Op) (endc : Nat) (h : Apart m r s) : Apart m r (abortOp s o endc) := by
  unfold abortOp
  repeat' first
      | with_reducible assumption
      | ((fail_if_success fail_if_success (conv => arg 3; arg 3)); with_reducible apply Apart.ite)
      | with_reducible apply endSession_apart
      | with_reducible apply completeOp_apart
      | with_reducible apply cancelWork_apart

theorem warmDiscard_apart {m : Bool} {r : State} (s : State) (h : Apart m r s) : Apart m r (warmDiscard s) := by
  unfold warmDiscard
  repeat' first
      | with_reducible assumption
      | with_reducible exact id
      | (intro _; with_reducible rfl)
      | intro _
      | ((fail_if_success fail_if_success (conv => arg 3; arg 3)); with_reducible apply Apart.ite)
      | ((fail_if_success fail_if_success (conv => arg 3; arg 34)); with_reducible refine Apart.over ?_ rfl rfl ?_ ?_ ?_ ?_)
      | (extract_lets +onlyGivenNames z
         first
         | (refine Apart.cut (m := m) (r := r) (z := z) ?_ ?_; rotate_left; clear_value z; intro _; rotate_left; unfold z; clear z)
         | clear_value z)
      | with_reducible apply stopPlanner_apart
      | with_reducible apply endSession_apart
      | with_reducible apply abortOp_apart
      | with_reducible apply Apart.foldl
      | with_reducible rfl

theorem reactionModeSet_apart {m : Bool} {r : State} (s : State) (mode : Nat) (h : Apart m r s) : Apart m r (reactionModeSet s mode) := by
  unfold reactionModeSet
  repeat' first
      | with_reducible assumption
      | with_reducible exact id
      | (intro _; with_reducible rfl)
      | intro _
      | ((fail_if_success fail_if_success (conv => arg 3; arg 3)); with_reducible apply Apart.ite)
      | ((fail_if_success fail_if_success (conv => arg 3; arg 34)); with_reducible refine Apart.over ?_ rfl rfl ?_ ?_ ?_ ?_)
      | (extract_lets +onlyGivenNames z
         first
         | (refine Apart.cut (m := m) (r := r) (z := z) ?_ ?_; rotate_left; clear_value z; intro _; rotate_left; unfold z; clear z)
         | clear_value z)
      | with_reducible apply settle_apart
      | with_reducible apply withdraw_apart
      | with_reducible apply Apart.foldl
      | with_reducible rfl

theorem rawDieSet_apart {m : Bool} {r : State} (s : State) (die : Nat) (h : Apart m r s) : Apart m r (rawDieSet s die) := by
  unfold rawDieSet
  repeat' first
      | with_reducible assumption
      | with_reducible exact id
      | (intro _; with_reducible rfl)
      | ((fail_if_success fail_if_success (conv => arg 3; arg 3)); with_reducible apply Apart.ite)
      | ((fail_if_success fail_if_success (conv => arg 3; arg 34)); with_reducible refine Apart.over ?_ rfl rfl ?_ ?_ ?_ ?_)
      | (extract_lets +onlyGivenNames z
         first
         | (refine Apart.cut (m := m) (r := r) (z := z) ?_ ?_; rotate_left; clear_value z; intro _; rotate_left; unfold z; clear z)
         | clear_value z)
      | with_reducible apply restartDie_apart
      | with_reducible rfl

theorem limitDie_apart {m : Bool} {r : State} (s : State) (die limit : Nat) (h : Apart m r s) : Apart m r (limitDie s die limit) := by
  unfold limitDie
  repeat' first
      | with_reducible assumption
      | (intro _; with_reducible rfl)
      | intro _
      | ((fail_if_success fail_if_success (conv => arg 3; arg 3)); with_reducible apply Apart.ite)
      | (extract_lets +onlyGivenNames z
         first
         | (refine Apart.cut (m := m) (r := r) (z := z) ?_ ?_; rotate_left; clear_value z; intro _; rotate_left; unfold z; clear z)
         | clear_value z)
      | with_reducible apply dollyChanged_apart
      | with_reducible apply raise_apart
      | with_reducible apply State.updDie_apart
      | with_reducible apply Apart.foldl
      | split

theorem limitAll_apart {m : Bool} {r : State} (s : State) (h : Apart m r s) : Apart m r (limitAll s) := by
  unfold limitAll
  repeat' first
      | with_reducible assumption
      | intro _
      | with_reducible apply limitDie_apart
      | with_reducible apply Apart.foldl

theorem chargeFrom_apart {m : Bool} {r : State} (s : State) (old : List CurSample) (h : Apart m r s) : Apart m r (chargeFrom s old) := by
  unfold chargeFrom
  repeat' first
      | with_reducible assumption
      | with_reducible exact id
      | (intro _; with_reducible rfl)
      | ((fail_if_success fail_if_success (conv => arg 3; arg 34)); with_reducible refine Apart.over ?_ rfl rfl ?_ ?_ ?_ ?_)
      | (extract_lets +onlyGivenNames z; clear_value z)
      | with_reducible rfl
      | split

theorem alignmentSet_apart {m : Bool} {r : State} (s : State) (mode irsrc subdie subin rmode : Nat) (h : Apart m r s) :
    Apart m r (alignmentSet s mode irsrc subdie subin rmode) := by
  unfold alignmentSet
  repeat' first
      | with_reducible assumption
      | with_reducible exact id
      | (intro _; with_reducible rfl)
      | ((fail_if_success fail_if_success (conv => arg 3; arg 3)); with_reducible apply Apart.ite)
      | ((fail_if_success fail_if_success (conv => arg 3; arg 34)); with_reducible refine Apart.over ?_ rfl rfl ?_ ?_ ?_ ?_)
      | (extract_lets +onlyGivenNames z
         first
         | (refine Apart.cut (m := m) (r := r) (z := z) ?_ ?_; rotate_left; clear_value z; intro _; rotate_left; unfold z; clear z)
         | clear_value z)
      | with_reducible apply chargeFrom_apart
      | with_reducible rfl

theorem switchEffect_apart {m : Bool} {r : State} (s : State) (c : Setting) (h : Apart m r s) : Apart m r (switchEffect s c) := by
  unfold switchEffect
  repeat' first
      | with_reducible assumption
      | with_reducible exact id
      | (intro _; with_reducible rfl)
      | intro _
      | ((fail_if_success fail_if_success (conv => arg 3; arg 3)); with_reducible apply Apart.ite)
      | ((fail_if_success fail_if_success (conv => arg 3; arg 34)); with_reducible refine Apart.over ?_ rfl rfl ?_ ?_ ?_ ?_)
      | (extract_lets +onlyGivenNames z
         first
         | (refine Apart.cut (m := m) (r := r) (z := z) ?_ ?_; rotate_left; clear_value z; intro _; rotate_left; unfold z; clear z)
         | (have _ : SegDie := z; unfold z; clear z)
         | clear_value z)
      | with_reducible apply restartFilters_apart
      | with_reducible apply noteBad_apart
      | with_reducible apply alignmentSet_apart
      | with_reducible apply rawDieSet_apart
      | with_reducible apply discardPlans_apart
      | with_reducible apply limitAll_apart
      | with_reducible apply endSession_apart
      | with_reducible apply reactionModeSet_apart
      | with_reducible apply codes_map
      | with_reducible rfl
      | split
      | exact firstUse_code _ _ _

theorem applySwitch_apart {m : Bool} {r : State} (s : State) (w : Switch) (h : Apart m r s) : Apart m r (applySwitch s w) := by
  unfold applySwitch
  repeat' first
      | with_reducible assumption
      | with_reducible exact id
      | (intro _; with_reducible rfl)
      | ((fail_if_success fail_if_success (conv => arg 3; arg 3)); with_reducible apply Apart.ite)
      | ((fail_if_success fail_if_success (conv => arg 3; arg 34)); with_reducible refine Apart.over ?_ rfl rfl ?_ ?_ ?_ ?_)
      | (extract_lets +onlyGivenNames z
         first
         | (refine Apart.cut (m := m) (r := r) (z := z) ?_ ?_; rotate_left; clear_value z; intro _; rotate_left; unfold z; clear z)
         | clear_value z)
      | with_reducible apply completeOp_apart
      | with_reducible apply switchEffect_apart
      | with_reducible rfl
      | split

theorem boundarySwitches_apart {m : Bool} {r : State} (s : State) (h : Apart m r s) : Apart m r (boundarySwitches s) := by
  unfold boundarySwitches
  repeat' first
      | with_reducible assumption
      | intro _
      | with_reducible apply applySwitch_apart
      | with_reducible apply Apart.foldl

theorem allSwitches_apart {m : Bool} {r : State} (s : State) (h : Apart m r s) : Apart m r (allSwitches s) := by
  unfold allSwitches
  repeat' first
      | with_reducible assumption
      | intro _
      | with_reducible apply applySwitch_apart
      | with_reducible apply Apart.foldl

theorem switchCmd_apart {m : Bool} {r : State} (s : State) (h1 : Hdr) (op func : Nat) (cmd : Setting) (h : Apart m r s) :
    Apart m r (switchCmd s h1 op func cmd) := by
  unfold switchCmd
  repeat' first
      | with_reducible assumption
      | ((fail_if_success fail_if_success (conv => arg 3; arg 3)); with_reducible apply Apart.ite)
      | (extract_lets +onlyGivenNames z; refine Apart.cut (m := m) (r := r) (z := z) ?_ ?_; rotate_left; clear_value z; intro _; rotate_left; unfold z; clear z)
      | with_reducible apply queueSwitch_apart
      | with_reducible apply allSwitches_apart

end Sys2Proof.Machine
end

