-- ==== Sys2Proof/Laws/ApartPartReset.lean ====
section
/-! SUPPORT. Each operation of Machine/PartReset keeps `Apart`. -/
set_option Elab.async false
set_option linter.unusedTactic false
namespace Sys2Proof.Machine

theorem trimFails_apart {m : Bool} {r : State} (s : State) (bad : List Nat) (h : Apart m r s) : Apart m r (trimFails s bad) := by
  unfold trimFails
  repeat' first
      | with_reducible assumption
      | (intro _; with_reducible rfl)
      | intro _
      | ((fail_if_success fail_if_success (conv => arg 3; arg 3)); with_reducible apply Apart.ite)
      | with_reducible apply raise_apart
      | with_reducible apply State.updDie_apart
      | with_reducible apply Apart.foldl

theorem resetC_apart {m : Bool} {r : State} (s : State) (code : Nat) (h : Apart m r s) : Apart m r (resetC s code) := by
  refine h.trans ⟨rfl, rfl, fun _ => rfl, rfl, fun _ _ => rfl, fun _ => rfl⟩

theorem partReset_apart {m : Bool} {r : State} (s : State) (code : Nat) (h : Apart m r s) : Apart m r (partReset s code) := by
  refine h.trans ⟨rfl, rfl, fun _ => rfl, codes_map fun _ => rfl, fun _ _ => rfl, fun _ => rfl⟩

end Sys2Proof.Machine
end

