-- ==== Sys2Proof/Laws/ApartAttempt.lean ====
section
/-! SUPPORT. Each operation of Machine/Attempt keeps `Apart`. -/
set_option Elab.async false
set_option linter.unusedTactic false
namespace Sys2Proof.Machine

theorem writeBoot_apart {m : Bool} {r : State} (s : State) (r1 : BootRecord) (h : Apart m r s) : Apart m r (writeBoot s r1) := by
  unfold writeBoot
  exact .over h rfl rfl id rfl id fun _ => rfl

theorem studioRestart_apart {m : Bool} {r : State} (s : State) (halt : Bool) (h : Apart m r s) : Apart m r (studioRestart s halt) := by
  unfold studioRestart
  repeat' first
      | with_reducible assumption
      | with_reducible exact id
      | exact fun _ _ => rfl
      | (intro _; with_reducible rfl)
      | ((fail_if_success fail_if_success (conv => arg 3; arg 34)); with_reducible refine Apart.over ?_ rfl rfl ?_ ?_ ?_ ?_)
      | (extract_lets +onlyGivenNames z; refine Apart.cut (m := m) (r := r) (z := z) ?_ ?_; rotate_left; clear_value z; intro _; rotate_left; unfold z; clear z)
      | with_reducible apply warmDiscard_apart
      | with_reducible rfl

theorem endActivation_apart {m : Bool} {r : State} (s : State) (status : Nat) (result : List Byte) (h : Apart m r s) :
    Apart m r (endActivation s status result) := by
  unfold endActivation
  repeat' first
      | with_reducible assumption
      | with_reducible exact id
      | (intro _; with_reducible rfl)
      | ((fail_if_success fail_if_success (conv => arg 3; arg 34)); with_reducible refine Apart.over ?_ rfl rfl ?_ ?_ ?_ ?_)
      | (extract_lets +onlyGivenNames z
         first
         | (refine Apart.cut (m := m) (r := r) (z := z) ?_ ?_; rotate_left; clear_value z; intro _; rotate_left; unfold z; clear z)
         | clear_value z)
      | with_reducible apply completeOp_apart
      | with_reducible rfl
      | split

theorem carry_apart {m : Bool} {r : State} (s : State) (block kind detail : Nat) (h : Apart m r s) :
    Apart m r (carry s block kind detail) := by
  unfold carry
  repeat' first
      | with_reducible assumption
      | with_reducible exact id
      | (intro _; with_reducible rfl)
      | ((fail_if_success fail_if_success (conv => arg 3; arg 34)); with_reducible refine Apart.over ?_ rfl rfl ?_ ?_ ?_ ?_)
      | (extract_lets +onlyGivenNames z; clear_value z)
      | with_reducible rfl

theorem fallback_apart {m : Bool} {r : State} (s : State) (cause : Nat) (h : Apart m r s) : Apart m r (fallback s cause) := by
  unfold fallback
  repeat' first
      | with_reducible assumption
      | with_reducible exact id
      | (intro _; with_reducible rfl)
      | ((fail_if_success fail_if_success (conv => arg 3; arg 3)); with_reducible apply Apart.ite)
      | ((fail_if_success fail_if_success (conv => arg 3; arg 34)); with_reducible refine Apart.over ?_ rfl rfl ?_ ?_ ?_ ?_)
      | (extract_lets +onlyGivenNames z
         first
         | (refine Apart.cut (m := m) (r := r) (z := z) ?_ ?_; rotate_left; clear_value z; intro _; rotate_left; unfold z; clear z)
         | clear_value z)
      | with_reducible apply writeBoot_apart
      | with_reducible apply partReset_apart
      | with_reducible apply carry_apart
      | with_reducible apply raise_apart
      | with_reducible apply studioRestart_apart
      | with_reducible apply endActivation_apart
      | with_reducible apply codes_map

theorem attemptFailed_apart {m : Bool} {r : State} (s : State) (cause : Nat) (h : Apart m r s) : Apart m r (attemptFailed s cause) := by
  unfold attemptFailed
  repeat' first
      | with_reducible assumption
      | with_reducible exact id
      | (intro _; with_reducible rfl)
      | ((fail_if_success fail_if_success (conv => arg 3; arg 3)); with_reducible apply Apart.ite)
      | ((fail_if_success fail_if_success (conv => arg 3; arg 34)); with_reducible refine Apart.over ?_ rfl rfl ?_ ?_ ?_ ?_)
      | (extract_lets +onlyGivenNames z
         first
         | (refine Apart.cut (m := m) (r := r) (z := z) ?_ ?_; rotate_left; clear_value z; intro _; rotate_left; unfold z; clear z)
         | clear_value z)
      | with_reducible apply fallback_apart
      | with_reducible apply partReset_apart
      | with_reducible apply writeBoot_apart
      | with_reducible apply studioRestart_apart
      | with_reducible rfl

theorem warmRestart_apart {m : Bool} {r : State} (s : State) (cause : Nat) (h : Apart m r s) : Apart m r (warmRestart s cause) := by
  unfold warmRestart
  repeat' first
      | with_reducible assumption
      | with_reducible exact id
      | (intro _; with_reducible rfl)
      | (refine @id (servesP _ → servesP _) ?_; exact id)
      | ((fail_if_success fail_if_success (conv => arg 3; arg 3)); with_reducible apply Apart.ite)
      | ((fail_if_success fail_if_success (conv => arg 3; arg 34)); with_reducible refine Apart.over ?_ rfl rfl ?_ ?_ ?_ ?_)
      | (extract_lets +onlyGivenNames z
         first
         | (refine Apart.cut (m := m) (r := r) (z := z) ?_ ?_; rotate_left; clear_value z; intro _; rotate_left; unfold z; clear z)
         | (have _ : Supervision := z; unfold z; clear z)
         | clear_value z)
      | with_reducible apply attemptFailed_apart
      | with_reducible apply raise_apart
      | with_reducible apply studioRestart_apart
      | with_reducible rfl

end Sys2Proof.Machine
end

