-- ==== Sys2Proof/Laws/ApartCalOps.lean ====
section
/-! SUPPORT. Each operation of Machine/CalOps keeps `Apart`. -/
set_option Elab.async false
set_option linter.unusedTactic false
namespace Sys2Proof.Machine

theorem endCapture_apart {m : Bool} {r : State} (s : State) (c : Capture) (status : Nat) (h : Apart m r s) :
    Apart m r (endCapture s c status) := by
  unfold endCapture
  repeat' first
      | with_reducible assumption
      | with_reducible exact id
      | (intro _; with_reducible rfl)
      | ((fail_if_success fail_if_success (conv => arg 3; arg 34)); with_reducible refine Apart.over ?_ rfl rfl ?_ ?_ ?_ ?_)
      | (extract_lets +onlyGivenNames z; clear_value z)
      | with_reducible apply completeOp_apart
      | with_reducible rfl

theorem storeCal_apart {m : Bool} {r : State} (s : State) (recs : List CalRecord) (h2 : Option Hdr) (result : List Byte) (h : Apart m r s) :
    Apart m r (storeCal s recs h2 result) := by
  unfold storeCal
  repeat' first
      | with_reducible assumption
      | with_reducible apply flashPush_apart

theorem calStored_apart {m : Bool} {r : State} (s : State) (r1 : CalRecord) (h : Apart m r s) : Apart m r (calStored s r1) := by
  unfold calStored
  exact .over h rfl rfl id rfl id fun _ => rfl

theorem finishGain_apart {m : Bool} {r : State} (s : State) (c : Capture) (h : Apart m r s) : Apart m r (finishGain s c) := by
  unfold finishGain
  repeat' first
      | with_reducible assumption
      | with_reducible exact id
      | (intro _; with_reducible rfl)
      | ((fail_if_success fail_if_success (conv => arg 3; arg 3)); with_reducible apply Apart.ite)
      | ((fail_if_success fail_if_success (conv => arg 3; arg 34)); with_reducible refine Apart.over ?_ rfl rfl ?_ ?_ ?_ ?_)
      | (extract_lets +onlyGivenNames z; clear_value z)
      | with_reducible apply endCapture_apart
      | with_reducible apply storeCal_apart
      | with_reducible rfl

theorem finishPoint_apart {m : Bool} {r : State} (s : State) (c : Capture) (h : Apart m r s) : Apart m r (finishPoint s c) := by
  unfold finishPoint
  repeat' first
      | with_reducible assumption
      | with_reducible exact id
      | (intro _; with_reducible rfl)
      | ((fail_if_success fail_if_success (conv => arg 3; arg 3)); with_reducible apply Apart.ite)
      | ((fail_if_success fail_if_success (conv => arg 3; arg 34)); with_reducible refine Apart.over ?_ rfl rfl ?_ ?_ ?_ ?_)
      | (extract_lets +onlyGivenNames z; clear_value z)
      | with_reducible apply endCapture_apart
      | with_reducible apply completeOp_apart
      | with_reducible rfl
      | split

theorem captureOver_apart {m : Bool} {r : State} (s : State) (c : Capture) (h : Apart m r s) : Apart m r (captureOver s c) := by
  unfold captureOver
  repeat' first
      | with_reducible assumption
      | ((fail_if_success fail_if_success (conv => arg 3; arg 3)); with_reducible apply Apart.ite)
      | with_reducible apply endCapture_apart

theorem captureMiss_apart {m : Bool} {r : State} (s : State) (h : Apart m r s) : Apart m r (captureMiss s) := by
  unfold captureMiss
  repeat' first
      | with_reducible assumption
      | with_reducible exact id
      | (intro _; with_reducible rfl)
      | ((fail_if_success fail_if_success (conv => arg 3; arg 3)); with_reducible apply Apart.ite)
      | ((fail_if_success fail_if_success (conv => arg 3; arg 34)); with_reducible refine Apart.over ?_ rfl rfl ?_ ?_ ?_ ?_)
      | (extract_lets +onlyGivenNames z; clear_value z)
      | with_reducible apply captureOver_apart
      | with_reducible rfl
      | split

theorem captureTake_apart {m : Bool} {r : State} (s : State) (t : Take) (committed : Bool) (h : Apart m r s) :
    Apart m r (captureTake s t committed) := by
  unfold captureTake
  repeat' first
      | with_reducible assumption
      | with_reducible exact id
      | (intro _; with_reducible rfl)
      | ((fail_if_success fail_if_success (conv => arg 3; arg 3)); with_reducible apply Apart.ite)
      | ((fail_if_success fail_if_success (conv => arg 3; arg 34)); with_reducible refine Apart.over ?_ rfl rfl ?_ ?_ ?_ ?_)
      | (extract_lets +onlyGivenNames z
         first
         | (refine Apart.cut (m := m) (r := r) (z := z) ?_ ?_; rotate_left; clear_value z; intro _; rotate_left; unfold z; clear z)
         | clear_value z)
      | with_reducible apply endCapture_apart
      | with_reducible apply finishGain_apart
      | with_reducible apply finishPoint_apart
      | with_reducible apply captureOver_apart
      | with_reducible rfl
      | split

end Sys2Proof.Machine
end

