-- ==== Sys2Proof/Laws/ApartClear.lean ====
section
/-! SUPPORT. Each operation of Machine/Clear keeps `Apart`. -/
set_option Elab.async false
set_option linter.unusedTactic false
namespace Sys2Proof.Machine

theorem startDollyCheck_apart {m : Bool} {r : State} (s : State) (die j : Nat) (h : Apart m r s) : Apart m r (startDollyCheck s die j) := by
  unfold startDollyCheck
  repeat' first
      | with_reducible assumption
      | ((fail_if_success fail_if_success (conv => arg 3; arg 3)); with_reducible apply Apart.ite)
      | with_reducible apply State.updDolly_apart
      | with_reducible apply dollyChanged_apart
      | split

theorem startMatrix_apart {m : Bool} {r : State} (s : State) (die j : Nat) (h : Apart m r s) : Apart m r (startMatrix s die j) := by
  unfold startMatrix
  repeat' first
      | with_reducible assumption
      | ((fail_if_success fail_if_success (conv => arg 3; arg 3)); with_reducible apply Apart.ite)
      | with_reducible apply State.updDolly_apart
      | split

theorem startCheck_apart {m : Bool} {r : State} (s : State) (die : Nat) (c : Cause) (h : Apart m r s) : Apart m r (startCheck s die c) := by
  unfold startCheck
  repeat' first
      | with_reducible assumption
      | with_reducible exact id
      | (intro _; with_reducible rfl)
      | intro _
      | ((fail_if_success fail_if_success (conv => arg 3; arg 3)); with_reducible apply Apart.ite)
      | ((fail_if_success fail_if_success (conv => arg 3; arg 34)); with_reducible refine Apart.over ?_ rfl rfl ?_ ?_ ?_ ?_)
      | (extract_lets +onlyGivenNames z; clear_value z)
      | with_reducible apply startDollyCheck_apart
      | with_reducible apply releaseDolly_apart
      | with_reducible apply openOutputs_apart
      | with_reducible apply startMatrix_apart
      | with_reducible apply State.updDie_apart
      | with_reducible apply Apart.foldl
      | with_reducible rfl
      | split

theorem startClear_apart {m : Bool} {r : State} (s : State) (r1 : FRec) (h : Apart m r s) : Apart m r (startClear s r1) := by
  unfold startClear
  repeat' first
      | with_reducible assumption
      | intro _
      | with_reducible apply startCheck_apart
      | with_reducible apply Apart.foldl

theorem clearAnswer_apart {m : Bool} {r : State} (s : State) (h1 : Hdr) (status : Nat) (result : List Byte) (h : Apart m r s) :
    Apart m r (clearAnswer s h1 status result) := by
  unfold clearAnswer
  repeat' first
      | with_reducible assumption
      | ((fail_if_success fail_if_success (conv => arg 3; arg 3)); with_reducible apply Apart.ite)
      | with_reducible apply completeOp_apart
      | with_reducible apply reply_apart

theorem clearNow_apart {m : Bool} {r : State} (s : State) (c : Clearing) (h : Apart m r s) : Apart m r (clearNow s c) := by
  unfold clearNow
  repeat' first
      | with_reducible assumption
      | with_reducible exact id
      | (intro _; with_reducible rfl)
      | intro _
      | ((fail_if_success fail_if_success (conv => arg 3; arg 3)); with_reducible apply Apart.ite)
      | ((fail_if_success fail_if_success (conv => arg 3; arg 34)); with_reducible refine Apart.over ?_ rfl rfl ?_ ?_ ?_ ?_)
      | (extract_lets +onlyGivenNames z
         first
         | (refine Apart.cut (m := m) (r := r) (z := z) ?_ ?_; rotate_left; clear_value z; intro _; rotate_left; unfold z; clear z)
         | clear_value z)
      | with_reducible apply closeRec_apart
      | with_reducible apply clearAnswer_apart
      | with_reducible apply Apart.foldl
      | with_reducible rfl
      | split

theorem finishClear_apart {m : Bool} {r : State} (s : State) (h : Apart m r s) : Apart m r (finishClear s) := by
  unfold finishClear
  repeat' first
      | with_reducible assumption
      | ((fail_if_success fail_if_success (conv => arg 3; arg 3)); with_reducible apply Apart.ite)
      | with_reducible apply clearNow_apart
      | split

theorem runClear_apart {m : Bool} {r : State} (s : State) (c : Clearing) (h : Apart m r s) : Apart m r (runClear s c) := by
  unfold runClear
  repeat' first
      | with_reducible assumption
      | with_reducible exact id
      | (intro _; with_reducible rfl)
      | intro _
      | ((fail_if_success fail_if_success (conv => arg 3; arg 3)); with_reducible apply Apart.ite)
      | ((fail_if_success fail_if_success (conv => arg 3; arg 34)); with_reducible refine Apart.over ?_ rfl rfl ?_ ?_ ?_ ?_)
      | (extract_lets +onlyGivenNames z
         first
         | (refine Apart.cut (m := m) (r := r) (z := z) ?_ ?_; rotate_left; clear_value z; intro _; rotate_left; unfold z; clear z)
         | clear_value z)
      | with_reducible apply startClear_apart
      | with_reducible apply finishClear_apart
      | with_reducible apply Apart.foldl
      | with_reducible rfl

theorem beginClear_apart {m : Bool} {r : State} (s : State) (h1 : Hdr) (source all : Nat) (proved : Bool) (h : Apart m r s) :
    Apart m r (beginClear s h1 source all proved) := by
  unfold beginClear
  repeat' first
      | with_reducible assumption
      | intro _
      | ((fail_if_success fail_if_success (conv => arg 3; arg 3)); with_reducible apply Apart.ite)
      | (extract_lets +onlyGivenNames z; clear_value z)
      | with_reducible apply startOp_apart
      | with_reducible apply runClear_apart

end Sys2Proof.Machine
end

