-- ==== Sys2Proof/Laws/ApartWatch.lean ====
section
/-! SUPPORT. Each operation of Machine/Watch keeps `Apart`. -/
set_option Elab.async false
set_option linter.unusedTactic false
namespace Sys2Proof.Machine

theorem wdIssue_apart {m : Bool} {r : State} (s : State) (h : Apart m r s) : Apart m r (wdIssue s) := by
  unfold wdIssue
  repeat' first
      | with_reducible assumption
      | with_reducible exact id
      | (intro _; with_reducible rfl)
      | ((fail_if_success fail_if_success (conv => arg 3; arg 34)); with_reducible refine Apart.over ?_ rfl rfl ?_ ?_ ?_ ?_)
      | (extract_lets +onlyGivenNames z
         first
         | (refine Apart.cut (m := m) (r := r) (z := z) ?_ ?_; rotate_left; clear_value z; intro _; rotate_left; unfold z; clear z)
         | clear_value z)
      | with_reducible apply State.setIrq_apart
      | with_reducible apply State.draw_apart
      | with_reducible rfl

theorem wdArm_apart {m : Bool} {r : State} (s : State) (h : Apart m r s) : Apart m r (wdArm s) := by
  unfold wdArm
  repeat' first
      | with_reducible assumption
      | with_reducible exact id
      | (intro _; with_reducible rfl)
      | ((fail_if_success fail_if_success (conv => arg 3; arg 3)); with_reducible apply Apart.ite)
      | ((fail_if_success fail_if_success (conv => arg 3; arg 34)); with_reducible refine Apart.over ?_ rfl rfl ?_ ?_ ?_ ?_)
      | (extract_lets +onlyGivenNames z; clear_value z)
      | with_reducible apply wdIssue_apart
      | with_reducible rfl

theorem evidenceDailies_apart {m : Bool} {r : State} (s : State) (e : Evidence) (source : Nat) (h : Apart m r s) :
    Apart m r (evidenceDailies s e source) := by
  unfold evidenceDailies
  repeat' first
      | with_reducible assumption
      | intro _
      | with_reducible apply dailiesPut_apart
      | with_reducible apply Apart.foldl

theorem capture_apart {m : Bool} {r : State} (s : State) (source cause pc : Nat) (h : Apart m r s) :
    Apart m r (capture s source cause pc) := by
  unfold capture
  repeat' first
      | with_reducible assumption
      | with_reducible exact id
      | (intro _; with_reducible rfl)
      | ((fail_if_success fail_if_success (conv => arg 3; arg 34)); with_reducible refine Apart.over ?_ rfl rfl ?_ ?_ ?_ ?_)
      | (extract_lets +onlyGivenNames z; clear_value z)
      | with_reducible apply evidenceDailies_apart
      | with_reducible rfl

theorem wdFault_apart {m : Bool} {r : State} (s : State) (kind detail pc : Nat) (h : Apart m r s) :
    Apart m r (wdFault s kind detail pc) := by
  unfold wdFault
  repeat' first
      | with_reducible assumption
      | with_reducible exact id
      | (intro _; with_reducible rfl)
      | ((fail_if_success fail_if_success (conv => arg 3; arg 34)); with_reducible refine Apart.over ?_ rfl rfl ?_ ?_ ?_ ?_)
      | (extract_lets +onlyGivenNames z
         first
         | (refine Apart.cut (m := m) (r := r) (z := z) ?_ ?_; rotate_left; clear_value z; intro _; rotate_left; unfold z; clear z)
         | clear_value z)
      | with_reducible apply capture_apart
      | with_reducible apply wdIssue_apart
      | with_reducible apply raise_apart
      | with_reducible rfl

theorem wdAccept_apart {m : Bool} {r : State} (s : State) (h : Apart m r s) : Apart m r (wdAccept s) := by
  unfold wdAccept
  repeat' first
      | with_reducible assumption
      | with_reducible exact id
      | (intro _; with_reducible rfl)
      | ((fail_if_success fail_if_success (conv => arg 3; arg 34)); with_reducible refine Apart.over ?_ rfl rfl ?_ ?_ ?_ ?_)
      | (extract_lets +onlyGivenNames z; clear_value z)
      | with_reducible apply wdIssue_apart
      | with_reducible rfl

theorem wdAnswer_apart {m : Bool} {r : State} (s : State) (token : Nat) (whole : Bool) (h : Apart m r s) :
    Apart m r (wdAnswer s token whole) := by
  unfold wdAnswer
  repeat' first
      | with_reducible assumption
      | ((fail_if_success fail_if_success (conv => arg 3; arg 3)); with_reducible apply Apart.ite)
      | with_reducible apply wdFault_apart
      | with_reducible apply wdAccept_apart

theorem wdExpire_apart {m : Bool} {r : State} (s : State) (h : Apart m r s) : Apart m r (wdExpire s) := by
  unfold wdExpire
  repeat' first
      | with_reducible assumption
      | ((fail_if_success fail_if_success (conv => arg 3; arg 3)); with_reducible apply Apart.ite)
      | with_reducible apply wdFault_apart

end Sys2Proof.Machine
end

