-- ==== Sys2Proof/Laws/ApartSafetyRows.lean ====
section
/-! SUPPORT. Each operation of Machine/SafetyRows keeps `Apart`. -/
set_option Elab.async false
set_option linter.unusedTactic false
namespace Sys2Proof.Machine

theorem logAdd_apart {m : Bool} {r : State} (s : State) (l : List LogEntry) (h : Apart m r s) : Apart m r (logAdd s l) := by
  unfold logAdd
  repeat' first
      | with_reducible assumption
      | with_reducible exact id
      | (intro _; with_reducible rfl)
      | ((fail_if_success fail_if_success (conv => arg 3; arg 34)); with_reducible refine Apart.over ?_ rfl rfl ?_ ?_ ?_ ?_)
      | (extract_lets +onlyGivenNames z; clear_value z)
      | with_reducible rfl

theorem loginFailed_apart {m : Bool} {r : State} (s : State) (host : Nat) (h : Apart m r s) : Apart m r (loginFailed s host) := by
  unfold loginFailed
  repeat' first
      | with_reducible assumption
      | with_reducible exact id
      | (intro _; with_reducible rfl)
      | ((fail_if_success fail_if_success (conv => arg 3; arg 3)); with_reducible apply Apart.ite)
      | ((fail_if_success fail_if_success (conv => arg 3; arg 34)); with_reducible refine Apart.over ?_ rfl rfl ?_ ?_ ?_ ?_)
      | (extract_lets +onlyGivenNames z; clear_value z)
      | with_reducible apply raise_apart
      | with_reducible rfl

theorem execSafetyLogin_apart {m : Bool} {r : State} (h0 : Hdr) (host : Nat) (password : List Byte) (s : State) (h : Apart m r s) :
    ApartO m r (execSafetyLogin h0 host password s) := by
  unfold execSafetyLogin
  repeat' first
      | with_reducible assumption
      | with_reducible exact id
      | (intro _; with_reducible rfl)
      | intro _
      | ((fail_if_success fail_if_success (conv => arg 3; arg 3)); with_reducible apply Apart.ite)
      | ((fail_if_success fail_if_success (conv => arg 3; arg 34)); with_reducible refine Apart.over ?_ rfl rfl ?_ ?_ ?_ ?_)
      | (extract_lets +onlyGivenNames z
         first
         | (refine Apart.cut (m := m) (r := r) (z := z) ?_ ?_; rotate_left; clear_value z; intro _; rotate_left; unfold z; clear z)
         | clear_value z)
      | with_reducible apply runCmd_apart
      | with_reducible apply refuse_apart
      | with_reducible apply loginFailed_apart
      | with_reducible apply State.draw_apart
      | with_reducible apply reply_apart
      | with_reducible apply ApartO.next
      | with_reducible rfl

theorem execSafetyLogout_apart {m : Bool} {r : State} (h0 : Hdr) (p : Proof) (s : State) (h : Apart m r s) :
    ApartO m r (execSafetyLogout h0 p s) := by
  unfold execSafetyLogout
  repeat' first
      | with_reducible assumption
      | with_reducible exact id
      | (intro _; with_reducible rfl)
      | intro _
      | ((fail_if_success fail_if_success (conv => arg 3; arg 34)); with_reducible refine Apart.over ?_ rfl rfl ?_ ?_ ?_ ?_)
      | (extract_lets +onlyGivenNames z; clear_value z)
      | with_reducible apply runCmd_apart
      | with_reducible apply withProof_apart
      | with_reducible apply reply_apart
      | with_reducible apply ApartO.next
      | with_reducible rfl

theorem execSafetyConfigRead_apart {m : Bool} {r : State} (h0 : Hdr) (which : Nat) (s : State) (h : Apart m r s) :
    ApartO m r (execSafetyConfigRead h0 which s) := by
  unfold execSafetyConfigRead
  repeat' first
      | with_reducible assumption
      | intro _
      | with_reducible apply runCmd_apart
      | with_reducible apply reply_apart
      | with_reducible apply ApartO.next

theorem execSafetyConfigStage_apart {m : Bool} {r : State} (h0 : Hdr) (offset : Nat) (data : List Byte) (p : Proof) (s : State)
    (h : Apart m r s) : ApartO m r (execSafetyConfigStage h0 offset data p s) := by
  unfold execSafetyConfigStage
  repeat' first
      | with_reducible assumption
      | with_reducible exact id
      | (intro _; with_reducible rfl)
      | intro _
      | ((fail_if_success fail_if_success (conv => arg 3; arg 34)); with_reducible refine Apart.over ?_ rfl rfl ?_ ?_ ?_ ?_)
      | (extract_lets +onlyGivenNames z; clear_value z)
      | with_reducible apply runCmd_apart
      | with_reducible apply withProof_apart
      | with_reducible apply reply_apart
      | with_reducible apply ApartO.next
      | with_reducible rfl

theorem execSafetyConfigCommit_apart {m : Bool} {r : State} (h0 : Hdr) (crc : Nat) (p : Proof) (s : State) (h : Apart m r s) :
    ApartO m r (execSafetyConfigCommit h0 crc p s) := by
  unfold execSafetyConfigCommit
  repeat' first
      | with_reducible assumption
      | intro _
      | ((fail_if_success fail_if_success (conv => arg 3; arg 3)); with_reducible apply Apart.ite)
      | (extract_lets +onlyGivenNames z; clear_value z)
      | with_reducible apply runCmd_apart
      | with_reducible apply withProof_apart
      | with_reducible apply refuse_apart
      | with_reducible apply startOp_apart
      | with_reducible apply flashPush_apart
      | with_reducible apply ApartO.next

theorem reevaluate_apart {m : Bool} {r : State} (s : State) (h : Apart m r s) : Apart m r (reevaluate s) := by
  unfold reevaluate
  repeat' first
      | with_reducible assumption
      | with_reducible exact id
      | (intro _; with_reducible rfl)
      | intro _
      | ((fail_if_success fail_if_success (conv => arg 3; arg 3)); with_reducible apply Apart.ite)
      | ((fail_if_success fail_if_success (conv => arg 3; arg 34)); with_reducible refine Apart.over ?_ rfl rfl ?_ ?_ ?_ ?_)
      | (extract_lets +onlyGivenNames z
         first
         | (refine Apart.cut (m := m) (r := r) (z := z) ?_ ?_; rotate_left; clear_value z; intro _; rotate_left; unfold z; clear z)
         | clear_value z)
      | with_reducible apply openOutputs_apart
      | with_reducible apply updInput_apart
      | with_reducible apply raise_apart
      | with_reducible apply Apart.foldl
      | with_reducible rfl
      | split

theorem execSafetyConfigApply_apart {m : Bool} {r : State} (s : State) (h : Apart m r s) : ApartO m r (execSafetyConfigApply s) := by
  unfold execSafetyConfigApply
  repeat' first
      | with_reducible assumption
      | with_reducible exact id
      | (intro _; with_reducible rfl)
      | ((fail_if_success fail_if_success (conv => arg 3; arg 34)); with_reducible refine Apart.over ?_ rfl rfl ?_ ?_ ?_ ?_)
      | (extract_lets +onlyGivenNames z
         first
         | (refine Apart.cut (m := m) (r := r) (z := z) ?_ ?_; rotate_left; clear_value z; intro _; rotate_left; unfold z; clear z)
         | clear_value z)
      | with_reducible apply completeOp_apart
      | with_reducible apply reevaluate_apart
      | with_reducible apply ApartO.next
      | with_reducible rfl
      | split

theorem execSetPassword_apart {m : Bool} {r : State} (h0 : Hdr) (old new : List Byte) (p : Proof) (s : State) (h : Apart m r s) :
    ApartO m r (execSetPassword h0 old new p s) := by
  unfold execSetPassword
  repeat' first
      | with_reducible assumption
      | with_reducible exact id
      | (intro _; with_reducible rfl)
      | intro _
      | ((fail_if_success fail_if_success (conv => arg 3; arg 3)); with_reducible apply Apart.ite)
      | ((fail_if_success fail_if_success (conv => arg 3; arg 34)); with_reducible refine Apart.over ?_ rfl rfl ?_ ?_ ?_ ?_)
      | (extract_lets +onlyGivenNames z
         first
         | (refine Apart.cut (m := m) (r := r) (z := z) ?_ ?_; rotate_left; clear_value z; intro _; rotate_left; unfold z; clear z)
         | clear_value z)
      | with_reducible apply runCmd_apart
      | with_reducible apply withProof_apart
      | with_reducible apply refuse_apart
      | with_reducible apply loginFailed_apart
      | with_reducible apply logAdd_apart
      | with_reducible apply reply_apart
      | with_reducible apply ApartO.next
      | with_reducible rfl

theorem execSoCommand_apart {m : Bool} {r : State} (h0 : Hdr) (mask action : Nat) (p : Proof) (s : State) (h : Apart m r s) :
    ApartO m r (execSoCommand h0 mask action p s) := by
  unfold execSoCommand
  repeat' first
      | with_reducible assumption
      | intro _
      | ((fail_if_success fail_if_success (conv => arg 3; arg 3)); with_reducible apply Apart.ite)
      | (extract_lets +onlyGivenNames z
         first
         | (refine Apart.cut (m := m) (r := r) (z := z) ?_ ?_; rotate_left; clear_value z; intro _; rotate_left; unfold z; clear z)
         | clear_value z)
      | with_reducible apply runCmd_apart
      | with_reducible apply withProof_apart
      | with_reducible apply reply_apart
      | with_reducible apply closeOutputs_apart
      | with_reducible apply wdArm_apart
      | with_reducible apply openOutputs_apart
      | with_reducible apply ApartO.next

theorem endGraces_apart {m : Bool} {r : State} (s : State) (h : Apart m r s) : Apart m r (endGraces s) := by
  unfold endGraces
  exact .over h rfl rfl id rfl id fun _ => rfl

theorem execSafetyDecide_apart {m : Bool} {r : State} (h0 : Hdr) (decision : Nat) (p : Proof) (s : State) (h : Apart m r s) :
    ApartO m r (execSafetyDecide h0 decision p s) := by
  unfold execSafetyDecide
  repeat' first
      | with_reducible assumption
      | intro _
      | ((fail_if_success fail_if_success (conv => arg 3; arg 3)); with_reducible apply Apart.ite)
      | with_reducible apply runCmd_apart
      | with_reducible apply withProof_apart
      | with_reducible apply refuse_apart
      | with_reducible apply reply_apart
      | with_reducible apply endGraces_apart
      | with_reducible apply openOutputs_apart
      | with_reducible apply ApartO.next

theorem execGetSafetyStatus_apart {m : Bool} {r : State} (h0 : Hdr) (s : State) (h : Apart m r s) :
    ApartO m r (execGetSafetyStatus h0 s) := by
  unfold execGetSafetyStatus
  repeat' first
      | with_reducible assumption
      | intro _
      | (extract_lets +onlyGivenNames z; clear_value z)
      | with_reducible apply runCmd_apart
      | with_reducible apply reply_apart
      | with_reducible apply ApartO.next

theorem execReadChangeLog_apart {m : Bool} {r : State} (h0 : Hdr) (fromSeq n : Nat) (s : State) (h : Apart m r s) :
    ApartO m r (execReadChangeLog h0 fromSeq n s) := by
  unfold execReadChangeLog
  repeat' first
      | with_reducible assumption
      | intro _
      | (extract_lets +onlyGivenNames z; clear_value z)
      | with_reducible apply runCmd_apart
      | with_reducible apply reply_apart
      | with_reducible apply ApartO.next

theorem execCrashRelease_apart {m : Bool} {r : State} (h0 : Hdr) (input : Nat) (p : Proof) (s : State) (h : Apart m r s) :
    ApartO m r (execCrashRelease h0 input p s) := by
  unfold execCrashRelease
  repeat' first
      | with_reducible assumption
      | intro _
      | ((fail_if_success fail_if_success (conv => arg 3; arg 3)); with_reducible apply Apart.ite)
      | with_reducible apply runCmd_apart
      | with_reducible apply withProof_apart
      | with_reducible apply refuse_apart
      | with_reducible apply reply_apart
      | with_reducible apply updInput_apart
      | with_reducible apply ApartO.next
      | split

theorem execSessionTimeout_apart {m : Bool} {r : State} (head : Nat) (s : State) (h : Apart m r s) :
    ApartO m r (execSessionTimeout head s) := by
  unfold execSessionTimeout
  repeat' first
      | with_reducible assumption
      | with_reducible exact id
      | (intro _; with_reducible rfl)
      | ((fail_if_success fail_if_success (conv => arg 3; arg 34)); with_reducible refine Apart.over ?_ rfl rfl ?_ ?_ ?_ ?_)
      | (extract_lets +onlyGivenNames z; clear_value z)
      | with_reducible apply ApartO.next
      | with_reducible rfl

theorem execLoginLockEnd_apart {m : Bool} {r : State} (s : State) (h : Apart m r s) : ApartO m r (execLoginLockEnd s) := by
  unfold execLoginLockEnd
  repeat' first
      | with_reducible assumption
      | with_reducible exact id
      | (intro _; with_reducible rfl)
      | ((fail_if_success fail_if_success (conv => arg 3; arg 3)); with_reducible apply Apart.ite)
      | ((fail_if_success fail_if_success (conv => arg 3; arg 34)); with_reducible refine Apart.over ?_ rfl rfl ?_ ?_ ?_ ?_)
      | (extract_lets +onlyGivenNames z; clear_value z)
      | with_reducible apply ApartO.next
      | with_reducible rfl
      | split

theorem pulseVerdict_apart {m : Bool} {r : State} (s : State) (n channel kind : Nat) (h : Apart m r s) :
    Apart m r (pulseVerdict s n channel kind) := by
  unfold pulseVerdict
  repeat' first
      | with_reducible assumption
      | (extract_lets +onlyGivenNames z; refine Apart.cut (m := m) (r := r) (z := z) ?_ ?_; rotate_left; clear_value z; intro _; rotate_left; unfold z; clear z)
      | with_reducible apply updInput_apart
      | with_reducible apply raise_apart

theorem pulseStep_apart {m : Bool} {r : State} (feed : Nat) (ownHigh crossLow : List Bool) (s : State) (n : Nat) (h : Apart m r s) :
    Apart m r (pulseStep feed ownHigh crossLow s n) := by
  unfold pulseStep
  repeat' first
      | with_reducible assumption
      | ((fail_if_success fail_if_success (conv => arg 3; arg 3)); with_reducible apply Apart.ite)
      | (extract_lets +onlyGivenNames z; refine Apart.cut (m := m) (r := r) (z := z) ?_ ?_; rotate_left; clear_value z; intro _; rotate_left; unfold z; clear z)
      | with_reducible apply updInput_apart
      | with_reducible apply pulseVerdict_apart
      | split

theorem execTestPulse_apart {m : Bool} {r : State} (feed : Nat) (ownHigh crossLow : List Bool) (s : State) (h : Apart m r s) :
    ApartO m r (execTestPulse feed ownHigh crossLow s) := by
  unfold execTestPulse
  repeat' first
      | with_reducible assumption
      | with_reducible exact id
      | (intro _; with_reducible rfl)
      | intro _
      | ((fail_if_success fail_if_success (conv => arg 3; arg 34)); with_reducible refine Apart.over ?_ rfl rfl ?_ ?_ ?_ ?_)
      | (extract_lets +onlyGivenNames z
         first
         | (refine Apart.cut (m := m) (r := r) (z := z) ?_ ?_; rotate_left; clear_value z; intro _; rotate_left; unfold z; clear z)
         | clear_value z)
      | with_reducible apply pulseStep_apart
      | with_reducible apply ApartO.next
      | with_reducible apply Apart.foldl
      | with_reducible rfl

theorem execTpOverload_apart {m : Bool} {r : State} (feed : Nat) (s : State) (h : Apart m r s) : ApartO m r (execTpOverload feed s) := by
  unfold execTpOverload
  repeat' first
      | with_reducible assumption
      | with_reducible exact id
      | (intro _; with_reducible rfl)
      | ((fail_if_success fail_if_success (conv => arg 3; arg 34)); with_reducible refine Apart.over ?_ rfl rfl ?_ ?_ ?_ ?_)
      | (extract_lets +onlyGivenNames z
         first
         | (refine Apart.cut (m := m) (r := r) (z := z) ?_ ?_; rotate_left; clear_value z; intro _; rotate_left; unfold z; clear z)
         | clear_value z)
      | with_reducible apply openOutputs_apart
      | with_reducible apply raise_apart
      | with_reducible apply ApartO.next
      | with_reducible rfl

theorem discrepancy_apart {m : Bool} {r : State} (s : State) (n lagging : Nat) (h : Apart m r s) : Apart m r (discrepancy s n lagging) := by
  unfold discrepancy
  repeat' first
      | with_reducible assumption
      | (extract_lets +onlyGivenNames z; refine Apart.cut (m := m) (r := r) (z := z) ?_ ?_; rotate_left; clear_value z; intro _; rotate_left; unfold z; clear z)
      | with_reducible apply updInput_apart
      | with_reducible apply raise_apart

theorem execSafetyChannelChange_apart {m : Bool} {r : State} (input channel : Nat) (change : SampleRun) (s : State) (h : Apart m r s) :
    ApartO m r (execSafetyChannelChange input channel change s) := by
  unfold execSafetyChannelChange
  repeat' first
      | with_reducible assumption
      | ((fail_if_success fail_if_success (conv => arg 3; arg 3)); with_reducible apply Apart.ite)
      | (extract_lets +onlyGivenNames z
         first
         | (refine Apart.cut (m := m) (r := r) (z := z) ?_ ?_; rotate_left; clear_value z; intro _; rotate_left; unfold z; clear z)
         | clear_value z)
      | with_reducible apply updInput_apart
      | with_reducible apply raise_apart
      | with_reducible apply discrepancy_apart
      | with_reducible apply ApartO.next
      | split

theorem execSiDiscrepancy_apart {m : Bool} {r : State} (input : Nat) (s : State) (h : Apart m r s) :
    ApartO m r (execSiDiscrepancy input s) := by
  unfold execSiDiscrepancy
  repeat' first
      | with_reducible assumption
      | ((fail_if_success fail_if_success (conv => arg 3; arg 3)); with_reducible apply Apart.ite)
      | with_reducible apply discrepancy_apart
      | with_reducible apply ApartO.next
      | split

theorem execHvilSlot_apart {m : Bool} {r : State} (inPulse inOff : Nat) (outLow : Bool) (s : State) (h : Apart m r s) :
    ApartO m r (execHvilSlot inPulse inOff outLow s) := by
  unfold execHvilSlot
  repeat' first
      | with_reducible assumption
      | with_reducible exact id
      | (intro _; with_reducible rfl)
      | ((fail_if_success fail_if_success (conv => arg 3; arg 3)); with_reducible apply Apart.ite)
      | ((fail_if_success fail_if_success (conv => arg 3; arg 34)); with_reducible refine Apart.over ?_ rfl rfl ?_ ?_ ?_ ?_)
      | (extract_lets +onlyGivenNames z
         first
         | (refine Apart.cut (m := m) (r := r) (z := z) ?_ ?_; rotate_left; clear_value z; intro _; rotate_left; unfold z; clear z)
         | (unfold z; clear z))
      | with_reducible apply raise_apart
      | with_reducible apply ApartO.next
      | with_reducible rfl

theorem stuckOn_apart {m : Bool} {r : State} (s : State) (n : Nat) (h : Apart m r s) : Apart m r (stuckOn s n) := by
  unfold stuckOn
  repeat' first
      | with_reducible assumption
      | with_reducible exact id
      | (intro _; with_reducible rfl)
      | ((fail_if_success fail_if_success (conv => arg 3; arg 34)); with_reducible refine Apart.over ?_ rfl rfl ?_ ?_ ?_ ?_)
      | (extract_lets +onlyGivenNames z
         first
         | (refine Apart.cut (m := m) (r := r) (z := z) ?_ ?_; rotate_left; clear_value z; intro _; rotate_left; unfold z; clear z)
         | clear_value z)
      | with_reducible apply openOutputs_apart
      | with_reducible apply raise_apart
      | with_reducible rfl

theorem stuckOff_apart {m : Bool} {r : State} (s : State) (n : Nat) (h : Apart m r s) : Apart m r (stuckOff s n) := by
  unfold stuckOff
  repeat' first
      | with_reducible assumption
      | with_reducible apply raise_apart
      | with_reducible apply openOutputs_apart

theorem setFb_apart {m : Bool} {r : State} (s : State) (n : Nat) (fb : Bool) (h : Apart m r s) : Apart m r (setFb s n fb) := by
  unfold setFb
  exact .over h rfl rfl id rfl id fun _ => rfl

theorem execSoFeedbackCheck_apart {m : Bool} {r : State} (output : Nat) (fb : Bool) (s : State) (h : Apart m r s) :
    ApartO m r (execSoFeedbackCheck output fb s) := by
  unfold execSoFeedbackCheck
  repeat' first
      | with_reducible assumption
      | ((fail_if_success fail_if_success (conv => arg 3; arg 3)); with_reducible apply Apart.ite)
      | (extract_lets +onlyGivenNames z
         first
         | (refine Apart.cut (m := m) (r := r) (z := z) ?_ ?_; rotate_left; clear_value z; intro _; rotate_left; unfold z; clear z)
         | clear_value z)
      | with_reducible apply setFb_apart
      | with_reducible apply finishClear_apart
      | with_reducible apply stuckOff_apart
      | with_reducible apply stuckOn_apart
      | with_reducible apply ApartO.next

theorem execOffPulseTest_apart {m : Bool} {r : State} (output : Nat) (s : State) (h : Apart m r s) :
    ApartO m r (execOffPulseTest output s) := by
  unfold execOffPulseTest
  repeat' first
      | with_reducible assumption
      | with_reducible exact id
      | (intro _; with_reducible rfl)
      | ((fail_if_success fail_if_success (conv => arg 3; arg 3)); with_reducible apply Apart.ite)
      | ((fail_if_success fail_if_success (conv => arg 3; arg 34)); with_reducible refine Apart.over ?_ rfl rfl ?_ ?_ ?_ ?_)
      | (extract_lets +onlyGivenNames z; clear_value z)
      | with_reducible apply ApartO.next
      | with_reducible rfl

theorem endTest_apart {m : Bool} {r : State} (s : State) (n : Nat) (h : Apart m r s) : Apart m r (endTest s n) := by
  unfold endTest
  exact .over h rfl rfl id rfl id fun _ => rfl

theorem execOffPulseTestEnd_apart {m : Bool} {r : State} (output : Nat) (sawLow sawHigh : Bool) (s : State) (h : Apart m r s) :
    ApartO m r (execOffPulseTestEnd output sawLow sawHigh s) := by
  unfold execOffPulseTestEnd
  repeat' first
      | with_reducible assumption
      | ((fail_if_success fail_if_success (conv => arg 3; arg 3)); with_reducible apply Apart.ite)
      | (extract_lets +onlyGivenNames z; refine Apart.cut (m := m) (r := r) (z := z) ?_ ?_; rotate_left; clear_value z; intro _; rotate_left; unfold z; clear z)
      | with_reducible apply setFb_apart
      | with_reducible apply endTest_apart
      | with_reducible apply stuckOn_apart
      | with_reducible apply stuckOff_apart
      | with_reducible apply ApartO.next
      | split

theorem execSafetyClockCheck_apart {m : Bool} {r : State} (error : Int) (s : State) (h : Apart m r s) :
    ApartO m r (execSafetyClockCheck error s) := by
  unfold execSafetyClockCheck
  repeat' first
      | with_reducible assumption
      | with_reducible exact id
      | (intro _; with_reducible rfl)
      | ((fail_if_success fail_if_success (conv => arg 3; arg 3)); with_reducible apply Apart.ite)
      | ((fail_if_success fail_if_success (conv => arg 3; arg 34)); with_reducible refine Apart.over ?_ rfl rfl ?_ ?_ ?_ ?_)
      | (extract_lets +onlyGivenNames z
         first
         | (refine Apart.cut (m := m) (r := r) (z := z) ?_ ?_; rotate_left; clear_value z; intro _; rotate_left; unfold z; clear z)
         | clear_value z)
      | with_reducible apply raise_apart
      | with_reducible apply openOutputs_apart
      | with_reducible apply ApartO.next
      | with_reducible rfl

theorem execGraceExpired_apart {m : Bool} {r : State} (die cell : Nat) (under : Bool) (s : State) (h : Apart m r s) :
    ApartO m r (execGraceExpired die cell under s) := by
  unfold execGraceExpired
  repeat' first
      | with_reducible assumption
      | with_reducible exact id
      | (intro _; with_reducible rfl)
      | ((fail_if_success fail_if_success (conv => arg 3; arg 3)); with_reducible apply Apart.ite)
      | ((fail_if_success fail_if_success (conv => arg 3; arg 34)); with_reducible refine Apart.over ?_ rfl rfl ?_ ?_ ?_ ?_)
      | (extract_lets +onlyGivenNames z
         first
         | (refine Apart.cut (m := m) (r := r) (z := z) ?_ ?_; rotate_left; clear_value z; intro _; rotate_left; unfold z; clear z)
         | clear_value z)
      | with_reducible apply raise_apart
      | with_reducible apply ApartO.next
      | with_reducible rfl
      | split

end Sys2Proof.Machine
end

