-- ==== Sys2Proof/Laws/ApartCompare.lean ====
section
/-! SUPPORT. Each operation of Machine/Compare keeps `Apart`. -/
set_option Elab.async false
set_option linter.unusedTactic false
namespace Sys2Proof.Machine

theorem graceStart_apart {m : Bool} {r : State} (s : State) (die cell : Nat) (under : Bool) (h : Apart m r s) :
    Apart m r (graceStart s die cell under) := by
  unfold graceStart
  exact .over h rfl rfl id rfl id fun _ => rfl

theorem tripComp_apart {m : Bool} {r : State} (s : State) (die cell : Nat) (under : Bool) (h : Apart m r s) :
    Apart m r (tripComp s die cell under) := by
  unfold tripComp
  repeat' first
      | with_reducible assumption
      | ((fail_if_success fail_if_success (conv => arg 3; arg 3)); with_reducible apply Apart.ite)
      | (extract_lets +onlyGivenNames z; refine Apart.cut (m := m) (r := r) (z := z) ?_ ?_; rotate_left; clear_value z; intro _; rotate_left; unfold z; clear z)
      | with_reducible apply endFree_apart
      | with_reducible apply graceStart_apart
      | with_reducible apply raise_apart

theorem graceRead_apart {m : Bool} {r : State} (s : State) (die cell : Nat) (uv : Int) (c : Comp) (h : Apart m r s) :
    Apart m r (graceRead s die cell uv c) := by
  unfold graceRead
  repeat' first
      | with_reducible assumption
      | with_reducible exact id
      | (intro _; with_reducible rfl)
      | intro _
      | ((fail_if_success fail_if_success (conv => arg 3; arg 3)); with_reducible apply Apart.ite)
      | ((fail_if_success fail_if_success (conv => arg 3; arg 34)); with_reducible refine Apart.over ?_ rfl rfl ?_ ?_ ?_ ?_)
      | (extract_lets +onlyGivenNames z
         first
         | (refine Apart.cut (m := m) (r := r) (z := z) ?_ ?_; rotate_left; clear_value z; intro _; rotate_left; unfold z; clear z)
         | clear_value z)
      | with_reducible apply raise_apart
      | with_reducible apply Apart.foldl
      | with_reducible rfl

theorem endGuard_apart {m : Bool} {r : State} (s : State) (die cell : Nat) (uv : Int) (h : Apart m r s) :
    Apart m r (endGuard s die cell uv) := by
  unfold endGuard
  repeat' first
      | with_reducible assumption
      | ((fail_if_success fail_if_success (conv => arg 3; arg 3)); with_reducible apply Apart.ite)
      | (extract_lets +onlyGivenNames z; clear_value z)
      | with_reducible apply raise_apart
      | with_reducible apply endFree_apart
      | split

theorem diagReading_apart {m : Bool} {r : State} (s : State) (die cell : Nat) (uv : Int) (h : Apart m r s) :
    Apart m r (diagReading s die cell uv) := by
  unfold diagReading
  repeat' first
      | with_reducible assumption
      | (intro _; with_reducible rfl)
      | ((fail_if_success fail_if_success (conv => arg 3; arg 3)); with_reducible apply Apart.ite)
      | (extract_lets +onlyGivenNames z
         first
         | (refine Apart.cut (m := m) (r := r) (z := z) ?_ ?_; rotate_left; clear_value z; intro _; rotate_left; unfold z; clear z)
         | clear_value z)
      | with_reducible apply raise_apart
      | with_reducible apply graceRead_apart
      | with_reducible apply tripComp_apart
      | with_reducible apply endGuard_apart
      | with_reducible apply State.updDie_apart
      | split

theorem takeHeadRole_apart {m : Bool} {r : State} (s : State) (h : Apart m r s) : Apart m r (takeHeadRole s) := by
  unfold takeHeadRole
  repeat' first
      | with_reducible assumption
      | with_reducible exact id
      | (intro _; with_reducible rfl)
      | ((fail_if_success fail_if_success (conv => arg 3; arg 3)); with_reducible apply Apart.ite)
      | ((fail_if_success fail_if_success (conv => arg 3; arg 34)); with_reducible refine Apart.over ?_ rfl rfl ?_ ?_ ?_ ?_)
      | (extract_lets +onlyGivenNames z; clear_value z)
      | with_reducible apply raise_apart
      | with_reducible rfl

theorem thermalDollies_apart {m : Bool} {r : State} (s : State) (die : Nat) (h : Apart m r s) : Apart m r (thermalDollies s die) := by
  unfold thermalDollies
  repeat' first
      | with_reducible assumption
      | (intro _; with_reducible rfl)
      | with_reducible apply endDie_apart
      | with_reducible apply State.updDie_apart

theorem ownAction_apart {m : Bool} {r : State} (s : State) (die kind detail : Nat) (h : Apart m r s) :
    Apart m r (ownAction s die kind detail) := by
  unfold ownAction
  repeat' first
      | with_reducible assumption
      | with_reducible exact id
      | (intro _; with_reducible rfl)
      | ((fail_if_success fail_if_success (conv => arg 3; arg 34)); with_reducible refine Apart.over ?_ rfl rfl ?_ ?_ ?_ ?_)
      | (extract_lets +onlyGivenNames z; clear_value z)
      | with_reducible apply thermalDollies_apart
      | with_reducible apply updInput_apart
      | with_reducible apply openOutputs_apart
      | with_reducible apply wdIssue_apart
      | with_reducible apply State.draw_apart
      | with_reducible apply capture_apart
      | with_reducible apply warmRestart_apart
      | with_reducible apply State.updDie_apart
      | with_reducible rfl
      | split

end Sys2Proof.Machine
end

