-- ==== Sys2Proof/Laws/ApartConvert.lean ====
section
/-! SUPPORT. Each operation of Machine/Convert keeps `Apart`. -/
set_option Elab.async false
set_option linter.unusedTactic false
namespace Sys2Proof.Machine

theorem noteGateAt_apart {m : Bool} {r : State} (s : State) (die cell kind : Nat) (t : Tick) (h : Apart m r s) :
    Apart m r (noteGateAt s die cell kind t) := by
  unfold noteGateAt
  repeat' first
      | with_reducible assumption
      | (intro _; with_reducible rfl)
      | with_reducible apply State.updDie_apart

theorem noteGate_apart {m : Bool} {r : State} (s : State) (die cell kind : Nat) (h : Apart m r s) :
    Apart m r (noteGate s die cell kind) := by
  unfold noteGate
  repeat' first
      | with_reducible assumption
      | with_reducible apply noteGateAt_apart

end Sys2Proof.Machine
end

