-- ==== Sys2Proof/Laws/ApartSweepRows.lean ====
section
/-! SUPPORT. Each operation of Machine/SweepRows keeps `Apart`. -/
set_option Elab.async false
set_option linter.unusedTactic false
namespace Sys2Proof.Machine

/-- A fold over a die that keeps its code. -/
theorem foldl_code {α : Type} {f : SegDie → α → SegDie} (g : ∀ d x, (f d x).code = d.code) (l : List α) (d : SegDie) :
    (l.foldl f d).code = d.code := by
  induction l generalizing d with
  | nil => rfl
  | cons x l ih => exact (ih _).trans (g d x)

theorem xcheckSweep_code (d : SegDie) (m : DieMeas) (cells : List Nat) : (xcheckSweep d m cells).code = d.code := by
  unfold xcheckSweep
  extract_lets d'
  split
  · rfl
  · refine foldl_code (fun d c => ?_) _ _
    split
    · split <;> rfl
    · rfl

theorem execSetSequence_apart {m : Bool} {r : State} (h0 : Hdr) (dieMask : Nat) (entries : List SeqEntry) (s : State) (h : Apart m r s) :
    ApartO m r (execSetSequence h0 dieMask entries s) := by
  unfold execSetSequence
  repeat' first
      | with_reducible assumption
      | intro _
      | ((fail_if_success fail_if_success (conv => arg 3; arg 3)); with_reducible apply Apart.ite)
      | (extract_lets +onlyGivenNames z; clear_value z)
      | with_reducible apply runCmd_apart
      | with_reducible apply refuse_apart
      | with_reducible apply switchCmd_apart
      | with_reducible apply ApartO.next

theorem execGetSequence_apart {m : Bool} {r : State} (h0 : Hdr) (die : Nat) (s : State) (h : Apart m r s) :
    ApartO m r (execGetSequence h0 die s) := by
  unfold execGetSequence
  repeat' first
      | with_reducible assumption
      | intro _
      | with_reducible apply runCmd_apart
      | with_reducible apply refuse_apart
      | with_reducible apply reply_apart
      | with_reducible apply ApartO.next
      | split

theorem execSetTrigger_apart {m : Bool} {r : State} (h0 : Hdr) (source edge watch delay period phase : Nat) (s : State) (h : Apart m r s) :
    ApartO m r (execSetTrigger h0 source edge watch delay period phase s) := by
  unfold execSetTrigger
  repeat' first
      | with_reducible assumption
      | intro _
      | ((fail_if_success fail_if_success (conv => arg 3; arg 3)); with_reducible apply Apart.ite)
      | with_reducible apply runCmd_apart
      | with_reducible apply refuse_apart
      | with_reducible apply switchCmd_apart
      | with_reducible apply ApartO.next

theorem execScheduleClappers_apart {m : Bool} {r : State} (h0 : Hdr) (op : Nat) (times : List Nat) (s : State) (h : Apart m r s) :
    ApartO m r (execScheduleClappers h0 op times s) := by
  unfold execScheduleClappers
  repeat' first
      | with_reducible assumption
      | with_reducible exact id
      | (intro _; with_reducible rfl)
      | intro _
      | ((fail_if_success fail_if_success (conv => arg 3; arg 3)); with_reducible apply Apart.ite)
      | ((fail_if_success fail_if_success (conv => arg 3; arg 34)); with_reducible refine Apart.over ?_ rfl rfl ?_ ?_ ?_ ?_)
      | (extract_lets +onlyGivenNames z; clear_value z)
      | with_reducible apply runCmd_apart
      | with_reducible apply reply_apart
      | with_reducible apply refuse_apart
      | with_reducible apply ApartO.next
      | with_reducible rfl

theorem execSetSchedulingMode_apart {m : Bool} {r : State} (h0 : Hdr) (mode : Nat) (s : State) (h : Apart m r s) :
    ApartO m r (execSetSchedulingMode h0 mode s) := by
  unfold execSetSchedulingMode
  repeat' first
      | with_reducible assumption
      | intro _
      | ((fail_if_success fail_if_success (conv => arg 3; arg 3)); with_reducible apply Apart.ite)
      | with_reducible apply runCmd_apart
      | with_reducible apply refuse_apart
      | with_reducible apply switchCmd_apart
      | with_reducible apply ApartO.next

theorem execSetDollyInteraction_apart {m : Bool} {r : State} (h0 : Hdr) (dieMask mode : Nat) (s : State) (h : Apart m r s) :
    ApartO m r (execSetDollyInteraction h0 dieMask mode s) := by
  unfold execSetDollyInteraction
  repeat' first
      | with_reducible assumption
      | intro _
      | ((fail_if_success fail_if_success (conv => arg 3; arg 3)); with_reducible apply Apart.ite)
      | with_reducible apply runCmd_apart
      | with_reducible apply refuse_apart
      | with_reducible apply switchCmd_apart
      | with_reducible apply ApartO.next

theorem stopSweeps_apart {m : Bool} {r : State} (s : State) (h1 : Hdr) (h : Apart m r s) : Apart m r (stopSweeps s h1) := by
  unfold stopSweeps
  repeat' first
      | with_reducible assumption
      | with_reducible exact id
      | (intro _; with_reducible rfl)
      | ((fail_if_success fail_if_success (conv => arg 3; arg 3)); with_reducible apply Apart.ite)
      | ((fail_if_success fail_if_success (conv => arg 3; arg 34)); with_reducible refine Apart.over ?_ rfl rfl ?_ ?_ ?_ ?_)
      | (extract_lets +onlyGivenNames z
         first
         | (refine Apart.cut (m := m) (r := r) (z := z) ?_ ?_; rotate_left; clear_value z; intro _; rotate_left; unfold z; clear z)
         | clear_value z)
      | with_reducible apply completeOp_apart
      | with_reducible rfl
      | split

theorem startSweeps_apart {m : Bool} {r : State} (s : State) (h1 : Hdr) (h : Apart m r s) : Apart m r (startSweeps s h1) := by
  unfold startSweeps
  repeat' first
      | with_reducible assumption
      | with_reducible exact id
      | (intro _; with_reducible rfl)
      | ((fail_if_success fail_if_success (conv => arg 3; arg 3)); with_reducible apply Apart.ite)
      | ((fail_if_success fail_if_success (conv => arg 3; arg 34)); with_reducible refine Apart.over ?_ rfl rfl ?_ ?_ ?_ ?_)
      | (extract_lets +onlyGivenNames z; refine Apart.cut (m := m) (r := r) (z := z) ?_ ?_; rotate_left; clear_value z; intro _; rotate_left; unfold z; clear z)
      | with_reducible apply completeOp_apart
      | with_reducible rfl
      | split

theorem execSweepControl_apart {m : Bool} {r : State} (h0 : Hdr) (run : Nat) (s : State) (h : Apart m r s) :
    ApartO m r (execSweepControl h0 run s) := by
  unfold execSweepControl
  repeat' first
      | with_reducible assumption
      | intro _
      | ((fail_if_success fail_if_success (conv => arg 3; arg 3)); with_reducible apply Apart.ite)
      | with_reducible apply runCmd_apart
      | with_reducible apply refuse_apart
      | with_reducible apply startOp_apart
      | with_reducible apply stopSweeps_apart
      | with_reducible apply startSweeps_apart
      | with_reducible apply ApartO.next

theorem execGetSweepStatus_apart {m : Bool} {r : State} (h0 : Hdr) (s : State) (h : Apart m r s) :
    ApartO m r (execGetSweepStatus h0 s) := by
  unfold execGetSweepStatus
  repeat' first
      | with_reducible assumption
      | intro _
      | with_reducible apply runCmd_apart
      | with_reducible apply reply_apart
      | with_reducible apply ApartO.next

theorem execSetSelftest_apart {m : Bool} {r : State} (h0 : Hdr) (period : Nat) (s : State) (h : Apart m r s) :
    ApartO m r (execSetSelftest h0 period s) := by
  unfold execSetSelftest
  repeat' first
      | with_reducible assumption
      | with_reducible exact id
      | (intro _; with_reducible rfl)
      | intro _
      | ((fail_if_success fail_if_success (conv => arg 3; arg 34)); with_reducible refine Apart.over ?_ rfl rfl ?_ ?_ ?_ ?_)
      | (extract_lets +onlyGivenNames z; clear_value z)
      | with_reducible apply runCmd_apart
      | with_reducible apply reply_apart
      | with_reducible apply ApartO.next
      | with_reducible rfl

theorem applyCal_apart {m : Bool} {r : State} (s : State) (all : Bool) (h : Apart m r s) : Apart m r (applyCal s all) := by
  unfold applyCal
  repeat' first
      | with_reducible assumption
      | with_reducible exact id
      | (intro _; with_reducible rfl)
      | intro _
      | ((fail_if_success fail_if_success (conv => arg 3; arg 34)); with_reducible refine Apart.over ?_ rfl rfl ?_ ?_ ?_ ?_)
      | (extract_lets +onlyGivenNames z
         first
         | (refine Apart.cut (m := m) (r := r) (z := z) ?_ ?_; rotate_left; clear_value z; intro _; rotate_left; unfold z; clear z)
         | clear_value z)
      | with_reducible apply completeOpFlash_apart
      | with_reducible apply Apart.foldl
      | with_reducible rfl
      | split

theorem execModeSwitchTakesEffect_apart {m : Bool} {r : State} (s : State) (h : Apart m r s) :
    ApartO m r (execModeSwitchTakesEffect s) := by
  unfold execModeSwitchTakesEffect
  repeat' first
      | with_reducible assumption
      | ((fail_if_success fail_if_success (conv => arg 3; arg 3)); with_reducible apply Apart.ite)
      | with_reducible apply applyCal_apart
      | with_reducible apply boundarySwitches_apart
      | with_reducible apply allSwitches_apart
      | with_reducible apply ApartO.next

theorem clapEvent_apart {m : Bool} {r : State} (s : State) (event clap : Nat) (h : Apart m r s) : Apart m r (clapEvent s event clap) := by
  unfold clapEvent
  repeat' first
      | with_reducible assumption
      | with_reducible exact id
      | (intro _; with_reducible rfl)
      | ((fail_if_success fail_if_success (conv => arg 3; arg 3)); with_reducible apply Apart.ite)
      | ((fail_if_success fail_if_success (conv => arg 3; arg 34)); with_reducible refine Apart.over ?_ rfl rfl ?_ ?_ ?_ ?_)
      | (extract_lets +onlyGivenNames z
         first
         | (refine Apart.cut (m := m) (r := r) (z := z) ?_ ?_; rotate_left; clear_value z; intro _; rotate_left; unfold z; clear z)
         | clear_value z)
      | with_reducible apply raise_apart
      | with_reducible rfl

theorem clapEdge_apart {m : Bool} {r : State} (s : State) (rising : Bool) (h : Apart m r s) : Apart m r (clapEdge s rising) := by
  unfold clapEdge
  repeat' first
      | with_reducible assumption
      | ((fail_if_success fail_if_success (conv => arg 3; arg 3)); with_reducible apply Apart.ite)
      | (extract_lets +onlyGivenNames z
         first
         | (refine Apart.cut (m := m) (r := r) (z := z) ?_ ?_; rotate_left; clear_value z; intro _; rotate_left; unfold z; clear z)
         | clear_value z)
      | with_reducible apply sendSet_apart
      | with_reducible apply clapEvent_apart

theorem execClapPinEdge_apart {m : Bool} {r : State} (rising : Bool) (s : State) (h : Apart m r s) :
    ApartO m r (execClapPinEdge rising s) := by
  unfold execClapPinEdge
  repeat' first
      | with_reducible assumption
      | with_reducible exact id
      | (intro _; with_reducible rfl)
      | ((fail_if_success fail_if_success (conv => arg 3; arg 3)); with_reducible apply Apart.ite)
      | ((fail_if_success fail_if_success (conv => arg 3; arg 34)); with_reducible refine Apart.over ?_ rfl rfl ?_ ?_ ?_ ?_)
      | (extract_lets +onlyGivenNames z; clear_value z)
      | with_reducible apply clapEdge_apart
      | with_reducible apply ApartO.next
      | with_reducible rfl

theorem takeTimes_apart {m : Bool} {r : State} (s : State) (ts : List Nat) (h : Apart m r s) : Apart m r (takeTimes s ts) := by
  unfold takeTimes
  repeat' first
      | with_reducible assumption
      | with_reducible exact id
      | (intro _; with_reducible rfl)
      | intro _
      | ((fail_if_success fail_if_success (conv => arg 3; arg 3)); with_reducible apply Apart.ite)
      | ((fail_if_success fail_if_success (conv => arg 3; arg 34)); with_reducible refine Apart.over ?_ rfl rfl ?_ ?_ ?_ ?_)
      | with_reducible apply raise_apart
      | with_reducible apply Apart.foldl
      | with_reducible rfl

theorem execScheduleSend_apart {m : Bool} {r : State} (s : State) (h : Apart m r s) : ApartO m r (execScheduleSend s) := by
  unfold execScheduleSend
  repeat' first
      | with_reducible assumption
      | with_reducible exact id
      | (intro _; with_reducible rfl)
      | ((fail_if_success fail_if_success (conv => arg 3; arg 3)); with_reducible apply Apart.ite)
      | ((fail_if_success fail_if_success (conv => arg 3; arg 34)); with_reducible refine Apart.over ?_ rfl rfl ?_ ?_ ?_ ?_)
      | (extract_lets +onlyGivenNames z
         first
         | (refine Apart.cut (m := m) (r := r) (z := z) ?_ ?_; rotate_left; clear_value z; intro _; rotate_left; unfold z; clear z)
         | (unfold z; clear z))
      | with_reducible apply takeTimes_apart
      | with_reducible apply sendFrame_apart
      | with_reducible apply ApartO.next
      | with_reducible rfl
      | split

theorem beginSweeps_apart {m : Bool} {r : State} (s : State) (h : Apart m r s) : Apart m r (beginSweeps s) := by
  unfold beginSweeps
  repeat' first
      | with_reducible assumption
      | with_reducible exact id
      | (intro _; with_reducible rfl)
      | ((fail_if_success fail_if_success (conv => arg 3; arg 3)); with_reducible apply Apart.ite)
      | ((fail_if_success fail_if_success (conv => arg 3; arg 34)); with_reducible refine Apart.over ?_ rfl rfl ?_ ?_ ?_ ?_)
      | (extract_lets +onlyGivenNames z
         first
         | (refine Apart.cut (m := m) (r := r) (z := z) ?_ ?_; rotate_left; clear_value z; intro _; rotate_left; unfold z; clear z)
         | clear_value z)
      | with_reducible apply completeOp_apart
      | with_reducible apply restartFilters_apart
      | with_reducible rfl
      | split

theorem skipClapper_apart {m : Bool} {r : State} (s : State) (h : Apart m r s) : Apart m r (skipClapper s) := by
  unfold skipClapper
  repeat' first
      | with_reducible assumption
      | with_reducible exact id
      | (intro _; with_reducible rfl)
      | ((fail_if_success fail_if_success (conv => arg 3; arg 34)); with_reducible refine Apart.over ?_ rfl rfl ?_ ?_ ?_ ?_)
      | (extract_lets +onlyGivenNames z; clear_value z)
      | with_reducible apply raise_apart
      | with_reducible rfl

theorem pushSample_apart {m : Bool} {r : State} (s : State) (die input : Nat) (x : Sample) (h : Apart m r s) :
    Apart m r (pushSample s die input x) := by
  unfold pushSample
  repeat' first
      | with_reducible assumption
      | (intro _; with_reducible rfl)
      | with_reducible apply State.updDie_apart

theorem rawStream_apart {m : Bool} {r : State} (s : State) (d : SegDie) (input : Nat) (word : BitVec 32) (h : Apart m r s) :
    Apart m r (rawStream s d input word) := by
  unfold rawStream
  repeat' first
      | with_reducible assumption
      | with_reducible exact id
      | (intro _; with_reducible rfl)
      | ((fail_if_success fail_if_success (conv => arg 3; arg 3)); with_reducible apply Apart.ite)
      | ((fail_if_success fail_if_success (conv => arg 3; arg 34)); with_reducible refine Apart.over ?_ rfl rfl ?_ ?_ ?_ ?_)
      | with_reducible rfl

theorem runSlot_apart {m : Bool} {r : State} (die : Nat) (m1 : DieMeas) (clap : Nat) (acc : State × SlotRun) (x : Slot)
    (h : Apart m r acc.1) : Apart m r (runSlot die m1 clap acc x).1 := by
  unfold runSlot
  repeat' first
      | with_reducible assumption
      | (intro _; with_reducible rfl)
      | (extract_lets +onlyGivenNames z
         first
         | (refine Apart.cut (m := m) (r := r) (z := z) ?_ ?_; rotate_left; clear_value z; intro _; rotate_left; unfold z; clear z)
         | clear_value z)
      | with_reducible apply pushSample_apart
      | with_reducible apply rawStream_apart
      | with_reducible apply raise_apart
      | with_reducible apply State.updDie_apart
      | with_reducible apply Apart.ite_fst
      | split

theorem suspectCellSeen_apart {m : Bool} {r : State} (s : State) (die cell : Nat) (bad : Bool) (h : Apart m r s) :
    Apart m r (suspectCellSeen s die cell bad) := by
  unfold suspectCellSeen
  repeat' first
      | with_reducible assumption
      | (intro _; with_reducible rfl)
      | ((fail_if_success fail_if_success (conv => arg 3; arg 3)); with_reducible apply Apart.ite)
      | (extract_lets +onlyGivenNames z; refine Apart.cut (m := m) (r := r) (z := z) ?_ ?_; rotate_left; clear_value z; intro _; rotate_left; unfold z; clear z)
      | with_reducible apply raise_apart
      | with_reducible apply State.updDie_apart
      | split

theorem stepWindows_apart {m : Bool} {r : State} (s : State) (die : Nat) (bad : List Nat) (h : Apart m r s) :
    Apart m r (stepWindows s die bad) := by
  unfold stepWindows
  exact .over h rfl rfl id rfl id fun _ => rfl

theorem windowSweep_apart {m : Bool} {r : State} (s : State) (d : SegDie) (m2 : DieMeas) (prev : List Int) (cells : List Nat)
    (h : Apart m r s) : Apart m r (windowSweep s d m2 prev cells) := by
  unfold windowSweep
  repeat' first
      | with_reducible assumption
      | intro _
      | ((fail_if_success fail_if_success (conv => arg 3; arg 3)); with_reducible apply Apart.ite)
      | (extract_lets +onlyGivenNames z; clear_value z)
      | with_reducible apply stepWindows_apart
      | with_reducible apply suspectCellSeen_apart
      | with_reducible apply Apart.foldl

theorem dieSweep_apart {m : Bool} {r : State} (clap : Nat) (meas : List DieMeas) (s : State) (code : Nat) (h : Apart m r s) :
    Apart m r (dieSweep clap meas s code) := by
  unfold dieSweep
  repeat' first
      | with_reducible assumption
      | (intro _; with_reducible rfl)
      | intro _
      | ((fail_if_success fail_if_success (conv => arg 3; arg 3)); with_reducible apply Apart.ite)
      | (extract_lets +onlyGivenNames z
         first
         | (refine Apart.cut (m := m) (r := r) (z := z) ?_ ?_; rotate_left; clear_value z; intro _; rotate_left; unfold z; clear z)
         | (refine Apart.cut_fst (m := m) (r := r) (z := z) ?_ ?_; rotate_left; clear_value z; intro _; rotate_left; unfold z; clear z)
         | (have _ : SegDie := z; unfold z; clear z)
         | clear_value z)
      | with_reducible apply runSlot_apart
      | with_reducible apply windowSweep_apart
      | with_reducible apply diagReading_apart
      | with_reducible apply State.updDie_apart
      | with_reducible apply Apart.foldl
      | with_reducible apply Apart.foldl_fst
      | split
      | exact xcheckSweep_code _ _ _

theorem substSample_apart {m : Bool} {r : State} (s : State) (h : Apart m r s) : Apart m r (substSample s) := by
  unfold substSample
  repeat' first
      | with_reducible assumption
      | with_reducible exact id
      | (intro _; with_reducible rfl)
      | ((fail_if_success fail_if_success (conv => arg 3; arg 3)); with_reducible apply Apart.ite)
      | ((fail_if_success fail_if_success (conv => arg 3; arg 34)); with_reducible refine Apart.over ?_ rfl rfl ?_ ?_ ?_ ?_)
      | (extract_lets +onlyGivenNames z; clear_value z)
      | with_reducible rfl
      | split

theorem tapStepDie_apart {m : Bool} {r : State} (t : TapRun) (s : State) (code : Nat) (h : Apart m r s) :
    Apart m r (tapStepDie t s code) := by
  unfold tapStepDie
  repeat' first
      | with_reducible assumption
      | intro _
      | (extract_lets +onlyGivenNames z; clear_value z)
      | with_reducible apply State.updDolly_apart
      | with_reducible apply Apart.foldl
      | split

theorem tapStepStart_apart {m : Bool} {r : State} (s : State) (h : Apart m r s) : Apart m r (tapStepStart s) := by
  unfold tapStepStart
  repeat' first
      | with_reducible assumption
      | with_reducible exact id
      | (intro _; with_reducible rfl)
      | intro _
      | ((fail_if_success fail_if_success (conv => arg 3; arg 3)); with_reducible apply Apart.ite)
      | ((fail_if_success fail_if_success (conv => arg 3; arg 34)); with_reducible refine Apart.over ?_ rfl rfl ?_ ?_ ?_ ?_)
      | (extract_lets +onlyGivenNames z; refine Apart.cut (m := m) (r := r) (z := z) ?_ ?_; rotate_left; clear_value z; intro _; rotate_left; unfold z; clear z)
      | with_reducible apply tapStepDie_apart
      | with_reducible apply dollyChanged_apart
      | with_reducible apply Apart.foldl
      | with_reducible rfl
      | split

theorem tapSweep_apart {m : Bool} {r : State} (s : State) (h : Apart m r s) : Apart m r (tapSweep s) := by
  unfold tapSweep
  repeat' first
      | with_reducible assumption
      | with_reducible exact id
      | (intro _; with_reducible rfl)
      | ((fail_if_success fail_if_success (conv => arg 3; arg 3)); with_reducible apply Apart.ite)
      | ((fail_if_success fail_if_success (conv => arg 3; arg 34)); with_reducible refine Apart.over ?_ rfl rfl ?_ ?_ ?_ ?_)
      | (extract_lets +onlyGivenNames z; clear_value z)
      | with_reducible rfl
      | split

theorem startSweep_apart {m : Bool} {r : State} (s : State) (clap : Nat) (meas : List DieMeas) (h : Apart m r s) :
    Apart m r (startSweep s clap meas) := by
  unfold startSweep
  repeat' first
      | with_reducible assumption
      | with_reducible exact id
      | (intro _; with_reducible rfl)
      | intro _
      | ((fail_if_success fail_if_success (conv => arg 3; arg 34)); with_reducible refine Apart.over ?_ rfl rfl ?_ ?_ ?_ ?_)
      | (extract_lets +onlyGivenNames z
         first
         | (refine Apart.cut (m := m) (r := r) (z := z) ?_ ?_; rotate_left; clear_value z; intro _; rotate_left; unfold z; clear z)
         | clear_value z)
      | with_reducible apply substSample_apart
      | with_reducible apply tapSweep_apart
      | with_reducible apply dieSweep_apart
      | with_reducible apply tapStepStart_apart
      | with_reducible apply Apart.foldl
      | with_reducible rfl

theorem execClapper_apart {m : Bool} {r : State} (meas : List DieMeas) (s : State) (h : Apart m r s) : ApartO m r (execClapper meas s) := by
  unfold execClapper
  repeat' first
      | with_reducible assumption
      | with_reducible exact id
      | (intro _; with_reducible rfl)
      | ((fail_if_success fail_if_success (conv => arg 3; arg 3)); with_reducible apply Apart.ite)
      | ((fail_if_success fail_if_success (conv => arg 3; arg 34)); with_reducible refine Apart.over ?_ rfl rfl ?_ ?_ ?_ ?_)
      | (extract_lets +onlyGivenNames z; refine Apart.cut (m := m) (r := r) (z := z) ?_ ?_; rotate_left; clear_value z; intro _; rotate_left; unfold z; clear z)
      | with_reducible apply beginSweeps_apart
      | with_reducible apply skipClapper_apart
      | with_reducible apply startSweep_apart
      | with_reducible apply ApartO.next
      | with_reducible rfl
      | split

theorem execQuietGate_apart {m : Bool} {r : State} (die dolly input : Nat) (current : Int) (s : State) (h : Apart m r s) :
    ApartO m r (execQuietGate die dolly input current s) := by
  unfold execQuietGate
  repeat' first
      | with_reducible assumption
      | (intro _; with_reducible rfl)
      | intro _
      | ((fail_if_success fail_if_success (conv => arg 3; arg 3)); with_reducible apply Apart.ite)
      | (extract_lets +onlyGivenNames z; refine Apart.cut (m := m) (r := r) (z := z) ?_ ?_; rotate_left; clear_value z; intro _; rotate_left; unfold z; clear z)
      | with_reducible apply State.updDolly_apart
      | with_reducible apply raise_apart
      | with_reducible apply State.updDie_apart
      | with_reducible apply Apart.onDie

theorem restoreMetro_apart {m : Bool} {r : State} (s : State) (h : Apart m r s) : Apart m r (restoreMetro s) := by
  unfold restoreMetro
  repeat' first
      | with_reducible assumption
      | with_reducible exact id
      | (intro _; with_reducible rfl)
      | ((fail_if_success fail_if_success (conv => arg 3; arg 3)); with_reducible apply Apart.ite)
      | ((fail_if_success fail_if_success (conv => arg 3; arg 34)); with_reducible refine Apart.over ?_ rfl rfl ?_ ?_ ?_ ?_)
      | (extract_lets +onlyGivenNames z; clear_value z)
      | with_reducible apply raise_apart
      | with_reducible rfl

theorem takeBoundary_apart {m : Bool} {r : State} (s : State) (h : Apart m r s) : Apart m r (takeBoundary s) := by
  unfold takeBoundary
  repeat' first
      | with_reducible assumption
      | with_reducible exact id
      | (intro _; with_reducible rfl)
      | ((fail_if_success fail_if_success (conv => arg 3; arg 3)); with_reducible apply Apart.ite)
      | ((fail_if_success fail_if_success (conv => arg 3; arg 34)); with_reducible refine Apart.over ?_ rfl rfl ?_ ?_ ?_ ?_)
      | (extract_lets +onlyGivenNames z
         first
         | (refine Apart.cut (m := m) (r := r) (z := z) ?_ ?_; rotate_left; clear_value z; intro _; rotate_left; unfold z; clear z)
         | clear_value z)
      | with_reducible apply restoreMetro_apart
      | with_reducible apply captureMiss_apart
      | with_reducible apply noteBad_apart
      | with_reducible apply raise_apart
      | with_reducible apply codes_map
      | with_reducible rfl

theorem finishStops_apart {m : Bool} {r : State} (s : State) (h : Apart m r s) : Apart m r (finishStops s) := by
  unfold finishStops
  repeat' first
      | with_reducible assumption
      | with_reducible exact id
      | (intro _; with_reducible rfl)
      | intro _
      | ((fail_if_success fail_if_success (conv => arg 3; arg 34)); with_reducible refine Apart.over ?_ rfl rfl ?_ ?_ ?_ ?_)
      | (extract_lets +onlyGivenNames z; clear_value z)
      | with_reducible apply completeOp_apart
      | with_reducible apply Apart.foldl
      | with_reducible rfl

theorem cancelStops_apart {m : Bool} {r : State} (s : State) (h : Apart m r s) : Apart m r (cancelStops s) := by
  unfold cancelStops
  repeat' first
      | with_reducible assumption
      | with_reducible exact id
      | (intro _; with_reducible rfl)
      | intro _
      | ((fail_if_success fail_if_success (conv => arg 3; arg 34)); with_reducible refine Apart.over ?_ rfl rfl ?_ ?_ ?_ ?_)
      | (extract_lets +onlyGivenNames z; clear_value z)
      | with_reducible apply completeOp_apart
      | with_reducible apply Apart.foldl
      | with_reducible rfl

theorem stopAtBoundary_apart {m : Bool} {r : State} (s : State) (h : Apart m r s) : Apart m r (stopAtBoundary s) := by
  unfold stopAtBoundary
  repeat' first
      | with_reducible assumption
      | with_reducible exact id
      | (intro _; with_reducible rfl)
      | ((fail_if_success fail_if_success (conv => arg 3; arg 3)); with_reducible apply Apart.ite)
      | ((fail_if_success fail_if_success (conv => arg 3; arg 34)); with_reducible refine Apart.over ?_ rfl rfl ?_ ?_ ?_ ?_)
      | (extract_lets +onlyGivenNames z
         first
         | (refine Apart.cut (m := m) (r := r) (z := z) ?_ ?_; rotate_left; clear_value z; intro _; rotate_left; unfold z; clear z)
         | clear_value z)
      | with_reducible apply cancelStops_apart
      | with_reducible apply finishStops_apart
      | with_reducible apply endSession_apart
      | with_reducible rfl

theorem thermalAtBoundary_apart {m : Bool} {r : State} (s : State) (h : Apart m r s) : Apart m r (thermalAtBoundary s) := by
  unfold thermalAtBoundary
  repeat' first
      | with_reducible assumption
      | with_reducible exact id
      | (intro _; with_reducible rfl)
      | intro _
      | ((fail_if_success fail_if_success (conv => arg 3; arg 34)); with_reducible refine Apart.over ?_ rfl rfl ?_ ?_ ?_ ?_)
      | with_reducible apply codes_map
      | with_reducible rfl
      | split
      | rfl

theorem execSweepEnd_apart {m : Bool} {r : State} (s : State) (h : Apart m r s) : ApartO m r (execSweepEnd s) := by
  unfold execSweepEnd
  repeat' first
      | with_reducible assumption
      | with_reducible exact id
      | (intro _; with_reducible rfl)
      | ((fail_if_success fail_if_success (conv => arg 3; arg 3)); with_reducible apply Apart.ite)
      | ((fail_if_success fail_if_success (conv => arg 3; arg 34)); with_reducible refine Apart.over ?_ rfl rfl ?_ ?_ ?_ ?_)
      | (extract_lets +onlyGivenNames z
         first
         | (refine Apart.cut (m := m) (r := r) (z := z) ?_ ?_; rotate_left; clear_value z; intro _; rotate_left; unfold z; clear z)
         | clear_value z)
      | with_reducible apply thermalAtBoundary_apart
      | with_reducible apply stopAtBoundary_apart
      | with_reducible apply takeBoundary_apart
      | with_reducible apply ApartO.next
      | with_reducible apply codes_upd

theorem execClapPinSilent_apart {m : Bool} {r : State} (s : State) (h : Apart m r s) : ApartO m r (execClapPinSilent s) := by
  unfold execClapPinSilent
  repeat' first
      | with_reducible assumption
      | with_reducible exact id
      | (intro _; with_reducible rfl)
      | ((fail_if_success fail_if_success (conv => arg 3; arg 3)); with_reducible apply Apart.ite)
      | ((fail_if_success fail_if_success (conv => arg 3; arg 34)); with_reducible refine Apart.over ?_ rfl rfl ?_ ?_ ?_ ?_)
      | (extract_lets +onlyGivenNames z; clear_value z)
      | with_reducible apply raise_apart
      | with_reducible apply ApartO.next
      | with_reducible rfl

theorem startXcheck_apart {m : Bool} {r : State} (s : State) (die : Nat) (h : Apart m r s) : Apart m r (startXcheck s die) := by
  unfold startXcheck
  repeat' first
      | with_reducible assumption
      | (intro _; with_reducible rfl)
      | with_reducible apply State.updDie_apart

theorem execSelftestStart_apart {m : Bool} {r : State} (die : Nat) (s : State) (h : Apart m r s) :
    ApartO m r (execSelftestStart die s) := by
  unfold execSelftestStart
  repeat' first
      | with_reducible assumption
      | (intro _; with_reducible rfl)
      | intro _
      | ((fail_if_success fail_if_success (conv => arg 3; arg 3)); with_reducible apply Apart.ite)
      | with_reducible apply startXcheck_apart
      | with_reducible apply State.updDie_apart
      | with_reducible apply Apart.onDie

theorem xcheckVerdict_apart {m : Bool} {r : State} (s : State) (die : Nat) (mainOff diagOff : Bool) (h : Apart m r s) :
    Apart m r (xcheckVerdict s die mainOff diagOff) := by
  unfold xcheckVerdict
  repeat' first
      | with_reducible assumption
      | (intro _; with_reducible rfl)
      | ((fail_if_success fail_if_success (conv => arg 3; arg 3)); with_reducible apply Apart.ite)
      | (extract_lets +onlyGivenNames z
         first
         | (have _ : _ → State := z; unfold z; clear z)
         | clear_value z)
      | with_reducible apply raise_apart
      | with_reducible apply State.updDie_apart

theorem execSelftestEnd_apart {m : Bool} {r : State} (die : Nat) (failStep : Option Nat) (mainOff diagOff : Bool) (s : State)
    (h : Apart m r s) : ApartO m r (execSelftestEnd die failStep mainOff diagOff s) := by
  unfold execSelftestEnd
  repeat' first
      | with_reducible assumption
      | (intro _; with_reducible rfl)
      | intro _
      | ((fail_if_success fail_if_success (conv => arg 3; arg 3)); with_reducible apply Apart.ite)
      | (extract_lets +onlyGivenNames z; refine Apart.cut (m := m) (r := r) (z := z) ?_ ?_; rotate_left; clear_value z; intro _; rotate_left; unfold z; clear z)
      | with_reducible apply raise_apart
      | with_reducible apply xcheckVerdict_apart
      | with_reducible apply startXcheck_apart
      | with_reducible apply State.updDie_apart
      | with_reducible apply Apart.onDie
      | split

theorem execRefokChange_apart {m : Bool} {r : State} (die ref : Nat) (uv : Int) (s : State) (h : Apart m r s) :
    ApartO m r (execRefokChange die ref uv s) := by
  unfold execRefokChange
  repeat' first
      | with_reducible assumption
      | (intro _; with_reducible rfl)
      | intro _
      | ((fail_if_success fail_if_success (conv => arg 3; arg 3)); with_reducible apply Apart.ite)
      | (extract_lets +onlyGivenNames z
         first
         | (refine Apart.cut (m := m) (r := r) (z := z) ?_ ?_; rotate_left; clear_value z; intro _; rotate_left; unfold z; clear z)
         | clear_value z)
      | with_reducible apply raise_apart
      | with_reducible apply State.updDie_apart
      | with_reducible apply Apart.onDie

theorem execRefStartTimeout_apart {m : Bool} {r : State} (die ref : Nat) (s : State) (h : Apart m r s) :
    ApartO m r (execRefStartTimeout die ref s) := by
  unfold execRefStartTimeout
  repeat' first
      | with_reducible assumption
      | intro _
      | ((fail_if_success fail_if_success (conv => arg 3; arg 3)); with_reducible apply Apart.ite)
      | with_reducible apply raise_apart
      | with_reducible apply Apart.onDie

theorem execStatusWordTimer_apart {m : Bool} {r : State} (die : Nat) (s : State) (h : Apart m r s) :
    ApartO m r (execStatusWordTimer die s) := by
  unfold execStatusWordTimer
  repeat' first
      | with_reducible assumption
      | (intro _; with_reducible rfl)
      | intro _
      | ((fail_if_success fail_if_success (conv => arg 3; arg 3)); with_reducible apply Apart.ite)
      | with_reducible apply State.updDie_apart
      | with_reducible apply Apart.onDie

theorem execGuardGroup_apart {m : Bool} {r : State} (die : Nat) (at_ : CellPoint) (s : State) (h : Apart m r s) :
    ApartO m r (execGuardGroup die at_ s) := by
  unfold execGuardGroup
  repeat' first
      | with_reducible assumption
      | (intro _; with_reducible rfl)
      | intro _
      | ((fail_if_success fail_if_success (conv => arg 3; arg 3)); with_reducible apply Apart.ite)
      | (extract_lets +onlyGivenNames z
         first
         | (refine Apart.cut (m := m) (r := r) (z := z) ?_ ?_; rotate_left; clear_value z; intro _; rotate_left; unfold z; clear z)
         | clear_value z)
      | with_reducible apply noteGate_apart
      | with_reducible apply diagReading_apart
      | with_reducible apply State.updDie_apart
      | with_reducible apply Apart.onDie
      | with_reducible apply Apart.foldl

end Sys2Proof.Machine
end

