-- ==== Sys2Proof/Laws/ApartCalRows.lean ====
section
/-! SUPPORT. Each operation of Machine/CalRows keeps `Apart`. -/
set_option Elab.async false
set_option linter.unusedTactic false
namespace Sys2Proof.Machine

theorem calCmd_apart {m : Bool} {r : State} (s : State) (h1 : Hdr) (op die : Nat) (body : SegDie → State) (h : Apart m r s)
    (g4 : ∀ u0, Apart m r (body u0)) : Apart m r (calCmd s h1 op die body) := by
  unfold calCmd
  repeat' first
      | with_reducible assumption
      | with_reducible apply g4
      | with_reducible apply refuse_apart
      | split

theorem execCalStart_apart {m : Bool} {r : State} (h0 : Hdr) (die input unit : Nat) (s : State) (h : Apart m r s) :
    ApartO m r (execCalStart h0 die input unit s) := by
  unfold execCalStart
  repeat' first
      | with_reducible assumption
      | with_reducible exact id
      | (intro _; with_reducible rfl)
      | intro _
      | ((fail_if_success fail_if_success (conv => arg 3; arg 3)); with_reducible apply Apart.ite)
      | ((fail_if_success fail_if_success (conv => arg 3; arg 34)); with_reducible refine Apart.over ?_ rfl rfl ?_ ?_ ?_ ?_)
      | (extract_lets +onlyGivenNames z; clear_value z)
      | with_reducible apply runCmd_apart
      | with_reducible apply calCmd_apart
      | with_reducible apply refuse_apart
      | with_reducible apply reply_apart
      | with_reducible apply ApartO.next
      | with_reducible rfl
      | split

theorem onSession_apart {m : Bool} {r : State} (s : State) (h1 : Hdr) (op : Nat) (body : SegDie → CalSession → State) (h : Apart m r s)
    (g3 : ∀ u0 u1, Apart m r (body u0 u1)) : Apart m r (onSession s h1 op body) := by
  unfold onSession
  repeat' first
      | with_reducible assumption
      | intro _
      | ((fail_if_success fail_if_success (conv => arg 3; arg 3)); with_reducible apply Apart.ite)
      | with_reducible apply g3
      | with_reducible apply refuse_apart
      | with_reducible apply calCmd_apart
      | split

theorem sessionCmd_apart {m : Bool} {r : State} (s : State) (h1 : Hdr) (op : Nat) (body : SegDie → CalSession → State) (h : Apart m r s)
    (g3 : ∀ u0 u1, Apart m r (body u0 u1)) : Apart m r (sessionCmd s h1 op body) := by
  unfold sessionCmd
  repeat' first
      | with_reducible assumption
      | intro _
      | with_reducible apply g3
      | with_reducible apply onSession_apart
      | with_reducible apply refuse_apart
      | split

theorem execCalPoint_apart {m : Bool} {r : State} (h0 : Hdr) (kind ntakes : Nat) (value : Int) (s : State) (h : Apart m r s) :
    ApartO m r (execCalPoint h0 kind ntakes value s) := by
  unfold execCalPoint
  repeat' first
      | with_reducible assumption
      | with_reducible exact id
      | (intro _; with_reducible rfl)
      | intro _
      | ((fail_if_success fail_if_success (conv => arg 3; arg 3)); with_reducible apply Apart.ite)
      | ((fail_if_success fail_if_success (conv => arg 3; arg 34)); with_reducible refine Apart.over ?_ rfl rfl ?_ ?_ ?_ ?_)
      | (extract_lets +onlyGivenNames z; clear_value z)
      | with_reducible apply runCmd_apart
      | with_reducible apply sessionCmd_apart
      | with_reducible apply refuse_apart
      | with_reducible apply startOp_apart
      | with_reducible apply ApartO.next
      | with_reducible rfl

theorem execCalCommit_apart {m : Bool} {r : State} (h0 : Hdr) (s : State) (h : Apart m r s) : ApartO m r (execCalCommit h0 s) := by
  unfold execCalCommit
  repeat' first
      | with_reducible assumption
      | with_reducible exact id
      | (intro _; with_reducible rfl)
      | intro _
      | ((fail_if_success fail_if_success (conv => arg 3; arg 3)); with_reducible apply Apart.ite)
      | ((fail_if_success fail_if_success (conv => arg 3; arg 34)); with_reducible refine Apart.over ?_ rfl rfl ?_ ?_ ?_ ?_)
      | (extract_lets +onlyGivenNames z; clear_value z)
      | with_reducible apply runCmd_apart
      | with_reducible apply sessionCmd_apart
      | with_reducible apply refuse_apart
      | with_reducible apply startOp_apart
      | with_reducible apply storeCal_apart
      | with_reducible apply ApartO.next
      | with_reducible rfl
      | split

theorem execCalCancel_apart {m : Bool} {r : State} (h0 : Hdr) (s : State) (h : Apart m r s) : ApartO m r (execCalCancel h0 s) := by
  unfold execCalCancel
  repeat' first
      | with_reducible assumption
      | with_reducible exact id
      | (intro _; with_reducible rfl)
      | intro _
      | ((fail_if_success fail_if_success (conv => arg 3; arg 3)); with_reducible apply Apart.ite)
      | ((fail_if_success fail_if_success (conv => arg 3; arg 34)); with_reducible refine Apart.over ?_ rfl rfl ?_ ?_ ?_ ?_)
      | (extract_lets +onlyGivenNames z
         first
         | (refine Apart.cut (m := m) (r := r) (z := z) ?_ ?_; rotate_left; clear_value z; intro _; rotate_left; unfold z; clear z)
         | clear_value z)
      | with_reducible apply runCmd_apart
      | with_reducible apply onSession_apart
      | with_reducible apply endCapture_apart
      | with_reducible apply reply_apart
      | with_reducible apply ApartO.next
      | with_reducible rfl
      | split

theorem execCalCellGain_apart {m : Bool} {r : State} (h0 : Hdr) (die ntakes : Nat) (cells : List TrueCell) (s : State) (h : Apart m r s) :
    ApartO m r (execCalCellGain h0 die ntakes cells s) := by
  unfold execCalCellGain
  repeat' first
      | with_reducible assumption
      | with_reducible exact id
      | (intro _; with_reducible rfl)
      | intro _
      | ((fail_if_success fail_if_success (conv => arg 3; arg 3)); with_reducible apply Apart.ite)
      | ((fail_if_success fail_if_success (conv => arg 3; arg 34)); with_reducible refine Apart.over ?_ rfl rfl ?_ ?_ ?_ ?_)
      | (extract_lets +onlyGivenNames z; clear_value z)
      | with_reducible apply runCmd_apart
      | with_reducible apply calCmd_apart
      | with_reducible apply refuse_apart
      | with_reducible apply startOp_apart
      | with_reducible apply ApartO.next
      | with_reducible rfl

theorem execCalTaps_apart {m : Bool} {r : State} (h0 : Hdr) (dieMask itest : Nat) (s : State) (h : Apart m r s) :
    ApartO m r (execCalTaps h0 dieMask itest s) := by
  unfold execCalTaps
  repeat' first
      | with_reducible assumption
      | with_reducible exact id
      | (intro _; with_reducible rfl)
      | intro _
      | ((fail_if_success fail_if_success (conv => arg 3; arg 3)); with_reducible apply Apart.ite)
      | ((fail_if_success fail_if_success (conv => arg 3; arg 34)); with_reducible refine Apart.over ?_ rfl rfl ?_ ?_ ?_ ?_)
      | (extract_lets +onlyGivenNames z; clear_value z)
      | with_reducible apply runCmd_apart
      | with_reducible apply refuse_apart
      | with_reducible apply startOp_apart
      | with_reducible apply tapStepStart_apart
      | with_reducible apply ApartO.next
      | with_reducible rfl

theorem finishTaps_apart {m : Bool} {r : State} (s : State) (t : TapRun) (h : Apart m r s) : Apart m r (finishTaps s t) := by
  unfold finishTaps
  repeat' first
      | with_reducible assumption
      | with_reducible exact id
      | (intro _; with_reducible rfl)
      | intro _
      | ((fail_if_success fail_if_success (conv => arg 3; arg 3)); with_reducible apply Apart.ite)
      | ((fail_if_success fail_if_success (conv => arg 3; arg 34)); with_reducible refine Apart.over ?_ rfl rfl ?_ ?_ ?_ ?_)
      | (extract_lets +onlyGivenNames z
         first
         | (refine Apart.cut (m := m) (r := r) (z := z) ?_ ?_; rotate_left; clear_value z; intro _; rotate_left; unfold z; clear z)
         | clear_value z)
      | with_reducible apply stopWhere_apart
      | with_reducible apply restartDie_apart
      | with_reducible apply storeCal_apart
      | with_reducible apply completeOp_apart
      | with_reducible apply Apart.foldl
      | with_reducible rfl

theorem tapFail_apart {m : Bool} {r : State} (t : TapRun) (s : State) (die : Nat) (h : Apart m r s) : Apart m r (tapFail t s die) := by
  unfold tapFail
  repeat' first
      | with_reducible assumption
      | intro _
      | ((fail_if_success fail_if_success (conv => arg 3; arg 3)); with_reducible apply Apart.ite)
      | with_reducible apply restartDie_apart
      | with_reducible apply endFree_apart
      | with_reducible apply Apart.foldl

theorem execCalTapsStepEnd_apart {m : Bool} {r : State} (currents : List (Nat × Nat × Nat)) (s : State) (h : Apart m r s) :
    ApartO m r (execCalTapsStepEnd currents s) := by
  unfold execCalTapsStepEnd
  repeat' first
      | with_reducible assumption
      | with_reducible exact id
      | (intro _; with_reducible rfl)
      | intro _
      | ((fail_if_success fail_if_success (conv => arg 3; arg 3)); with_reducible apply Apart.ite)
      | ((fail_if_success fail_if_success (conv => arg 3; arg 34)); with_reducible refine Apart.over ?_ rfl rfl ?_ ?_ ?_ ?_)
      | (extract_lets +onlyGivenNames z
         first
         | (refine Apart.cut (m := m) (r := r) (z := z) ?_ ?_; rotate_left; clear_value z; intro _; rotate_left; unfold z; clear z)
         | clear_value z)
      | with_reducible apply tapFail_apart
      | with_reducible apply finishTaps_apart
      | with_reducible apply stopWhere_apart
      | with_reducible apply tapStepStart_apart
      | with_reducible apply ApartO.next
      | with_reducible apply Apart.foldl
      | with_reducible rfl
      | split

theorem execSetTapResistance_apart {m : Bool} {r : State} (h0 : Hdr) (die tap value : Nat) (s : State) (h : Apart m r s) :
    ApartO m r (execSetTapResistance h0 die tap value s) := by
  unfold execSetTapResistance
  repeat' first
      | with_reducible assumption
      | intro _
      | with_reducible apply runCmd_apart
      | with_reducible apply calCmd_apart
      | with_reducible apply startOp_apart
      | with_reducible apply storeCal_apart
      | with_reducible apply ApartO.next

theorem execGetCalibration_apart {m : Bool} {r : State} (h0 : Hdr) (die kind fromIdx : Nat) (s : State) (h : Apart m r s) :
    ApartO m r (execGetCalibration h0 die kind fromIdx s) := by
  unfold execGetCalibration
  repeat' first
      | with_reducible assumption
      | intro _
      | ((fail_if_success fail_if_success (conv => arg 3; arg 3)); with_reducible apply Apart.ite)
      | (extract_lets +onlyGivenNames z; clear_value z)
      | with_reducible apply runCmd_apart
      | with_reducible apply refuse_apart
      | with_reducible apply reply_apart
      | with_reducible apply ApartO.next

theorem execCalErase_apart {m : Bool} {r : State} (h0 : Hdr) (die kind input : Nat) (s : State) (h : Apart m r s) :
    ApartO m r (execCalErase h0 die kind input s) := by
  unfold execCalErase
  repeat' first
      | with_reducible assumption
      | intro _
      | with_reducible apply runCmd_apart
      | with_reducible apply calCmd_apart
      | with_reducible apply startOp_apart
      | with_reducible apply flashPush_apart
      | with_reducible apply ApartO.next

theorem calWait_apart {m : Bool} {r : State} (s : State) (recs : List CalRecord) (h2 : Option Hdr) (result : List Byte) (h : Apart m r s) :
    Apart m r (calWait s recs h2 result) := by
  unfold calWait
  repeat' first
      | with_reducible assumption
      | with_reducible exact id
      | (intro _; with_reducible rfl)
      | intro _
      | ((fail_if_success fail_if_success (conv => arg 3; arg 3)); with_reducible apply Apart.ite)
      | ((fail_if_success fail_if_success (conv => arg 3; arg 34)); with_reducible refine Apart.over ?_ rfl rfl ?_ ?_ ?_ ?_)
      | (extract_lets +onlyGivenNames z
         first
         | (refine Apart.cut (m := m) (r := r) (z := z) ?_ ?_; rotate_left; clear_value z; intro _; rotate_left; unfold z; clear z)
         | clear_value z)
      | with_reducible apply calStored_apart
      | with_reducible apply completeOpFlash_apart
      | with_reducible apply applyCal_apart
      | with_reducible apply Apart.foldl
      | with_reducible rfl
      | split

theorem applyJob_apart {m : Bool} {r : State} (s : State) (j : FlashJob) (h : Apart m r s) : Apart m r (applyJob s j) := by
  unfold applyJob
  repeat' first
      | with_reducible assumption
      | with_reducible exact id
      | (intro _; with_reducible rfl)
      | ((fail_if_success fail_if_success (conv => arg 3; arg 34)); with_reducible refine Apart.over ?_ rfl rfl ?_ ?_ ?_ ?_)
      | (extract_lets +onlyGivenNames z
         first
         | (refine Apart.cut (m := m) (r := r) (z := z) ?_ ?_; rotate_left; clear_value z; intro _; rotate_left; unfold z; clear z)
         | clear_value z)
      | with_reducible apply dailiesStore_apart
      | with_reducible apply logAdd_apart
      | with_reducible apply calWait_apart
      | with_reducible apply completeOpFlash_apart
      | with_reducible rfl
      | split

theorem execFlashStepComplete_apart {m : Bool} {r : State} (s : State) (h : Apart m r s) : ApartO m r (execFlashStepComplete s) := by
  unfold execFlashStepComplete
  repeat' first
      | with_reducible assumption
      | with_reducible exact id
      | (intro _; with_reducible rfl)
      | ((fail_if_success fail_if_success (conv => arg 3; arg 34)); with_reducible refine Apart.over ?_ rfl rfl ?_ ?_ ?_ ?_)
      | (extract_lets +onlyGivenNames z
         first
         | (refine Apart.cut (m := m) (r := r) (z := z) ?_ ?_; rotate_left; clear_value z; intro _; rotate_left; unfold z; clear z)
         | clear_value z)
      | with_reducible apply applyJob_apart
      | with_reducible apply partReset_apart
      | with_reducible apply carry_apart
      | with_reducible apply ApartO.next
      | with_reducible rfl
      | split

end Sys2Proof.Machine
end

