-- ==== Sys2Proof/Laws/ApartHostPort.lean ====
section
/-! SUPPORT. Each operation of Machine/HostPort keeps `Apart`. -/
set_option Elab.async false
set_option linter.unusedTactic false
namespace Sys2Proof.Machine

theorem consumeRaw_apart {m : Bool} {r : State} (s : State) (h : Apart m r s) : Apart m r (consumeRaw s) := by
  unfold consumeRaw
  repeat' first
      | with_reducible assumption
      | with_reducible exact id
      | (intro _; with_reducible rfl)
      | ((fail_if_success fail_if_success (conv => arg 3; arg 3)); with_reducible apply Apart.ite)
      | ((fail_if_success fail_if_success (conv => arg 3; arg 34)); with_reducible refine Apart.over ?_ rfl rfl ?_ ?_ ?_ ?_)
      | with_reducible rfl

theorem closeShadow_apart {m : Bool} {r : State} (s : State) (h : Apart m r s) : Apart m r (closeShadow s) := by
  unfold closeShadow
  exact .over h rfl rfl id rfl id fun _ => rfl

theorem rawArrive_apart {m : Bool} {r : State} (s : State) (pair : BitVec 32) (h : Apart m r s) : Apart m r (rawArrive s pair) := by
  unfold rawArrive
  repeat' first
      | with_reducible assumption
      | with_reducible exact id
      | (intro _; with_reducible rfl)
      | ((fail_if_success fail_if_success (conv => arg 3; arg 3)); with_reducible apply Apart.ite)
      | ((fail_if_success fail_if_success (conv => arg 3; arg 34)); with_reducible refine Apart.over ?_ rfl rfl ?_ ?_ ?_ ?_)
      | (extract_lets +onlyGivenNames z
         first
         | (refine Apart.cut (m := m) (r := r) (z := z) ?_ ?_; rotate_left; clear_value z; intro _; rotate_left; unfold z; clear z)
         | clear_value z)
      | with_reducible apply raise_apart
      | with_reducible rfl

theorem urgIssue_apart {m : Bool} {r : State} (s : State) (h : Apart m r s) : Apart m r (urgIssue s) := by
  unfold urgIssue
  repeat' first
      | with_reducible assumption
      | with_reducible exact id
      | (intro _; with_reducible rfl)
      | ((fail_if_success fail_if_success (conv => arg 3; arg 3)); with_reducible apply Apart.ite)
      | ((fail_if_success fail_if_success (conv => arg 3; arg 34)); with_reducible refine Apart.over ?_ rfl rfl ?_ ?_ ?_ ?_)
      | (extract_lets +onlyGivenNames z; clear_value z)
      | with_reducible apply urgDropped_apart
      | with_reducible rfl

theorem ring_apart {m : Bool} {r : State} (s : State) (n : Nat) (h : Apart m r s) : Apart m r (ring_ s n) := by
  unfold ring_
  repeat' first
      | with_reducible assumption
      | with_reducible exact id
      | (intro _; with_reducible rfl)
      | ((fail_if_success fail_if_success (conv => arg 3; arg 3)); with_reducible apply Apart.ite)
      | ((fail_if_success fail_if_success (conv => arg 3; arg 34)); with_reducible refine Apart.over ?_ rfl rfl ?_ ?_ ?_ ?_)
      | (extract_lets +onlyGivenNames z; clear_value z)
      | with_reducible apply wakeStudio_apart
      | with_reducible rfl

theorem outAck_apart {m : Bool} {r : State} (s : State) (n : Nat) (h : Apart m r s) : Apart m r (outAck s n) := by
  unfold outAck
  repeat' first
      | with_reducible assumption
      | with_reducible exact id
      | (intro _; with_reducible rfl)
      | ((fail_if_success fail_if_success (conv => arg 3; arg 3)); with_reducible apply Apart.ite)
      | ((fail_if_success fail_if_success (conv => arg 3; arg 34)); with_reducible refine Apart.over ?_ rfl rfl ?_ ?_ ?_ ?_)
      | with_reducible rfl

theorem strrdSet_apart {m : Bool} {r : State} (s : State) (v : Nat) (h : Apart m r s) : Apart m r (strrdSet s v) := by
  unfold strrdSet
  repeat' first
      | with_reducible assumption
      | with_reducible exact id
      | (intro _; with_reducible rfl)
      | ((fail_if_success fail_if_success (conv => arg 3; arg 3)); with_reducible apply Apart.ite)
      | ((fail_if_success fail_if_success (conv => arg 3; arg 34)); with_reducible refine Apart.over ?_ rfl rfl ?_ ?_ ?_ ?_)
      | with_reducible apply raise_apart
      | with_reducible apply State.setHpErr_apart
      | with_reducible rfl

theorem swrstBreak_apart {m : Bool} {r : State} (s : State) (v : Nat) (h : Apart m r s) : Apart m r (swrstBreak s v) := by
  unfold swrstBreak
  repeat' first
      | with_reducible assumption
      | with_reducible exact id
      | (intro _; with_reducible rfl)
      | ((fail_if_success fail_if_success (conv => arg 3; arg 34)); with_reducible refine Apart.over ?_ rfl rfl ?_ ?_ ?_ ?_)
      | (extract_lets +onlyGivenNames z; clear_value z)
      | with_reducible apply raise_apart
      | with_reducible rfl

theorem swrstSet_apart {m : Bool} {r : State} (s : State) (v : Nat) (h : Apart m r s) : Apart m r (swrstSet s v) := by
  unfold swrstSet
  repeat' first
      | with_reducible assumption
      | with_reducible exact id
      | (intro _; with_reducible rfl)
      | ((fail_if_success fail_if_success (conv => arg 3; arg 3)); with_reducible apply Apart.ite)
      | ((fail_if_success fail_if_success (conv => arg 3; arg 34)); with_reducible refine Apart.over ?_ rfl rfl ?_ ?_ ?_ ?_)
      | (extract_lets +onlyGivenNames z
         first
         | (refine Apart.cut (m := m) (r := r) (z := z) ?_ ?_; rotate_left; clear_value z; intro _; rotate_left; unfold z; clear z)
         | clear_value z)
      | with_reducible apply swrstBreak_apart
      | with_reducible apply partReset_apart
      | with_reducible rfl
      | split

theorem clearInbound_apart {m : Bool} {r : State} (s : State) (n : Nat) (h : Apart m r s) : Apart m r (clearInbound s n) := by
  unfold clearInbound
  repeat' first
      | with_reducible assumption
      | with_reducible exact id
      | (intro _; with_reducible rfl)
      | with_reducible exact memWriteList_wf _ _ _
      | ((fail_if_success fail_if_success (conv => arg 3; arg 34)); with_reducible refine Apart.over ?_ rfl rfl ?_ ?_ ?_ ?_)
      | with_reducible rfl

theorem abortAnswer_apart {m : Bool} {r : State} (s : State) (tag result : Nat) (h : Apart m r s) :
    Apart m r (abortAnswer s tag result) := by
  unfold abortAnswer
  repeat' first
      | with_reducible assumption
      | with_reducible exact id
      | (intro _; with_reducible rfl)
      | ((fail_if_success fail_if_success (conv => arg 3; arg 34)); with_reducible refine Apart.over ?_ rfl rfl ?_ ?_ ?_ ?_)
      | (extract_lets +onlyGivenNames z; clear_value z)
      | with_reducible apply State.setIrq_apart
      | with_reducible rfl

theorem abortFind_apart {m : Bool} {r : State} (s : State) (prio tag : Nat) (h : Apart m r s) : Apart m r (abortFind s prio tag) := by
  unfold abortFind
  repeat' first
      | with_reducible assumption
      | with_reducible exact id
      | (intro _; with_reducible rfl)
      | ((fail_if_success fail_if_success (conv => arg 3; arg 3)); with_reducible apply Apart.ite)
      | ((fail_if_success fail_if_success (conv => arg 3; arg 34)); with_reducible refine Apart.over ?_ rfl rfl ?_ ?_ ?_ ?_)
      | (extract_lets +onlyGivenNames z
         first
         | (refine Apart.cut (m := m) (r := r) (z := z) ?_ ?_; rotate_left; clear_value z; intro _; rotate_left; unfold z; clear z)
         | clear_value z)
      | with_reducible apply abortAnswer_apart
      | with_reducible apply refuse_apart
      | with_reducible apply clearInbound_apart
      | with_reducible apply dequeue_apart
      | with_reducible rfl
      | split

theorem abortSet_apart {m : Bool} {r : State} (s : State) (w : BitVec 32) (h : Apart m r s) : Apart m r (abortSet s w) := by
  unfold abortSet
  repeat' first
      | with_reducible assumption
      | with_reducible exact id
      | (intro _; with_reducible rfl)
      | ((fail_if_success fail_if_success (conv => arg 3; arg 3)); with_reducible apply Apart.ite)
      | ((fail_if_success fail_if_success (conv => arg 3; arg 34)); with_reducible refine Apart.over ?_ rfl rfl ?_ ?_ ?_ ?_)
      | (extract_lets +onlyGivenNames z
         first
         | (refine Apart.cut (m := m) (r := r) (z := z) ?_ ?_; rotate_left; clear_value z; intro _; rotate_left; unfold z; clear z)
         | clear_value z)
      | with_reducible rfl

theorem abortCycle_apart {m : Bool} {r : State} (s : State) (h : Apart m r s) : Apart m r (abortCycle s) := by
  unfold abortCycle
  repeat' first
      | with_reducible assumption
      | ((fail_if_success fail_if_success (conv => arg 3; arg 3)); with_reducible apply Apart.ite)
      | with_reducible apply abortFind_apart

theorem rawctlSet_apart {m : Bool} {r : State} (s : State) (v mask : BitVec 32) (h : Apart m r s) : Apart m r (rawctlSet s v mask) := by
  unfold rawctlSet
  repeat' first
      | with_reducible assumption
      | with_reducible exact id
      | (intro _; with_reducible rfl)
      | ((fail_if_success fail_if_success (conv => arg 3; arg 3)); with_reducible apply Apart.ite)
      | ((fail_if_success fail_if_success (conv => arg 3; arg 34)); with_reducible refine Apart.over ?_ rfl rfl ?_ ?_ ?_ ?_)
      | (extract_lets +onlyGivenNames z
         first
         | (refine Apart.cut (m := m) (r := r) (z := z) ?_ ?_; rotate_left; clear_value z; intro _; rotate_left; unfold z; clear z)
         | clear_value z)
      | with_reducible apply urgIssue_apart
      | with_reducible rfl

theorem regWriteWord_apart {m : Bool} {r : State} (s : State) (a : Nat) (v mask : BitVec 32) (h : Apart m r s) :
    Apart m r (regWriteWord s a v mask) := by
  unfold regWriteWord
  repeat' first
      | with_reducible assumption
      | with_reducible exact id
      | (intro _; with_reducible rfl)
      | intro _
      | ((fail_if_success fail_if_success (conv => arg 3; arg 3)); with_reducible apply Apart.ite)
      | ((fail_if_success fail_if_success (conv => arg 3; arg 34)); with_reducible refine Apart.over ?_ rfl rfl ?_ ?_ ?_ ?_)
      | (extract_lets +onlyGivenNames z
         first
         | (refine Apart.cut (m := m) (r := r) (z := z) ?_ ?_; rotate_left; clear_value z; intro _; rotate_left; unfold z; clear z)
         | clear_value z)
      | with_reducible apply ring_apart
      | with_reducible apply outAck_apart
      | with_reducible apply rawctlSet_apart
      | with_reducible apply wdAnswer_apart
      | with_reducible apply abortSet_apart
      | with_reducible apply strrdSet_apart
      | with_reducible apply swrstSet_apart
      | with_reducible apply Apart.foldl
      | with_reducible rfl
      | split

theorem regWrite_apart {m : Bool} {r : State} (s : State) (a : Nat) (data : List Byte) (h : Apart m r s) :
    Apart m r (regWrite s a data) := by
  unfold regWrite
  repeat' first
      | with_reducible assumption
      | intro _
      | with_reducible apply regWriteWord_apart
      | with_reducible apply Apart.foldl

theorem xstatSent_apart {m : Bool} {r : State} (s : State) (h : Apart m r s) : Apart m r (xstatSent s) := by
  unfold xstatSent
  exact .over h rfl rfl id rfl id fun _ => rfl

theorem setPrev_apart {m : Bool} {r : State} (s : State) (verdict : Nat) (h : Apart m r s) : Apart m r (setPrev s verdict) := by
  unfold setPrev
  exact .over h rfl rfl id rfl id fun _ => rfl

theorem beginTransaction_apart {m : Bool} {r : State} (s : State) (isSwrst : Bool) (h : Apart m r s) :
    Apart m r (beginTransaction s isSwrst) := by
  unfold beginTransaction
  repeat' first
      | with_reducible assumption
      | ((fail_if_success fail_if_success (conv => arg 3; arg 3)); with_reducible apply Apart.ite)
      | (extract_lets +onlyGivenNames z; refine Apart.cut (m := m) (r := r) (z := z) ?_ ?_; rotate_left; clear_value z; intro _; rotate_left; unfold z; clear z)
      | with_reducible apply xstatSent_apart
      | with_reducible apply swrstBreak_apart

theorem endTransaction_apart {m : Bool} {r : State} (s : State) (a verdict : Nat) (data : List Byte) (h : Apart m r s) :
    Apart m r (endTransaction s a verdict data) := by
  unfold endTransaction
  repeat' first
      | with_reducible assumption
      | ((fail_if_success fail_if_success (conv => arg 3; arg 3)); with_reducible apply Apart.ite)
      | (extract_lets +onlyGivenNames z; refine Apart.cut (m := m) (r := r) (z := z) ?_ ?_; rotate_left; clear_value z; intro _; rotate_left; unfold z; clear z)
      | with_reducible apply setPrev_apart
      | with_reducible apply raise_apart
      | with_reducible apply State.setHpErr_apart
      | split

theorem readEffects_apart {m : Bool} {r : State} (s : State) (a n : Nat) (h : Apart m r s) : Apart m r (readEffects s a n) := by
  unfold readEffects
  repeat' first
      | with_reducible assumption
      | ((fail_if_success fail_if_success (conv => arg 3; arg 3)); with_reducible apply Apart.ite)
      | (extract_lets +onlyGivenNames z; refine Apart.cut (m := m) (r := r) (z := z) ?_ ?_; rotate_left; clear_value z; intro _; rotate_left; unfold z; clear z)
      | with_reducible apply consumeRaw_apart
      | with_reducible apply closeShadow_apart

theorem drive_apart {m : Bool} {r : State} (s : State) (l : List Byte) (crc : BitVec 16) (h : Apart m r s) : Apart m r (drive s l crc) := by
  unfold drive
  exact .over h rfl rfl id rfl id fun _ => rfl

theorem driveRefused_apart {m : Bool} {r : State} (s : State) (quad : Bool) (a n hdrCrc clocks : Nat) (h : Apart m r s) :
    Apart m r (driveRefused s quad a n hdrCrc clocks) := by
  unfold driveRefused
  repeat' first
      | with_reducible assumption
      | ((fail_if_success fail_if_success (conv => arg 3; arg 3)); with_reducible apply Apart.ite)
      | with_reducible apply drive_apart

theorem spiReadT_apart {m : Bool} {r : State} (s : State) (quad : Bool) (a n hdrCrc clocks : Nat) (h : Apart m r s) :
    Apart m r (spiReadT s quad a n hdrCrc clocks) := by
  unfold spiReadT
  repeat' first
      | with_reducible assumption
      | ((fail_if_success fail_if_success (conv => arg 3; arg 3)); with_reducible apply Apart.ite)
      | (extract_lets +onlyGivenNames z
         first
         | (refine Apart.cut (m := m) (r := r) (z := z) ?_ ?_; rotate_left; clear_value z; intro _; rotate_left; unfold z; clear z)
         | clear_value z)
      | with_reducible apply State.draw_apart
      | with_reducible apply drive_apart
      | with_reducible apply beginTransaction_apart
      | with_reducible apply takeHeadRole_apart
      | with_reducible apply readEffects_apart
      | with_reducible apply driveRefused_apart
      | with_reducible apply endTransaction_apart

theorem writeEffects_apart {m : Bool} {r : State} (s : State) (a : Nat) (data : List Byte) (h : Apart m r s) :
    Apart m r (writeEffects s a data) := by
  unfold writeEffects
  repeat' first
      | with_reducible assumption
      | with_reducible exact id
      | (intro _; with_reducible rfl)
      | with_reducible exact memWriteList_wf _ _ _
      | ((fail_if_success fail_if_success (conv => arg 3; arg 34)); with_reducible refine Apart.over ?_ rfl rfl ?_ ?_ ?_ ?_)
      | with_reducible apply regWrite_apart
      | with_reducible rfl
      | split

theorem spiWriteT_apart {m : Bool} {r : State} (s : State) (quad : Bool) (a n hdrCrc : Nat) (data : List Byte) (dataCrc clocks : Nat)
    (h : Apart m r s) : Apart m r (spiWriteT s quad a n hdrCrc data dataCrc clocks) := by
  unfold spiWriteT
  repeat' first
      | with_reducible assumption
      | ((fail_if_success fail_if_success (conv => arg 3; arg 3)); with_reducible apply Apart.ite)
      | (extract_lets +onlyGivenNames z
         first
         | (refine Apart.cut (m := m) (r := r) (z := z) ?_ ?_; rotate_left; clear_value z; intro _; rotate_left; unfold z; clear z)
         | clear_value z)
      | with_reducible apply beginTransaction_apart
      | with_reducible apply endTransaction_apart
      | with_reducible apply writeEffects_apart
      | with_reducible apply takeHeadRole_apart
      | with_reducible apply swrstBreak_apart

end Sys2Proof.Machine
end

