-- ==== Sys2Proof/Laws/ApartEngineRows.lean ====
section
/-! SUPPORT. Each operation of Machine/EngineRows keeps `Apart`. -/
set_option Elab.async false
set_option linter.unusedTactic false
namespace Sys2Proof.Machine

theorem forward_apart {m : Bool} {r : State} (s : State) (h1 : Hdr) (f : Frame) (h : Apart m r s) : Apart m r (forward s h1 f) := by
  unfold forward
  repeat' first
      | with_reducible assumption
      | with_reducible exact id
      | (intro _; with_reducible rfl)
      | ((fail_if_success fail_if_success (conv => arg 3; arg 3)); with_reducible apply Apart.ite)
      | ((fail_if_success fail_if_success (conv => arg 3; arg 34)); with_reducible refine Apart.over ?_ rfl rfl ?_ ?_ ?_ ?_)
      | (extract_lets +onlyGivenNames z; clear_value z)
      | with_reducible apply refuse_apart
      | with_reducible apply sendMail_apart
      | with_reducible rfl

theorem enqueue_apart {m : Bool} {r : State} (s : State) (h1 : Hdr) (op : Nat) (p : List Byte) (h : Apart m r s) :
    Apart m r (enqueue s h1 op p) := by
  unfold enqueue
  exact .over h rfl rfl id rfl id fun _ => rfl

theorem closeArb_apart {m : Bool} {r : State} (s : State) (a : Arb) (h : Apart m r s) : Apart m r (closeArb s a) := by
  unfold closeArb
  repeat' first
      | with_reducible assumption
      | with_reducible exact id
      | (intro _; with_reducible rfl)
      | ((fail_if_success fail_if_success (conv => arg 3; arg 3)); with_reducible apply Apart.ite)
      | ((fail_if_success fail_if_success (conv => arg 3; arg 34)); with_reducible refine Apart.over ?_ rfl rfl ?_ ?_ ?_ ?_)
      | (extract_lets +onlyGivenNames z
         first
         | (refine Apart.cut (m := m) (r := r) (z := z) ?_ ?_; rotate_left; clear_value z; intro _; rotate_left; unfold z; clear z)
         | clear_value z)
      | with_reducible apply raise_apart
      | with_reducible apply refuse_apart
      | with_reducible apply enqueue_apart
      | with_reducible rfl

theorem closeOwn_apart {m : Bool} {r : State} (s : State) (h1 : Hdr) (o : Order) (h : Apart m r s) : Apart m r (closeOwn s h1 o) := by
  unfold closeOwn
  repeat' first
      | with_reducible assumption
      | intro _
      | with_reducible apply closeArb_apart
      | with_reducible apply Apart.foldl

theorem arbitrate_apart {m : Bool} {r : State} (s : State) (h1 : Hdr) (op : Nat) (p : List Byte) (h : Apart m r s) :
    Apart m r (arbitrate s h1 op p) := by
  unfold arbitrate
  repeat' first
      | with_reducible assumption
      | with_reducible exact id
      | (intro _; with_reducible rfl)
      | ((fail_if_success fail_if_success (conv => arg 3; arg 3)); with_reducible apply Apart.ite)
      | ((fail_if_success fail_if_success (conv => arg 3; arg 34)); with_reducible refine Apart.over ?_ rfl rfl ?_ ?_ ?_ ?_)
      | (extract_lets +onlyGivenNames z
         first
         | (refine Apart.cut (m := m) (r := r) (z := z) ?_ ?_; rotate_left; clear_value z; intro _; rotate_left; unfold z; clear z)
         | clear_value z)
      | with_reducible apply enqueue_apart
      | with_reducible apply closeOwn_apart
      | with_reducible rfl
      | split

theorem takeCommand_apart {m : Bool} {r : State} (s : State) (h1 : Hdr) (f : Frame) (h : Apart m r s) : Apart m r (takeCommand s h1 f) := by
  unfold takeCommand
  repeat' first
      | with_reducible assumption
      | with_reducible apply refuse_apart
      | with_reducible apply arbitrate_apart
      | split

theorem execMailboxTakeFrame_apart {m : Bool} {r : State} (s : State) (h : Apart m r s) : ApartO m r (execMailboxTakeFrame s) := by
  unfold execMailboxTakeFrame
  repeat' first
      | with_reducible assumption
      | ((fail_if_success fail_if_success (conv => arg 3; arg 3)); with_reducible apply Apart.ite)
      | (extract_lets +onlyGivenNames z
         first
         | (refine Apart.cut (m := m) (r := r) (z := z) ?_ ?_; rotate_left; clear_value z; intro _; rotate_left; unfold z; clear z)
         | clear_value z)
      | with_reducible apply clearInbound_apart
      | with_reducible apply refuse_apart
      | with_reducible apply forward_apart
      | with_reducible apply takeCommand_apart
      | with_reducible apply ApartO.next
      | split

theorem execReplyWrite_apart {m : Bool} {r : State} (n : Nat) (s : State) (h : Apart m r s) : ApartO m r (execReplyWrite n s) := by
  unfold execReplyWrite
  repeat' first
      | with_reducible assumption
      | with_reducible exact id
      | (intro _; with_reducible rfl)
      | with_reducible exact memWriteList_wf _ _ _
      | intro _
      | ((fail_if_success fail_if_success (conv => arg 3; arg 3)); with_reducible apply Apart.ite)
      | ((fail_if_success fail_if_success (conv => arg 3; arg 34)); with_reducible refine Apart.over ?_ rfl rfl ?_ ?_ ?_ ?_)
      | (extract_lets +onlyGivenNames z
         first
         | (refine Apart.cut (m := m) (r := r) (z := z) ?_ ?_; rotate_left; clear_value z; intro _; rotate_left; unfold z; clear z)
         | clear_value z)
      | with_reducible apply sendMail_apart
      | with_reducible apply ApartO.next
      | with_reducible apply Apart.foldl
      | with_reducible rfl
      | split

theorem execOperationAbortStop_apart {m : Bool} {r : State} (prio tag : Nat) (s : State) (h : Apart m r s) :
    ApartO m r (execOperationAbortStop prio tag s) := by
  unfold execOperationAbortStop
  repeat' first
      | with_reducible assumption
      | ((fail_if_success fail_if_success (conv => arg 3; arg 3)); with_reducible apply Apart.ite)
      | with_reducible apply abortOp_apart
      | with_reducible apply ApartO.next
      | split

theorem execArbitrationWindowClose_apart {m : Bool} {r : State} (s : State) (h : Apart m r s) :
    ApartO m r (execArbitrationWindowClose s) := by
  unfold execArbitrationWindowClose
  repeat' first
      | with_reducible assumption
      | with_reducible exact id
      | (intro _; with_reducible rfl)
      | intro _
      | ((fail_if_success fail_if_success (conv => arg 3; arg 34)); with_reducible refine Apart.over ?_ rfl rfl ?_ ?_ ?_ ?_)
      | (extract_lets +onlyGivenNames z
         first
         | (refine Apart.cut (m := m) (r := r) (z := z) ?_ ?_; rotate_left; clear_value z; intro _; rotate_left; unfold z; clear z)
         | clear_value z)
      | with_reducible apply closeArb_apart
      | with_reducible apply ApartO.next
      | with_reducible apply Apart.foldl
      | with_reducible rfl

end Sys2Proof.Machine
end

