-- ==== Sys2Proof/Laws/ApartLockIn.lean ====
section
/-! SUPPORT. Each operation of Machine/LockIn keeps `Apart`. -/
set_option Elab.async false
set_option linter.unusedTactic false
namespace Sys2Proof.Machine

theorem updRun_apart {m : Bool} {r : State} (s : State) (g1 : ImpDef → ImpRun → ImpRun) (h : Apart m r s) : Apart m r (updRun s g1) := by
  unfold updRun
  repeat' first
      | with_reducible assumption
      | with_reducible exact id
      | (intro _; with_reducible rfl)
      | ((fail_if_success fail_if_success (conv => arg 3; arg 34)); with_reducible refine Apart.over ?_ rfl rfl ?_ ?_ ?_ ?_)
      | (extract_lets +onlyGivenNames z; clear_value z)
      | with_reducible rfl
      | split

theorem lockStream_apart {m : Bool} {r : State} (s : State) (at_ : Nat) (ma : Int) (h : Apart m r s) : Apart m r (lockStream s at_ ma) := by
  unfold lockStream
  repeat' first
      | with_reducible assumption
      | with_reducible apply updRun_apart

theorem lockTake_apart {m : Bool} {r : State} (s : State) (t : Take) (h : Apart m r s) : Apart m r (lockTake s t) := by
  unfold lockTake
  repeat' first
      | with_reducible assumption
      | with_reducible apply updRun_apart

theorem checkRef_apart {m : Bool} {r : State} (s : State) (h : Apart m r s) : Apart m r (checkRef s) := by
  unfold checkRef
  repeat' first
      | with_reducible assumption
      | with_reducible apply endSession_apart
      | with_reducible apply raise_apart
      | split

end Sys2Proof.Machine
end

