-- ==== Sys2Proof/Laws/ApartSlateOps.lean ====
section
/-! SUPPORT. Each operation of Machine/SlateOps keeps `Apart`. -/
set_option Elab.async false
set_option linter.unusedTactic false
namespace Sys2Proof.Machine

theorem alignTake_apart {m : Bool} {r : State} (s : State) (t : Take) (h : Apart m r s) : Apart m r (alignTake s t).1 := by
  unfold alignTake
  repeat' first
      | with_reducible assumption
      | with_reducible exact id
      | (intro _; with_reducible rfl)
      | ((fail_if_success fail_if_success (conv => arg 3; arg 34)); with_reducible refine Apart.over ?_ rfl rfl ?_ ?_ ?_ ?_)
      | with_reducible apply Apart.ite_fst
      | with_reducible apply codes_map
      | dsimp -zeta only

theorem fillTake_apart {m : Bool} {r : State} (s : State) (t : Take) (h : Apart m r s) : Apart m r (fillTake s t).1 := by
  unfold fillTake
  repeat' first
      | with_reducible assumption
      | with_reducible exact id
      | (intro _; with_reducible rfl)
      | ((fail_if_success fail_if_success (conv => arg 3; arg 34)); with_reducible refine Apart.over ?_ rfl rfl ?_ ?_ ?_ ?_)
      | (extract_lets +onlyGivenNames z; clear_value z)
      | with_reducible rfl
      | dsimp -zeta only

end Sys2Proof.Machine
end

