-- ==== Sys2Proof/Laws/ApartSlateRows.lean ====
section
/-! SUPPORT. Each operation of Machine/SlateRows keeps `Apart`. -/
set_option Elab.async false
set_option linter.unusedTactic false
namespace Sys2Proof.Machine

theorem execSetFilters_apart {m : Bool} {r : State} (h0 : Hdr) (takedec : Nat) (sets : List FilterSet) (s : State) (h : Apart m r s) :
    ApartO m r (execSetFilters h0 takedec sets s) := by
  unfold execSetFilters
  repeat' first
      | with_reducible assumption
      | intro _
      | ((fail_if_success fail_if_success (conv => arg 3; arg 3)); with_reducible apply Apart.ite)
      | with_reducible apply runCmd_apart
      | with_reducible apply refuse_apart
      | with_reducible apply switchCmd_apart
      | with_reducible apply ApartO.next

theorem execGetFilters_apart {m : Bool} {r : State} (h0 : Hdr) (s : State) (h : Apart m r s) : ApartO m r (execGetFilters h0 s) := by
  unfold execGetFilters
  repeat' first
      | with_reducible assumption
      | intro _
      | with_reducible apply runCmd_apart
      | with_reducible apply reply_apart
      | with_reducible apply ApartO.next

theorem execSetAlignment_apart {m : Bool} {r : State} (h0 : Hdr) (mode irsrc subdie subin rmode : Nat) (s : State) (h : Apart m r s) :
    ApartO m r (execSetAlignment h0 mode irsrc subdie subin rmode s) := by
  unfold execSetAlignment
  repeat' first
      | with_reducible assumption
      | intro _
      | ((fail_if_success fail_if_success (conv => arg 3; arg 3)); with_reducible apply Apart.ite)
      | with_reducible apply runCmd_apart
      | with_reducible apply refuse_apart
      | with_reducible apply switchCmd_apart
      | with_reducible apply ApartO.next

theorem execSetResistance_apart {m : Bool} {r : State} (h0 : Hdr) (first : Nat) (values : List Nat) (s : State) (h : Apart m r s) :
    ApartO m r (execSetResistance h0 first values s) := by
  unfold execSetResistance
  repeat' first
      | with_reducible assumption
      | with_reducible exact id
      | (intro _; with_reducible rfl)
      | intro _
      | ((fail_if_success fail_if_success (conv => arg 3; arg 3)); with_reducible apply Apart.ite)
      | ((fail_if_success fail_if_success (conv => arg 3; arg 34)); with_reducible refine Apart.over ?_ rfl rfl ?_ ?_ ?_ ?_)
      | (extract_lets +onlyGivenNames z; clear_value z)
      | with_reducible apply runCmd_apart
      | with_reducible apply refuse_apart
      | with_reducible apply reply_apart
      | with_reducible apply ApartO.next
      | with_reducible rfl

theorem execGetResistance_apart {m : Bool} {r : State} (h0 : Hdr) (first n : Nat) (s : State) (h : Apart m r s) :
    ApartO m r (execGetResistance h0 first n s) := by
  unfold execGetResistance
  repeat' first
      | with_reducible assumption
      | intro _
      | ((fail_if_success fail_if_success (conv => arg 3; arg 3)); with_reducible apply Apart.ite)
      | with_reducible apply runCmd_apart
      | with_reducible apply refuse_apart
      | with_reducible apply reply_apart
      | with_reducible apply ApartO.next

theorem execSetFilterMode_apart {m : Bool} {r : State} (h0 : Hdr) (mode die : Nat) (s : State) (h : Apart m r s) :
    ApartO m r (execSetFilterMode h0 mode die s) := by
  unfold execSetFilterMode
  repeat' first
      | with_reducible assumption
      | intro _
      | ((fail_if_success fail_if_success (conv => arg 3; arg 3)); with_reducible apply Apart.ite)
      | with_reducible apply runCmd_apart
      | with_reducible apply refuse_apart
      | with_reducible apply switchCmd_apart
      | with_reducible apply ApartO.next

theorem execSetContinuity_apart {m : Bool} {r : State} (h0 : Hdr) (mode contthr verdicttmo : Nat) (s : State) (h : Apart m r s) :
    ApartO m r (execSetContinuity h0 mode contthr verdicttmo s) := by
  unfold execSetContinuity
  repeat' first
      | with_reducible assumption
      | intro _
      | ((fail_if_success fail_if_success (conv => arg 3; arg 3)); with_reducible apply Apart.ite)
      | with_reducible apply runCmd_apart
      | with_reducible apply refuse_apart
      | with_reducible apply switchCmd_apart
      | with_reducible apply ApartO.next

theorem setVerdict_apart {m : Bool} {r : State} (s : State) (seq v : Nat) (h : Apart m r s) : Apart m r (setVerdict s seq v) := by
  unfold setVerdict
  exact .over h rfl rfl id rfl id fun _ => rfl

theorem execSendVerdict_apart {m : Bool} {r : State} (h0 : Hdr) (seq verdict : Nat) (s : State) (h : Apart m r s) :
    ApartO m r (execSendVerdict h0 seq verdict s) := by
  unfold execSendVerdict
  repeat' first
      | with_reducible assumption
      | intro _
      | ((fail_if_success fail_if_success (conv => arg 3; arg 3)); with_reducible apply Apart.ite)
      | with_reducible apply runCmd_apart
      | with_reducible apply refuse_apart
      | with_reducible apply reply_apart
      | with_reducible apply setVerdict_apart
      | with_reducible apply ApartO.next

theorem execSetStream_apart {m : Bool} {r : State} (h0 : Hdr) (entries : List StreamSel) (s : State) (h : Apart m r s) :
    ApartO m r (execSetStream h0 entries s) := by
  unfold execSetStream
  repeat' first
      | with_reducible assumption
      | with_reducible exact id
      | (intro _; with_reducible rfl)
      | intro _
      | ((fail_if_success fail_if_success (conv => arg 3; arg 3)); with_reducible apply Apart.ite)
      | ((fail_if_success fail_if_success (conv => arg 3; arg 34)); with_reducible refine Apart.over ?_ rfl rfl ?_ ?_ ?_ ?_)
      | (extract_lets +onlyGivenNames z; clear_value z)
      | with_reducible apply runCmd_apart
      | with_reducible apply refuse_apart
      | with_reducible apply reply_apart
      | with_reducible apply ApartO.next
      | with_reducible rfl

theorem execReadHistory_apart {m : Bool} {r : State} (h0 : Hdr) (fromT toT : Nat) (s : State) (h : Apart m r s) :
    ApartO m r (execReadHistory h0 fromT toT s) := by
  unfold execReadHistory
  repeat' first
      | with_reducible assumption
      | with_reducible exact id
      | (intro _; with_reducible rfl)
      | intro _
      | ((fail_if_success fail_if_success (conv => arg 3; arg 3)); with_reducible apply Apart.ite)
      | ((fail_if_success fail_if_success (conv => arg 3; arg 34)); with_reducible refine Apart.over ?_ rfl rfl ?_ ?_ ?_ ?_)
      | with_reducible apply runCmd_apart
      | with_reducible apply refuse_apart
      | with_reducible apply reply_apart
      | with_reducible apply startOp_apart
      | with_reducible apply ApartO.next
      | with_reducible rfl
      | split

theorem execHistoryRecordWrite_apart {m : Bool} {r : State} (s : State) (h : Apart m r s) : ApartO m r (execHistoryRecordWrite s) := by
  unfold execHistoryRecordWrite
  repeat' first
      | with_reducible assumption
      | with_reducible exact id
      | (intro _; with_reducible rfl)
      | ((fail_if_success fail_if_success (conv => arg 3; arg 3)); with_reducible apply Apart.ite)
      | ((fail_if_success fail_if_success (conv => arg 3; arg 34)); with_reducible refine Apart.over ?_ rfl rfl ?_ ?_ ?_ ?_)
      | (extract_lets +onlyGivenNames z
         first
         | (refine Apart.cut (m := m) (r := r) (z := z) ?_ ?_; rotate_left; clear_value z; intro _; rotate_left; unfold z; clear z)
         | clear_value z)
      | with_reducible apply sendRecord_apart
      | with_reducible apply endRun_apart
      | with_reducible apply streamWrite_apart
      | with_reducible apply completeOp_apart
      | with_reducible apply ApartO.next
      | with_reducible rfl
      | split

theorem execCharge_apart {m : Bool} {r : State} (h0 : Hdr) (op : Nat) (value : Int) (s : State) (h : Apart m r s) :
    ApartO m r (execCharge h0 op value s) := by
  unfold execCharge
  repeat' first
      | with_reducible assumption
      | with_reducible exact id
      | (intro _; with_reducible rfl)
      | intro _
      | ((fail_if_success fail_if_success (conv => arg 3; arg 3)); with_reducible apply Apart.ite)
      | ((fail_if_success fail_if_success (conv => arg 3; arg 34)); with_reducible refine Apart.over ?_ rfl rfl ?_ ?_ ?_ ?_)
      | (extract_lets +onlyGivenNames z; clear_value z)
      | with_reducible apply runCmd_apart
      | with_reducible apply refuse_apart
      | with_reducible apply reply_apart
      | with_reducible apply ApartO.next
      | with_reducible rfl

theorem execChargePresetApply_apart {m : Bool} {r : State} (s : State) (h : Apart m r s) : ApartO m r (execChargePresetApply s) := by
  unfold execChargePresetApply
  repeat' first
      | with_reducible assumption
      | with_reducible exact id
      | (intro _; with_reducible rfl)
      | ((fail_if_success fail_if_success (conv => arg 3; arg 3)); with_reducible apply Apart.ite)
      | ((fail_if_success fail_if_success (conv => arg 3; arg 34)); with_reducible refine Apart.over ?_ rfl rfl ?_ ?_ ?_ ?_)
      | (extract_lets +onlyGivenNames z; clear_value z)
      | with_reducible apply ApartO.next
      | with_reducible rfl
      | split

theorem execGetSlateStatus_apart {m : Bool} {r : State} (h0 : Hdr) (s : State) (h : Apart m r s) :
    ApartO m r (execGetSlateStatus h0 s) := by
  unfold execGetSlateStatus
  repeat' first
      | with_reducible assumption
      | intro _
      | with_reducible apply runCmd_apart
      | with_reducible apply reply_apart
      | with_reducible apply ApartO.next

theorem ringFailure_apart {m : Bool} {r : State} (s : State) (die : Nat) (h : Apart m r s) : Apart m r (ringFailure s die) := by
  unfold ringFailure
  repeat' first
      | with_reducible assumption
      | with_reducible exact id
      | (intro _; with_reducible rfl)
      | ((fail_if_success fail_if_success (conv => arg 3; arg 3)); with_reducible apply Apart.ite)
      | ((fail_if_success fail_if_success (conv => arg 3; arg 34)); with_reducible refine Apart.over ?_ rfl rfl ?_ ?_ ?_ ?_)
      | (extract_lets +onlyGivenNames z
         first
         | (refine Apart.cut (m := m) (r := r) (z := z) ?_ ?_; rotate_left; clear_value z; intro _; rotate_left; unfold z; clear z)
         | clear_value z)
      | with_reducible apply raise_apart
      | with_reducible rfl

theorem execDieBlock_apart {m : Bool} {r : State} (die : Nat) (good : Bool) (s : State) (h : Apart m r s) :
    ApartO m r (execDieBlock die good s) := by
  unfold execDieBlock
  repeat' first
      | with_reducible assumption
      | with_reducible exact id
      | (intro _; with_reducible rfl)
      | intro _
      | ((fail_if_success fail_if_success (conv => arg 3; arg 3)); with_reducible apply Apart.ite)
      | ((fail_if_success fail_if_success (conv => arg 3; arg 34)); with_reducible refine Apart.over ?_ rfl rfl ?_ ?_ ?_ ?_)
      | (extract_lets +onlyGivenNames z
         first
         | (refine Apart.cut (m := m) (r := r) (z := z) ?_ ?_; rotate_left; clear_value z; intro _; rotate_left; unfold z; clear z)
         | clear_value z)
      | with_reducible apply ringFailure_apart
      | with_reducible apply Apart.onDie
      | with_reducible rfl

theorem writeGap_apart {m : Bool} {r : State} (s : State) (pkg : Nat) (h : Apart m r s) : Apart m r (writeGap s pkg) := by
  unfold writeGap
  repeat' first
      | with_reducible assumption
      | with_reducible exact id
      | (intro _; with_reducible rfl)
      | ((fail_if_success fail_if_success (conv => arg 3; arg 34)); with_reducible refine Apart.over ?_ rfl rfl ?_ ?_ ?_ ?_)
      | (extract_lets +onlyGivenNames z; clear_value z)
      | with_reducible apply streamWrite_apart
      | with_reducible rfl
      | split

theorem extendRun_apart {m : Bool} {r : State} (s : State) (pkg seq : Nat) (h : Apart m r s) : Apart m r (extendRun s pkg seq) := by
  unfold extendRun
  repeat' first
      | with_reducible assumption
      | with_reducible exact id
      | (intro _; with_reducible rfl)
      | ((fail_if_success fail_if_success (conv => arg 3; arg 34)); with_reducible refine Apart.over ?_ rfl rfl ?_ ?_ ?_ ?_)
      | (extract_lets +onlyGivenNames z; clear_value z)
      | with_reducible rfl

theorem slateToStream_apart {m : Bool} {r : State} (s : State) (pkg type seq : Nat) (payload : List Byte) (h : Apart m r s) :
    Apart m r (slateToStream s pkg type seq payload).1 := by
  unfold slateToStream
  repeat' first
      | with_reducible assumption
      | with_reducible exact id
      | (intro _; with_reducible rfl)
      | ((fail_if_success fail_if_success (conv => arg 3; arg 34)); with_reducible refine Apart.over ?_ rfl rfl ?_ ?_ ?_ ?_)
      | (extract_lets +onlyGivenNames z
         first
         | (refine Apart.cut (m := m) (r := r) (z := z) ?_ ?_; rotate_left; clear_value z; intro _; rotate_left; unfold z; clear z)
         | clear_value z)
      | with_reducible apply endRun_apart
      | with_reducible apply streamWrite_apart
      | with_reducible apply writeGap_apart
      | with_reducible apply settle_apart
      | with_reducible apply streamDrop_apart
      | with_reducible apply extendRun_apart
      | with_reducible apply Apart.ite_fst
      | with_reducible rfl
      | dsimp -zeta only

theorem chainQueuePut_apart {m : Bool} {r : State} (s : State) (payload : List Byte) (h : Apart m r s) :
    Apart m r (chainQueuePut s payload) := by
  unfold chainQueuePut
  repeat' first
      | with_reducible assumption
      | with_reducible exact id
      | (intro _; with_reducible rfl)
      | ((fail_if_success fail_if_success (conv => arg 3; arg 3)); with_reducible apply Apart.ite)
      | ((fail_if_success fail_if_success (conv => arg 3; arg 34)); with_reducible refine Apart.over ?_ rfl rfl ?_ ?_ ?_ ?_)
      | (extract_lets +onlyGivenNames z; clear_value z)
      | with_reducible apply raise_apart
      | with_reducible rfl

theorem currentWatch_apart {m : Bool} {r : State} (s : State) (t : Take) (h : Apart m r s) : Apart m r (currentWatch s t) := by
  unfold currentWatch
  repeat' first
      | with_reducible assumption
      | with_reducible exact id
      | (intro _; with_reducible rfl)
      | ((fail_if_success fail_if_success (conv => arg 3; arg 3)); with_reducible apply Apart.ite)
      | ((fail_if_success fail_if_success (conv => arg 3; arg 34)); with_reducible refine Apart.over ?_ rfl rfl ?_ ?_ ?_ ?_)
      | (extract_lets +onlyGivenNames z; clear_value z)
      | with_reducible apply raise_apart
      | with_reducible rfl

theorem formSlate_apart {m : Bool} {r : State} (s : State) (t : Take) (h : Apart m r s) : Apart m r (formSlate s t).1 := by
  unfold formSlate
  repeat' first
      | with_reducible assumption
      | (extract_lets +onlyGivenNames z
         first
         | (refine Apart.cut (m := m) (r := r) (z := z) ?_ ?_; rotate_left; clear_value z; intro _; rotate_left; unfold z; clear z)
         | (refine Apart.cut_fst (m := m) (r := r) (z := z) ?_ ?_; rotate_left; clear_value z; intro _; rotate_left; unfold z; clear z))
      | with_reducible apply alignTake_apart
      | with_reducible apply fillTake_apart
      | with_reducible apply currentWatch_apart

theorem sendSlate_apart {m : Bool} {r : State} (s : State) (t : Take) (h : Apart m r s) : Apart m r (sendSlate s t).1 := by
  unfold sendSlate
  repeat' first
      | with_reducible assumption
      | ((fail_if_success fail_if_success (conv => arg 3; arg 3)); with_reducible apply Apart.ite)
      | (extract_lets +onlyGivenNames z
         first
         | (refine Apart.cut (m := m) (r := r) (z := z) ?_ ?_; rotate_left; clear_value z; intro _; rotate_left; unfold z; clear z)
         | (refine Apart.cut_fst (m := m) (r := r) (z := z) ?_ ?_; rotate_left; clear_value z; intro _; rotate_left; unfold z; clear z)
         | clear_value z)
      | with_reducible apply slateToStream_apart
      | with_reducible apply chainQueuePut_apart
      | with_reducible apply sendRecord_apart
      | with_reducible apply streamRec_apart
      | with_reducible apply Apart.ite_fst
      | split

theorem execSlatePublish_apart {m : Bool} {r : State} (s : State) (h : Apart m r s) : ApartO m r (execSlatePublish s) := by
  unfold execSlatePublish
  repeat' first
      | with_reducible assumption
      | with_reducible exact id
      | (intro _; with_reducible rfl)
      | ((fail_if_success fail_if_success (conv => arg 3; arg 34)); with_reducible refine Apart.over ?_ rfl rfl ?_ ?_ ?_ ?_)
      | (extract_lets +onlyGivenNames z
         first
         | (refine Apart.cut (m := m) (r := r) (z := z) ?_ ?_; rotate_left; clear_value z; intro _; rotate_left; unfold z; clear z)
         | (refine Apart.cut_fst (m := m) (r := r) (z := z) ?_ ?_; rotate_left; clear_value z; intro _; rotate_left; unfold z; clear z)
         | clear_value z)
      | with_reducible apply formSlate_apart
      | with_reducible apply sendSlate_apart
      | with_reducible apply checkRef_apart
      | with_reducible apply lockTake_apart
      | with_reducible apply ApartO.next
      | with_reducible rfl
      | split

theorem suspectTap_apart {m : Bool} {r : State} (s : State) (die tap : Nat) (h : Apart m r s) : Apart m r (suspectTap s die tap) := by
  unfold suspectTap
  repeat' first
      | with_reducible assumption
      | (intro _; with_reducible rfl)
      | with_reducible apply State.updDie_apart

theorem suspectCell_apart {m : Bool} {r : State} (s : State) (die cell : Nat) (h : Apart m r s) : Apart m r (suspectCell s die cell) := by
  unfold suspectCell
  repeat' first
      | with_reducible assumption
      | (intro _; with_reducible rfl)
      | with_reducible apply suspectTap_apart
      | with_reducible apply State.updDie_apart

theorem execContinuityWindowClose_apart {m : Bool} {r : State} (die : Nat) (s : State) (h : Apart m r s) :
    ApartO m r (execContinuityWindowClose die s) := by
  unfold execContinuityWindowClose
  repeat' first
      | with_reducible assumption
      | with_reducible exact id
      | (intro _; with_reducible rfl)
      | intro _
      | ((fail_if_success fail_if_success (conv => arg 3; arg 34)); with_reducible refine Apart.over ?_ rfl rfl ?_ ?_ ?_ ?_)
      | (extract_lets +onlyGivenNames z
         first
         | (refine Apart.cut (m := m) (r := r) (z := z) ?_ ?_; rotate_left; clear_value z; intro _; rotate_left; unfold z; clear z)
         | clear_value z)
      | with_reducible apply suspectCell_apart
      | with_reducible apply raise_apart
      | with_reducible apply Apart.onDie
      | with_reducible apply Apart.foldl
      | with_reducible rfl
      | split

theorem execContinuityVerdict_apart {m : Bool} {r : State} (die : Nat) (good : Bool) (s : State) (h : Apart m r s) :
    ApartO m r (execContinuityVerdict die good s) := by
  unfold execContinuityVerdict
  repeat' first
      | with_reducible assumption
      | with_reducible exact id
      | (intro _; with_reducible rfl)
      | intro _
      | ((fail_if_success fail_if_success (conv => arg 3; arg 3)); with_reducible apply Apart.ite)
      | ((fail_if_success fail_if_success (conv => arg 3; arg 34)); with_reducible refine Apart.over ?_ rfl rfl ?_ ?_ ?_ ?_)
      | (extract_lets +onlyGivenNames z; clear_value z)
      | with_reducible apply ringFailure_apart
      | with_reducible apply Apart.onDie
      | with_reducible rfl

theorem execWindowIncomplete_apart {m : Bool} {r : State} (die : Nat) (s : State) (h : Apart m r s) :
    ApartO m r (execWindowIncomplete die s) := by
  unfold execWindowIncomplete
  repeat' first
      | with_reducible assumption
      | with_reducible exact id
      | (intro _; with_reducible rfl)
      | intro _
      | ((fail_if_success fail_if_success (conv => arg 3; arg 34)); with_reducible refine Apart.over ?_ rfl rfl ?_ ?_ ?_ ?_)
      | (extract_lets +onlyGivenNames z; clear_value z)
      | with_reducible apply Apart.onDie
      | with_reducible rfl

theorem aloneReading_apart {m : Bool} {r : State} (die : Nat) (volts : List Int) (s : State) (_k : Nat) (h : Apart m r s) :
    Apart m r (aloneReading die volts s _k) := by
  unfold aloneReading
  repeat' first
      | with_reducible assumption
      | intro _
      | (extract_lets +onlyGivenNames z
         first
         | (refine Apart.cut (m := m) (r := r) (z := z) ?_ ?_; rotate_left; clear_value z; intro _; rotate_left; unfold z; clear z)
         | (have _ : SegDie := z; unfold z; clear z)
         | clear_value z)
      | with_reducible apply stepWindows_apart
      | with_reducible apply diagReading_apart
      | with_reducible apply State.updDie_apart
      | with_reducible apply Apart.foldl
      | split
      | rfl

theorem execOpenWindowFinish_apart {m : Bool} {r : State} (die : Nat) (volts : List Int) (s : State) (h : Apart m r s) :
    ApartO m r (execOpenWindowFinish die volts s) := by
  unfold execOpenWindowFinish
  repeat' first
      | with_reducible assumption
      | intro _
      | ((fail_if_success fail_if_success (conv => arg 3; arg 3)); with_reducible apply Apart.ite)
      | (extract_lets +onlyGivenNames z; clear_value z)
      | with_reducible apply aloneReading_apart
      | with_reducible apply Apart.onDie
      | with_reducible apply Apart.foldl

theorem execVerdictTimeout_apart {m : Bool} {r : State} (s : State) (h : Apart m r s) : ApartO m r (execVerdictTimeout s) := by
  unfold execVerdictTimeout
  repeat' first
      | with_reducible assumption
      | with_reducible apply raise_apart
      | with_reducible apply setVerdict_apart
      | with_reducible apply ApartO.next
      | split

theorem sendNotice_apart {m : Bool} {r : State} (s : State) (t : Take) (reason mask : Nat) (h : Apart m r s) :
    Apart m r (sendNotice s t reason mask) := by
  unfold sendNotice
  repeat' first
      | with_reducible assumption
      | with_reducible exact id
      | (intro _; with_reducible rfl)
      | ((fail_if_success fail_if_success (conv => arg 3; arg 3)); with_reducible apply Apart.ite)
      | ((fail_if_success fail_if_success (conv => arg 3; arg 34)); with_reducible refine Apart.over ?_ rfl rfl ?_ ?_ ?_ ?_)
      | (extract_lets +onlyGivenNames z
         first
         | (refine Apart.cut (m := m) (r := r) (z := z) ?_ ?_; rotate_left; clear_value z; intro _; rotate_left; unfold z; clear z)
         | clear_value z)
      | with_reducible apply endRun_apart
      | with_reducible apply streamWrite_apart
      | with_reducible apply sendFrame_apart
      | with_reducible rfl

theorem voidTake_apart {m : Bool} {r : State} (s : State) (t : Take) (reason mask : Nat) (h : Apart m r s) :
    Apart m r (voidTake s t reason mask) := by
  unfold voidTake
  repeat' first
      | with_reducible assumption
      | with_reducible exact id
      | (intro _; with_reducible rfl)
      | ((fail_if_success fail_if_success (conv => arg 3; arg 34)); with_reducible refine Apart.over ?_ rfl rfl ?_ ?_ ?_ ?_)
      | (extract_lets +onlyGivenNames z
         first
         | (refine Apart.cut (m := m) (r := r) (z := z) ?_ ?_; rotate_left; clear_value z; intro _; rotate_left; unfold z; clear z)
         | clear_value z)
      | with_reducible apply captureTake_apart
      | with_reducible apply raise_apart
      | with_reducible rfl

theorem rhoStep_apart {m : Bool} {r : State} (s : State) (p : Nat × Int × Int × Nat) (h : Apart m r s) : Apart m r (rhoStep s p) := by
  unfold rhoStep
  repeat' first
      | with_reducible assumption
      | with_reducible exact id
      | (intro _; with_reducible rfl)
      | ((fail_if_success fail_if_success (conv => arg 3; arg 3)); with_reducible apply Apart.ite)
      | ((fail_if_success fail_if_success (conv => arg 3; arg 34)); with_reducible refine Apart.over ?_ rfl rfl ?_ ?_ ?_ ?_)
      | (extract_lets +onlyGivenNames z
         first
         | (refine Apart.cut (m := m) (r := r) (z := z) ?_ ?_; rotate_left; clear_value z; intro _; rotate_left; unfold z; clear z)
         | clear_value z)
      | with_reducible apply raise_apart
      | with_reducible rfl
      | split

theorem releaseItems_apart {m : Bool} {r : State} (s : State) (seq : Nat) (h : Apart m r s) : Apart m r (releaseItems s seq) := by
  unfold releaseItems
  exact .over h rfl rfl id rfl id fun _ => rfl

theorem keepLate_apart {m : Bool} {r : State} (s : State) (t : Take) (h : Apart m r s) : Apart m r (keepLate s t) := by
  unfold keepLate
  repeat' first
      | with_reducible assumption
      | with_reducible exact id
      | (intro _; with_reducible rfl)
      | ((fail_if_success fail_if_success (conv => arg 3; arg 3)); with_reducible apply Apart.ite)
      | ((fail_if_success fail_if_success (conv => arg 3; arg 34)); with_reducible refine Apart.over ?_ rfl rfl ?_ ?_ ?_ ?_)
      | with_reducible rfl

theorem jumpCheck_apart {m : Bool} {r : State} (s : State) (t : Take) (h : Apart m r s) : Apart m r (jumpCheck s t) := by
  unfold jumpCheck
  repeat' first
      | with_reducible assumption
      | with_reducible exact id
      | (intro _; with_reducible rfl)
      | intro _
      | ((fail_if_success fail_if_success (conv => arg 3; arg 34)); with_reducible refine Apart.over ?_ rfl rfl ?_ ?_ ?_ ?_)
      | (extract_lets +onlyGivenNames z
         first
         | (refine Apart.cut (m := m) (r := r) (z := z) ?_ ?_; rotate_left; clear_value z; intro _; rotate_left; unfold z; clear z)
         | clear_value z)
      | with_reducible apply suspectCell_apart
      | with_reducible apply Apart.foldl
      | with_reducible rfl

theorem thermCheck_apart {m : Bool} {r : State} (die : Nat) (b : Block) (s : State) (j : Nat) (h : Apart m r s) :
    Apart m r (thermCheck die b s j) := by
  unfold thermCheck
  repeat' first
      | with_reducible assumption
      | (intro _; with_reducible rfl)
      | ((fail_if_success fail_if_success (conv => arg 3; arg 3)); with_reducible apply Apart.ite)
      | (extract_lets +onlyGivenNames z
         first
         | (refine Apart.cut (m := m) (r := r) (z := z) ?_ ?_; rotate_left; clear_value z; intro _; rotate_left; unfold z; clear z)
         | clear_value z)
      | with_reducible apply raise_apart
      | with_reducible apply State.updDie_apart
      | split

theorem thermistorCheck_apart {m : Bool} {r : State} (s : State) (t : Take) (h : Apart m r s) : Apart m r (thermistorCheck s t) := by
  unfold thermistorCheck
  repeat' first
      | with_reducible assumption
      | intro _
      | with_reducible apply thermCheck_apart
      | with_reducible apply Apart.foldl

theorem commitTake_apart {m : Bool} {r : State} (s : State) (t : Take) (h : Apart m r s) : Apart m r (commitTake s t) := by
  unfold commitTake
  repeat' first
      | with_reducible assumption
      | with_reducible exact id
      | (intro _; with_reducible rfl)
      | intro _
      | ((fail_if_success fail_if_success (conv => arg 3; arg 3)); with_reducible apply Apart.ite)
      | ((fail_if_success fail_if_success (conv => arg 3; arg 34)); with_reducible refine Apart.over ?_ rfl rfl ?_ ?_ ?_ ?_)
      | (extract_lets +onlyGivenNames z
         first
         | (refine Apart.cut (m := m) (r := r) (z := z) ?_ ?_; rotate_left; clear_value z; intro _; rotate_left; unfold z; clear z)
         | clear_value z)
      | with_reducible apply rhoStep_apart
      | with_reducible apply captureTake_apart
      | with_reducible apply thermistorCheck_apart
      | with_reducible apply jumpCheck_apart
      | with_reducible apply keepLate_apart
      | with_reducible apply releaseItems_apart
      | with_reducible apply Apart.foldl
      | with_reducible rfl

theorem renewModulate_apart {m : Bool} {r : State} (s : State) (h : Apart m r s) : Apart m r (renewModulate s) := by
  unfold renewModulate
  repeat' first
      | with_reducible assumption
      | with_reducible exact id
      | (intro _; with_reducible rfl)
      | ((fail_if_success fail_if_success (conv => arg 3; arg 3)); with_reducible apply Apart.ite)
      | ((fail_if_success fail_if_success (conv => arg 3; arg 34)); with_reducible refine Apart.over ?_ rfl rfl ?_ ?_ ?_ ?_)
      | with_reducible apply codes_map

theorem commitOldest_apart {m : Bool} {r : State} (s : State) (h : Apart m r s) : Apart m r (commitOldest s) := by
  unfold commitOldest
  repeat' first
      | with_reducible assumption
      | with_reducible exact id
      | (intro _; with_reducible rfl)
      | ((fail_if_success fail_if_success (conv => arg 3; arg 3)); with_reducible apply Apart.ite)
      | ((fail_if_success fail_if_success (conv => arg 3; arg 34)); with_reducible refine Apart.over ?_ rfl rfl ?_ ?_ ?_ ?_)
      | (extract_lets +onlyGivenNames z
         first
         | (refine Apart.cut (m := m) (r := r) (z := z) ?_ ?_; rotate_left; clear_value z; intro _; rotate_left; unfold z; clear z)
         | clear_value z)
      | with_reducible apply renewModulate_apart
      | with_reducible apply noteBad_apart
      | with_reducible apply sendNotice_apart
      | with_reducible apply commitTake_apart
      | with_reducible apply voidTake_apart
      | with_reducible rfl
      | split

theorem execCommitNotice_apart {m : Bool} {r : State} (s : State) (h : Apart m r s) : ApartO m r (execCommitNotice s) := by
  unfold execCommitNotice
  repeat' first
      | with_reducible assumption
      | with_reducible apply commitOldest_apart
      | with_reducible apply ApartO.next

end Sys2Proof.Machine
end

