-- ==== Sys2Proof/Laws/ApartLinkOps.lean ====
section
/-! SUPPORT. Each operation of Machine/LinkOps keeps `Apart`. -/
set_option Elab.async false
set_option linter.unusedTactic false
namespace Sys2Proof.Machine

theorem updEntry_apart {m : Bool} {r : State} (s : State) (addr : Nat) (f : MapEntry → MapEntry) (h : Apart m r s) :
    Apart m r (updEntry s addr f) := by
  unfold updEntry
  exact .over h rfl rfl id rfl id fun _ => rfl

theorem frameError_apart {m : Bool} {r : State} (s : State) (port : Nat) (h : Apart m r s) : Apart m r (frameError s port) := by
  unfold frameError
  repeat' first
      | with_reducible assumption
      | with_reducible exact id
      | (intro _; with_reducible rfl)
      | ((fail_if_success fail_if_success (conv => arg 3; arg 3)); with_reducible apply Apart.ite)
      | ((fail_if_success fail_if_success (conv => arg 3; arg 34)); with_reducible refine Apart.over ?_ rfl rfl ?_ ?_ ?_ ?_)
      | (extract_lets +onlyGivenNames z
         first
         | (refine Apart.cut (m := m) (r := r) (z := z) ?_ ?_; rotate_left; clear_value z; intro _; rotate_left; unfold z; clear z)
         | clear_value z)
      | with_reducible apply raise_apart
      | with_reducible rfl

theorem heardFrom_apart {m : Bool} {r : State} (s : State) (src : Nat) (h : Apart m r s) : Apart m r (heardFrom s src) := by
  unfold heardFrom
  repeat' first
      | with_reducible assumption
      | with_reducible apply updEntry_apart

theorem passOn_apart {m : Bool} {r : State} (s : State) (f : FrameHdr) (type : Nat) (payload : List Byte) (h : Apart m r s) :
    Apart m r (passOn s f type payload) := by
  unfold passOn
  repeat' first
      | with_reducible assumption
      | ((fail_if_success fail_if_success (conv => arg 3; arg 3)); with_reducible apply Apart.ite)
      | with_reducible apply emit_apart

theorem remember_apart {m : Bool} {r : State} (s : State) (k : Nat × Nat × Nat) (h : Apart m r s) : Apart m r (remember s k) := by
  unfold remember
  exact .over h rfl rfl id rfl id fun _ => rfl

theorem frameAny_apart {m : Bool} {r : State} (s : State) (f : FrameHdr) (type : Nat) (payload : List Byte) (use : State → State)
    (h : Apart m r s) (g4 : ∀ u0, Apart m r u0 → Apart m r (use u0)) : Apart m r (frameAny s f type payload use) := by
  unfold frameAny
  repeat' first
      | with_reducible assumption
      | ((fail_if_success fail_if_success (conv => arg 3; arg 3)); with_reducible apply Apart.ite)
      | (extract_lets +onlyGivenNames z; refine Apart.cut (m := m) (r := r) (z := z) ?_ ?_; rotate_left; clear_value z; intro _; rotate_left; unfold z; clear z)
      | with_reducible apply g4
      | with_reducible apply passOn_apart
      | with_reducible apply frameError_apart
      | with_reducible apply heardFrom_apart
      | with_reducible apply remember_apart

theorem frameIn_apart {m : Bool} {r : State} (s : State) (f : FrameHdr) (type : Nat) (payload : List Byte) (use : State → State)
    (h : Apart m r s) (g4 : ∀ u0, Apart m r u0 → Apart m r (use u0)) : Apart m r (frameIn s f type payload use) := by
  unfold frameIn
  repeat' first
      | with_reducible assumption
      | intro _
      | ((fail_if_success fail_if_success (conv => arg 3; arg 3)); with_reducible apply Apart.ite)
      | with_reducible apply g4
      | with_reducible apply frameAny_apart

theorem setIn_apart {m : Bool} {r : State} (s : State) (type src : Nat) (good : Bool) (key : Nat × Nat) (body : List Byte)
    (use : State → State) (h : Apart m r s) (g6 : ∀ u0, Apart m r u0 → Apart m r (use u0)) :
    Apart m r (setIn s type src good key body use) := by
  unfold setIn
  repeat' first
      | with_reducible assumption
      | ((fail_if_success fail_if_success (conv => arg 3; arg 3)); with_reducible apply Apart.ite)
      | (extract_lets +onlyGivenNames z; refine Apart.cut (m := m) (r := r) (z := z) ?_ ?_; rotate_left; clear_value z; intro _; rotate_left; unfold z; clear z)
      | with_reducible apply g6
      | with_reducible apply sendSet_apart
      | with_reducible apply remember_apart

theorem setBreaks_apart {m : Bool} {r : State} (s : State) (l : List (Nat × Nat)) (h : Apart m r s) : Apart m r (setBreaks s l) := by
  unfold setBreaks
  repeat' first
      | with_reducible assumption
      | with_reducible exact id
      | (intro _; with_reducible rfl)
      | ((fail_if_success fail_if_success (conv => arg 3; arg 3)); with_reducible apply Apart.ite)
      | ((fail_if_success fail_if_success (conv => arg 3; arg 34)); with_reducible refine Apart.over ?_ rfl rfl ?_ ?_ ?_ ?_)
      | (extract_lets +onlyGivenNames z
         first
         | (refine Apart.cut (m := m) (r := r) (z := z) ?_ ?_; rotate_left; clear_value z; intro _; rotate_left; unfold z; clear z)
         | clear_value z)
      | with_reducible apply raise_apart
      | with_reducible rfl

theorem portDown_apart {m : Bool} {r : State} (s : State) (addr port at_ : Nat) (h : Apart m r s) :
    Apart m r (portDown s addr port at_) := by
  unfold portDown
  repeat' first
      | with_reducible assumption
      | with_reducible exact id
      | (intro _; with_reducible rfl)
      | ((fail_if_success fail_if_success (conv => arg 3; arg 34)); with_reducible refine Apart.over ?_ rfl rfl ?_ ?_ ?_ ?_)
      | (extract_lets +onlyGivenNames z; clear_value z)
      | with_reducible apply setBreaks_apart
      | with_reducible rfl

theorem portUp_apart {m : Bool} {r : State} (s : State) (addr port : Nat) (h : Apart m r s) : Apart m r (portUp s addr port) := by
  unfold portUp
  repeat' first
      | with_reducible assumption
      | ((fail_if_success fail_if_success (conv => arg 3; arg 3)); with_reducible apply Apart.ite)
      | with_reducible apply setBreaks_apart

theorem setTrack_apart {m : Bool} {r : State} (s : State) (t : NoticeTrack) (h : Apart m r s) : Apart m r (setTrack s t) := by
  unfold setTrack
  exact .over h rfl rfl id rfl id fun _ => rfl

theorem noticeToStream_apart {m : Bool} {r : State} (s : State) (src seq : Nat) (payload : List Byte) (h : Apart m r s) :
    Apart m r (noticeToStream s src seq payload) := by
  unfold noticeToStream
  repeat' first
      | with_reducible assumption
      | with_reducible exact id
      | (intro _; with_reducible rfl)
      | ((fail_if_success fail_if_success (conv => arg 3; arg 34)); with_reducible refine Apart.over ?_ rfl rfl ?_ ?_ ?_ ?_)
      | (extract_lets +onlyGivenNames z; clear_value z)
      | with_reducible apply endRun_apart
      | with_reducible apply streamWrite_apart
      | with_reducible rfl

theorem releaseNotice_apart {m : Bool} {r : State} (src : Nat) (s : State) (w : Nat × List Byte × Tick) (h : Apart m r s) :
    Apart m r (releaseNotice src s w) := by
  unfold releaseNotice
  repeat' first
      | with_reducible assumption
      | ((fail_if_success fail_if_success (conv => arg 3; arg 3)); with_reducible apply Apart.ite)
      | (extract_lets +onlyGivenNames z
         first
         | (refine Apart.cut (m := m) (r := r) (z := z) ?_ ?_; rotate_left; clear_value z; intro _; rotate_left; unfold z; clear z)
         | clear_value z)
      | with_reducible apply setTrack_apart
      | with_reducible apply noticeToStream_apart
      | split

theorem releaseNotices_apart {m : Bool} {r : State} (s : State) (src : Nat) (h : Apart m r s) : Apart m r (releaseNotices s src) := by
  unfold releaseNotices
  repeat' first
      | with_reducible assumption
      | intro _
      | with_reducible apply releaseNotice_apart
      | with_reducible apply Apart.foldl

theorem slateIn_apart {m : Bool} {r : State} (s : State) (src type : Nat) (payload : List Byte) (h : Apart m r s) :
    Apart m r (slateIn s src type payload) := by
  unfold slateIn
  repeat' first
      | with_reducible assumption
      | ((fail_if_success fail_if_success (conv => arg 3; arg 3)); with_reducible apply Apart.ite)
      | (extract_lets +onlyGivenNames z
         first
         | (refine Apart.cut_fst (m := m) (r := r) (z := z) ?_ ?_; rotate_left; clear_value z; intro _; rotate_left; unfold z; clear z)
         | clear_value z)
      | with_reducible apply slateToStream_apart
      | with_reducible apply releaseNotices_apart
      | with_reducible apply setTrack_apart

theorem noticeIn_apart {m : Bool} {r : State} (s : State) (src fseq : Nat) (payload : List Byte) (h : Apart m r s) :
    Apart m r (noticeIn s src fseq payload) := by
  unfold noticeIn
  repeat' first
      | with_reducible assumption
      | (extract_lets +onlyGivenNames z; clear_value z)
      | with_reducible apply releaseNotices_apart
      | with_reducible apply setTrack_apart

theorem gapNotice_apart {m : Bool} {r : State} (src : Nat) (s : State) (w : Nat × List Byte × Tick) (h : Apart m r s) :
    Apart m r (gapNotice src s w) := by
  unfold gapNotice
  repeat' first
      | with_reducible assumption
      | ((fail_if_success fail_if_success (conv => arg 3; arg 3)); with_reducible apply Apart.ite)
      | (extract_lets +onlyGivenNames z
         first
         | (refine Apart.cut (m := m) (r := r) (z := z) ?_ ?_; rotate_left; clear_value z; intro _; rotate_left; unfold z; clear z)
         | clear_value z)
      | with_reducible apply extendRun_apart
      | with_reducible apply setTrack_apart
      | with_reducible apply settle_apart
      | with_reducible apply streamDrop_apart
      | with_reducible apply noticeToStream_apart
      | with_reducible apply writeGap_apart

theorem recordIn_apart {m : Bool} {r : State} (s : State) (src rtype : Nat) (payload : List Byte) (h : Apart m r s) :
    Apart m r (recordIn s src rtype payload) := by
  unfold recordIn
  repeat' first
      | with_reducible assumption
      | with_reducible apply streamRec_apart

theorem noteHead_apart {m : Bool} {r : State} (s : State) (src : Nat) (head : Bool) (h : Apart m r s) :
    Apart m r (noteHead s src head) := by
  unfold noteHead
  repeat' first
      | with_reducible assumption
      | with_reducible exact id
      | (intro _; with_reducible rfl)
      | ((fail_if_success fail_if_success (conv => arg 3; arg 34)); with_reducible refine Apart.over ?_ rfl rfl ?_ ?_ ?_ ?_)
      | (extract_lets +onlyGivenNames z; clear_value z)
      | with_reducible apply updEntry_apart
      | with_reducible rfl

theorem commandIn_apart {m : Bool} {r : State} (s : State) (src prio : Nat) (bytes : List Byte) (h : Apart m r s) :
    Apart m r (commandIn s src prio bytes) := by
  unfold commandIn
  repeat' first
      | with_reducible assumption
      | ((fail_if_success fail_if_success (conv => arg 3; arg 3)); with_reducible apply Apart.ite)
      | (extract_lets +onlyGivenNames z
         first
         | (refine Apart.cut (m := m) (r := r) (z := z) ?_ ?_; rotate_left; clear_value z; intro _; rotate_left; unfold z; clear z)
         | clear_value z)
      | with_reducible apply wakeStudio_apart
      | with_reducible apply noteHead_apart
      | with_reducible apply refuse_apart
      | with_reducible apply takeCommand_apart

theorem replyIn_apart {m : Bool} {r : State} (s : State) (prio : Nat) (bytes : List Byte) (h : Apart m r s) :
    Apart m r (replyIn s prio bytes) := by
  unfold replyIn
  repeat' first
      | with_reducible assumption
      | with_reducible exact id
      | (intro _; with_reducible rfl)
      | ((fail_if_success fail_if_success (conv => arg 3; arg 3)); with_reducible apply Apart.ite)
      | ((fail_if_success fail_if_success (conv => arg 3; arg 34)); with_reducible refine Apart.over ?_ rfl rfl ?_ ?_ ?_ ?_)
      | (extract_lets +onlyGivenNames z; clear_value z)
      | with_reducible rfl

theorem deliver_apart {m : Bool} {r : State} (s : State) (x : BulkRx) (h : Apart m r s) : Apart m r (deliver s x) := by
  unfold deliver
  repeat' first
      | with_reducible assumption
      | ((fail_if_success fail_if_success (conv => arg 3; arg 3)); with_reducible apply Apart.ite)
      | with_reducible apply recordIn_apart
      | with_reducible apply commandIn_apart
      | with_reducible apply replyIn_apart
      | split

theorem bulkIn_apart {m : Bool} {r : State} (s : State) (src stream tid offset : Nat) (data : List Byte) (h : Apart m r s) :
    Apart m r (bulkIn s src stream tid offset data) := by
  unfold bulkIn
  repeat' first
      | with_reducible assumption
      | with_reducible exact id
      | (intro _; with_reducible rfl)
      | ((fail_if_success fail_if_success (conv => arg 3; arg 3)); with_reducible apply Apart.ite)
      | ((fail_if_success fail_if_success (conv => arg 3; arg 34)); with_reducible refine Apart.over ?_ rfl rfl ?_ ?_ ?_ ?_)
      | (extract_lets +onlyGivenNames z; clear_value z)
      | with_reducible apply deliver_apart
      | with_reducible rfl

theorem pushCurrent_apart {m : Bool} {r : State} (s : State) (at_ : Nat) (ma : Int) (h : Apart m r s) :
    Apart m r (pushCurrent s at_ ma) := by
  unfold pushCurrent
  repeat' first
      | with_reducible assumption
      | with_reducible exact id
      | (intro _; with_reducible rfl)
      | ((fail_if_success fail_if_success (conv => arg 3; arg 3)); with_reducible apply Apart.ite)
      | ((fail_if_success fail_if_success (conv => arg 3; arg 34)); with_reducible refine Apart.over ?_ rfl rfl ?_ ?_ ?_ ?_)
      | (extract_lets +onlyGivenNames z
         first
         | (refine Apart.cut (m := m) (r := r) (z := z) ?_ ?_; rotate_left; clear_value z; intro _; rotate_left; unfold z; clear z)
         | clear_value z)
      | with_reducible apply lockStream_apart
      | with_reducible rfl

theorem restartStream_apart {m : Bool} {r : State} (s : State) (h : Apart m r s) : Apart m r (restartStream s) := by
  unfold restartStream
  repeat' first
      | with_reducible assumption
      | with_reducible exact id
      | (intro _; with_reducible rfl)
      | ((fail_if_success fail_if_success (conv => arg 3; arg 3)); with_reducible apply Apart.ite)
      | ((fail_if_success fail_if_success (conv => arg 3; arg 34)); with_reducible refine Apart.over ?_ rfl rfl ?_ ?_ ?_ ?_)
      | (extract_lets +onlyGivenNames z
         first
         | (refine Apart.cut (m := m) (r := r) (z := z) ?_ ?_; rotate_left; clear_value z; intro _; rotate_left; unfold z; clear z)
         | clear_value z)
      | with_reducible rfl

theorem copyCharge_apart {m : Bool} {r : State} (s : State) (src : Nat) (payload : List Byte) (h : Apart m r s) :
    Apart m r (copyCharge s src payload) := by
  unfold copyCharge
  repeat' first
      | with_reducible assumption
      | with_reducible exact id
      | (intro _; with_reducible rfl)
      | ((fail_if_success fail_if_success (conv => arg 3; arg 3)); with_reducible apply Apart.ite)
      | ((fail_if_success fail_if_success (conv => arg 3; arg 34)); with_reducible refine Apart.over ?_ rfl rfl ?_ ?_ ?_ ?_)
      | (extract_lets +onlyGivenNames z; clear_value z)
      | with_reducible rfl

theorem newKey_apart {m : Bool} {r : State} (s : State) (h : Apart m r s) : Apart m r (newKey s) := by
  unfold newKey
  repeat' first
      | with_reducible assumption
      | with_reducible exact id
      | (intro _; with_reducible rfl)
      | ((fail_if_success fail_if_success (conv => arg 3; arg 3)); with_reducible apply Apart.ite)
      | ((fail_if_success fail_if_success (conv => arg 3; arg 34)); with_reducible refine Apart.over ?_ rfl rfl ?_ ?_ ?_ ?_)
      | (extract_lets +onlyGivenNames z
         first
         | (refine Apart.cut (m := m) (r := r) (z := z) ?_ ?_; rotate_left; clear_value z; intro _; rotate_left; unfold z; clear z)
         | clear_value z)
      | with_reducible apply State.draw_apart
      | with_reducible apply sendFrame_apart
      | with_reducible rfl

theorem admitMe_apart {m : Bool} {r : State} (s : State) (h : Apart m r s) : Apart m r (admitMe s) := by
  unfold admitMe
  repeat' first
      | with_reducible assumption
      | with_reducible exact id
      | (intro _; with_reducible rfl)
      | ((fail_if_success fail_if_success (conv => arg 3; arg 34)); with_reducible refine Apart.over ?_ rfl rfl ?_ ?_ ?_ ?_)
      | (extract_lets +onlyGivenNames z; clear_value z)
      | with_reducible apply restartFilters_apart
      | with_reducible rfl

theorem readmitted_apart {m : Bool} {r : State} (s : State) (h : Apart m r s) : Apart m r (readmitted s) := by
  unfold readmitted
  repeat' first
      | with_reducible assumption
      | with_reducible exact id
      | (intro _; with_reducible rfl)
      | intro _
      | ((fail_if_success fail_if_success (conv => arg 3; arg 34)); with_reducible refine Apart.over ?_ rfl rfl ?_ ?_ ?_ ?_)
      | (extract_lets +onlyGivenNames z
         first
         | (refine Apart.cut (m := m) (r := r) (z := z) ?_ ?_; rotate_left; clear_value z; intro _; rotate_left; unfold z; clear z)
         | clear_value z)
      | with_reducible apply completeOp_apart
      | with_reducible apply Apart.foldl
      | with_reducible rfl

theorem setPeer_apart {m : Bool} {r : State} (s : State) (p : RadioPeer) (h : Apart m r s) : Apart m r (setPeer s p) := by
  unfold setPeer
  exact .over h rfl rfl id rfl id fun _ => rfl

end Sys2Proof.Machine
end

