-- ==== Sys2Proof/Laws/ApartFwRows.lean ====
section
/-! SUPPORT. Each operation of Machine/FwRows keeps `Apart`. -/
set_option Elab.async false
set_option linter.unusedTactic false
namespace Sys2Proof.Machine

theorem invalidate_apart {m : Bool} {r : State} (s : State) (target : Nat) (h : Apart m r s) : Apart m r (invalidate s target) := by
  unfold invalidate
  repeat' first
      | with_reducible assumption
      | with_reducible exact id
      | (intro _; with_reducible rfl)
      | ((fail_if_success fail_if_success (conv => arg 3; arg 34)); with_reducible refine Apart.over ?_ rfl rfl ?_ ?_ ?_ ?_)
      | (extract_lets +onlyGivenNames z
         first
         | (refine Apart.cut (m := m) (r := r) (z := z) ?_ ?_; rotate_left; clear_value z; intro _; rotate_left; unfold z; clear z)
         | clear_value z)
      | with_reducible apply writeBoot_apart
      | with_reducible rfl

theorem openTransfer_apart {m : Bool} {r : State} (s : State) (h1 : List Byte) (h : Apart m r s) : Apart m r (openTransfer s h1) := by
  unfold openTransfer
  repeat' first
      | with_reducible assumption
      | with_reducible exact id
      | (intro _; with_reducible rfl)
      | ((fail_if_success fail_if_success (conv => arg 3; arg 34)); with_reducible refine Apart.over ?_ rfl rfl ?_ ?_ ?_ ?_)
      | (extract_lets +onlyGivenNames z
         first
         | (refine Apart.cut (m := m) (r := r) (z := z) ?_ ?_; rotate_left; clear_value z; intro _; rotate_left; unfold z; clear z)
         | clear_value z)
      | with_reducible apply invalidate_apart
      | with_reducible rfl

theorem execUpdateBegin_apart {m : Bool} {r : State} (h0 : Hdr) (half : Nat) (bytes : List Byte) (s : State) (h : Apart m r s) :
    ApartO m r (execUpdateBegin h0 half bytes s) := by
  unfold execUpdateBegin
  repeat' first
      | with_reducible assumption
      | with_reducible exact id
      | (intro _; with_reducible rfl)
      | intro _
      | ((fail_if_success fail_if_success (conv => arg 3; arg 3)); with_reducible apply Apart.ite)
      | ((fail_if_success fail_if_success (conv => arg 3; arg 34)); with_reducible refine Apart.over ?_ rfl rfl ?_ ?_ ?_ ?_)
      | (extract_lets +onlyGivenNames z; clear_value z)
      | with_reducible apply runCmd_apart
      | with_reducible apply refuse_apart
      | with_reducible apply reply_apart
      | with_reducible apply raise_apart
      | with_reducible apply openTransfer_apart
      | with_reducible apply ApartO.next
      | with_reducible rfl

theorem execUpdateData_apart {m : Bool} {r : State} (h0 : Hdr) (offset : Nat) (data : List Byte) (s : State) (h : Apart m r s) :
    ApartO m r (execUpdateData h0 offset data s) := by
  unfold execUpdateData
  repeat' first
      | with_reducible assumption
      | with_reducible exact id
      | (intro _; with_reducible rfl)
      | intro _
      | ((fail_if_success fail_if_success (conv => arg 3; arg 3)); with_reducible apply Apart.ite)
      | ((fail_if_success fail_if_success (conv => arg 3; arg 34)); with_reducible refine Apart.over ?_ rfl rfl ?_ ?_ ?_ ?_)
      | (extract_lets +onlyGivenNames z
         first
         | (refine Apart.cut (m := m) (r := r) (z := z) ?_ ?_; rotate_left; clear_value z; intro _; rotate_left; unfold z; clear z)
         | clear_value z)
      | with_reducible apply runCmd_apart
      | with_reducible apply refuse_apart
      | with_reducible apply writeBoot_apart
      | with_reducible apply reply_apart
      | with_reducible apply ApartO.next
      | with_reducible rfl
      | split

theorem verifyEnd_apart {m : Bool} {r : State} (s : State) (target status : Nat) (h : Apart m r s) :
    Apart m r (verifyEnd s target status) := by
  unfold verifyEnd
  repeat' first
      | with_reducible assumption
      | ((fail_if_success fail_if_success (conv => arg 3; arg 3)); with_reducible apply Apart.ite)
      | (extract_lets +onlyGivenNames z; clear_value z)
      | with_reducible apply writeBoot_apart
      | with_reducible apply invalidate_apart

theorem execUpdateVerify_apart {m : Bool} {r : State} (h0 : Hdr) (s : State) (h : Apart m r s) : ApartO m r (execUpdateVerify h0 s) := by
  unfold execUpdateVerify
  repeat' first
      | with_reducible assumption
      | with_reducible exact id
      | (intro _; with_reducible rfl)
      | intro _
      | ((fail_if_success fail_if_success (conv => arg 3; arg 3)); with_reducible apply Apart.ite)
      | ((fail_if_success fail_if_success (conv => arg 3; arg 34)); with_reducible refine Apart.over ?_ rfl rfl ?_ ?_ ?_ ?_)
      | (extract_lets +onlyGivenNames z
         first
         | (refine Apart.cut (m := m) (r := r) (z := z) ?_ ?_; rotate_left; clear_value z; intro _; rotate_left; unfold z; clear z)
         | clear_value z)
      | with_reducible apply runCmd_apart
      | with_reducible apply refuse_apart
      | with_reducible apply startOp_apart
      | with_reducible apply verifyEnd_apart
      | with_reducible apply completeOp_apart
      | with_reducible apply ApartO.next
      | with_reducible rfl
      | split

theorem execUpdateCancel_apart {m : Bool} {r : State} (h0 : Hdr) (s : State) (h : Apart m r s) : ApartO m r (execUpdateCancel h0 s) := by
  unfold execUpdateCancel
  repeat' first
      | with_reducible assumption
      | with_reducible exact id
      | (intro _; with_reducible rfl)
      | intro _
      | ((fail_if_success fail_if_success (conv => arg 3; arg 34)); with_reducible refine Apart.over ?_ rfl rfl ?_ ?_ ?_ ?_)
      | (extract_lets +onlyGivenNames z; clear_value z)
      | with_reducible apply runCmd_apart
      | with_reducible apply refuse_apart
      | with_reducible apply reply_apart
      | with_reducible apply invalidate_apart
      | with_reducible apply ApartO.next
      | with_reducible rfl
      | split

theorem commitBoot_apart {m : Bool} {r : State} (s : State) (tmask at_ : Nat) (h : Apart m r s) : Apart m r (commitBoot s tmask at_) := by
  unfold commitBoot
  repeat' first
      | with_reducible assumption
      | (extract_lets +onlyGivenNames z; clear_value z)
      | with_reducible apply writeBoot_apart

theorem activateTadpole_apart {m : Bool} {r : State} (s : State) (h1 : Hdr) (scope at_ : Nat) (h : Apart m r s) :
    Apart m r (activateTadpole s h1 scope at_) := by
  unfold activateTadpole
  repeat' first
      | with_reducible assumption
      | intro _
      | ((fail_if_success fail_if_success (conv => arg 3; arg 3)); with_reducible apply Apart.ite)
      | (extract_lets +onlyGivenNames z; clear_value z)
      | with_reducible apply refuse_apart
      | with_reducible apply startOp_apart
      | with_reducible apply partReset_apart
      | with_reducible apply commitBoot_apart

theorem acceptActivate_apart {m : Bool} {r : State} (s : State) (h1 : Hdr) (tmask scope at_ : Nat) (h : Apart m r s) :
    Apart m r (acceptActivate s h1 tmask scope at_) := by
  unfold acceptActivate
  repeat' first
      | with_reducible assumption
      | with_reducible exact id
      | (intro _; with_reducible rfl)
      | intro _
      | ((fail_if_success fail_if_success (conv => arg 3; arg 3)); with_reducible apply Apart.ite)
      | ((fail_if_success fail_if_success (conv => arg 3; arg 34)); with_reducible refine Apart.over ?_ rfl rfl ?_ ?_ ?_ ?_)
      | (extract_lets +onlyGivenNames z
         first
         | (refine Apart.cut (m := m) (r := r) (z := z) ?_ ?_; rotate_left; clear_value z; intro _; rotate_left; unfold z; clear z)
         | clear_value z)
      | with_reducible apply startOp_apart
      | with_reducible apply commitBoot_apart
      | with_reducible apply sendFrame_apart
      | with_reducible rfl

theorem execActivate_apart {m : Bool} {r : State} (h0 : Hdr) (tmask scope at_ : Nat) (s : State) (h : Apart m r s) :
    ApartO m r (execActivate h0 tmask scope at_ s) := by
  unfold execActivate
  repeat' first
      | with_reducible assumption
      | intro _
      | ((fail_if_success fail_if_success (conv => arg 3; arg 3)); with_reducible apply Apart.ite)
      | with_reducible apply runCmd_apart
      | with_reducible apply activateTadpole_apart
      | with_reducible apply refuse_apart
      | with_reducible apply acceptActivate_apart
      | with_reducible apply ApartO.next

theorem execActivationCommitPoint_apart {m : Bool} {r : State} (failed : List Nat) (s : State) (h : Apart m r s) :
    ApartO m r (execActivationCommitPoint failed s) := by
  unfold execActivationCommitPoint
  repeat' first
      | with_reducible assumption
      | with_reducible exact id
      | (intro _; with_reducible rfl)
      | ((fail_if_success fail_if_success (conv => arg 3; arg 3)); with_reducible apply Apart.ite)
      | ((fail_if_success fail_if_success (conv => arg 3; arg 34)); with_reducible refine Apart.over ?_ rfl rfl ?_ ?_ ?_ ?_)
      | (extract_lets +onlyGivenNames z
         first
         | (refine Apart.cut (m := m) (r := r) (z := z) ?_ ?_; rotate_left; clear_value z; intro _; rotate_left; unfold z; clear z)
         | clear_value z)
      | with_reducible apply commitBoot_apart
      | with_reducible apply sendFrame_apart
      | with_reducible apply endActivation_apart
      | with_reducible apply ApartO.next
      | with_reducible rfl
      | split

theorem cfgApply_apart {m : Bool} {r : State} (s : State) (r1 : Nat × List Byte) (h : Apart m r s) : Apart m r (cfgApply s r1) := by
  unfold cfgApply
  repeat' first
      | with_reducible assumption
      | with_reducible exact id
      | (intro _; with_reducible rfl)
      | ((fail_if_success fail_if_success (conv => arg 3; arg 3)); with_reducible apply Apart.ite)
      | ((fail_if_success fail_if_success (conv => arg 3; arg 34)); with_reducible refine Apart.over ?_ rfl rfl ?_ ?_ ?_ ?_)
      | (extract_lets +onlyGivenNames z; clear_value z)
      | with_reducible apply restartFilters_apart
      | with_reducible apply flashPush_apart
      | with_reducible apply codes_map
      | with_reducible rfl

theorem applyBundle_apart {m : Bool} {r : State} (s : State) (set_ : Nat) (h : Apart m r s) : Apart m r (applyBundle s set_) := by
  unfold applyBundle
  repeat' first
      | with_reducible assumption
      | intro _
      | ((fail_if_success fail_if_success (conv => arg 3; arg 3)); with_reducible apply Apart.ite)
      | with_reducible apply cfgApply_apart
      | with_reducible apply Apart.foldl
      | split

theorem switchPlaces_apart {m : Bool} {r : State} (s : State) (h : Apart m r s) : Apart m r (switchPlaces s) := by
  unfold switchPlaces
  repeat' first
      | with_reducible assumption
      | with_reducible exact id
      | (intro _; with_reducible rfl)
      | ((fail_if_success fail_if_success (conv => arg 3; arg 34)); with_reducible refine Apart.over ?_ rfl rfl ?_ ?_ ?_ ?_)
      | (extract_lets +onlyGivenNames z
         first
         | (refine Apart.cut (m := m) (r := r) (z := z) ?_ ?_; rotate_left; clear_value z; intro _; rotate_left; unfold z; clear z)
         | clear_value z)
      | with_reducible apply writeBoot_apart
      | with_reducible apply raise_apart
      | with_reducible apply applyBundle_apart
      | with_reducible rfl

theorem execActivation_apart {m : Bool} {r : State} (s : State) (h : Apart m r s) : ApartO m r (execActivation s) := by
  unfold execActivation
  repeat' first
      | with_reducible assumption
      | with_reducible exact id
      | (intro _; with_reducible rfl)
      | ((fail_if_success fail_if_success (conv => arg 3; arg 3)); with_reducible apply Apart.ite)
      | ((fail_if_success fail_if_success (conv => arg 3; arg 34)); with_reducible refine Apart.over ?_ rfl rfl ?_ ?_ ?_ ?_)
      | (extract_lets +onlyGivenNames z
         first
         | (refine Apart.cut (m := m) (r := r) (z := z) ?_ ?_; rotate_left; clear_value z; intro _; rotate_left; unfold z; clear z)
         | clear_value z)
      | with_reducible apply partReset_apart
      | with_reducible apply switchPlaces_apart
      | with_reducible apply studioRestart_apart
      | with_reducible apply ApartO.next
      | with_reducible rfl

theorem finishActivate_apart {m : Bool} {r : State} (s : State) (members : List (Nat × Nat × Nat)) (h : Apart m r s) :
    Apart m r (finishActivate s members) := by
  unfold finishActivate
  repeat' first
      | with_reducible assumption
      | with_reducible exact id
      | (intro _; with_reducible rfl)
      | ((fail_if_success fail_if_success (conv => arg 3; arg 3)); with_reducible apply Apart.ite)
      | ((fail_if_success fail_if_success (conv => arg 3; arg 34)); with_reducible refine Apart.over ?_ rfl rfl ?_ ?_ ?_ ?_)
      | (extract_lets +onlyGivenNames z
         first
         | (refine Apart.cut (m := m) (r := r) (z := z) ?_ ?_; rotate_left; clear_value z; intro _; rotate_left; unfold z; clear z)
         | clear_value z)
      | with_reducible apply completeOpFlash_apart
      | with_reducible apply completeOp_apart
      | with_reducible rfl
      | split

theorem execConfirmation_apart {m : Bool} {r : State} (healthy : Bool) (members : List (Nat × Nat × Nat)) (s : State) (h : Apart m r s) :
    ApartO m r (execConfirmation healthy members s) := by
  unfold execConfirmation
  repeat' first
      | with_reducible assumption
      | with_reducible exact id
      | (intro _; with_reducible rfl)
      | ((fail_if_success fail_if_success (conv => arg 3; arg 3)); with_reducible apply Apart.ite)
      | ((fail_if_success fail_if_success (conv => arg 3; arg 34)); with_reducible refine Apart.over ?_ rfl rfl ?_ ?_ ?_ ?_)
      | (extract_lets +onlyGivenNames z
         first
         | (refine Apart.cut (m := m) (r := r) (z := z) ?_ ?_; rotate_left; clear_value z; intro _; rotate_left; unfold z; clear z)
         | clear_value z)
      | with_reducible apply writeBoot_apart
      | with_reducible apply finishActivate_apart
      | with_reducible apply raise_apart
      | with_reducible apply ApartO.next
      | with_reducible rfl

theorem execConfirmTimeout_apart {m : Bool} {r : State} (s : State) (h : Apart m r s) : ApartO m r (execConfirmTimeout s) := by
  unfold execConfirmTimeout
  repeat' first
      | with_reducible assumption
      | with_reducible exact id
      | (intro _; with_reducible rfl)
      | ((fail_if_success fail_if_success (conv => arg 3; arg 3)); with_reducible apply Apart.ite)
      | ((fail_if_success fail_if_success (conv => arg 3; arg 34)); with_reducible refine Apart.over ?_ rfl rfl ?_ ?_ ?_ ?_)
      | (extract_lets +onlyGivenNames z; clear_value z)
      | with_reducible apply attemptFailed_apart
      | with_reducible apply raise_apart
      | with_reducible apply ApartO.next
      | with_reducible rfl

theorem execGetUpdateStatus_apart {m : Bool} {r : State} (h0 : Hdr) (s : State) (h : Apart m r s) :
    ApartO m r (execGetUpdateStatus h0 s) := by
  unfold execGetUpdateStatus
  repeat' first
      | with_reducible assumption
      | intro _
      | with_reducible apply runCmd_apart
      | with_reducible apply reply_apart
      | with_reducible apply ApartO.next

theorem execSetActivationMode_apart {m : Bool} {r : State} (h0 : Hdr) (mode : Nat) (s : State) (h : Apart m r s) :
    ApartO m r (execSetActivationMode h0 mode s) := by
  unfold execSetActivationMode
  repeat' first
      | with_reducible assumption
      | with_reducible exact id
      | (intro _; with_reducible rfl)
      | intro _
      | ((fail_if_success fail_if_success (conv => arg 3; arg 3)); with_reducible apply Apart.ite)
      | ((fail_if_success fail_if_success (conv => arg 3; arg 34)); with_reducible refine Apart.over ?_ rfl rfl ?_ ?_ ?_ ?_)
      | (extract_lets +onlyGivenNames z; clear_value z)
      | with_reducible apply runCmd_apart
      | with_reducible apply refuse_apart
      | with_reducible apply reply_apart
      | with_reducible apply ApartO.next
      | with_reducible rfl

theorem execEnterRecovery_apart {m : Bool} {r : State} (h0 : Hdr) (p : Proof) (s : State) (h : Apart m r s) :
    ApartO m r (execEnterRecovery h0 p s) := by
  unfold execEnterRecovery
  repeat' first
      | with_reducible assumption
      | with_reducible exact id
      | (intro _; with_reducible rfl)
      | intro _
      | ((fail_if_success fail_if_success (conv => arg 3; arg 3)); with_reducible apply Apart.ite)
      | ((fail_if_success fail_if_success (conv => arg 3; arg 34)); with_reducible refine Apart.over ?_ rfl rfl ?_ ?_ ?_ ?_)
      | (extract_lets +onlyGivenNames z
         first
         | (refine Apart.cut (m := m) (r := r) (z := z) ?_ ?_; rotate_left; clear_value z; intro _; rotate_left; unfold z; clear z)
         | clear_value z)
      | with_reducible apply runCmd_apart
      | with_reducible apply withProof_apart
      | with_reducible apply refuse_apart
      | with_reducible apply emit_apart
      | with_reducible apply partReset_apart
      | with_reducible apply ApartO.next
      | with_reducible rfl

theorem execSetCustomerKey_apart {m : Bool} {r : State} (h0 : Hdr) (key : List Byte) (p : Proof) (s : State) (h : Apart m r s) :
    ApartO m r (execSetCustomerKey h0 key p s) := by
  unfold execSetCustomerKey
  repeat' first
      | with_reducible assumption
      | with_reducible exact id
      | (intro _; with_reducible rfl)
      | intro _
      | ((fail_if_success fail_if_success (conv => arg 3; arg 3)); with_reducible apply Apart.ite)
      | ((fail_if_success fail_if_success (conv => arg 3; arg 34)); with_reducible refine Apart.over ?_ rfl rfl ?_ ?_ ?_ ?_)
      | (extract_lets +onlyGivenNames z; clear_value z)
      | with_reducible apply runCmd_apart
      | with_reducible apply withProof_apart
      | with_reducible apply refuse_apart
      | with_reducible apply reply_apart
      | with_reducible apply ApartO.next
      | with_reducible rfl

end Sys2Proof.Machine
end

