-- ==== Sys2Proof/Laws/ApartStartRows.lean ====
section
/-! SUPPORT. Each operation of Machine/StartRows keeps `Apart`. -/
set_option Elab.async false
set_option linter.unusedTactic false
namespace Sys2Proof.Machine

theorem sleepRecord_apart {m : Bool} {r : State} (s : State) (die : Nat) (r2 : Nat × Nat) (h : Apart m r s) :
    Apart m r (sleepRecord s die r2) := by
  unfold sleepRecord
  repeat' first
      | with_reducible assumption
      | (intro _; with_reducible rfl)
      | (extract_lets +onlyGivenNames z; refine Apart.cut (m := m) (r := r) (z := z) ?_ ?_; rotate_left; clear_value z; intro _; rotate_left; unfold z; clear z)
      | with_reducible apply collectCarried_apart
      | with_reducible apply State.updDie_apart

theorem carriedRecords_apart {m : Bool} {r : State} (s : State) (h : Apart m r s) : Apart m r (carriedRecords s) := by
  unfold carriedRecords
  repeat' first
      | with_reducible assumption
      | with_reducible exact id
      | (intro _; with_reducible rfl)
      | intro _
      | ((fail_if_success fail_if_success (conv => arg 3; arg 34)); with_reducible refine Apart.over ?_ rfl rfl ?_ ?_ ?_ ?_)
      | (extract_lets +onlyGivenNames z
         first
         | (refine Apart.cut (m := m) (r := r) (z := z) ?_ ?_; rotate_left; clear_value z; intro _; rotate_left; unfold z; clear z)
         | clear_value z)
      | with_reducible apply sleepRecord_apart
      | with_reducible apply collectCarried_apart
      | with_reducible apply Apart.foldl
      | with_reducible apply codes_map

theorem bootSectors_apart {m : Bool} {r : State} (s : State) (good : List Bool) (h : Apart m r s) : Apart m r (bootSectors s good) := by
  unfold bootSectors
  repeat' first
      | with_reducible assumption
      | intro _
      | ((fail_if_success fail_if_success (conv => arg 3; arg 3)); with_reducible apply Apart.ite)
      | with_reducible apply raise_apart
      | with_reducible apply Apart.foldl

theorem startTadpole_apart {m : Bool} {r : State} (s : State) (cause : Nat) (h : Apart m r s) : Apart m r (startTadpole s cause) := by
  unfold startTadpole
  repeat' first
      | with_reducible assumption
      | with_reducible exact id
      | exact fun _ _ => rfl
      | (intro _; with_reducible rfl)
      | ((fail_if_success fail_if_success (conv => arg 3; arg 34)); with_reducible refine Apart.over ?_ rfl rfl ?_ ?_ ?_ ?_)
      | (extract_lets +onlyGivenNames z
         first
         | (refine Apart.cut (m := m) (r := r) (z := z) ?_ ?_; rotate_left; clear_value z; intro _; rotate_left; unfold z; clear z)
         | clear_value z)
      | with_reducible apply carry_apart
      | with_reducible rfl

theorem startPending_apart {m : Bool} {r : State} (s : State) (h : Apart m r s) : Apart m r (startPending s) := by
  unfold startPending
  repeat' first
      | with_reducible assumption
      | with_reducible exact id
      | (intro _; with_reducible rfl)
      | ((fail_if_success fail_if_success (conv => arg 3; arg 3)); with_reducible apply Apart.ite)
      | ((fail_if_success fail_if_success (conv => arg 3; arg 34)); with_reducible refine Apart.over ?_ rfl rfl ?_ ?_ ?_ ?_)
      | (extract_lets +onlyGivenNames z
         first
         | (refine Apart.cut (m := m) (r := r) (z := z) ?_ ?_; rotate_left; clear_value z; intro _; rotate_left; unfold z; clear z)
         | clear_value z)
      | with_reducible apply switchPlaces_apart
      | with_reducible apply writeBoot_apart
      | with_reducible rfl

theorem runPlace_apart {m : Bool} {r : State} (s : State) (target : Nat) (b : Bool) (h : Apart m r s) :
    Apart m r (runPlace s target b) := by
  unfold runPlace
  exact .over h rfl rfl id rfl id fun _ => rfl

theorem setLbWord_apart {m : Bool} {r : State} (s : State) (die : Nat) (w : BitVec 32) (h : Apart m r s) :
    Apart m r (setLbWord s die w) := by
  unfold setLbWord
  repeat' first
      | with_reducible assumption
      | with_reducible exact id
      | (intro _; with_reducible rfl)
      | ((fail_if_success fail_if_success (conv => arg 3; arg 3)); with_reducible apply Apart.ite)
      | ((fail_if_success fail_if_success (conv => arg 3; arg 34)); with_reducible refine Apart.over ?_ rfl rfl ?_ ?_ ?_ ?_)
      | with_reducible apply State.updDie_apart
      | with_reducible rfl

theorem lbistAtStart_apart {m : Bool} {r : State} (runs : List (Nat × Bool × Nat)) (s : State) (die : Nat) (h : Apart m r s) :
    Apart m r (lbistAtStart runs s die) := by
  unfold lbistAtStart
  repeat' first
      | with_reducible assumption
      | with_reducible exact id
      | (intro _; with_reducible rfl)
      | ((fail_if_success fail_if_success (conv => arg 3; arg 3)); with_reducible apply Apart.ite)
      | ((fail_if_success fail_if_success (conv => arg 3; arg 34)); with_reducible refine Apart.over ?_ rfl rfl ?_ ?_ ?_ ?_)
      | (extract_lets +onlyGivenNames z
         first
         | (refine Apart.cut (m := m) (r := r) (z := z) ?_ ?_; rotate_left; clear_value z; intro _; rotate_left; unfold z; clear z)
         | clear_value z)
      | with_reducible apply raise_apart
      | with_reducible apply setLbWord_apart
      | with_reducible rfl
      | split

theorem lbistStart_apart {m : Bool} {r : State} (s : State) (runs : List (Nat × Bool × Nat)) (h : Apart m r s) :
    Apart m r (lbistStart s runs) := by
  unfold lbistStart
  repeat' first
      | with_reducible assumption
      | intro _
      | ((fail_if_success fail_if_success (conv => arg 3; arg 3)); with_reducible apply Apart.ite)
      | with_reducible apply lbistAtStart_apart
      | with_reducible apply Apart.foldl

theorem loadSafety_apart {m : Bool} {r : State} (s : State) (good : List Bool) (h : Apart m r s) : Apart m r (loadSafety s good) := by
  unfold loadSafety
  repeat' first
      | with_reducible assumption
      | with_reducible exact id
      | (intro _; with_reducible rfl)
      | ((fail_if_success fail_if_success (conv => arg 3; arg 3)); with_reducible apply Apart.ite)
      | ((fail_if_success fail_if_success (conv => arg 3; arg 34)); with_reducible refine Apart.over ?_ rfl rfl ?_ ?_ ?_ ?_)
      | (extract_lets +onlyGivenNames z; clear_value z)
      | with_reducible apply raise_apart
      | with_reducible rfl
      | split

theorem loadReaction_apart {m : Bool} {r : State} (s : State) (good : List Bool) (h : Apart m r s) : Apart m r (loadReaction s good) := by
  unfold loadReaction
  repeat' first
      | with_reducible assumption
      | with_reducible exact id
      | (intro _; with_reducible rfl)
      | ((fail_if_success fail_if_success (conv => arg 3; arg 3)); with_reducible apply Apart.ite)
      | ((fail_if_success fail_if_success (conv => arg 3; arg 34)); with_reducible refine Apart.over ?_ rfl rfl ?_ ?_ ?_ ?_)
      | (extract_lets +onlyGivenNames z; clear_value z)
      | with_reducible apply raise_apart
      | with_reducible rfl
      | split

theorem loadCal_apart {m : Bool} {r : State} (s : State) (badA badB : List Nat) (h : Apart m r s) : Apart m r (loadCal s badA badB) := by
  unfold loadCal
  repeat' first
      | with_reducible assumption
      | with_reducible exact id
      | (intro _; with_reducible rfl)
      | ((fail_if_success fail_if_success (conv => arg 3; arg 34)); with_reducible refine Apart.over ?_ rfl rfl ?_ ?_ ?_ ?_)
      | (extract_lets +onlyGivenNames z; clear_value z)
      | with_reducible rfl

theorem loadParts_apart {m : Bool} {r : State} (s : State) (b : BootFindings) (h : Apart m r s) : Apart m r (loadParts s b) := by
  unfold loadParts
  repeat' first
      | with_reducible assumption
      | with_reducible exact id
      | (intro _; with_reducible rfl)
      | intro _
      | ((fail_if_success fail_if_success (conv => arg 3; arg 34)); with_reducible refine Apart.over ?_ rfl rfl ?_ ?_ ?_ ?_)
      | (extract_lets +onlyGivenNames z
         first
         | (refine Apart.cut (m := m) (r := r) (z := z) ?_ ?_; rotate_left; clear_value z; intro _; rotate_left; unfold z; clear z)
         | clear_value z)
      | with_reducible apply raise_apart
      | with_reducible apply runPlace_apart
      | with_reducible apply Apart.foldl
      | with_reducible rfl
      | split

theorem cutDownloads_apart {m : Bool} {r : State} (s : State) (h : Apart m r s) : Apart m r (cutDownloads s) := by
  unfold cutDownloads
  repeat' first
      | with_reducible assumption
      | intro _
      | ((fail_if_success fail_if_success (conv => arg 3; arg 3)); with_reducible apply Apart.ite)
      | with_reducible apply raise_apart
      | with_reducible apply invalidate_apart
      | with_reducible apply verifyEnd_apart
      | with_reducible apply Apart.foldl
      | split

theorem scrubOverdue_apart {m : Bool} {r : State} (s : State) (h : Apart m r s) : Apart m r (scrubOverdue s) := by
  unfold scrubOverdue
  repeat' first
      | with_reducible assumption
      | ((fail_if_success fail_if_success (conv => arg 3; arg 3)); with_reducible apply Apart.ite)
      | with_reducible apply raise_apart

theorem startMarker_apart {m : Bool} {r : State} (s : State) (h : Apart m r s) : Apart m r (startMarker s) := by
  unfold startMarker
  repeat' first
      | with_reducible assumption
      | with_reducible apply dailiesPut_apart

theorem enterState_apart {m : Bool} {r : State} (s : State) (h : Apart m r s) : Apart m r (enterState s) := by
  unfold enterState
  repeat' first
      | with_reducible assumption
      | with_reducible exact id
      | (intro _; with_reducible rfl)
      | ((fail_if_success fail_if_success (conv => arg 3; arg 3)); with_reducible apply Apart.ite)
      | ((fail_if_success fail_if_success (conv => arg 3; arg 34)); with_reducible refine Apart.over ?_ rfl rfl ?_ ?_ ?_ ?_)
      | with_reducible rfl

theorem joinFrame_apart {m : Bool} {r : State} (s : State) (h : Apart m r s) : Apart m r (joinFrame s) := by
  unfold joinFrame
  repeat' first
      | with_reducible assumption
      | with_reducible exact id
      | (intro _; with_reducible rfl)
      | ((fail_if_success fail_if_success (conv => arg 3; arg 34)); with_reducible refine Apart.over ?_ rfl rfl ?_ ?_ ?_ ?_)
      | (extract_lets +onlyGivenNames z
         first
         | (refine Apart.cut (m := m) (r := r) (z := z) ?_ ?_; rotate_left; clear_value z; intro _; rotate_left; unfold z; clear z)
         | clear_value z)
      | with_reducible apply sendFrame_apart
      | with_reducible rfl

theorem tripAgain_apart {m : Bool} {r : State} (s : State) (die : Nat) (under : Bool) (cell : Nat) (h : Apart m r s) :
    Apart m r (tripAgain s die under cell) := by
  unfold tripAgain
  repeat' first
      | with_reducible assumption
      | ((fail_if_success fail_if_success (conv => arg 3; arg 3)); with_reducible apply Apart.ite)
      | (extract_lets +onlyGivenNames z; clear_value z)
      | with_reducible apply raise_apart

theorem tripsAgain_apart {m : Bool} {r : State} (s : State) (h : Apart m r s) : Apart m r (tripsAgain s) := by
  unfold tripsAgain
  repeat' first
      | with_reducible assumption
      | intro _
      | with_reducible apply tripAgain_apart
      | with_reducible apply Apart.foldl

theorem keeperStart_apart {m : Bool} {r : State} (s : State) (b : BootFindings) (h : Apart m r s) : Apart m r (keeperStart s b) := by
  unfold keeperStart
  repeat' first
      | with_reducible assumption
      | with_reducible exact id
      | (intro _; with_reducible rfl)
      | (refine @id (servesP _ → servesP _) ?_; exact id)
      | intro _
      | ((fail_if_success fail_if_success (conv => arg 3; arg 3)); with_reducible apply Apart.ite)
      | ((fail_if_success fail_if_success (conv => arg 3; arg 34)); with_reducible refine Apart.over ?_ rfl rfl ?_ ?_ ?_ ?_)
      | (extract_lets +onlyGivenNames z
         first
         | (refine Apart.cut (m := m) (r := r) (z := z) ?_ ?_; rotate_left; clear_value z; intro _; rotate_left; unfold z; clear z)
         | (have _ : Supervision := z; unfold z; clear z)
         | clear_value z)
      | with_reducible apply lbistStart_apart
      | with_reducible apply raise_apart
      | with_reducible apply loadCal_apart
      | with_reducible apply loadReaction_apart
      | with_reducible apply loadSafety_apart
      | with_reducible apply loadParts_apart
      | with_reducible apply trimFails_apart
      | with_reducible apply tripsAgain_apart
      | with_reducible apply cutDownloads_apart
      | with_reducible apply joinFrame_apart
      | with_reducible apply enterState_apart
      | with_reducible apply scrubOverdue_apart
      | with_reducible apply startMarker_apart
      | with_reducible apply Apart.foldl
      | with_reducible rfl

theorem startC_apart {m : Bool} {r : State} (s : State) (b : BootFindings) (h : Apart m r s) : Apart m r (startC s b) := by
  unfold startC
  repeat' first
      | with_reducible assumption
      | with_reducible exact id
      | (intro _; with_reducible rfl)
      | ((fail_if_success fail_if_success (conv => arg 3; arg 3)); with_reducible apply Apart.ite)
      | ((fail_if_success fail_if_success (conv => arg 3; arg 34)); with_reducible refine Apart.over ?_ rfl rfl ?_ ?_ ?_ ?_)
      | (extract_lets +onlyGivenNames z
         first
         | (refine Apart.cut (m := m) (r := r) (z := z) ?_ ?_; rotate_left; clear_value z; intro _; rotate_left; unfold z; clear z)
         | clear_value z)
      | with_reducible apply bootSectors_apart
      | with_reducible apply carriedRecords_apart
      | with_reducible apply startTadpole_apart
      | with_reducible apply startPending_apart
      | with_reducible apply raise_apart
      | with_reducible apply runPlace_apart
      | with_reducible apply writeBoot_apart
      | with_reducible apply keeperStart_apart
      | with_reducible rfl
      | split

theorem execPartStart_apart {m : Bool} {r : State} (b : BootFindings) (s : State) (h : Apart m r s) : ApartO m r (execPartStart b s) := by
  unfold execPartStart
  repeat' first
      | with_reducible assumption
      | ((fail_if_success fail_if_success (conv => arg 3; arg 3)); with_reducible apply Apart.ite)
      | with_reducible apply startC_apart
      | with_reducible apply fallback_apart
      | with_reducible apply ApartO.next

theorem readSettings_apart {m : Bool} {r : State} (s : State) (h : Apart m r s) : Apart m r (readSettings s) := by
  unfold readSettings
  repeat' first
      | with_reducible assumption
      | with_reducible exact id
      | (intro _; with_reducible rfl)
      | ((fail_if_success fail_if_success (conv => arg 3; arg 3)); with_reducible apply Apart.ite)
      | ((fail_if_success fail_if_success (conv => arg 3; arg 34)); with_reducible refine Apart.over ?_ rfl rfl ?_ ?_ ?_ ?_)
      | (extract_lets +onlyGivenNames z
         first
         | (refine Apart.cut (m := m) (r := r) (z := z) ?_ ?_; rotate_left; clear_value z; intro _; rotate_left; unfold z; clear z)
         | clear_value z)
      | with_reducible apply writeBoot_apart
      | with_reducible rfl
      | split

theorem readCheckpoints_apart {m : Bool} {r : State} (s : State) (h : Apart m r s) : Apart m r (readCheckpoints s) := by
  unfold readCheckpoints
  repeat' first
      | with_reducible assumption
      | with_reducible exact id
      | (intro _; with_reducible rfl)
      | (refine @id (servesP _ → servesP _) ?_; exact id)
      | ((fail_if_success fail_if_success (conv => arg 3; arg 3)); with_reducible apply Apart.ite)
      | ((fail_if_success fail_if_success (conv => arg 3; arg 34)); with_reducible refine Apart.over ?_ rfl rfl ?_ ?_ ?_ ?_)
      | (extract_lets +onlyGivenNames z; have _ : Supervision := z; unfold z; clear z)
      | with_reducible rfl
      | split

theorem execStudioReady_apart {m : Bool} {r : State} (settingsReadable : Bool) (s : State) (h : Apart m r s) :
    ApartO m r (execStudioReady settingsReadable s) := by
  unfold execStudioReady
  refine .next ?_
  split
  · exact h
  split
  · exact fallback_apart _ _ (raise_apart _ _ _ _ _ h)
  extract_lets a b
  have hb : Apart m r b := readCheckpoints_apart _ (.ite (readSettings_apart _ h) (raise_apart _ _ _ _ _ h))
  clear_value b
  split
  · exact hb
  · rename_i c
    exact (State.setIrq_apart b irqReady hb).trans ⟨rfl, rfl, id, rfl, fun _ e => absurd e c, fun _ => rfl⟩

end Sys2Proof.Machine
end

