-- ==== Sys2Proof/Laws/ApartLifeRows.lean ====
section
/-! SUPPORT. Each operation of Machine/LifeRows keeps `Apart`. -/
set_option Elab.async false
set_option linter.unusedTactic false
namespace Sys2Proof.Machine

theorem execGetLifecycle_apart {m : Bool} {r : State} (h0 : Hdr) (s : State) (h : Apart m r s) : ApartO m r (execGetLifecycle h0 s) := by
  unfold execGetLifecycle
  repeat' first
      | with_reducible assumption
      | intro _
      | with_reducible apply runCmd_apart
      | with_reducible apply reply_apart
      | with_reducible apply ApartO.next

theorem lifeSet_apart {m : Bool} {r : State} (s : State) (state : Nat) (h : Apart m r s) : Apart m r (lifeSet s state) := by
  unfold lifeSet
  repeat' first
      | with_reducible assumption
      | with_reducible exact id
      | (intro _; with_reducible rfl)
      | ((fail_if_success fail_if_success (conv => arg 3; arg 34)); with_reducible refine Apart.over ?_ rfl rfl ?_ ?_ ?_ ?_)
      | (extract_lets +onlyGivenNames z
         first
         | (refine Apart.cut (m := m) (r := r) (z := z) ?_ ?_; rotate_left; clear_value z; intro _; rotate_left; unfold z; clear z)
         | clear_value z)
      | with_reducible apply raise_apart
      | with_reducible apply State.draw_apart
      | with_reducible apply dailiesPut_apart
      | with_reducible rfl

theorem eraseKeys_apart {m : Bool} {r : State} (s : State) (h : Apart m r s) : Apart m r (eraseKeys s) := by
  unfold eraseKeys
  exact .over h rfl rfl id rfl id fun _ => rfl

theorem flashAll_apart {m : Bool} {r : State} (s : State) (h : Apart m r s) : Apart m r (flashAll s) := by
  unfold flashAll
  repeat' first
      | with_reducible assumption
      | with_reducible exact id
      | (intro _; with_reducible rfl)
      | intro _
      | ((fail_if_success fail_if_success (conv => arg 3; arg 34)); with_reducible refine Apart.over ?_ rfl rfl ?_ ?_ ?_ ?_)
      | (extract_lets +onlyGivenNames z; clear_value z)
      | with_reducible apply applyJob_apart
      | with_reducible apply Apart.foldl
      | with_reducible rfl

theorem replyNow_apart {m : Bool} {r : State} (s : State) (h1 : Hdr) (op status : Nat) (result : List Byte) (h : Apart m r s) :
    Apart m r (replyNow s h1 op status result) := by
  unfold replyNow
  repeat' first
      | with_reducible assumption
      | ((fail_if_success fail_if_success (conv => arg 3; arg 3)); with_reducible apply Apart.ite)
      | (extract_lets +onlyGivenNames z; clear_value z)
      | with_reducible apply emit_apart
      | with_reducible apply sendMail_apart

theorem withToken_apart {m : Bool} {r : State} (s : State) (h1 : Hdr) (op : Nat) (t : List Byte) (target : Nat) (body : State → State)
    (h : Apart m r s) (g5 : ∀ u0, Apart m r u0 → Apart m r (body u0)) : Apart m r (withToken s h1 op t target body) := by
  unfold withToken
  repeat' first
      | with_reducible assumption
      | with_reducible exact id
      | (intro _; with_reducible rfl)
      | ((fail_if_success fail_if_success (conv => arg 3; arg 3)); with_reducible apply Apart.ite)
      | ((fail_if_success fail_if_success (conv => arg 3; arg 34)); with_reducible refine Apart.over ?_ rfl rfl ?_ ?_ ?_ ?_)
      | (extract_lets +onlyGivenNames z
         first
         | (refine Apart.cut (m := m) (r := r) (z := z) ?_ ?_; rotate_left; clear_value z; intro _; rotate_left; unfold z; clear z)
         | clear_value z)
      | with_reducible apply g5
      | with_reducible apply refuse_apart
      | with_reducible apply raise_apart
      | with_reducible rfl
      | split

theorem execLcAdvance_apart {m : Bool} {r : State} (h0 : Hdr) (targetState : Nat) (token : List Byte) (p : Proof) (s : State)
    (h : Apart m r s) : ApartO m r (execLcAdvance h0 targetState token p s) := by
  unfold execLcAdvance
  repeat' first
      | with_reducible assumption
      | intro _
      | ((fail_if_success fail_if_success (conv => arg 3; arg 3)); with_reducible apply Apart.ite)
      | (extract_lets +onlyGivenNames z
         first
         | (refine Apart.cut (m := m) (r := r) (z := z) ?_ ?_; rotate_left; clear_value z; intro _; rotate_left; unfold z; clear z)
         | (have _ : _ → State := z; unfold z; clear z))
      | with_reducible apply runCmd_apart
      | with_reducible apply withProof_apart
      | with_reducible apply lifeSet_apart
      | with_reducible apply reply_apart
      | with_reducible apply withToken_apart
      | with_reducible apply refuse_apart
      | with_reducible apply ApartO.next

theorem execReturnChallenge_apart {m : Bool} {r : State} (h0 : Hdr) (p : Proof) (s : State) (h : Apart m r s) :
    ApartO m r (execReturnChallenge h0 p s) := by
  unfold execReturnChallenge
  repeat' first
      | with_reducible assumption
      | with_reducible exact id
      | (intro _; with_reducible rfl)
      | intro _
      | ((fail_if_success fail_if_success (conv => arg 3; arg 34)); with_reducible refine Apart.over ?_ rfl rfl ?_ ?_ ?_ ?_)
      | (extract_lets +onlyGivenNames z
         first
         | (refine Apart.cut (m := m) (r := r) (z := z) ?_ ?_; rotate_left; clear_value z; intro _; rotate_left; unfold z; clear z)
         | clear_value z)
      | with_reducible apply runCmd_apart
      | with_reducible apply withProof_apart
      | with_reducible apply State.draw_apart
      | with_reducible apply reply_apart
      | with_reducible apply ApartO.next
      | with_reducible rfl

theorem execEnterReturn_apart {m : Bool} {r : State} (h0 : Hdr) (token : List Byte) (p : Proof) (s : State) (h : Apart m r s) :
    ApartO m r (execEnterReturn h0 token p s) := by
  unfold execEnterReturn
  repeat' first
      | with_reducible assumption
      | intro _
      | ((fail_if_success fail_if_success (conv => arg 3; arg 3)); with_reducible apply Apart.ite)
      | with_reducible apply runCmd_apart
      | with_reducible apply withProof_apart
      | with_reducible apply refuse_apart
      | with_reducible apply withToken_apart
      | with_reducible apply partReset_apart
      | with_reducible apply replyNow_apart
      | with_reducible apply flashAll_apart
      | with_reducible apply openOutputs_apart
      | with_reducible apply eraseKeys_apart
      | with_reducible apply lifeSet_apart
      | with_reducible apply ApartO.next

theorem scrap_apart {m : Bool} {r : State} (s : State) (h1 : Hdr) (h : Apart m r s) : Apart m r (scrap s h1) := by
  unfold scrap
  repeat' first
      | with_reducible assumption
      | with_reducible apply partReset_apart
      | with_reducible apply replyNow_apart
      | with_reducible apply flashAll_apart
      | with_reducible apply openOutputs_apart
      | with_reducible apply eraseKeys_apart
      | with_reducible apply lifeSet_apart

theorem execLcScrap_apart {m : Bool} {r : State} (h0 : Hdr) (confirm : Nat) (token : List Byte) (p : Proof) (s : State) (h : Apart m r s) :
    ApartO m r (execLcScrap h0 confirm token p s) := by
  unfold execLcScrap
  repeat' first
      | with_reducible assumption
      | intro _
      | ((fail_if_success fail_if_success (conv => arg 3; arg 3)); with_reducible apply Apart.ite)
      | (extract_lets +onlyGivenNames z
         first
         | (refine Apart.cut (m := m) (r := r) (z := z) ?_ ?_; rotate_left; clear_value z; intro _; rotate_left; unfold z; clear z)
         | clear_value z)
      | with_reducible apply runCmd_apart
      | with_reducible apply useProof_apart
      | with_reducible apply refuse_apart
      | with_reducible apply scrap_apart
      | with_reducible apply withToken_apart
      | with_reducible apply ApartO.next

theorem lbistEnd_apart {m : Bool} {r : State} (s : State) (e : LbistEnv) (h : Apart m r s) : Apart m r (lbistEnd s e) := by
  unfold lbistEnd
  repeat' first
      | with_reducible assumption
      | with_reducible exact id
      | (intro _; with_reducible rfl)
      | ((fail_if_success fail_if_success (conv => arg 3; arg 3)); with_reducible apply Apart.ite)
      | ((fail_if_success fail_if_success (conv => arg 3; arg 34)); with_reducible refine Apart.over ?_ rfl rfl ?_ ?_ ?_ ?_)
      | (extract_lets +onlyGivenNames z
         first
         | (refine Apart.cut (m := m) (r := r) (z := z) ?_ ?_; rotate_left; clear_value z; intro _; rotate_left; unfold z; clear z)
         | clear_value z)
      | with_reducible apply setLbWord_apart
      | with_reducible apply raise_apart
      | with_reducible rfl

theorem execLbistRun_apart {m : Bool} {r : State} (h0 : Hdr) (dieMask : Nat) (env : List LbistEnv) (p : Proof) (s : State) (h : Apart m r s) :
    ApartO m r (execLbistRun h0 dieMask env p s) := by
  unfold execLbistRun
  repeat' first
      | with_reducible assumption
      | intro _
      | ((fail_if_success fail_if_success (conv => arg 3; arg 3)); with_reducible apply Apart.ite)
      | (extract_lets +onlyGivenNames z
         first
         | (refine Apart.cut (m := m) (r := r) (z := z) ?_ ?_; rotate_left; clear_value z; intro _; rotate_left; unfold z; clear z)
         | clear_value z)
      | with_reducible apply runCmd_apart
      | with_reducible apply withProof_apart
      | with_reducible apply refuse_apart
      | with_reducible apply startOp_apart
      | with_reducible apply restartDie_apart
      | with_reducible apply lbistEnd_apart
      | with_reducible apply completeOp_apart
      | with_reducible apply ApartO.next
      | with_reducible apply Apart.foldl
      | split

theorem execNonceExpiry_apart {m : Bool} {r : State} (s : State) (h : Apart m r s) : ApartO m r (execNonceExpiry s) := by
  unfold execNonceExpiry
  repeat' first
      | with_reducible assumption
      | with_reducible exact id
      | (intro _; with_reducible rfl)
      | ((fail_if_success fail_if_success (conv => arg 3; arg 3)); with_reducible apply Apart.ite)
      | ((fail_if_success fail_if_success (conv => arg 3; arg 34)); with_reducible refine Apart.over ?_ rfl rfl ?_ ?_ ?_ ?_)
      | (extract_lets +onlyGivenNames z; clear_value z)
      | with_reducible apply ApartO.next
      | with_reducible rfl

theorem execTestAccessAttempt_apart {m : Bool} {r : State} (die : Nat) (s : State) (h : Apart m r s) :
    ApartO m r (execTestAccessAttempt die s) := by
  unfold execTestAccessAttempt
  repeat' first
      | with_reducible assumption
      | with_reducible exact id
      | (intro _; with_reducible rfl)
      | ((fail_if_success fail_if_success (conv => arg 3; arg 3)); with_reducible apply Apart.ite)
      | ((fail_if_success fail_if_success (conv => arg 3; arg 34)); with_reducible refine Apart.over ?_ rfl rfl ?_ ?_ ?_ ?_)
      | (extract_lets +onlyGivenNames z; clear_value z)
      | with_reducible apply raise_apart
      | with_reducible apply ApartO.next
      | with_reducible rfl

end Sys2Proof.Machine
end

