-- ==== Sys2Proof/Laws/ApartPowerOps.lean ====
section
/-! SUPPORT. Each operation of Machine/PowerOps keeps `Apart`. -/
set_option Elab.async false
set_option linter.unusedTactic false
namespace Sys2Proof.Machine

/-- The totals that a die keeps over a wake change no code. -/
theorem keepTotals_code (o : Option SegDie) (d : SegDie) : ((o.map fun o => keepTotals o d).getD d).code = d.code := by
  cases o <;> rfl

theorem dropProbe_apart {m : Bool} {r : State} (s : State) (d : SegDie) (h : Apart m r s) : Apart m r (dropProbe s d) := by
  unfold dropProbe
  repeat' first
      | with_reducible assumption
      | (intro _; with_reducible rfl)
      | intro _
      | (extract_lets +onlyGivenNames z
         first
         | (refine Apart.cut (m := m) (r := r) (z := z) ?_ ?_; rotate_left; clear_value z; intro _; rotate_left; unfold z; clear z)
         | clear_value z)
      | with_reducible apply completeOp_apart
      | with_reducible apply State.updDie_apart
      | with_reducible apply Apart.foldl

theorem leaveRun_apart {m : Bool} {r : State} (s : State) (h : Apart m r s) : Apart m r (leaveRun s) := by
  unfold leaveRun
  repeat' first
      | with_reducible assumption
      | with_reducible exact id
      | (intro _; with_reducible rfl)
      | intro _
      | ((fail_if_success fail_if_success (conv => arg 3; arg 3)); with_reducible apply Apart.ite)
      | ((fail_if_success fail_if_success (conv => arg 3; arg 34)); with_reducible refine Apart.over ?_ rfl rfl ?_ ?_ ?_ ?_)
      | (extract_lets +onlyGivenNames z; refine Apart.cut (m := m) (r := r) (z := z) ?_ ?_; rotate_left; clear_value z; intro _; rotate_left; unfold z; clear z)
      | with_reducible apply discardPlans_apart
      | with_reducible apply endSession_apart
      | with_reducible apply endAll_apart
      | with_reducible apply dropProbe_apart
      | with_reducible apply abortOp_apart
      | with_reducible apply Apart.foldl
      | with_reducible apply codes_map

theorem enterMonitor_apart {m : Bool} {r : State} (s : State) (h : Apart m r s) : Apart m r (enterMonitor s) := by
  unfold enterMonitor
  repeat' first
      | with_reducible assumption
      | with_reducible exact id
      | (intro _; with_reducible rfl)
      | ((fail_if_success fail_if_success (conv => arg 3; arg 34)); with_reducible refine Apart.over ?_ rfl rfl ?_ ?_ ?_ ?_)
      | (extract_lets +onlyGivenNames z
         first
         | (refine Apart.cut (m := m) (r := r) (z := z) ?_ ?_; rotate_left; clear_value z; intro _; rotate_left; unfold z; clear z)
         | clear_value z)
      | with_reducible apply completeOp_apart
      | with_reducible apply finishStops_apart
      | with_reducible apply restartFilters_apart
      | with_reducible apply codes_map
      | with_reducible rfl
      | split

theorem leaveMonitor_apart {m : Bool} {r : State} (s : State) (h : Apart m r s) : Apart m r (leaveMonitor s) := by
  unfold leaveMonitor
  repeat' first
      | with_reducible assumption
      | with_reducible exact id
      | (intro _; with_reducible rfl)
      | ((fail_if_success fail_if_success (conv => arg 3; arg 34)); with_reducible refine Apart.over ?_ rfl rfl ?_ ?_ ?_ ?_)
      | (extract_lets +onlyGivenNames z; clear_value z)
      | with_reducible apply restartFilters_apart
      | with_reducible rfl

theorem enterRun_apart {m : Bool} {r : State} (s : State) (h : Apart m r s) : Apart m r (enterRun s) := by
  unfold enterRun
  repeat' first
      | with_reducible assumption
      | with_reducible exact id
      | (intro _; with_reducible rfl)
      | ((fail_if_success fail_if_success (conv => arg 3; arg 34)); with_reducible refine Apart.over ?_ rfl rfl ?_ ?_ ?_ ?_)
      | with_reducible apply codes_map

theorem moveAwake_apart {m : Bool} {r : State} (s : State) (target : PState) (h : Apart m r s) : Apart m r (moveAwake s target) := by
  unfold moveAwake
  repeat' first
      | with_reducible assumption
      | with_reducible exact id
      | (intro _; with_reducible rfl)
      | ((fail_if_success fail_if_success (conv => arg 3; arg 3)); with_reducible apply Apart.ite)
      | ((fail_if_success fail_if_success (conv => arg 3; arg 34)); with_reducible refine Apart.over ?_ rfl rfl ?_ ?_ ?_ ?_)
      | (extract_lets +onlyGivenNames z; refine Apart.cut (m := m) (r := r) (z := z) ?_ ?_; rotate_left; clear_value z; intro _; rotate_left; unfold z; clear z)
      | with_reducible apply leaveRun_apart
      | with_reducible apply leaveMonitor_apart
      | with_reducible apply enterMonitor_apart
      | with_reducible apply enterRun_apart
      | with_reducible rfl

theorem beginShutdown_apart {m : Bool} {r : State} (s : State) (h1 : Option Hdr) (target : PState) (h : Apart m r s) :
    Apart m r (beginShutdown s h1 target) := by
  unfold beginShutdown
  exact .over h rfl rfl id rfl id fun _ => rfl

theorem moved_apart {m : Bool} {r : State} (s : State) (h1 : Option Hdr) (h : Apart m r s) : Apart m r (moved s h1) := by
  unfold moved
  repeat' first
      | with_reducible assumption
      | with_reducible apply completeOp_apart
      | split

theorem doMove_apart {m : Bool} {r : State} (s : State) (h1 : Option Hdr) (target : PState) (h : Apart m r s) :
    Apart m r (doMove s h1 target) := by
  unfold doMove
  repeat' first
      | with_reducible assumption
      | ((fail_if_success fail_if_success (conv => arg 3; arg 3)); with_reducible apply Apart.ite)
      | with_reducible apply beginShutdown_apart
      | with_reducible apply moved_apart
      | with_reducible apply moveAwake_apart

theorem darken_apart {m : Bool} {r : State} (s : State) (target : PState) (h : Apart m r s) : Apart m r (darken s target) := by
  refine h.trans ⟨rfl, rfl, fun _ => rfl, codes_map fun _ => rfl, fun _ _ => rfl, fun _ => rfl⟩

theorem wakeUp_apart {m : Bool} {r : State} (s : State) (code : Nat) (h : Apart m r s) : Apart m r (wakeUp s code) := by
  unfold wakeUp
  repeat' first
      | with_reducible assumption
      | with_reducible exact id
      | (intro _; with_reducible rfl)
      | intro _
      | ((fail_if_success fail_if_success (conv => arg 3; arg 3)); with_reducible apply Apart.ite)
      | ((fail_if_success fail_if_success (conv => arg 3; arg 34)); with_reducible refine Apart.over ?_ rfl rfl ?_ ?_ ?_ ?_)
      | (extract_lets +onlyGivenNames z
         first
         | (refine Apart.cut (m := m) (r := r) (z := z) ?_ ?_; rotate_left; clear_value z; intro _; rotate_left; unfold z; clear z)
         | clear_value z)
      | with_reducible apply partReset_apart
      | with_reducible apply codes_map
      | with_reducible rfl
      | exact keepTotals_code _ _

theorem flushReplies_apart {m : Bool} {r : State} (s : State) (h : Apart m r s) : Apart m r (flushReplies s) := by
  unfold flushReplies
  repeat' first
      | with_reducible assumption
      | with_reducible exact id
      | (intro _; with_reducible rfl)
      | intro _
      | ((fail_if_success fail_if_success (conv => arg 3; arg 3)); with_reducible apply Apart.ite)
      | ((fail_if_success fail_if_success (conv => arg 3; arg 34)); with_reducible refine Apart.over ?_ rfl rfl ?_ ?_ ?_ ?_)
      | (extract_lets +onlyGivenNames z; clear_value z)
      | with_reducible apply emit_apart
      | with_reducible apply sendMail_apart
      | with_reducible apply Apart.foldl
      | with_reducible rfl

theorem powerDown_apart {m : Bool} {r : State} (s : State) (target : PState) (h : Apart m r s) : Apart m r (powerDown s target) := by
  unfold powerDown
  repeat' first
      | with_reducible assumption
      | (extract_lets +onlyGivenNames z; refine Apart.cut (m := m) (r := r) (z := z) ?_ ?_; rotate_left; clear_value z; intro _; rotate_left; unfold z; clear z)
      | with_reducible apply darken_apart
      | with_reducible apply flashAll_apart
      | with_reducible apply flushReplies_apart
      | with_reducible apply wakeUp_apart
      | split

theorem dropC_apart {m : Bool} {r : State} (s : State) (brown hot : Bool) (h : Apart m r s) : Apart m r (dropC s brown hot) := by
  unfold dropC
  repeat' first
      | with_reducible assumption
      | with_reducible exact id
      | (intro _; with_reducible rfl)
      | ((fail_if_success fail_if_success (conv => arg 3; arg 3)); with_reducible apply Apart.ite)
      | ((fail_if_success fail_if_success (conv => arg 3; arg 34)); with_reducible refine Apart.over ?_ rfl rfl ?_ ?_ ?_ ?_)
      | (extract_lets +onlyGivenNames z; refine Apart.cut (m := m) (r := r) (z := z) ?_ ?_; rotate_left; clear_value z; intro _; rotate_left; unfold z; clear z)
      | with_reducible apply darken_apart
      | with_reducible rfl

theorem thermMessages_apart {m : Bool} {r : State} (s : State) (die block : Nat) (old new : Therm) (h : Apart m r s) :
    Apart m r (thermMessages s die block old new) := by
  unfold thermMessages
  repeat' first
      | with_reducible assumption
      | ((fail_if_success fail_if_success (conv => arg 3; arg 3)); with_reducible apply Apart.ite)
      | (extract_lets +onlyGivenNames z; refine Apart.cut (m := m) (r := r) (z := z) ?_ ?_; rotate_left; clear_value z; intro _; rotate_left; unfold z; clear z)
      | with_reducible apply raise_apart

theorem derate_apart {m : Bool} {r : State} (s : State) (die imax : Nat) (therm : Option (DerateEntry × Int))
    (note : State → Nat → Nat → State) (h : Apart m r s) (g4 : ∀ u0 u1 u2, Apart m r u0 → Apart m r (note u0 u1 u2)) :
    Apart m r (derate s die imax therm note) := by
  unfold derate
  repeat' first
      | with_reducible assumption
      | (intro _; with_reducible rfl)
      | ((fail_if_success fail_if_success (conv => arg 3; arg 3)); with_reducible apply Apart.ite)
      | (extract_lets +onlyGivenNames z
         first
         | (refine Apart.cut (m := m) (r := r) (z := z) ?_ ?_; rotate_left; clear_value z; intro _; rotate_left; unfold z; clear z)
         | clear_value z)
      | with_reducible apply g4
      | with_reducible apply limitDie_apart
      | with_reducible apply thermalDollies_apart
      | with_reducible apply State.updDie_apart
      | split

theorem stopHot_apart {m : Bool} {r : State} (s : State) (die : Nat) (h : Apart m r s) : Apart m r (stopHot s die) := by
  unfold stopHot
  repeat' first
      | with_reducible assumption
      | intro _
      | ((fail_if_success fail_if_success (conv => arg 3; arg 3)); with_reducible apply Apart.ite)
      | (extract_lets +onlyGivenNames z
         first
         | (refine Apart.cut (m := m) (r := r) (z := z) ?_ ?_; rotate_left; clear_value z; intro _; rotate_left; unfold z; clear z)
         | clear_value z)
      | with_reducible apply thermalDollies_apart
      | with_reducible apply raise_apart
      | with_reducible apply State.updDie_apart
      | with_reducible rfl
      | split
      | rfl

theorem cutOffHot_apart {m : Bool} {r : State} (s : State) (die : Nat) (h : Apart m r s) : Apart m r (cutOffHot s die) := by
  unfold cutOffHot
  repeat' first
      | with_reducible assumption
      | with_reducible exact id
      | (intro _; with_reducible rfl)
      | ((fail_if_success fail_if_success (conv => arg 3; arg 3)); with_reducible apply Apart.ite)
      | ((fail_if_success fail_if_success (conv => arg 3; arg 34)); with_reducible refine Apart.over ?_ rfl rfl ?_ ?_ ?_ ?_)
      | (extract_lets +onlyGivenNames z
         first
         | (refine Apart.cut (m := m) (r := r) (z := z) ?_ ?_; rotate_left; clear_value z; intro _; rotate_left; unfold z; clear z)
         | clear_value z)
      | with_reducible apply raise_apart
      | with_reducible apply State.updDie_apart
      | with_reducible rfl
      | split

theorem throttle_apart {m : Bool} {r : State} (s : State) (h : Apart m r s) : Apart m r (throttle s) := by
  unfold throttle
  repeat' first
      | with_reducible assumption
      | with_reducible exact id
      | (intro _; with_reducible rfl)
      | ((fail_if_success fail_if_success (conv => arg 3; arg 3)); with_reducible apply Apart.ite)
      | ((fail_if_success fail_if_success (conv => arg 3; arg 34)); with_reducible refine Apart.over ?_ rfl rfl ?_ ?_ ?_ ?_)
      | (extract_lets +onlyGivenNames z
         first
         | (refine Apart.cut (m := m) (r := r) (z := z) ?_ ?_; rotate_left; clear_value z; intro _; rotate_left; unfold z; clear z)
         | clear_value z)
      | with_reducible apply raise_apart
      | with_reducible rfl

theorem commitAllDue_apart {m : Bool} {r : State} (s : State) (h : Apart m r s) : Apart m r (commitAllDue s) := by
  unfold commitAllDue
  repeat' first
      | with_reducible assumption
      | intro _
      | with_reducible apply commitOldest_apart
      | with_reducible apply Apart.foldl

theorem stopC_apart {m : Bool} {r : State} (s : State) (h : Apart m r s) : Apart m r (stopC s) := by
  unfold stopC
  repeat' first
      | with_reducible assumption
      | with_reducible exact id
      | (intro _; with_reducible rfl)
      | ((fail_if_success fail_if_success (conv => arg 3; arg 34)); with_reducible refine Apart.over ?_ rfl rfl ?_ ?_ ?_ ?_)
      | (extract_lets +onlyGivenNames z
         first
         | (refine Apart.cut (m := m) (r := r) (z := z) ?_ ?_; rotate_left; clear_value z; intro _; rotate_left; unfold z; clear z)
         | clear_value z)
      | with_reducible apply openOutputs_apart
      | with_reducible apply commitAllDue_apart
      | with_reducible apply raise_apart
      | with_reducible apply flashAll_apart
      | with_reducible apply dropC_apart
      | with_reducible rfl

end Sys2Proof.Machine
end

