-- ==== Sys2Proof/Laws/ApartChainRows.lean ====
section
/-! SUPPORT. Each operation of Machine/ChainRows keeps `Apart`. -/
set_option Elab.async false
set_option linter.unusedTactic false
namespace Sys2Proof.Machine

theorem discipline_apart {m : Bool} {r : State} (s : State) (target : Nat) (h : Apart m r s) : Apart m r (discipline s target) := by
  unfold discipline
  repeat' first
      | with_reducible assumption
      | with_reducible exact id
      | (intro _; with_reducible rfl)
      | ((fail_if_success fail_if_success (conv => arg 3; arg 3)); with_reducible apply Apart.ite)
      | ((fail_if_success fail_if_success (conv => arg 3; arg 34)); with_reducible refine Apart.over ?_ rfl rfl ?_ ?_ ?_ ?_)
      | (extract_lets +onlyGivenNames z; clear_value z)
      | with_reducible rfl

theorem countSync_apart {m : Bool} {r : State} (s : State) (h : Apart m r s) : Apart m r (countSync s) := by
  unfold countSync
  repeat' first
      | with_reducible assumption
      | with_reducible exact id
      | (intro _; with_reducible rfl)
      | ((fail_if_success fail_if_success (conv => arg 3; arg 34)); with_reducible refine Apart.over ?_ rfl rfl ?_ ?_ ?_ ?_)
      | (extract_lets +onlyGivenNames z; clear_value z)
      | with_reducible rfl

theorem syncUse_apart {m : Bool} {r : State} (s : State) (time correction port hops : Nat) (primary : Bool) (h : Apart m r s) :
    Apart m r (syncUse s time correction port hops primary) := by
  unfold syncUse
  repeat' first
      | with_reducible assumption
      | with_reducible exact id
      | (intro _; with_reducible rfl)
      | ((fail_if_success fail_if_success (conv => arg 3; arg 3)); with_reducible apply Apart.ite)
      | ((fail_if_success fail_if_success (conv => arg 3; arg 34)); with_reducible refine Apart.over ?_ rfl rfl ?_ ?_ ?_ ?_)
      | (extract_lets +onlyGivenNames z
         first
         | (refine Apart.cut (m := m) (r := r) (z := z) ?_ ?_; rotate_left; clear_value z; intro _; rotate_left; unfold z; clear z)
         | clear_value z)
      | with_reducible apply countSync_apart
      | with_reducible apply discipline_apart
      | with_reducible rfl

theorem execSyncSet_apart {m : Bool} {r : State} (time correction port hops : Nat) (primary good : Bool) (s : State) (h : Apart m r s) :
    ApartO m r (execSyncSet time correction port hops primary good s) := by
  unfold execSyncSet
  repeat' first
      | with_reducible assumption
      | ((fail_if_success fail_if_success (conv => arg 3; arg 3)); with_reducible apply Apart.ite)
      | (extract_lets +onlyGivenNames z
         first
         | (refine Apart.cut (m := m) (r := r) (z := z) ?_ ?_; rotate_left; clear_value z; intro _; rotate_left; unfold z; clear z)
         | clear_value z)
      | with_reducible apply State.draw_apart
      | with_reducible apply emit_apart
      | with_reducible apply syncUse_apart
      | with_reducible apply ApartO.next

theorem execDelayReq_apart {m : Bool} {r : State} (port _time : Nat) (s : State) (h : Apart m r s) :
    ApartO m r (execDelayReq port _time s) := by
  unfold execDelayReq
  repeat' first
      | with_reducible assumption
      | ((fail_if_success fail_if_success (conv => arg 3; arg 3)); with_reducible apply Apart.ite)
      | (extract_lets +onlyGivenNames z; clear_value z)
      | with_reducible apply emit_apart
      | with_reducible apply ApartO.next

theorem execDelayResp_apart {m : Bool} {r : State} (port _time delay : Nat) (s : State) (h : Apart m r s) :
    ApartO m r (execDelayResp port _time delay s) := by
  unfold execDelayResp
  repeat' first
      | with_reducible assumption
      | with_reducible exact id
      | (intro _; with_reducible rfl)
      | ((fail_if_success fail_if_success (conv => arg 3; arg 3)); with_reducible apply Apart.ite)
      | ((fail_if_success fail_if_success (conv => arg 3; arg 34)); with_reducible refine Apart.over ?_ rfl rfl ?_ ?_ ?_ ?_)
      | (extract_lets +onlyGivenNames z; clear_value z)
      | with_reducible apply ApartO.next
      | with_reducible rfl

theorem execDelayMeasurement_apart {m : Bool} {r : State} (s : State) (h : Apart m r s) : ApartO m r (execDelayMeasurement s) := by
  unfold execDelayMeasurement
  repeat' first
      | with_reducible assumption
      | with_reducible exact id
      | (intro _; with_reducible rfl)
      | intro _
      | ((fail_if_success fail_if_success (conv => arg 3; arg 3)); with_reducible apply Apart.ite)
      | ((fail_if_success fail_if_success (conv => arg 3; arg 34)); with_reducible refine Apart.over ?_ rfl rfl ?_ ?_ ?_ ?_)
      | (extract_lets +onlyGivenNames z; clear_value z)
      | with_reducible apply emit_apart
      | with_reducible apply ApartO.next
      | with_reducible apply Apart.foldl
      | with_reducible rfl

theorem execTimePortChange_apart {m : Bool} {r : State} (s : State) (h : Apart m r s) : ApartO m r (execTimePortChange s) := by
  unfold execTimePortChange
  repeat' first
      | with_reducible assumption
      | with_reducible exact id
      | (intro _; with_reducible rfl)
      | ((fail_if_success fail_if_success (conv => arg 3; arg 3)); with_reducible apply Apart.ite)
      | ((fail_if_success fail_if_success (conv => arg 3; arg 34)); with_reducible refine Apart.over ?_ rfl rfl ?_ ?_ ?_ ?_)
      | (extract_lets +onlyGivenNames z; clear_value z)
      | with_reducible apply ApartO.next
      | with_reducible rfl

theorem execPacktimeUnlocked_apart {m : Bool} {r : State} (s : State) (h : Apart m r s) : ApartO m r (execPacktimeUnlocked s) := by
  unfold execPacktimeUnlocked
  repeat' first
      | with_reducible assumption
      | with_reducible exact id
      | (intro _; with_reducible rfl)
      | ((fail_if_success fail_if_success (conv => arg 3; arg 3)); with_reducible apply Apart.ite)
      | ((fail_if_success fail_if_success (conv => arg 3; arg 34)); with_reducible refine Apart.over ?_ rfl rfl ?_ ?_ ?_ ?_)
      | (extract_lets +onlyGivenNames z; clear_value z)
      | with_reducible apply raise_apart
      | with_reducible apply ApartO.next
      | with_reducible rfl

theorem execTimeMasterTakeover_apart {m : Bool} {r : State} (s : State) (h : Apart m r s) : ApartO m r (execTimeMasterTakeover s) := by
  unfold execTimeMasterTakeover
  repeat' first
      | with_reducible assumption
      | with_reducible exact id
      | (intro _; with_reducible rfl)
      | ((fail_if_success fail_if_success (conv => arg 3; arg 3)); with_reducible apply Apart.ite)
      | ((fail_if_success fail_if_success (conv => arg 3; arg 34)); with_reducible refine Apart.over ?_ rfl rfl ?_ ?_ ?_ ?_)
      | (extract_lets +onlyGivenNames z; clear_value z)
      | with_reducible apply ApartO.next
      | with_reducible rfl

theorem execPacktimeRefLost_apart {m : Bool} {r : State} (s : State) (h : Apart m r s) : ApartO m r (execPacktimeRefLost s) := by
  unfold execPacktimeRefLost
  repeat' first
      | with_reducible assumption
      | with_reducible exact id
      | (intro _; with_reducible rfl)
      | ((fail_if_success fail_if_success (conv => arg 3; arg 3)); with_reducible apply Apart.ite)
      | ((fail_if_success fail_if_success (conv => arg 3; arg 34)); with_reducible refine Apart.over ?_ rfl rfl ?_ ?_ ?_ ?_)
      | (extract_lets +onlyGivenNames z; clear_value z)
      | with_reducible apply raise_apart
      | with_reducible apply ApartO.next
      | with_reducible rfl

theorem execPackTimeSave_apart {m : Bool} {r : State} (s : State) (h : Apart m r s) : ApartO m r (execPackTimeSave s) := by
  unfold execPackTimeSave
  repeat' first
      | with_reducible assumption
      | with_reducible exact id
      | (intro _; with_reducible rfl)
      | ((fail_if_success fail_if_success (conv => arg 3; arg 3)); with_reducible apply Apart.ite)
      | ((fail_if_success fail_if_success (conv => arg 3; arg 34)); with_reducible refine Apart.over ?_ rfl rfl ?_ ?_ ?_ ?_)
      | (extract_lets +onlyGivenNames z; clear_value z)
      | with_reducible apply ApartO.next
      | with_reducible rfl

theorem execLinkDown_apart {m : Bool} {r : State} (port : Nat) (s : State) (h : Apart m r s) : ApartO m r (execLinkDown port s) := by
  unfold execLinkDown
  repeat' first
      | with_reducible assumption
      | with_reducible exact id
      | (intro _; with_reducible rfl)
      | ((fail_if_success fail_if_success (conv => arg 3; arg 3)); with_reducible apply Apart.ite)
      | ((fail_if_success fail_if_success (conv => arg 3; arg 34)); with_reducible refine Apart.over ?_ rfl rfl ?_ ?_ ?_ ?_)
      | (extract_lets +onlyGivenNames z
         first
         | (refine Apart.cut (m := m) (r := r) (z := z) ?_ ?_; rotate_left; clear_value z; intro _; rotate_left; unfold z; clear z)
         | clear_value z)
      | with_reducible apply raise_apart
      | with_reducible apply portDown_apart
      | with_reducible apply ApartO.next
      | with_reducible rfl

theorem execLinkUp_apart {m : Bool} {r : State} (port : Nat) (s : State) (h : Apart m r s) : ApartO m r (execLinkUp port s) := by
  unfold execLinkUp
  repeat' first
      | with_reducible assumption
      | with_reducible exact id
      | (intro _; with_reducible rfl)
      | ((fail_if_success fail_if_success (conv => arg 3; arg 3)); with_reducible apply Apart.ite)
      | ((fail_if_success fail_if_success (conv => arg 3; arg 34)); with_reducible refine Apart.over ?_ rfl rfl ?_ ?_ ?_ ?_)
      | (extract_lets +onlyGivenNames z
         first
         | (refine Apart.cut (m := m) (r := r) (z := z) ?_ ?_; rotate_left; clear_value z; intro _; rotate_left; unfold z; clear z)
         | clear_value z)
      | with_reducible apply raise_apart
      | with_reducible apply portUp_apart
      | with_reducible apply ApartO.next
      | with_reducible rfl

theorem execPackageLost_apart {m : Bool} {r : State} (addr : Nat) (s : State) (h : Apart m r s) : ApartO m r (execPackageLost addr s) := by
  unfold execPackageLost
  repeat' first
      | with_reducible assumption
      | with_reducible exact id
      | (intro _; with_reducible rfl)
      | ((fail_if_success fail_if_success (conv => arg 3; arg 3)); with_reducible apply Apart.ite)
      | ((fail_if_success fail_if_success (conv => arg 3; arg 34)); with_reducible refine Apart.over ?_ rfl rfl ?_ ?_ ?_ ?_)
      | (extract_lets +onlyGivenNames z
         first
         | (refine Apart.cut (m := m) (r := r) (z := z) ?_ ?_; rotate_left; clear_value z; intro _; rotate_left; unfold z; clear z)
         | clear_value z)
      | with_reducible apply updEntry_apart
      | with_reducible apply raise_apart
      | with_reducible apply ApartO.next
      | with_reducible rfl
      | split

theorem takeMaster_apart {m : Bool} {r : State} (s : State) (h : Apart m r s) : Apart m r (takeMaster s) := by
  unfold takeMaster
  repeat' first
      | with_reducible assumption
      | with_reducible exact id
      | (intro _; with_reducible rfl)
      | ((fail_if_success fail_if_success (conv => arg 3; arg 3)); with_reducible apply Apart.ite)
      | ((fail_if_success fail_if_success (conv => arg 3; arg 34)); with_reducible refine Apart.over ?_ rfl rfl ?_ ?_ ?_ ?_)
      | (extract_lets +onlyGivenNames z
         first
         | (refine Apart.cut (m := m) (r := r) (z := z) ?_ ?_; rotate_left; clear_value z; intro _; rotate_left; unfold z; clear z)
         | clear_value z)
      | with_reducible rfl

theorem applyPlacement_apart {m : Bool} {r : State} (s : State) (h : Apart m r s) : Apart m r (applyPlacement s) := by
  unfold applyPlacement
  repeat' first
      | with_reducible assumption
      | with_reducible exact id
      | (intro _; with_reducible rfl)
      | ((fail_if_success fail_if_success (conv => arg 3; arg 3)); with_reducible apply Apart.ite)
      | ((fail_if_success fail_if_success (conv => arg 3; arg 34)); with_reducible refine Apart.over ?_ rfl rfl ?_ ?_ ?_ ?_)
      | (extract_lets +onlyGivenNames z
         first
         | (refine Apart.cut (m := m) (r := r) (z := z) ?_ ?_; rotate_left; clear_value z; intro _; rotate_left; unfold z; clear z)
         | clear_value z)
      | with_reducible apply raise_apart
      | with_reducible rfl
      | split

theorem drainBulk_apart {m : Bool} {r : State} (s : State) (h : Apart m r s) : Apart m r (drainBulk s) := by
  unfold drainBulk
  repeat' first
      | with_reducible assumption
      | with_reducible exact id
      | (intro _; with_reducible rfl)
      | intro _
      | ((fail_if_success fail_if_success (conv => arg 3; arg 3)); with_reducible apply Apart.ite)
      | ((fail_if_success fail_if_success (conv => arg 3; arg 34)); with_reducible refine Apart.over ?_ rfl rfl ?_ ?_ ?_ ?_)
      | (extract_lets +onlyGivenNames z; clear_value z)
      | with_reducible apply sendFrame_apart
      | with_reducible apply Apart.foldl
      | with_reducible rfl

theorem dieOutOfService_apart {m : Bool} {r : State} (s : State) (die : Nat) (h : Apart m r s) : Apart m r (dieOutOfService s die) := by
  unfold dieOutOfService
  repeat' first
      | with_reducible assumption
      | with_reducible exact id
      | (intro _; with_reducible rfl)
      | ((fail_if_success fail_if_success (conv => arg 3; arg 34)); with_reducible refine Apart.over ?_ rfl rfl ?_ ?_ ?_ ?_)
      | (extract_lets +onlyGivenNames z; refine Apart.cut (m := m) (r := r) (z := z) ?_ ?_; rotate_left; clear_value z; intro _; rotate_left; unfold z; clear z)
      | with_reducible apply endDie_apart
      | with_reducible apply State.updDie_apart
      | with_reducible rfl

theorem dieRejoins_apart {m : Bool} {r : State} (s : State) (die : Nat) (h : Apart m r s) : Apart m r (dieRejoins s die) := by
  unfold dieRejoins
  repeat' first
      | with_reducible assumption
      | (intro _; with_reducible rfl)
      | with_reducible apply restartDie_apart
      | with_reducible apply State.updDie_apart

theorem packageOut_apart {m : Bool} {r : State} (s : State) (h : Apart m r s) : Apart m r (packageOut s) := by
  unfold packageOut
  exact .over h rfl rfl id rfl id fun _ => rfl

theorem askAdmission_apart {m : Bool} {r : State} (s : State) (h : Apart m r s) : Apart m r (askAdmission s) := by
  unfold askAdmission
  repeat' first
      | with_reducible assumption
      | with_reducible exact id
      | (intro _; with_reducible rfl)
      | ((fail_if_success fail_if_success (conv => arg 3; arg 3)); with_reducible apply Apart.ite)
      | ((fail_if_success fail_if_success (conv => arg 3; arg 34)); with_reducible refine Apart.over ?_ rfl rfl ?_ ?_ ?_ ?_)
      | with_reducible apply readmitted_apart
      | with_reducible apply admitMe_apart
      | with_reducible rfl

theorem serviceOrder_apart {m : Bool} {r : State} (s : State) (x : Hdr × Nat × Nat × Tick) (h : Apart m r s) :
    Apart m r (serviceOrder s x) := by
  unfold serviceOrder
  repeat' first
      | with_reducible assumption
      | with_reducible exact id
      | (intro _; with_reducible rfl)
      | intro _
      | ((fail_if_success fail_if_success (conv => arg 3; arg 3)); with_reducible apply Apart.ite)
      | ((fail_if_success fail_if_success (conv => arg 3; arg 34)); with_reducible refine Apart.over ?_ rfl rfl ?_ ?_ ?_ ?_)
      | (extract_lets +onlyGivenNames z
         first
         | (refine Apart.cut (m := m) (r := r) (z := z) ?_ ?_; rotate_left; clear_value z; intro _; rotate_left; unfold z; clear z)
         | clear_value z)
      | with_reducible apply askAdmission_apart
      | with_reducible apply dieRejoins_apart
      | with_reducible apply packageOut_apart
      | with_reducible apply dieOutOfService_apart
      | with_reducible apply completeOp_apart
      | with_reducible apply Apart.foldl
      | with_reducible rfl

theorem applyServices_apart {m : Bool} {r : State} (s : State) (h : Apart m r s) : Apart m r (applyServices s) := by
  unfold applyServices
  repeat' first
      | with_reducible assumption
      | intro _
      | with_reducible apply serviceOrder_apart
      | with_reducible apply Apart.foldl

theorem admitReady_apart {m : Bool} {r : State} (s : State) (h : Apart m r s) : Apart m r (admitReady s) := by
  unfold admitReady
  repeat' first
      | with_reducible assumption
      | with_reducible exact id
      | (intro _; with_reducible rfl)
      | intro _
      | ((fail_if_success fail_if_success (conv => arg 3; arg 3)); with_reducible apply Apart.ite)
      | ((fail_if_success fail_if_success (conv => arg 3; arg 34)); with_reducible refine Apart.over ?_ rfl rfl ?_ ?_ ?_ ?_)
      | (extract_lets +onlyGivenNames z
         first
         | (refine Apart.cut (m := m) (r := r) (z := z) ?_ ?_; rotate_left; clear_value z; intro _; rotate_left; unfold z; clear z)
         | clear_value z)
      | with_reducible apply raise_apart
      | with_reducible apply updEntry_apart
      | with_reducible apply Apart.foldl
      | with_reducible rfl

theorem applyChainMove_apart {m : Bool} {r : State} (s : State) (h : Apart m r s) : Apart m r (applyChainMove s) := by
  unfold applyChainMove
  repeat' first
      | with_reducible assumption
      | with_reducible exact id
      | (intro _; with_reducible rfl)
      | ((fail_if_success fail_if_success (conv => arg 3; arg 3)); with_reducible apply Apart.ite)
      | ((fail_if_success fail_if_success (conv => arg 3; arg 34)); with_reducible refine Apart.over ?_ rfl rfl ?_ ?_ ?_ ?_)
      | (extract_lets +onlyGivenNames z; clear_value z)
      | with_reducible apply doMove_apart
      | with_reducible rfl
      | split

theorem applySource_apart {m : Bool} {r : State} (s : State) (h : Apart m r s) : Apart m r (applySource s) := by
  unfold applySource
  repeat' first
      | with_reducible assumption
      | with_reducible exact id
      | (intro _; with_reducible rfl)
      | ((fail_if_success fail_if_success (conv => arg 3; arg 3)); with_reducible apply Apart.ite)
      | ((fail_if_success fail_if_success (conv => arg 3; arg 34)); with_reducible refine Apart.over ?_ rfl rfl ?_ ?_ ?_ ?_)
      | (extract_lets +onlyGivenNames z
         first
         | (refine Apart.cut (m := m) (r := r) (z := z) ?_ ?_; rotate_left; clear_value z; intro _; rotate_left; unfold z; clear z)
         | clear_value z)
      | with_reducible apply restartStream_apart
      | with_reducible rfl
      | split

theorem drainSlates_apart {m : Bool} {r : State} (s : State) (h : Apart m r s) : Apart m r (drainSlates s) := by
  unfold drainSlates
  repeat' first
      | with_reducible assumption
      | with_reducible exact id
      | (intro _; with_reducible rfl)
      | intro _
      | ((fail_if_success fail_if_success (conv => arg 3; arg 34)); with_reducible refine Apart.over ?_ rfl rfl ?_ ?_ ?_ ?_)
      | (extract_lets +onlyGivenNames z; clear_value z)
      | with_reducible apply sendFrame_apart
      | with_reducible apply Apart.foldl
      | with_reducible rfl

theorem repeatNotices_apart {m : Bool} {r : State} (s : State) (h : Apart m r s) : Apart m r (repeatNotices s) := by
  unfold repeatNotices
  repeat' first
      | with_reducible assumption
      | intro _
      | with_reducible apply linkFrame_apart
      | with_reducible apply Apart.foldl

theorem decidePlacement_apart {m : Bool} {r : State} (s : State) (spare : Nat) (h : Apart m r s) : Apart m r (decidePlacement s spare) := by
  unfold decidePlacement
  repeat' first
      | with_reducible assumption
      | with_reducible exact id
      | (intro _; with_reducible rfl)
      | ((fail_if_success fail_if_success (conv => arg 3; arg 3)); with_reducible apply Apart.ite)
      | ((fail_if_success fail_if_success (conv => arg 3; arg 34)); with_reducible refine Apart.over ?_ rfl rfl ?_ ?_ ?_ ?_)
      | (extract_lets +onlyGivenNames z
         first
         | (refine Apart.cut (m := m) (r := r) (z := z) ?_ ?_; rotate_left; clear_value z; intro _; rotate_left; unfold z; clear z)
         | clear_value z)
      | with_reducible rfl

theorem masterSends_apart {m : Bool} {r : State} (s : State) (h : Apart m r s) : Apart m r (masterSends s) := by
  unfold masterSends
  repeat' first
      | with_reducible assumption
      | with_reducible exact id
      | (intro _; with_reducible rfl)
      | ((fail_if_success fail_if_success (conv => arg 3; arg 3)); with_reducible apply Apart.ite)
      | ((fail_if_success fail_if_success (conv => arg 3; arg 34)); with_reducible refine Apart.over ?_ rfl rfl ?_ ?_ ?_ ?_)
      | (extract_lets +onlyGivenNames z
         first
         | (refine Apart.cut (m := m) (r := r) (z := z) ?_ ?_; rotate_left; clear_value z; intro _; rotate_left; unfold z; clear z)
         | clear_value z)
      | with_reducible apply newKey_apart
      | with_reducible apply sendSet_apart
      | with_reducible apply sendFrame_apart
      | with_reducible rfl

theorem radioSuperframe_apart {m : Bool} {r : State} (s : State) (old : Nat) (h : Apart m r s) : Apart m r (radioSuperframe s old) := by
  unfold radioSuperframe
  repeat' first
      | with_reducible assumption
      | with_reducible exact id
      | (intro _; with_reducible rfl)
      | ((fail_if_success fail_if_success (conv => arg 3; arg 3)); with_reducible apply Apart.ite)
      | ((fail_if_success fail_if_success (conv => arg 3; arg 34)); with_reducible refine Apart.over ?_ rfl rfl ?_ ?_ ?_ ?_)
      | (extract_lets +onlyGivenNames z
         first
         | (refine Apart.cut (m := m) (r := r) (z := z) ?_ ?_; rotate_left; clear_value z; intro _; rotate_left; unfold z; clear z)
         | clear_value z)
      | with_reducible rfl

theorem sendHeartbeat_apart {m : Bool} {r : State} (s : State) (h : Apart m r s) : Apart m r (sendHeartbeat s) := by
  unfold sendHeartbeat
  repeat' first
      | with_reducible assumption
      | ((fail_if_success fail_if_success (conv => arg 3; arg 3)); with_reducible apply Apart.ite)
      | with_reducible apply sendFrame_apart

theorem execSuperframeStart_apart {m : Bool} {r : State} (spare : Nat) (s : State) (h : Apart m r s) :
    ApartO m r (execSuperframeStart spare s) := by
  unfold execSuperframeStart
  repeat' first
      | with_reducible assumption
      | with_reducible exact id
      | (intro _; with_reducible rfl)
      | ((fail_if_success fail_if_success (conv => arg 3; arg 3)); with_reducible apply Apart.ite)
      | ((fail_if_success fail_if_success (conv => arg 3; arg 34)); with_reducible refine Apart.over ?_ rfl rfl ?_ ?_ ?_ ?_)
      | (extract_lets +onlyGivenNames z
         first
         | (refine Apart.cut (m := m) (r := r) (z := z) ?_ ?_; rotate_left; clear_value z; intro _; rotate_left; unfold z; clear z)
         | clear_value z)
      | with_reducible apply takeMaster_apart
      | with_reducible apply radioSuperframe_apart
      | with_reducible apply drainBulk_apart
      | with_reducible apply applyPlacement_apart
      | with_reducible apply checkRef_apart
      | with_reducible apply applySource_apart
      | with_reducible apply admitReady_apart
      | with_reducible apply applyServices_apart
      | with_reducible apply drainSlates_apart
      | with_reducible apply repeatNotices_apart
      | with_reducible apply sendHeartbeat_apart
      | with_reducible apply masterSends_apart
      | with_reducible apply decidePlacement_apart
      | with_reducible apply applyChainMove_apart
      | with_reducible apply ApartO.next
      | with_reducible rfl

end Sys2Proof.Machine
end

