-- ==== Sys2Proof/Laws/ApartDollyRows.lean ====
section
/-! SUPPORT. Each operation of Machine/DollyRows keeps `Apart`. -/
set_option Elab.async false
set_option linter.unusedTactic false
namespace Sys2Proof.Machine

theorem execSetSpans_apart {m : Bool} {r : State} (h0 : Hdr) (entries : List SpanEntry) (s : State) (h : Apart m r s) :
    ApartO m r (execSetSpans h0 entries s) := by
  unfold execSetSpans
  repeat' first
      | with_reducible assumption
      | (intro _; with_reducible rfl)
      | intro _
      | ((fail_if_success fail_if_success (conv => arg 3; arg 3)); with_reducible apply Apart.ite)
      | (extract_lets +onlyGivenNames z; refine Apart.cut (m := m) (r := r) (z := z) ?_ ?_; rotate_left; clear_value z; intro _; rotate_left; unfold z; clear z)
      | with_reducible apply runCmd_apart
      | with_reducible apply refuse_apart
      | with_reducible apply reply_apart
      | with_reducible apply State.updDie_apart
      | with_reducible apply ApartO.next
      | with_reducible apply Apart.foldl

theorem execSetGoal_apart {m : Bool} {r : State} (h0 : Hdr) (goal imax target band horizon : Nat) (s : State) (h : Apart m r s) :
    ApartO m r (execSetGoal h0 goal imax target band horizon s) := by
  unfold execSetGoal
  repeat' first
      | with_reducible assumption
      | intro _
      | ((fail_if_success fail_if_success (conv => arg 3; arg 3)); with_reducible apply Apart.ite)
      | with_reducible apply runCmd_apart
      | with_reducible apply refuse_apart
      | with_reducible apply switchCmd_apart
      | with_reducible apply ApartO.next

theorem execSetCellCapacity_apart {m : Bool} {r : State} (h0 : Hdr) (first : Nat) (values : List Nat) (s : State) (h : Apart m r s) :
    ApartO m r (execSetCellCapacity h0 first values s) := by
  unfold execSetCellCapacity
  repeat' first
      | with_reducible assumption
      | with_reducible exact id
      | (intro _; with_reducible rfl)
      | intro _
      | ((fail_if_success fail_if_success (conv => arg 3; arg 3)); with_reducible apply Apart.ite)
      | ((fail_if_success fail_if_success (conv => arg 3; arg 34)); with_reducible refine Apart.over ?_ rfl rfl ?_ ?_ ?_ ?_)
      | (extract_lets +onlyGivenNames z; clear_value z)
      | with_reducible apply runCmd_apart
      | with_reducible apply refuse_apart
      | with_reducible apply reply_apart
      | with_reducible apply ApartO.next
      | with_reducible rfl

theorem execSetChargeGoal_apart {m : Bool} {r : State} (h0 : Hdr) (first : Nat) (values : List Int) (s : State) (h : Apart m r s) :
    ApartO m r (execSetChargeGoal h0 first values s) := by
  unfold execSetChargeGoal
  repeat' first
      | with_reducible assumption
      | with_reducible exact id
      | (intro _; with_reducible rfl)
      | intro _
      | ((fail_if_success fail_if_success (conv => arg 3; arg 3)); with_reducible apply Apart.ite)
      | ((fail_if_success fail_if_success (conv => arg 3; arg 34)); with_reducible refine Apart.over ?_ rfl rfl ?_ ?_ ?_ ?_)
      | (extract_lets +onlyGivenNames z; clear_value z)
      | with_reducible apply runCmd_apart
      | with_reducible apply refuse_apart
      | with_reducible apply reply_apart
      | with_reducible apply ApartO.next
      | with_reducible rfl

theorem execSetBalanceMode_apart {m : Bool} {r : State} (h0 : Hdr) (mode : Nat) (s : State) (h : Apart m r s) :
    ApartO m r (execSetBalanceMode h0 mode s) := by
  unfold execSetBalanceMode
  repeat' first
      | with_reducible assumption
      | intro _
      | ((fail_if_success fail_if_success (conv => arg 3; arg 3)); with_reducible apply Apart.ite)
      | with_reducible apply runCmd_apart
      | with_reducible apply refuse_apart
      | with_reducible apply switchCmd_apart
      | with_reducible apply ApartO.next

theorem startTransfer_apart {m : Bool} {r : State} (s : State) (die j : Nat) (t : DollyTransfer) (h : Apart m r s) :
    Apart m r (startTransfer s die j t) := by
  unfold startTransfer
  repeat' first
      | with_reducible assumption
      | ((fail_if_success fail_if_success (conv => arg 3; arg 3)); with_reducible apply Apart.ite)
      | (extract_lets +onlyGivenNames z; refine Apart.cut (m := m) (r := r) (z := z) ?_ ?_; rotate_left; clear_value z; intro _; rotate_left; unfold z; clear z)
      | with_reducible apply State.updDolly_apart
      | with_reducible apply endFree_apart
      | with_reducible apply dollyChanged_apart

theorem execDollyOrder_apart {m : Bool} {r : State} (h0 : Hdr) (die dolly mode cell iset duration qlimit : Nat) (s : State)
    (h : Apart m r s) : ApartO m r (execDollyOrder h0 die dolly mode cell iset duration qlimit s) := by
  unfold execDollyOrder
  repeat' first
      | with_reducible assumption
      | intro _
      | ((fail_if_success fail_if_success (conv => arg 3; arg 3)); with_reducible apply Apart.ite)
      | (extract_lets +onlyGivenNames z; clear_value z)
      | with_reducible apply runCmd_apart
      | with_reducible apply refuse_apart
      | with_reducible apply reply_apart
      | with_reducible apply endFree_apart
      | with_reducible apply startTransfer_apart
      | with_reducible apply ApartO.next
      | split

theorem execSetDollyLimits_apart {m : Bool} {r : State} (h0 : Hdr) (cellhi celllo lease : Nat) (s : State) (h : Apart m r s) :
    ApartO m r (execSetDollyLimits h0 cellhi celllo lease s) := by
  unfold execSetDollyLimits
  repeat' first
      | with_reducible assumption
      | with_reducible exact id
      | (intro _; with_reducible rfl)
      | intro _
      | ((fail_if_success fail_if_success (conv => arg 3; arg 34)); with_reducible refine Apart.over ?_ rfl rfl ?_ ?_ ?_ ?_)
      | (extract_lets +onlyGivenNames z; clear_value z)
      | with_reducible apply runCmd_apart
      | with_reducible apply reply_apart
      | with_reducible apply ApartO.next
      | with_reducible rfl

theorem execSetDerating_apart {m : Bool} {r : State} (h0 : Hdr) (mode : Nat) (entries : List DerateEntry) (s : State) (h : Apart m r s) :
    ApartO m r (execSetDerating h0 mode entries s) := by
  unfold execSetDerating
  repeat' first
      | with_reducible assumption
      | intro _
      | ((fail_if_success fail_if_success (conv => arg 3; arg 3)); with_reducible apply Apart.ite)
      | with_reducible apply runCmd_apart
      | with_reducible apply refuse_apart
      | with_reducible apply switchCmd_apart
      | with_reducible apply ApartO.next

theorem execSetSleepBalance_apart {m : Bool} {r : State} (h0 : Hdr) (enable period target band isleep maxawake : Nat) (s : State)
    (h : Apart m r s) : ApartO m r (execSetSleepBalance h0 enable period target band isleep maxawake s) := by
  unfold execSetSleepBalance
  repeat' first
      | with_reducible assumption
      | with_reducible exact id
      | (intro _; with_reducible rfl)
      | intro _
      | ((fail_if_success fail_if_success (conv => arg 3; arg 34)); with_reducible refine Apart.over ?_ rfl rfl ?_ ?_ ?_ ?_)
      | (extract_lets +onlyGivenNames z; clear_value z)
      | with_reducible apply runCmd_apart
      | with_reducible apply reply_apart
      | with_reducible apply ApartO.next
      | with_reducible rfl

theorem execGetPlan_apart {m : Bool} {r : State} (h0 : Hdr) (die : Nat) (s : State) (h : Apart m r s) :
    ApartO m r (execGetPlan h0 die s) := by
  unfold execGetPlan
  repeat' first
      | with_reducible assumption
      | intro _
      | with_reducible apply runCmd_apart
      | with_reducible apply refuse_apart
      | with_reducible apply reply_apart
      | with_reducible apply ApartO.next
      | split

theorem execGetBalanceStatus_apart {m : Bool} {r : State} (h0 : Hdr) (die : Nat) (s : State) (h : Apart m r s) :
    ApartO m r (execGetBalanceStatus h0 die s) := by
  unfold execGetBalanceStatus
  repeat' first
      | with_reducible assumption
      | intro _
      | (extract_lets +onlyGivenNames z; clear_value z)
      | with_reducible apply runCmd_apart
      | with_reducible apply refuse_apart
      | with_reducible apply reply_apart
      | with_reducible apply ApartO.next
      | split

theorem planShortfall_apart {m : Bool} {r : State} (s : State) (es : List (Nat × Int)) (h : Apart m r s) :
    Apart m r (planShortfall s es) := by
  unfold planShortfall
  repeat' first
      | with_reducible assumption
      | with_reducible exact id
      | (intro _; with_reducible rfl)
      | ((fail_if_success fail_if_success (conv => arg 3; arg 3)); with_reducible apply Apart.ite)
      | ((fail_if_success fail_if_success (conv => arg 3; arg 34)); with_reducible refine Apart.over ?_ rfl rfl ?_ ?_ ?_ ?_)
      | (extract_lets +onlyGivenNames z
         first
         | (refine Apart.cut (m := m) (r := r) (z := z) ?_ ?_; rotate_left; clear_value z; intro _; rotate_left; unfold z; clear z)
         | clear_value z)
      | with_reducible apply raise_apart
      | with_reducible rfl

theorem planOn_apart {m : Bool} {r : State} (s : State) (t : Take) (deps : List Nat) (h : Apart m r s) : Apart m r (planOn s t deps) := by
  unfold planOn
  repeat' first
      | with_reducible assumption
      | with_reducible exact id
      | (intro _; with_reducible rfl)
      | intro _
      | ((fail_if_success fail_if_success (conv => arg 3; arg 34)); with_reducible refine Apart.over ?_ rfl rfl ?_ ?_ ?_ ?_)
      | (extract_lets +onlyGivenNames z
         first
         | (refine Apart.cut (m := m) (r := r) (z := z) ?_ ?_; rotate_left; clear_value z; intro _; rotate_left; unfold z; clear z)
         | clear_value z)
      | with_reducible apply State.updDolly_apart
      | with_reducible apply planShortfall_apart
      | with_reducible apply Apart.foldl
      | with_reducible rfl

theorem execPlannerPrepare_apart {m : Bool} {r : State} (s : State) (h : Apart m r s) : ApartO m r (execPlannerPrepare s) := by
  unfold execPlannerPrepare
  repeat' first
      | with_reducible assumption
      | with_reducible exact id
      | (intro _; with_reducible rfl)
      | ((fail_if_success fail_if_success (conv => arg 3; arg 3)); with_reducible apply Apart.ite)
      | ((fail_if_success fail_if_success (conv => arg 3; arg 34)); with_reducible refine Apart.over ?_ rfl rfl ?_ ?_ ?_ ?_)
      | (extract_lets +onlyGivenNames z; clear_value z)
      | with_reducible apply planOn_apart
      | with_reducible apply ApartO.next
      | with_reducible rfl
      | split

theorem applyItem_apart {m : Bool} {r : State} (s : State) (d : SegDie) (j : Nat) (y : Dolly) (i : PlanItem) (h : Apart m r s) :
    Apart m r (applyItem s d j y i) := by
  unfold applyItem
  repeat' first
      | with_reducible assumption
      | ((fail_if_success fail_if_success (conv => arg 3; arg 3)); with_reducible apply Apart.ite)
      | (extract_lets +onlyGivenNames z
         first
         | (refine Apart.cut (m := m) (r := r) (z := z) ?_ ?_; rotate_left; clear_value z; intro _; rotate_left; unfold z; clear z)
         | clear_value z)
      | with_reducible apply endFree_apart
      | with_reducible apply dollyChanged_apart
      | with_reducible apply State.updDolly_apart
      | with_reducible apply startTransfer_apart
      | split

theorem execDollyApplyItem_apart {m : Bool} {r : State} (die dolly : Nat) (s : State) (h : Apart m r s) :
    ApartO m r (execDollyApplyItem die dolly s) := by
  unfold execDollyApplyItem
  repeat' first
      | with_reducible assumption
      | with_reducible exact id
      | (intro _; with_reducible rfl)
      | intro _
      | ((fail_if_success fail_if_success (conv => arg 3; arg 3)); with_reducible apply Apart.ite)
      | ((fail_if_success fail_if_success (conv => arg 3; arg 34)); with_reducible refine Apart.over ?_ rfl rfl ?_ ?_ ?_ ?_)
      | (extract_lets +onlyGivenNames z; clear_value z)
      | with_reducible apply applyItem_apart
      | with_reducible apply Apart.onDie
      | with_reducible rfl
      | split

theorem execDollyLeaseExpired_apart {m : Bool} {r : State} (die dolly : Nat) (qcell : Int) (loss : Nat) (s : State) (h : Apart m r s) :
    ApartO m r (execDollyLeaseExpired die dolly qcell loss s) := by
  unfold execDollyLeaseExpired
  repeat' first
      | with_reducible assumption
      | intro _
      | ((fail_if_success fail_if_success (conv => arg 3; arg 3)); with_reducible apply Apart.ite)
      | with_reducible apply raise_apart
      | with_reducible apply endMeasured_apart
      | with_reducible apply Apart.onDie
      | split

theorem execTransferLimitEnd_apart {m : Bool} {r : State} (die dolly : Nat) (qcell : Int) (loss : Nat) (s : State) (h : Apart m r s) :
    ApartO m r (execTransferLimitEnd die dolly qcell loss s) := by
  unfold execTransferLimitEnd
  repeat' first
      | with_reducible assumption
      | intro _
      | ((fail_if_success fail_if_success (conv => arg 3; arg 3)); with_reducible apply Apart.ite)
      | with_reducible apply endMeasured_apart
      | with_reducible apply Apart.onDie
      | split

theorem sleepRec_apart {m : Bool} {r : State} (s : State) (die kind detail : Nat) (h : Apart m r s) :
    Apart m r (sleepRec s die kind detail) := by
  unfold sleepRec
  repeat' first
      | with_reducible assumption
      | (intro _; with_reducible rfl)
      | with_reducible apply State.updDie_apart

theorem dieFault_apart {m : Bool} {r : State} (s : State) (die block kind detail : Nat) (h : Apart m r s) :
    Apart m r (dieFault s die block kind detail) := by
  unfold dieFault
  repeat' first
      | with_reducible assumption
      | ((fail_if_success fail_if_success (conv => arg 3; arg 3)); with_reducible apply Apart.ite)
      | with_reducible apply withdraw_apart
      | with_reducible apply sleepRec_apart
      | with_reducible apply raise_apart

theorem dollyFault_apart {m : Bool} {r : State} (s : State) (d : SegDie) (j kind : Nat) (h : Apart m r s) :
    Apart m r (dollyFault s d j kind) := by
  unfold dollyFault
  repeat' first
      | with_reducible assumption
      | with_reducible apply finishClear_apart
      | with_reducible apply dieFault_apart
      | split

theorem execDollyOvercurrent_apart {m : Bool} {r : State} (die dolly : Nat) (s : State) (h : Apart m r s) :
    ApartO m r (execDollyOvercurrent die dolly s) := by
  unfold execDollyOvercurrent
  repeat' first
      | with_reducible assumption
      | intro _
      | with_reducible apply dollyFault_apart
      | with_reducible apply Apart.onDie

theorem execDollyRegulation_apart {m : Bool} {r : State} (die dolly : Nat) (s : State) (h : Apart m r s) :
    ApartO m r (execDollyRegulation die dolly s) := by
  unfold execDollyRegulation
  repeat' first
      | with_reducible assumption
      | intro _
      | with_reducible apply dollyFault_apart
      | with_reducible apply Apart.onDie

theorem execDollySpanVoltage_apart {m : Bool} {r : State} (die dolly mv : Nat) (s : State) (h : Apart m r s) :
    ApartO m r (execDollySpanVoltage die dolly mv s) := by
  unfold execDollySpanVoltage
  repeat' first
      | with_reducible assumption
      | intro _
      | ((fail_if_success fail_if_success (conv => arg 3; arg 3)); with_reducible apply Apart.ite)
      | (extract_lets +onlyGivenNames z; clear_value z)
      | with_reducible apply dollyFault_apart
      | with_reducible apply Apart.onDie

theorem execDollyNoTransfer_apart {m : Bool} {r : State} (die dolly : Nat) (s : State) (h : Apart m r s) :
    ApartO m r (execDollyNoTransfer die dolly s) := by
  unfold execDollyNoTransfer
  repeat' first
      | with_reducible assumption
      | intro _
      | with_reducible apply dollyFault_apart
      | with_reducible apply Apart.onDie

theorem execDollyDriverSupply_apart {m : Bool} {r : State} (die : Nat) (s : State) (h : Apart m r s) :
    ApartO m r (execDollyDriverSupply die s) := by
  unfold execDollyDriverSupply
  repeat' first
      | with_reducible assumption
      | intro _
      | ((fail_if_success fail_if_success (conv => arg 3; arg 3)); with_reducible apply Apart.ite)
      | with_reducible apply finishClear_apart
      | with_reducible apply dieFault_apart
      | with_reducible apply Apart.onDie

theorem execDollyCheckTransferEnd_apart {m : Bool} {r : State} (die dolly : Nat) (clean : Bool) (s : State) (h : Apart m r s) :
    ApartO m r (execDollyCheckTransferEnd die dolly clean s) := by
  unfold execDollyCheckTransferEnd
  repeat' first
      | with_reducible assumption
      | intro _
      | ((fail_if_success fail_if_success (conv => arg 3; arg 3)); with_reducible apply Apart.ite)
      | (extract_lets +onlyGivenNames z
         first
         | (refine Apart.cut (m := m) (r := r) (z := z) ?_ ?_; rotate_left; clear_value z; intro _; rotate_left; unfold z; clear z)
         | clear_value z)
      | with_reducible apply endFree_apart
      | with_reducible apply finishClear_apart
      | with_reducible apply State.updDolly_apart
      | with_reducible apply Apart.onDie

theorem execDollyThermalResume_apart {m : Bool} {r : State} (die : Nat) (s : State) (h : Apart m r s) :
    ApartO m r (execDollyThermalResume die s) := by
  unfold execDollyThermalResume
  repeat' first
      | with_reducible assumption
      | (intro _; with_reducible rfl)
      | intro _
      | ((fail_if_success fail_if_success (conv => arg 3; arg 3)); with_reducible apply Apart.ite)
      | with_reducible apply State.updDie_apart
      | with_reducible apply Apart.onDie

theorem dieAsleep_apart {m : Bool} {r : State} (s : State) (die : Nat) (h : Apart m r s) : Apart m r (dieAsleep s die) := by
  unfold dieAsleep
  repeat' first
      | with_reducible assumption
      | (intro _; with_reducible rfl)
      | with_reducible apply endDie_apart
      | with_reducible apply State.updDie_apart

theorem execSleepBalanceWake_apart {m : Bool} {r : State} (die : Nat) (s : State) (h : Apart m r s) :
    ApartO m r (execSleepBalanceWake die s) := by
  unfold execSleepBalanceWake
  repeat' first
      | with_reducible assumption
      | (intro _; with_reducible rfl)
      | intro _
      | ((fail_if_success fail_if_success (conv => arg 3; arg 3)); with_reducible apply Apart.ite)
      | with_reducible apply State.updDie_apart
      | with_reducible apply Apart.onDie
      | split

theorem sleepGuard_apart {m : Bool} {r : State} (diags : List Int) (die : Nat) (s : State) (j : Nat) (h : Apart m r s) :
    Apart m r (sleepGuard diags die s j) := by
  unfold sleepGuard
  repeat' first
      | with_reducible assumption
      | ((fail_if_success fail_if_success (conv => arg 3; arg 3)); with_reducible apply Apart.ite)
      | with_reducible apply sleepRec_apart
      | with_reducible apply endFree_apart
      | split

theorem sleepGroup_apart {m : Bool} {r : State} (die : Nat) (volts : List Int) (c : Nat × Nat × Nat × Nat × Nat) (s : State) (j : Nat)
    (h : Apart m r s) : Apart m r (sleepGroup die volts c s j) := by
  unfold sleepGroup
  repeat' first
      | with_reducible assumption
      | ((fail_if_success fail_if_success (conv => arg 3; arg 3)); with_reducible apply Apart.ite)
      | (extract_lets +onlyGivenNames z
         first
         | (refine Apart.cut (m := m) (r := r) (z := z) ?_ ?_; rotate_left; clear_value z; intro _; rotate_left; unfold z; clear z)
         | clear_value z)
      | with_reducible apply endFree_apart
      | with_reducible apply State.updDolly_apart
      | split

theorem execSleepTakeEnd_apart {m : Bool} {r : State} (die : Nat) (take : SleepTake) (mismatch : List Nat) (s : State) (h : Apart m r s) :
    ApartO m r (execSleepTakeEnd die take mismatch s) := by
  unfold execSleepTakeEnd
  repeat' first
      | with_reducible assumption
      | intro _
      | ((fail_if_success fail_if_success (conv => arg 3; arg 3)); with_reducible apply Apart.ite)
      | (extract_lets +onlyGivenNames z; refine Apart.cut (m := m) (r := r) (z := z) ?_ ?_; rotate_left; clear_value z; intro _; rotate_left; unfold z; clear z)
      | with_reducible apply dieAsleep_apart
      | with_reducible apply sleepRec_apart
      | with_reducible apply sleepGuard_apart
      | with_reducible apply sleepGroup_apart
      | with_reducible apply Apart.onDie
      | with_reducible apply Apart.foldl
      | split

theorem execSleepTakeRepeat_apart {m : Bool} {r : State} (die : Nat) (s : State) (h : Apart m r s) :
    ApartO m r (execSleepTakeRepeat die s) := by
  unfold execSleepTakeRepeat
  repeat' first
      | with_reducible assumption
      | (intro _; with_reducible rfl)
      | intro _
      | ((fail_if_success fail_if_success (conv => arg 3; arg 3)); with_reducible apply Apart.ite)
      | with_reducible apply State.updDie_apart
      | with_reducible apply Apart.onDie

theorem execSleepAwakeLimit_apart {m : Bool} {r : State} (die : Nat) (s : State) (h : Apart m r s) :
    ApartO m r (execSleepAwakeLimit die s) := by
  unfold execSleepAwakeLimit
  repeat' first
      | with_reducible assumption
      | intro _
      | ((fail_if_success fail_if_success (conv => arg 3; arg 3)); with_reducible apply Apart.ite)
      | (extract_lets +onlyGivenNames z; clear_value z)
      | with_reducible apply dieAsleep_apart
      | with_reducible apply sleepRec_apart
      | with_reducible apply Apart.onDie
      | split

end Sys2Proof.Machine
end

