-- ==== Sys2Proof/Laws/ApartFaultRows.lean ====
section
/-! SUPPORT. Each operation of Machine/FaultRows keeps `Apart`. -/
set_option Elab.async false
set_option linter.unusedTactic false
namespace Sys2Proof.Machine

theorem execFaultRead_apart {m : Bool} {r : State} (h0 : Hdr) (which n fromIdx : Nat) (s : State) (h : Apart m r s) :
    ApartO m r (execFaultRead h0 which n fromIdx s) := by
  unfold execFaultRead
  repeat' first
      | with_reducible assumption
      | intro _
      | ((fail_if_success fail_if_success (conv => arg 3; arg 3)); with_reducible apply Apart.ite)
      | (extract_lets +onlyGivenNames z; clear_value z)
      | with_reducible apply runCmd_apart
      | with_reducible apply refuse_apart
      | with_reducible apply reply_apart
      | with_reducible apply ApartO.next

theorem faultClear_apart {m : Bool} {r : State} (s : State) (h1 : Hdr) (source all : Nat) (p : Option Proof) (h : Apart m r s) :
    Apart m r (faultClear s h1 source all p) := by
  unfold faultClear
  repeat' first
      | with_reducible assumption
      | intro _
      | with_reducible apply withProof_apart
      | with_reducible apply beginClear_apart
      | split

theorem execFaultClear_apart {m : Bool} {r : State} (h0 : Hdr) (source all : Nat) (p : Option Proof) (s : State) (h : Apart m r s) :
    ApartO m r (execFaultClear h0 source all p s) := by
  unfold execFaultClear
  repeat' first
      | with_reducible assumption
      | intro _
      | ((fail_if_success fail_if_success (conv => arg 3; arg 3)); with_reducible apply Apart.ite)
      | with_reducible apply runCmd_apart
      | with_reducible apply refuse_apart
      | with_reducible apply faultClear_apart
      | with_reducible apply ApartO.next
      | split

theorem execGetFaultStatus_apart {m : Bool} {r : State} (h0 : Hdr) (s : State) (h : Apart m r s) :
    ApartO m r (execGetFaultStatus h0 s) := by
  unfold execGetFaultStatus
  repeat' first
      | with_reducible assumption
      | intro _
      | with_reducible apply runCmd_apart
      | with_reducible apply reply_apart
      | with_reducible apply ApartO.next

theorem execSetReaction_apart {m : Bool} {r : State} (h0 : Hdr) (kind cls : Nat) (p : Proof) (s : State) (h : Apart m r s) :
    ApartO m r (execSetReaction h0 kind cls p s) := by
  unfold execSetReaction
  repeat' first
      | with_reducible assumption
      | with_reducible exact id
      | (intro _; with_reducible rfl)
      | intro _
      | ((fail_if_success fail_if_success (conv => arg 3; arg 3)); with_reducible apply Apart.ite)
      | ((fail_if_success fail_if_success (conv => arg 3; arg 34)); with_reducible refine Apart.over ?_ rfl rfl ?_ ?_ ?_ ?_)
      | (extract_lets +onlyGivenNames z
         first
         | (refine Apart.cut (m := m) (r := r) (z := z) ?_ ?_; rotate_left; clear_value z; intro _; rotate_left; unfold z; clear z)
         | clear_value z)
      | with_reducible apply runCmd_apart
      | with_reducible apply refuse_apart
      | with_reducible apply withProof_apart
      | with_reducible apply reply_apart
      | with_reducible apply flashPush_apart
      | with_reducible apply ApartO.next
      | with_reducible rfl

theorem execGetReaction_apart {m : Bool} {r : State} (h0 : Hdr) (first n : Nat) (s : State) (h : Apart m r s) :
    ApartO m r (execGetReaction h0 first n s) := by
  unfold execGetReaction
  repeat' first
      | with_reducible assumption
      | intro _
      | with_reducible apply runCmd_apart
      | with_reducible apply reply_apart
      | with_reducible apply ApartO.next

theorem execFaultForce_apart {m : Bool} {r : State} (h0 : Hdr) (source kind detail hold suppress : Nat) (p : Proof) (s : State)
    (h : Apart m r s) : ApartO m r (execFaultForce h0 source kind detail hold suppress p s) := by
  unfold execFaultForce
  repeat' first
      | with_reducible assumption
      | with_reducible exact id
      | (intro _; with_reducible rfl)
      | intro _
      | ((fail_if_success fail_if_success (conv => arg 3; arg 3)); with_reducible apply Apart.ite)
      | ((fail_if_success fail_if_success (conv => arg 3; arg 34)); with_reducible refine Apart.over ?_ rfl rfl ?_ ?_ ?_ ?_)
      | (extract_lets +onlyGivenNames z
         first
         | (refine Apart.cut (m := m) (r := r) (z := z) ?_ ?_; rotate_left; clear_value z; intro _; rotate_left; unfold z; clear z)
         | clear_value z)
      | with_reducible apply runCmd_apart
      | with_reducible apply refuse_apart
      | with_reducible apply withProof_apart
      | with_reducible apply settle_apart
      | with_reducible apply collect_apart
      | with_reducible apply reply_apart
      | with_reducible apply ownAction_apart
      | with_reducible apply ApartO.next
      | with_reducible rfl

theorem execForceHoldEnd_apart {m : Bool} {r : State} (source : Nat) (s : State) (h : Apart m r s) :
    ApartO m r (execForceHoldEnd source s) := by
  unfold execForceHoldEnd
  repeat' first
      | with_reducible assumption
      | with_reducible exact id
      | (intro _; with_reducible rfl)
      | ((fail_if_success fail_if_success (conv => arg 3; arg 34)); with_reducible refine Apart.over ?_ rfl rfl ?_ ?_ ?_ ?_)
      | (extract_lets +onlyGivenNames z; clear_value z)
      | with_reducible apply ApartO.next
      | with_reducible rfl

theorem execInjectCheck_apart {m : Bool} {r : State} (h0 : Hdr) (target mode count : Nat) (p : Proof) (s : State) (h : Apart m r s) :
    ApartO m r (execInjectCheck h0 target mode count p s) := by
  unfold execInjectCheck
  repeat' first
      | with_reducible assumption
      | with_reducible exact id
      | (intro _; with_reducible rfl)
      | intro _
      | ((fail_if_success fail_if_success (conv => arg 3; arg 3)); with_reducible apply Apart.ite)
      | ((fail_if_success fail_if_success (conv => arg 3; arg 34)); with_reducible refine Apart.over ?_ rfl rfl ?_ ?_ ?_ ?_)
      | (extract_lets +onlyGivenNames z; clear_value z)
      | with_reducible apply runCmd_apart
      | with_reducible apply refuse_apart
      | with_reducible apply withProof_apart
      | with_reducible apply reply_apart
      | with_reducible apply ApartO.next
      | with_reducible rfl

theorem execWdConfig_apart {m : Bool} {r : State} (h0 : Hdr) (arm period seed : Nat) (p : Proof) (s : State) (h : Apart m r s) :
    ApartO m r (execWdConfig h0 arm period seed p s) := by
  unfold execWdConfig
  repeat' first
      | with_reducible assumption
      | with_reducible exact id
      | (intro _; with_reducible rfl)
      | intro _
      | ((fail_if_success fail_if_success (conv => arg 3; arg 3)); with_reducible apply Apart.ite)
      | ((fail_if_success fail_if_success (conv => arg 3; arg 34)); with_reducible refine Apart.over ?_ rfl rfl ?_ ?_ ?_ ?_)
      | (extract_lets +onlyGivenNames z
         first
         | (refine Apart.cut (m := m) (r := r) (z := z) ?_ ?_; rotate_left; clear_value z; intro _; rotate_left; unfold z; clear z)
         | clear_value z)
      | with_reducible apply runCmd_apart
      | with_reducible apply withProof_apart
      | with_reducible apply refuse_apart
      | with_reducible apply wdArm_apart
      | with_reducible apply reply_apart
      | with_reducible apply ApartO.next
      | with_reducible rfl

theorem execWdStatus_apart {m : Bool} {r : State} (h0 : Hdr) (s : State) (h : Apart m r s) : ApartO m r (execWdStatus h0 s) := by
  unfold execWdStatus
  repeat' first
      | with_reducible assumption
      | intro _
      | with_reducible apply runCmd_apart
      | with_reducible apply reply_apart
      | with_reducible apply ApartO.next

theorem execGetEvidence_apart {m : Bool} {r : State} (h0 : Hdr) (index : Nat) (s : State) (h : Apart m r s) :
    ApartO m r (execGetEvidence h0 index s) := by
  unfold execGetEvidence
  repeat' first
      | with_reducible assumption
      | intro _
      | with_reducible apply runCmd_apart
      | with_reducible apply reply_apart
      | with_reducible apply refuse_apart
      | with_reducible apply ApartO.next
      | split

theorem decideRec_apart {m : Bool} {r : State} (s : State) (r1 : FRec) (action : Nat) (h : Apart m r s) :
    Apart m r (decideRec s r1 action) := by
  unfold decideRec
  repeat' first
      | with_reducible assumption
      | with_reducible exact id
      | (intro _; with_reducible rfl)
      | intro _
      | ((fail_if_success fail_if_success (conv => arg 3; arg 3)); with_reducible apply Apart.ite)
      | ((fail_if_success fail_if_success (conv => arg 3; arg 34)); with_reducible refine Apart.over ?_ rfl rfl ?_ ?_ ?_ ?_)
      | (extract_lets +onlyGivenNames z
         first
         | (refine Apart.cut (m := m) (r := r) (z := z) ?_ ?_; rotate_left; clear_value z; intro _; rotate_left; unfold z; clear z)
         | clear_value z)
      | with_reducible apply settle_apart
      | with_reducible apply withdraw_apart
      | with_reducible apply Apart.foldl
      | with_reducible rfl

theorem execFaultDecide_apart {m : Bool} {r : State} (h0 : Hdr) (source action : Nat) (s : State) (h : Apart m r s) :
    ApartO m r (execFaultDecide h0 source action s) := by
  unfold execFaultDecide
  repeat' first
      | with_reducible assumption
      | intro _
      | ((fail_if_success fail_if_success (conv => arg 3; arg 3)); with_reducible apply Apart.ite)
      | with_reducible apply runCmd_apart
      | with_reducible apply refuse_apart
      | with_reducible apply reply_apart
      | with_reducible apply decideRec_apart
      | with_reducible apply ApartO.next
      | split

theorem execSetReactionMode_apart {m : Bool} {r : State} (h0 : Hdr) (mode : Nat) (s : State) (h : Apart m r s) :
    ApartO m r (execSetReactionMode h0 mode s) := by
  unfold execSetReactionMode
  repeat' first
      | with_reducible assumption
      | intro _
      | with_reducible apply runCmd_apart
      | with_reducible apply switchCmd_apart
      | with_reducible apply ApartO.next

theorem execGetCheckpoints_apart {m : Bool} {r : State} (h0 : Hdr) (s : State) (h : Apart m r s) :
    ApartO m r (execGetCheckpoints h0 s) := by
  unfold execGetCheckpoints
  repeat' first
      | with_reducible assumption
      | intro _
      | with_reducible apply runCmd_apart
      | with_reducible apply reply_apart
      | with_reducible apply ApartO.next

theorem execInfoRecordClose_apart {m : Bool} {r : State} (source : Nat) (s : State) (h : Apart m r s) :
    ApartO m r (execInfoRecordClose source s) := by
  unfold execInfoRecordClose
  repeat' first
      | with_reducible assumption
      | ((fail_if_success fail_if_success (conv => arg 3; arg 3)); with_reducible apply Apart.ite)
      | with_reducible apply closeRec_apart
      | with_reducible apply ApartO.next
      | split

theorem execFaultMessage_apart {m : Bool} {r : State} (msg : BitVec 32) (s : State) (h : Apart m r s) :
    ApartO m r (execFaultMessage msg s) := by
  unfold execFaultMessage
  repeat' first
      | with_reducible assumption
      | with_reducible apply settle_apart
      | with_reducible apply collect_apart
      | with_reducible apply ApartO.next

theorem execCheckpointCheckIn_apart {m : Bool} {r : State} (task : Nat) (s : State) (h : Apart m r s) :
    ApartO m r (execCheckpointCheckIn task s) := by
  unfold execCheckpointCheckIn
  repeat' first
      | with_reducible assumption
      | with_reducible exact id
      | (intro _; with_reducible rfl)
      | (refine @id (servesP _ → servesP _) ?_; exact id)
      | ((fail_if_success fail_if_success (conv => arg 3; arg 3)); with_reducible apply Apart.ite)
      | ((fail_if_success fail_if_success (conv => arg 3; arg 34)); with_reducible refine Apart.over ?_ rfl rfl ?_ ?_ ?_ ?_)
      | (extract_lets +onlyGivenNames z; have _ : Supervision := z; unfold z; clear z)
      | with_reducible apply ApartO.next
      | with_reducible rfl

theorem execCheckpointWindowEnd_apart {m : Bool} {r : State} (pc : Nat) (s : State) (h : Apart m r s) :
    ApartO m r (execCheckpointWindowEnd pc s) := by
  unfold execCheckpointWindowEnd
  repeat' first
      | with_reducible assumption
      | with_reducible exact id
      | (intro _; with_reducible rfl)
      | (refine @id (servesP _ → servesP _) ?_; exact id)
      | intro _
      | ((fail_if_success fail_if_success (conv => arg 3; arg 3)); with_reducible apply Apart.ite)
      | ((fail_if_success fail_if_success (conv => arg 3; arg 34)); with_reducible refine Apart.over ?_ rfl rfl ?_ ?_ ?_ ?_)
      | (extract_lets +onlyGivenNames z
         first
         | (refine Apart.cut (m := m) (r := r) (z := z) ?_ ?_; rotate_left; clear_value z; intro _; rotate_left; unfold z; clear z)
         | (have _ : Supervision := z; unfold z; clear z)
         | clear_value z)
      | with_reducible apply raise_apart
      | with_reducible apply capture_apart
      | with_reducible apply warmRestart_apart
      | with_reducible apply ApartO.next
      | with_reducible apply Apart.foldl
      | with_reducible rfl

theorem execMpuViolation_apart {m : Bool} {r : State} (region access : Nat) (s : State) (h : Apart m r s) :
    ApartO m r (execMpuViolation region access s) := by
  unfold execMpuViolation
  repeat' first
      | with_reducible assumption
      | with_reducible apply warmRestart_apart
      | with_reducible apply raise_apart
      | with_reducible apply ApartO.next

theorem execSramEccError_apart {m : Bool} {r : State} (ram addr : Nat) (uncorrectable keeper : Bool) (s : State) (h : Apart m r s) :
    ApartO m r (execSramEccError ram addr uncorrectable keeper s) := by
  unfold execSramEccError
  repeat' first
      | with_reducible assumption
      | ((fail_if_success fail_if_success (conv => arg 3; arg 3)); with_reducible apply Apart.ite)
      | (extract_lets +onlyGivenNames z
         first
         | (refine Apart.cut (m := m) (r := r) (z := z) ?_ ?_; rotate_left; clear_value z; intro _; rotate_left; unfold z; clear z)
         | clear_value z)
      | with_reducible apply settle_apart
      | with_reducible apply collect_apart
      | with_reducible apply useInject_apart
      | with_reducible apply warmRestart_apart
      | with_reducible apply ApartO.next

theorem execKeeperWatchdog_apart {m : Bool} {r : State} (pc : Nat) (s : State) (h : Apart m r s) :
    ApartO m r (execKeeperWatchdog pc s) := by
  unfold execKeeperWatchdog
  repeat' first
      | with_reducible assumption
      | with_reducible exact id
      | (intro _; with_reducible rfl)
      | ((fail_if_success fail_if_success (conv => arg 3; arg 3)); with_reducible apply Apart.ite)
      | ((fail_if_success fail_if_success (conv => arg 3; arg 34)); with_reducible refine Apart.over ?_ rfl rfl ?_ ?_ ?_ ?_)
      | (extract_lets +onlyGivenNames z
         first
         | (refine Apart.cut (m := m) (r := r) (z := z) ?_ ?_; rotate_left; clear_value z; intro _; rotate_left; unfold z; clear z)
         | clear_value z)
      | with_reducible apply keepDailies_apart
      | with_reducible apply capture_apart
      | with_reducible apply openOutputs_apart
      | with_reducible apply partReset_apart
      | with_reducible apply ApartO.next
      | with_reducible rfl

theorem execDailiesBucketRefill_apart {m : Bool} {r : State} (s : State) (h : Apart m r s) : ApartO m r (execDailiesBucketRefill s) := by
  unfold execDailiesBucketRefill
  repeat' first
      | with_reducible assumption
      | with_reducible exact id
      | (intro _; with_reducible rfl)
      | ((fail_if_success fail_if_success (conv => arg 3; arg 3)); with_reducible apply Apart.ite)
      | ((fail_if_success fail_if_success (conv => arg 3; arg 34)); with_reducible refine Apart.over ?_ rfl rfl ?_ ?_ ?_ ?_)
      | (extract_lets +onlyGivenNames z
         first
         | (refine Apart.cut (m := m) (r := r) (z := z) ?_ ?_; rotate_left; clear_value z; intro _; rotate_left; unfold z; clear z)
         | clear_value z
         | (unfold z; clear z))
      | with_reducible apply dailiesPut_apart
      | with_reducible apply raise_apart
      | with_reducible apply ApartO.next
      | with_reducible rfl

theorem execDailiesRead_apart {m : Bool} {r : State} (h0 : Hdr) (fromSeq toSeq types : Nat) (s : State) (h : Apart m r s) :
    ApartO m r (execDailiesRead h0 fromSeq toSeq types s) := by
  unfold execDailiesRead
  repeat' first
      | with_reducible assumption
      | with_reducible exact id
      | (intro _; with_reducible rfl)
      | intro _
      | ((fail_if_success fail_if_success (conv => arg 3; arg 34)); with_reducible refine Apart.over ?_ rfl rfl ?_ ?_ ?_ ?_)
      | with_reducible apply runCmd_apart
      | with_reducible apply refuse_apart
      | with_reducible apply startOp_apart
      | with_reducible apply ApartO.next
      | with_reducible rfl
      | split

theorem execDailiesRecordWrite_apart {m : Bool} {r : State} (s : State) (h : Apart m r s) : ApartO m r (execDailiesRecordWrite s) := by
  unfold execDailiesRecordWrite
  repeat' first
      | with_reducible assumption
      | with_reducible exact id
      | (intro _; with_reducible rfl)
      | ((fail_if_success fail_if_success (conv => arg 3; arg 3)); with_reducible apply Apart.ite)
      | ((fail_if_success fail_if_success (conv => arg 3; arg 34)); with_reducible refine Apart.over ?_ rfl rfl ?_ ?_ ?_ ?_)
      | (extract_lets +onlyGivenNames z
         first
         | (refine Apart.cut (m := m) (r := r) (z := z) ?_ ?_; rotate_left; clear_value z; intro _; rotate_left; unfold z; clear z)
         | clear_value z)
      | with_reducible apply completeOp_apart
      | with_reducible apply sendRecord_apart
      | with_reducible apply streamWrite_apart
      | with_reducible apply ApartO.next
      | with_reducible rfl
      | split

theorem execDailiesStatus_apart {m : Bool} {r : State} (h0 : Hdr) (s : State) (h : Apart m r s) : ApartO m r (execDailiesStatus h0 s) := by
  unfold execDailiesStatus
  repeat' first
      | with_reducible assumption
      | intro _
      | with_reducible apply runCmd_apart
      | with_reducible apply reply_apart
      | with_reducible apply ApartO.next

theorem execDailiesMark_apart {m : Bool} {r : State} (h0 : Hdr) (data : List Byte) (s : State) (h : Apart m r s) :
    ApartO m r (execDailiesMark h0 data s) := by
  unfold execDailiesMark
  repeat' first
      | with_reducible assumption
      | intro _
      | ((fail_if_success fail_if_success (conv => arg 3; arg 3)); with_reducible apply Apart.ite)
      | (extract_lets +onlyGivenNames z
         first
         | (refine Apart.cut (m := m) (r := r) (z := z) ?_ ?_; rotate_left; clear_value z; intro _; rotate_left; unfold z; clear z)
         | clear_value z)
      | with_reducible apply runCmd_apart
      | with_reducible apply refuse_apart
      | with_reducible apply dailiesPut_apart
      | with_reducible apply reply_apart
      | with_reducible apply ApartO.next

end Sys2Proof.Machine
end

