-- ==== Sys2Proof/Laws/ApartHostRows.lean ====
section
/-! SUPPORT. Each operation of Machine/HostRows keeps `Apart`. -/
set_option Elab.async false
set_option linter.unusedTactic false
namespace Sys2Proof.Machine

/-- Taking the next urgent request out of its queue keeps `Apart`. -/
theorem nextUrgent_apart {m : Bool} {r s t : State} {c x : Nat} (e : nextUrgent s = some (c, x, t)) (h : Apart m r s) : Apart m r t := by
  unfold nextUrgent at e
  split at e
  · cases e
    exact h.over rfl rfl id rfl id fun _ => rfl
  · obtain ⟨d, _, q⟩ := Option.map_eq_some_iff.1 e
    cases q
    exact State.updDie_apart _ h fun _ => rfl

theorem execSpiRead_apart {m : Bool} {r : State} (addr len hdrCrc clocks : Nat) (s : State) (h : Apart m r s) :
    ApartO m r (execSpiRead addr len hdrCrc clocks s) := by
  unfold execSpiRead
  repeat' first
      | with_reducible assumption
      | with_reducible apply spiReadT_apart
      | with_reducible apply ApartO.next

theorem execSpiWrite_apart {m : Bool} {r : State} (addr len hdrCrc : Nat) (data : List Byte) (dataCrc clocks : Nat) (s : State)
    (h : Apart m r s) : ApartO m r (execSpiWrite addr len hdrCrc data dataCrc clocks s) := by
  unfold execSpiWrite
  repeat' first
      | with_reducible assumption
      | with_reducible apply spiWriteT_apart
      | with_reducible apply ApartO.next

theorem execQuadRead_apart {m : Bool} {r : State} (addr len hdrCrc clocks : Nat) (s : State) (h : Apart m r s) :
    ApartO m r (execQuadRead addr len hdrCrc clocks s) := by
  unfold execQuadRead
  repeat' first
      | with_reducible assumption
      | with_reducible apply spiReadT_apart
      | with_reducible apply ApartO.next

theorem execQuadWrite_apart {m : Bool} {r : State} (addr len hdrCrc : Nat) (data : List Byte) (dataCrc clocks : Nat) (s : State)
    (h : Apart m r s) : ApartO m r (execQuadWrite addr len hdrCrc data dataCrc clocks s) := by
  unfold execQuadWrite
  repeat' first
      | with_reducible assumption
      | with_reducible apply spiWriteT_apart
      | with_reducible apply ApartO.next

theorem hostWrite_apart {m : Bool} {r : State} (s : State) (a : Nat) (data : List Byte) (h : Apart m r s) :
    Apart m r (hostWrite s a data) := by
  unfold hostWrite
  repeat' first
      | with_reducible assumption
      | ((fail_if_success fail_if_success (conv => arg 3; arg 3)); with_reducible apply Apart.ite)
      | (extract_lets +onlyGivenNames z
         first
         | (refine Apart.cut (m := m) (r := r) (z := z) ?_ ?_; rotate_left; clear_value z; intro _; rotate_left; unfold z; clear z)
         | clear_value z)
      | with_reducible apply beginTransaction_apart
      | with_reducible apply endTransaction_apart
      | with_reducible apply writeEffects_apart
      | with_reducible apply takeHeadRole_apart

theorem hostRead_apart {m : Bool} {r : State} (s : State) (a n : Nat) (h : Apart m r s) : Apart m r (hostRead s a n) := by
  unfold hostRead
  repeat' first
      | with_reducible assumption
      | with_reducible apply spiReadT_apart

theorem execRegisterWrite_apart {m : Bool} {r : State} (addr : Nat) (data : List Byte) (s : State) (h : Apart m r s) :
    ApartO m r (execRegisterWrite addr data s) := by
  unfold execRegisterWrite
  repeat' first
      | with_reducible assumption
      | with_reducible apply hostWrite_apart
      | with_reducible apply ApartO.next

theorem execDoorbellIn_apart {m : Bool} {r : State} (n : Nat) (s : State) (h : Apart m r s) : ApartO m r (execDoorbellIn n s) := by
  unfold execDoorbellIn
  repeat' first
      | with_reducible assumption
      | with_reducible apply hostWrite_apart
      | with_reducible apply ApartO.next

theorem execDoorbellOutack_apart {m : Bool} {r : State} (n : Nat) (s : State) (h : Apart m r s) : ApartO m r (execDoorbellOutack n s) := by
  unfold execDoorbellOutack
  repeat' first
      | with_reducible assumption
      | with_reducible apply hostWrite_apart
      | with_reducible apply ApartO.next

theorem execRawresCodeRead_apart {m : Bool} {r : State} (s : State) (h : Apart m r s) : ApartO m r (execRawresCodeRead s) := by
  unfold execRawresCodeRead
  repeat' first
      | with_reducible assumption
      | with_reducible apply hostRead_apart
      | with_reducible apply ApartO.next

theorem execRawresTagRead_apart {m : Bool} {r : State} (s : State) (h : Apart m r s) : ApartO m r (execRawresTagRead s) := by
  unfold execRawresTagRead
  repeat' first
      | with_reducible assumption
      | with_reducible apply hostRead_apart
      | with_reducible apply ApartO.next

theorem execRawResultArrival_apart {m : Bool} {r : State} (code input die sweep : Nat) (urg nbr ovr : Bool) (s : State) (h : Apart m r s) :
    ApartO m r (execRawResultArrival code input die sweep urg nbr ovr s) := by
  unfold execRawResultArrival
  repeat' first
      | with_reducible assumption
      | with_reducible exact id
      | (intro _; with_reducible rfl)
      | ((fail_if_success fail_if_success (conv => arg 3; arg 3)); with_reducible apply Apart.ite)
      | ((fail_if_success fail_if_success (conv => arg 3; arg 34)); with_reducible refine Apart.over ?_ rfl rfl ?_ ?_ ?_ ?_)
      | (extract_lets +onlyGivenNames z; clear_value z)
      | with_reducible apply rawArrive_apart
      | with_reducible apply ApartO.next
      | with_reducible rfl
      | split

theorem execUrggo_apart {m : Bool} {r : State} (s : State) (h : Apart m r s) : ApartO m r (execUrggo s) := by
  unfold execUrggo
  repeat' first
      | with_reducible assumption
      | with_reducible apply hostWrite_apart
      | with_reducible apply ApartO.next

theorem execUrgclr_apart {m : Bool} {r : State} (s : State) (h : Apart m r s) : ApartO m r (execUrgclr s) := by
  unfold execUrgclr
  repeat' first
      | with_reducible assumption
      | with_reducible apply hostWrite_apart
      | with_reducible apply ApartO.next

theorem urgArrive_apart {m : Bool} {r : State} (s : State) (d : SegDie) (input : Nat) (h : Apart m r s) :
    Apart m r (urgArrive s d input) := by
  unfold urgArrive
  repeat' first
      | with_reducible assumption
      | with_reducible exact id
      | (intro _; with_reducible rfl)
      | ((fail_if_success fail_if_success (conv => arg 3; arg 3)); with_reducible apply Apart.ite)
      | ((fail_if_success fail_if_success (conv => arg 3; arg 34)); with_reducible refine Apart.over ?_ rfl rfl ?_ ?_ ?_ ?_)
      | with_reducible apply urgDropped_apart
      | with_reducible apply State.updDie_apart
      | with_reducible rfl

theorem execUrgentRequestArrival_apart {m : Bool} {r : State} (die : Nat) (s : State) (h : Apart m r s) :
    ApartO m r (execUrgentRequestArrival die s) := by
  unfold execUrgentRequestArrival
  repeat' first
      | with_reducible assumption
      | with_reducible exact id
      | (intro _; with_reducible rfl)
      | ((fail_if_success fail_if_success (conv => arg 3; arg 3)); with_reducible apply Apart.ite)
      | ((fail_if_success fail_if_success (conv => arg 3; arg 34)); with_reducible refine Apart.over ?_ rfl rfl ?_ ?_ ?_ ?_)
      | (extract_lets +onlyGivenNames z
         first
         | (refine Apart.cut (m := m) (r := r) (z := z) ?_ ?_; rotate_left; clear_value z; intro _; rotate_left; unfold z; clear z)
         | clear_value z)
      | with_reducible apply urgArrive_apart
      | with_reducible apply urgDropped_apart
      | with_reducible apply ApartO.next
      | with_reducible rfl
      | split

theorem execUrgentConversion_apart {m : Bool} {r : State} (microvolts : Int) (s : State) (h : Apart m r s) :
    ApartO m r (execUrgentConversion microvolts s) := by
  unfold execUrgentConversion
  repeat' first
      | with_reducible assumption
      | (intro _; with_reducible rfl)
      | ((fail_if_success fail_if_success (conv => arg 3; arg 3)); with_reducible apply Apart.ite)
      | (extract_lets +onlyGivenNames z
         first
         | (refine Apart.cut (m := m) (r := r) (z := z) ?_ ?_; rotate_left; clear_value z; intro _; rotate_left; unfold z; clear z)
         | clear_value z)
      | with_reducible apply rawArrive_apart
      | with_reducible apply noteGate_apart
      | with_reducible apply State.updDie_apart
      | with_reducible apply ApartO.next
      | split
      | exact nextUrgent_apart ‹_› ‹_›

theorem execWdaWrite_apart {m : Bool} {r : State} (token : Nat) (whole : Bool) (s : State) (h : Apart m r s) :
    ApartO m r (execWdaWrite token whole s) := by
  unfold execWdaWrite
  repeat' first
      | with_reducible assumption
      | with_reducible apply hostWrite_apart
      | with_reducible apply ApartO.next

theorem execWdTimeout_apart {m : Bool} {r : State} (s : State) (h : Apart m r s) : ApartO m r (execWdTimeout s) := by
  unfold execWdTimeout
  repeat' first
      | with_reducible assumption
      | ((fail_if_success fail_if_success (conv => arg 3; arg 3)); with_reducible apply Apart.ite)
      | with_reducible apply wdExpire_apart
      | with_reducible apply ApartO.next

theorem execAbortWrite_apart {m : Bool} {r : State} (word : Nat) (s : State) (h : Apart m r s) : ApartO m r (execAbortWrite word s) := by
  unfold execAbortWrite
  repeat' first
      | with_reducible assumption
      | with_reducible apply hostWrite_apart
      | with_reducible apply ApartO.next

theorem execStrrdWrite_apart {m : Bool} {r : State} (value : Nat) (s : State) (h : Apart m r s) : ApartO m r (execStrrdWrite value s) := by
  unfold execStrrdWrite
  repeat' first
      | with_reducible assumption
      | with_reducible apply hostWrite_apart
      | with_reducible apply ApartO.next

theorem execSwrstWrite_apart {m : Bool} {r : State} (value : Nat) (s : State) (h : Apart m r s) : ApartO m r (execSwrstWrite value s) := by
  unfold execSwrstWrite
  repeat' first
      | with_reducible assumption
      | with_reducible apply hostWrite_apart
      | with_reducible apply ApartO.next

theorem execRstnAssert_apart {m : Bool} {r : State} (s : State) (h : Apart m r s) : ApartO m r (execRstnAssert s) := by
  unfold execRstnAssert
  repeat' first
      | with_reducible assumption
      | with_reducible exact id
      | (intro _; with_reducible rfl)
      | ((fail_if_success fail_if_success (conv => arg 3; arg 3)); with_reducible apply Apart.ite)
      | ((fail_if_success fail_if_success (conv => arg 3; arg 34)); with_reducible refine Apart.over ?_ rfl rfl ?_ ?_ ?_ ?_)
      | (extract_lets +onlyGivenNames z
         first
         | (refine Apart.cut (m := m) (r := r) (z := z) ?_ ?_; rotate_left; clear_value z; intro _; rotate_left; unfold z; clear z)
         | clear_value z)
      | with_reducible apply partReset_apart
      | with_reducible apply ApartO.next
      | with_reducible rfl

theorem execRstnRelease_apart {m : Bool} {r : State} (s : State) (h : Apart m r s) : ApartO m r (execRstnRelease s) := by
  unfold execRstnRelease
  repeat' first
      | with_reducible assumption
      | with_reducible exact id
      | (intro _; with_reducible rfl)
      | ((fail_if_success fail_if_success (conv => arg 3; arg 3)); with_reducible apply Apart.ite)
      | ((fail_if_success fail_if_success (conv => arg 3; arg 34)); with_reducible refine Apart.over ?_ rfl rfl ?_ ?_ ?_ ?_)
      | (extract_lets +onlyGivenNames z; clear_value z)
      | with_reducible apply ApartO.next
      | with_reducible rfl

theorem execRstnStuck_apart {m : Bool} {r : State} (s : State) (h : Apart m r s) : ApartO m r (execRstnStuck s) := by
  unfold execRstnStuck
  repeat' first
      | with_reducible assumption
      | with_reducible exact id
      | (intro _; with_reducible rfl)
      | ((fail_if_success fail_if_success (conv => arg 3; arg 3)); with_reducible apply Apart.ite)
      | ((fail_if_success fail_if_success (conv => arg 3; arg 34)); with_reducible refine Apart.over ?_ rfl rfl ?_ ?_ ?_ ?_)
      | (extract_lets +onlyGivenNames z; clear_value z)
      | with_reducible apply raise_apart
      | with_reducible apply State.setHpErr_apart
      | with_reducible apply ApartO.next
      | with_reducible rfl

theorem execRstnIgnoreEnd_apart {m : Bool} {r : State} (s : State) (h : Apart m r s) : ApartO m r (execRstnIgnoreEnd s) := by
  unfold execRstnIgnoreEnd
  repeat' first
      | with_reducible assumption
      | with_reducible exact id
      | (intro _; with_reducible rfl)
      | ((fail_if_success fail_if_success (conv => arg 3; arg 3)); with_reducible apply Apart.ite)
      | ((fail_if_success fail_if_success (conv => arg 3; arg 34)); with_reducible refine Apart.over ?_ rfl rfl ?_ ?_ ?_ ?_)
      | (extract_lets +onlyGivenNames z; clear_value z)
      | with_reducible apply ApartO.next
      | with_reducible rfl

end Sys2Proof.Machine
end

