-- ==== Sys2Proof/Laws/ApartImpRows.lean ====
section
/-! SUPPORT. Each operation of Machine/ImpRows keeps `Apart`. -/
set_option Elab.async false
set_option linter.unusedTactic false
namespace Sys2Proof.Machine

theorem execDefineSession_apart {m : Bool} {r : State} (h0 : Hdr) (source settle nblocks auxdie auxin iamp imin cells : Nat)
    (freqs : List Nat) (s : State) (h : Apart m r s) :
    ApartO m r (execDefineSession h0 source settle nblocks auxdie auxin iamp imin cells freqs s) := by
  unfold execDefineSession
  repeat' first
      | with_reducible assumption
      | with_reducible exact id
      | (intro _; with_reducible rfl)
      | intro _
      | ((fail_if_success fail_if_success (conv => arg 3; arg 3)); with_reducible apply Apart.ite)
      | ((fail_if_success fail_if_success (conv => arg 3; arg 34)); with_reducible refine Apart.over ?_ rfl rfl ?_ ?_ ?_ ?_)
      | (extract_lets +onlyGivenNames z; clear_value z)
      | with_reducible apply runCmd_apart
      | with_reducible apply refuse_apart
      | with_reducible apply reply_apart
      | with_reducible apply ApartO.next
      | with_reducible rfl

theorem startModulate_apart {m : Bool} {r : State} (s : State) (d : SegDie) (j cell freq iamp t0 : Nat) (h7 : Option Hdr) (endAt : Tick)
    (h : Apart m r s) : Apart m r (startModulate s d j cell freq iamp t0 h7 endAt) := by
  unfold startModulate
  repeat' first
      | with_reducible assumption
      | ((fail_if_success fail_if_success (conv => arg 3; arg 3)); with_reducible apply Apart.ite)
      | (extract_lets +onlyGivenNames z
         first
         | (refine Apart.cut (m := m) (r := r) (z := z) ?_ ?_; rotate_left; clear_value z; intro _; rotate_left; unfold z; clear z)
         | clear_value z)
      | with_reducible apply startTransfer_apart
      | with_reducible apply raise_apart

theorem roundGroup_apart {m : Bool} {r : State} (f : ImpDef) (point die : Nat) (s : State) (j : Nat) (h : Apart m r s) :
    Apart m r (roundGroup f point die s j) := by
  unfold roundGroup
  repeat' first
      | with_reducible assumption
      | ((fail_if_success fail_if_success (conv => arg 3; arg 3)); with_reducible apply Apart.ite)
      | (extract_lets +onlyGivenNames z; refine Apart.cut (m := m) (r := r) (z := z) ?_ ?_; rotate_left; clear_value z; intro _; rotate_left; unfold z; clear z)
      | with_reducible apply endFree_apart
      | with_reducible apply startModulate_apart
      | split

theorem retune_apart {m : Bool} {r : State} (s : State) (freq : Nat) (h : Apart m r s) : Apart m r (retune s freq) := by
  unfold retune
  repeat' first
      | with_reducible assumption
      | with_reducible exact id
      | (intro _; with_reducible rfl)
      | ((fail_if_success fail_if_success (conv => arg 3; arg 34)); with_reducible refine Apart.over ?_ rfl rfl ?_ ?_ ?_ ?_)
      | with_reducible apply codes_map

theorem startPoint_apart {m : Bool} {r : State} (s : State) (f : ImpDef) (r2 : ImpRun) (point : Nat) (fresh : Bool) (h : Apart m r s) :
    Apart m r (startPoint s f r2 point fresh) := by
  unfold startPoint
  repeat' first
      | with_reducible assumption
      | with_reducible exact id
      | (intro _; with_reducible rfl)
      | intro _
      | ((fail_if_success fail_if_success (conv => arg 3; arg 3)); with_reducible apply Apart.ite)
      | ((fail_if_success fail_if_success (conv => arg 3; arg 34)); with_reducible refine Apart.over ?_ rfl rfl ?_ ?_ ?_ ?_)
      | (extract_lets +onlyGivenNames z
         first
         | (refine Apart.cut (m := m) (r := r) (z := z) ?_ ?_; rotate_left; clear_value z; intro _; rotate_left; unfold z; clear z)
         | clear_value z)
      | with_reducible apply roundGroup_apart
      | with_reducible apply stopWhere_apart
      | with_reducible apply retune_apart
      | with_reducible apply Apart.foldl
      | with_reducible rfl

theorem execStartSession_apart {m : Bool} {r : State} (h0 : Hdr) (fromPoint : Nat) (s : State) (h : Apart m r s) :
    ApartO m r (execStartSession h0 fromPoint s) := by
  unfold execStartSession
  repeat' first
      | with_reducible assumption
      | intro _
      | ((fail_if_success fail_if_success (conv => arg 3; arg 3)); with_reducible apply Apart.ite)
      | with_reducible apply runCmd_apart
      | with_reducible apply refuse_apart
      | with_reducible apply startOp_apart
      | with_reducible apply startPoint_apart
      | with_reducible apply ApartO.next
      | split

theorem execGetSessionStatus_apart {m : Bool} {r : State} (h0 : Hdr) (s : State) (h : Apart m r s) :
    ApartO m r (execGetSessionStatus h0 s) := by
  unfold execGetSessionStatus
  repeat' first
      | with_reducible assumption
      | intro _
      | (extract_lets +onlyGivenNames z; clear_value z)
      | with_reducible apply runCmd_apart
      | with_reducible apply reply_apart
      | with_reducible apply ApartO.next
      | split

theorem execReadPoints_apart {m : Bool} {r : State} (h0 : Hdr) (fromPoint toPoint : Nat) (s : State) (h : Apart m r s) :
    ApartO m r (execReadPoints h0 fromPoint toPoint s) := by
  unfold execReadPoints
  repeat' first
      | with_reducible assumption
      | with_reducible exact id
      | (intro _; with_reducible rfl)
      | intro _
      | ((fail_if_success fail_if_success (conv => arg 3; arg 3)); with_reducible apply Apart.ite)
      | ((fail_if_success fail_if_success (conv => arg 3; arg 34)); with_reducible refine Apart.over ?_ rfl rfl ?_ ?_ ?_ ?_)
      | (extract_lets +onlyGivenNames z; clear_value z)
      | with_reducible apply runCmd_apart
      | with_reducible apply refuse_apart
      | with_reducible apply startOp_apart
      | with_reducible apply completeOp_apart
      | with_reducible apply ApartO.next
      | with_reducible rfl
      | split

theorem execPointReadbackWrite_apart {m : Bool} {r : State} (s : State) (h : Apart m r s) : ApartO m r (execPointReadbackWrite s) := by
  unfold execPointReadbackWrite
  repeat' first
      | with_reducible assumption
      | with_reducible exact id
      | (intro _; with_reducible rfl)
      | ((fail_if_success fail_if_success (conv => arg 3; arg 3)); with_reducible apply Apart.ite)
      | ((fail_if_success fail_if_success (conv => arg 3; arg 34)); with_reducible refine Apart.over ?_ rfl rfl ?_ ?_ ?_ ?_)
      | (extract_lets +onlyGivenNames z
         first
         | (refine Apart.cut (m := m) (r := r) (z := z) ?_ ?_; rotate_left; clear_value z; intro _; rotate_left; unfold z; clear z)
         | clear_value z)
      | with_reducible apply sendRecord_apart
      | with_reducible apply endRun_apart
      | with_reducible apply streamWrite_apart
      | with_reducible apply completeOp_apart
      | with_reducible apply ApartO.next
      | with_reducible rfl
      | split

theorem execSetTempCoeffs_apart {m : Bool} {r : State} (h0 : Hdr) (ft first : Nat) (coeffs : List TempCoeff) (s : State) (h : Apart m r s) :
    ApartO m r (execSetTempCoeffs h0 ft first coeffs s) := by
  unfold execSetTempCoeffs
  repeat' first
      | with_reducible assumption
      | with_reducible exact id
      | (intro _; with_reducible rfl)
      | intro _
      | ((fail_if_success fail_if_success (conv => arg 3; arg 3)); with_reducible apply Apart.ite)
      | ((fail_if_success fail_if_success (conv => arg 3; arg 34)); with_reducible refine Apart.over ?_ rfl rfl ?_ ?_ ?_ ?_)
      | (extract_lets +onlyGivenNames z; clear_value z)
      | with_reducible apply runCmd_apart
      | with_reducible apply refuse_apart
      | with_reducible apply reply_apart
      | with_reducible apply ApartO.next
      | with_reducible rfl

theorem execSetImpedanceMode_apart {m : Bool} {r : State} (h0 : Hdr) (mode : Nat) (s : State) (h : Apart m r s) :
    ApartO m r (execSetImpedanceMode h0 mode s) := by
  unfold execSetImpedanceMode
  repeat' first
      | with_reducible assumption
      | intro _
      | ((fail_if_success fail_if_success (conv => arg 3; arg 3)); with_reducible apply Apart.ite)
      | with_reducible apply runCmd_apart
      | with_reducible apply refuse_apart
      | with_reducible apply switchCmd_apart
      | with_reducible apply ApartO.next

theorem execModulateOrder_apart {m : Bool} {r : State} (h0 : Hdr) (die dolly cell freq iamp t0 duration : Nat) (s : State) (h : Apart m r s) :
    ApartO m r (execModulateOrder h0 die dolly cell freq iamp t0 duration s) := by
  unfold execModulateOrder
  repeat' first
      | with_reducible assumption
      | with_reducible exact id
      | (intro _; with_reducible rfl)
      | intro _
      | ((fail_if_success fail_if_success (conv => arg 3; arg 3)); with_reducible apply Apart.ite)
      | ((fail_if_success fail_if_success (conv => arg 3; arg 34)); with_reducible refine Apart.over ?_ rfl rfl ?_ ?_ ?_ ?_)
      | (extract_lets +onlyGivenNames z
         first
         | (refine Apart.cut (m := m) (r := r) (z := z) ?_ ?_; rotate_left; clear_value z; intro _; rotate_left; unfold z; clear z)
         | clear_value z)
      | with_reducible apply runCmd_apart
      | with_reducible apply refuse_apart
      | with_reducible apply startOp_apart
      | with_reducible apply startModulate_apart
      | with_reducible apply ApartO.next
      | with_reducible rfl
      | split

theorem execModulateOrderEnd_apart {m : Bool} {r : State} (die dolly measured : Nat) (phase : Int) (s : State) (h : Apart m r s) :
    ApartO m r (execModulateOrderEnd die dolly measured phase s) := by
  unfold execModulateOrderEnd
  repeat' first
      | with_reducible assumption
      | with_reducible exact id
      | (intro _; with_reducible rfl)
      | intro _
      | ((fail_if_success fail_if_success (conv => arg 3; arg 3)); with_reducible apply Apart.ite)
      | ((fail_if_success fail_if_success (conv => arg 3; arg 34)); with_reducible refine Apart.over ?_ rfl rfl ?_ ?_ ?_ ?_)
      | (extract_lets +onlyGivenNames z
         first
         | (refine Apart.cut (m := m) (r := r) (z := z) ?_ ?_; rotate_left; clear_value z; intro _; rotate_left; unfold z; clear z)
         | clear_value z)
      | with_reducible apply stopWhere_apart
      | with_reducible apply completeOp_apart
      | with_reducible apply Apart.onDie
      | with_reducible rfl
      | split

theorem storePoint_apart {m : Bool} {r : State} (f : ImpDef) (point : Nat) (s : State) (x : PointDie) (h : Apart m r s) :
    Apart m r (storePoint f point s x) := by
  unfold storePoint
  repeat' first
      | with_reducible assumption
      | with_reducible exact id
      | (intro _; with_reducible rfl)
      | intro _
      | ((fail_if_success fail_if_success (conv => arg 3; arg 34)); with_reducible refine Apart.over ?_ rfl rfl ?_ ?_ ?_ ?_)
      | (extract_lets +onlyGivenNames z
         first
         | (refine Apart.cut (m := m) (r := r) (z := z) ?_ ?_; rotate_left; clear_value z; intro _; rotate_left; unfold z; clear z)
         | clear_value z)
      | with_reducible apply raise_apart
      | with_reducible apply sendRecord_apart
      | with_reducible apply streamRec_apart
      | with_reducible apply Apart.foldl
      | with_reducible rfl
      | split

theorem storeReady_apart {m : Bool} {r : State} (s : State) (f : ImpDef) (r2 : ImpRun) (all : Bool) (h : Apart m r s) :
    Apart m r (storeReady s f r2 all).1 := by
  unfold storeReady
  repeat' first
      | with_reducible assumption
      | intro _
      | (extract_lets +onlyGivenNames z; clear_value z)
      | with_reducible apply storePoint_apart
      | with_reducible apply Apart.foldl

theorem completePoint_apart {m : Bool} {r : State} (s : State) (f : ImpDef) (r2 : ImpRun) (h : Apart m r s) :
    Apart m r (completePoint s f r2) := by
  unfold completePoint
  repeat' first
      | with_reducible assumption
      | with_reducible exact id
      | (intro _; with_reducible rfl)
      | ((fail_if_success fail_if_success (conv => arg 3; arg 3)); with_reducible apply Apart.ite)
      | ((fail_if_success fail_if_success (conv => arg 3; arg 34)); with_reducible refine Apart.over ?_ rfl rfl ?_ ?_ ?_ ?_)
      | (extract_lets +onlyGivenNames z
         first
         | (refine Apart.cut (m := m) (r := r) (z := z) ?_ ?_; rotate_left; clear_value z; intro _; rotate_left; unfold z; clear z)
         | (refine Apart.cut_fst (m := m) (r := r) (z := z) ?_ ?_; rotate_left; clear_value z; intro _; rotate_left; unfold z; clear z)
         | clear_value z)
      | with_reducible apply storeReady_apart
      | with_reducible apply raise_apart
      | with_reducible apply startPoint_apart
      | with_reducible apply endSession_apart
      | with_reducible rfl

theorem execLockinBlock_apart {m : Bool} {r : State} (senses : List SenseRun) (s : State) (h : Apart m r s) :
    ApartO m r (execLockinBlock senses s) := by
  unfold execLockinBlock
  repeat' first
      | with_reducible assumption
      | with_reducible exact id
      | (intro _; with_reducible rfl)
      | ((fail_if_success fail_if_success (conv => arg 3; arg 3)); with_reducible apply Apart.ite)
      | ((fail_if_success fail_if_success (conv => arg 3; arg 34)); with_reducible refine Apart.over ?_ rfl rfl ?_ ?_ ?_ ?_)
      | (extract_lets +onlyGivenNames z
         first
         | (refine Apart.cut (m := m) (r := r) (z := z) ?_ ?_; rotate_left; clear_value z; intro _; rotate_left; unfold z; clear z)
         | (refine Apart.cut_fst (m := m) (r := r) (z := z) ?_ ?_; rotate_left; clear_value z; intro _; rotate_left; unfold z; clear z)
         | clear_value z)
      | with_reducible apply checkRef_apart
      | with_reducible apply endSession_apart
      | with_reducible apply storeReady_apart
      | with_reducible apply completePoint_apart
      | with_reducible apply ApartO.next
      | with_reducible rfl
      | split

end Sys2Proof.Machine
end

