-- ==== Sys2Proof/Laws/ApartLinkRows.lean ====
section
/-! SUPPORT. Each operation of Machine/LinkRows keeps `Apart`. -/
set_option Elab.async false
set_option linter.unusedTactic false
namespace Sys2Proof.Machine

theorem execEnumerate_apart {m : Bool} {r : State} (h0 : Hdr) (expect : Nat) (s : State) (h : Apart m r s) :
    ApartO m r (execEnumerate h0 expect s) := by
  unfold execEnumerate
  repeat' first
      | with_reducible assumption
      | with_reducible exact id
      | (intro _; with_reducible rfl)
      | intro _
      | ((fail_if_success fail_if_success (conv => arg 3; arg 3)); with_reducible apply Apart.ite)
      | ((fail_if_success fail_if_success (conv => arg 3; arg 34)); with_reducible refine Apart.over ?_ rfl rfl ?_ ?_ ?_ ?_)
      | (extract_lets +onlyGivenNames z
         first
         | (refine Apart.cut (m := m) (r := r) (z := z) ?_ ?_; rotate_left; clear_value z; intro _; rotate_left; unfold z; clear z)
         | clear_value z)
      | with_reducible apply runCmd_apart
      | with_reducible apply refuse_apart
      | with_reducible apply startOp_apart
      | with_reducible apply stepFrameSeq_apart
      | with_reducible apply emitCopy_apart
      | with_reducible apply ApartO.next
      | with_reducible rfl

theorem execEnumerationTimeout_apart {m : Bool} {r : State} (s : State) (h : Apart m r s) : ApartO m r (execEnumerationTimeout s) := by
  unfold execEnumerationTimeout
  repeat' first
      | with_reducible assumption
      | with_reducible exact id
      | (intro _; with_reducible rfl)
      | ((fail_if_success fail_if_success (conv => arg 3; arg 3)); with_reducible apply Apart.ite)
      | ((fail_if_success fail_if_success (conv => arg 3; arg 34)); with_reducible refine Apart.over ?_ rfl rfl ?_ ?_ ?_ ?_)
      | (extract_lets +onlyGivenNames z; clear_value z)
      | with_reducible apply completeOp_apart
      | with_reducible apply ApartO.next
      | with_reducible rfl
      | split

theorem execGetChainMap_apart {m : Bool} {r : State} (h0 : Hdr) (first n : Nat) (s : State) (h : Apart m r s) :
    ApartO m r (execGetChainMap h0 first n s) := by
  unfold execGetChainMap
  repeat' first
      | with_reducible assumption
      | intro _
      | ((fail_if_success fail_if_success (conv => arg 3; arg 3)); with_reducible apply Apart.ite)
      | with_reducible apply runCmd_apart
      | with_reducible apply refuse_apart
      | with_reducible apply reply_apart
      | with_reducible apply ApartO.next

theorem execGetLinkStatus_apart {m : Bool} {r : State} (h0 : Hdr) (s : State) (h : Apart m r s) : ApartO m r (execGetLinkStatus h0 s) := by
  unfold execGetLinkStatus
  repeat' first
      | with_reducible assumption
      | intro _
      | (extract_lets +onlyGivenNames z; clear_value z)
      | with_reducible apply runCmd_apart
      | with_reducible apply State.draw_apart
      | with_reducible apply reply_apart
      | with_reducible apply ApartO.next

theorem execSetTimebase_apart {m : Bool} {r : State} (h0 : Hdr) (ref freq : Nat) (s : State) (h : Apart m r s) :
    ApartO m r (execSetTimebase h0 ref freq s) := by
  unfold execSetTimebase
  repeat' first
      | with_reducible assumption
      | with_reducible exact id
      | (intro _; with_reducible rfl)
      | intro _
      | ((fail_if_success fail_if_success (conv => arg 3; arg 3)); with_reducible apply Apart.ite)
      | ((fail_if_success fail_if_success (conv => arg 3; arg 34)); with_reducible refine Apart.over ?_ rfl rfl ?_ ?_ ?_ ?_)
      | with_reducible apply runCmd_apart
      | with_reducible apply refuse_apart
      | with_reducible apply startOp_apart
      | with_reducible apply ApartO.next
      | with_reducible rfl

theorem execSetPlacement_apart {m : Bool} {r : State} (h0 : Hdr) (cls pin : Nat) (s : State) (h : Apart m r s) :
    ApartO m r (execSetPlacement h0 cls pin s) := by
  unfold execSetPlacement
  repeat' first
      | with_reducible assumption
      | with_reducible exact id
      | (intro _; with_reducible rfl)
      | intro _
      | ((fail_if_success fail_if_success (conv => arg 3; arg 3)); with_reducible apply Apart.ite)
      | ((fail_if_success fail_if_success (conv => arg 3; arg 34)); with_reducible refine Apart.over ?_ rfl rfl ?_ ?_ ?_ ?_)
      | (extract_lets +onlyGivenNames z; clear_value z)
      | with_reducible apply runCmd_apart
      | with_reducible apply refuse_apart
      | with_reducible apply reply_apart
      | with_reducible apply ApartO.next
      | with_reducible rfl

theorem execSetRadio_apart {m : Bool} {r : State} (h0 : Hdr) (enable : Nat) (txpwr : Int) (chmask : Nat) (s : State) (h : Apart m r s) :
    ApartO m r (execSetRadio h0 enable txpwr chmask s) := by
  unfold execSetRadio
  repeat' first
      | with_reducible assumption
      | with_reducible exact id
      | (intro _; with_reducible rfl)
      | intro _
      | ((fail_if_success fail_if_success (conv => arg 3; arg 3)); with_reducible apply Apart.ite)
      | ((fail_if_success fail_if_success (conv => arg 3; arg 34)); with_reducible refine Apart.over ?_ rfl rfl ?_ ?_ ?_ ?_)
      | (extract_lets +onlyGivenNames z; clear_value z)
      | with_reducible apply runCmd_apart
      | with_reducible apply refuse_apart
      | with_reducible apply reply_apart
      | with_reducible apply ApartO.next
      | with_reducible rfl

theorem execRadioRekey_apart {m : Bool} {r : State} (h0 : Hdr) (s : State) (h : Apart m r s) : ApartO m r (execRadioRekey h0 s) := by
  unfold execRadioRekey
  repeat' first
      | with_reducible assumption
      | intro _
      | ((fail_if_success fail_if_success (conv => arg 3; arg 3)); with_reducible apply Apart.ite)
      | (extract_lets +onlyGivenNames z; refine Apart.cut (m := m) (r := r) (z := z) ?_ ?_; rotate_left; clear_value z; intro _; rotate_left; unfold z; clear z)
      | with_reducible apply runCmd_apart
      | with_reducible apply refuse_apart
      | with_reducible apply startOp_apart
      | with_reducible apply newKey_apart
      | with_reducible apply completeOp_apart
      | with_reducible apply ApartO.next

theorem execSetService_apart {m : Bool} {r : State} (h0 : Hdr) (op dieMask : Nat) (s : State) (h : Apart m r s) :
    ApartO m r (execSetService h0 op dieMask s) := by
  unfold execSetService
  repeat' first
      | with_reducible assumption
      | with_reducible exact id
      | (intro _; with_reducible rfl)
      | intro _
      | ((fail_if_success fail_if_success (conv => arg 3; arg 3)); with_reducible apply Apart.ite)
      | ((fail_if_success fail_if_success (conv => arg 3; arg 34)); with_reducible refine Apart.over ?_ rfl rfl ?_ ?_ ?_ ?_)
      | with_reducible apply runCmd_apart
      | with_reducible apply refuse_apart
      | with_reducible apply startOp_apart
      | with_reducible apply ApartO.next
      | with_reducible rfl

theorem execGetRadioStatus_apart {m : Bool} {r : State} (h0 : Hdr) (first n : Nat) (s : State) (h : Apart m r s) :
    ApartO m r (execGetRadioStatus h0 first n s) := by
  unfold execGetRadioStatus
  repeat' first
      | with_reducible assumption
      | intro _
      | ((fail_if_success fail_if_success (conv => arg 3; arg 3)); with_reducible apply Apart.ite)
      | with_reducible apply runCmd_apart
      | with_reducible apply refuse_apart
      | with_reducible apply reply_apart
      | with_reducible apply ApartO.next

theorem execNotLocked_apart {m : Bool} {r : State} (s : State) (h : Apart m r s) : ApartO m r (execNotLocked s) := by
  unfold execNotLocked
  repeat' first
      | with_reducible assumption
      | with_reducible exact id
      | (intro _; with_reducible rfl)
      | intro _
      | ((fail_if_success fail_if_success (conv => arg 3; arg 3)); with_reducible apply Apart.ite)
      | ((fail_if_success fail_if_success (conv => arg 3; arg 34)); with_reducible refine Apart.over ?_ rfl rfl ?_ ?_ ?_ ?_)
      | (extract_lets +onlyGivenNames z; clear_value z)
      | with_reducible apply completeOp_apart
      | with_reducible apply ApartO.next
      | with_reducible apply Apart.foldl
      | with_reducible rfl

theorem execClapperEvent_apart {m : Bool} {r : State} (die : Nat) (s : State) (h : Apart m r s) : ApartO m r (execClapperEvent die s) := by
  unfold execClapperEvent
  repeat' first
      | with_reducible assumption
      | (intro _; with_reducible rfl)
      | intro _
      | ((fail_if_success fail_if_success (conv => arg 3; arg 3)); with_reducible apply Apart.ite)
      | with_reducible apply State.updDie_apart
      | with_reducible apply Apart.onDie
      | split

theorem execRingPackTime_apart {m : Bool} {r : State} (die : Nat) (good : Bool) (s : State) (h : Apart m r s) :
    ApartO m r (execRingPackTime die good s) := by
  unfold execRingPackTime
  repeat' first
      | with_reducible assumption
      | (intro _; with_reducible rfl)
      | intro _
      | ((fail_if_success fail_if_success (conv => arg 3; arg 3)); with_reducible apply Apart.ite)
      | with_reducible apply ringFailure_apart
      | with_reducible apply State.updDie_apart
      | with_reducible apply Apart.onDie

theorem alignNow_apart {m : Bool} {r : State} (s : State) (h : Apart m r s) : Apart m r (alignNow s) := by
  unfold alignNow
  repeat' first
      | with_reducible assumption
      | with_reducible exact id
      | (intro _; with_reducible rfl)
      | ((fail_if_success fail_if_success (conv => arg 3; arg 3)); with_reducible apply Apart.ite)
      | ((fail_if_success fail_if_success (conv => arg 3; arg 34)); with_reducible refine Apart.over ?_ rfl rfl ?_ ?_ ?_ ?_)
      | with_reducible apply codes_map

theorem execRingCurrentSample_apart {m : Bool} {r : State} (time : Nat) (current : Int) (good : Bool) (s : State) (h : Apart m r s) :
    ApartO m r (execRingCurrentSample time current good s) := by
  unfold execRingCurrentSample
  repeat' first
      | with_reducible assumption
      | with_reducible exact id
      | (intro _; with_reducible rfl)
      | ((fail_if_success fail_if_success (conv => arg 3; arg 3)); with_reducible apply Apart.ite)
      | ((fail_if_success fail_if_success (conv => arg 3; arg 34)); with_reducible refine Apart.over ?_ rfl rfl ?_ ?_ ?_ ?_)
      | (extract_lets +onlyGivenNames z; clear_value z)
      | with_reducible apply ringFailure_apart
      | with_reducible apply alignNow_apart
      | with_reducible apply ApartO.next
      | with_reducible rfl

theorem giveUp_apart {m : Bool} {r : State} (s : State) (die : Nat) (h : Apart m r s) : Apart m r (giveUp s die) := by
  unfold giveUp
  repeat' first
      | with_reducible assumption
      | with_reducible exact id
      | (intro _; with_reducible rfl)
      | ((fail_if_success fail_if_success (conv => arg 3; arg 34)); with_reducible refine Apart.over ?_ rfl rfl ?_ ?_ ?_ ?_)
      | (extract_lets +onlyGivenNames z; clear_value z)
      | with_reducible apply completeOp_apart
      | with_reducible rfl
      | split

theorem execRingConfigurationMessage_apart {m : Bool} {r : State} (die : Nat) (good : Bool) (s : State) (h : Apart m r s) :
    ApartO m r (execRingConfigurationMessage die good s) := by
  unfold execRingConfigurationMessage
  repeat' first
      | with_reducible assumption
      | with_reducible exact id
      | (intro _; with_reducible rfl)
      | intro _
      | ((fail_if_success fail_if_success (conv => arg 3; arg 3)); with_reducible apply Apart.ite)
      | ((fail_if_success fail_if_success (conv => arg 3; arg 34)); with_reducible refine Apart.over ?_ rfl rfl ?_ ?_ ?_ ?_)
      | (extract_lets +onlyGivenNames z
         first
         | (refine Apart.cut (m := m) (r := r) (z := z) ?_ ?_; rotate_left; clear_value z; intro _; rotate_left; unfold z; clear z)
         | clear_value z)
      | with_reducible apply useInject_apart
      | with_reducible apply settle_apart
      | with_reducible apply collect_apart
      | with_reducible apply giveUp_apart
      | with_reducible apply State.updDie_apart
      | with_reducible apply Apart.onDie
      | with_reducible rfl

theorem execStatusWord_apart {m : Bool} {r : State} (die : Nat) (good inputLost : Bool) (s : State) (h : Apart m r s) :
    ApartO m r (execStatusWord die good inputLost s) := by
  unfold execStatusWord
  repeat' first
      | with_reducible assumption
      | with_reducible exact id
      | (intro _; with_reducible rfl)
      | intro _
      | ((fail_if_success fail_if_success (conv => arg 3; arg 3)); with_reducible apply Apart.ite)
      | ((fail_if_success fail_if_success (conv => arg 3; arg 34)); with_reducible refine Apart.over ?_ rfl rfl ?_ ?_ ?_ ?_)
      | (extract_lets +onlyGivenNames z
         first
         | (refine Apart.cut (m := m) (r := r) (z := z) ?_ ?_; rotate_left; clear_value z; intro _; rotate_left; unfold z; clear z)
         | clear_value z)
      | with_reducible apply ringFailure_apart
      | with_reducible apply State.updDie_apart
      | with_reducible apply Apart.onDie
      | with_reducible rfl

theorem execRingInputLost_apart {m : Bool} {r : State} (die : Nat) (s : State) (h : Apart m r s) :
    ApartO m r (execRingInputLost die s) := by
  unfold execRingInputLost
  repeat' first
      | with_reducible assumption
      | (intro _; with_reducible rfl)
      | intro _
      | with_reducible apply State.updDie_apart
      | with_reducible apply Apart.onDie

theorem execRingInputReturn_apart {m : Bool} {r : State} (die : Nat) (s : State) (h : Apart m r s) :
    ApartO m r (execRingInputReturn die s) := by
  unfold execRingInputReturn
  repeat' first
      | with_reducible assumption
      | (intro _; with_reducible rfl)
      | intro _
      | with_reducible apply State.updDie_apart
      | with_reducible apply Apart.onDie

theorem execRingLoss_apart {m : Bool} {r : State} (s : State) (h : Apart m r s) : ApartO m r (execRingLoss s) := by
  unfold execRingLoss
  repeat' first
      | with_reducible assumption
      | with_reducible exact id
      | (intro _; with_reducible rfl)
      | ((fail_if_success fail_if_success (conv => arg 3; arg 3)); with_reducible apply Apart.ite)
      | ((fail_if_success fail_if_success (conv => arg 3; arg 34)); with_reducible refine Apart.over ?_ rfl rfl ?_ ?_ ?_ ?_)
      | (extract_lets +onlyGivenNames z; clear_value z)
      | with_reducible apply raise_apart
      | with_reducible apply ApartO.next
      | with_reducible rfl

theorem execFullSlateFrame_apart {m : Bool} {r : State} (f : FrameHdr) (payload : List Byte) (s : State) (h : Apart m r s) :
    ApartO m r (execFullSlateFrame f payload s) := by
  unfold execFullSlateFrame
  repeat' first
      | with_reducible assumption
      | intro _
      | ((fail_if_success fail_if_success (conv => arg 3; arg 3)); with_reducible apply Apart.ite)
      | (extract_lets +onlyGivenNames z; refine Apart.cut (m := m) (r := r) (z := z) ?_ ?_; rotate_left; clear_value z; intro _; rotate_left; unfold z; clear z)
      | with_reducible apply frameAny_apart
      | with_reducible apply copyCharge_apart
      | with_reducible apply slateIn_apart
      | with_reducible apply ApartO.next

theorem execCompactSlateFrame_apart {m : Bool} {r : State} (f : FrameHdr) (payload : List Byte) (s : State) (h : Apart m r s) :
    ApartO m r (execCompactSlateFrame f payload s) := by
  unfold execCompactSlateFrame
  repeat' first
      | with_reducible assumption
      | intro _
      | ((fail_if_success fail_if_success (conv => arg 3; arg 3)); with_reducible apply Apart.ite)
      | with_reducible apply frameIn_apart
      | with_reducible apply slateIn_apart
      | with_reducible apply ApartO.next

theorem execCommitNoticeFrame_apart {m : Bool} {r : State} (f : FrameHdr) (payload : List Byte) (s : State) (h : Apart m r s) :
    ApartO m r (execCommitNoticeFrame f payload s) := by
  unfold execCommitNoticeFrame
  repeat' first
      | with_reducible assumption
      | intro _
      | ((fail_if_success fail_if_success (conv => arg 3; arg 3)); with_reducible apply Apart.ite)
      | with_reducible apply frameIn_apart
      | with_reducible apply noticeIn_apart
      | with_reducible apply ApartO.next

theorem execNoticeGapTimeout_apart {m : Bool} {r : State} (s : State) (h : Apart m r s) : ApartO m r (execNoticeGapTimeout s) := by
  unfold execNoticeGapTimeout
  repeat' first
      | with_reducible assumption
      | intro _
      | ((fail_if_success fail_if_success (conv => arg 3; arg 3)); with_reducible apply Apart.ite)
      | with_reducible apply gapNotice_apart
      | with_reducible apply ApartO.next
      | with_reducible apply Apart.foldl

theorem execOtherStreamRecordFrame_apart {m : Bool} {r : State} (f : FrameHdr) (rtype : Nat) (payload : List Byte) (s : State)
    (h : Apart m r s) : ApartO m r (execOtherStreamRecordFrame f rtype payload s) := by
  unfold execOtherStreamRecordFrame
  repeat' first
      | with_reducible assumption
      | intro _
      | ((fail_if_success fail_if_success (conv => arg 3; arg 3)); with_reducible apply Apart.ite)
      | with_reducible apply frameIn_apart
      | with_reducible apply recordIn_apart
      | with_reducible apply ApartO.next

theorem execMailboxCommandFrame_apart {m : Bool} {r : State} (f : FrameHdr) (prio : Nat) (payload : List Byte) (s : State) (h : Apart m r s) :
    ApartO m r (execMailboxCommandFrame f prio payload s) := by
  unfold execMailboxCommandFrame
  repeat' first
      | with_reducible assumption
      | intro _
      | ((fail_if_success fail_if_success (conv => arg 3; arg 3)); with_reducible apply Apart.ite)
      | with_reducible apply frameIn_apart
      | with_reducible apply commandIn_apart
      | with_reducible apply ApartO.next

theorem execMailboxReplyFrame_apart {m : Bool} {r : State} (f : FrameHdr) (prio : Nat) (payload : List Byte) (s : State) (h : Apart m r s) :
    ApartO m r (execMailboxReplyFrame f prio payload s) := by
  unfold execMailboxReplyFrame
  repeat' first
      | with_reducible assumption
      | intro _
      | ((fail_if_success fail_if_success (conv => arg 3; arg 3)); with_reducible apply Apart.ite)
      | with_reducible apply frameIn_apart
      | with_reducible apply replyIn_apart
      | with_reducible apply ApartO.next

theorem recordBreak_apart {m : Bool} {r : State} (s : State) (src : Nat) (payload : List Byte) (h : Apart m r s) :
    Apart m r (recordBreak s src payload) := by
  unfold recordBreak
  repeat' first
      | with_reducible assumption
      | ((fail_if_success fail_if_success (conv => arg 3; arg 3)); with_reducible apply Apart.ite)
      | with_reducible apply portDown_apart

theorem execFaultRecordFrame_apart {m : Bool} {r : State} (f : FrameHdr) (payload : List Byte) (s : State) (h : Apart m r s) :
    ApartO m r (execFaultRecordFrame f payload s) := by
  unfold execFaultRecordFrame
  repeat' first
      | with_reducible assumption
      | intro _
      | ((fail_if_success fail_if_success (conv => arg 3; arg 3)); with_reducible apply Apart.ite)
      | with_reducible apply frameIn_apart
      | with_reducible apply recordBreak_apart
      | with_reducible apply recordIn_apart
      | with_reducible apply ApartO.next

theorem superframeUse_apart {m : Bool} {r : State} (s : State) (master count : Nat) (ack : List Nat) (admitMask placeb : Nat)
    (slotmap : List (Nat × Nat)) (h : Apart m r s) : Apart m r (superframeUse s master count ack admitMask placeb slotmap) := by
  unfold superframeUse
  repeat' first
      | with_reducible assumption
      | with_reducible exact id
      | (intro _; with_reducible rfl)
      | ((fail_if_success fail_if_success (conv => arg 3; arg 3)); with_reducible apply Apart.ite)
      | ((fail_if_success fail_if_success (conv => arg 3; arg 34)); with_reducible refine Apart.over ?_ rfl rfl ?_ ?_ ?_ ?_)
      | (extract_lets +onlyGivenNames z
         first
         | (refine Apart.cut (m := m) (r := r) (z := z) ?_ ?_; rotate_left; clear_value z; intro _; rotate_left; unfold z; clear z)
         | clear_value z)
      | with_reducible apply readmitted_apart
      | with_reducible apply admitMe_apart
      | with_reducible rfl

theorem execSuperframeFrame_apart {m : Bool} {r : State} (f : FrameHdr) (sfnum master count : Nat) (ack : List Nat)
    (admitMask placeb rsf : Nat) (slotmap : List (Nat × Nat)) (s : State) (h : Apart m r s) :
    ApartO m r (execSuperframeFrame f sfnum master count ack admitMask placeb rsf slotmap s) := by
  unfold execSuperframeFrame
  repeat' first
      | with_reducible assumption
      | intro _
      | with_reducible apply frameIn_apart
      | with_reducible apply superframeUse_apart
      | with_reducible apply ApartO.next

theorem execHeartbeat_apart {m : Bool} {r : State} (f : FrameHdr) (state queue ports : Nat) (s : State) (h : Apart m r s) :
    ApartO m r (execHeartbeat f state queue ports s) := by
  unfold execHeartbeat
  repeat' first
      | with_reducible assumption
      | intro _
      | ((fail_if_success fail_if_success (conv => arg 3; arg 3)); with_reducible apply Apart.ite)
      | (extract_lets +onlyGivenNames z; refine Apart.cut (m := m) (r := r) (z := z) ?_ ?_; rotate_left; clear_value z; intro _; rotate_left; unfold z; clear z)
      | with_reducible apply frameIn_apart
      | with_reducible apply updEntry_apart
      | with_reducible apply noteHead_apart
      | with_reducible apply portUp_apart
      | with_reducible apply ApartO.next

theorem freshSender_apart {m : Bool} {r : State} (s : State) (src : Nat) (h : Apart m r s) : Apart m r (freshSender s src) := by
  unfold freshSender
  exact .over h rfl rfl id rfl id fun _ => rfl

theorem unaddressed_apart {m : Bool} {r : State} (s : State) (uid : Nat) (h : Apart m r s) : Apart m r (unaddressed s uid) := by
  unfold unaddressed
  repeat' first
      | with_reducible assumption
      | with_reducible exact id
      | (intro _; with_reducible rfl)
      | ((fail_if_success fail_if_success (conv => arg 3; arg 34)); with_reducible refine Apart.over ?_ rfl rfl ?_ ?_ ?_ ?_)
      | (extract_lets +onlyGivenNames z; clear_value z)
      | with_reducible apply raise_apart
      | with_reducible rfl

theorem setUid_apart {m : Bool} {r : State} (s : State) (addr uid : Nat) (h : Apart m r s) : Apart m r (setUid s addr uid) := by
  unfold setUid
  repeat' first
      | with_reducible assumption
      | with_reducible exact id
      | (intro _; with_reducible rfl)
      | ((fail_if_success fail_if_success (conv => arg 3; arg 34)); with_reducible refine Apart.over ?_ rfl rfl ?_ ?_ ?_ ?_)
      | (extract_lets +onlyGivenNames z; refine Apart.cut (m := m) (r := r) (z := z) ?_ ?_; rotate_left; clear_value z; intro _; rotate_left; unfold z; clear z)
      | with_reducible apply updEntry_apart
      | with_reducible rfl

theorem judgeJoin_apart {m : Bool} {r : State} (s : State) (uid chainId addr position : Nat) (h : Apart m r s) :
    Apart m r (judgeJoin s uid chainId addr position) := by
  unfold judgeJoin
  repeat' first
      | with_reducible assumption
      | ((fail_if_success fail_if_success (conv => arg 3; arg 3)); with_reducible apply Apart.ite)
      | (extract_lets +onlyGivenNames z; refine Apart.cut (m := m) (r := r) (z := z) ?_ ?_; rotate_left; clear_value z; intro _; rotate_left; unfold z; clear z)
      | with_reducible apply unaddressed_apart
      | with_reducible apply updEntry_apart
      | with_reducible apply setUid_apart
      | with_reducible apply raise_apart
      | split

theorem execJoin_apart {m : Bool} {r : State} (f : FrameHdr) (uid chainId addr time : Nat) (s : State) (h : Apart m r s) :
    ApartO m r (execJoin f uid chainId addr time s) := by
  unfold execJoin
  repeat' first
      | with_reducible assumption
      | intro _
      | ((fail_if_success fail_if_success (conv => arg 3; arg 3)); with_reducible apply Apart.ite)
      | (extract_lets +onlyGivenNames z; refine Apart.cut (m := m) (r := r) (z := z) ?_ ?_; rotate_left; clear_value z; intro _; rotate_left; unfold z; clear z)
      | with_reducible apply frameIn_apart
      | with_reducible apply freshSender_apart
      | with_reducible apply judgeJoin_apart
      | with_reducible apply ApartO.next

theorem enumerated_apart {m : Bool} {r : State} (s : State) (h1 : Hdr) (expect count : Nat) (h : Apart m r s) :
    Apart m r (enumerated s h1 expect count) := by
  unfold enumerated
  repeat' first
      | with_reducible assumption
      | with_reducible exact id
      | (intro _; with_reducible rfl)
      | ((fail_if_success fail_if_success (conv => arg 3; arg 3)); with_reducible apply Apart.ite)
      | ((fail_if_success fail_if_success (conv => arg 3; arg 34)); with_reducible refine Apart.over ?_ rfl rfl ?_ ?_ ?_ ?_)
      | (extract_lets +onlyGivenNames z
         first
         | (refine Apart.cut (m := m) (r := r) (z := z) ?_ ?_; rotate_left; clear_value z; intro _; rotate_left; unfold z; clear z)
         | clear_value z)
      | with_reducible apply completeOp_apart
      | with_reducible apply State.draw_apart
      | with_reducible apply sendFrame_apart
      | with_reducible apply newKey_apart
      | with_reducible rfl

theorem execEnumeration_apart {m : Bool} {r : State} (f : FrameHdr) (chainId next expect port : Nat) (s : State) (h : Apart m r s) :
    ApartO m r (execEnumeration f chainId next expect port s) := by
  unfold execEnumeration
  repeat' first
      | with_reducible assumption
      | with_reducible exact id
      | (intro _; with_reducible rfl)
      | ((fail_if_success fail_if_success (conv => arg 3; arg 3)); with_reducible apply Apart.ite)
      | ((fail_if_success fail_if_success (conv => arg 3; arg 34)); with_reducible refine Apart.over ?_ rfl rfl ?_ ?_ ?_ ?_)
      | (extract_lets +onlyGivenNames z; clear_value z)
      | with_reducible apply frameError_apart
      | with_reducible apply enumerated_apart
      | with_reducible apply emit_apart
      | with_reducible apply ApartO.next
      | with_reducible rfl
      | split

theorem execScheduleFrame_apart {m : Bool} {r : State} (f : FrameHdr) (times : List Nat) (s : State) (h : Apart m r s) :
    ApartO m r (execScheduleFrame f times s) := by
  unfold execScheduleFrame
  repeat' first
      | with_reducible assumption
      | intro _
      | ((fail_if_success fail_if_success (conv => arg 3; arg 3)); with_reducible apply Apart.ite)
      | with_reducible apply frameIn_apart
      | with_reducible apply takeTimes_apart
      | with_reducible apply ApartO.next

theorem execBulkFrame_apart {m : Bool} {r : State} (f : FrameHdr) (stream tid offset : Nat) (data : List Byte) (s : State) (h : Apart m r s) :
    ApartO m r (execBulkFrame f stream tid offset data s) := by
  unfold execBulkFrame
  repeat' first
      | with_reducible assumption
      | intro _
      | with_reducible apply frameIn_apart
      | with_reducible apply bulkIn_apart
      | with_reducible apply ApartO.next

theorem armMember_apart {m : Bool} {r : State} (s : State) (tmask at_ : Nat) (h : Apart m r s) : Apart m r (armMember s tmask at_) := by
  unfold armMember
  repeat' first
      | with_reducible assumption
      | with_reducible exact id
      | (intro _; with_reducible rfl)
      | ((fail_if_success fail_if_success (conv => arg 3; arg 3)); with_reducible apply Apart.ite)
      | ((fail_if_success fail_if_success (conv => arg 3; arg 34)); with_reducible refine Apart.over ?_ rfl rfl ?_ ?_ ?_ ?_)
      | (extract_lets +onlyGivenNames z
         first
         | (refine Apart.cut (m := m) (r := r) (z := z) ?_ ?_; rotate_left; clear_value z; intro _; rotate_left; unfold z; clear z)
         | clear_value z)
      | with_reducible apply sendFrame_apart
      | with_reducible rfl

theorem cancelMember_apart {m : Bool} {r : State} (s : State) (at_ : Nat) (h : Apart m r s) : Apart m r (cancelMember s at_) := by
  unfold cancelMember
  repeat' first
      | with_reducible assumption
      | with_reducible exact id
      | (intro _; with_reducible rfl)
      | ((fail_if_success fail_if_success (conv => arg 3; arg 3)); with_reducible apply Apart.ite)
      | ((fail_if_success fail_if_success (conv => arg 3; arg 34)); with_reducible refine Apart.over ?_ rfl rfl ?_ ?_ ?_ ?_)
      | (extract_lets +onlyGivenNames z
         first
         | (refine Apart.cut (m := m) (r := r) (z := z) ?_ ?_; rotate_left; clear_value z; intro _; rotate_left; unfold z; clear z)
         | clear_value z)
      | with_reducible apply commitBoot_apart
      | with_reducible rfl
      | split

theorem armAnswer_apart {m : Bool} {r : State} (s : State) (src armed at_ : Nat) (h : Apart m r s) :
    Apart m r (armAnswer s src armed at_) := by
  unfold armAnswer
  repeat' first
      | with_reducible assumption
      | ((fail_if_success fail_if_success (conv => arg 3; arg 3)); with_reducible apply Apart.ite)
      | with_reducible apply endActivation_apart
      | with_reducible apply sendFrame_apart
      | split

theorem takeAddress_apart {m : Bool} {r : State} (s : State) (id count : Nat) (h : Apart m r s) : Apart m r (takeAddress s id count) := by
  unfold takeAddress
  repeat' first
      | with_reducible assumption
      | (intro _; with_reducible rfl)
      | intro _
      | ((fail_if_success fail_if_success (conv => arg 3; arg 34)); with_reducible refine Apart.over ?_ rfl rfl ?_ ?_ ?_ ?_)
      | (extract_lets +onlyGivenNames z
         first
         | (refine Apart.cut (m := m) (r := r) (z := z) ?_ ?_; rotate_left; clear_value z; intro _; rotate_left; unfold z; clear z)
         | clear_value z)
      | with_reducible apply sendFrame_apart
      | with_reducible rfl
      | split

theorem configure_apart {m : Bool} {r : State} (s : State) (src kind value time : Nat) (h : Apart m r s) :
    Apart m r (configure s src kind value time) := by
  unfold configure
  repeat' first
      | with_reducible assumption
      | with_reducible exact id
      | (intro _; with_reducible rfl)
      | ((fail_if_success fail_if_success (conv => arg 3; arg 3)); with_reducible apply Apart.ite)
      | ((fail_if_success fail_if_success (conv => arg 3; arg 34)); with_reducible refine Apart.over ?_ rfl rfl ?_ ?_ ?_ ?_)
      | (extract_lets +onlyGivenNames z; clear_value z)
      | with_reducible apply armMember_apart
      | with_reducible apply cancelMember_apart
      | with_reducible apply takeAddress_apart
      | with_reducible apply armAnswer_apart
      | with_reducible rfl
      | split

theorem execConfigurationFrame_apart {m : Bool} {r : State} (f : FrameHdr) (kind value time : Nat) (s : State) (h : Apart m r s) :
    ApartO m r (execConfigurationFrame f kind value time s) := by
  unfold execConfigurationFrame
  repeat' first
      | with_reducible assumption
      | intro _
      | with_reducible apply frameIn_apart
      | with_reducible apply configure_apart
      | with_reducible apply ApartO.next

theorem execClapSet_apart {m : Bool} {r : State} (time : Nat) (rising good : Bool) (s : State) (h : Apart m r s) :
    ApartO m r (execClapSet time rising good s) := by
  unfold execClapSet
  repeat' first
      | with_reducible assumption
      | intro _
      | ((fail_if_success fail_if_success (conv => arg 3; arg 3)); with_reducible apply Apart.ite)
      | (extract_lets +onlyGivenNames z; clear_value z)
      | with_reducible apply setIn_apart
      | with_reducible apply clapEvent_apart
      | with_reducible apply ApartO.next

theorem execCurrentSet_apart {m : Bool} {r : State} (src time : Nat) (current : Int) (good : Bool) (s : State) (h : Apart m r s) :
    ApartO m r (execCurrentSet src time current good s) := by
  unfold execCurrentSet
  repeat' first
      | with_reducible assumption
      | with_reducible exact id
      | (intro _; with_reducible rfl)
      | intro _
      | ((fail_if_success fail_if_success (conv => arg 3; arg 3)); with_reducible apply Apart.ite)
      | ((fail_if_success fail_if_success (conv => arg 3; arg 34)); with_reducible refine Apart.over ?_ rfl rfl ?_ ?_ ?_ ?_)
      | (extract_lets +onlyGivenNames z; clear_value z)
      | with_reducible apply setIn_apart
      | with_reducible apply pushCurrent_apart
      | with_reducible apply ApartO.next
      | with_reducible rfl

theorem alarmIn_apart {m : Bool} {r : State} (s : State) (src path : Nat) (msg : BitVec 32) (time : Nat) (h : Apart m r s) :
    Apart m r (alarmIn s src path msg time) := by
  unfold alarmIn
  repeat' first
      | with_reducible assumption
      | with_reducible exact id
      | (intro _; with_reducible rfl)
      | ((fail_if_success fail_if_success (conv => arg 3; arg 3)); with_reducible apply Apart.ite)
      | ((fail_if_success fail_if_success (conv => arg 3; arg 34)); with_reducible refine Apart.over ?_ rfl rfl ?_ ?_ ?_ ?_)
      | (extract_lets +onlyGivenNames z
         first
         | (refine Apart.cut (m := m) (r := r) (z := z) ?_ ?_; rotate_left; clear_value z; intro _; rotate_left; unfold z; clear z)
         | clear_value z)
      | with_reducible apply streamRec_apart
      | with_reducible rfl

theorem execAlarmSet_apart {m : Bool} {r : State} (src : Nat) (msg : BitVec 32) (time : Nat) (good : Bool) (s : State) (h : Apart m r s) :
    ApartO m r (execAlarmSet src msg time good s) := by
  unfold execAlarmSet
  repeat' first
      | with_reducible assumption
      | intro _
      | with_reducible apply setIn_apart
      | with_reducible apply alarmIn_apart
      | with_reducible apply ApartO.next

end Sys2Proof.Machine
end

