-- ==== Sys2Proof/Laws/ApartMetroOps.lean ====
section
/-! SUPPORT. Each operation of Machine/MetroOps keeps `Apart`. -/
set_option Elab.async false
set_option linter.unusedTactic false
namespace Sys2Proof.Machine

theorem State.updM_apart {r : State} (s : State) (f : Metro → Metro) (h : Apart false r s) : Apart false r (State.updM s f) := by
  unfold State.updM
  repeat' first
      | with_reducible assumption
      | with_reducible exact id
      | (intro e; cases e)
      | ((fail_if_success fail_if_success (conv => arg 3; arg 34)); with_reducible refine Apart.over ?_ rfl rfl ?_ ?_ ?_ ?_)
      | with_reducible rfl

theorem mRaise_apart {m : Bool} {r : State} (s : State) (block kind detail : Nat) (h : Apart m r s) :
    Apart m r (mRaise s block kind detail) := by
  unfold mRaise
  repeat' first
      | with_reducible assumption
      | ((fail_if_success fail_if_success (conv => arg 3; arg 3)); with_reducible apply Apart.ite)
      | with_reducible apply raise_apart

theorem mHalt_apart {r : State} (s : State) (cause : Nat) (h : Apart false r s) : Apart false r (mHalt s cause) := by
  unfold mHalt
  repeat' first
      | with_reducible assumption
      | with_reducible apply mRaise_apart
      | with_reducible apply State.updM_apart

theorem mAnswer_apart {r : State} (s : State) (kind : Nat) (x : Option (List Byte)) (h : Apart false r s) :
    Apart false r (mAnswer s kind x) := by
  unfold mAnswer
  repeat' first
      | with_reducible assumption
      | with_reducible exact id
      | (intro _; with_reducible rfl)
      | ((fail_if_success fail_if_success (conv => arg 3; arg 3)); with_reducible apply Apart.ite)
      | ((fail_if_success fail_if_success (conv => arg 3; arg 34)); with_reducible refine Apart.over ?_ rfl rfl ?_ ?_ ?_ ?_)
      | (extract_lets +onlyGivenNames z
         first
         | (refine Apart.cut (m := false) (r := r) (z := z) ?_ ?_; rotate_left; clear_value z; intro _; rotate_left; unfold z; clear z)
         | clear_value z)
      | with_reducible apply State.updM_apart
      | with_reducible apply mRaise_apart
      | with_reducible rfl

theorem sendNext_apart {m : Bool} {r : State} (s : State) (stmt : Bool) (h : Apart m r s) : Apart m r (sendNext s stmt) := by
  unfold sendNext
  repeat' first
      | with_reducible assumption
      | with_reducible exact id
      | (intro _; with_reducible rfl)
      | ((fail_if_success fail_if_success (conv => arg 3; arg 3)); with_reducible apply Apart.ite)
      | ((fail_if_success fail_if_success (conv => arg 3; arg 34)); with_reducible refine Apart.over ?_ rfl rfl ?_ ?_ ?_ ?_)
      | (extract_lets +onlyGivenNames z
         first
         | (refine Apart.cut (m := m) (r := r) (z := z) ?_ ?_; rotate_left; clear_value z; intro _; rotate_left; unfold z; clear z)
         | clear_value z)
      | with_reducible apply emit_apart
      | with_reducible rfl
      | split

theorem askM_apart {m : Bool} {r : State} (s : State) (r1 : MReq) (h : Apart m r s) : Apart m r (askM s r1) := by
  unfold askM
  repeat' first
      | with_reducible assumption
      | with_reducible exact id
      | (intro _; with_reducible rfl)
      | ((fail_if_success fail_if_success (conv => arg 3; arg 34)); with_reducible refine Apart.over ?_ rfl rfl ?_ ?_ ?_ ?_)
      | (extract_lets +onlyGivenNames z; clear_value z)
      | with_reducible apply sendNext_apart
      | with_reducible rfl

theorem answered_apart {m : Bool} {r : State} (s : State) (r1 : MReq) (ok : Bool) (data : List Byte) (h : Apart m r s) :
    Apart m r (answered s r1 ok data) := by
  unfold answered
  repeat' first
      | with_reducible assumption
      | ((fail_if_success fail_if_success (conv => arg 3; arg 3)); with_reducible apply Apart.ite)
      | (extract_lets +onlyGivenNames z; clear_value z)
      | with_reducible apply completeOp_apart
      | with_reducible apply reply_apart
      | split

theorem unanswered_apart {m : Bool} {r : State} (s : State) (r1 : MReq) (h : Apart m r s) : Apart m r (unanswered s r1) := by
  unfold unanswered
  repeat' first
      | with_reducible assumption
      | with_reducible exact id
      | (intro _; with_reducible rfl)
      | ((fail_if_success fail_if_success (conv => arg 3; arg 3)); with_reducible apply Apart.ite)
      | ((fail_if_success fail_if_success (conv => arg 3; arg 34)); with_reducible refine Apart.over ?_ rfl rfl ?_ ?_ ?_ ?_)
      | (extract_lets +onlyGivenNames z
         first
         | (refine Apart.cut (m := m) (r := r) (z := z) ?_ ?_; rotate_left; clear_value z; intro _; rotate_left; unfold z; clear z)
         | clear_value z)
      | with_reducible apply completeOp_apart
      | with_reducible apply reply_apart
      | with_reducible apply sendNext_apart
      | with_reducible rfl

end Sys2Proof.Machine
end

