-- ==== Sys2Proof/Laws/ApartMetroRows.lean ====
section
/-! SUPPORT. Each operation of Machine/MetroRows keeps `Apart`. -/
set_option Elab.async false
set_option linter.unusedTactic false
namespace Sys2Proof.Machine

theorem mCmd_apart {m : Bool} {r : State} (s : State) (h1 : Hdr) (op : Nat) (body : State → State) (h : Apart m r s)
    (g3 : ∀ u0, Apart m r u0 → Apart m r (body u0)) : Apart m r (mCmd s h1 op body) := by
  unfold mCmd
  repeat' first
      | with_reducible assumption
      | intro _
      | ((fail_if_success fail_if_success (conv => arg 3; arg 3)); with_reducible apply Apart.ite)
      | with_reducible apply g3
      | with_reducible apply runCmd_apart
      | with_reducible apply refuse_apart

theorem execReadMetro_apart {m : Bool} {r : State} (h0 : Hdr) (addr len : Nat) (s : State) (h : Apart m r s) :
    ApartO m r (execReadMetro h0 addr len s) := by
  unfold execReadMetro
  repeat' first
      | with_reducible assumption
      | intro _
      | ((fail_if_success fail_if_success (conv => arg 3; arg 3)); with_reducible apply Apart.ite)
      | with_reducible apply mCmd_apart
      | with_reducible apply refuse_apart
      | with_reducible apply askM_apart
      | with_reducible apply ApartO.next

theorem execSignStatement_apart {m : Bool} {r : State} (h0 : Hdr) (regid : Nat) (s : State) (h : Apart m r s) :
    ApartO m r (execSignStatement h0 regid s) := by
  unfold execSignStatement
  repeat' first
      | with_reducible assumption
      | intro _
      | ((fail_if_success fail_if_success (conv => arg 3; arg 3)); with_reducible apply Apart.ite)
      | with_reducible apply mCmd_apart
      | with_reducible apply refuse_apart
      | with_reducible apply startOp_apart
      | with_reducible apply askM_apart
      | with_reducible apply ApartO.next

theorem execSetDisplay_apart {m : Bool} {r : State} (h0 : Hdr) (param : Nat) (value : List Byte) (s : State) (h : Apart m r s) :
    ApartO m r (execSetDisplay h0 param value s) := by
  unfold execSetDisplay
  repeat' first
      | with_reducible assumption
      | intro _
      | ((fail_if_success fail_if_success (conv => arg 3; arg 3)); with_reducible apply Apart.ite)
      | with_reducible apply mCmd_apart
      | with_reducible apply refuse_apart
      | with_reducible apply askM_apart
      | with_reducible apply ApartO.next

theorem execReadEvents_apart {m : Bool} {r : State} (h0 : Hdr) (fromNum n : Nat) (s : State) (h : Apart m r s) :
    ApartO m r (execReadEvents h0 fromNum n s) := by
  unfold execReadEvents
  repeat' first
      | with_reducible assumption
      | intro _
      | ((fail_if_success fail_if_success (conv => arg 3; arg 3)); with_reducible apply Apart.ite)
      | with_reducible apply mCmd_apart
      | with_reducible apply refuse_apart
      | with_reducible apply askM_apart
      | with_reducible apply ApartO.next

theorem execGetMetroStatus_apart {m : Bool} {r : State} (h0 : Hdr) (s : State) (h : Apart m r s) :
    ApartO m r (execGetMetroStatus h0 s) := by
  unfold execGetMetroStatus
  repeat' first
      | with_reducible assumption
      | intro _
      | with_reducible apply mCmd_apart
      | with_reducible apply reply_apart
      | with_reducible apply ApartO.next

theorem execSetCurrentSource_apart {m : Bool} {r : State} (h0 : Hdr) (addr : Nat) (s : State) (h : Apart m r s) :
    ApartO m r (execSetCurrentSource h0 addr s) := by
  unfold execSetCurrentSource
  repeat' first
      | with_reducible assumption
      | with_reducible exact id
      | (intro _; with_reducible rfl)
      | intro _
      | ((fail_if_success fail_if_success (conv => arg 3; arg 3)); with_reducible apply Apart.ite)
      | ((fail_if_success fail_if_success (conv => arg 3; arg 34)); with_reducible refine Apart.over ?_ rfl rfl ?_ ?_ ?_ ?_)
      | (extract_lets +onlyGivenNames z
         first
         | (refine Apart.cut (m := m) (r := r) (z := z) ?_ ?_; rotate_left; clear_value z; intro _; rotate_left; unfold z; clear z)
         | clear_value z)
      | with_reducible apply runCmd_apart
      | with_reducible apply refuse_apart
      | with_reducible apply sendFrame_apart
      | with_reducible apply reply_apart
      | with_reducible apply ApartO.next
      | with_reducible rfl

theorem execRegisterReadRequest_apart {r : State} (addr len : Nat) (s : State) (h : Apart false r s) :
    ApartO false r (execRegisterReadRequest addr len s) := by
  unfold execRegisterReadRequest
  repeat' first
      | with_reducible assumption
      | ((fail_if_success fail_if_success (conv => arg 3; arg 3)); with_reducible apply Apart.ite)
      | with_reducible apply mAnswer_apart
      | with_reducible apply ApartO.next

theorem execStatementRequest_apart {r : State} (regid time : Nat) (s : State) (h : Apart false r s) :
    ApartO false r (execStatementRequest regid time s) := by
  unfold execStatementRequest
  repeat' first
      | with_reducible assumption
      | ((fail_if_success fail_if_success (conv => arg 3; arg 3)); with_reducible apply Apart.ite)
      | (extract_lets +onlyGivenNames z; refine Apart.cut (m := false) (r := r) (z := z) ?_ ?_; rotate_left; clear_value z; intro _; rotate_left; unfold z; clear z)
      | with_reducible apply State.updM_apart
      | with_reducible apply mAnswer_apart
      | with_reducible apply ApartO.next

theorem execDisplayRequest_apart {r : State} (param : Nat) (value : List Byte) (s : State) (h : Apart false r s) :
    ApartO false r (execDisplayRequest param value s) := by
  unfold execDisplayRequest
  repeat' first
      | with_reducible assumption
      | ((fail_if_success fail_if_success (conv => arg 3; arg 3)); with_reducible apply Apart.ite)
      | with_reducible apply mAnswer_apart
      | with_reducible apply State.updM_apart
      | with_reducible apply ApartO.next
      | split

theorem execMetroAnswer_apart {m : Bool} {r : State} (s : State) (h : Apart m r s) : ApartO m r (execMetroAnswer s) := by
  unfold execMetroAnswer
  repeat' first
      | with_reducible assumption
      | with_reducible exact id
      | (intro _; with_reducible rfl)
      | ((fail_if_success fail_if_success (conv => arg 3; arg 34)); with_reducible refine Apart.over ?_ rfl rfl ?_ ?_ ?_ ?_)
      | (extract_lets +onlyGivenNames z
         first
         | (refine Apart.cut (m := m) (r := r) (z := z) ?_ ?_; rotate_left; clear_value z; intro _; rotate_left; unfold z; clear z)
         | clear_value z)
      | with_reducible apply sendNext_apart
      | with_reducible apply answered_apart
      | with_reducible apply ApartO.next
      | with_reducible rfl
      | split

theorem execMetroWithdrawn_apart {m : Bool} {r : State} (s : State) (h : Apart m r s) : ApartO m r (execMetroWithdrawn s) := by
  unfold execMetroWithdrawn
  repeat' first
      | with_reducible assumption
      | intro _
      | with_reducible apply unanswered_apart
      | with_reducible apply ApartO.next
      | with_reducible apply Apart.foldl

theorem overloadBegin_apart {r : State} (s : State) (oi ou : Bool) (h : Apart false r s) : Apart false r (overloadBegin s oi ou) := by
  unfold overloadBegin
  repeat' first
      | with_reducible assumption
      | ((fail_if_success fail_if_success (conv => arg 3; arg 3)); with_reducible apply Apart.ite)
      | (extract_lets +onlyGivenNames z; clear_value z)
      | with_reducible apply mRaise_apart
      | with_reducible apply State.updM_apart

theorem execLegalSample_apart {r : State} (shunt vin : Int) (s : State) (h : Apart false r s) :
    ApartO false r (execLegalSample shunt vin s) := by
  unfold execLegalSample
  repeat' first
      | with_reducible assumption
      | ((fail_if_success fail_if_success (conv => arg 3; arg 3)); with_reducible apply Apart.ite)
      | (extract_lets +onlyGivenNames z
         first
         | (refine Apart.cut (m := false) (r := r) (z := z) ?_ ?_; rotate_left; clear_value z; intro _; rotate_left; unfold z; clear z)
         | clear_value z)
      | with_reducible apply State.updM_apart
      | with_reducible apply overloadBegin_apart
      | with_reducible apply ApartO.next

theorem lossWatch_apart {m : Bool} {r : State} (s : State) (h : Apart m r s) : Apart m r (lossWatch s) := by
  unfold lossWatch
  repeat' first
      | with_reducible assumption
      | with_reducible exact id
      | (intro _; with_reducible rfl)
      | ((fail_if_success fail_if_success (conv => arg 3; arg 3)); with_reducible apply Apart.ite)
      | ((fail_if_success fail_if_success (conv => arg 3; arg 34)); with_reducible refine Apart.over ?_ rfl rfl ?_ ?_ ?_ ?_)
      | (extract_lets +onlyGivenNames z; clear_value z)
      | with_reducible apply raise_apart
      | with_reducible rfl

theorem dropStream_apart {m : Bool} {r : State} (s : State) (kind : Nat) (raised : Bool) (detail : Nat) (h : Apart m r s) :
    Apart m r (dropStream s kind raised detail) := by
  unfold dropStream
  repeat' first
      | with_reducible assumption
      | ((fail_if_success fail_if_success (conv => arg 3; arg 3)); with_reducible apply Apart.ite)
      | (extract_lets +onlyGivenNames z
         first
         | (refine Apart.cut (m := m) (r := r) (z := z) ?_ ?_; rotate_left; clear_value z; intro _; rotate_left; unfold z; clear z)
         | clear_value z)
      | with_reducible apply withdrawMetro_apart
      | with_reducible apply raise_apart
      | with_reducible apply checkRef_apart
      | with_reducible apply lossWatch_apart

theorem badStreamFrame_apart {m : Bool} {r : State} (s : State) (h : Apart m r s) : Apart m r (badStreamFrame s) := by
  unfold badStreamFrame
  repeat' first
      | with_reducible assumption
      | with_reducible exact id
      | (intro _; with_reducible rfl)
      | ((fail_if_success fail_if_success (conv => arg 3; arg 3)); with_reducible apply Apart.ite)
      | ((fail_if_success fail_if_success (conv => arg 3; arg 34)); with_reducible refine Apart.over ?_ rfl rfl ?_ ?_ ?_ ?_)
      | (extract_lets +onlyGivenNames z
         first
         | (refine Apart.cut (m := m) (r := r) (z := z) ?_ ?_; rotate_left; clear_value z; intro _; rotate_left; unfold z; clear z)
         | clear_value z)
      | with_reducible apply raise_apart
      | with_reducible rfl

theorem portFrame_apart {m : Bool} {r : State} (s : State) (sample mstat : Nat) (h : Apart m r s) :
    Apart m r (portFrame s sample mstat) := by
  unfold portFrame
  repeat' first
      | with_reducible assumption
      | with_reducible exact id
      | (intro _; with_reducible rfl)
      | ((fail_if_success fail_if_success (conv => arg 3; arg 34)); with_reducible refine Apart.over ?_ rfl rfl ?_ ?_ ?_ ?_)
      | (extract_lets +onlyGivenNames z; clear_value z)
      | with_reducible rfl

theorem useSample_apart {m : Bool} {r : State} (s : State) (current : Int) (h : Apart m r s) : Apart m r (useSample s current) := by
  unfold useSample
  repeat' first
      | with_reducible assumption
      | ((fail_if_success fail_if_success (conv => arg 3; arg 3)); with_reducible apply Apart.ite)
      | (extract_lets +onlyGivenNames z
         first
         | (refine Apart.cut (m := m) (r := r) (z := z) ?_ ?_; rotate_left; clear_value z; intro _; rotate_left; unfold z; clear z)
         | clear_value z)
      | with_reducible apply pushCurrent_apart
      | with_reducible apply sendSet_apart

theorem execStreamFrame_apart {m : Bool} {r : State} (path : Int) (sample current voltage : BitVec 32) (mstat crc : BitVec 16) (s : State)
    (h : Apart m r s) : ApartO m r (execStreamFrame path sample current voltage mstat crc s) := by
  unfold execStreamFrame
  repeat' first
      | with_reducible assumption
      | with_reducible exact id
      | (intro _; with_reducible rfl)
      | ((fail_if_success fail_if_success (conv => arg 3; arg 3)); with_reducible apply Apart.ite)
      | ((fail_if_success fail_if_success (conv => arg 3; arg 34)); with_reducible refine Apart.over ?_ rfl rfl ?_ ?_ ?_ ?_)
      | (extract_lets +onlyGivenNames z
         first
         | (refine Apart.cut (m := m) (r := r) (z := z) ?_ ?_; rotate_left; clear_value z; intro _; rotate_left; unfold z; clear z)
         | clear_value z)
      | with_reducible apply emit_apart
      | with_reducible apply badStreamFrame_apart
      | with_reducible apply portFrame_apart
      | with_reducible apply dropStream_apart
      | with_reducible apply useSample_apart
      | with_reducible apply ApartO.next
      | with_reducible rfl

theorem execMetroStreamLost_apart {m : Bool} {r : State} (s : State) (h : Apart m r s) : ApartO m r (execMetroStreamLost s) := by
  unfold execMetroStreamLost
  repeat' first
      | with_reducible assumption
      | ((fail_if_success fail_if_success (conv => arg 3; arg 3)); with_reducible apply Apart.ite)
      | with_reducible apply dropStream_apart
      | with_reducible apply ApartO.next

theorem execMetroRestored_apart {m : Bool} {r : State} (s : State) (h : Apart m r s) : ApartO m r (execMetroRestored s) := by
  unfold execMetroRestored
  repeat' first
      | with_reducible assumption
      | with_reducible exact id
      | (intro _; with_reducible rfl)
      | ((fail_if_success fail_if_success (conv => arg 3; arg 3)); with_reducible apply Apart.ite)
      | ((fail_if_success fail_if_success (conv => arg 3; arg 34)); with_reducible refine Apart.over ?_ rfl rfl ?_ ?_ ?_ ?_)
      | (extract_lets +onlyGivenNames z; clear_value z)
      | with_reducible apply ApartO.next
      | with_reducible rfl

theorem execMstatusPoll_apart {r : State} (s : State) (h : Apart false r s) : ApartO false r (execMstatusPoll s) := by
  unfold execMstatusPoll
  repeat' first
      | with_reducible assumption
      | with_reducible exact id
      | (intro _; with_reducible rfl)
      | (intro e; cases e)
      | ((fail_if_success fail_if_success (conv => arg 3; arg 3)); with_reducible apply Apart.ite)
      | ((fail_if_success fail_if_success (conv => arg 3; arg 34)); with_reducible refine Apart.over ?_ rfl rfl ?_ ?_ ?_ ?_)
      | (extract_lets +onlyGivenNames z
         first
         | (refine Apart.cut (m := false) (r := r) (z := z) ?_ ?_; rotate_left; clear_value z; intro _; rotate_left; unfold z; clear z)
         | clear_value z)
      | with_reducible apply ApartO.next
      | with_reducible rfl

theorem mStartFaults_apart {m : Bool} {r : State} (s : State) (h : Apart m r s) : Apart m r (mStartFaults s) := by
  unfold mStartFaults
  repeat' first
      | with_reducible assumption
      | ((fail_if_success fail_if_success (conv => arg 3; arg 3)); with_reducible apply Apart.ite)
      | (extract_lets +onlyGivenNames z; refine Apart.cut (m := m) (r := r) (z := z) ?_ ?_; rotate_left; clear_value z; intro _; rotate_left; unfold z; clear z)
      | with_reducible apply mRaise_apart

theorem execMStart_apart {r : State} (cause failed : Nat) (incomplete : Bool) (swid : Nat) (s : State) (h : Apart false r s) :
    ApartO false r (execMStart cause failed incomplete swid s) := by
  unfold execMStart
  repeat' first
      | with_reducible assumption
      | ((fail_if_success fail_if_success (conv => arg 3; arg 3)); with_reducible apply Apart.ite)
      | (extract_lets +onlyGivenNames z
         first
         | (refine Apart.cut (m := false) (r := r) (z := z) ?_ ?_; rotate_left; clear_value z; intro _; rotate_left; unfold z; clear z)
         | clear_value z)
      | with_reducible apply State.updM_apart
      | with_reducible apply mRaise_apart
      | with_reducible apply mStartFaults_apart
      | with_reducible apply mHalt_apart
      | with_reducible apply ApartO.next

theorem execMPeriodicCheck_apart {r : State} (failed : Nat) (temp : Int) (s : State) (h : Apart false r s) :
    ApartO false r (execMPeriodicCheck failed temp s) := by
  unfold execMPeriodicCheck
  repeat' first
      | with_reducible assumption
      | ((fail_if_success fail_if_success (conv => arg 3; arg 3)); with_reducible apply Apart.ite)
      | (extract_lets +onlyGivenNames z; refine Apart.cut (m := false) (r := r) (z := z) ?_ ?_; rotate_left; clear_value z; intro _; rotate_left; unfold z; clear z)
      | with_reducible apply State.updM_apart
      | with_reducible apply mHalt_apart
      | with_reducible apply ApartO.next

theorem execMIdleTimeout_apart {r : State} (s : State) (h : Apart false r s) : ApartO false r (execMIdleTimeout s) := by
  unfold execMIdleTimeout
  repeat' first
      | with_reducible assumption
      | ((fail_if_success fail_if_success (conv => arg 3; arg 3)); with_reducible apply Apart.ite)
      | with_reducible apply State.updM_apart
      | with_reducible apply ApartO.next

theorem execMDormantTimeout_apart {r : State} (s : State) (h : Apart false r s) : ApartO false r (execMDormantTimeout s) := by
  unfold execMDormantTimeout
  repeat' first
      | with_reducible assumption
      | ((fail_if_success fail_if_success (conv => arg 3; arg 3)); with_reducible apply Apart.ite)
      | with_reducible apply State.updM_apart
      | with_reducible apply ApartO.next

theorem execMWake_apart {r : State} (current : Int) (s : State) (h : Apart false r s) : ApartO false r (execMWake current s) := by
  unfold execMWake
  repeat' first
      | with_reducible assumption
      | ((fail_if_success fail_if_success (conv => arg 3; arg 3)); with_reducible apply Apart.ite)
      | with_reducible apply State.updM_apart
      | with_reducible apply ApartO.next

theorem execJournalStore_apart {r : State} (s : State) (h : Apart false r s) : ApartO false r (execJournalStore s) := by
  unfold execJournalStore
  repeat' first
      | with_reducible assumption
      | ((fail_if_success fail_if_success (conv => arg 3; arg 3)); with_reducible apply Apart.ite)
      | with_reducible apply State.updM_apart
      | with_reducible apply ApartO.next

theorem execPowerFailStore_apart {r : State} (s : State) (h : Apart false r s) : ApartO false r (execPowerFailStore s) := by
  unfold execPowerFailStore
  repeat' first
      | with_reducible assumption
      | ((fail_if_success fail_if_success (conv => arg 3; arg 3)); with_reducible apply Apart.ite)
      | with_reducible apply State.updM_apart
      | with_reducible apply ApartO.next

theorem execMetroCalRead_apart {r : State} (addr len : Nat) (s : State) (h : Apart false r s) :
    ApartO false r (execMetroCalRead addr len s) := by
  unfold execMetroCalRead
  repeat' first
      | with_reducible assumption
      | ((fail_if_success fail_if_success (conv => arg 3; arg 3)); with_reducible apply Apart.ite)
      | with_reducible apply State.updM_apart
      | with_reducible apply ApartO.next

theorem execMetroCalPoint_apart {r : State} (input : Nat) (applied : Int) (s : State) (h : Apart false r s) :
    ApartO false r (execMetroCalPoint input applied s) := by
  unfold execMetroCalPoint
  repeat' first
      | with_reducible assumption
      | ((fail_if_success fail_if_success (conv => arg 3; arg 3)); with_reducible apply Apart.ite)
      | with_reducible apply State.updM_apart
      | with_reducible apply ApartO.next

theorem execMetroCalPointDone_apart {r : State} (input : Nat) (s : State) (h : Apart false r s) :
    ApartO false r (execMetroCalPointDone input s) := by
  unfold execMetroCalPointDone
  repeat' first
      | with_reducible assumption
      | ((fail_if_success fail_if_success (conv => arg 3; arg 3)); with_reducible apply Apart.ite)
      | with_reducible apply State.updM_apart
      | with_reducible apply ApartO.next

theorem execCalStore_apart {r : State} (s : State) (h : Apart false r s) : ApartO false r (execCalStore s) := by
  unfold execCalStore
  repeat' first
      | with_reducible assumption
      | ((fail_if_success fail_if_success (conv => arg 3; arg 3)); with_reducible apply Apart.ite)
      | with_reducible apply State.updM_apart
      | with_reducible apply ApartO.next
      | split

theorem execSetAuthority_apart {r : State} (key : List Byte) (s : State) (h : Apart false r s) :
    ApartO false r (execSetAuthority key s) := by
  unfold execSetAuthority
  repeat' first
      | with_reducible assumption
      | ((fail_if_success fail_if_success (conv => arg 3; arg 3)); with_reducible apply Apart.ite)
      | with_reducible apply State.updM_apart
      | with_reducible apply ApartO.next

theorem execSeal_apart {r : State} (s : State) (h : Apart false r s) : ApartO false r (execSeal s) := by
  unfold execSeal
  repeat' first
      | with_reducible assumption
      | ((fail_if_success fail_if_success (conv => arg 3; arg 3)); with_reducible apply Apart.ite)
      | with_reducible apply State.updM_apart
      | with_reducible apply ApartO.next

theorem execUnseal_apart {r : State} (token : List Byte) (s : State) (h : Apart false r s) : ApartO false r (execUnseal token s) := by
  unfold execUnseal
  repeat' first
      | with_reducible assumption
      | ((fail_if_success fail_if_success (conv => arg 3; arg 3)); with_reducible apply Apart.ite)
      | with_reducible apply State.updM_apart
      | with_reducible apply ApartO.next

theorem execMTestAccess_apart {r : State} (token : List Byte) (s : State) (h : Apart false r s) :
    ApartO false r (execMTestAccess token s) := by
  unfold execMTestAccess
  repeat' first
      | with_reducible assumption
      | ((fail_if_success fail_if_success (conv => arg 3; arg 3)); with_reducible apply Apart.ite)
      | with_reducible apply State.updM_apart
      | with_reducible apply ApartO.next

end Sys2Proof.Machine
end

