-- ==== Sys2Proof/Laws/ApartPowerRows.lean ====
section
/-! SUPPORT. Each operation of Machine/PowerRows keeps `Apart`. -/
set_option Elab.async false
set_option linter.unusedTactic false
namespace Sys2Proof.Machine

theorem execGetIdentity_apart {m : Bool} {r : State} (h0 : Hdr) (s : State) (h : Apart m r s) : ApartO m r (execGetIdentity h0 s) := by
  unfold execGetIdentity
  repeat' first
      | with_reducible assumption
      | intro _
      | with_reducible apply runCmd_apart
      | with_reducible apply reply_apart
      | with_reducible apply ApartO.next

theorem execGetPowerStatus_apart {m : Bool} {r : State} (h0 : Hdr) (s : State) (h : Apart m r s) :
    ApartO m r (execGetPowerStatus h0 s) := by
  unfold execGetPowerStatus
  repeat' first
      | with_reducible assumption
      | intro _
      | (extract_lets +onlyGivenNames z; clear_value z)
      | with_reducible apply runCmd_apart
      | with_reducible apply reply_apart
      | with_reducible apply ApartO.next

theorem orderChainMove_apart {m : Bool} {r : State} (s : State) (h1 : Hdr) (target : PState) (h : Apart m r s) :
    Apart m r (orderChainMove s h1 target) := by
  unfold orderChainMove
  repeat' first
      | with_reducible assumption
      | with_reducible exact id
      | (intro _; with_reducible rfl)
      | ((fail_if_success fail_if_success (conv => arg 3; arg 34)); with_reducible refine Apart.over ?_ rfl rfl ?_ ?_ ?_ ?_)
      | (extract_lets +onlyGivenNames z; clear_value z)
      | with_reducible apply sendFrame_apart
      | with_reducible rfl

theorem powerOrder_apart {m : Bool} {r : State} (s : State) (h1 : Hdr) (target : PState) (scope : Nat) (h : Apart m r s) :
    Apart m r (powerOrder s h1 target scope) := by
  unfold powerOrder
  repeat' first
      | with_reducible assumption
      | intro _
      | ((fail_if_success fail_if_success (conv => arg 3; arg 3)); with_reducible apply Apart.ite)
      | with_reducible apply startOp_apart
      | with_reducible apply moved_apart
      | with_reducible apply refuse_apart
      | with_reducible apply doMove_apart
      | with_reducible apply orderChainMove_apart

theorem execSetPowerState_apart {m : Bool} {r : State} (h0 : Hdr) (state scope : Nat) (p : Option Proof) (s : State) (h : Apart m r s) :
    ApartO m r (execSetPowerState h0 state scope p s) := by
  unfold execSetPowerState
  repeat' first
      | with_reducible assumption
      | intro _
      | ((fail_if_success fail_if_success (conv => arg 3; arg 3)); with_reducible apply Apart.ite)
      | with_reducible apply runCmd_apart
      | with_reducible apply refuse_apart
      | with_reducible apply withProof_apart
      | with_reducible apply powerOrder_apart
      | with_reducible apply ApartO.next
      | split

theorem shutdownLbist_apart {m : Bool} {r : State} (env : List LbistEnv) (s : State) (die : Nat) (h : Apart m r s) :
    Apart m r (shutdownLbist env s die) := by
  unfold shutdownLbist
  repeat' first
      | with_reducible assumption
      | (intro _; with_reducible rfl)
      | ((fail_if_success fail_if_success (conv => arg 3; arg 3)); with_reducible apply Apart.ite)
      | (extract_lets +onlyGivenNames z
         first
         | (refine Apart.cut (m := m) (r := r) (z := z) ?_ ?_; rotate_left; clear_value z; intro _; rotate_left; unfold z; clear z)
         | clear_value z)
      | with_reducible apply setLbWord_apart
      | with_reducible apply State.updDie_apart
      | split

theorem shutdownSteps_apart {m : Bool} {r : State} (s : State) (x : Shutdown) (h : Apart m r s) : Apart m r (shutdownSteps s x) := by
  unfold shutdownSteps
  repeat' first
      | with_reducible assumption
      | with_reducible exact id
      | (intro _; with_reducible rfl)
      | intro _
      | ((fail_if_success fail_if_success (conv => arg 3; arg 3)); with_reducible apply Apart.ite)
      | ((fail_if_success fail_if_success (conv => arg 3; arg 34)); with_reducible refine Apart.over ?_ rfl rfl ?_ ?_ ?_ ?_)
      | (extract_lets +onlyGivenNames z
         first
         | (refine Apart.cut (m := m) (r := r) (z := z) ?_ ?_; rotate_left; clear_value z; intro _; rotate_left; unfold z; clear z)
         | clear_value z)
      | with_reducible apply endSession_apart
      | with_reducible apply abortOp_apart
      | with_reducible apply openOutputs_apart
      | with_reducible apply endAll_apart
      | with_reducible apply flashAll_apart
      | with_reducible apply moved_apart
      | with_reducible apply Apart.foldl
      | with_reducible rfl

theorem execShutdownSequence_apart {m : Bool} {r : State} (lbist : List LbistEnv) (s : State) (h : Apart m r s) :
    ApartO m r (execShutdownSequence lbist s) := by
  unfold execShutdownSequence
  repeat' first
      | with_reducible assumption
      | intro _
      | ((fail_if_success fail_if_success (conv => arg 3; arg 3)); with_reducible apply Apart.ite)
      | (extract_lets +onlyGivenNames z; refine Apart.cut (m := m) (r := r) (z := z) ?_ ?_; rotate_left; clear_value z; intro _; rotate_left; unfold z; clear z)
      | with_reducible apply shutdownSteps_apart
      | with_reducible apply shutdownLbist_apart
      | with_reducible apply powerDown_apart
      | with_reducible apply ApartO.next
      | with_reducible apply Apart.foldl
      | split

theorem execLbistSupervisionResume_apart {m : Bool} {r : State} (silent : List Nat) (s : State) (h : Apart m r s) :
    ApartO m r (execLbistSupervisionResume silent s) := by
  unfold execLbistSupervisionResume
  repeat' first
      | with_reducible assumption
      | with_reducible exact id
      | (intro _; with_reducible rfl)
      | ((fail_if_success fail_if_success (conv => arg 3; arg 3)); with_reducible apply Apart.ite)
      | ((fail_if_success fail_if_success (conv => arg 3; arg 34)); with_reducible refine Apart.over ?_ rfl rfl ?_ ?_ ?_ ?_)
      | (extract_lets +onlyGivenNames z
         first
         | (refine Apart.cut (m := m) (r := r) (z := z) ?_ ?_; rotate_left; clear_value z; intro _; rotate_left; unfold z; clear z)
         | clear_value z)
      | with_reducible apply raise_apart
      | with_reducible apply powerDown_apart
      | with_reducible apply ApartO.next
      | with_reducible apply codes_map
      | split

theorem execSetWake_apart {m : Bool} {r : State} (h0 : Hdr) (mask state sleepchk waketime sleeptemp : Nat) (s : State) (h : Apart m r s) :
    ApartO m r (execSetWake h0 mask state sleepchk waketime sleeptemp s) := by
  unfold execSetWake
  repeat' first
      | with_reducible assumption
      | with_reducible exact id
      | (intro _; with_reducible rfl)
      | intro _
      | ((fail_if_success fail_if_success (conv => arg 3; arg 3)); with_reducible apply Apart.ite)
      | ((fail_if_success fail_if_success (conv => arg 3; arg 34)); with_reducible refine Apart.over ?_ rfl rfl ?_ ?_ ?_ ?_)
      | (extract_lets +onlyGivenNames z; clear_value z)
      | with_reducible apply runCmd_apart
      | with_reducible apply refuse_apart
      | with_reducible apply reply_apart
      | with_reducible apply ApartO.next
      | with_reducible rfl

theorem execSetMonitor_apart {m : Bool} {r : State} (h0 : Hdr) (period order dec : Nat) (s : State) (h : Apart m r s) :
    ApartO m r (execSetMonitor h0 period order dec s) := by
  unfold execSetMonitor
  repeat' first
      | with_reducible assumption
      | with_reducible exact id
      | (intro _; with_reducible rfl)
      | intro _
      | ((fail_if_success fail_if_success (conv => arg 3; arg 34)); with_reducible refine Apart.over ?_ rfl rfl ?_ ?_ ?_ ?_)
      | (extract_lets +onlyGivenNames z; clear_value z)
      | with_reducible apply runCmd_apart
      | with_reducible apply reply_apart
      | with_reducible apply ApartO.next
      | with_reducible rfl

theorem execSetThermal_apart {m : Bool} {r : State} (h0 : Hdr) (l1 l2 l3 l4 : Int) (rise : Nat) (s : State) (h : Apart m r s) :
    ApartO m r (execSetThermal h0 l1 l2 l3 l4 rise s) := by
  unfold execSetThermal
  repeat' first
      | with_reducible assumption
      | with_reducible exact id
      | (intro _; with_reducible rfl)
      | intro _
      | ((fail_if_success fail_if_success (conv => arg 3; arg 34)); with_reducible refine Apart.over ?_ rfl rfl ?_ ?_ ?_ ?_)
      | (extract_lets +onlyGivenNames z
         first
         | (refine Apart.cut (m := m) (r := r) (z := z) ?_ ?_; rotate_left; clear_value z; intro _; rotate_left; unfold z; clear z)
         | clear_value z)
      | with_reducible apply runCmd_apart
      | with_reducible apply reply_apart
      | with_reducible apply ApartO.next
      | with_reducible apply codes_map

theorem execGetThermal_apart {m : Bool} {r : State} (h0 : Hdr) (s : State) (h : Apart m r s) : ApartO m r (execGetThermal h0 s) := by
  unfold execGetThermal
  repeat' first
      | with_reducible assumption
      | intro _
      | with_reducible apply runCmd_apart
      | with_reducible apply reply_apart
      | with_reducible apply State.draw_apart
      | with_reducible apply ApartO.next

theorem execSetScrub_apart {m : Bool} {r : State} (h0 : Hdr) (mode : Nat) (s : State) (h : Apart m r s) :
    ApartO m r (execSetScrub h0 mode s) := by
  unfold execSetScrub
  repeat' first
      | with_reducible assumption
      | with_reducible exact id
      | (intro _; with_reducible rfl)
      | intro _
      | ((fail_if_success fail_if_success (conv => arg 3; arg 3)); with_reducible apply Apart.ite)
      | ((fail_if_success fail_if_success (conv => arg 3; arg 34)); with_reducible refine Apart.over ?_ rfl rfl ?_ ?_ ?_ ?_)
      | (extract_lets +onlyGivenNames z; clear_value z)
      | with_reducible apply runCmd_apart
      | with_reducible apply refuse_apart
      | with_reducible apply reply_apart
      | with_reducible apply ApartO.next
      | with_reducible rfl

theorem startScrub_apart {m : Bool} {r : State} (s : State) (h1 : Option Hdr) (h : Apart m r s) : Apart m r (startScrub s h1) := by
  unfold startScrub
  exact .over h rfl rfl id rfl id fun _ => rfl

theorem execScrubNow_apart {m : Bool} {r : State} (h0 : Hdr) (s : State) (h : Apart m r s) : ApartO m r (execScrubNow h0 s) := by
  unfold execScrubNow
  repeat' first
      | with_reducible assumption
      | intro _
      | ((fail_if_success fail_if_success (conv => arg 3; arg 3)); with_reducible apply Apart.ite)
      | with_reducible apply runCmd_apart
      | with_reducible apply refuse_apart
      | with_reducible apply startOp_apart
      | with_reducible apply startScrub_apart
      | with_reducible apply ApartO.next

theorem execSetClocks_apart {m : Bool} {r : State} (h0 : Hdr) (src32 : Nat) (s : State) (h : Apart m r s) :
    ApartO m r (execSetClocks h0 src32 s) := by
  unfold execSetClocks
  repeat' first
      | with_reducible assumption
      | with_reducible exact id
      | (intro _; with_reducible rfl)
      | intro _
      | ((fail_if_success fail_if_success (conv => arg 3; arg 3)); with_reducible apply Apart.ite)
      | ((fail_if_success fail_if_success (conv => arg 3; arg 34)); with_reducible refine Apart.over ?_ rfl rfl ?_ ?_ ?_ ?_)
      | (extract_lets +onlyGivenNames z; clear_value z)
      | with_reducible apply runCmd_apart
      | with_reducible apply refuse_apart
      | with_reducible apply reply_apart
      | with_reducible apply ApartO.next
      | with_reducible rfl

theorem relocate_apart {m : Bool} {r : State} (s : State) (logical : Nat) (h : Apart m r s) : Apart m r (relocate s logical) := by
  unfold relocate
  repeat' first
      | with_reducible assumption
      | with_reducible exact id
      | (intro _; with_reducible rfl)
      | ((fail_if_success fail_if_success (conv => arg 3; arg 34)); with_reducible refine Apart.over ?_ rfl rfl ?_ ?_ ?_ ?_)
      | (extract_lets +onlyGivenNames z; clear_value z)
      | with_reducible apply raise_apart
      | with_reducible rfl
      | split

theorem scrubDone_apart {m : Bool} {r : State} (s : State) (c : Scrub) (h : Apart m r s) : Apart m r (scrubDone s c) := by
  unfold scrubDone
  repeat' first
      | with_reducible assumption
      | with_reducible exact id
      | (intro _; with_reducible rfl)
      | ((fail_if_success fail_if_success (conv => arg 3; arg 34)); with_reducible refine Apart.over ?_ rfl rfl ?_ ?_ ?_ ?_)
      | (extract_lets +onlyGivenNames z
         first
         | (refine Apart.cut (m := m) (r := r) (z := z) ?_ ?_; rotate_left; clear_value z; intro _; rotate_left; unfold z; clear z)
         | clear_value z)
      | with_reducible apply raise_apart
      | with_reducible apply completeOp_apart
      | with_reducible apply powerDown_apart
      | with_reducible apply openOutputs_apart
      | with_reducible rfl
      | split

theorem execScrubStep_apart {m : Bool} {r : State} (weak bad : List Nat) (s : State) (h : Apart m r s) :
    ApartO m r (execScrubStep weak bad s) := by
  unfold execScrubStep
  repeat' first
      | with_reducible assumption
      | with_reducible exact id
      | (intro _; with_reducible rfl)
      | intro _
      | ((fail_if_success fail_if_success (conv => arg 3; arg 3)); with_reducible apply Apart.ite)
      | ((fail_if_success fail_if_success (conv => arg 3; arg 34)); with_reducible refine Apart.over ?_ rfl rfl ?_ ?_ ?_ ?_)
      | (extract_lets +onlyGivenNames z
         first
         | (refine Apart.cut (m := m) (r := r) (z := z) ?_ ?_; rotate_left; clear_value z; intro _; rotate_left; unfold z; clear z)
         | clear_value z
         | (unfold z; clear z))
      | with_reducible apply relocate_apart
      | with_reducible apply raise_apart
      | with_reducible apply scrubDone_apart
      | with_reducible apply ApartO.next
      | with_reducible apply Apart.foldl
      | with_reducible rfl
      | split

theorem execScrubDue_apart {m : Bool} {r : State} (s : State) (h : Apart m r s) : ApartO m r (execScrubDue s) := by
  unfold execScrubDue
  repeat' first
      | with_reducible assumption
      | ((fail_if_success fail_if_success (conv => arg 3; arg 3)); with_reducible apply Apart.ite)
      | with_reducible apply startScrub_apart
      | with_reducible apply ApartO.next

theorem execWake_apart {m : Bool} {r : State} (code : Nat) (s : State) (h : Apart m r s) : ApartO m r (execWake code s) := by
  unfold execWake
  repeat' first
      | with_reducible assumption
      | with_reducible exact id
      | (intro _; with_reducible rfl)
      | ((fail_if_success fail_if_success (conv => arg 3; arg 3)); with_reducible apply Apart.ite)
      | ((fail_if_success fail_if_success (conv => arg 3; arg 34)); with_reducible refine Apart.over ?_ rfl rfl ?_ ?_ ?_ ?_)
      | (extract_lets +onlyGivenNames z; clear_value z)
      | with_reducible apply wakeUp_apart
      | with_reducible apply ApartO.next
      | with_reducible rfl

theorem setVlv_apart {m : Bool} {r : State} (s : State) (mv : Nat) (h : Apart m r s) : Apart m r (setVlv s mv) := by
  unfold setVlv
  exact .over h rfl rfl id rfl id fun _ => rfl

theorem execVlvLow_apart {m : Bool} {r : State} (mv : Nat) (s : State) (h : Apart m r s) : ApartO m r (execVlvLow mv s) := by
  unfold execVlvLow
  repeat' first
      | with_reducible assumption
      | ((fail_if_success fail_if_success (conv => arg 3; arg 3)); with_reducible apply Apart.ite)
      | with_reducible apply raise_apart
      | with_reducible apply setVlv_apart
      | with_reducible apply ApartO.next

theorem execVlvBrownOut_apart {m : Bool} {r : State} (mv : Nat) (s : State) (h : Apart m r s) : ApartO m r (execVlvBrownOut mv s) := by
  unfold execVlvBrownOut
  repeat' first
      | with_reducible assumption
      | ((fail_if_success fail_if_success (conv => arg 3; arg 3)); with_reducible apply Apart.ite)
      | with_reducible apply dropC_apart
      | with_reducible apply setVlv_apart
      | with_reducible apply ApartO.next

theorem execVlvReturn_apart {m : Bool} {r : State} (mv : Nat) (s : State) (h : Apart m r s) : ApartO m r (execVlvReturn mv s) := by
  unfold execVlvReturn
  repeat' first
      | with_reducible assumption
      | ((fail_if_success fail_if_success (conv => arg 3; arg 3)); with_reducible apply Apart.ite)
      | with_reducible apply wakeUp_apart
      | with_reducible apply setVlv_apart
      | with_reducible apply ApartO.next

theorem execMonitorBurst_apart {m : Bool} {r : State} (s : State) (h : Apart m r s) : ApartO m r (execMonitorBurst s) := by
  unfold execMonitorBurst
  repeat' first
      | with_reducible assumption
      | with_reducible exact id
      | (intro _; with_reducible rfl)
      | ((fail_if_success fail_if_success (conv => arg 3; arg 3)); with_reducible apply Apart.ite)
      | ((fail_if_success fail_if_success (conv => arg 3; arg 34)); with_reducible refine Apart.over ?_ rfl rfl ?_ ?_ ?_ ?_)
      | (extract_lets +onlyGivenNames z; clear_value z)
      | with_reducible apply restartFilters_apart
      | with_reducible apply ApartO.next
      | with_reducible rfl

theorem execRingBurst_apart {m : Bool} {r : State} (dies : List Nat) (s : State) (h : Apart m r s) : ApartO m r (execRingBurst dies s) := by
  unfold execRingBurst
  repeat' first
      | with_reducible assumption
      | with_reducible exact id
      | (intro _; with_reducible rfl)
      | ((fail_if_success fail_if_success (conv => arg 3; arg 3)); with_reducible apply Apart.ite)
      | ((fail_if_success fail_if_success (conv => arg 3; arg 34)); with_reducible refine Apart.over ?_ rfl rfl ?_ ?_ ?_ ?_)
      | with_reducible apply ApartO.next
      | with_reducible apply codes_upd

theorem execGuardPass_apart {m : Bool} {r : State} (die : Nat) (volts : List Int) (s : State) (h : Apart m r s) :
    ApartO m r (execGuardPass die volts s) := by
  unfold execGuardPass
  repeat' first
      | with_reducible assumption
      | (intro _; with_reducible rfl)
      | intro _
      | ((fail_if_success fail_if_success (conv => arg 3; arg 3)); with_reducible apply Apart.ite)
      | with_reducible apply diagReading_apart
      | with_reducible apply State.updDie_apart
      | with_reducible apply Apart.onDie
      | with_reducible apply Apart.foldl

theorem execStudioSleep_apart {m : Bool} {r : State} (s : State) (h : Apart m r s) : ApartO m r (execStudioSleep s) := by
  unfold execStudioSleep
  repeat' first
      | with_reducible assumption
      | with_reducible exact id
      | (intro _; with_reducible rfl)
      | ((fail_if_success fail_if_success (conv => arg 3; arg 3)); with_reducible apply Apart.ite)
      | ((fail_if_success fail_if_success (conv => arg 3; arg 34)); with_reducible refine Apart.over ?_ rfl rfl ?_ ?_ ?_ ?_)
      | (extract_lets +onlyGivenNames z; clear_value z)
      | with_reducible apply ApartO.next
      | with_reducible rfl

theorem askWake_apart {m : Bool} {r : State} (s : State) (code : Nat) (h : Apart m r s) : Apart m r (askWake s code) := by
  unfold askWake
  repeat' first
      | with_reducible assumption
      | with_reducible exact id
      | (intro _; with_reducible rfl)
      | ((fail_if_success fail_if_success (conv => arg 3; arg 3)); with_reducible apply Apart.ite)
      | ((fail_if_success fail_if_success (conv => arg 3; arg 34)); with_reducible refine Apart.over ?_ rfl rfl ?_ ?_ ?_ ?_)
      | with_reducible rfl

theorem sleepCell_apart {m : Bool} {r : State} (die : Nat) (volts : List Int) (s : State) (k : Nat) (h : Apart m r s) :
    Apart m r (sleepCell die volts s k) := by
  unfold sleepCell
  repeat' first
      | with_reducible assumption
      | (intro _; with_reducible rfl)
      | ((fail_if_success fail_if_success (conv => arg 3; arg 3)); with_reducible apply Apart.ite)
      | (extract_lets +onlyGivenNames z
         first
         | (refine Apart.cut (m := m) (r := r) (z := z) ?_ ?_; rotate_left; clear_value z; intro _; rotate_left; unfold z; clear z)
         | (have _ : _ → _ → State := z; unfold z; clear z)
         | clear_value z)
      | with_reducible apply sleepRec_apart
      | with_reducible apply askWake_apart
      | with_reducible apply endFree_apart
      | with_reducible apply State.updDie_apart
      | split

theorem sleepRecOnce_apart {m : Bool} {r : State} (s : State) (die kind detail : Nat) (h : Apart m r s) :
    Apart m r (sleepRecOnce s die kind detail) := by
  unfold sleepRecOnce
  repeat' first
      | with_reducible assumption
      | ((fail_if_success fail_if_success (conv => arg 3; arg 3)); with_reducible apply Apart.ite)
      | with_reducible apply sleepRec_apart

theorem execSleepCheck_apart {m : Bool} {r : State} (die : Nat) (volts : List Int) (found : CheckRound) (s : State) (h : Apart m r s) :
    ApartO m r (execSleepCheck die volts found s) := by
  unfold execSleepCheck
  repeat' first
      | with_reducible assumption
      | (intro _; with_reducible rfl)
      | intro _
      | ((fail_if_success fail_if_success (conv => arg 3; arg 3)); with_reducible apply Apart.ite)
      | (extract_lets +onlyGivenNames z; refine Apart.cut (m := m) (r := r) (z := z) ?_ ?_; rotate_left; clear_value z; intro _; rotate_left; unfold z; clear z)
      | with_reducible apply sleepCell_apart
      | with_reducible apply sleepGuard_apart
      | with_reducible apply sleepRecOnce_apart
      | with_reducible apply derate_apart
      | with_reducible apply sleepRec_apart
      | with_reducible apply askWake_apart
      | with_reducible apply State.updDie_apart
      | with_reducible apply Apart.onDie
      | with_reducible apply Apart.foldl
      | split

theorem execClock32kFault_apart {m : Bool} {r : State} (s : State) (h : Apart m r s) : ApartO m r (execClock32kFault s) := by
  unfold execClock32kFault
  repeat' first
      | with_reducible assumption
      | with_reducible exact id
      | (intro _; with_reducible rfl)
      | ((fail_if_success fail_if_success (conv => arg 3; arg 3)); with_reducible apply Apart.ite)
      | ((fail_if_success fail_if_success (conv => arg 3; arg 34)); with_reducible refine Apart.over ?_ rfl rfl ?_ ?_ ?_ ?_)
      | (extract_lets +onlyGivenNames z
         first
         | (refine Apart.cut (m := m) (r := r) (z := z) ?_ ?_; rotate_left; clear_value z; intro _; rotate_left; unfold z; clear z)
         | clear_value z)
      | with_reducible apply raise_apart
      | with_reducible apply carry_apart
      | with_reducible apply ApartO.next
      | with_reducible rfl

theorem execPllLock_apart {m : Bool} {r : State} (s : State) (h : Apart m r s) : ApartO m r (execPllLock s) := by
  unfold execPllLock
  repeat' first
      | with_reducible assumption
      | with_reducible exact id
      | (intro _; with_reducible rfl)
      | ((fail_if_success fail_if_success (conv => arg 3; arg 3)); with_reducible apply Apart.ite)
      | ((fail_if_success fail_if_success (conv => arg 3; arg 34)); with_reducible refine Apart.over ?_ rfl rfl ?_ ?_ ?_ ?_)
      | (extract_lets +onlyGivenNames z
         first
         | (refine Apart.cut (m := m) (r := r) (z := z) ?_ ?_; rotate_left; clear_value z; intro _; rotate_left; unfold z; clear z)
         | clear_value z)
      | with_reducible apply completeOp_apart
      | with_reducible apply ApartO.next
      | with_reducible rfl
      | split

theorem execPllUnlock_apart {m : Bool} {r : State} (which : Nat) (s : State) (h : Apart m r s) : ApartO m r (execPllUnlock which s) := by
  unfold execPllUnlock
  repeat' first
      | with_reducible assumption
      | with_reducible exact id
      | (intro _; with_reducible rfl)
      | ((fail_if_success fail_if_success (conv => arg 3; arg 3)); with_reducible apply Apart.ite)
      | ((fail_if_success fail_if_success (conv => arg 3; arg 34)); with_reducible refine Apart.over ?_ rfl rfl ?_ ?_ ?_ ?_)
      | (extract_lets +onlyGivenNames z; clear_value z)
      | with_reducible apply raise_apart
      | with_reducible apply ApartO.next
      | with_reducible rfl

theorem roundC_apart {m : Bool} {r : State} (s : State) (temp : Int) (h : Apart m r s) : Apart m r (roundC s temp) := by
  unfold roundC
  repeat' first
      | with_reducible assumption
      | with_reducible exact id
      | (intro _; with_reducible rfl)
      | ((fail_if_success fail_if_success (conv => arg 3; arg 3)); with_reducible apply Apart.ite)
      | ((fail_if_success fail_if_success (conv => arg 3; arg 34)); with_reducible refine Apart.over ?_ rfl rfl ?_ ?_ ?_ ?_)
      | (extract_lets +onlyGivenNames z
         first
         | (refine Apart.cut (m := m) (r := r) (z := z) ?_ ?_; rotate_left; clear_value z; intro _; rotate_left; unfold z; clear z)
         | clear_value z)
      | with_reducible apply thermMessages_apart
      | with_reducible apply throttle_apart
      | with_reducible apply stopC_apart
      | with_reducible rfl

theorem roundDie_apart {m : Bool} {r : State} (s : State) (d : SegDie) (temp : Int) (tripped refSettled : Bool) (h : Apart m r s) :
    Apart m r (roundDie s d temp tripped refSettled) := by
  unfold roundDie
  repeat' first
      | with_reducible assumption
      | (intro _; with_reducible rfl)
      | intro _
      | ((fail_if_success fail_if_success (conv => arg 3; arg 3)); with_reducible apply Apart.ite)
      | (extract_lets +onlyGivenNames z
         first
         | (refine Apart.cut (m := m) (r := r) (z := z) ?_ ?_; rotate_left; clear_value z; intro _; rotate_left; unfold z; clear z)
         | clear_value z)
      | with_reducible apply thermMessages_apart
      | with_reducible apply raise_apart
      | with_reducible apply derate_apart
      | with_reducible apply stopHot_apart
      | with_reducible apply cutOffHot_apart
      | with_reducible apply State.updDie_apart

theorem execHousekeepingRound_apart {m : Bool} {r : State} (die : Nat) (temp : Int) (tripped refSettled : Bool) (s : State)
    (h : Apart m r s) : ApartO m r (execHousekeepingRound die temp tripped refSettled s) := by
  unfold execHousekeepingRound
  repeat' first
      | with_reducible assumption
      | intro _
      | ((fail_if_success fail_if_success (conv => arg 3; arg 3)); with_reducible apply Apart.ite)
      | ((fail_if_success fail_if_success (conv => arg 3; arg 3)); with_reducible apply ApartO.ite)
      | with_reducible apply roundC_apart
      | with_reducible apply roundDie_apart
      | with_reducible apply ApartO.next
      | with_reducible apply Apart.onDie

theorem execThermalLevel_apart {m : Bool} {r : State} (die level : Nat) (upward : Bool) (s : State) (h : Apart m r s) :
    ApartO m r (execThermalLevel die level upward s) := by
  unfold execThermalLevel
  repeat' first
      | with_reducible assumption
      | with_reducible exact id
      | (intro _; with_reducible rfl)
      | intro _
      | ((fail_if_success fail_if_success (conv => arg 3; arg 3)); with_reducible apply Apart.ite)
      | ((fail_if_success fail_if_success (conv => arg 3; arg 3)); with_reducible apply ApartO.ite)
      | ((fail_if_success fail_if_success (conv => arg 3; arg 34)); with_reducible refine Apart.over ?_ rfl rfl ?_ ?_ ?_ ?_)
      | (extract_lets +onlyGivenNames z; clear_value z)
      | with_reducible apply raise_apart
      | with_reducible apply State.updDie_apart
      | with_reducible apply ApartO.next
      | with_reducible apply Apart.onDie
      | with_reducible rfl

theorem execThermalRestart_apart {m : Bool} {r : State} (die : Nat) (s : State) (h : Apart m r s) :
    ApartO m r (execThermalRestart die s) := by
  unfold execThermalRestart
  repeat' first
      | with_reducible assumption
      | (intro _; with_reducible rfl)
      | intro _
      | ((fail_if_success fail_if_success (conv => arg 3; arg 3)); with_reducible apply Apart.ite)
      | ((fail_if_success fail_if_success (conv => arg 3; arg 3)); with_reducible apply ApartO.ite)
      | (extract_lets +onlyGivenNames z; refine Apart.cut (m := m) (r := r) (z := z) ?_ ?_; rotate_left; clear_value z; intro _; rotate_left; unfold z; clear z)
      | with_reducible apply wakeUp_apart
      | with_reducible apply carry_apart
      | with_reducible apply restartDie_apart
      | with_reducible apply raise_apart
      | with_reducible apply State.updDie_apart
      | with_reducible apply ApartO.next
      | with_reducible apply Apart.onDie

theorem execSegmentSupplyLow_apart {m : Bool} {r : State} (die : Nat) (s : State) (h : Apart m r s) :
    ApartO m r (execSegmentSupplyLow die s) := by
  unfold execSegmentSupplyLow
  repeat' first
      | with_reducible assumption
      | intro _
      | ((fail_if_success fail_if_success (conv => arg 3; arg 3)); with_reducible apply Apart.ite)
      | with_reducible apply State.updDie_apart
      | with_reducible apply Apart.onDie
      | rfl

theorem trimAgain_apart {m : Bool} {r : State} (s : State) (d : SegDie) (h : Apart m r s) : Apart m r (trimAgain s d) := by
  unfold trimAgain
  repeat' first
      | with_reducible assumption
      | ((fail_if_success fail_if_success (conv => arg 3; arg 3)); with_reducible apply Apart.ite)
      | with_reducible apply trimFails_apart

theorem execSegmentSupplyRestart_apart {m : Bool} {r : State} (die : Nat) (s : State) (h : Apart m r s) :
    ApartO m r (execSegmentSupplyRestart die s) := by
  unfold execSegmentSupplyRestart
  repeat' first
      | with_reducible assumption
      | intro _
      | ((fail_if_success fail_if_success (conv => arg 3; arg 3)); with_reducible apply Apart.ite)
      | with_reducible apply trimAgain_apart
      | with_reducible apply State.updDie_apart
      | with_reducible apply Apart.onDie
      | rfl

theorem execCoreSupplyReset_apart {r : State} (die : Nat) (s : State) (h : Apart false r s) :
    ApartO false r (execCoreSupplyReset die s) := by
  unfold execCoreSupplyReset
  repeat' first
      | with_reducible assumption
      | with_reducible exact id
      | (intro e; cases e)
      | ((fail_if_success fail_if_success (conv => arg 3; arg 3)); with_reducible apply Apart.ite)
      | ((fail_if_success fail_if_success (conv => arg 3; arg 3)); with_reducible apply ApartO.ite)
      | ((fail_if_success fail_if_success (conv => arg 3; arg 34)); with_reducible refine Apart.over ?_ rfl rfl ?_ ?_ ?_ ?_)
      | (extract_lets +onlyGivenNames z
         first
         | (have _ : SegDie := z; unfold z; clear z)
         | clear_value z)
      | with_reducible apply partReset_apart
      | with_reducible apply trimAgain_apart
      | with_reducible apply State.updDie_apart
      | with_reducible apply ApartO.next
      | with_reducible apply Apart.onDie
      | with_reducible rfl
      | split
      | rfl

end Sys2Proof.Machine
end

