-- ==== Sys2Proof/Laws/ApartRadioRows.lean ====
section
/-! SUPPORT. Each operation of Machine/RadioRows keeps `Apart`. -/
set_option Elab.async false
set_option linter.unusedTactic false
namespace Sys2Proof.Machine

theorem radioSend_apart {m : Bool} {r : State} (s : State) (kind dest : Nat) (ack : Bool) (payload : List Byte) (h : Apart m r s) :
    Apart m r (radioSend s kind dest ack payload) := by
  unfold radioSend
  repeat' first
      | with_reducible assumption
      | with_reducible exact id
      | (intro _; with_reducible rfl)
      | ((fail_if_success fail_if_success (conv => arg 3; arg 34)); with_reducible refine Apart.over ?_ rfl rfl ?_ ?_ ?_ ?_)
      | (extract_lets +onlyGivenNames z
         first
         | (refine Apart.cut (m := m) (r := r) (z := z) ?_ ?_; rotate_left; clear_value z; intro _; rotate_left; unfold z; clear z)
         | clear_value z)
      | with_reducible apply emit_apart
      | with_reducible apply setPeer_apart
      | with_reducible rfl
      | split

theorem alarmSlot_apart {m : Bool} {r : State} (s : State) (k : Nat) (h : Apart m r s) : Apart m r (alarmSlot s k) := by
  unfold alarmSlot
  repeat' first
      | with_reducible assumption
      | with_reducible exact id
      | (intro _; with_reducible rfl)
      | ((fail_if_success fail_if_success (conv => arg 3; arg 34)); with_reducible refine Apart.over ?_ rfl rfl ?_ ?_ ?_ ?_)
      | (extract_lets +onlyGivenNames z; clear_value z)
      | with_reducible apply radioSend_apart
      | with_reducible rfl
      | split

theorem dataSlot_apart {m : Bool} {r : State} (s : State) (k : Nat) (h : Apart m r s) : Apart m r (dataSlot s k) := by
  unfold dataSlot
  repeat' first
      | with_reducible assumption
      | with_reducible exact id
      | (intro _; with_reducible rfl)
      | ((fail_if_success fail_if_success (conv => arg 3; arg 3)); with_reducible apply Apart.ite)
      | ((fail_if_success fail_if_success (conv => arg 3; arg 34)); with_reducible refine Apart.over ?_ rfl rfl ?_ ?_ ?_ ?_)
      | (extract_lets +onlyGivenNames z
         first
         | (refine Apart.cut (m := m) (r := r) (z := z) ?_ ?_; rotate_left; clear_value z; intro _; rotate_left; unfold z; clear z)
         | clear_value z)
      | with_reducible apply radioSend_apart
      | with_reducible rfl
      | split

theorem execRadioSlot_apart {m : Bool} {r : State} (s : State) (h : Apart m r s) : ApartO m r (execRadioSlot s) := by
  unfold execRadioSlot
  repeat' first
      | with_reducible assumption
      | with_reducible exact id
      | (intro _; with_reducible rfl)
      | ((fail_if_success fail_if_success (conv => arg 3; arg 3)); with_reducible apply Apart.ite)
      | ((fail_if_success fail_if_success (conv => arg 3; arg 34)); with_reducible refine Apart.over ?_ rfl rfl ?_ ?_ ?_ ?_)
      | (extract_lets +onlyGivenNames z
         first
         | (refine Apart.cut (m := m) (r := r) (z := z) ?_ ?_; rotate_left; clear_value z; intro _; rotate_left; unfold z; clear z)
         | clear_value z)
      | with_reducible apply radioSend_apart
      | with_reducible apply alarmSlot_apart
      | with_reducible apply dataSlot_apart
      | with_reducible apply ApartO.next
      | with_reducible rfl

theorem radioIn_apart {m : Bool} {r : State} (s : State) (src counter : Nat) (good : Bool) (use : State → State) (h : Apart m r s)
    (g4 : ∀ u0, Apart m r u0 → Apart m r (use u0)) : Apart m r (radioIn s src counter good use) := by
  unfold radioIn
  repeat' first
      | with_reducible assumption
      | ((fail_if_success fail_if_success (conv => arg 3; arg 3)); with_reducible apply Apart.ite)
      | (extract_lets +onlyGivenNames z
         first
         | (refine Apart.cut (m := m) (r := r) (z := z) ?_ ?_; rotate_left; clear_value z; intro _; rotate_left; unfold z; clear z)
         | clear_value z)
      | with_reducible apply g4
      | with_reducible apply raise_apart
      | with_reducible apply State.draw_apart
      | with_reducible apply setPeer_apart

theorem execRadioBeacon_apart {m : Bool} {r : State} (src counter : Nat) (micGood : Bool) (_time chainId : Nat) (s : State)
    (h : Apart m r s) : ApartO m r (execRadioBeacon src counter micGood _time chainId s) := by
  unfold execRadioBeacon
  repeat' first
      | with_reducible assumption
      | intro _
      | with_reducible apply radioIn_apart
      | with_reducible apply ApartO.next
      | exact ‹Apart _ _ _›

theorem execRadioAlarmFrame_apart {m : Bool} {r : State} (src counter : Nat) (micGood : Bool) (msg : BitVec 32) (time : Nat) (s : State)
    (h : Apart m r s) : ApartO m r (execRadioAlarmFrame src counter micGood msg time s) := by
  unfold execRadioAlarmFrame
  repeat' first
      | with_reducible assumption
      | intro _
      | with_reducible apply radioIn_apart
      | with_reducible apply alarmIn_apart
      | with_reducible apply ApartO.next

theorem execRadioDataFrame_apart {m : Bool} {r : State} (src counter : Nat) (micGood : Bool) (stream tid offset : Nat) (data : List Byte)
    (s : State) (h : Apart m r s) : ApartO m r (execRadioDataFrame src counter micGood stream tid offset data s) := by
  unfold execRadioDataFrame
  repeat' first
      | with_reducible assumption
      | intro _
      | with_reducible apply radioIn_apart
      | with_reducible apply bulkIn_apart
      | with_reducible apply emit_apart
      | with_reducible apply ApartO.next

theorem execRadioAcknowledgement_apart {m : Bool} {r : State} (src : Nat) (arrived : Bool) (s : State) (h : Apart m r s) :
    ApartO m r (execRadioAcknowledgement src arrived s) := by
  unfold execRadioAcknowledgement
  repeat' first
      | with_reducible assumption
      | with_reducible exact id
      | (intro _; with_reducible rfl)
      | ((fail_if_success fail_if_success (conv => arg 3; arg 3)); with_reducible apply Apart.ite)
      | ((fail_if_success fail_if_success (conv => arg 3; arg 34)); with_reducible refine Apart.over ?_ rfl rfl ?_ ?_ ?_ ?_)
      | (extract_lets +onlyGivenNames z
         first
         | (refine Apart.cut (m := m) (r := r) (z := z) ?_ ?_; rotate_left; clear_value z; intro _; rotate_left; unfold z; clear z)
         | clear_value z)
      | with_reducible apply setPeer_apart
      | with_reducible apply ApartO.next
      | with_reducible rfl
      | split

end Sys2Proof.Machine
end

