-- ==== Sys2Proof/Laws/ApartSenseRows.lean ====
section
/-! SUPPORT. Each operation of Machine/SenseRows keeps `Apart`. -/
set_option Elab.async false
set_option linter.unusedTactic false
namespace Sys2Proof.Machine

theorem execSetOpenTap_apart {m : Bool} {r : State} (h0 : Hdr) (mode otperiod jumpthr : Nat) (s : State) (h : Apart m r s) :
    ApartO m r (execSetOpenTap h0 mode otperiod jumpthr s) := by
  unfold execSetOpenTap
  repeat' first
      | with_reducible assumption
      | intro _
      | with_reducible apply runCmd_apart
      | with_reducible apply switchCmd_apart
      | with_reducible apply ApartO.next

theorem execProbeTap_apart {m : Bool} {r : State} (h0 : Hdr) (die tap : Nat) (s : State) (h : Apart m r s) :
    ApartO m r (execProbeTap h0 die tap s) := by
  unfold execProbeTap
  repeat' first
      | with_reducible assumption
      | (intro _; with_reducible rfl)
      | intro _
      | ((fail_if_success fail_if_success (conv => arg 3; arg 3)); with_reducible apply Apart.ite)
      | with_reducible apply runCmd_apart
      | with_reducible apply refuse_apart
      | with_reducible apply State.updDie_apart
      | with_reducible apply ApartO.next
      | split

theorem execGetSenseStatus_apart {m : Bool} {r : State} (h0 : Hdr) (s : State) (h : Apart m r s) :
    ApartO m r (execGetSenseStatus h0 s) := by
  unfold execGetSenseStatus
  repeat' first
      | with_reducible assumption
      | intro _
      | with_reducible apply runCmd_apart
      | with_reducible apply reply_apart
      | with_reducible apply ApartO.next

theorem finishRuns_apart {m : Bool} {r : State} (s : State) (h : Apart m r s) : Apart m r (finishRuns s) := by
  unfold finishRuns
  repeat' first
      | with_reducible assumption
      | with_reducible exact id
      | (intro _; with_reducible rfl)
      | intro _
      | ((fail_if_success fail_if_success (conv => arg 3; arg 34)); with_reducible refine Apart.over ?_ rfl rfl ?_ ?_ ?_ ?_)
      | (extract_lets +onlyGivenNames z; clear_value z)
      | with_reducible apply completeOp_apart
      | with_reducible apply Apart.foldl
      | with_reducible rfl

theorem noteTest_apart {m : Bool} {r : State} (s : State) (die group : Nat) (leak : Bool) (b : List Byte) (h : Apart m r s) :
    Apart m r (noteTest s die group leak b) := by
  unfold noteTest
  repeat' first
      | with_reducible assumption
      | with_reducible exact id
      | (intro _; with_reducible rfl)
      | ((fail_if_success fail_if_success (conv => arg 3; arg 34)); with_reducible refine Apart.over ?_ rfl rfl ?_ ?_ ?_ ?_)
      | (extract_lets +onlyGivenNames z; clear_value z)
      | with_reducible apply finishRuns_apart
      | with_reducible rfl

theorem startGroup_apart {m : Bool} {r : State} (s : State) (die group : Nat) (leak : Bool) (h : Apart m r s) :
    Apart m r (startGroup s die group leak) := by
  unfold startGroup
  repeat' first
      | with_reducible assumption
      | with_reducible apply State.updDolly_apart

theorem commandGroup_apart {m : Bool} {r : State} (leak : Bool) (die : Nat) (s : State) (group : Nat) (h : Apart m r s) :
    Apart m r (commandGroup leak die s group) := by
  unfold commandGroup
  repeat' first
      | with_reducible assumption
      | ((fail_if_success fail_if_success (conv => arg 3; arg 3)); with_reducible apply Apart.ite)
      | (extract_lets +onlyGivenNames z; have _ : _ → State := z; unfold z; clear z)
      | with_reducible apply noteTest_apart
      | with_reducible apply startGroup_apart
      | split

theorem startRun_apart {m : Bool} {r : State} (s : State) (h1 : Hdr) (leak : Bool) (mask : Nat) (h : Apart m r s) :
    Apart m r (startRun s h1 leak mask) := by
  unfold startRun
  repeat' first
      | with_reducible assumption
      | with_reducible exact id
      | (intro _; with_reducible rfl)
      | intro _
      | ((fail_if_success fail_if_success (conv => arg 3; arg 34)); with_reducible refine Apart.over ?_ rfl rfl ?_ ?_ ?_ ?_)
      | (extract_lets +onlyGivenNames z
         first
         | (refine Apart.cut (m := m) (r := r) (z := z) ?_ ?_; rotate_left; clear_value z; intro _; rotate_left; unfold z; clear z)
         | clear_value z)
      | with_reducible apply finishRuns_apart
      | with_reducible apply commandGroup_apart
      | with_reducible apply Apart.foldl
      | with_reducible rfl

theorem execRunMatrixTest_apart {m : Bool} {r : State} (h0 : Hdr) (dieMask : Nat) (s : State) (h : Apart m r s) :
    ApartO m r (execRunMatrixTest h0 dieMask s) := by
  unfold execRunMatrixTest
  repeat' first
      | with_reducible assumption
      | intro _
      | ((fail_if_success fail_if_success (conv => arg 3; arg 3)); with_reducible apply Apart.ite)
      | with_reducible apply runCmd_apart
      | with_reducible apply refuse_apart
      | with_reducible apply startOp_apart
      | with_reducible apply startRun_apart
      | with_reducible apply ApartO.next

theorem execRunLeakageTest_apart {m : Bool} {r : State} (h0 : Hdr) (dieMask leakthr cin : Nat) (s : State) (h : Apart m r s) :
    ApartO m r (execRunLeakageTest h0 dieMask leakthr cin s) := by
  unfold execRunLeakageTest
  repeat' first
      | with_reducible assumption
      | with_reducible exact id
      | (intro _; with_reducible rfl)
      | intro _
      | ((fail_if_success fail_if_success (conv => arg 3; arg 3)); with_reducible apply Apart.ite)
      | ((fail_if_success fail_if_success (conv => arg 3; arg 34)); with_reducible refine Apart.over ?_ rfl rfl ?_ ?_ ?_ ?_)
      | (extract_lets +onlyGivenNames z; clear_value z)
      | with_reducible apply runCmd_apart
      | with_reducible apply refuse_apart
      | with_reducible apply startOp_apart
      | with_reducible apply startRun_apart
      | with_reducible apply ApartO.next
      | with_reducible rfl

theorem execSetThermistors_apart {m : Bool} {r : State} (h0 : Hdr) (die mask openlim shortlim : Nat) (s : State) (h : Apart m r s) :
    ApartO m r (execSetThermistors h0 die mask openlim shortlim s) := by
  unfold execSetThermistors
  repeat' first
      | with_reducible assumption
      | (intro _; with_reducible rfl)
      | intro _
      | with_reducible apply runCmd_apart
      | with_reducible apply refuse_apart
      | with_reducible apply reply_apart
      | with_reducible apply State.updDie_apart
      | with_reducible apply ApartO.next
      | split

theorem probeGates_apart {m : Bool} {r : State} (s : State) (die tap : Nat) (t : Tick) (h : Apart m r s) :
    Apart m r (probeGates s die tap t) := by
  unfold probeGates
  repeat' first
      | with_reducible assumption
      | with_reducible apply noteGateAt_apart

theorem execOpenTapProbeStart_apart {m : Bool} {r : State} (die : Nat) (baseline : ProbeReading) (current : Int) (s : State)
    (h : Apart m r s) : ApartO m r (execOpenTapProbeStart die baseline current s) := by
  unfold execOpenTapProbeStart
  repeat' first
      | with_reducible assumption
      | (intro _; with_reducible rfl)
      | intro _
      | ((fail_if_success fail_if_success (conv => arg 3; arg 3)); with_reducible apply Apart.ite)
      | (extract_lets +onlyGivenNames z; clear_value z)
      | with_reducible apply probeGates_apart
      | with_reducible apply State.updDie_apart
      | with_reducible apply Apart.onDie
      | split

theorem judgeCell_apart {m : Bool} {r : State} (s : State) (die cell : Nat) (restore : Int) (h : Apart m r s) :
    Apart m r (judgeCell s die cell restore) := by
  unfold judgeCell
  repeat' first
      | with_reducible assumption
      | (intro _; with_reducible rfl)
      | ((fail_if_success fail_if_success (conv => arg 3; arg 3)); with_reducible apply Apart.ite)
      | with_reducible apply raise_apart
      | with_reducible apply State.updDie_apart
      | split

theorem tapConnected_apart {m : Bool} {r : State} (s : State) (die tap : Nat) (restore : ProbeReading) (h : Apart m r s) :
    Apart m r (tapConnected s die tap restore) := by
  unfold tapConnected
  repeat' first
      | with_reducible assumption
      | (intro _; with_reducible rfl)
      | (extract_lets +onlyGivenNames z; refine Apart.cut (m := m) (r := r) (z := z) ?_ ?_; rotate_left; clear_value z; intro _; rotate_left; unfold z; clear z)
      | with_reducible apply judgeCell_apart
      | with_reducible apply State.updDie_apart

theorem tapOpen_apart {m : Bool} {r : State} (s : State) (die tap : Nat) (h : Apart m r s) : Apart m r (tapOpen s die tap) := by
  unfold tapOpen
  repeat' first
      | with_reducible assumption
      | (intro _; with_reducible rfl)
      | with_reducible apply raise_apart
      | with_reducible apply State.updDie_apart

theorem tapUnclear_apart {m : Bool} {r : State} (s : State) (die tap : Nat) (h : Apart m r s) : Apart m r (tapUnclear s die tap) := by
  unfold tapUnclear
  repeat' first
      | with_reducible assumption
      | (intro _; with_reducible rfl)
      | ((fail_if_success fail_if_success (conv => arg 3; arg 3)); with_reducible apply Apart.ite)
      | (extract_lets +onlyGivenNames z
         first
         | (refine Apart.cut (m := m) (r := r) (z := z) ?_ ?_; rotate_left; clear_value z; intro _; rotate_left; unfold z; clear z)
         | clear_value z)
      | with_reducible apply raise_apart
      | with_reducible apply State.updDie_apart

theorem probeRetry_apart {m : Bool} {r : State} (s : State) (die : Nat) (p : Probe) (h : Apart m r s) : Apart m r (probeRetry s die p) := by
  unfold probeRetry
  repeat' first
      | with_reducible assumption
      | (intro _; with_reducible rfl)
      | intro _
      | ((fail_if_success fail_if_success (conv => arg 3; arg 3)); with_reducible apply Apart.ite)
      | (extract_lets +onlyGivenNames z; refine Apart.cut (m := m) (r := r) (z := z) ?_ ?_; rotate_left; clear_value z; intro _; rotate_left; unfold z; clear z)
      | with_reducible apply refuse_apart
      | with_reducible apply State.updDie_apart
      | with_reducible rfl
      | split

theorem execOpenTapVerdict_apart {m : Bool} {r : State} (die : Nat) (check restore : ProbeReading) (current : Int) (s : State)
    (h : Apart m r s) : ApartO m r (execOpenTapVerdict die check restore current s) := by
  unfold execOpenTapVerdict
  repeat' first
      | with_reducible assumption
      | (intro _; with_reducible rfl)
      | intro _
      | ((fail_if_success fail_if_success (conv => arg 3; arg 3)); with_reducible apply Apart.ite)
      | (extract_lets +onlyGivenNames z
         first
         | (refine Apart.cut (m := m) (r := r) (z := z) ?_ ?_; rotate_left; clear_value z; intro _; rotate_left; unfold z; clear z)
         | clear_value z)
      | with_reducible apply probeGates_apart
      | with_reducible apply finishClear_apart
      | with_reducible apply probeRetry_apart
      | with_reducible apply tapConnected_apart
      | with_reducible apply tapOpen_apart
      | with_reducible apply tapUnclear_apart
      | with_reducible apply reply_apart
      | with_reducible apply State.updDie_apart
      | with_reducible apply Apart.onDie
      | split

theorem execRefXcheckBlock_apart {m : Bool} {r : State} (die : Nat) (s : State) (h : Apart m r s) :
    ApartO m r (execRefXcheckBlock die s) := by
  unfold execRefXcheckBlock
  repeat' first
      | with_reducible assumption
      | (intro _; with_reducible rfl)
      | intro _
      | ((fail_if_success fail_if_success (conv => arg 3; arg 3)); with_reducible apply Apart.ite)
      | (extract_lets +onlyGivenNames z; refine Apart.cut (m := m) (r := r) (z := z) ?_ ?_; rotate_left; clear_value z; intro _; rotate_left; unfold z; clear z)
      | with_reducible apply startXcheck_apart
      | with_reducible apply State.updDie_apart
      | with_reducible apply Apart.onDie

theorem matrixEnd_apart {m : Bool} {r : State} (s : State) (die group : Nat) (t : GroupTest) (h : Apart m r s) :
    Apart m r (matrixEnd s die group t) := by
  unfold matrixEnd
  repeat' first
      | with_reducible assumption
      | ((fail_if_success fail_if_success (conv => arg 3; arg 3)); with_reducible apply Apart.ite)
      | (extract_lets +onlyGivenNames z
         first
         | (refine Apart.cut (m := m) (r := r) (z := z) ?_ ?_; rotate_left; clear_value z; intro _; rotate_left; unfold z; clear z)
         | clear_value z)
      | with_reducible apply State.updDolly_apart
      | with_reducible apply raise_apart
      | with_reducible apply noteTest_apart
      | with_reducible apply finishClear_apart
      | with_reducible apply startGroup_apart

theorem execMatrixTestStep_apart {m : Bool} {r : State} (die group vcs seen : Nat) (s : State) (h : Apart m r s) :
    ApartO m r (execMatrixTestStep die group vcs seen s) := by
  unfold execMatrixTestStep
  repeat' first
      | with_reducible assumption
      | intro _
      | ((fail_if_success fail_if_success (conv => arg 3; arg 3)); with_reducible apply Apart.ite)
      | (extract_lets +onlyGivenNames z; clear_value z)
      | with_reducible apply matrixEnd_apart
      | with_reducible apply State.updDolly_apart
      | with_reducible apply Apart.onDie
      | split

theorem execLeakageTestEnd_apart {m : Bool} {r : State} (die group v0 v1 : Nat) (s : State) (h : Apart m r s) :
    ApartO m r (execLeakageTestEnd die group v0 v1 s) := by
  unfold execLeakageTestEnd
  repeat' first
      | with_reducible assumption
      | intro _
      | ((fail_if_success fail_if_success (conv => arg 3; arg 3)); with_reducible apply Apart.ite)
      | (extract_lets +onlyGivenNames z
         first
         | (refine Apart.cut (m := m) (r := r) (z := z) ?_ ?_; rotate_left; clear_value z; intro _; rotate_left; unfold z; clear z)
         | clear_value z)
      | with_reducible apply State.updDolly_apart
      | with_reducible apply raise_apart
      | with_reducible apply noteTest_apart
      | with_reducible apply Apart.onDie
      | split

theorem execGroupTestDue_apart {m : Bool} {r : State} (die group : Nat) (s : State) (h : Apart m r s) :
    ApartO m r (execGroupTestDue die group s) := by
  unfold execGroupTestDue
  repeat' first
      | with_reducible assumption
      | intro _
      | ((fail_if_success fail_if_success (conv => arg 3; arg 3)); with_reducible apply Apart.ite)
      | (extract_lets +onlyGivenNames z; refine Apart.cut (m := m) (r := r) (z := z) ?_ ?_; rotate_left; clear_value z; intro _; rotate_left; unfold z; clear z)
      | with_reducible apply State.updDolly_apart
      | with_reducible apply startGroup_apart
      | with_reducible apply Apart.onDie
      | split

end Sys2Proof.Machine
end

