-- ==== Sys2Proof/Laws/ApartTick.lean ====
section
/-! SUPPORT. Each operation of Machine/Tick keeps `Apart`. -/
set_option Elab.async false
set_option linter.unusedTactic false
namespace Sys2Proof.Machine

theorem tick_apart {m : Bool} {r : State} (s : State) (h : Apart m r s) : Apart m r (tick s) := by
  unfold tick
  repeat' first
      | with_reducible assumption
      | with_reducible exact id
      | (intro _; with_reducible rfl)
      | intro _
      | ((fail_if_success fail_if_success (conv => arg 3; arg 34)); with_reducible refine Apart.over ?_ rfl rfl ?_ ?_ ?_ ?_)
      | (extract_lets +onlyGivenNames z; clear_value z)
      | with_reducible apply abortCycle_apart
      | with_reducible apply codes_map
      | rfl

end Sys2Proof.Machine
end

