-- ==== Sys2Proof/Laws/Asked.lean ====
section
/-! SUPPORT. What is asked of a state is answered the same once a command has left the queue of those taken, or once a transaction was
accepted. -/
set_option Elab.async false
namespace Sys2Proof.Machine

@[simp] theorem formBlock_of_dequeue (s : State) (d : SegDie) (h : Hdr) (op : Nat) : formBlock (dequeue s h op) d = formBlock s d := rfl
@[simp] theorem leadsClap_of_dequeue (s : State) (h : Hdr) (op : Nat) : leadsClap (dequeue s h op) = leadsClap s := rfl
@[simp] theorem entryOf_of_dequeue (s : State) (addr : Nat) (h : Hdr) (op : Nat) : entryOf (dequeue s h op) addr = entryOf s addr := rfl
@[simp] theorem opOf_of_dequeue (s : State) (h : Hdr) (hq : Hdr) (op : Nat) : opOf (dequeue s hq op) h = opOf s h := rfl
@[simp] theorem rhoConverged_of_dequeue (s : State) (h : Hdr) (op : Nat) : rhoConverged (dequeue s h op) = rhoConverged s := rfl
@[simp] theorem sessionOf_of_dequeue (s : State) (head : Nat) (h : Hdr) (op : Nat) : sessionOf (dequeue s h op) head = sessionOf s head := rfl
@[simp] theorem roundsOf_of_dequeue (s : State) (source mask : Nat) (h : Hdr) (op : Nat) :
    roundsOf (dequeue s h op) source mask = roundsOf s source mask := rfl
@[simp] theorem auxSlow_of_dequeue (s : State) (die input : Nat) (h : Hdr) (op : Nat) :
    auxSlow (dequeue s h op) die input = auxSlow s die input := rfl
@[simp] theorem checkRuns_of_dequeue (s : State) (die : Nat) (c : Cause) (h : Hdr) (op : Nat) :
    checkRuns (dequeue s h op) die c = checkRuns s die c := rfl
@[simp] theorem mapFlags_of_dequeue (s : State) (addr : Nat) (head locked : Bool) (ports : Nat) (h : Hdr) (op : Nat) :
    mapFlags (dequeue s h op) addr head locked ports = mapFlags s addr head locked ports := rfl
@[simp] theorem causePersists_of_dequeue (s : State) (kind die detail : Nat) (h : Hdr) (op : Nat) :
    causePersists (dequeue s h op) kind die detail = causePersists s kind die detail := rfl
@[simp] theorem lifeInUse_of_dequeue (s : State) (h : Hdr) (op : Nat) : lifeInUse (dequeue s h op) = lifeInUse s := rfl
@[simp] theorem hopDelay_of_dequeue (s : State) (port : Nat) (h : Hdr) (op : Nat) : hopDelay (dequeue s h op) port = hopDelay s port := rfl
@[simp] theorem outputsByte_of_dequeue (s : State) (h : Hdr) (op : Nat) : outputsByte (dequeue s h op) = outputsByte s := rfl
@[simp] theorem heartbeatState_of_dequeue (s : State) (h : Hdr) (op : Nat) : heartbeatState (dequeue s h op) = heartbeatState s := rfl
@[simp] theorem ownFirst_of_dequeue (s : State) (h : Hdr) (op : Nat) : ownFirst (dequeue s h op) = ownFirst s := rfl
@[simp] theorem stampCal_of_dequeue (s : State) (r : CalRecord) (h : Hdr) (op : Nat) : stampCal (dequeue s h op) r = stampCal s r := rfl
@[simp] theorem chargeSamples_of_dequeue (s : State) (h : Hdr) (op : Nat) : chargeSamples (dequeue s h op) = chargeSamples s := rfl
@[simp] theorem cellOf_of_dequeue (s : State) (n : Nat) (h : Hdr) (op : Nat) : cellOf (dequeue s h op) n = cellOf s n := rfl
@[simp] theorem frameBad_of_dequeue (s : State) (f : Frame) (h : Hdr) (op : Nat) : frameBad (dequeue s h op) f = frameBad s f := rfl
@[simp] theorem chainState_of_dequeue (s : State) (h : Hdr) (op : Nat) : chainState (dequeue s h op) = chainState s := rfl
@[simp] theorem windowOver_of_dequeue (s : State) (a : Arb) (h : Hdr) (op : Nat) : windowOver (dequeue s h op) a = windowOver s a := rfl
@[simp] theorem keyTag_of_dequeue (s : State) (h : Hdr) (op : Nat) : keyTag (dequeue s h op) = keyTag s := rfl
@[simp] theorem blockDie_of_dequeue (s : State) (f : ImpDef) (r : ImpRun) (senses : List SenseRun) (x : PointDie) (h : Hdr) (op : Nat) :
    blockDie (dequeue s h op) f r senses x = blockDie s f r senses x := rfl
@[simp] theorem takeMask_of_dequeue (s : State) (t : Take) (h : Hdr) (op : Nat) : takeMask (dequeue s h op) t = takeMask s t := rfl
@[simp] theorem classOf_of_dequeue (s : State) (kind : Nat) (h : Hdr) (op : Nat) : classOf (dequeue s h op) kind = classOf s kind := rfl
@[simp] theorem keepForFallback_of_dequeue (s : State) (h : Hdr) (op : Nat) : keepForFallback (dequeue s h op) = keepForFallback s := rfl
@[simp] theorem ownSource_of_dequeue (s : State) (h : Hdr) (op : Nat) : ownSource (dequeue s h op) = ownSource s := rfl
@[simp] theorem edgeSelected_of_dequeue (s : State) (rising : Bool) (h : Hdr) (op : Nat) :
    edgeSelected (dequeue s h op) rising = edgeSelected s rising := rfl
@[simp] theorem currentBlock_of_dequeue (s : State) (t : Take) (h : Hdr) (op : Nat) : currentBlock (dequeue s h op) t = currentBlock s t := rfl
@[simp] theorem calRecord_of_dequeue (s : State) (kind die input modegr gain : Nat) (offset : Int) (h : Hdr) (op : Nat) :
    calRecord (dequeue s h op) kind die input modegr gain offset = calRecord s kind die input modegr gain offset := rfl
@[simp] theorem calGate_of_dequeue (s : State) (die : Nat) (h : Hdr) (op : Nat) : calGate (dequeue s h op) die = calGate s die := rfl
@[simp] theorem packStep_of_dequeue (s : State) (h : Hdr) (op : Nat) : packStep (dequeue s h op) = packStep s := rfl
@[simp] theorem lastDiag_of_dequeue (s : State) (d : SegDie) (h : Hdr) (op : Nat) : lastDiag (dequeue s h op) d = lastDiag s d := rfl
@[simp] theorem graceStep_of_dequeue (s : State) (c : Comp) (uv : Int) (g : Grace) (h : Hdr) (op : Nat) :
    graceStep (dequeue s h op) c uv g = graceStep s c uv g := rfl
@[simp] theorem depsUpTo_of_dequeue (s : State) (t : Take) (h : Hdr) (op : Nat) : depsUpTo (dequeue s h op) t = depsUpTo s t := rfl
@[simp] theorem findWindow_of_dequeue (s : State) (die : Nat) (p : Window → Bool) (h : Hdr) (op : Nat) :
    findWindow (dequeue s h op) die p = findWindow s die p := rfl
@[simp] theorem frameStart_of_dequeue (s : State) (h : Hdr) (op : Nat) : frameStart (dequeue s h op) = frameStart s := rfl
@[simp] theorem inDisc_of_dequeue (s : State) (n : Nat) (h : Hdr) (op : Nat) : inDisc (dequeue s h op) n = inDisc s n := rfl
@[simp] theorem candidates_of_dequeue (s : State) (d : SegDie) (j : Nat) (es : List (Nat × Int)) (h : Hdr) (op : Nat) :
    candidates (dequeue s h op) d j es = candidates s d j es := rfl
@[simp] theorem inFlashStep_of_dequeue (s : State) (h : Hdr) (hq : Hdr) (op : Nat) : inFlashStep (dequeue s hq op) h = inFlashStep s h := rfl
@[simp] theorem positionOf_of_dequeue (s : State) (f : FrameHdr) (h : Hdr) (op : Nat) : positionOf (dequeue s h op) f = positionOf s f := rfl
@[simp] theorem proofGood_of_dequeue (s : State) (h : Hdr) (op : Nat) (pre : List Byte) (p : Proof) (hq : Hdr) (oq : Nat) :
    proofGood (dequeue s hq oq) h op pre p = proofGood s h op pre p := rfl
@[simp] theorem judge_of_dequeue (s : State) (read quad : Bool) (a n clocks : Nat) (crcOk refused : Bool) (h : Hdr) (op : Nat) :
    judge (dequeue s h op) read quad a n clocks crcOk refused = judge s read quad a n clocks crcOk refused := rfl
@[simp] theorem sweepsQuiet_of_dequeue (s : State) (h : Hdr) (op : Nat) : sweepsQuiet (dequeue s h op) = sweepsQuiet s := rfl
@[simp] theorem nextProbe_of_dequeue (s : State) (d : SegDie) (h : Hdr) (op : Nat) : nextProbe (dequeue s h op) d = nextProbe s d := rfl
@[simp] theorem confirmedPlaces_of_dequeue (s : State) (h : Hdr) (op : Nat) : confirmedPlaces (dequeue s h op) = confirmedPlaces s := rfl
@[simp] theorem headerCheck_of_dequeue (s : State) (h : List Byte) (hq : Hdr) (op : Nat) : headerCheck (dequeue s hq op) h = headerCheck s h := rfl
@[simp] theorem irqstat_of_dequeue (s : State) (h : Hdr) (op : Nat) : irqstat (dequeue s h op) = irqstat s := rfl
@[simp] theorem lbReport_of_dequeue (s : State) (code : Nat) (h : Hdr) (op : Nat) : lbReport (dequeue s h op) code = lbReport s code := rfl
@[simp] theorem trackOf_of_dequeue (s : State) (addr : Nat) (h : Hdr) (op : Nat) : trackOf (dequeue s h op) addr = trackOf s addr := rfl
@[simp] theorem orderBlock_of_dequeue (s : State) (d : SegDie) (j : Nat) (y : Dolly) (mode cell : Nat) (h : Hdr) (op : Nat) :
    orderBlock (dequeue s h op) d j y mode cell = orderBlock s d j y mode cell := rfl
@[simp] theorem inactivePlace_of_dequeue (s : State) (target : Nat) (h : Hdr) (op : Nat) :
    inactivePlace (dequeue s h op) target = inactivePlace s target := rfl
@[simp] theorem clearCauses_of_dequeue (s : State) (die : Nat) (h : Hdr) (op : Nat) : clearCauses (dequeue s h op) die = clearCauses s die := rfl
@[simp] theorem mappedCells_of_dequeue (s : State) (h : Hdr) (op : Nat) : mappedCells (dequeue s h op) = mappedCells s := rfl
@[simp] theorem waitsDecision_of_dequeue (s : State) (cls kind : Nat) (h : Hdr) (op : Nat) :
    waitsDecision (dequeue s h op) cls kind = waitsDecision s cls kind := rfl
@[simp] theorem wdMs_of_dequeue (s : State) (t : Nat) (h : Hdr) (op : Nat) : wdMs (dequeue s h op) t = wdMs s t := rfl
@[simp] theorem urgIdle_of_dequeue (s : State) (d : SegDie) (h : Hdr) (op : Nat) : urgIdle (dequeue s h op) d = urgIdle s d := rfl
@[simp] theorem compHolds_of_dequeue (s : State) (die cell : Nat) (under : Bool) (h : Hdr) (op : Nat) :
    compHolds (dequeue s h op) die cell under = compHolds s die cell under := rfl
@[simp] theorem heldRecs_of_dequeue (s : State) (which : Nat) (h : Hdr) (op : Nat) : heldRecs (dequeue s h op) which = heldRecs s which := rfl
@[simp] theorem streamRoom_of_dequeue (s : State) (type n extra : Nat) (h : Hdr) (op : Nat) :
    streamRoom (dequeue s h op) type n extra = streamRoom s type n extra := rfl
@[simp] theorem portReady_of_dequeue (s : State) (h : Hdr) (op : Nat) : portReady (dequeue s h op) = portReady s := rfl
@[simp] theorem probeStand_of_dequeue (s : State) (d : SegDie) (input : Nat) (x : Sample) (h : Hdr) (op : Nat) :
    probeStand (dequeue s h op) d input x = probeStand s d input x := rfl
@[simp] theorem alignBlock_of_dequeue (s : State) (host : Bool) (b : Block) (h : Hdr) (op : Nat) :
    alignBlock (dequeue s h op) host b = alignBlock s host b := rfl
@[simp] theorem settlePack_of_dequeue (s : State) (h : Hdr) (op : Nat) : settlePack (dequeue s h op) = settlePack s := rfl
@[simp] theorem loginLocked_of_dequeue (s : State) (h : Hdr) (op : Nat) : loginLocked (dequeue s h op) = loginLocked s := rfl
@[simp] theorem portAsleep_of_dequeue (s : State) (h : Hdr) (op : Nat) : portAsleep (dequeue s h op) = portAsleep s := rfl
@[simp] theorem inside_of_dequeue (s : State) (under : Bool) (uv : Int) (h : Hdr) (op : Nat) :
    inside (dequeue s h op) under uv = inside s under uv := rfl
@[simp] theorem thermEntry_of_dequeue (s : State) (d : SegDie) (h : Hdr) (op : Nat) : thermEntry (dequeue s h op) d = thermEntry s d := rfl
@[simp] theorem lbSkip_of_dequeue (s : State) (env : List LbistEnv) (die : Nat) (h : Hdr) (op : Nat) :
    lbSkip (dequeue s h op) env die = lbSkip s env die := rfl
@[simp] theorem switchResult_of_dequeue (s : State) (opcode : Nat) (h : Hdr) (op : Nat) :
    switchResult (dequeue s h op) opcode = switchResult s opcode := rfl
@[simp] theorem inputOpens_of_dequeue (s : State) (n : Nat) (h : Hdr) (op : Nat) : inputOpens (dequeue s h op) n = inputOpens s n := rfl
@[simp] theorem dieStart_of_dequeue (s : State) (d : SegDie) (h : Hdr) (op : Nat) : dieStart (dequeue s h op) d = dieStart s d := rfl
@[simp] theorem anySweeps_of_dequeue (s : State) (h : Hdr) (op : Nat) : anySweeps (dequeue s h op) = anySweeps s := rfl
@[simp] theorem planCurrent_of_dequeue (s : State) (d : SegDie) (y : Dolly) (cell : Nat) (need : Option Int) (h : Hdr) (op : Nat) :
    planCurrent (dequeue s h op) d y cell need = planCurrent s d y cell need := rfl
@[simp] theorem unconfirmed_of_dequeue (s : State) (h : Hdr) (op : Nat) : unconfirmed (dequeue s h op) = unconfirmed s := rfl
@[simp] theorem subSample_of_dequeue (s : State) (d : SegDie) (m : DieMeas) (sweep clap at_ input : Nat) (h : Hdr) (op : Nat) :
    subSample (dequeue s h op) d m sweep clap at_ input = subSample s d m sweep clap at_ input := rfl
@[simp] theorem nextReply_of_dequeue (s : State) (n : Nat) (h : Hdr) (op : Nat) : nextReply (dequeue s h op) n = nextReply s n := rfl
@[simp] theorem entryTemp_of_dequeue (s : State) (f part : Nat) (phase : Int) (h : Hdr) (op : Nat) :
    entryTemp (dequeue s h op) f part phase = entryTemp s f part phase := rfl
@[simp] theorem State.freeNat_of_dequeue (s : State) (h : Hdr) (op : Nat) : (dequeue s h op).freeNat = s.freeNat := rfl
@[simp] theorem radioOn_of_dequeue (s : State) (h : Hdr) (op : Nat) : radioOn (dequeue s h op) = radioOn s := rfl
@[simp] theorem strrdOk_of_dequeue (s : State) (v : Nat) (h : Hdr) (op : Nat) : strrdOk (dequeue s h op) v = strrdOk s v := rfl
@[simp] theorem untrimmed_of_dequeue (s : State) (die : Nat) (x : BlockInput) (h : Hdr) (op : Nat) :
    untrimmed (dequeue s h op) die x = untrimmed s die x := rfl
@[simp] theorem wakeFires_of_dequeue (s : State) (code : Nat) (h : Hdr) (op : Nat) : wakeFires (dequeue s h op) code = wakeFires s code := rfl
@[simp] theorem set0_of_dequeue (s : State) (h : Hdr) (op : Nat) : set0 (dequeue s h op) = set0 s := rfl
@[simp] theorem placeMask_of_dequeue (s : State) (h : Hdr) (op : Nat) : placeMask (dequeue s h op) = placeMask s := rfl
@[simp] theorem dropRun_of_dequeue (s : State) (pkg : Nat) (h : Hdr) (op : Nat) : dropRun (dequeue s h op) pkg = dropRun s pkg := rfl
@[simp] theorem sweepDiags_of_dequeue (s : State) (d : SegDie) (h : Hdr) (op : Nat) : sweepDiags (dequeue s h op) d = sweepDiags s d := rfl
@[simp] theorem ownState_of_dequeue (s : State) (h : Hdr) (op : Nat) : ownState (dequeue s h op) = ownState s := rfl
@[simp] theorem excesses_of_dequeue (s : State) (t : Take) (h : Hdr) (op : Nat) : excesses (dequeue s h op) t = excesses s t := rfl
@[simp] theorem sDomains_of_dequeue (s : State) (code : Nat) (h : Hdr) (op : Nat) : sDomains (dequeue s h op) code = sDomains s code := rfl
@[simp] theorem cellValues_of_dequeue (s : State) (t : Take) (h : Hdr) (op : Nat) : cellValues (dequeue s h op) t = cellValues s t := rfl
@[simp] theorem cfg16_of_dequeue (s : State) (off : Nat) (h : Hdr) (op : Nat) : cfg16 (dequeue s h op) off = cfg16 s off := rfl
@[simp] theorem settleOf_of_dequeue (s : State) (d : SegDie) (h : Hdr) (op : Nat) : settleOf (dequeue s h op) d = settleOf s d := rfl
@[simp] theorem testsRun_of_dequeue (s : State) (mask : Nat) (h : Hdr) (op : Nat) : testsRun (dequeue s h op) mask = testsRun s mask := rfl
@[simp] theorem allVerified_of_dequeue (s : State) (tmask : Nat) (h : Hdr) (op : Nat) :
    allVerified (dequeue s h op) tmask = allVerified s tmask := rfl
@[simp] theorem ownSync_of_dequeue (s : State) (primary : Bool) (h : Hdr) (op : Nat) : ownSync (dequeue s h op) primary = ownSync s primary := rfl
@[simp] theorem causeHolds_of_dequeue (s : State) (die : Nat) (c : Cause) (h : Hdr) (op : Nat) :
    causeHolds (dequeue s h op) die c = causeHolds s die c := rfl
@[simp] theorem sleepDie_of_dequeue (s : State) (target : PState) (d : SegDie) (h : Hdr) (op : Nat) :
    sleepDie (dequeue s h op) target d = sleepDie s target d := rfl
@[simp] theorem cUp_of_dequeue (s : State) (h : Hdr) (op : Nat) : cUp (dequeue s h op) = cUp s := rfl
@[simp] theorem selectedSeq_of_dequeue (s : State) (seq : Nat) (h : Hdr) (op : Nat) : selectedSeq (dequeue s h op) seq = selectedSeq s seq := rfl
@[simp] theorem fromPrimary_of_dequeue (s : State) (h : Hdr) (hq : Hdr) (op : Nat) : fromPrimary (dequeue s hq op) h = fromPrimary s h := rfl
@[simp] theorem mainIdle_of_dequeue (s : State) (d : SegDie) (h : Hdr) (op : Nat) : mainIdle (dequeue s h op) d = mainIdle s d := rfl
@[simp] theorem rhoOf_of_dequeue (s : State) (n : Nat) (h : Hdr) (op : Nat) : rhoOf (dequeue s h op) n = rhoOf s n := rfl
@[simp] theorem pendingOn_of_dequeue (s : State) (target : Nat) (h : Hdr) (op : Nat) : pendingOn (dequeue s h op) target = pendingOn s target := rfl
@[simp] theorem freqBad_of_dequeue (s : State) (source f : Nat) (h : Hdr) (op : Nat) : freqBad (dequeue s h op) source f = freqBad s source f := rfl
@[simp] theorem probeBase_of_dequeue (s : State) (d : SegDie) (input : Nat) (uv : Int) (h : Hdr) (op : Nat) :
    probeBase (dequeue s h op) d input uv = probeBase s d input uv := rfl
@[simp] theorem fittedDies_of_dequeue (s : State) (h : Hdr) (op : Nat) : fittedDies (dequeue s h op) = fittedDies s := rfl
@[simp] theorem nonceOld_of_dequeue (s : State) (n : List Byte × Nat) (h : Hdr) (op : Nat) : nonceOld (dequeue s h op) n = nonceOld s n := rfl
@[simp] theorem peerOf_of_dequeue (s : State) (addr : Nat) (h : Hdr) (op : Nat) : peerOf (dequeue s h op) addr = peerOf s addr := rfl
@[simp] theorem commitLog_of_dequeue (s : State) (h : Hdr) (img : List Byte) (gen : Nat) (hq : Hdr) (op : Nat) :
    commitLog (dequeue s hq op) h img gen = commitLog s h img gen := rfl
@[simp] theorem lapse_of_dequeue (s : State) (w : Sweep) (h : Hdr) (op : Nat) : lapse (dequeue s h op) w = lapse s w := rfl
@[simp] theorem forMe_of_dequeue (s : State) (dest : Nat) (h : Hdr) (op : Nat) : forMe (dequeue s h op) dest = forMe s dest := rfl
@[simp] theorem planRecord_of_dequeue (s : State) (d : SegDie) (j : Nat) (y : Dolly) (h : Hdr) (op : Nat) :
    planRecord (dequeue s h op) d j y = planRecord s d j y := rfl
@[simp] theorem sweepsDone_of_dequeue (s : State) (h : Hdr) (op : Nat) : sweepsDone (dequeue s h op) = sweepsDone s := rfl
@[simp] theorem groupCells_of_dequeue (s : State) (mask : Nat) (d : SegDie) (j : Nat) (h : Hdr) (op : Nat) :
    groupCells (dequeue s h op) mask d j = groupCells s mask d j := rfl
@[simp] theorem updateStatus_of_dequeue (s : State) (h : Hdr) (op : Nat) : updateStatus (dequeue s h op) = updateStatus s := rfl
@[simp] theorem mainSample_of_dequeue (s : State) (d : SegDie) (m : DieMeas) (sweep clap at_ input : Nat) (r : SlotRun) (h : Hdr) (op : Nat) :
    mainSample (dequeue s h op) d m sweep clap at_ input r = mainSample s d m sweep clap at_ input r := rfl
@[simp] theorem inFunc_of_dequeue (s : State) (n : Nat) (h : Hdr) (op : Nat) : inFunc (dequeue s h op) n = inFunc s n := rfl
@[simp] theorem recPersists_of_dequeue (s : State) (r : FRec) (h : Hdr) (op : Nat) : recPersists (dequeue s h op) r = recPersists s r := rfl
@[simp] theorem sampleValue_of_dequeue (s : State) (d : SegDie) (input : Nat) (taps : List Int) (nv : Int) (h : Hdr) (op : Nat) :
    sampleValue (dequeue s h op) d input taps nv = sampleValue s d input taps nv := rfl
@[simp] theorem auxValue_of_dequeue (s : State) (d : SegDie) (input : Nat) (nv : Int) (h : Hdr) (op : Nat) :
    auxValue (dequeue s h op) d input nv = auxValue s d input nv := rfl
@[simp] theorem regByte_of_dequeue (s : State) (withCode : Bool) (a : Nat) (h : Hdr) (op : Nat) :
    regByte (dequeue s h op) withCode a = regByte s withCode a := rfl
@[simp] theorem emptyBehind_of_dequeue (s : State) (h : Hdr) (op : Nat) : emptyBehind (dequeue s h op) = emptyBehind s := rfl
@[simp] theorem filterOf_of_dequeue (s : State) (d : SegDie) (input : Nat) (h : Hdr) (op : Nat) :
    filterOf (dequeue s h op) d input = filterOf s d input := rfl
@[simp] theorem windowOpen_of_dequeue (s : State) (die : Nat) (h : Hdr) (op : Nat) : windowOpen (dequeue s h op) die = windowOpen s die := rfl
@[simp] theorem writeRefused_of_dequeue (s : State) (a : Nat) (data : List Byte) (h : Hdr) (op : Nat) :
    writeRefused (dequeue s h op) a data = writeRefused s a data := rfl
@[simp] theorem sweepsNow_of_dequeue (s : State) (clap : Nat) (h : Hdr) (op : Nat) : sweepsNow (dequeue s h op) clap = sweepsNow s clap := rfl
@[simp] theorem testFits_of_dequeue (s : State) (d : SegDie) (h : Hdr) (op : Nat) : testFits (dequeue s h op) d = testFits s d := rfl
@[simp] theorem tapCorrection_of_dequeue (s : State) (d : SegDie) (cell : Nat) (taps : List Int) (h : Hdr) (op : Nat) :
    tapCorrection (dequeue s h op) d cell taps = tapCorrection s d cell taps := rfl
@[simp] theorem frameCopy_of_dequeue (s : State) (port type dest flags seq : Nat) (payload : List Byte) (h : Hdr) (op : Nat) :
    frameCopy (dequeue s h op) port type dest flags seq payload = frameCopy s port type dest flags seq payload := rfl
@[simp] theorem confirmLeft_of_dequeue (s : State) (h : Hdr) (op : Nat) : confirmLeft (dequeue s h op) = confirmLeft s := rfl
@[simp] theorem guardFits_of_dequeue (s : State) (d : SegDie) (h : Hdr) (op : Nat) : guardFits (dequeue s h op) d = guardFits s d := rfl
@[simp] theorem sleepPick_of_dequeue (s : State) (d : SegDie) (volts : List Int) (j : Nat) (above : Int) (ok : Nat → Bool) (h : Hdr) (op : Nat) :
    sleepPick (dequeue s h op) d volts j above ok = sleepPick s d volts j above ok := rfl
@[simp] theorem cfgValid_of_dequeue (s : State) (h : Hdr) (op : Nat) : cfgValid (dequeue s h op) = cfgValid s := rfl
@[simp] theorem calOf_of_dequeue (s : State) (kind die input : Nat) (h : Hdr) (op : Nat) :
    calOf (dequeue s h op) kind die input = calOf s kind die input := rfl
@[simp] theorem twoHeads_of_dequeue (s : State) (h : Hdr) (op : Nat) : twoHeads (dequeue s h op) = twoHeads s := rfl
@[simp] theorem maskAbsent_of_dequeue (s : State) (mask : Nat) (h : Hdr) (op : Nat) : maskAbsent (dequeue s h op) mask = maskAbsent s mask := rfl
@[simp] theorem slotChannel_of_dequeue (s : State) (slot sender : Nat) (h : Hdr) (op : Nat) :
    slotChannel (dequeue s h op) slot sender = slotChannel s slot sender := rfl
@[simp] theorem entryBytes_of_dequeue (s : State) (e : MapEntry) (h : Hdr) (op : Nat) : entryBytes (dequeue s h op) e = entryBytes s e := rfl
@[simp] theorem maskUnfitted_of_dequeue (s : State) (mask : Nat) (h : Hdr) (op : Nat) :
    maskUnfitted (dequeue s h op) mask = maskUnfitted s mask := rfl
@[simp] theorem slateBytes_of_dequeue (s : State) (t : Take) (h : Hdr) (op : Nat) : slateBytes (dequeue s h op) t = slateBytes s t := rfl
@[simp] theorem sleepCfg_of_dequeue (s : State) (target : PState) (die : Nat) (h : Hdr) (op : Nat) :
    sleepCfg (dequeue s h op) target die = sleepCfg s target die := rfl
@[simp] theorem imageAt_of_dequeue (s : State) (k : Nat) (h : Hdr) (op : Nat) : imageAt (dequeue s h op) k = imageAt s k := rfl
@[simp] theorem goodRun_of_dequeue (s : State) (fitNow : Bool) (h : Hdr) (op : Nat) : goodRun (dequeue s h op) fitNow = goodRun s fitNow := rfl
@[simp] theorem tokenFault_of_dequeue (s : State) (t : List Byte) (target : Nat) (nonce : List Byte) (h : Hdr) (op : Nat) :
    tokenFault (dequeue s h op) t target nonce = tokenFault s t target nonce := rfl
@[simp] theorem spanPack_of_dequeue (s : State) (h : Hdr) (op : Nat) : spanPack (dequeue s h op) = spanPack s := rfl
@[simp] theorem brokenHops_of_dequeue (s : State) (h : Hdr) (op : Nat) : brokenHops (dequeue s h op) = brokenHops s := rfl
@[simp] theorem slotMapOf_of_dequeue (s : State) (h : Hdr) (op : Nat) : slotMapOf (dequeue s h op) = slotMapOf s := rfl
@[simp] theorem headerRejected_of_dequeue (s : State) (quad : Bool) (a n hdrCrc : Nat) (h : Hdr) (op : Nat) :
    headerRejected (dequeue s h op) quad a n hdrCrc = headerRejected s quad a n hdrCrc := rfl
@[simp] theorem ownSelection_of_dequeue (s : State) (h : Hdr) (op : Nat) : ownSelection (dequeue s h op) = ownSelection s := rfl
@[simp] theorem captureStep_of_dequeue (s : State) (c : Capture) (t : Take) (committed : Bool) (h : Hdr) (op : Nat) :
    captureStep (dequeue s h op) c t committed = captureStep s c t committed := rfl
@[simp] theorem mergeRec_of_dequeue (s : State) (r : FRec) (msg : BitVec 32) (cls : Nat) (k : MsgKind) (h : Hdr) (op : Nat) :
    mergeRec (dequeue s h op) r msg cls k = mergeRec s r msg cls k := rfl
@[simp] theorem newRec_of_dequeue (s : State) (msg : BitVec 32) (cls : Nat) (k : MsgKind) (h : Hdr) (op : Nat) :
    newRec (dequeue s h op) msg cls k = newRec s msg cls k := rfl
@[simp] theorem sinceWide_of_dequeue (s : State) (d : SegDie) (h : Hdr) (op : Nat) : sinceWide (dequeue s h op) d = sinceWide s d := rfl
@[simp] theorem cfg8_of_dequeue (s : State) (off : Nat) (h : Hdr) (op : Nat) : cfg8 (dequeue s h op) off = cfg8 s off := rfl
@[simp] theorem pointRecord_of_dequeue (s : State) (f : ImpDef) (point : Nat) (d : SegDie) (x : PointDie) (h : Hdr) (op : Nat) :
    pointRecord (dequeue s h op) f point d x = pointRecord s f point d x := rfl
@[simp] theorem timerCopy_of_dequeue (s : State) (h : Hdr) (op : Nat) : timerCopy (dequeue s h op) = timerCopy s := rfl
@[simp] theorem spanCells_of_dequeue (s : State) (d : SegDie) (straddle : Bool) (h : Hdr) (op : Nat) :
    spanCells (dequeue s h op) d straddle = spanCells s d straddle := rfl
@[simp] theorem noRival_of_dequeue (s : State) (h : Hdr) (func : Nat) (hq : Hdr) (op : Nat) :
    noRival (dequeue s hq op) h func = noRival s h func := rfl
@[simp] theorem auxCal_of_dequeue (s : State) (d : SegDie) (input : Nat) (h : Hdr) (op : Nat) :
    auxCal (dequeue s h op) d input = auxCal s d input := rfl
@[simp] theorem causeMask_of_dequeue (s : State) (cls kind detail : Nat) (h : Hdr) (op : Nat) :
    causeMask (dequeue s h op) cls kind detail = causeMask s cls kind detail := rfl
@[simp] theorem canOpen_of_dequeue (s : State) (h : Hdr) (hq : Hdr) (op : Nat) : canOpen (dequeue s hq op) h = canOpen s h := rfl
@[simp] theorem sweepsDecided_of_dequeue (s : State) (t : Nat) (h : Hdr) (op : Nat) : sweepsDecided (dequeue s h op) t = sweepsDecided s t := rfl
@[simp] theorem safetyImage_of_dequeue (s : State) (h : Hdr) (op : Nat) : safetyImage (dequeue s h op) = safetyImage s := rfl
@[simp] theorem inChain_of_dequeue (s : State) (h : Hdr) (op : Nat) : inChain (dequeue s h op) = inChain s := rfl
@[simp] theorem tokenSigned_of_dequeue (s : State) (t : List Byte) (h : Hdr) (op : Nat) : tokenSigned (dequeue s h op) t = tokenSigned s t := rfl
@[simp] theorem studioPc_of_dequeue (s : State) (h : Hdr) (op : Nat) : studioPc (dequeue s h op) = studioPc s := rfl
@[simp] theorem hpstat_of_dequeue (s : State) (h : Hdr) (op : Nat) : hpstat (dequeue s h op) = hpstat s := rfl
@[simp] theorem packAtStart_of_dequeue (s : State) (h : Hdr) (op : Nat) : packAtStart (dequeue s h op) = packAtStart s := rfl
@[simp] theorem portBits_of_dequeue (s : State) (h : Hdr) (op : Nat) : portBits (dequeue s h op) = portBits s := rfl
@[simp] theorem nextGen_of_dequeue (s : State) (kind die input : Nat) (h : Hdr) (op : Nat) :
    nextGen (dequeue s h op) kind die input = nextGen s kind die input := rfl
@[simp] theorem runOf_of_dequeue (s : State) (pkg : Nat) (h : Hdr) (op : Nat) : runOf (dequeue s h op) pkg = runOf s pkg := rfl
@[simp] theorem modulateTransfer_of_dequeue (s : State) (d : SegDie) (cell freq iamp t0 : Nat) (h : Option Hdr) (endAt : Tick) (hq : Hdr) (op : Nat) :
    modulateTransfer (dequeue s hq op) d cell freq iamp t0 h endAt = modulateTransfer s d cell freq iamp t0 h endAt := rfl
@[simp] theorem pointEntry_of_dequeue (s : State) (f : ImpDef) (freq : Nat) (d : SegDie) (x : PointDie) (low : Bool) (cell : Nat) (h : Hdr) (op : Nat) :
    pointEntry (dequeue s h op) f freq d x low cell = pointEntry s f freq d x low cell := rfl
@[simp] theorem tempCal_of_dequeue (s : State) (die input : Nat) (h : Hdr) (op : Nat) :
    tempCal (dequeue s h op) die input = tempCal s die input := rfl
@[simp] theorem tooLong_of_dequeue (s : State) (segs : List SegDie) (source period : Nat) (h : Hdr) (op : Nat) :
    tooLong (dequeue s h op) segs source period = tooLong s segs source period := rfl
@[simp] theorem lastTake_of_dequeue (s : State) (h : Hdr) (op : Nat) : lastTake (dequeue s h op) = lastTake s := rfl
@[simp] theorem chainSource_of_dequeue (s : State) (h : Hdr) (op : Nat) : chainSource (dequeue s h op) = chainSource s := rfl
@[simp] theorem xstat_of_dequeue (s : State) (h : Hdr) (op : Nat) : xstat (dequeue s h op) = xstat s := rfl
@[simp] theorem chargeThere_of_dequeue (s : State) (h : Hdr) (op : Nat) : chargeThere (dequeue s h op) = chargeThere s := rfl
@[simp] theorem State.fitted_of_dequeue (s : State) (code : Nat) (h : Hdr) (op : Nat) : (dequeue s h op).fitted code = s.fitted code := rfl
@[simp] theorem groupShort_of_dequeue (s : State) (es : List (Nat × Int)) (d : SegDie) (j : Nat) (h : Hdr) (op : Nat) :
    groupShort (dequeue s h op) es d j = groupShort s es d j := rfl
@[simp] theorem badDies_of_dequeue (s : State) (t : Take) (committed : Bool) (h : Hdr) (op : Nat) :
    badDies (dequeue s h op) t committed = badDies s t committed := rfl
@[simp] theorem pendingBytes_of_dequeue (s : State) (h : Hdr) (op : Nat) : pendingBytes (dequeue s h op) = pendingBytes s := rfl
@[simp] theorem formTake_of_dequeue (s : State) (h : Hdr) (op : Nat) : formTake (dequeue s h op) = formTake s := rfl
@[simp] theorem bandOf_of_dequeue (s : State) (h : Hdr) (op : Nat) : bandOf (dequeue s h op) = bandOf s := rfl
@[simp] theorem mergeWithdraws_of_dequeue (s : State) (cls kind : Nat) (k : MsgKind) (h : Hdr) (op : Nat) :
    mergeWithdraws (dequeue s h op) cls kind k = mergeWithdraws s cls kind k := rfl
@[simp] theorem pointCells_of_dequeue (s : State) (f : ImpDef) (point : Nat) (d : SegDie) (h : Hdr) (op : Nat) :
    pointCells (dequeue s h op) f point d = pointCells s f point d := rfl
@[simp] theorem thermShown_of_dequeue (s : State) (d : SegDie) (reading : DerateEntry → Option Int) (h : Hdr) (op : Nat) :
    thermShown (dequeue s h op) d reading = thermShown s d reading := rfl
@[simp] theorem rolledBack_of_dequeue (s : State) (tmask : Nat) (h : Hdr) (op : Nat) : rolledBack (dequeue s h op) tmask = rolledBack s tmask := rfl
@[simp] theorem dieAgain_of_dequeue (s : State) (d : SegDie) (unpowered : Bool) (h : Hdr) (op : Nat) :
    dieAgain (dequeue s h op) d unpowered = dieAgain s d unpowered := rfl
@[simp] theorem tapRes_of_dequeue (s : State) (die tap : Nat) (h : Hdr) (op : Nat) : tapRes (dequeue s h op) die tap = tapRes s die tap := rfl
@[simp] theorem cycleDue_of_dequeue (s : State) (d : SegDie) (h : Hdr) (op : Nat) : cycleDue (dequeue s h op) d = cycleDue s d := rfl
@[simp] theorem dieCutOff_of_dequeue (s : State) (d : SegDie) (h : Hdr) (op : Nat) : dieCutOff (dequeue s h op) d = dieCutOff s d := rfl
@[simp] theorem mapRecord_of_dequeue (s : State) (k : Nat) (h : Hdr) (op : Nat) : mapRecord (dequeue s h op) k = mapRecord s k := rfl
@[simp] theorem wdCloses_of_dequeue (s : State) (h : Hdr) (op : Nat) : wdCloses (dequeue s h op) = wdCloses s := rfl
@[simp] theorem refLost_of_dequeue (s : State) (f : ImpDef) (h : Hdr) (op : Nat) : refLost (dequeue s h op) f = refLost s f := rfl
@[simp] theorem tapFailures_of_dequeue (s : State) (t : TapRun) (h : Hdr) (op : Nat) : tapFailures (dequeue s h op) t = tapFailures s t := rfl
@[simp] theorem sleepBusy_of_dequeue (s : State) (die : Nat) (volts : List Int) (above : Int) (h : Hdr) (op : Nat) :
    sleepBusy (dequeue s h op) die volts above = sleepBusy s die volts above := rfl
@[simp] theorem injectPermitted_of_dequeue (s : State) (h : Hdr) (op : Nat) : injectPermitted (dequeue s h op) = injectPermitted s := rfl
@[simp] theorem dollyState_of_dequeue (s : State) (d : SegDie) (j : Nat) (y : Dolly) (h : Hdr) (op : Nat) :
    dollyState (dequeue s h op) d j y = dollyState s d j y := rfl
@[simp] theorem sweepState_of_dequeue (s : State) (h : Hdr) (op : Nat) : sweepState (dequeue s h op) = sweepState s := rfl
@[simp] theorem hasSecondary_of_dequeue (s : State) (h : Hdr) (op : Nat) : hasSecondary (dequeue s h op) = hasSecondary s := rfl
@[simp] theorem losesTo_of_dequeue (s : State) (a b : Arb) (h : Hdr) (op : Nat) : losesTo (dequeue s h op) a b = losesTo s a b := rfl
@[simp] theorem inputAt_of_dequeue (s : State) (n : Nat) (h : Hdr) (op : Nat) : inputAt (dequeue s h op) n = inputAt s n := rfl
@[simp] theorem mUart_of_dequeue (s : State) (h : Hdr) (op : Nat) : mUart (dequeue s h op) = mUart s := rfl
@[simp] theorem openOf_of_dequeue (s : State) (source : Nat) (h : Hdr) (op : Nat) : openOf (dequeue s h op) source = openOf s source := rfl
@[simp] theorem fieldNeeds_of_dequeue (s : State) (h : Hdr) (op : Nat) : fieldNeeds (dequeue s h op) = fieldNeeds s := rfl
@[simp] theorem gatesDolly_of_dequeue (s : State) (d : SegDie) (dolly input : Nat) (h : Hdr) (op : Nat) :
    gatesDolly (dequeue s h op) d dolly input = gatesDolly s d dolly input := rfl
@[simp] theorem heldCal_of_dequeue (s : State) (die kind : Nat) (h : Hdr) (op : Nat) : heldCal (dequeue s h op) die kind = heldCal s die kind := rfl
@[simp] theorem rawctlLow_of_dequeue (s : State) (h : Hdr) (op : Nat) : rawctlLow (dequeue s h op) = rawctlLow s := rfl
@[simp] theorem reaches_of_dequeue (s : State) (a : Nat) (h : Hdr) (op : Nat) : reaches (dequeue s h op) a = reaches s a := rfl
@[simp] theorem compareCell_of_dequeue (s : State) (d : SegDie) (m : DieMeas) (prev : List Int) (cell : Nat) (h : Hdr) (op : Nat) :
    compareCell (dequeue s h op) d m prev cell = compareCell s d m prev cell := rfl
@[simp] theorem mapUid_of_dequeue (s : State) (addr : Nat) (h : Hdr) (op : Nat) : mapUid (dequeue s h op) addr = mapUid s addr := rfl
@[simp] theorem nextInterval_of_dequeue (s : State) (h : Hdr) (op : Nat) : nextInterval (dequeue s h op) = nextInterval s := rfl
@[simp] theorem currentThere_of_dequeue (s : State) (h : Hdr) (op : Nat) : currentThere (dequeue s h op) = currentThere s := rfl
@[simp] theorem cellGain_of_dequeue (s : State) (die : Nat) (nv : Int) (h : Hdr) (op : Nat) :
    cellGain (dequeue s h op) die nv = cellGain s die nv := rfl
@[simp] theorem canProbe_of_dequeue (s : State) (d : SegDie) (h : Hdr) (op : Nat) : canProbe (dequeue s h op) d = canProbe s d := rfl
@[simp] theorem evidenceNow_of_dequeue (s : State) (cause pc : Nat) (h : Hdr) (op : Nat) :
    evidenceNow (dequeue s h op) cause pc = evidenceNow s cause pc := rfl
@[simp] theorem jumps_of_dequeue (s : State) (die cells : Nat) (now : List (Nat × Int)) (h : Hdr) (op : Nat) :
    jumps (dequeue s h op) die cells now = jumps s die cells now := rfl
@[simp] theorem residence_of_dequeue (s : State) (h : Hdr) (op : Nat) : residence (dequeue s h op) = residence s := rfl
@[simp] theorem currentJumps_of_dequeue (s : State) (h : Hdr) (op : Nat) : currentJumps (dequeue s h op) = currentJumps s := rfl
@[simp] theorem dollyHolds_of_dequeue (s : State) (die kind j : Nat) (h : Hdr) (op : Nat) :
    dollyHolds (dequeue s h op) die kind j = dollyHolds s die kind j := rfl
@[simp] theorem primaryHead_of_dequeue (s : State) (h : Hdr) (op : Nat) : primaryHead (dequeue s h op) = primaryHead s := rfl
@[simp] theorem isDark_of_dequeue (s : State) (h : Hdr) (op : Nat) : isDark (dequeue s h op) = isDark s := rfl
@[simp] theorem senseRecord_of_dequeue (s : State) (d : SegDie) (h : Hdr) (op : Nat) : senseRecord (dequeue s h op) d = senseRecord s d := rfl
@[simp] theorem histLen_of_dequeue (s : State) (h : Hdr) (op : Nat) : histLen (dequeue s h op) = histLen s := rfl
@[simp] theorem alignLists_of_dequeue (s : State) (die : Nat) (host force : Bool) (clap : Nat) (l : List (List Sample)) (h : Hdr) (op : Nat) :
    alignLists (dequeue s h op) die host force clap l = alignLists s die host force clap l := rfl
@[simp] theorem regWord_of_dequeue (s : State) (a : Nat) (withCode : Bool) (h : Hdr) (op : Nat) :
    regWord (dequeue s h op) a withCode = regWord s a withCode := rfl
@[simp] theorem dollyHeld_of_dequeue (s : State) (d : SegDie) (j : Nat) (h : Hdr) (op : Nat) :
    dollyHeld (dequeue s h op) d j = dollyHeld s d j := rfl
@[simp] theorem readBytes_of_dequeue (s : State) (a n : Nat) (h : Hdr) (op : Nat) : readBytes (dequeue s h op) a n = readBytes s a n := rfl
@[simp] theorem blockFlags_of_dequeue (s : State) (d : SegDie) (h : Hdr) (op : Nat) : blockFlags (dequeue s h op) d = blockFlags s d := rfl
@[simp] theorem roundPeriod_of_dequeue (s : State) (h : Hdr) (op : Nat) : roundPeriod (dequeue s h op) = roundPeriod s := rfl
@[simp] theorem currentCal_of_dequeue (s : State) (die input : Nat) (h : Hdr) (op : Nat) :
    currentCal (dequeue s h op) die input = currentCal s die input := rfl
@[simp] theorem msUntil_of_dequeue (s : State) (t : Tick) (h : Hdr) (op : Nat) : msUntil (dequeue s h op) t = msUntil s t := rfl
@[simp] theorem followsSync_of_dequeue (s : State) (h : Hdr) (op : Nat) : followsSync (dequeue s h op) = followsSync s := rfl
@[simp] theorem dollyDuty_of_dequeue (s : State) (d : SegDie) (cell : Nat) (h : Hdr) (op : Nat) :
    dollyDuty (dequeue s h op) d cell = dollyDuty s d cell := rfl
@[simp] theorem spanMv_of_dequeue (s : State) (d : SegDie) (straddle : Bool) (h : Hdr) (op : Nat) :
    spanMv (dequeue s h op) d straddle = spanMv s d straddle := rfl
@[simp] theorem graceEnd_of_dequeue (s : State) (h : Hdr) (op : Nat) : graceEnd (dequeue s h op) = graceEnd s := rfl
@[simp] theorem kept_of_dequeue (s : State) (h : Hdr) (op : Nat) : kept (dequeue s h op) = kept s := rfl
@[simp] theorem ownHdr_of_dequeue (s : State) (h : Hdr) (hq : Hdr) (op : Nat) : ownHdr (dequeue s hq op) h = ownHdr s h := rfl
@[simp] theorem nextFrameSeq_of_dequeue (s : State) (type : Nat) (h : Hdr) (op : Nat) :
    nextFrameSeq (dequeue s h op) type = nextFrameSeq s type := rfl
@[simp] theorem rsfNow_of_dequeue (s : State) (h : Hdr) (op : Nat) : rsfNow (dequeue s h op) = rsfNow s := rfl
@[simp] theorem inMask_of_dequeue (s : State) (n : Nat) (h : Hdr) (op : Nat) : inMask (dequeue s h op) n = inMask s n := rfl
@[simp] theorem State.freeBytes_of_dequeue (s : State) (k : Nat) (h : Hdr) (op : Nat) : (dequeue s h op).freeBytes k = s.freeBytes k := rfl
@[simp] theorem freshFrame_of_dequeue (s : State) (f : FrameHdr) (type : Nat) (h : Hdr) (op : Nat) :
    freshFrame (dequeue s h op) f type = freshFrame s f type := rfl
@[simp] theorem urgRefuses_of_dequeue (s : State) (d : SegDie) (h : Hdr) (op : Nat) : urgRefuses (dequeue s h op) d = urgRefuses s d := rfl
@[simp] theorem freshSet_of_dequeue (s : State) (type src : Nat) (key : Nat × Nat) (h : Hdr) (op : Nat) :
    freshSet (dequeue s h op) type src key = freshSet s type src key := rfl
@[simp] theorem isCandidate_of_dequeue (s : State) (e : Int) (h : Hdr) (op : Nat) : isCandidate (dequeue s h op) e = isCandidate s e := rfl
@[simp] theorem compRead_of_dequeue (s : State) (uv : Int) (c : Comp) (h : Hdr) (op : Nat) : compRead (dequeue s h op) uv c = compRead s uv c := rfl
@[simp] theorem dieSilent_of_dequeue (s : State) (d : SegDie) (h : Hdr) (op : Nat) : dieSilent (dequeue s h op) d = dieSilent s d := rfl
@[simp] theorem ackedPct_of_dequeue (s : State) (l : List (Nat × Bool)) (h : Hdr) (op : Nat) : ackedPct (dequeue s h op) l = ackedPct s l := rfl
@[simp] theorem studioAsleep_of_dequeue (s : State) (h : Hdr) (op : Nat) : studioAsleep (dequeue s h op) = studioAsleep s := rfl
@[simp] theorem attemptCause_of_dequeue (s : State) (h : Hdr) (op : Nat) : attemptCause (dequeue s h op) = attemptCause s := rfl
@[simp] theorem faultPayload_of_dequeue (s : State) (r : FRec) (event cls : Nat) (h : Hdr) (op : Nat) :
    faultPayload (dequeue s h op) r event cls = faultPayload s r event cls := rfl
@[simp] theorem servedBy_of_dequeue (s : State) (die cell : Nat) (h : Hdr) (op : Nat) :
    servedBy (dequeue s h op) die cell = servedBy s die cell := rfl
@[simp] theorem radioBytes_of_dequeue (s : State) (kind dest : Nat) (ack : Bool) (payload : List Byte) (h : Hdr) (op : Nat) :
    radioBytes (dequeue s h op) kind dest ack payload = radioBytes s kind dest ack payload := rfl
@[simp] theorem rangeUnmapped_of_dequeue (s : State) (first n : Nat) (h : Hdr) (op : Nat) :
    rangeUnmapped (dequeue s h op) first n = rangeUnmapped s first n := rfl
@[simp] theorem testMark_of_dequeue (s : State) (d : SegDie) (h : Hdr) (op : Nat) : testMark (dequeue s h op) d = testMark s d := rfl
@[simp] theorem cDomains_of_dequeue (s : State) (h : Hdr) (op : Nat) : cDomains (dequeue s h op) = cDomains s := rfl
@[simp] theorem spanInside_of_dequeue (s : State) (d : SegDie) (straddle : Bool) (mv : Nat) (h : Hdr) (op : Nat) :
    spanInside (dequeue s h op) d straddle mv = spanInside s d straddle mv := rfl
@[simp] theorem sourceThere_of_dequeue (s : State) (h : Hdr) (op : Nat) : sourceThere (dequeue s h op) = sourceThere s := rfl
@[simp] theorem dieAbove_of_dequeue (s : State) (code : Nat) (h : Hdr) (op : Nat) : dieAbove (dequeue s h op) code = dieAbove s code := rfl
@[simp] theorem stagingOf_of_dequeue (s : State) (h : Hdr) (hq : Hdr) (op : Nat) : stagingOf (dequeue s hq op) h = stagingOf s h := rfl
@[simp] theorem sweepDuration_of_dequeue (s : State) (h : Hdr) (op : Nat) : sweepDuration (dequeue s h op) = sweepDuration s := rfl
@[simp] theorem conditionsHold_of_dequeue (s : State) (tmask : Nat) (h : Hdr) (op : Nat) :
    conditionsHold (dequeue s h op) tmask = conditionsHold s tmask := rfl
@[simp] theorem dueClapper_of_dequeue (s : State) (h : Hdr) (op : Nat) : dueClapper (dequeue s h op) = dueClapper s := rfl
@[simp] theorem lbWordOf_of_dequeue (s : State) (die : Nat) (h : Hdr) (op : Nat) : lbWordOf (dequeue s h op) die = lbWordOf s die := rfl
@[simp] theorem anyTrip_of_dequeue (s : State) (h : Hdr) (op : Nat) : anyTrip (dequeue s h op) = anyTrip s := rfl
@[simp] theorem takePairs_of_dequeue (s : State) (t : Take) (h : Hdr) (op : Nat) : takePairs (dequeue s h op) t = takePairs s t := rfl
@[simp] theorem slotNow_of_dequeue (s : State) (h : Hdr) (op : Nat) : slotNow (dequeue s h op) = slotNow s := rfl
@[simp] theorem timetableBytes_of_dequeue (s : State) (d : SegDie) (h : Hdr) (op : Nat) :
    timetableBytes (dequeue s h op) d = timetableBytes s d := rfl
@[simp] theorem needOf_of_dequeue (s : State) (cell : Nat) (e : Int) (h : Hdr) (op : Nat) : needOf (dequeue s h op) cell e = needOf s cell e := rfl
@[simp] theorem isCommitted_of_dequeue (s : State) (h : Hdr) (hq : Hdr) (op : Nat) : isCommitted (dequeue s hq op) h = isCommitted s h := rfl
@[simp] theorem dieCells_of_dequeue (s : State) (mask : Nat) (d : SegDie) (h : Hdr) (op : Nat) :
    dieCells (dequeue s h op) mask d = dieCells s mask d := rfl
@[simp] theorem queueBytes_of_dequeue (s : State) (h : Hdr) (op : Nat) : queueBytes (dequeue s h op) = queueBytes s := rfl
@[simp] theorem packCurrents_of_dequeue (s : State) (h : Hdr) (op : Nat) : packCurrents (dequeue s h op) = packCurrents s := rfl
@[simp] theorem tokenFields_of_dequeue (s : State) (t : List Byte) (target : Nat) (h : Hdr) (op : Nat) :
    tokenFields (dequeue s h op) t target = tokenFields s t target := rfl
@[simp] theorem ackBytes_of_dequeue (s : State) (dest : Nat) (h : Hdr) (op : Nat) : ackBytes (dequeue s h op) dest = ackBytes s dest := rfl
@[simp] theorem irqLevel_of_dequeue (s : State) (h : Hdr) (op : Nat) : irqLevel (dequeue s h op) = irqLevel s := rfl
@[simp] theorem beyond_of_dequeue (s : State) (under : Bool) (margin : Nat) (uv : Int) (h : Hdr) (op : Nat) :
    beyond (dequeue s h op) under margin uv = beyond s under margin uv := rfl
@[simp] theorem remainOf_of_dequeue (s : State) (d : SegDie) (t : DollyTransfer) (h : Hdr) (op : Nat) :
    remainOf (dequeue s h op) d t = remainOf s d t := rfl
@[simp] theorem ownMapBytes_of_dequeue (s : State) (h : Hdr) (op : Nat) : ownMapBytes (dequeue s h op) = ownMapBytes s := rfl
@[simp] theorem safeState_of_dequeue (s : State) (h : Hdr) (op : Nat) : safeState (dequeue s h op) = safeState s := rfl
@[simp] theorem pickCandidate_of_dequeue (s : State) (d : SegDie) (l : List (Nat × Int)) (h : Hdr) (op : Nat) :
    pickCandidate (dequeue s h op) d l = pickCandidate s d l := rfl
@[simp] theorem clearProbes_of_dequeue (s : State) (die tap : Nat) (h : Hdr) (op : Nat) :
    clearProbes (dequeue s h op) die tap = clearProbes s die tap := rfl
@[simp] theorem scrubAge_of_dequeue (s : State) (h : Hdr) (op : Nat) : scrubAge (dequeue s h op) = scrubAge s := rfl
@[simp] theorem emptySlot_of_dequeue (s : State) (h : Hdr) (op : Nat) : emptySlot (dequeue s h op) = emptySlot s := rfl
@[simp] theorem pickSlot_of_dequeue (s : State) (target : Nat) (good : List Bool) (h : Hdr) (op : Nat) :
    pickSlot (dequeue s h op) target good = pickSlot s target good := rfl
@[simp] theorem sessionHost_of_dequeue (s : State) (h : Hdr) (hq : Hdr) (op : Nat) : sessionHost (dequeue s hq op) h = sessionHost s h := rfl
@[simp] theorem runningRelease_of_dequeue (s : State) (target : Nat) (h : Hdr) (op : Nat) :
    runningRelease (dequeue s h op) target = runningRelease s target := rfl
@[simp] theorem injected_of_dequeue (s : State) (target : Nat) (h : Hdr) (op : Nat) : injected (dequeue s h op) target = injected s target := rfl
@[simp] theorem namesNoM_of_dequeue (s : State) (addr : Nat) (h : Hdr) (op : Nat) : namesNoM (dequeue s h op) addr = namesNoM s addr := rfl
@[simp] theorem keyGate_of_dequeue (s : State) (h : Hdr) (op : Nat) : keyGate (dequeue s h op) = keyGate s := rfl
@[simp] theorem checkpointFailures_of_dequeue (s : State) (h : Hdr) (op : Nat) : checkpointFailures (dequeue s h op) = checkpointFailures s := rfl
@[simp] theorem blockCells_of_dequeue (s : State) (f : ImpDef) (r : ImpRun) (senses : List SenseRun) (die : Nat) (h : Hdr) (op : Nat) :
    blockCells (dequeue s h op) f r senses die = blockCells s f r senses die := rfl
@[simp] theorem alignCurrents_of_dequeue (s : State) (h : Hdr) (op : Nat) : alignCurrents (dequeue s h op) = alignCurrents s := rfl
@[simp] theorem ackList_of_dequeue (s : State) (h : Hdr) (op : Nat) : ackList (dequeue s h op) = ackList s := rfl
@[simp] theorem blockLive_of_dequeue (s : State) (d : SegDie) (h : Hdr) (op : Nat) : blockLive (dequeue s h op) d = blockLive s d := rfl
@[simp] theorem sessionBreak_of_dequeue (s : State) (q : CalSession) (h : Hdr) (op : Nat) :
    sessionBreak (dequeue s h op) q = sessionBreak s q := rfl
@[simp] theorem checkStartable_of_dequeue (s : State) (d : SegDie) (j : Nat) (y : Dolly) (h : Hdr) (op : Nat) :
    checkStartable (dequeue s h op) d j y = checkStartable s d j y := rfl
@[simp] theorem slotLeft_of_dequeue (s : State) (slot : Nat) (h : Hdr) (op : Nat) : slotLeft (dequeue s h op) slot = slotLeft s slot := rfl
@[simp] theorem takeDec_of_dequeue (s : State) (h : Hdr) (op : Nat) : takeDec (dequeue s h op) = takeDec s := rfl
@[simp] theorem State.die?_of_dequeue (s : State) (code : Nat) (h : Hdr) (op : Nat) : (dequeue s h op).die? code = s.die? code := rfl
@[simp] theorem meetsGuard_of_dequeue (s : State) (d : SegDie) (mode cell : Nat) (h : Hdr) (op : Nat) :
    meetsGuard (dequeue s h op) d mode cell = meetsGuard s d mode cell := rfl
@[simp] theorem minPeriod_of_dequeue (s : State) (h : Hdr) (op : Nat) : minPeriod (dequeue s h op) = minPeriod s := rfl
@[simp] theorem nextClapIn_of_dequeue (s : State) (h : Hdr) (op : Nat) : nextClapIn (dequeue s h op) = nextClapIn s := rfl
@[simp] theorem hvilEn_of_dequeue (s : State) (h : Hdr) (op : Nat) : hvilEn (dequeue s h op) = hvilEn s := rfl
@[simp] theorem stopped__of_dequeue (s : State) (h : Hdr) (hq : Hdr) (op : Nat) : stopped_ (dequeue s hq op) h = stopped_ s h := rfl
@[simp] theorem activeCauses_of_dequeue (s : State) (h : Hdr) (op : Nat) : activeCauses (dequeue s h op) = activeCauses s := rfl
@[simp] theorem slewLeft_of_dequeue (s : State) (h : Hdr) (op : Nat) : slewLeft (dequeue s h op) = slewLeft s := rfl
@[simp] theorem captureValues_of_dequeue (s : State) (c : Capture) (b : Block) (h : Hdr) (op : Nat) :
    captureValues (dequeue s h op) c b = captureValues s c b := rfl
@[simp] theorem dailiesRange_of_dequeue (s : State) (fromSeq toSeq types : Nat) (h : Hdr) (op : Nat) :
    dailiesRange (dequeue s h op) fromSeq toSeq types = dailiesRange s fromSeq toSeq types := rfl
@[simp] theorem servesRight_of_dequeue (s : State) (h : Hdr) (op : Nat) : servesRight (dequeue s h op) = servesRight s := rfl
@[simp] theorem ripe_of_dequeue (s : State) (t : Tick) (h : Hdr) (op : Nat) : ripe (dequeue s h op) t = ripe s t := rfl
@[simp] theorem nextSuperframe_of_dequeue (s : State) (h : Hdr) (op : Nat) : nextSuperframe (dequeue s h op) = nextSuperframe s := rfl
@[simp] theorem wdElapsed_of_dequeue (s : State) (h : Hdr) (op : Nat) : wdElapsed (dequeue s h op) = wdElapsed s := rfl
@[simp] theorem closeReason_of_dequeue (s : State) (mask : Nat) (h : Hdr) (op : Nat) : closeReason (dequeue s h op) mask = closeReason s mask := rfl
@[simp] theorem tapsCalibrated_of_dequeue (s : State) (d : SegDie) (h : Hdr) (op : Nat) :
    tapsCalibrated (dequeue s h op) d = tapsCalibrated s d := rfl
@[simp] theorem neediest_of_dequeue (s : State) (es : List (Nat × Int)) (h : Hdr) (op : Nat) : neediest (dequeue s h op) es = neediest s es := rfl
@[simp] theorem wdOpens_of_dequeue (s : State) (h : Hdr) (op : Nat) : wdOpens (dequeue s h op) = wdOpens s := rfl
@[simp] theorem pendingTimes_of_dequeue (s : State) (h : Hdr) (op : Nat) : pendingTimes (dequeue s h op) = pendingTimes s := rfl
@[simp] theorem leavesNone_of_dequeue (s : State) (mask : Nat) (h : Hdr) (op : Nat) : leavesNone (dequeue s h op) mask = leavesNone s mask := rfl
@[simp] theorem chargeAt_of_dequeue (s : State) (clap : Nat) (h : Hdr) (op : Nat) : chargeAt (dequeue s h op) clap = chargeAt s clap := rfl
@[simp] theorem sweepPeriod_of_dequeue (s : State) (h : Hdr) (op : Nat) : sweepPeriod (dequeue s h op) = sweepPeriod s := rfl
@[simp] theorem canCheck_of_dequeue (s : State) (d : SegDie) (h : Hdr) (op : Nat) : canCheck (dequeue s h op) d = canCheck s d := rfl
@[simp] theorem atFt_of_dequeue (s : State) (f : Nat) (h : Hdr) (op : Nat) : atFt (dequeue s h op) f = atFt s f := rfl
@[simp] theorem inOperate_of_dequeue (s : State) (i : SInput) (h : Hdr) (op : Nat) : inOperate (dequeue s h op) i = inOperate s i := rfl
@[simp] theorem filterSamples_of_dequeue (s : State) (input : Nat) (h : Hdr) (op : Nat) :
    filterSamples (dequeue s h op) input = filterSamples s input := rfl
@[simp] theorem guardRuns_of_dequeue (s : State) (d : SegDie) (h : Hdr) (op : Nat) : guardRuns (dequeue s h op) d = guardRuns s d := rfl
@[simp] theorem refSums_of_dequeue (s : State) (f : ImpDef) (r : ImpRun) (senses : List SenseRun) (die cell : Nat) (h : Hdr) (op : Nat) :
    refSums (dequeue s h op) f r senses die cell = refSums s f r senses die cell := rfl
@[simp] theorem readbackFault_of_dequeue (s : State) (h : Hdr) (op : Nat) : readbackFault (dequeue s h op) = readbackFault s := rfl
@[simp] theorem partCell_of_dequeue (s : State) (die cell : Nat) (h : Hdr) (op : Nat) :
    partCell (dequeue s h op) die cell = partCell s die cell := rfl
@[simp] theorem tapRunOn_of_dequeue (s : State) (d : SegDie) (h : Hdr) (op : Nat) : tapRunOn (dequeue s h op) d = tapRunOn s d := rfl
@[simp] theorem rawresWord_of_dequeue (s : State) (h : Hdr) (op : Nat) : rawresWord (dequeue s h op) = rawresWord s := rfl
@[simp] theorem lockCells_of_dequeue (s : State) (t : Take) (f : ImpDef) (r : ImpRun) (d : SegDie) (h : Hdr) (op : Nat) :
    lockCells (dequeue s h op) t f r d = lockCells s t f r d := rfl
@[simp] theorem waitingTaps_of_dequeue (s : State) (d : SegDie) (h : Hdr) (op : Nat) : waitingTaps (dequeue s h op) d = waitingTaps s d := rfl
@[simp] theorem verifyImage_of_dequeue (s : State) (target : Nat) (h : Hdr) (op : Nat) :
    verifyImage (dequeue s h op) target = verifyImage s target := rfl
@[simp] theorem gradientOk_of_dequeue (s : State) (e mean : Int) (h : Hdr) (op : Nat) :
    gradientOk (dequeue s h op) e mean = gradientOk s e mean := rfl
@[simp] theorem sweepRecord_of_dequeue (s : State) (d : SegDie) (h : Hdr) (op : Nat) : sweepRecord (dequeue s h op) d = sweepRecord s d := rfl
@[simp] theorem horizonLeft_of_dequeue (s : State) (h : Hdr) (op : Nat) : horizonLeft (dequeue s h op) = horizonLeft s := rfl
@[simp] theorem dieLimit_of_dequeue (s : State) (d : SegDie) (h : Hdr) (op : Nat) : dieLimit (dequeue s h op) d = dieLimit s d := rfl
@[simp] theorem inputHolds_of_dequeue (s : State) (kind n : Nat) (h : Hdr) (op : Nat) :
    inputHolds (dequeue s h op) kind n = inputHolds s kind n := rfl
@[simp] theorem canTest_of_dequeue (s : State) (d : SegDie) (h : Hdr) (op : Nat) : canTest (dequeue s h op) d = canTest s d := rfl
@[simp] theorem dieOut_of_dequeue (s : State) (h : Hdr) (op : Nat) : dieOut (dequeue s h op) = dieOut s := rfl
@[simp] theorem hvilCounts_of_dequeue (s : State) (inPulse inOff : Nat) (outLow : Bool) (h : Hdr) (op : Nat) :
    hvilCounts (dequeue s h op) inPulse inOff outLow = hvilCounts s inPulse inOff outLow := rfl

@[simp] theorem leadsClap_of_accepted (s : State) : leadsClap (accepted s) = leadsClap s := rfl
@[simp] theorem entryOf_of_accepted (s : State) (addr : Nat) : entryOf (accepted s) addr = entryOf s addr := rfl
@[simp] theorem opOf_of_accepted (s : State) (h : Hdr) : opOf (accepted s) h = opOf s h := rfl
@[simp] theorem rhoConverged_of_accepted (s : State) : rhoConverged (accepted s) = rhoConverged s := rfl
@[simp] theorem sessionOf_of_accepted (s : State) (head : Nat) : sessionOf (accepted s) head = sessionOf s head := rfl
@[simp] theorem roundsOf_of_accepted (s : State) (source mask : Nat) : roundsOf (accepted s) source mask = roundsOf s source mask := rfl
@[simp] theorem auxSlow_of_accepted (s : State) (die input : Nat) : auxSlow (accepted s) die input = auxSlow s die input := rfl
@[simp] theorem checkRuns_of_accepted (s : State) (die : Nat) (c : Cause) : checkRuns (accepted s) die c = checkRuns s die c := rfl
@[simp] theorem mapFlags_of_accepted (s : State) (addr : Nat) (head locked : Bool) (ports : Nat) :
    mapFlags (accepted s) addr head locked ports = mapFlags s addr head locked ports := rfl
@[simp] theorem lifeInUse_of_accepted (s : State) : lifeInUse (accepted s) = lifeInUse s := rfl
@[simp] theorem hopDelay_of_accepted (s : State) (port : Nat) : hopDelay (accepted s) port = hopDelay s port := rfl
@[simp] theorem outputsByte_of_accepted (s : State) : outputsByte (accepted s) = outputsByte s := rfl
@[simp] theorem heartbeatState_of_accepted (s : State) : heartbeatState (accepted s) = heartbeatState s := rfl
@[simp] theorem ownFirst_of_accepted (s : State) : ownFirst (accepted s) = ownFirst s := rfl
@[simp] theorem stampCal_of_accepted (s : State) (r : CalRecord) : stampCal (accepted s) r = stampCal s r := rfl
@[simp] theorem chargeSamples_of_accepted (s : State) : chargeSamples (accepted s) = chargeSamples s := rfl
@[simp] theorem frameBad_of_accepted (s : State) (f : Frame) : frameBad (accepted s) f = frameBad s f := rfl
@[simp] theorem chainState_of_accepted (s : State) : chainState (accepted s) = chainState s := rfl
@[simp] theorem windowOver_of_accepted (s : State) (a : Arb) : windowOver (accepted s) a = windowOver s a := rfl
@[simp] theorem keyTag_of_accepted (s : State) : keyTag (accepted s) = keyTag s := rfl
@[simp] theorem blockDie_of_accepted (s : State) (f : ImpDef) (r : ImpRun) (senses : List SenseRun) (x : PointDie) :
    blockDie (accepted s) f r senses x = blockDie s f r senses x := rfl
@[simp] theorem classOf_of_accepted (s : State) (kind : Nat) : classOf (accepted s) kind = classOf s kind := rfl
@[simp] theorem keepForFallback_of_accepted (s : State) : keepForFallback (accepted s) = keepForFallback s := rfl
@[simp] theorem ownSource_of_accepted (s : State) : ownSource (accepted s) = ownSource s := rfl
@[simp] theorem edgeSelected_of_accepted (s : State) (rising : Bool) : edgeSelected (accepted s) rising = edgeSelected s rising := rfl
@[simp] theorem calRecord_of_accepted (s : State) (kind die input modegr gain : Nat) (offset : Int) :
    calRecord (accepted s) kind die input modegr gain offset = calRecord s kind die input modegr gain offset := rfl
@[simp] theorem calGate_of_accepted (s : State) (die : Nat) : calGate (accepted s) die = calGate s die := rfl
@[simp] theorem packStep_of_accepted (s : State) : packStep (accepted s) = packStep s := rfl
@[simp] theorem lastDiag_of_accepted (s : State) (d : SegDie) : lastDiag (accepted s) d = lastDiag s d := rfl
@[simp] theorem depsUpTo_of_accepted (s : State) (t : Take) : depsUpTo (accepted s) t = depsUpTo s t := rfl
@[simp] theorem findWindow_of_accepted (s : State) (die : Nat) (p : Window → Bool) : findWindow (accepted s) die p = findWindow s die p := rfl
@[simp] theorem frameStart_of_accepted (s : State) : frameStart (accepted s) = frameStart s := rfl
@[simp] theorem inDisc_of_accepted (s : State) (n : Nat) : inDisc (accepted s) n = inDisc s n := rfl
@[simp] theorem candidates_of_accepted (s : State) (d : SegDie) (j : Nat) (es : List (Nat × Int)) :
    candidates (accepted s) d j es = candidates s d j es := rfl
@[simp] theorem inFlashStep_of_accepted (s : State) (h : Hdr) : inFlashStep (accepted s) h = inFlashStep s h := rfl
@[simp] theorem positionOf_of_accepted (s : State) (f : FrameHdr) : positionOf (accepted s) f = positionOf s f := rfl
@[simp] theorem proofGood_of_accepted (s : State) (h : Hdr) (op : Nat) (pre : List Byte) (p : Proof) :
    proofGood (accepted s) h op pre p = proofGood s h op pre p := rfl
@[simp] theorem judge_of_accepted (s : State) (read quad : Bool) (a n clocks : Nat) (crcOk refused : Bool) :
    judge (accepted s) read quad a n clocks crcOk refused = judge s read quad a n clocks crcOk refused := rfl
@[simp] theorem sweepsQuiet_of_accepted (s : State) : sweepsQuiet (accepted s) = sweepsQuiet s := rfl
@[simp] theorem nextProbe_of_accepted (s : State) (d : SegDie) : nextProbe (accepted s) d = nextProbe s d := rfl
@[simp] theorem confirmedPlaces_of_accepted (s : State) : confirmedPlaces (accepted s) = confirmedPlaces s := rfl
@[simp] theorem headerCheck_of_accepted (s : State) (h : List Byte) : headerCheck (accepted s) h = headerCheck s h := rfl
@[simp] theorem irqstat_of_accepted (s : State) : irqstat (accepted s) = irqstat s := rfl
@[simp] theorem lbReport_of_accepted (s : State) (code : Nat) : lbReport (accepted s) code = lbReport s code := rfl
@[simp] theorem trackOf_of_accepted (s : State) (addr : Nat) : trackOf (accepted s) addr = trackOf s addr := rfl
@[simp] theorem inactivePlace_of_accepted (s : State) (target : Nat) : inactivePlace (accepted s) target = inactivePlace s target := rfl
@[simp] theorem clearCauses_of_accepted (s : State) (die : Nat) : clearCauses (accepted s) die = clearCauses s die := rfl
@[simp] theorem mappedCells_of_accepted (s : State) : mappedCells (accepted s) = mappedCells s := rfl
@[simp] theorem waitsDecision_of_accepted (s : State) (cls kind : Nat) : waitsDecision (accepted s) cls kind = waitsDecision s cls kind := rfl
@[simp] theorem wdMs_of_accepted (s : State) (t : Nat) : wdMs (accepted s) t = wdMs s t := rfl
@[simp] theorem compHolds_of_accepted (s : State) (die cell : Nat) (under : Bool) :
    compHolds (accepted s) die cell under = compHolds s die cell under := rfl
@[simp] theorem heldRecs_of_accepted (s : State) (which : Nat) : heldRecs (accepted s) which = heldRecs s which := rfl
@[simp] theorem portReady_of_accepted (s : State) : portReady (accepted s) = portReady s := rfl
@[simp] theorem alignBlock_of_accepted (s : State) (host : Bool) (b : Block) : alignBlock (accepted s) host b = alignBlock s host b := rfl
@[simp] theorem settlePack_of_accepted (s : State) : settlePack (accepted s) = settlePack s := rfl
@[simp] theorem loginLocked_of_accepted (s : State) : loginLocked (accepted s) = loginLocked s := rfl
@[simp] theorem portAsleep_of_accepted (s : State) : portAsleep (accepted s) = portAsleep s := rfl
@[simp] theorem thermEntry_of_accepted (s : State) (d : SegDie) : thermEntry (accepted s) d = thermEntry s d := rfl
@[simp] theorem lbSkip_of_accepted (s : State) (env : List LbistEnv) (die : Nat) : lbSkip (accepted s) env die = lbSkip s env die := rfl
@[simp] theorem switchResult_of_accepted (s : State) (opcode : Nat) : switchResult (accepted s) opcode = switchResult s opcode := rfl
@[simp] theorem inputOpens_of_accepted (s : State) (n : Nat) : inputOpens (accepted s) n = inputOpens s n := rfl
@[simp] theorem dieStart_of_accepted (s : State) (d : SegDie) : dieStart (accepted s) d = dieStart s d := rfl
@[simp] theorem anySweeps_of_accepted (s : State) : anySweeps (accepted s) = anySweeps s := rfl
@[simp] theorem unconfirmed_of_accepted (s : State) : unconfirmed (accepted s) = unconfirmed s := rfl
@[simp] theorem nextReply_of_accepted (s : State) (n : Nat) : nextReply (accepted s) n = nextReply s n := rfl
@[simp] theorem entryTemp_of_accepted (s : State) (f part : Nat) (phase : Int) :
    entryTemp (accepted s) f part phase = entryTemp s f part phase := rfl
@[simp] theorem State.freeNat_of_accepted (s : State) : (accepted s).freeNat = s.freeNat := rfl
@[simp] theorem radioOn_of_accepted (s : State) : radioOn (accepted s) = radioOn s := rfl
@[simp] theorem strrdOk_of_accepted (s : State) (v : Nat) : strrdOk (accepted s) v = strrdOk s v := rfl
@[simp] theorem untrimmed_of_accepted (s : State) (die : Nat) (x : BlockInput) : untrimmed (accepted s) die x = untrimmed s die x := rfl
@[simp] theorem set0_of_accepted (s : State) : set0 (accepted s) = set0 s := rfl
@[simp] theorem placeMask_of_accepted (s : State) : placeMask (accepted s) = placeMask s := rfl
@[simp] theorem dropRun_of_accepted (s : State) (pkg : Nat) : dropRun (accepted s) pkg = dropRun s pkg := rfl
@[simp] theorem sweepDiags_of_accepted (s : State) (d : SegDie) : sweepDiags (accepted s) d = sweepDiags s d := rfl
@[simp] theorem ownState_of_accepted (s : State) : ownState (accepted s) = ownState s := rfl
@[simp] theorem excesses_of_accepted (s : State) (t : Take) : excesses (accepted s) t = excesses s t := rfl
@[simp] theorem sDomains_of_accepted (s : State) (code : Nat) : sDomains (accepted s) code = sDomains s code := rfl
@[simp] theorem cellValues_of_accepted (s : State) (t : Take) : cellValues (accepted s) t = cellValues s t := rfl
@[simp] theorem cfg16_of_accepted (s : State) (off : Nat) : cfg16 (accepted s) off = cfg16 s off := rfl
@[simp] theorem settleOf_of_accepted (s : State) (d : SegDie) : settleOf (accepted s) d = settleOf s d := rfl
@[simp] theorem testsRun_of_accepted (s : State) (mask : Nat) : testsRun (accepted s) mask = testsRun s mask := rfl
@[simp] theorem allVerified_of_accepted (s : State) (tmask : Nat) : allVerified (accepted s) tmask = allVerified s tmask := rfl
@[simp] theorem ownSync_of_accepted (s : State) (primary : Bool) : ownSync (accepted s) primary = ownSync s primary := rfl
@[simp] theorem sleepDie_of_accepted (s : State) (target : PState) (d : SegDie) : sleepDie (accepted s) target d = sleepDie s target d := rfl
@[simp] theorem cUp_of_accepted (s : State) : cUp (accepted s) = cUp s := rfl
@[simp] theorem selectedSeq_of_accepted (s : State) (seq : Nat) : selectedSeq (accepted s) seq = selectedSeq s seq := rfl
@[simp] theorem fromPrimary_of_accepted (s : State) (h : Hdr) : fromPrimary (accepted s) h = fromPrimary s h := rfl
@[simp] theorem mainIdle_of_accepted (s : State) (d : SegDie) : mainIdle (accepted s) d = mainIdle s d := rfl
@[simp] theorem rhoOf_of_accepted (s : State) (n : Nat) : rhoOf (accepted s) n = rhoOf s n := rfl
@[simp] theorem pendingOn_of_accepted (s : State) (target : Nat) : pendingOn (accepted s) target = pendingOn s target := rfl
@[simp] theorem nextMailbox_of_accepted (s : State) : nextMailbox (accepted s) = nextMailbox s := rfl
@[simp] theorem freqBad_of_accepted (s : State) (source f : Nat) : freqBad (accepted s) source f = freqBad s source f := rfl
@[simp] theorem fittedDies_of_accepted (s : State) : fittedDies (accepted s) = fittedDies s := rfl
@[simp] theorem turn_of_accepted (s : State) (h : Hdr) (op : Nat) : turn (accepted s) h op = turn s h op := rfl
@[simp] theorem nonceOld_of_accepted (s : State) (n : List Byte × Nat) : nonceOld (accepted s) n = nonceOld s n := rfl
@[simp] theorem peerOf_of_accepted (s : State) (addr : Nat) : peerOf (accepted s) addr = peerOf s addr := rfl
@[simp] theorem commitLog_of_accepted (s : State) (h : Hdr) (img : List Byte) (gen : Nat) :
    commitLog (accepted s) h img gen = commitLog s h img gen := rfl
@[simp] theorem lapse_of_accepted (s : State) (w : Sweep) : lapse (accepted s) w = lapse s w := rfl
@[simp] theorem forMe_of_accepted (s : State) (dest : Nat) : forMe (accepted s) dest = forMe s dest := rfl
@[simp] theorem sweepsDone_of_accepted (s : State) : sweepsDone (accepted s) = sweepsDone s := rfl
@[simp] theorem groupCells_of_accepted (s : State) (mask : Nat) (d : SegDie) (j : Nat) :
    groupCells (accepted s) mask d j = groupCells s mask d j := rfl
@[simp] theorem updateStatus_of_accepted (s : State) : updateStatus (accepted s) = updateStatus s := rfl
@[simp] theorem inFunc_of_accepted (s : State) (n : Nat) : inFunc (accepted s) n = inFunc s n := rfl
@[simp] theorem sampleValue_of_accepted (s : State) (d : SegDie) (input : Nat) (taps : List Int) (nv : Int) :
    sampleValue (accepted s) d input taps nv = sampleValue s d input taps nv := rfl
@[simp] theorem auxValue_of_accepted (s : State) (d : SegDie) (input : Nat) (nv : Int) :
    auxValue (accepted s) d input nv = auxValue s d input nv := rfl
@[simp] theorem emptyBehind_of_accepted (s : State) : emptyBehind (accepted s) = emptyBehind s := rfl
@[simp] theorem filterOf_of_accepted (s : State) (d : SegDie) (input : Nat) : filterOf (accepted s) d input = filterOf s d input := rfl
@[simp] theorem windowOpen_of_accepted (s : State) (die : Nat) : windowOpen (accepted s) die = windowOpen s die := rfl
@[simp] theorem sweepsNow_of_accepted (s : State) (clap : Nat) : sweepsNow (accepted s) clap = sweepsNow s clap := rfl
@[simp] theorem tapCorrection_of_accepted (s : State) (d : SegDie) (cell : Nat) (taps : List Int) :
    tapCorrection (accepted s) d cell taps = tapCorrection s d cell taps := rfl
@[simp] theorem frameCopy_of_accepted (s : State) (port type dest flags seq : Nat) (payload : List Byte) :
    frameCopy (accepted s) port type dest flags seq payload = frameCopy s port type dest flags seq payload := rfl
@[simp] theorem confirmLeft_of_accepted (s : State) : confirmLeft (accepted s) = confirmLeft s := rfl
@[simp] theorem sleepPick_of_accepted (s : State) (d : SegDie) (volts : List Int) (j : Nat) (above : Int) (ok : Nat → Bool) :
    sleepPick (accepted s) d volts j above ok = sleepPick s d volts j above ok := rfl
@[simp] theorem cfgValid_of_accepted (s : State) : cfgValid (accepted s) = cfgValid s := rfl
@[simp] theorem calOf_of_accepted (s : State) (kind die input : Nat) : calOf (accepted s) kind die input = calOf s kind die input := rfl
@[simp] theorem twoHeads_of_accepted (s : State) : twoHeads (accepted s) = twoHeads s := rfl
@[simp] theorem maskAbsent_of_accepted (s : State) (mask : Nat) : maskAbsent (accepted s) mask = maskAbsent s mask := rfl
@[simp] theorem slotChannel_of_accepted (s : State) (slot sender : Nat) : slotChannel (accepted s) slot sender = slotChannel s slot sender := rfl
@[simp] theorem entryBytes_of_accepted (s : State) (e : MapEntry) : entryBytes (accepted s) e = entryBytes s e := rfl
@[simp] theorem maskUnfitted_of_accepted (s : State) (mask : Nat) : maskUnfitted (accepted s) mask = maskUnfitted s mask := rfl
@[simp] theorem sleepCfg_of_accepted (s : State) (target : PState) (die : Nat) : sleepCfg (accepted s) target die = sleepCfg s target die := rfl
@[simp] theorem imageAt_of_accepted (s : State) (k : Nat) : imageAt (accepted s) k = imageAt s k := rfl
@[simp] theorem goodRun_of_accepted (s : State) (fitNow : Bool) : goodRun (accepted s) fitNow = goodRun s fitNow := rfl
@[simp] theorem tokenFault_of_accepted (s : State) (t : List Byte) (target : Nat) (nonce : List Byte) :
    tokenFault (accepted s) t target nonce = tokenFault s t target nonce := rfl
@[simp] theorem spanPack_of_accepted (s : State) : spanPack (accepted s) = spanPack s := rfl
@[simp] theorem brokenHops_of_accepted (s : State) : brokenHops (accepted s) = brokenHops s := rfl
@[simp] theorem slotMapOf_of_accepted (s : State) : slotMapOf (accepted s) = slotMapOf s := rfl
@[simp] theorem headerRejected_of_accepted (s : State) (quad : Bool) (a n hdrCrc : Nat) :
    headerRejected (accepted s) quad a n hdrCrc = headerRejected s quad a n hdrCrc := rfl
@[simp] theorem ownSelection_of_accepted (s : State) : ownSelection (accepted s) = ownSelection s := rfl
@[simp] theorem captureStep_of_accepted (s : State) (c : Capture) (t : Take) (committed : Bool) :
    captureStep (accepted s) c t committed = captureStep s c t committed := rfl
@[simp] theorem mergeRec_of_accepted (s : State) (r : FRec) (msg : BitVec 32) (cls : Nat) (k : MsgKind) :
    mergeRec (accepted s) r msg cls k = mergeRec s r msg cls k := rfl
@[simp] theorem newRec_of_accepted (s : State) (msg : BitVec 32) (cls : Nat) (k : MsgKind) :
    newRec (accepted s) msg cls k = newRec s msg cls k := rfl
@[simp] theorem sinceWide_of_accepted (s : State) (d : SegDie) : sinceWide (accepted s) d = sinceWide s d := rfl
@[simp] theorem cfg8_of_accepted (s : State) (off : Nat) : cfg8 (accepted s) off = cfg8 s off := rfl
@[simp] theorem timerCopy_of_accepted (s : State) : timerCopy (accepted s) = timerCopy s := rfl
@[simp] theorem noRival_of_accepted (s : State) (h : Hdr) (func : Nat) : noRival (accepted s) h func = noRival s h func := rfl
@[simp] theorem auxCal_of_accepted (s : State) (d : SegDie) (input : Nat) : auxCal (accepted s) d input = auxCal s d input := rfl
@[simp] theorem causeMask_of_accepted (s : State) (cls kind detail : Nat) :
    causeMask (accepted s) cls kind detail = causeMask s cls kind detail := rfl
@[simp] theorem canOpen_of_accepted (s : State) (h : Hdr) : canOpen (accepted s) h = canOpen s h := rfl
@[simp] theorem sweepsDecided_of_accepted (s : State) (t : Nat) : sweepsDecided (accepted s) t = sweepsDecided s t := rfl
@[simp] theorem safetyImage_of_accepted (s : State) : safetyImage (accepted s) = safetyImage s := rfl
@[simp] theorem inChain_of_accepted (s : State) : inChain (accepted s) = inChain s := rfl
@[simp] theorem tokenSigned_of_accepted (s : State) (t : List Byte) : tokenSigned (accepted s) t = tokenSigned s t := rfl
@[simp] theorem waitingReplies_of_accepted (s : State) (prio : Nat) : waitingReplies (accepted s) prio = waitingReplies s prio := rfl
@[simp] theorem studioPc_of_accepted (s : State) : studioPc (accepted s) = studioPc s := rfl
@[simp] theorem hpstat_of_accepted (s : State) : hpstat (accepted s) = hpstat s := rfl
@[simp] theorem packAtStart_of_accepted (s : State) : packAtStart (accepted s) = packAtStart s := rfl
@[simp] theorem portBits_of_accepted (s : State) : portBits (accepted s) = portBits s := rfl
@[simp] theorem nextStart_of_accepted (s : State) : nextStart (accepted s) = nextStart s := rfl
@[simp] theorem nextGen_of_accepted (s : State) (kind die input : Nat) : nextGen (accepted s) kind die input = nextGen s kind die input := rfl
@[simp] theorem runOf_of_accepted (s : State) (pkg : Nat) : runOf (accepted s) pkg = runOf s pkg := rfl
@[simp] theorem tempCal_of_accepted (s : State) (die input : Nat) : tempCal (accepted s) die input = tempCal s die input := rfl
@[simp] theorem tooLong_of_accepted (s : State) (segs : List SegDie) (source period : Nat) :
    tooLong (accepted s) segs source period = tooLong s segs source period := rfl
@[simp] theorem lastTake_of_accepted (s : State) : lastTake (accepted s) = lastTake s := rfl
@[simp] theorem chainSource_of_accepted (s : State) : chainSource (accepted s) = chainSource s := rfl
@[simp] theorem State.fitted_of_accepted (s : State) (code : Nat) : (accepted s).fitted code = s.fitted code := rfl
@[simp] theorem badDies_of_accepted (s : State) (t : Take) (committed : Bool) : badDies (accepted s) t committed = badDies s t committed := rfl
@[simp] theorem pendingBytes_of_accepted (s : State) : pendingBytes (accepted s) = pendingBytes s := rfl
@[simp] theorem bandOf_of_accepted (s : State) : bandOf (accepted s) = bandOf s := rfl
@[simp] theorem mergeWithdraws_of_accepted (s : State) (cls kind : Nat) (k : MsgKind) :
    mergeWithdraws (accepted s) cls kind k = mergeWithdraws s cls kind k := rfl
@[simp] theorem thermShown_of_accepted (s : State) (d : SegDie) (reading : DerateEntry → Option Int) :
    thermShown (accepted s) d reading = thermShown s d reading := rfl
@[simp] theorem rolledBack_of_accepted (s : State) (tmask : Nat) : rolledBack (accepted s) tmask = rolledBack s tmask := rfl
@[simp] theorem tapRes_of_accepted (s : State) (die tap : Nat) : tapRes (accepted s) die tap = tapRes s die tap := rfl
@[simp] theorem cycleDue_of_accepted (s : State) (d : SegDie) : cycleDue (accepted s) d = cycleDue s d := rfl
@[simp] theorem dieCutOff_of_accepted (s : State) (d : SegDie) : dieCutOff (accepted s) d = dieCutOff s d := rfl
@[simp] theorem wdCloses_of_accepted (s : State) : wdCloses (accepted s) = wdCloses s := rfl
@[simp] theorem tapFailures_of_accepted (s : State) (t : TapRun) : tapFailures (accepted s) t = tapFailures s t := rfl
@[simp] theorem sleepBusy_of_accepted (s : State) (die : Nat) (volts : List Int) (above : Int) :
    sleepBusy (accepted s) die volts above = sleepBusy s die volts above := rfl
@[simp] theorem injectPermitted_of_accepted (s : State) : injectPermitted (accepted s) = injectPermitted s := rfl
@[simp] theorem dollyState_of_accepted (s : State) (d : SegDie) (j : Nat) (y : Dolly) : dollyState (accepted s) d j y = dollyState s d j y := rfl
@[simp] theorem sweepState_of_accepted (s : State) : sweepState (accepted s) = sweepState s := rfl
@[simp] theorem hasSecondary_of_accepted (s : State) : hasSecondary (accepted s) = hasSecondary s := rfl
@[simp] theorem losesTo_of_accepted (s : State) (a b : Arb) : losesTo (accepted s) a b = losesTo s a b := rfl
@[simp] theorem inputAt_of_accepted (s : State) (n : Nat) : inputAt (accepted s) n = inputAt s n := rfl
@[simp] theorem mUart_of_accepted (s : State) : mUart (accepted s) = mUart s := rfl
@[simp] theorem openOf_of_accepted (s : State) (source : Nat) : openOf (accepted s) source = openOf s source := rfl
@[simp] theorem fieldNeeds_of_accepted (s : State) : fieldNeeds (accepted s) = fieldNeeds s := rfl
@[simp] theorem gatesDolly_of_accepted (s : State) (d : SegDie) (dolly input : Nat) :
    gatesDolly (accepted s) d dolly input = gatesDolly s d dolly input := rfl
@[simp] theorem heldCal_of_accepted (s : State) (die kind : Nat) : heldCal (accepted s) die kind = heldCal s die kind := rfl
@[simp] theorem rawctlLow_of_accepted (s : State) : rawctlLow (accepted s) = rawctlLow s := rfl
@[simp] theorem reaches_of_accepted (s : State) (a : Nat) : reaches (accepted s) a = reaches s a := rfl
@[simp] theorem compareCell_of_accepted (s : State) (d : SegDie) (m : DieMeas) (prev : List Int) (cell : Nat) :
    compareCell (accepted s) d m prev cell = compareCell s d m prev cell := rfl
@[simp] theorem mapUid_of_accepted (s : State) (addr : Nat) : mapUid (accepted s) addr = mapUid s addr := rfl
@[simp] theorem nextInterval_of_accepted (s : State) : nextInterval (accepted s) = nextInterval s := rfl
@[simp] theorem cellGain_of_accepted (s : State) (die : Nat) (nv : Int) : cellGain (accepted s) die nv = cellGain s die nv := rfl
@[simp] theorem canProbe_of_accepted (s : State) (d : SegDie) : canProbe (accepted s) d = canProbe s d := rfl
@[simp] theorem evidenceNow_of_accepted (s : State) (cause pc : Nat) : evidenceNow (accepted s) cause pc = evidenceNow s cause pc := rfl
@[simp] theorem jumps_of_accepted (s : State) (die cells : Nat) (now : List (Nat × Int)) :
    jumps (accepted s) die cells now = jumps s die cells now := rfl
@[simp] theorem residence_of_accepted (s : State) : residence (accepted s) = residence s := rfl
@[simp] theorem currentJumps_of_accepted (s : State) : currentJumps (accepted s) = currentJumps s := rfl
@[simp] theorem dollyHolds_of_accepted (s : State) (die kind j : Nat) : dollyHolds (accepted s) die kind j = dollyHolds s die kind j := rfl
@[simp] theorem primaryHead_of_accepted (s : State) : primaryHead (accepted s) = primaryHead s := rfl
@[simp] theorem isDark_of_accepted (s : State) : isDark (accepted s) = isDark s := rfl
@[simp] theorem senseRecord_of_accepted (s : State) (d : SegDie) : senseRecord (accepted s) d = senseRecord s d := rfl
@[simp] theorem histLen_of_accepted (s : State) : histLen (accepted s) = histLen s := rfl
@[simp] theorem alignLists_of_accepted (s : State) (die : Nat) (host force : Bool) (clap : Nat) (l : List (List Sample)) :
    alignLists (accepted s) die host force clap l = alignLists s die host force clap l := rfl
@[simp] theorem dollyHeld_of_accepted (s : State) (d : SegDie) (j : Nat) : dollyHeld (accepted s) d j = dollyHeld s d j := rfl
@[simp] theorem blockFlags_of_accepted (s : State) (d : SegDie) : blockFlags (accepted s) d = blockFlags s d := rfl
@[simp] theorem roundPeriod_of_accepted (s : State) : roundPeriod (accepted s) = roundPeriod s := rfl
@[simp] theorem currentCal_of_accepted (s : State) (die input : Nat) : currentCal (accepted s) die input = currentCal s die input := rfl
@[simp] theorem msUntil_of_accepted (s : State) (t : Tick) : msUntil (accepted s) t = msUntil s t := rfl
@[simp] theorem followsSync_of_accepted (s : State) : followsSync (accepted s) = followsSync s := rfl
@[simp] theorem dollyDuty_of_accepted (s : State) (d : SegDie) (cell : Nat) : dollyDuty (accepted s) d cell = dollyDuty s d cell := rfl
@[simp] theorem graceEnd_of_accepted (s : State) : graceEnd (accepted s) = graceEnd s := rfl
@[simp] theorem ownHdr_of_accepted (s : State) (h : Hdr) : ownHdr (accepted s) h = ownHdr s h := rfl
@[simp] theorem nextFrameSeq_of_accepted (s : State) (type : Nat) : nextFrameSeq (accepted s) type = nextFrameSeq s type := rfl
@[simp] theorem rsfNow_of_accepted (s : State) : rsfNow (accepted s) = rsfNow s := rfl
@[simp] theorem inMask_of_accepted (s : State) (n : Nat) : inMask (accepted s) n = inMask s n := rfl
@[simp] theorem State.freeBytes_of_accepted (s : State) (k : Nat) : (accepted s).freeBytes k = s.freeBytes k := rfl
@[simp] theorem freshFrame_of_accepted (s : State) (f : FrameHdr) (type : Nat) : freshFrame (accepted s) f type = freshFrame s f type := rfl
@[simp] theorem urgRefuses_of_accepted (s : State) (d : SegDie) : urgRefuses (accepted s) d = urgRefuses s d := rfl
@[simp] theorem freshSet_of_accepted (s : State) (type src : Nat) (key : Nat × Nat) :
    freshSet (accepted s) type src key = freshSet s type src key := rfl
@[simp] theorem isCandidate_of_accepted (s : State) (e : Int) : isCandidate (accepted s) e = isCandidate s e := rfl
@[simp] theorem dieSilent_of_accepted (s : State) (d : SegDie) : dieSilent (accepted s) d = dieSilent s d := rfl
@[simp] theorem ackedPct_of_accepted (s : State) (l : List (Nat × Bool)) : ackedPct (accepted s) l = ackedPct s l := rfl
@[simp] theorem studioAsleep_of_accepted (s : State) : studioAsleep (accepted s) = studioAsleep s := rfl
@[simp] theorem attemptCause_of_accepted (s : State) : attemptCause (accepted s) = attemptCause s := rfl
@[simp] theorem faultPayload_of_accepted (s : State) (r : FRec) (event cls : Nat) :
    faultPayload (accepted s) r event cls = faultPayload s r event cls := rfl
@[simp] theorem servedBy_of_accepted (s : State) (die cell : Nat) : servedBy (accepted s) die cell = servedBy s die cell := rfl
@[simp] theorem radioBytes_of_accepted (s : State) (kind dest : Nat) (ack : Bool) (payload : List Byte) :
    radioBytes (accepted s) kind dest ack payload = radioBytes s kind dest ack payload := rfl
@[simp] theorem rangeUnmapped_of_accepted (s : State) (first n : Nat) : rangeUnmapped (accepted s) first n = rangeUnmapped s first n := rfl
@[simp] theorem testMark_of_accepted (s : State) (d : SegDie) : testMark (accepted s) d = testMark s d := rfl
@[simp] theorem cDomains_of_accepted (s : State) : cDomains (accepted s) = cDomains s := rfl
@[simp] theorem sourceThere_of_accepted (s : State) : sourceThere (accepted s) = sourceThere s := rfl
@[simp] theorem dieAbove_of_accepted (s : State) (code : Nat) : dieAbove (accepted s) code = dieAbove s code := rfl
@[simp] theorem stagingOf_of_accepted (s : State) (h : Hdr) : stagingOf (accepted s) h = stagingOf s h := rfl
@[simp] theorem sweepDuration_of_accepted (s : State) : sweepDuration (accepted s) = sweepDuration s := rfl
@[simp] theorem conditionsHold_of_accepted (s : State) (tmask : Nat) : conditionsHold (accepted s) tmask = conditionsHold s tmask := rfl
@[simp] theorem lbWordOf_of_accepted (s : State) (die : Nat) : lbWordOf (accepted s) die = lbWordOf s die := rfl
@[simp] theorem anyTrip_of_accepted (s : State) : anyTrip (accepted s) = anyTrip s := rfl
@[simp] theorem takePairs_of_accepted (s : State) (t : Take) : takePairs (accepted s) t = takePairs s t := rfl
@[simp] theorem slotNow_of_accepted (s : State) : slotNow (accepted s) = slotNow s := rfl
@[simp] theorem timetableBytes_of_accepted (s : State) (d : SegDie) : timetableBytes (accepted s) d = timetableBytes s d := rfl
@[simp] theorem needOf_of_accepted (s : State) (cell : Nat) (e : Int) : needOf (accepted s) cell e = needOf s cell e := rfl
@[simp] theorem isCommitted_of_accepted (s : State) (h : Hdr) : isCommitted (accepted s) h = isCommitted s h := rfl
@[simp] theorem dieCells_of_accepted (s : State) (mask : Nat) (d : SegDie) : dieCells (accepted s) mask d = dieCells s mask d := rfl
@[simp] theorem queueBytes_of_accepted (s : State) : queueBytes (accepted s) = queueBytes s := rfl
@[simp] theorem packCurrents_of_accepted (s : State) : packCurrents (accepted s) = packCurrents s := rfl
@[simp] theorem tokenFields_of_accepted (s : State) (t : List Byte) (target : Nat) :
    tokenFields (accepted s) t target = tokenFields s t target := rfl
@[simp] theorem ackBytes_of_accepted (s : State) (dest : Nat) : ackBytes (accepted s) dest = ackBytes s dest := rfl
@[simp] theorem ownMapBytes_of_accepted (s : State) : ownMapBytes (accepted s) = ownMapBytes s := rfl
@[simp] theorem safeState_of_accepted (s : State) : safeState (accepted s) = safeState s := rfl
@[simp] theorem clearProbes_of_accepted (s : State) (die tap : Nat) : clearProbes (accepted s) die tap = clearProbes s die tap := rfl
@[simp] theorem emptySlot_of_accepted (s : State) : emptySlot (accepted s) = emptySlot s := rfl
@[simp] theorem served_of_accepted (s : State) (h : Hdr) (op : Nat) : served (accepted s) h op = served s h op := rfl
@[simp] theorem pickSlot_of_accepted (s : State) (target : Nat) (good : List Bool) :
    pickSlot (accepted s) target good = pickSlot s target good := rfl
@[simp] theorem sessionHost_of_accepted (s : State) (h : Hdr) : sessionHost (accepted s) h = sessionHost s h := rfl
@[simp] theorem runningRelease_of_accepted (s : State) (target : Nat) : runningRelease (accepted s) target = runningRelease s target := rfl
@[simp] theorem injected_of_accepted (s : State) (target : Nat) : injected (accepted s) target = injected s target := rfl
@[simp] theorem namesNoM_of_accepted (s : State) (addr : Nat) : namesNoM (accepted s) addr = namesNoM s addr := rfl
@[simp] theorem keyGate_of_accepted (s : State) : keyGate (accepted s) = keyGate s := rfl
@[simp] theorem checkpointFailures_of_accepted (s : State) : checkpointFailures (accepted s) = checkpointFailures s := rfl
@[simp] theorem blockCells_of_accepted (s : State) (f : ImpDef) (r : ImpRun) (senses : List SenseRun) (die : Nat) :
    blockCells (accepted s) f r senses die = blockCells s f r senses die := rfl
@[simp] theorem alignCurrents_of_accepted (s : State) : alignCurrents (accepted s) = alignCurrents s := rfl
@[simp] theorem ackList_of_accepted (s : State) : ackList (accepted s) = ackList s := rfl
@[simp] theorem blockLive_of_accepted (s : State) (d : SegDie) : blockLive (accepted s) d = blockLive s d := rfl
@[simp] theorem sessionBreak_of_accepted (s : State) (q : CalSession) : sessionBreak (accepted s) q = sessionBreak s q := rfl
@[simp] theorem slotLeft_of_accepted (s : State) (slot : Nat) : slotLeft (accepted s) slot = slotLeft s slot := rfl
@[simp] theorem takeDec_of_accepted (s : State) : takeDec (accepted s) = takeDec s := rfl
@[simp] theorem State.die?_of_accepted (s : State) (code : Nat) : (accepted s).die? code = s.die? code := rfl
@[simp] theorem meetsGuard_of_accepted (s : State) (d : SegDie) (mode cell : Nat) :
    meetsGuard (accepted s) d mode cell = meetsGuard s d mode cell := rfl
@[simp] theorem minPeriod_of_accepted (s : State) : minPeriod (accepted s) = minPeriod s := rfl
@[simp] theorem hvilEn_of_accepted (s : State) : hvilEn (accepted s) = hvilEn s := rfl
@[simp] theorem stopped__of_accepted (s : State) (h : Hdr) : stopped_ (accepted s) h = stopped_ s h := rfl
@[simp] theorem activeCauses_of_accepted (s : State) : activeCauses (accepted s) = activeCauses s := rfl
@[simp] theorem slewLeft_of_accepted (s : State) : slewLeft (accepted s) = slewLeft s := rfl
@[simp] theorem captureValues_of_accepted (s : State) (c : Capture) (b : Block) : captureValues (accepted s) c b = captureValues s c b := rfl
@[simp] theorem dailiesRange_of_accepted (s : State) (fromSeq toSeq types : Nat) :
    dailiesRange (accepted s) fromSeq toSeq types = dailiesRange s fromSeq toSeq types := rfl
@[simp] theorem servesRight_of_accepted (s : State) : servesRight (accepted s) = servesRight s := rfl
@[simp] theorem ripe_of_accepted (s : State) (t : Tick) : ripe (accepted s) t = ripe s t := rfl
@[simp] theorem nextSuperframe_of_accepted (s : State) : nextSuperframe (accepted s) = nextSuperframe s := rfl
@[simp] theorem wdElapsed_of_accepted (s : State) : wdElapsed (accepted s) = wdElapsed s := rfl
@[simp] theorem closeReason_of_accepted (s : State) (mask : Nat) : closeReason (accepted s) mask = closeReason s mask := rfl
@[simp] theorem tapsCalibrated_of_accepted (s : State) (d : SegDie) : tapsCalibrated (accepted s) d = tapsCalibrated s d := rfl
@[simp] theorem neediest_of_accepted (s : State) (es : List (Nat × Int)) : neediest (accepted s) es = neediest s es := rfl
@[simp] theorem wdOpens_of_accepted (s : State) : wdOpens (accepted s) = wdOpens s := rfl
@[simp] theorem pendingTimes_of_accepted (s : State) : pendingTimes (accepted s) = pendingTimes s := rfl
@[simp] theorem leavesNone_of_accepted (s : State) (mask : Nat) : leavesNone (accepted s) mask = leavesNone s mask := rfl
@[simp] theorem sweepPeriod_of_accepted (s : State) : sweepPeriod (accepted s) = sweepPeriod s := rfl
@[simp] theorem canCheck_of_accepted (s : State) (d : SegDie) : canCheck (accepted s) d = canCheck s d := rfl
@[simp] theorem atFt_of_accepted (s : State) (f : Nat) : atFt (accepted s) f = atFt s f := rfl
@[simp] theorem inOperate_of_accepted (s : State) (i : SInput) : inOperate (accepted s) i = inOperate s i := rfl
@[simp] theorem filterSamples_of_accepted (s : State) (input : Nat) : filterSamples (accepted s) input = filterSamples s input := rfl
@[simp] theorem guardRuns_of_accepted (s : State) (d : SegDie) : guardRuns (accepted s) d = guardRuns s d := rfl
@[simp] theorem refSums_of_accepted (s : State) (f : ImpDef) (r : ImpRun) (senses : List SenseRun) (die cell : Nat) :
    refSums (accepted s) f r senses die cell = refSums s f r senses die cell := rfl
@[simp] theorem readbackFault_of_accepted (s : State) : readbackFault (accepted s) = readbackFault s := rfl
@[simp] theorem partCell_of_accepted (s : State) (die cell : Nat) : partCell (accepted s) die cell = partCell s die cell := rfl
@[simp] theorem tapRunOn_of_accepted (s : State) (d : SegDie) : tapRunOn (accepted s) d = tapRunOn s d := rfl
@[simp] theorem rawresWord_of_accepted (s : State) : rawresWord (accepted s) = rawresWord s := rfl
@[simp] theorem waitingTaps_of_accepted (s : State) (d : SegDie) : waitingTaps (accepted s) d = waitingTaps s d := rfl
@[simp] theorem verifyImage_of_accepted (s : State) (target : Nat) : verifyImage (accepted s) target = verifyImage s target := rfl
@[simp] theorem gradientOk_of_accepted (s : State) (e mean : Int) : gradientOk (accepted s) e mean = gradientOk s e mean := rfl
@[simp] theorem sweepRecord_of_accepted (s : State) (d : SegDie) : sweepRecord (accepted s) d = sweepRecord s d := rfl
@[simp] theorem horizonLeft_of_accepted (s : State) : horizonLeft (accepted s) = horizonLeft s := rfl
@[simp] theorem dieLimit_of_accepted (s : State) (d : SegDie) : dieLimit (accepted s) d = dieLimit s d := rfl
@[simp] theorem inputHolds_of_accepted (s : State) (kind n : Nat) : inputHolds (accepted s) kind n = inputHolds s kind n := rfl
@[simp] theorem canTest_of_accepted (s : State) (d : SegDie) : canTest (accepted s) d = canTest s d := rfl
@[simp] theorem dieOut_of_accepted (s : State) : dieOut (accepted s) = dieOut s := rfl

end Sys2Proof.Machine
end

