-- ==== Sys2Proof/Laws/Exec.lean ====
section
/-! SUPPORT. What every command and every tick keeps: the meaning of a command that does not act in M leaves M alone; each meaning keeps
memory in its canonical form, the dies, the queue and the part. -/
set_option Elab.async false
namespace Sys2Proof.Machine

/-- A meaning that does not act in M keeps `Apart` with M the same. -/
theorem exec_apart (i : Instr) (s : State) (n : reachesM i = false) : ApartO true s (exec i s) := by
  have h := Apart.refl true s
  cases i with
  | spiRead x1 x2 x3 x4 => exact execSpiRead_apart x1 x2 x3 x4 s h
  | spiWrite x1 x2 x3 x4 x5 x6 => exact execSpiWrite_apart x1 x2 x3 x4 x5 x6 s h
  | quadRead x1 x2 x3 x4 => exact execQuadRead_apart x1 x2 x3 x4 s h
  | quadWrite x1 x2 x3 x4 x5 x6 => exact execQuadWrite_apart x1 x2 x3 x4 x5 x6 s h
  | registerWrite x1 x2 => exact execRegisterWrite_apart x1 x2 s h
  | doorbellIn x1 => exact execDoorbellIn_apart x1 s h
  | mailboxTakeFrame => exact execMailboxTakeFrame_apart s h
  | replyWrite x1 => exact execReplyWrite_apart x1 s h
  | doorbellOutack x1 => exact execDoorbellOutack_apart x1 s h
  | rawresCodeRead => exact execRawresCodeRead_apart s h
  | rawresTagRead => exact execRawresTagRead_apart s h
  | rawResultArrival x1 x2 x3 x4 x5 x6 x7 => exact execRawResultArrival_apart x1 x2 x3 x4 x5 x6 x7 s h
  | urggo => exact execUrggo_apart s h
  | urgclr => exact execUrgclr_apart s h
  | urgentRequestArrival x1 => exact execUrgentRequestArrival_apart x1 s h
  | urgentConversion x1 => exact execUrgentConversion_apart x1 s h
  | wdaWrite x1 x2 => exact execWdaWrite_apart x1 x2 s h
  | wdTimeout => exact execWdTimeout_apart s h
  | abortWrite x1 => exact execAbortWrite_apart x1 s h
  | operationAbortStop x1 x2 => exact execOperationAbortStop_apart x1 x2 s h
  | strrdWrite x1 => exact execStrrdWrite_apart x1 s h
  | swrstWrite x1 => exact execSwrstWrite_apart x1 s h
  | rstnAssert => exact execRstnAssert_apart s h
  | rstnRelease => exact execRstnRelease_apart s h
  | rstnStuck => exact execRstnStuck_apart s h
  | rstnIgnoreEnd => exact execRstnIgnoreEnd_apart s h
  | partStart x1 => exact execPartStart_apart x1 s h
  | studioReady x1 => exact execStudioReady_apart x1 s h
  | getIdentity x1 => exact execGetIdentity_apart x1 s h
  | getPowerStatus x1 => exact execGetPowerStatus_apart x1 s h
  | setPowerState x1 x2 x3 x4 => exact execSetPowerState_apart x1 x2 x3 x4 s h
  | shutdownSequence x1 => exact execShutdownSequence_apart x1 s h
  | lbistSupervisionResume x1 => exact execLbistSupervisionResume_apart x1 s h
  | setWake x1 x2 x3 x4 x5 x6 => exact execSetWake_apart x1 x2 x3 x4 x5 x6 s h
  | setMonitor x1 x2 x3 x4 => exact execSetMonitor_apart x1 x2 x3 x4 s h
  | setThermal x1 x2 x3 x4 x5 x6 => exact execSetThermal_apart x1 x2 x3 x4 x5 x6 s h
  | getThermal x1 => exact execGetThermal_apart x1 s h
  | setScrub x1 x2 => exact execSetScrub_apart x1 x2 s h
  | scrubNow x1 => exact execScrubNow_apart x1 s h
  | setClocks x1 x2 => exact execSetClocks_apart x1 x2 s h
  | scrubStep x1 x2 => exact execScrubStep_apart x1 x2 s h
  | scrubDue => exact execScrubDue_apart s h
  | wake x1 => exact execWake_apart x1 s h
  | vlvLow x1 => exact execVlvLow_apart x1 s h
  | vlvBrownOut x1 => exact execVlvBrownOut_apart x1 s h
  | vlvReturn x1 => exact execVlvReturn_apart x1 s h
  | monitorBurst => exact execMonitorBurst_apart s h
  | ringBurst x1 => exact execRingBurst_apart x1 s h
  | guardPass x1 x2 => exact execGuardPass_apart x1 x2 s h
  | studioSleep => exact execStudioSleep_apart s h
  | sleepCheck x1 x2 x3 => exact execSleepCheck_apart x1 x2 x3 s h
  | clock32kFault => exact execClock32kFault_apart s h
  | pllLock => exact execPllLock_apart s h
  | pllUnlock x1 => exact execPllUnlock_apart x1 s h
  | housekeepingRound x1 x2 x3 x4 => exact execHousekeepingRound_apart x1 x2 x3 x4 s h
  | thermalLevel x1 x2 x3 => exact execThermalLevel_apart x1 x2 x3 s h
  | thermalRestart x1 => exact execThermalRestart_apart x1 s h
  | segmentSupplyLow x1 => exact execSegmentSupplyLow_apart x1 s h
  | segmentSupplyRestart x1 => exact execSegmentSupplyRestart_apart x1 s h
  | coreSupplyReset _ => exact nomatch n
  | setSequence x1 x2 x3 => exact execSetSequence_apart x1 x2 x3 s h
  | getSequence x1 x2 => exact execGetSequence_apart x1 x2 s h
  | setTrigger x1 x2 x3 x4 x5 x6 x7 => exact execSetTrigger_apart x1 x2 x3 x4 x5 x6 x7 s h
  | scheduleClappers x1 x2 x3 => exact execScheduleClappers_apart x1 x2 x3 s h
  | setSchedulingMode x1 x2 => exact execSetSchedulingMode_apart x1 x2 s h
  | setDollyInteraction x1 x2 x3 => exact execSetDollyInteraction_apart x1 x2 x3 s h
  | sweepControl x1 x2 => exact execSweepControl_apart x1 x2 s h
  | getSweepStatus x1 => exact execGetSweepStatus_apart x1 s h
  | setSelftest x1 x2 => exact execSetSelftest_apart x1 x2 s h
  | modeSwitchTakesEffect => exact execModeSwitchTakesEffect_apart s h
  | clapPinEdge x1 => exact execClapPinEdge_apart x1 s h
  | scheduleSend => exact execScheduleSend_apart s h
  | clapper x1 => exact execClapper_apart x1 s h
  | quietGate x1 x2 x3 x4 => exact execQuietGate_apart x1 x2 x3 x4 s h
  | sweepEnd => exact execSweepEnd_apart s h
  | clapPinSilent => exact execClapPinSilent_apart s h
  | selftestStart x1 => exact execSelftestStart_apart x1 s h
  | selftestEnd x1 x2 x3 x4 => exact execSelftestEnd_apart x1 x2 x3 x4 s h
  | refokChange x1 x2 x3 => exact execRefokChange_apart x1 x2 x3 s h
  | refStartTimeout x1 x2 => exact execRefStartTimeout_apart x1 x2 s h
  | statusWordTimer x1 => exact execStatusWordTimer_apart x1 s h
  | guardGroup x1 x2 => exact execGuardGroup_apart x1 x2 s h
  | setFilters x1 x2 x3 => exact execSetFilters_apart x1 x2 x3 s h
  | getFilters x1 => exact execGetFilters_apart x1 s h
  | setAlignment x1 x2 x3 x4 x5 x6 => exact execSetAlignment_apart x1 x2 x3 x4 x5 x6 s h
  | setResistance x1 x2 x3 => exact execSetResistance_apart x1 x2 x3 s h
  | getResistance x1 x2 x3 => exact execGetResistance_apart x1 x2 x3 s h
  | setFilterMode x1 x2 x3 => exact execSetFilterMode_apart x1 x2 x3 s h
  | setContinuity x1 x2 x3 x4 => exact execSetContinuity_apart x1 x2 x3 x4 s h
  | sendVerdict x1 x2 x3 => exact execSendVerdict_apart x1 x2 x3 s h
  | setStream x1 x2 => exact execSetStream_apart x1 x2 s h
  | readHistory x1 x2 x3 => exact execReadHistory_apart x1 x2 x3 s h
  | historyRecordWrite => exact execHistoryRecordWrite_apart s h
  | charge x1 x2 x3 => exact execCharge_apart x1 x2 x3 s h
  | chargePresetApply => exact execChargePresetApply_apart s h
  | getSlateStatus x1 => exact execGetSlateStatus_apart x1 s h
  | dieBlock x1 x2 => exact execDieBlock_apart x1 x2 s h
  | slatePublish => exact execSlatePublish_apart s h
  | continuityWindowClose x1 => exact execContinuityWindowClose_apart x1 s h
  | continuityVerdict x1 x2 => exact execContinuityVerdict_apart x1 x2 s h
  | commitNotice => exact execCommitNotice_apart s h
  | windowIncomplete x1 => exact execWindowIncomplete_apart x1 s h
  | openWindowFinish x1 x2 => exact execOpenWindowFinish_apart x1 x2 s h
  | verdictTimeout => exact execVerdictTimeout_apart s h
  | calStart x1 x2 x3 x4 => exact execCalStart_apart x1 x2 x3 x4 s h
  | calPoint x1 x2 x3 x4 => exact execCalPoint_apart x1 x2 x3 x4 s h
  | calCommit x1 => exact execCalCommit_apart x1 s h
  | calCancel x1 => exact execCalCancel_apart x1 s h
  | calCellGain x1 x2 x3 x4 => exact execCalCellGain_apart x1 x2 x3 x4 s h
  | calTaps x1 x2 x3 => exact execCalTaps_apart x1 x2 x3 s h
  | calTapsStepEnd x1 => exact execCalTapsStepEnd_apart x1 s h
  | setTapResistance x1 x2 x3 x4 => exact execSetTapResistance_apart x1 x2 x3 x4 s h
  | getCalibration x1 x2 x3 x4 => exact execGetCalibration_apart x1 x2 x3 x4 s h
  | calErase x1 x2 x3 x4 => exact execCalErase_apart x1 x2 x3 x4 s h
  | flashStepComplete => exact execFlashStepComplete_apart s h
  | setOpenTap x1 x2 x3 x4 => exact execSetOpenTap_apart x1 x2 x3 x4 s h
  | probeTap x1 x2 x3 => exact execProbeTap_apart x1 x2 x3 s h
  | getSenseStatus x1 => exact execGetSenseStatus_apart x1 s h
  | runMatrixTest x1 x2 => exact execRunMatrixTest_apart x1 x2 s h
  | runLeakageTest x1 x2 x3 x4 => exact execRunLeakageTest_apart x1 x2 x3 x4 s h
  | setThermistors x1 x2 x3 x4 x5 => exact execSetThermistors_apart x1 x2 x3 x4 x5 s h
  | openTapProbeStart x1 x2 x3 => exact execOpenTapProbeStart_apart x1 x2 x3 s h
  | openTapVerdict x1 x2 x3 x4 => exact execOpenTapVerdict_apart x1 x2 x3 x4 s h
  | refXcheckBlock x1 => exact execRefXcheckBlock_apart x1 s h
  | matrixTestStep x1 x2 x3 x4 => exact execMatrixTestStep_apart x1 x2 x3 x4 s h
  | leakageTestEnd x1 x2 x3 x4 => exact execLeakageTestEnd_apart x1 x2 x3 x4 s h
  | groupTestDue x1 x2 => exact execGroupTestDue_apart x1 x2 s h
  | setSpans x1 x2 => exact execSetSpans_apart x1 x2 s h
  | setGoal x1 x2 x3 x4 x5 x6 => exact execSetGoal_apart x1 x2 x3 x4 x5 x6 s h
  | setCellCapacity x1 x2 x3 => exact execSetCellCapacity_apart x1 x2 x3 s h
  | setChargeGoal x1 x2 x3 => exact execSetChargeGoal_apart x1 x2 x3 s h
  | setBalanceMode x1 x2 => exact execSetBalanceMode_apart x1 x2 s h
  | dollyOrder x1 x2 x3 x4 x5 x6 x7 x8 => exact execDollyOrder_apart x1 x2 x3 x4 x5 x6 x7 x8 s h
  | setDollyLimits x1 x2 x3 x4 => exact execSetDollyLimits_apart x1 x2 x3 x4 s h
  | setDerating x1 x2 x3 => exact execSetDerating_apart x1 x2 x3 s h
  | setSleepBalance x1 x2 x3 x4 x5 x6 x7 => exact execSetSleepBalance_apart x1 x2 x3 x4 x5 x6 x7 s h
  | getPlan x1 x2 => exact execGetPlan_apart x1 x2 s h
  | getBalanceStatus x1 x2 => exact execGetBalanceStatus_apart x1 x2 s h
  | plannerPrepare => exact execPlannerPrepare_apart s h
  | dollyApplyItem x1 x2 => exact execDollyApplyItem_apart x1 x2 s h
  | dollyLeaseExpired x1 x2 x3 x4 => exact execDollyLeaseExpired_apart x1 x2 x3 x4 s h
  | transferLimitEnd x1 x2 x3 x4 => exact execTransferLimitEnd_apart x1 x2 x3 x4 s h
  | dollyOvercurrent x1 x2 => exact execDollyOvercurrent_apart x1 x2 s h
  | dollyRegulation x1 x2 => exact execDollyRegulation_apart x1 x2 s h
  | dollySpanVoltage x1 x2 x3 => exact execDollySpanVoltage_apart x1 x2 x3 s h
  | dollyNoTransfer x1 x2 => exact execDollyNoTransfer_apart x1 x2 s h
  | dollyDriverSupply x1 => exact execDollyDriverSupply_apart x1 s h
  | dollyCheckTransferEnd x1 x2 x3 => exact execDollyCheckTransferEnd_apart x1 x2 x3 s h
  | dollyThermalResume x1 => exact execDollyThermalResume_apart x1 s h
  | sleepBalanceWake x1 => exact execSleepBalanceWake_apart x1 s h
  | sleepTakeEnd x1 x2 x3 => exact execSleepTakeEnd_apart x1 x2 x3 s h
  | sleepTakeRepeat x1 => exact execSleepTakeRepeat_apart x1 s h
  | sleepAwakeLimit x1 => exact execSleepAwakeLimit_apart x1 s h
  | defineSession x1 x2 x3 x4 x5 x6 x7 x8 x9 x10 => exact execDefineSession_apart x1 x2 x3 x4 x5 x6 x7 x8 x9 x10 s h
  | startSession x1 x2 => exact execStartSession_apart x1 x2 s h
  | getSessionStatus x1 => exact execGetSessionStatus_apart x1 s h
  | readPoints x1 x2 x3 => exact execReadPoints_apart x1 x2 x3 s h
  | pointReadbackWrite => exact execPointReadbackWrite_apart s h
  | setTempCoeffs x1 x2 x3 x4 => exact execSetTempCoeffs_apart x1 x2 x3 x4 s h
  | setImpedanceMode x1 x2 => exact execSetImpedanceMode_apart x1 x2 s h
  | modulateOrder x1 x2 x3 x4 x5 x6 x7 x8 => exact execModulateOrder_apart x1 x2 x3 x4 x5 x6 x7 x8 s h
  | modulateOrderEnd x1 x2 x3 x4 => exact execModulateOrderEnd_apart x1 x2 x3 x4 s h
  | lockinBlock x1 => exact execLockinBlock_apart x1 s h
  | enumerate x1 x2 => exact execEnumerate_apart x1 x2 s h
  | enumerationTimeout => exact execEnumerationTimeout_apart s h
  | getChainMap x1 x2 x3 => exact execGetChainMap_apart x1 x2 x3 s h
  | getLinkStatus x1 => exact execGetLinkStatus_apart x1 s h
  | setTimebase x1 x2 x3 => exact execSetTimebase_apart x1 x2 x3 s h
  | setPlacement x1 x2 x3 => exact execSetPlacement_apart x1 x2 x3 s h
  | setRadio x1 x2 x3 x4 => exact execSetRadio_apart x1 x2 x3 x4 s h
  | radioRekey x1 => exact execRadioRekey_apart x1 s h
  | setService x1 x2 x3 => exact execSetService_apart x1 x2 x3 s h
  | getRadioStatus x1 x2 x3 => exact execGetRadioStatus_apart x1 x2 x3 s h
  | clapperEvent x1 => exact execClapperEvent_apart x1 s h
  | ringPackTime x1 x2 => exact execRingPackTime_apart x1 x2 s h
  | ringCurrentSample x1 x2 x3 => exact execRingCurrentSample_apart x1 x2 x3 s h
  | ringConfigurationMessage x1 x2 => exact execRingConfigurationMessage_apart x1 x2 s h
  | statusWord x1 x2 x3 => exact execStatusWord_apart x1 x2 x3 s h
  | faultMessage x1 => exact execFaultMessage_apart x1 s h
  | ringInputLost x1 => exact execRingInputLost_apart x1 s h
  | ringLoss => exact execRingLoss_apart s h
  | fullSlateFrame x1 x2 => exact execFullSlateFrame_apart x1 x2 s h
  | compactSlateFrame x1 x2 => exact execCompactSlateFrame_apart x1 x2 s h
  | commitNoticeFrame x1 x2 => exact execCommitNoticeFrame_apart x1 x2 s h
  | otherStreamRecordFrame x1 x2 x3 => exact execOtherStreamRecordFrame_apart x1 x2 x3 s h
  | mailboxCommandFrame x1 x2 x3 => exact execMailboxCommandFrame_apart x1 x2 x3 s h
  | mailboxReplyFrame x1 x2 x3 => exact execMailboxReplyFrame_apart x1 x2 x3 s h
  | faultRecordFrame x1 x2 => exact execFaultRecordFrame_apart x1 x2 s h
  | superframeFrame x1 x2 x3 x4 x5 x6 x7 x8 x9 => exact execSuperframeFrame_apart x1 x2 x3 x4 x5 x6 x7 x8 x9 s h
  | heartbeat x1 x2 x3 x4 => exact execHeartbeat_apart x1 x2 x3 x4 s h
  | join x1 x2 x3 x4 x5 => exact execJoin_apart x1 x2 x3 x4 x5 s h
  | enumeration x1 x2 x3 x4 x5 => exact execEnumeration_apart x1 x2 x3 x4 x5 s h
  | scheduleFrame x1 x2 => exact execScheduleFrame_apart x1 x2 s h
  | bulkFrame x1 x2 x3 x4 x5 => exact execBulkFrame_apart x1 x2 x3 x4 x5 s h
  | configurationFrame x1 x2 x3 x4 => exact execConfigurationFrame_apart x1 x2 x3 x4 s h
  | clapSet x1 x2 x3 => exact execClapSet_apart x1 x2 x3 s h
  | currentSet x1 x2 x3 x4 => exact execCurrentSet_apart x1 x2 x3 x4 s h
  | syncSet x1 x2 x3 x4 x5 x6 => exact execSyncSet_apart x1 x2 x3 x4 x5 x6 s h
  | alarmSet x1 x2 x3 x4 => exact execAlarmSet_apart x1 x2 x3 x4 s h
  | delayReq x1 x2 => exact execDelayReq_apart x1 x2 s h
  | delayResp x1 x2 x3 => exact execDelayResp_apart x1 x2 x3 s h
  | delayMeasurement => exact execDelayMeasurement_apart s h
  | superframeStart x1 => exact execSuperframeStart_apart x1 s h
  | timePortChange => exact execTimePortChange_apart s h
  | packtimeUnlocked => exact execPacktimeUnlocked_apart s h
  | timeMasterTakeover => exact execTimeMasterTakeover_apart s h
  | packtimeRefLost => exact execPacktimeRefLost_apart s h
  | packTimeSave => exact execPackTimeSave_apart s h
  | noticeGapTimeout => exact execNoticeGapTimeout_apart s h
  | linkDown x1 => exact execLinkDown_apart x1 s h
  | linkUp x1 => exact execLinkUp_apart x1 s h
  | packageLost x1 => exact execPackageLost_apart x1 s h
  | radioSlot => exact execRadioSlot_apart s h
  | radioBeacon x1 x2 x3 x4 x5 => exact execRadioBeacon_apart x1 x2 x3 x4 x5 s h
  | radioAlarmFrame x1 x2 x3 x4 x5 => exact execRadioAlarmFrame_apart x1 x2 x3 x4 x5 s h
  | radioDataFrame x1 x2 x3 x4 x5 x6 x7 => exact execRadioDataFrame_apart x1 x2 x3 x4 x5 x6 x7 s h
  | radioAcknowledgement x1 x2 => exact execRadioAcknowledgement_apart x1 x2 s h
  | readMetro x1 x2 x3 => exact execReadMetro_apart x1 x2 x3 s h
  | signStatement x1 x2 => exact execSignStatement_apart x1 x2 s h
  | setDisplay x1 x2 x3 => exact execSetDisplay_apart x1 x2 x3 s h
  | readEvents x1 x2 x3 => exact execReadEvents_apart x1 x2 x3 s h
  | getMetroStatus x1 => exact execGetMetroStatus_apart x1 s h
  | setCurrentSource x1 x2 => exact execSetCurrentSource_apart x1 x2 s h
  | registerReadRequest _ _ => exact nomatch n
  | statementRequest _ _ => exact nomatch n
  | displayRequest _ _ => exact nomatch n
  | metroAnswer => exact execMetroAnswer_apart s h
  | metroWithdrawn => exact execMetroWithdrawn_apart s h
  | legalSample _ _ => exact nomatch n
  | streamFrame x1 x2 x3 x4 x5 x6 => exact execStreamFrame_apart x1 x2 x3 x4 x5 x6 s h
  | metroStreamLost => exact execMetroStreamLost_apart s h
  | metroRestored => exact execMetroRestored_apart s h
  | mstatusPoll => exact nomatch n
  | mStart _ _ _ _ => exact nomatch n
  | mPeriodicCheck _ _ => exact nomatch n
  | mIdleTimeout => exact nomatch n
  | mDormantTimeout => exact nomatch n
  | mWake _ => exact nomatch n
  | journalStore => exact nomatch n
  | powerFailStore => exact nomatch n
  | metroCalRead _ _ => exact nomatch n
  | metroCalPoint _ _ => exact nomatch n
  | metroCalPointDone _ => exact nomatch n
  | calStore => exact nomatch n
  | setAuthority _ => exact nomatch n
  | sealMetro => exact nomatch n
  | unsealMetro _ => exact nomatch n
  | mTestAccess _ => exact nomatch n
  | safetyLogin x1 x2 x3 => exact execSafetyLogin_apart x1 x2 x3 s h
  | safetyLogout x1 x2 => exact execSafetyLogout_apart x1 x2 s h
  | safetyConfigRead x1 x2 => exact execSafetyConfigRead_apart x1 x2 s h
  | safetyConfigStage x1 x2 x3 x4 => exact execSafetyConfigStage_apart x1 x2 x3 x4 s h
  | safetyConfigCommit x1 x2 x3 => exact execSafetyConfigCommit_apart x1 x2 x3 s h
  | safetyConfigApply => exact execSafetyConfigApply_apart s h
  | setPassword x1 x2 x3 x4 => exact execSetPassword_apart x1 x2 x3 x4 s h
  | soCommand x1 x2 x3 x4 => exact execSoCommand_apart x1 x2 x3 x4 s h
  | safetyDecide x1 x2 x3 => exact execSafetyDecide_apart x1 x2 x3 s h
  | getSafetyStatus x1 => exact execGetSafetyStatus_apart x1 s h
  | readChangeLog x1 x2 x3 => exact execReadChangeLog_apart x1 x2 x3 s h
  | crashRelease x1 x2 x3 => exact execCrashRelease_apart x1 x2 x3 s h
  | sessionTimeout x1 => exact execSessionTimeout_apart x1 s h
  | loginLockEnd => exact execLoginLockEnd_apart s h
  | testPulse x1 x2 x3 => exact execTestPulse_apart x1 x2 x3 s h
  | safetyChannelChange x1 x2 x3 => exact execSafetyChannelChange_apart x1 x2 x3 s h
  | siDiscrepancy x1 => exact execSiDiscrepancy_apart x1 s h
  | tpOverload x1 => exact execTpOverload_apart x1 s h
  | hvilSlot x1 x2 x3 => exact execHvilSlot_apart x1 x2 x3 s h
  | soFeedbackCheck x1 x2 => exact execSoFeedbackCheck_apart x1 x2 s h
  | offPulseTest x1 => exact execOffPulseTest_apart x1 s h
  | offPulseTestEnd x1 x2 x3 => exact execOffPulseTestEnd_apart x1 x2 x3 s h
  | safetyClockCheck x1 => exact execSafetyClockCheck_apart x1 s h
  | graceExpired x1 x2 x3 => exact execGraceExpired_apart x1 x2 x3 s h
  | faultRead x1 x2 x3 x4 => exact execFaultRead_apart x1 x2 x3 x4 s h
  | faultClear x1 x2 x3 x4 => exact execFaultClear_apart x1 x2 x3 x4 s h
  | getFaultStatus x1 => exact execGetFaultStatus_apart x1 s h
  | setReaction x1 x2 x3 x4 => exact execSetReaction_apart x1 x2 x3 x4 s h
  | getReaction x1 x2 x3 => exact execGetReaction_apart x1 x2 x3 s h
  | faultForce x1 x2 x3 x4 x5 x6 x7 => exact execFaultForce_apart x1 x2 x3 x4 x5 x6 x7 s h
  | forceHoldEnd x1 => exact execForceHoldEnd_apart x1 s h
  | injectCheck x1 x2 x3 x4 x5 => exact execInjectCheck_apart x1 x2 x3 x4 x5 s h
  | wdConfig x1 x2 x3 x4 x5 => exact execWdConfig_apart x1 x2 x3 x4 x5 s h
  | wdStatus x1 => exact execWdStatus_apart x1 s h
  | getEvidence x1 x2 => exact execGetEvidence_apart x1 x2 s h
  | faultDecide x1 x2 x3 => exact execFaultDecide_apart x1 x2 x3 s h
  | setReactionMode x1 x2 => exact execSetReactionMode_apart x1 x2 s h
  | getCheckpoints x1 => exact execGetCheckpoints_apart x1 s h
  | infoRecordClose x1 => exact execInfoRecordClose_apart x1 s h
  | checkpointCheckIn x1 => exact execCheckpointCheckIn_apart x1 s h
  | checkpointWindowEnd x1 => exact execCheckpointWindowEnd_apart x1 s h
  | mpuViolation x1 x2 => exact execMpuViolation_apart x1 x2 s h
  | sramEccError x1 x2 x3 x4 => exact execSramEccError_apart x1 x2 x3 x4 s h
  | keeperWatchdog x1 => exact execKeeperWatchdog_apart x1 s h
  | dailiesBucketRefill => exact execDailiesBucketRefill_apart s h
  | dailiesRead x1 x2 x3 x4 => exact execDailiesRead_apart x1 x2 x3 x4 s h
  | dailiesRecordWrite => exact execDailiesRecordWrite_apart s h
  | dailiesStatus x1 => exact execDailiesStatus_apart x1 s h
  | dailiesMark x1 x2 => exact execDailiesMark_apart x1 x2 s h
  | updateBegin x1 x2 x3 => exact execUpdateBegin_apart x1 x2 x3 s h
  | updateData x1 x2 x3 => exact execUpdateData_apart x1 x2 x3 s h
  | updateVerify x1 => exact execUpdateVerify_apart x1 s h
  | updateCancel x1 => exact execUpdateCancel_apart x1 s h
  | activate x1 x2 x3 x4 => exact execActivate_apart x1 x2 x3 x4 s h
  | activationCommitPoint x1 => exact execActivationCommitPoint_apart x1 s h
  | activation => exact execActivation_apart s h
  | confirmation x1 x2 => exact execConfirmation_apart x1 x2 s h
  | confirmTimeout => exact execConfirmTimeout_apart s h
  | getUpdateStatus x1 => exact execGetUpdateStatus_apart x1 s h
  | setActivationMode x1 x2 => exact execSetActivationMode_apart x1 x2 s h
  | enterRecovery x1 x2 => exact execEnterRecovery_apart x1 x2 s h
  | setCustomerKey x1 x2 x3 => exact execSetCustomerKey_apart x1 x2 x3 s h
  | getLifecycle x1 => exact execGetLifecycle_apart x1 s h
  | lcAdvance x1 x2 x3 x4 => exact execLcAdvance_apart x1 x2 x3 x4 s h
  | returnChallenge x1 x2 => exact execReturnChallenge_apart x1 x2 s h
  | enterReturn x1 x2 x3 => exact execEnterReturn_apart x1 x2 x3 s h
  | lcScrap x1 x2 x3 x4 => exact execLcScrap_apart x1 x2 x3 x4 s h
  | lbistRun x1 x2 x3 x4 => exact execLbistRun_apart x1 x2 x3 x4 s h
  | nonceExpiry => exact execNonceExpiry_apart s h
  | testAccessAttempt x1 => exact execTestAccessAttempt_apart x1 s h
  | arbitrationWindowClose => exact execArbitrationWindowClose_apart s h
  | ringInputReturn x1 => exact execRingInputReturn_apart x1 s h
  | notLocked => exact execNotLocked_apart s h

/-- Every meaning keeps `Apart`, M apart. -/
theorem exec_apart_any (i : Instr) (s : State) : ApartO false s (exec i s) := by
  by_cases n : reachesM i = false
  · exact ⟨fun t e => ((exec_apart i s n).of t e).weaken⟩
  have h := Apart.refl false s
  cases i with
  | coreSupplyReset x1 => exact execCoreSupplyReset_apart x1 s h
  | registerReadRequest x1 x2 => exact execRegisterReadRequest_apart x1 x2 s h
  | statementRequest x1 x2 => exact execStatementRequest_apart x1 x2 s h
  | displayRequest x1 x2 => exact execDisplayRequest_apart x1 x2 s h
  | legalSample x1 x2 => exact execLegalSample_apart x1 x2 s h
  | mstatusPoll => exact execMstatusPoll_apart s h
  | mStart x1 x2 x3 x4 => exact execMStart_apart x1 x2 x3 x4 s h
  | mPeriodicCheck x1 x2 => exact execMPeriodicCheck_apart x1 x2 s h
  | mIdleTimeout => exact execMIdleTimeout_apart s h
  | mDormantTimeout => exact execMDormantTimeout_apart s h
  | mWake x1 => exact execMWake_apart x1 s h
  | journalStore => exact execJournalStore_apart s h
  | powerFailStore => exact execPowerFailStore_apart s h
  | metroCalRead x1 x2 => exact execMetroCalRead_apart x1 x2 s h
  | metroCalPoint x1 x2 => exact execMetroCalPoint_apart x1 x2 s h
  | metroCalPointDone x1 => exact execMetroCalPointDone_apart x1 s h
  | calStore => exact execCalStore_apart s h
  | setAuthority x1 => exact execSetAuthority_apart x1 s h
  | sealMetro => exact execSeal_apart s h
  | unsealMetro x1 => exact execUnseal_apart x1 s h
  | mTestAccess x1 => exact execMTestAccess_apart x1 s h
  | _ => exact absurd rfl n

/-- A tick keeps `Apart` with M the same. -/
theorem tick_keeps (s : State) : Apart true s (tick s) := tick_apart s (.refl true s)

/-- What `kept` says survives whatever keeps `Apart`. -/
theorem Apart.kept {m : Bool} {r t : State} (a : Apart m r t) (h : kept r = true) : kept t = true := by
  simp only [Machine.kept, Bool.and_eq_true, fittedDies, servesRight, beq_iff_eq, Bool.not_eq_true'] at h ⊢
  obtain ⟨⟨h1, h2⟩, h3⟩ := h
  refine ⟨⟨a.mem h1, ?_⟩, ?_⟩
  · rw [a.codes, a.part, h2]
  · have p : servesP r.sup := fun e => by simpa [e] using h3
    have q := a.serves p
    cases e : t.sup.fatal || t.sup.halted
    · simp
    · simp [q e]

end Sys2Proof.Machine
end

