-- ==== Sys2Proof/Laws/HostPort.lean ====
section
/-! SUPPORT. What a host transaction does: accepted, refused, or turned away for its CRC. -/
namespace Sys2Proof.Machine

/-- C is up: out of reset and awake. -/
theorem cUp_parts {s : State} (h : cUp s = true) : s.port.inReset = false ∧ portAsleep s = false := by simpa [cUp] using h

/-- The parts of readiness. -/
theorem portReady_parts {s : State} (h : portReady s = true) :
    s.port.inReset = false ∧ portAsleep s = false ∧ s.port.swrstAt = none ∧ (s.chain.isHead = true ∨ s.chain.badHead = true) := by
  simp only [portReady, Bool.and_eq_true, Bool.or_eq_true, Option.isNone_iff_eq_none] at h
  exact ⟨(cUp_parts h.1.1).1, (cUp_parts h.1.1).2, h.1.2, h.2⟩

/-- A package whose role is settled takes none. -/
theorem takeHeadRole_settled (s : State) (h : s.chain.isHead = true ∨ s.chain.badHead = true) : takeHeadRole s = s := by
  unfold takeHeadRole
  rw [if_pos (by simpa using h)]

/-- A transaction begins: XSTAT is sent. -/
theorem beginTransaction_ready (s : State) (b : Bool) (h : s.port.swrstAt = none) : beginTransaction s b = xstatSent s := by
  have e : (xstatSent s).port.swrstAt = none := h
  simp [beginTransaction, e]

/-- The judgement of an accepted transaction. -/
theorem judge_accepted (s : State) (read quad : Bool) (a n : Nat) (r : Nat) (q : quad = true → s.port.quadEn = true) (h0 : 0 < n)
    (hn : n ≤ 4096) (hr : regionOf a n = some r) : judge s read quad a n (clockCount read quad n) true false = 0 := by
  have e : (quad && !s.port.quadEn) = false := by cases quad <;> simp_all
  simp [judge, e, hr, Nat.ne_of_gt h0, Nat.not_lt.2 hn]

/-- The end of an accepted transaction. -/
theorem endTransaction_accepted (s : State) (a : Nat) (l : List Byte) : endTransaction s a 0 l = setPrev s 0 := rfl

/-- An accepted read drives the bytes of its addresses and then has its side effects. -/
theorem spiReadT_accepted (s : State) (quad : Bool) (a n r : Nat) (p : portReady s = true) (q : quad = true → s.port.quadEn = true)
    (h0 : 0 < n) (hn : n ≤ 4096) (hr : regionOf a n = some r) :
    spiReadT s quad a n (headerCrc true quad a n).toNat (clockCount true quad n) =
      setPrev (takeHeadRole (readEffects (drive (xstatSent s) (readBytes s a n) (crc16 (readBytes s a n))) a n)) 0 := by
  obtain ⟨h1, h2, h3, _⟩ := portReady_parts p
  have j : judge (xstatSent s) true quad a n (clockCount true quad n) true false = 0 := judge_accepted _ _ _ _ _ r q h0 hn hr
  have b : readBytes (xstatSent s) a n = readBytes s a n := rfl
  simp [spiReadT, h1, h2, beginTransaction_ready s _ h3, j, b, endTransaction_accepted]

/-- A read outside the register region has no side effect. -/
theorem readEffects_memory (s : State) (a n : Nat) (h : regionOf a n ≠ some 0) : readEffects s a n = s := by simp [readEffects, h]

/-- An accepted direct write has its effect on the state after the transaction. -/
theorem hostWrite_accepted (s : State) (a : Nat) (data : List Byte) (r : Nat) (p : portReady s = true) (h0 : data ≠ [])
    (hn : data.length ≤ 4096) (hr : regionOf a data.length = some r) (w : writeRefused s a data = false) :
    hostWrite s a data = writeEffects (accepted s) a data := by
  obtain ⟨h1, h2, h3, h4⟩ := portReady_parts p
  have w' : writeRefused (xstatSent s) a data = false := w
  have t : takeHeadRole (accepted s) = accepted s := takeHeadRole_settled _ h4
  have u : setPrev (xstatSent s) 0 = accepted s := rfl
  simp [hostWrite, h1, h2, beginTransaction_ready s _ h3, w', hr, h0, Nat.not_lt.2 hn, endTransaction_accepted, u, t]

/-- A refused direct write stores nothing; PREV reads refused and the flags of its cause are set. -/
theorem hostWrite_refused (s : State) (a : Nat) (data : List Byte) (r : Nat) (p : portReady s = true) (h0 : data ≠ [])
    (hn : data.length ≤ 4096) (hr : regionOf a data.length = some r) (w : writeRefused s a data = true) :
    hostWrite s a data = endTransaction (xstatSent s) a 3 data := by
  obtain ⟨h1, h2, h3, _⟩ := portReady_parts p
  have w' : writeRefused (xstatSent s) a data = true := w
  simp [hostWrite, h1, h2, beginTransaction_ready s _ h3, w', hr, h0, Nat.not_lt.2 hn]

/-- An accepted write transaction has its effect on the state after the transaction. -/
theorem spiWriteT_accepted (s : State) (quad : Bool) (a : Nat) (data : List Byte) (r : Nat) (p : portReady s = true)
    (q : quad = true → s.port.quadEn = true) (h0 : data ≠ []) (hn : data.length ≤ 4096) (hr : regionOf a data.length = some r)
    (w : writeRefused s a data = false) :
    spiWriteT s quad a data.length (headerCrc false quad a data.length).toNat data (crc16 data).toNat
      (clockCount false quad data.length) = writeEffects (accepted s) a data := by
  obtain ⟨h1, h2, h3, h4⟩ := portReady_parts p
  have w' : writeRefused (xstatSent s) a data = false := w
  have t : takeHeadRole (accepted s) = accepted s := takeHeadRole_settled _ h4
  have u : setPrev (xstatSent s) 0 = accepted s := rfl
  have j : judge (xstatSent s) false quad a data.length (clockCount false quad data.length) true false = 0 :=
    judge_accepted _ _ _ _ _ r q (List.length_pos_iff.2 h0) hn hr
  simp [spiWriteT, h1, h2, beginTransaction_ready s _ h3, w', j, endTransaction_accepted, u, t]

end Sys2Proof.Machine
end

