-- ==== Sys2Proof/Laws/Mailbox.lean ====
section
/-! SUPPORT. What the shared mailbox operations do: the gate, a command's run, replies, operations, proofs, and events at a die. -/
namespace Sys2Proof.Machine

/-- Taking a command out of the queue changes nothing that the gate reads. -/
@[simp] theorem gate_dequeue (s : State) (h h' : Hdr) (op op' : Nat) : gate (dequeue s h op) h' op' = gate s h' op' := rfl

/-- A command that is served has its effect on the state without it in the queue. -/
theorem runCmd_accepted (s : State) (h : Hdr) (op : Nat) (body : State → State) (g : served s h op) :
    runCmd s h op body = body (dequeue s h op) := by
  simp [runCmd, g.1, g.2]

/-- A command at its turn that the gate turns away has the gate's status and no effect. -/
theorem runCmd_turnedAway (s : State) (h : Hdr) (op st : Nat) (body : State → State) (t : turn s h op = true)
    (g : gate s h op = some st) :
    runCmd s h op body = refuse (dequeue s h op) h op st := by
  simp [runCmd, t, g]

/-- A command that waits behind another one changes nothing (R69). -/
theorem runCmd_waits (s : State) (h : Hdr) (op : Nat) (body : State → State) (t : turn s h op = false) : runCmd s h op body = s := by
  simp [runCmd, t]

/-- A refusal other than FRAME_INVALID is a reply without a result. -/
theorem refuse_plain (s : State) (h : Hdr) (op st : Nat) (n : st ≠ stFrameInvalid) : refuse s h op st = reply s h op st [] := by
  simp [refuse, n]

/-- A malformed frame is answered and recorded (R89). -/
theorem refuse_malformed (s : State) (h : Hdr) (op : Nat) :
    refuse s h op stFrameInvalid = raise (reply s h op stFrameInvalid []) 0 0 0xD3 h.tag := by
  simp [refuse]

/-- The operation that a command opens. -/
def opened (h : Hdr) (op : Nat) : Op :=
  { origin := h.origin, prio := h.prio, tag := h.tag, opcode := op, source := h.target, stop := false }

/-- With fewer than 8 operations of its priority open, a command opens one and answers QUEUED (R70). -/
theorem startOp_room (s : State) (h : Hdr) (op : Nat) (body : State → State)
    (r : (s.mail.ops.filter fun o => o.prio == h.prio).length < 8) :
    startOp s h op body = body (reply { s with mail := { s.mail with ops := s.mail.ops ++ [opened h op] } } h op stQueued []) := by
  simp only [startOp]
  rw [if_neg (by omega)]
  rfl

/-- With 8 of its priority open it is turned away (R70). -/
theorem startOp_full (s : State) (h : Hdr) (op : Nat) (body : State → State)
    (r : 8 ≤ (s.mail.ops.filter fun o => o.prio == h.prio).length) : startOp s h op body = refuse s h op stBusy := by
  simp [startOp, r]

/-- The completion of an operation that is no longer open does nothing. -/
theorem completeOp_closed (s : State) (h : Hdr) (st : Nat) (l : List Byte) (n : opOf s h = none) : completeOp s h st l = s := by
  simp [completeOp, n]

/-- An operation whose abort was not accepted completes with its own status and result. -/
theorem completeOp_open (s : State) (h : Hdr) (st : Nat) (l : List Byte) (o : Op) (g : opOf s h = some o) (n : o.stop = false) :
    completeOp s h st l = reply (dropOp s h) h o.opcode st l := by
  simp [completeOp, g, finalStatus, n]

/-- An event at a fitted die. -/
theorem onDie_fitted (s : State) (code : Nat) (f : SegDie → State) (d : SegDie) (g : s.die? code = some d) :
    onDie s code f = .next (f d) := by
  simp [onDie, g]

/-- An event at a die that is not fitted stops by name. -/
theorem onDie_absent (s : State) (code : Nat) (f : SegDie → State) (g : s.die? code = none) :
    onDie s code f = .fault (.noSuchDie code) := by
  simp [onDie, g]

/-- A command whose proof is good runs with the proof used (R388). -/
theorem withProof_good (s : State) (h : Hdr) (op : Nat) (pre : List Byte) (p : Proof) (body : State → State)
    (g : proofGood s h op pre p = true) : withProof s h op pre p body = body (useProof s h p) := by
  simp [withProof, g]

/-- A command whose proof is bad completes with AUTH_FAILED and no effect (R388). -/
theorem withProof_bad (s : State) (h : Hdr) (op : Nat) (pre : List Byte) (p : Proof) (body : State → State)
    (g : proofGood s h op pre p = false) : withProof s h op pre p body = reply s h op stAuthFailed [] := by
  simp [withProof, g, refuse]

/-- An operation that can be opened is opened, and its command answered QUEUED (R70). -/
theorem startOp_opens (s : State) (h : Hdr) (op : Nat) (body : State → State) (r : canOpen s h) :
    startOp (dequeue s h op) h op body = body (openedCmd s h op) :=
  startOp_room (dequeue s h op) h op body r

/-- A switch command with no rival waits for its boundary while sweeps run (R32, R33). -/
theorem switchCmd_waits (s : State) (h : Hdr) (op func : Nat) (x : Setting) (c : canOpen s h) (n : noRival s h func)
    (r : s.sweep.running = true) : switchCmd (dequeue s h op) h op func x = waitingSwitch s h op func x := by
  have n1 : ((openedCmd s h op).mail.switches.filter fun w => w.func == func && headOf w.hdr == headOf h) = [] := n
  have n2 : ((openedCmd s h op).mail.switches.filter fun w => !(w.func == func && headOf w.hdr == headOf h)) =
      (openedCmd s h op).mail.switches :=
    List.filter_eq_self.2 fun a ha => by simpa [imp_iff_not_or] using List.filter_eq_nil_iff.1 n1 a ha
  have e : queueSwitch (dequeue s h op) h op func x = waitingSwitch s h op func x := by
    unfold queueSwitch
    rw [startOp_opens s h op _ c]
    simp only [n1, n2, List.foldl_nil]
    rfl
  have r' : (waitingSwitch s h op func x).sweep.running = true := r
  simp only [switchCmd, e, r', if_true]

end Sys2Proof.Machine
end

