-- ==== Sys2Proof/Laws/State.lean ====
section
/-! SUPPORT. What each basic update of the state leaves alone, field by field: the simp lemmas that later proofs use in place of its
definition. -/
namespace Sys2Proof.Machine

@[simp] theorem State.draw_pending (s : State) : (s.draw).pending = s.pending := rfl
@[simp] theorem State.draw_part (s : State) : (s.draw).part = s.part := rfl
@[simp] theorem State.draw_now (s : State) : (s.draw).now = s.now := rfl
@[simp] theorem State.draw_packTime (s : State) : (s.draw).packTime = s.packTime := rfl
@[simp] theorem State.draw_sent (s : State) : (s.draw).sent = s.sent := rfl
@[simp] theorem State.draw_port (s : State) : (s.draw).port = s.port := rfl
@[simp] theorem State.draw_mem (s : State) : (s.draw).mem = s.mem := rfl
@[simp] theorem State.draw_mail (s : State) : (s.draw).mail = s.mail := rfl
@[simp] theorem State.draw_stream (s : State) : (s.draw).stream = s.stream := rfl
@[simp] theorem State.draw_sweep (s : State) : (s.draw).sweep = s.sweep := rfl
@[simp] theorem State.draw_slates (s : State) : (s.draw).slates = s.slates := rfl
@[simp] theorem State.draw_cal (s : State) : (s.draw).cal = s.cal := rfl
@[simp] theorem State.draw_sense (s : State) : (s.draw).sense = s.sense := rfl
@[simp] theorem State.draw_balance (s : State) : (s.draw).balance = s.balance := rfl
@[simp] theorem State.draw_imp (s : State) : (s.draw).imp = s.imp := rfl
@[simp] theorem State.draw_ring (s : State) : (s.draw).ring = s.ring := rfl
@[simp] theorem State.draw_chain (s : State) : (s.draw).chain = s.chain := rfl
@[simp] theorem State.draw_radio (s : State) : (s.draw).radio = s.radio := rfl
@[simp] theorem State.draw_mport (s : State) : (s.draw).mport = s.mport := rfl
@[simp] theorem State.draw_metro (s : State) : (s.draw).metro = s.metro := rfl
@[simp] theorem State.draw_stage (s : State) : (s.draw).stage = s.stage := rfl
@[simp] theorem State.draw_safety (s : State) : (s.draw).safety = s.safety := rfl
@[simp] theorem State.draw_faults (s : State) : (s.draw).faults = s.faults := rfl
@[simp] theorem State.draw_wd (s : State) : (s.draw).wd = s.wd := rfl
@[simp] theorem State.draw_sup (s : State) : (s.draw).sup = s.sup := rfl
@[simp] theorem State.draw_dailies (s : State) : (s.draw).dailies = s.dailies := rfl
@[simp] theorem State.draw_power (s : State) : (s.draw).power = s.power := rfl
@[simp] theorem State.draw_fw (s : State) : (s.draw).fw = s.fw := rfl
@[simp] theorem State.draw_flash (s : State) : (s.draw).flash = s.flash := rfl
@[simp] theorem State.draw_life (s : State) : (s.draw).life = s.life := rfl
@[simp] theorem State.draw_nv (s : State) : (s.draw).nv = s.nv := rfl
@[simp] theorem State.draw_aon (s : State) : (s.draw).aon = s.aon := rfl
@[simp] theorem State.draw_segs (s : State) : (s.draw).segs = s.segs := rfl

@[simp] theorem State.updDie_pending (s : State) (code : Nat) (f : SegDie → SegDie) : (s.updDie code f).pending = s.pending := rfl
@[simp] theorem State.updDie_part (s : State) (code : Nat) (f : SegDie → SegDie) : (s.updDie code f).part = s.part := rfl
@[simp] theorem State.updDie_now (s : State) (code : Nat) (f : SegDie → SegDie) : (s.updDie code f).now = s.now := rfl
@[simp] theorem State.updDie_packTime (s : State) (code : Nat) (f : SegDie → SegDie) : (s.updDie code f).packTime = s.packTime := rfl
@[simp] theorem State.updDie_free (s : State) (code : Nat) (f : SegDie → SegDie) : (s.updDie code f).free = s.free := rfl
@[simp] theorem State.updDie_sent (s : State) (code : Nat) (f : SegDie → SegDie) : (s.updDie code f).sent = s.sent := rfl
@[simp] theorem State.updDie_port (s : State) (code : Nat) (f : SegDie → SegDie) : (s.updDie code f).port = s.port := rfl
@[simp] theorem State.updDie_mem (s : State) (code : Nat) (f : SegDie → SegDie) : (s.updDie code f).mem = s.mem := rfl
@[simp] theorem State.updDie_mail (s : State) (code : Nat) (f : SegDie → SegDie) : (s.updDie code f).mail = s.mail := rfl
@[simp] theorem State.updDie_stream (s : State) (code : Nat) (f : SegDie → SegDie) : (s.updDie code f).stream = s.stream := rfl
@[simp] theorem State.updDie_sweep (s : State) (code : Nat) (f : SegDie → SegDie) : (s.updDie code f).sweep = s.sweep := rfl
@[simp] theorem State.updDie_slates (s : State) (code : Nat) (f : SegDie → SegDie) : (s.updDie code f).slates = s.slates := rfl
@[simp] theorem State.updDie_cal (s : State) (code : Nat) (f : SegDie → SegDie) : (s.updDie code f).cal = s.cal := rfl
@[simp] theorem State.updDie_sense (s : State) (code : Nat) (f : SegDie → SegDie) : (s.updDie code f).sense = s.sense := rfl
@[simp] theorem State.updDie_balance (s : State) (code : Nat) (f : SegDie → SegDie) : (s.updDie code f).balance = s.balance := rfl
@[simp] theorem State.updDie_imp (s : State) (code : Nat) (f : SegDie → SegDie) : (s.updDie code f).imp = s.imp := rfl
@[simp] theorem State.updDie_ring (s : State) (code : Nat) (f : SegDie → SegDie) : (s.updDie code f).ring = s.ring := rfl
@[simp] theorem State.updDie_chain (s : State) (code : Nat) (f : SegDie → SegDie) : (s.updDie code f).chain = s.chain := rfl
@[simp] theorem State.updDie_radio (s : State) (code : Nat) (f : SegDie → SegDie) : (s.updDie code f).radio = s.radio := rfl
@[simp] theorem State.updDie_mport (s : State) (code : Nat) (f : SegDie → SegDie) : (s.updDie code f).mport = s.mport := rfl
@[simp] theorem State.updDie_metro (s : State) (code : Nat) (f : SegDie → SegDie) : (s.updDie code f).metro = s.metro := rfl
@[simp] theorem State.updDie_stage (s : State) (code : Nat) (f : SegDie → SegDie) : (s.updDie code f).stage = s.stage := rfl
@[simp] theorem State.updDie_safety (s : State) (code : Nat) (f : SegDie → SegDie) : (s.updDie code f).safety = s.safety := rfl
@[simp] theorem State.updDie_faults (s : State) (code : Nat) (f : SegDie → SegDie) : (s.updDie code f).faults = s.faults := rfl
@[simp] theorem State.updDie_wd (s : State) (code : Nat) (f : SegDie → SegDie) : (s.updDie code f).wd = s.wd := rfl
@[simp] theorem State.updDie_sup (s : State) (code : Nat) (f : SegDie → SegDie) : (s.updDie code f).sup = s.sup := rfl
@[simp] theorem State.updDie_dailies (s : State) (code : Nat) (f : SegDie → SegDie) : (s.updDie code f).dailies = s.dailies := rfl
@[simp] theorem State.updDie_power (s : State) (code : Nat) (f : SegDie → SegDie) : (s.updDie code f).power = s.power := rfl
@[simp] theorem State.updDie_fw (s : State) (code : Nat) (f : SegDie → SegDie) : (s.updDie code f).fw = s.fw := rfl
@[simp] theorem State.updDie_flash (s : State) (code : Nat) (f : SegDie → SegDie) : (s.updDie code f).flash = s.flash := rfl
@[simp] theorem State.updDie_life (s : State) (code : Nat) (f : SegDie → SegDie) : (s.updDie code f).life = s.life := rfl
@[simp] theorem State.updDie_nv (s : State) (code : Nat) (f : SegDie → SegDie) : (s.updDie code f).nv = s.nv := rfl
@[simp] theorem State.updDie_aon (s : State) (code : Nat) (f : SegDie → SegDie) : (s.updDie code f).aon = s.aon := rfl

@[simp] theorem State.setIrq_pending (s : State) (m : BitVec 32) : (s.setIrq m).pending = s.pending := rfl
@[simp] theorem State.setIrq_part (s : State) (m : BitVec 32) : (s.setIrq m).part = s.part := rfl
@[simp] theorem State.setIrq_now (s : State) (m : BitVec 32) : (s.setIrq m).now = s.now := rfl
@[simp] theorem State.setIrq_packTime (s : State) (m : BitVec 32) : (s.setIrq m).packTime = s.packTime := rfl
@[simp] theorem State.setIrq_free (s : State) (m : BitVec 32) : (s.setIrq m).free = s.free := rfl
@[simp] theorem State.setIrq_sent (s : State) (m : BitVec 32) : (s.setIrq m).sent = s.sent := rfl
@[simp] theorem State.setIrq_mem (s : State) (m : BitVec 32) : (s.setIrq m).mem = s.mem := rfl
@[simp] theorem State.setIrq_mail (s : State) (m : BitVec 32) : (s.setIrq m).mail = s.mail := rfl
@[simp] theorem State.setIrq_stream (s : State) (m : BitVec 32) : (s.setIrq m).stream = s.stream := rfl
@[simp] theorem State.setIrq_sweep (s : State) (m : BitVec 32) : (s.setIrq m).sweep = s.sweep := rfl
@[simp] theorem State.setIrq_slates (s : State) (m : BitVec 32) : (s.setIrq m).slates = s.slates := rfl
@[simp] theorem State.setIrq_cal (s : State) (m : BitVec 32) : (s.setIrq m).cal = s.cal := rfl
@[simp] theorem State.setIrq_sense (s : State) (m : BitVec 32) : (s.setIrq m).sense = s.sense := rfl
@[simp] theorem State.setIrq_balance (s : State) (m : BitVec 32) : (s.setIrq m).balance = s.balance := rfl
@[simp] theorem State.setIrq_imp (s : State) (m : BitVec 32) : (s.setIrq m).imp = s.imp := rfl
@[simp] theorem State.setIrq_ring (s : State) (m : BitVec 32) : (s.setIrq m).ring = s.ring := rfl
@[simp] theorem State.setIrq_chain (s : State) (m : BitVec 32) : (s.setIrq m).chain = s.chain := rfl
@[simp] theorem State.setIrq_radio (s : State) (m : BitVec 32) : (s.setIrq m).radio = s.radio := rfl
@[simp] theorem State.setIrq_mport (s : State) (m : BitVec 32) : (s.setIrq m).mport = s.mport := rfl
@[simp] theorem State.setIrq_metro (s : State) (m : BitVec 32) : (s.setIrq m).metro = s.metro := rfl
@[simp] theorem State.setIrq_stage (s : State) (m : BitVec 32) : (s.setIrq m).stage = s.stage := rfl
@[simp] theorem State.setIrq_safety (s : State) (m : BitVec 32) : (s.setIrq m).safety = s.safety := rfl
@[simp] theorem State.setIrq_faults (s : State) (m : BitVec 32) : (s.setIrq m).faults = s.faults := rfl
@[simp] theorem State.setIrq_wd (s : State) (m : BitVec 32) : (s.setIrq m).wd = s.wd := rfl
@[simp] theorem State.setIrq_sup (s : State) (m : BitVec 32) : (s.setIrq m).sup = s.sup := rfl
@[simp] theorem State.setIrq_dailies (s : State) (m : BitVec 32) : (s.setIrq m).dailies = s.dailies := rfl
@[simp] theorem State.setIrq_power (s : State) (m : BitVec 32) : (s.setIrq m).power = s.power := rfl
@[simp] theorem State.setIrq_fw (s : State) (m : BitVec 32) : (s.setIrq m).fw = s.fw := rfl
@[simp] theorem State.setIrq_flash (s : State) (m : BitVec 32) : (s.setIrq m).flash = s.flash := rfl
@[simp] theorem State.setIrq_life (s : State) (m : BitVec 32) : (s.setIrq m).life = s.life := rfl
@[simp] theorem State.setIrq_nv (s : State) (m : BitVec 32) : (s.setIrq m).nv = s.nv := rfl
@[simp] theorem State.setIrq_aon (s : State) (m : BitVec 32) : (s.setIrq m).aon = s.aon := rfl
@[simp] theorem State.setIrq_segs (s : State) (m : BitVec 32) : (s.setIrq m).segs = s.segs := rfl
@[simp] theorem State.setIrq_port_hpErr (s : State) (m : BitVec 32) : (s.setIrq m).port.hpErr = s.port.hpErr := rfl
@[simp] theorem State.setIrq_port_rstnIgn (s : State) (m : BitVec 32) : (s.setIrq m).port.rstnIgn = s.port.rstnIgn := rfl
@[simp] theorem State.setIrq_port_irqEn (s : State) (m : BitVec 32) : (s.setIrq m).port.irqEn = s.port.irqEn := rfl
@[simp] theorem State.setIrq_port_quadEn (s : State) (m : BitVec 32) : (s.setIrq m).port.quadEn = s.port.quadEn := rfl
@[simp] theorem State.setIrq_port_irqOd (s : State) (m : BitVec 32) : (s.setIrq m).port.irqOd = s.port.irqOd := rfl
@[simp] theorem State.setIrq_port_urgIn (s : State) (m : BitVec 32) : (s.setIrq m).port.urgIn = s.port.urgIn := rfl
@[simp] theorem State.setIrq_port_urgDie (s : State) (m : BitVec 32) : (s.setIrq m).port.urgDie = s.port.urgDie := rfl
@[simp] theorem State.setIrq_port_rawValid (s : State) (m : BitVec 32) : (s.setIrq m).port.rawValid = s.port.rawValid := rfl
@[simp] theorem State.setIrq_port_rawHold (s : State) (m : BitVec 32) : (s.setIrq m).port.rawHold = s.port.rawHold := rfl
@[simp] theorem State.setIrq_port_shadowTag (s : State) (m : BitVec 32) : (s.setIrq m).port.shadowTag = s.port.shadowTag := rfl
@[simp] theorem State.setIrq_port_shadowOpen (s : State) (m : BitVec 32) : (s.setIrq m).port.shadowOpen = s.port.shadowOpen := rfl
@[simp] theorem State.setIrq_port_ovrn (s : State) (m : BitVec 32) : (s.setIrq m).port.ovrn = s.port.ovrn := rfl
@[simp] theorem State.setIrq_port_lost (s : State) (m : BitVec 32) : (s.setIrq m).port.lost = s.port.lost := rfl
@[simp] theorem State.setIrq_port_rawLast (s : State) (m : BitVec 32) : (s.setIrq m).port.rawLast = s.port.rawLast := rfl
@[simp] theorem State.setIrq_port_urgDrop (s : State) (m : BitVec 32) : (s.setIrq m).port.urgDrop = s.port.urgDrop := rfl
@[simp] theorem State.setIrq_port_prev (s : State) (m : BitVec 32) : (s.setIrq m).port.prev = s.port.prev := rfl
@[simp] theorem State.setIrq_port_lastXstat (s : State) (m : BitVec 32) : (s.setIrq m).port.lastXstat = s.port.lastXstat := rfl
@[simp] theorem State.setIrq_port_lastData (s : State) (m : BitVec 32) : (s.setIrq m).port.lastData = s.port.lastData := rfl
@[simp] theorem State.setIrq_port_lastCrc (s : State) (m : BitVec 32) : (s.setIrq m).port.lastCrc = s.port.lastCrc := rfl
@[simp] theorem State.setIrq_port_abortTag (s : State) (m : BitVec 32) : (s.setIrq m).port.abortTag = s.port.abortTag := rfl
@[simp] theorem State.setIrq_port_abortPrio (s : State) (m : BitVec 32) : (s.setIrq m).port.abortPrio = s.port.abortPrio := rfl
@[simp] theorem State.setIrq_port_abortResult (s : State) (m : BitVec 32) : (s.setIrq m).port.abortResult = s.port.abortResult := rfl
@[simp] theorem State.setIrq_port_abortStatTag (s : State) (m : BitVec 32) : (s.setIrq m).port.abortStatTag = s.port.abortStatTag := rfl
@[simp] theorem State.setIrq_port_strWr (s : State) (m : BitVec 32) : (s.setIrq m).port.strWr = s.port.strWr := rfl
@[simp] theorem State.setIrq_port_strRd (s : State) (m : BitVec 32) : (s.setIrq m).port.strRd = s.port.strRd := rfl
@[simp] theorem State.setIrq_port_drops (s : State) (m : BitVec 32) : (s.setIrq m).port.drops = s.port.drops := rfl
@[simp] theorem State.setIrq_port_swrstAt (s : State) (m : BitVec 32) : (s.setIrq m).port.swrstAt = s.port.swrstAt := rfl
@[simp] theorem State.setIrq_port_rstnLow (s : State) (m : BitVec 32) : (s.setIrq m).port.rstnLow = s.port.rstnLow := rfl
@[simp] theorem State.setIrq_port_inReset (s : State) (m : BitVec 32) : (s.setIrq m).port.inReset = s.port.inReset := rfl
@[simp] theorem State.setIrq_port_rstnEdge (s : State) (m : BitVec 32) : (s.setIrq m).port.rstnEdge = s.port.rstnEdge := rfl

@[simp] theorem State.setHpErr_pending (s : State) (m : BitVec 32) : (s.setHpErr m).pending = s.pending := rfl
@[simp] theorem State.setHpErr_part (s : State) (m : BitVec 32) : (s.setHpErr m).part = s.part := rfl
@[simp] theorem State.setHpErr_now (s : State) (m : BitVec 32) : (s.setHpErr m).now = s.now := rfl
@[simp] theorem State.setHpErr_packTime (s : State) (m : BitVec 32) : (s.setHpErr m).packTime = s.packTime := rfl
@[simp] theorem State.setHpErr_free (s : State) (m : BitVec 32) : (s.setHpErr m).free = s.free := rfl
@[simp] theorem State.setHpErr_sent (s : State) (m : BitVec 32) : (s.setHpErr m).sent = s.sent := rfl
@[simp] theorem State.setHpErr_mem (s : State) (m : BitVec 32) : (s.setHpErr m).mem = s.mem := rfl
@[simp] theorem State.setHpErr_mail (s : State) (m : BitVec 32) : (s.setHpErr m).mail = s.mail := rfl
@[simp] theorem State.setHpErr_stream (s : State) (m : BitVec 32) : (s.setHpErr m).stream = s.stream := rfl
@[simp] theorem State.setHpErr_sweep (s : State) (m : BitVec 32) : (s.setHpErr m).sweep = s.sweep := rfl
@[simp] theorem State.setHpErr_slates (s : State) (m : BitVec 32) : (s.setHpErr m).slates = s.slates := rfl
@[simp] theorem State.setHpErr_cal (s : State) (m : BitVec 32) : (s.setHpErr m).cal = s.cal := rfl
@[simp] theorem State.setHpErr_sense (s : State) (m : BitVec 32) : (s.setHpErr m).sense = s.sense := rfl
@[simp] theorem State.setHpErr_balance (s : State) (m : BitVec 32) : (s.setHpErr m).balance = s.balance := rfl
@[simp] theorem State.setHpErr_imp (s : State) (m : BitVec 32) : (s.setHpErr m).imp = s.imp := rfl
@[simp] theorem State.setHpErr_ring (s : State) (m : BitVec 32) : (s.setHpErr m).ring = s.ring := rfl
@[simp] theorem State.setHpErr_chain (s : State) (m : BitVec 32) : (s.setHpErr m).chain = s.chain := rfl
@[simp] theorem State.setHpErr_radio (s : State) (m : BitVec 32) : (s.setHpErr m).radio = s.radio := rfl
@[simp] theorem State.setHpErr_mport (s : State) (m : BitVec 32) : (s.setHpErr m).mport = s.mport := rfl
@[simp] theorem State.setHpErr_metro (s : State) (m : BitVec 32) : (s.setHpErr m).metro = s.metro := rfl
@[simp] theorem State.setHpErr_stage (s : State) (m : BitVec 32) : (s.setHpErr m).stage = s.stage := rfl
@[simp] theorem State.setHpErr_safety (s : State) (m : BitVec 32) : (s.setHpErr m).safety = s.safety := rfl
@[simp] theorem State.setHpErr_faults (s : State) (m : BitVec 32) : (s.setHpErr m).faults = s.faults := rfl
@[simp] theorem State.setHpErr_wd (s : State) (m : BitVec 32) : (s.setHpErr m).wd = s.wd := rfl
@[simp] theorem State.setHpErr_sup (s : State) (m : BitVec 32) : (s.setHpErr m).sup = s.sup := rfl
@[simp] theorem State.setHpErr_dailies (s : State) (m : BitVec 32) : (s.setHpErr m).dailies = s.dailies := rfl
@[simp] theorem State.setHpErr_power (s : State) (m : BitVec 32) : (s.setHpErr m).power = s.power := rfl
@[simp] theorem State.setHpErr_fw (s : State) (m : BitVec 32) : (s.setHpErr m).fw = s.fw := rfl
@[simp] theorem State.setHpErr_flash (s : State) (m : BitVec 32) : (s.setHpErr m).flash = s.flash := rfl
@[simp] theorem State.setHpErr_life (s : State) (m : BitVec 32) : (s.setHpErr m).life = s.life := rfl
@[simp] theorem State.setHpErr_nv (s : State) (m : BitVec 32) : (s.setHpErr m).nv = s.nv := rfl
@[simp] theorem State.setHpErr_aon (s : State) (m : BitVec 32) : (s.setHpErr m).aon = s.aon := rfl
@[simp] theorem State.setHpErr_segs (s : State) (m : BitVec 32) : (s.setHpErr m).segs = s.segs := rfl
@[simp] theorem State.setHpErr_port_rstnIgn (s : State) (m : BitVec 32) : (s.setHpErr m).port.rstnIgn = s.port.rstnIgn := rfl
@[simp] theorem State.setHpErr_port_irq (s : State) (m : BitVec 32) : (s.setHpErr m).port.irq = s.port.irq := rfl
@[simp] theorem State.setHpErr_port_irqEn (s : State) (m : BitVec 32) : (s.setHpErr m).port.irqEn = s.port.irqEn := rfl
@[simp] theorem State.setHpErr_port_quadEn (s : State) (m : BitVec 32) : (s.setHpErr m).port.quadEn = s.port.quadEn := rfl
@[simp] theorem State.setHpErr_port_irqOd (s : State) (m : BitVec 32) : (s.setHpErr m).port.irqOd = s.port.irqOd := rfl
@[simp] theorem State.setHpErr_port_urgIn (s : State) (m : BitVec 32) : (s.setHpErr m).port.urgIn = s.port.urgIn := rfl
@[simp] theorem State.setHpErr_port_urgDie (s : State) (m : BitVec 32) : (s.setHpErr m).port.urgDie = s.port.urgDie := rfl
@[simp] theorem State.setHpErr_port_rawValid (s : State) (m : BitVec 32) : (s.setHpErr m).port.rawValid = s.port.rawValid := rfl
@[simp] theorem State.setHpErr_port_rawHold (s : State) (m : BitVec 32) : (s.setHpErr m).port.rawHold = s.port.rawHold := rfl
@[simp] theorem State.setHpErr_port_shadowTag (s : State) (m : BitVec 32) : (s.setHpErr m).port.shadowTag = s.port.shadowTag := rfl
@[simp] theorem State.setHpErr_port_shadowOpen (s : State) (m : BitVec 32) : (s.setHpErr m).port.shadowOpen = s.port.shadowOpen := rfl
@[simp] theorem State.setHpErr_port_ovrn (s : State) (m : BitVec 32) : (s.setHpErr m).port.ovrn = s.port.ovrn := rfl
@[simp] theorem State.setHpErr_port_lost (s : State) (m : BitVec 32) : (s.setHpErr m).port.lost = s.port.lost := rfl
@[simp] theorem State.setHpErr_port_rawLast (s : State) (m : BitVec 32) : (s.setHpErr m).port.rawLast = s.port.rawLast := rfl
@[simp] theorem State.setHpErr_port_urgDrop (s : State) (m : BitVec 32) : (s.setHpErr m).port.urgDrop = s.port.urgDrop := rfl
@[simp] theorem State.setHpErr_port_prev (s : State) (m : BitVec 32) : (s.setHpErr m).port.prev = s.port.prev := rfl
@[simp] theorem State.setHpErr_port_lastXstat (s : State) (m : BitVec 32) : (s.setHpErr m).port.lastXstat = s.port.lastXstat := rfl
@[simp] theorem State.setHpErr_port_lastData (s : State) (m : BitVec 32) : (s.setHpErr m).port.lastData = s.port.lastData := rfl
@[simp] theorem State.setHpErr_port_lastCrc (s : State) (m : BitVec 32) : (s.setHpErr m).port.lastCrc = s.port.lastCrc := rfl
@[simp] theorem State.setHpErr_port_abortTag (s : State) (m : BitVec 32) : (s.setHpErr m).port.abortTag = s.port.abortTag := rfl
@[simp] theorem State.setHpErr_port_abortPrio (s : State) (m : BitVec 32) : (s.setHpErr m).port.abortPrio = s.port.abortPrio := rfl
@[simp] theorem State.setHpErr_port_abortResult (s : State) (m : BitVec 32) : (s.setHpErr m).port.abortResult = s.port.abortResult := rfl
@[simp] theorem State.setHpErr_port_abortStatTag (s : State) (m : BitVec 32) : (s.setHpErr m).port.abortStatTag = s.port.abortStatTag := rfl
@[simp] theorem State.setHpErr_port_strWr (s : State) (m : BitVec 32) : (s.setHpErr m).port.strWr = s.port.strWr := rfl
@[simp] theorem State.setHpErr_port_strRd (s : State) (m : BitVec 32) : (s.setHpErr m).port.strRd = s.port.strRd := rfl
@[simp] theorem State.setHpErr_port_drops (s : State) (m : BitVec 32) : (s.setHpErr m).port.drops = s.port.drops := rfl
@[simp] theorem State.setHpErr_port_swrstAt (s : State) (m : BitVec 32) : (s.setHpErr m).port.swrstAt = s.port.swrstAt := rfl
@[simp] theorem State.setHpErr_port_rstnLow (s : State) (m : BitVec 32) : (s.setHpErr m).port.rstnLow = s.port.rstnLow := rfl
@[simp] theorem State.setHpErr_port_inReset (s : State) (m : BitVec 32) : (s.setHpErr m).port.inReset = s.port.inReset := rfl
@[simp] theorem State.setHpErr_port_rstnEdge (s : State) (m : BitVec 32) : (s.setHpErr m).port.rstnEdge = s.port.rstnEdge := rfl

@[simp] theorem xstatSent_pending (s : State) : (xstatSent s).pending = s.pending := rfl
@[simp] theorem xstatSent_part (s : State) : (xstatSent s).part = s.part := rfl
@[simp] theorem xstatSent_now (s : State) : (xstatSent s).now = s.now := rfl
@[simp] theorem xstatSent_packTime (s : State) : (xstatSent s).packTime = s.packTime := rfl
@[simp] theorem xstatSent_free (s : State) : (xstatSent s).free = s.free := rfl
@[simp] theorem xstatSent_sent (s : State) : (xstatSent s).sent = s.sent := rfl
@[simp] theorem xstatSent_mem (s : State) : (xstatSent s).mem = s.mem := rfl
@[simp] theorem xstatSent_mail (s : State) : (xstatSent s).mail = s.mail := rfl
@[simp] theorem xstatSent_stream (s : State) : (xstatSent s).stream = s.stream := rfl
@[simp] theorem xstatSent_sweep (s : State) : (xstatSent s).sweep = s.sweep := rfl
@[simp] theorem xstatSent_slates (s : State) : (xstatSent s).slates = s.slates := rfl
@[simp] theorem xstatSent_cal (s : State) : (xstatSent s).cal = s.cal := rfl
@[simp] theorem xstatSent_sense (s : State) : (xstatSent s).sense = s.sense := rfl
@[simp] theorem xstatSent_balance (s : State) : (xstatSent s).balance = s.balance := rfl
@[simp] theorem xstatSent_imp (s : State) : (xstatSent s).imp = s.imp := rfl
@[simp] theorem xstatSent_ring (s : State) : (xstatSent s).ring = s.ring := rfl
@[simp] theorem xstatSent_chain (s : State) : (xstatSent s).chain = s.chain := rfl
@[simp] theorem xstatSent_radio (s : State) : (xstatSent s).radio = s.radio := rfl
@[simp] theorem xstatSent_mport (s : State) : (xstatSent s).mport = s.mport := rfl
@[simp] theorem xstatSent_metro (s : State) : (xstatSent s).metro = s.metro := rfl
@[simp] theorem xstatSent_stage (s : State) : (xstatSent s).stage = s.stage := rfl
@[simp] theorem xstatSent_safety (s : State) : (xstatSent s).safety = s.safety := rfl
@[simp] theorem xstatSent_faults (s : State) : (xstatSent s).faults = s.faults := rfl
@[simp] theorem xstatSent_wd (s : State) : (xstatSent s).wd = s.wd := rfl
@[simp] theorem xstatSent_sup (s : State) : (xstatSent s).sup = s.sup := rfl
@[simp] theorem xstatSent_dailies (s : State) : (xstatSent s).dailies = s.dailies := rfl
@[simp] theorem xstatSent_power (s : State) : (xstatSent s).power = s.power := rfl
@[simp] theorem xstatSent_fw (s : State) : (xstatSent s).fw = s.fw := rfl
@[simp] theorem xstatSent_flash (s : State) : (xstatSent s).flash = s.flash := rfl
@[simp] theorem xstatSent_life (s : State) : (xstatSent s).life = s.life := rfl
@[simp] theorem xstatSent_nv (s : State) : (xstatSent s).nv = s.nv := rfl
@[simp] theorem xstatSent_aon (s : State) : (xstatSent s).aon = s.aon := rfl
@[simp] theorem xstatSent_segs (s : State) : (xstatSent s).segs = s.segs := rfl
@[simp] theorem xstatSent_port_hpErr (s : State) : (xstatSent s).port.hpErr = s.port.hpErr := rfl
@[simp] theorem xstatSent_port_rstnIgn (s : State) : (xstatSent s).port.rstnIgn = s.port.rstnIgn := rfl
@[simp] theorem xstatSent_port_irq (s : State) : (xstatSent s).port.irq = s.port.irq := rfl
@[simp] theorem xstatSent_port_irqEn (s : State) : (xstatSent s).port.irqEn = s.port.irqEn := rfl
@[simp] theorem xstatSent_port_quadEn (s : State) : (xstatSent s).port.quadEn = s.port.quadEn := rfl
@[simp] theorem xstatSent_port_irqOd (s : State) : (xstatSent s).port.irqOd = s.port.irqOd := rfl
@[simp] theorem xstatSent_port_urgIn (s : State) : (xstatSent s).port.urgIn = s.port.urgIn := rfl
@[simp] theorem xstatSent_port_urgDie (s : State) : (xstatSent s).port.urgDie = s.port.urgDie := rfl
@[simp] theorem xstatSent_port_rawValid (s : State) : (xstatSent s).port.rawValid = s.port.rawValid := rfl
@[simp] theorem xstatSent_port_rawHold (s : State) : (xstatSent s).port.rawHold = s.port.rawHold := rfl
@[simp] theorem xstatSent_port_shadowTag (s : State) : (xstatSent s).port.shadowTag = s.port.shadowTag := rfl
@[simp] theorem xstatSent_port_shadowOpen (s : State) : (xstatSent s).port.shadowOpen = s.port.shadowOpen := rfl
@[simp] theorem xstatSent_port_ovrn (s : State) : (xstatSent s).port.ovrn = s.port.ovrn := rfl
@[simp] theorem xstatSent_port_lost (s : State) : (xstatSent s).port.lost = s.port.lost := rfl
@[simp] theorem xstatSent_port_rawLast (s : State) : (xstatSent s).port.rawLast = s.port.rawLast := rfl
@[simp] theorem xstatSent_port_urgDrop (s : State) : (xstatSent s).port.urgDrop = s.port.urgDrop := rfl
@[simp] theorem xstatSent_port_prev (s : State) : (xstatSent s).port.prev = s.port.prev := rfl
@[simp] theorem xstatSent_port_lastData (s : State) : (xstatSent s).port.lastData = s.port.lastData := rfl
@[simp] theorem xstatSent_port_lastCrc (s : State) : (xstatSent s).port.lastCrc = s.port.lastCrc := rfl
@[simp] theorem xstatSent_port_abortTag (s : State) : (xstatSent s).port.abortTag = s.port.abortTag := rfl
@[simp] theorem xstatSent_port_abortPrio (s : State) : (xstatSent s).port.abortPrio = s.port.abortPrio := rfl
@[simp] theorem xstatSent_port_abortResult (s : State) : (xstatSent s).port.abortResult = s.port.abortResult := rfl
@[simp] theorem xstatSent_port_abortStatTag (s : State) : (xstatSent s).port.abortStatTag = s.port.abortStatTag := rfl
@[simp] theorem xstatSent_port_strWr (s : State) : (xstatSent s).port.strWr = s.port.strWr := rfl
@[simp] theorem xstatSent_port_strRd (s : State) : (xstatSent s).port.strRd = s.port.strRd := rfl
@[simp] theorem xstatSent_port_drops (s : State) : (xstatSent s).port.drops = s.port.drops := rfl
@[simp] theorem xstatSent_port_swrstAt (s : State) : (xstatSent s).port.swrstAt = s.port.swrstAt := rfl
@[simp] theorem xstatSent_port_rstnLow (s : State) : (xstatSent s).port.rstnLow = s.port.rstnLow := rfl
@[simp] theorem xstatSent_port_inReset (s : State) : (xstatSent s).port.inReset = s.port.inReset := rfl
@[simp] theorem xstatSent_port_rstnEdge (s : State) : (xstatSent s).port.rstnEdge = s.port.rstnEdge := rfl

@[simp] theorem setPrev_pending (s : State) (verdict : Nat) : (setPrev s verdict).pending = s.pending := rfl
@[simp] theorem setPrev_part (s : State) (verdict : Nat) : (setPrev s verdict).part = s.part := rfl
@[simp] theorem setPrev_now (s : State) (verdict : Nat) : (setPrev s verdict).now = s.now := rfl
@[simp] theorem setPrev_packTime (s : State) (verdict : Nat) : (setPrev s verdict).packTime = s.packTime := rfl
@[simp] theorem setPrev_free (s : State) (verdict : Nat) : (setPrev s verdict).free = s.free := rfl
@[simp] theorem setPrev_sent (s : State) (verdict : Nat) : (setPrev s verdict).sent = s.sent := rfl
@[simp] theorem setPrev_mem (s : State) (verdict : Nat) : (setPrev s verdict).mem = s.mem := rfl
@[simp] theorem setPrev_mail (s : State) (verdict : Nat) : (setPrev s verdict).mail = s.mail := rfl
@[simp] theorem setPrev_stream (s : State) (verdict : Nat) : (setPrev s verdict).stream = s.stream := rfl
@[simp] theorem setPrev_sweep (s : State) (verdict : Nat) : (setPrev s verdict).sweep = s.sweep := rfl
@[simp] theorem setPrev_slates (s : State) (verdict : Nat) : (setPrev s verdict).slates = s.slates := rfl
@[simp] theorem setPrev_cal (s : State) (verdict : Nat) : (setPrev s verdict).cal = s.cal := rfl
@[simp] theorem setPrev_sense (s : State) (verdict : Nat) : (setPrev s verdict).sense = s.sense := rfl
@[simp] theorem setPrev_balance (s : State) (verdict : Nat) : (setPrev s verdict).balance = s.balance := rfl
@[simp] theorem setPrev_imp (s : State) (verdict : Nat) : (setPrev s verdict).imp = s.imp := rfl
@[simp] theorem setPrev_ring (s : State) (verdict : Nat) : (setPrev s verdict).ring = s.ring := rfl
@[simp] theorem setPrev_chain (s : State) (verdict : Nat) : (setPrev s verdict).chain = s.chain := rfl
@[simp] theorem setPrev_radio (s : State) (verdict : Nat) : (setPrev s verdict).radio = s.radio := rfl
@[simp] theorem setPrev_mport (s : State) (verdict : Nat) : (setPrev s verdict).mport = s.mport := rfl
@[simp] theorem setPrev_metro (s : State) (verdict : Nat) : (setPrev s verdict).metro = s.metro := rfl
@[simp] theorem setPrev_stage (s : State) (verdict : Nat) : (setPrev s verdict).stage = s.stage := rfl
@[simp] theorem setPrev_safety (s : State) (verdict : Nat) : (setPrev s verdict).safety = s.safety := rfl
@[simp] theorem setPrev_faults (s : State) (verdict : Nat) : (setPrev s verdict).faults = s.faults := rfl
@[simp] theorem setPrev_wd (s : State) (verdict : Nat) : (setPrev s verdict).wd = s.wd := rfl
@[simp] theorem setPrev_sup (s : State) (verdict : Nat) : (setPrev s verdict).sup = s.sup := rfl
@[simp] theorem setPrev_dailies (s : State) (verdict : Nat) : (setPrev s verdict).dailies = s.dailies := rfl
@[simp] theorem setPrev_power (s : State) (verdict : Nat) : (setPrev s verdict).power = s.power := rfl
@[simp] theorem setPrev_fw (s : State) (verdict : Nat) : (setPrev s verdict).fw = s.fw := rfl
@[simp] theorem setPrev_flash (s : State) (verdict : Nat) : (setPrev s verdict).flash = s.flash := rfl
@[simp] theorem setPrev_life (s : State) (verdict : Nat) : (setPrev s verdict).life = s.life := rfl
@[simp] theorem setPrev_nv (s : State) (verdict : Nat) : (setPrev s verdict).nv = s.nv := rfl
@[simp] theorem setPrev_aon (s : State) (verdict : Nat) : (setPrev s verdict).aon = s.aon := rfl
@[simp] theorem setPrev_segs (s : State) (verdict : Nat) : (setPrev s verdict).segs = s.segs := rfl
@[simp] theorem setPrev_port_hpErr (s : State) (verdict : Nat) : (setPrev s verdict).port.hpErr = s.port.hpErr := rfl
@[simp] theorem setPrev_port_rstnIgn (s : State) (verdict : Nat) : (setPrev s verdict).port.rstnIgn = s.port.rstnIgn := rfl
@[simp] theorem setPrev_port_irq (s : State) (verdict : Nat) : (setPrev s verdict).port.irq = s.port.irq := rfl
@[simp] theorem setPrev_port_irqEn (s : State) (verdict : Nat) : (setPrev s verdict).port.irqEn = s.port.irqEn := rfl
@[simp] theorem setPrev_port_quadEn (s : State) (verdict : Nat) : (setPrev s verdict).port.quadEn = s.port.quadEn := rfl
@[simp] theorem setPrev_port_irqOd (s : State) (verdict : Nat) : (setPrev s verdict).port.irqOd = s.port.irqOd := rfl
@[simp] theorem setPrev_port_urgIn (s : State) (verdict : Nat) : (setPrev s verdict).port.urgIn = s.port.urgIn := rfl
@[simp] theorem setPrev_port_urgDie (s : State) (verdict : Nat) : (setPrev s verdict).port.urgDie = s.port.urgDie := rfl
@[simp] theorem setPrev_port_rawValid (s : State) (verdict : Nat) : (setPrev s verdict).port.rawValid = s.port.rawValid := rfl
@[simp] theorem setPrev_port_rawHold (s : State) (verdict : Nat) : (setPrev s verdict).port.rawHold = s.port.rawHold := rfl
@[simp] theorem setPrev_port_shadowTag (s : State) (verdict : Nat) : (setPrev s verdict).port.shadowTag = s.port.shadowTag := rfl
@[simp] theorem setPrev_port_shadowOpen (s : State) (verdict : Nat) : (setPrev s verdict).port.shadowOpen = s.port.shadowOpen := rfl
@[simp] theorem setPrev_port_ovrn (s : State) (verdict : Nat) : (setPrev s verdict).port.ovrn = s.port.ovrn := rfl
@[simp] theorem setPrev_port_lost (s : State) (verdict : Nat) : (setPrev s verdict).port.lost = s.port.lost := rfl
@[simp] theorem setPrev_port_rawLast (s : State) (verdict : Nat) : (setPrev s verdict).port.rawLast = s.port.rawLast := rfl
@[simp] theorem setPrev_port_urgDrop (s : State) (verdict : Nat) : (setPrev s verdict).port.urgDrop = s.port.urgDrop := rfl
@[simp] theorem setPrev_port_lastXstat (s : State) (verdict : Nat) : (setPrev s verdict).port.lastXstat = s.port.lastXstat := rfl
@[simp] theorem setPrev_port_lastData (s : State) (verdict : Nat) : (setPrev s verdict).port.lastData = s.port.lastData := rfl
@[simp] theorem setPrev_port_lastCrc (s : State) (verdict : Nat) : (setPrev s verdict).port.lastCrc = s.port.lastCrc := rfl
@[simp] theorem setPrev_port_abortTag (s : State) (verdict : Nat) : (setPrev s verdict).port.abortTag = s.port.abortTag := rfl
@[simp] theorem setPrev_port_abortPrio (s : State) (verdict : Nat) : (setPrev s verdict).port.abortPrio = s.port.abortPrio := rfl
@[simp] theorem setPrev_port_abortResult (s : State) (verdict : Nat) : (setPrev s verdict).port.abortResult = s.port.abortResult := rfl
@[simp] theorem setPrev_port_abortStatTag (s : State) (verdict : Nat) : (setPrev s verdict).port.abortStatTag = s.port.abortStatTag := rfl
@[simp] theorem setPrev_port_strWr (s : State) (verdict : Nat) : (setPrev s verdict).port.strWr = s.port.strWr := rfl
@[simp] theorem setPrev_port_strRd (s : State) (verdict : Nat) : (setPrev s verdict).port.strRd = s.port.strRd := rfl
@[simp] theorem setPrev_port_drops (s : State) (verdict : Nat) : (setPrev s verdict).port.drops = s.port.drops := rfl
@[simp] theorem setPrev_port_swrstAt (s : State) (verdict : Nat) : (setPrev s verdict).port.swrstAt = s.port.swrstAt := rfl
@[simp] theorem setPrev_port_rstnLow (s : State) (verdict : Nat) : (setPrev s verdict).port.rstnLow = s.port.rstnLow := rfl
@[simp] theorem setPrev_port_inReset (s : State) (verdict : Nat) : (setPrev s verdict).port.inReset = s.port.inReset := rfl
@[simp] theorem setPrev_port_rstnEdge (s : State) (verdict : Nat) : (setPrev s verdict).port.rstnEdge = s.port.rstnEdge := rfl

@[simp] theorem drive_pending (s : State) (l : List Byte) (crc : BitVec 16) : (drive s l crc).pending = s.pending := rfl
@[simp] theorem drive_part (s : State) (l : List Byte) (crc : BitVec 16) : (drive s l crc).part = s.part := rfl
@[simp] theorem drive_now (s : State) (l : List Byte) (crc : BitVec 16) : (drive s l crc).now = s.now := rfl
@[simp] theorem drive_packTime (s : State) (l : List Byte) (crc : BitVec 16) : (drive s l crc).packTime = s.packTime := rfl
@[simp] theorem drive_free (s : State) (l : List Byte) (crc : BitVec 16) : (drive s l crc).free = s.free := rfl
@[simp] theorem drive_sent (s : State) (l : List Byte) (crc : BitVec 16) : (drive s l crc).sent = s.sent := rfl
@[simp] theorem drive_mem (s : State) (l : List Byte) (crc : BitVec 16) : (drive s l crc).mem = s.mem := rfl
@[simp] theorem drive_mail (s : State) (l : List Byte) (crc : BitVec 16) : (drive s l crc).mail = s.mail := rfl
@[simp] theorem drive_stream (s : State) (l : List Byte) (crc : BitVec 16) : (drive s l crc).stream = s.stream := rfl
@[simp] theorem drive_sweep (s : State) (l : List Byte) (crc : BitVec 16) : (drive s l crc).sweep = s.sweep := rfl
@[simp] theorem drive_slates (s : State) (l : List Byte) (crc : BitVec 16) : (drive s l crc).slates = s.slates := rfl
@[simp] theorem drive_cal (s : State) (l : List Byte) (crc : BitVec 16) : (drive s l crc).cal = s.cal := rfl
@[simp] theorem drive_sense (s : State) (l : List Byte) (crc : BitVec 16) : (drive s l crc).sense = s.sense := rfl
@[simp] theorem drive_balance (s : State) (l : List Byte) (crc : BitVec 16) : (drive s l crc).balance = s.balance := rfl
@[simp] theorem drive_imp (s : State) (l : List Byte) (crc : BitVec 16) : (drive s l crc).imp = s.imp := rfl
@[simp] theorem drive_ring (s : State) (l : List Byte) (crc : BitVec 16) : (drive s l crc).ring = s.ring := rfl
@[simp] theorem drive_chain (s : State) (l : List Byte) (crc : BitVec 16) : (drive s l crc).chain = s.chain := rfl
@[simp] theorem drive_radio (s : State) (l : List Byte) (crc : BitVec 16) : (drive s l crc).radio = s.radio := rfl
@[simp] theorem drive_mport (s : State) (l : List Byte) (crc : BitVec 16) : (drive s l crc).mport = s.mport := rfl
@[simp] theorem drive_metro (s : State) (l : List Byte) (crc : BitVec 16) : (drive s l crc).metro = s.metro := rfl
@[simp] theorem drive_stage (s : State) (l : List Byte) (crc : BitVec 16) : (drive s l crc).stage = s.stage := rfl
@[simp] theorem drive_safety (s : State) (l : List Byte) (crc : BitVec 16) : (drive s l crc).safety = s.safety := rfl
@[simp] theorem drive_faults (s : State) (l : List Byte) (crc : BitVec 16) : (drive s l crc).faults = s.faults := rfl
@[simp] theorem drive_wd (s : State) (l : List Byte) (crc : BitVec 16) : (drive s l crc).wd = s.wd := rfl
@[simp] theorem drive_sup (s : State) (l : List Byte) (crc : BitVec 16) : (drive s l crc).sup = s.sup := rfl
@[simp] theorem drive_dailies (s : State) (l : List Byte) (crc : BitVec 16) : (drive s l crc).dailies = s.dailies := rfl
@[simp] theorem drive_power (s : State) (l : List Byte) (crc : BitVec 16) : (drive s l crc).power = s.power := rfl
@[simp] theorem drive_fw (s : State) (l : List Byte) (crc : BitVec 16) : (drive s l crc).fw = s.fw := rfl
@[simp] theorem drive_flash (s : State) (l : List Byte) (crc : BitVec 16) : (drive s l crc).flash = s.flash := rfl
@[simp] theorem drive_life (s : State) (l : List Byte) (crc : BitVec 16) : (drive s l crc).life = s.life := rfl
@[simp] theorem drive_nv (s : State) (l : List Byte) (crc : BitVec 16) : (drive s l crc).nv = s.nv := rfl
@[simp] theorem drive_aon (s : State) (l : List Byte) (crc : BitVec 16) : (drive s l crc).aon = s.aon := rfl
@[simp] theorem drive_segs (s : State) (l : List Byte) (crc : BitVec 16) : (drive s l crc).segs = s.segs := rfl
@[simp] theorem drive_port_hpErr (s : State) (l : List Byte) (crc : BitVec 16) : (drive s l crc).port.hpErr = s.port.hpErr := rfl
@[simp] theorem drive_port_rstnIgn (s : State) (l : List Byte) (crc : BitVec 16) : (drive s l crc).port.rstnIgn = s.port.rstnIgn := rfl
@[simp] theorem drive_port_irq (s : State) (l : List Byte) (crc : BitVec 16) : (drive s l crc).port.irq = s.port.irq := rfl
@[simp] theorem drive_port_irqEn (s : State) (l : List Byte) (crc : BitVec 16) : (drive s l crc).port.irqEn = s.port.irqEn := rfl
@[simp] theorem drive_port_quadEn (s : State) (l : List Byte) (crc : BitVec 16) : (drive s l crc).port.quadEn = s.port.quadEn := rfl
@[simp] theorem drive_port_irqOd (s : State) (l : List Byte) (crc : BitVec 16) : (drive s l crc).port.irqOd = s.port.irqOd := rfl
@[simp] theorem drive_port_urgIn (s : State) (l : List Byte) (crc : BitVec 16) : (drive s l crc).port.urgIn = s.port.urgIn := rfl
@[simp] theorem drive_port_urgDie (s : State) (l : List Byte) (crc : BitVec 16) : (drive s l crc).port.urgDie = s.port.urgDie := rfl
@[simp] theorem drive_port_rawValid (s : State) (l : List Byte) (crc : BitVec 16) : (drive s l crc).port.rawValid = s.port.rawValid := rfl
@[simp] theorem drive_port_rawHold (s : State) (l : List Byte) (crc : BitVec 16) : (drive s l crc).port.rawHold = s.port.rawHold := rfl
@[simp] theorem drive_port_shadowTag (s : State) (l : List Byte) (crc : BitVec 16) : (drive s l crc).port.shadowTag = s.port.shadowTag := rfl
@[simp] theorem drive_port_shadowOpen (s : State) (l : List Byte) (crc : BitVec 16) : (drive s l crc).port.shadowOpen = s.port.shadowOpen := rfl
@[simp] theorem drive_port_ovrn (s : State) (l : List Byte) (crc : BitVec 16) : (drive s l crc).port.ovrn = s.port.ovrn := rfl
@[simp] theorem drive_port_lost (s : State) (l : List Byte) (crc : BitVec 16) : (drive s l crc).port.lost = s.port.lost := rfl
@[simp] theorem drive_port_rawLast (s : State) (l : List Byte) (crc : BitVec 16) : (drive s l crc).port.rawLast = s.port.rawLast := rfl
@[simp] theorem drive_port_urgDrop (s : State) (l : List Byte) (crc : BitVec 16) : (drive s l crc).port.urgDrop = s.port.urgDrop := rfl
@[simp] theorem drive_port_prev (s : State) (l : List Byte) (crc : BitVec 16) : (drive s l crc).port.prev = s.port.prev := rfl
@[simp] theorem drive_port_lastXstat (s : State) (l : List Byte) (crc : BitVec 16) : (drive s l crc).port.lastXstat = s.port.lastXstat := rfl
@[simp] theorem drive_port_abortTag (s : State) (l : List Byte) (crc : BitVec 16) : (drive s l crc).port.abortTag = s.port.abortTag := rfl
@[simp] theorem drive_port_abortPrio (s : State) (l : List Byte) (crc : BitVec 16) : (drive s l crc).port.abortPrio = s.port.abortPrio := rfl
@[simp] theorem drive_port_abortResult (s : State) (l : List Byte) (crc : BitVec 16) : (drive s l crc).port.abortResult = s.port.abortResult := rfl
@[simp] theorem drive_port_abortStatTag (s : State) (l : List Byte) (crc : BitVec 16) :
    (drive s l crc).port.abortStatTag = s.port.abortStatTag := rfl
@[simp] theorem drive_port_strWr (s : State) (l : List Byte) (crc : BitVec 16) : (drive s l crc).port.strWr = s.port.strWr := rfl
@[simp] theorem drive_port_strRd (s : State) (l : List Byte) (crc : BitVec 16) : (drive s l crc).port.strRd = s.port.strRd := rfl
@[simp] theorem drive_port_drops (s : State) (l : List Byte) (crc : BitVec 16) : (drive s l crc).port.drops = s.port.drops := rfl
@[simp] theorem drive_port_swrstAt (s : State) (l : List Byte) (crc : BitVec 16) : (drive s l crc).port.swrstAt = s.port.swrstAt := rfl
@[simp] theorem drive_port_rstnLow (s : State) (l : List Byte) (crc : BitVec 16) : (drive s l crc).port.rstnLow = s.port.rstnLow := rfl
@[simp] theorem drive_port_inReset (s : State) (l : List Byte) (crc : BitVec 16) : (drive s l crc).port.inReset = s.port.inReset := rfl
@[simp] theorem drive_port_rstnEdge (s : State) (l : List Byte) (crc : BitVec 16) : (drive s l crc).port.rstnEdge = s.port.rstnEdge := rfl

@[simp] theorem dequeue_pending (s : State) (h : Hdr) (op : Nat) : (dequeue s h op).pending = s.pending := rfl
@[simp] theorem dequeue_part (s : State) (h : Hdr) (op : Nat) : (dequeue s h op).part = s.part := rfl
@[simp] theorem dequeue_now (s : State) (h : Hdr) (op : Nat) : (dequeue s h op).now = s.now := rfl
@[simp] theorem dequeue_packTime (s : State) (h : Hdr) (op : Nat) : (dequeue s h op).packTime = s.packTime := rfl
@[simp] theorem dequeue_free (s : State) (h : Hdr) (op : Nat) : (dequeue s h op).free = s.free := rfl
@[simp] theorem dequeue_sent (s : State) (h : Hdr) (op : Nat) : (dequeue s h op).sent = s.sent := rfl
@[simp] theorem dequeue_port (s : State) (h : Hdr) (op : Nat) : (dequeue s h op).port = s.port := rfl
@[simp] theorem dequeue_mem (s : State) (h : Hdr) (op : Nat) : (dequeue s h op).mem = s.mem := rfl
@[simp] theorem dequeue_stream (s : State) (h : Hdr) (op : Nat) : (dequeue s h op).stream = s.stream := rfl
@[simp] theorem dequeue_sweep (s : State) (h : Hdr) (op : Nat) : (dequeue s h op).sweep = s.sweep := rfl
@[simp] theorem dequeue_slates (s : State) (h : Hdr) (op : Nat) : (dequeue s h op).slates = s.slates := rfl
@[simp] theorem dequeue_cal (s : State) (h : Hdr) (op : Nat) : (dequeue s h op).cal = s.cal := rfl
@[simp] theorem dequeue_sense (s : State) (h : Hdr) (op : Nat) : (dequeue s h op).sense = s.sense := rfl
@[simp] theorem dequeue_balance (s : State) (h : Hdr) (op : Nat) : (dequeue s h op).balance = s.balance := rfl
@[simp] theorem dequeue_imp (s : State) (h : Hdr) (op : Nat) : (dequeue s h op).imp = s.imp := rfl
@[simp] theorem dequeue_ring (s : State) (h : Hdr) (op : Nat) : (dequeue s h op).ring = s.ring := rfl
@[simp] theorem dequeue_chain (s : State) (h : Hdr) (op : Nat) : (dequeue s h op).chain = s.chain := rfl
@[simp] theorem dequeue_radio (s : State) (h : Hdr) (op : Nat) : (dequeue s h op).radio = s.radio := rfl
@[simp] theorem dequeue_mport (s : State) (h : Hdr) (op : Nat) : (dequeue s h op).mport = s.mport := rfl
@[simp] theorem dequeue_metro (s : State) (h : Hdr) (op : Nat) : (dequeue s h op).metro = s.metro := rfl
@[simp] theorem dequeue_stage (s : State) (h : Hdr) (op : Nat) : (dequeue s h op).stage = s.stage := rfl
@[simp] theorem dequeue_safety (s : State) (h : Hdr) (op : Nat) : (dequeue s h op).safety = s.safety := rfl
@[simp] theorem dequeue_faults (s : State) (h : Hdr) (op : Nat) : (dequeue s h op).faults = s.faults := rfl
@[simp] theorem dequeue_wd (s : State) (h : Hdr) (op : Nat) : (dequeue s h op).wd = s.wd := rfl
@[simp] theorem dequeue_sup (s : State) (h : Hdr) (op : Nat) : (dequeue s h op).sup = s.sup := rfl
@[simp] theorem dequeue_dailies (s : State) (h : Hdr) (op : Nat) : (dequeue s h op).dailies = s.dailies := rfl
@[simp] theorem dequeue_power (s : State) (h : Hdr) (op : Nat) : (dequeue s h op).power = s.power := rfl
@[simp] theorem dequeue_fw (s : State) (h : Hdr) (op : Nat) : (dequeue s h op).fw = s.fw := rfl
@[simp] theorem dequeue_flash (s : State) (h : Hdr) (op : Nat) : (dequeue s h op).flash = s.flash := rfl
@[simp] theorem dequeue_life (s : State) (h : Hdr) (op : Nat) : (dequeue s h op).life = s.life := rfl
@[simp] theorem dequeue_nv (s : State) (h : Hdr) (op : Nat) : (dequeue s h op).nv = s.nv := rfl
@[simp] theorem dequeue_aon (s : State) (h : Hdr) (op : Nat) : (dequeue s h op).aon = s.aon := rfl
@[simp] theorem dequeue_segs (s : State) (h : Hdr) (op : Nat) : (dequeue s h op).segs = s.segs := rfl
@[simp] theorem dequeue_mail_doorbell (s : State) (h : Hdr) (op : Nat) : (dequeue s h op).mail.doorbell = s.mail.doorbell := rfl
@[simp] theorem dequeue_mail_outFull (s : State) (h : Hdr) (op : Nat) : (dequeue s h op).mail.outFull = s.mail.outFull := rfl
@[simp] theorem dequeue_mail_replies (s : State) (h : Hdr) (op : Nat) : (dequeue s h op).mail.replies = s.mail.replies := rfl
@[simp] theorem dequeue_mail_ops (s : State) (h : Hdr) (op : Nat) : (dequeue s h op).mail.ops = s.mail.ops := rfl
@[simp] theorem dequeue_mail_arb (s : State) (h : Hdr) (op : Nat) : (dequeue s h op).mail.arb = s.mail.arb := rfl
@[simp] theorem dequeue_mail_switches (s : State) (h : Hdr) (op : Nat) : (dequeue s h op).mail.switches = s.mail.switches := rfl
@[simp] theorem dequeue_mail_away (s : State) (h : Hdr) (op : Nat) : (dequeue s h op).mail.away = s.mail.away := rfl

@[simp] theorem reply_pending (s : State) (h : Hdr) (op status : Nat) (result : List Byte) : (reply s h op status result).pending = s.pending := rfl
@[simp] theorem reply_part (s : State) (h : Hdr) (op status : Nat) (result : List Byte) : (reply s h op status result).part = s.part := rfl
@[simp] theorem reply_now (s : State) (h : Hdr) (op status : Nat) (result : List Byte) : (reply s h op status result).now = s.now := rfl
@[simp] theorem reply_packTime (s : State) (h : Hdr) (op status : Nat) (result : List Byte) :
    (reply s h op status result).packTime = s.packTime := rfl
@[simp] theorem reply_free (s : State) (h : Hdr) (op status : Nat) (result : List Byte) : (reply s h op status result).free = s.free := rfl
@[simp] theorem reply_sent (s : State) (h : Hdr) (op status : Nat) (result : List Byte) : (reply s h op status result).sent = s.sent := rfl
@[simp] theorem reply_port (s : State) (h : Hdr) (op status : Nat) (result : List Byte) : (reply s h op status result).port = s.port := rfl
@[simp] theorem reply_mem (s : State) (h : Hdr) (op status : Nat) (result : List Byte) : (reply s h op status result).mem = s.mem := rfl
@[simp] theorem reply_stream (s : State) (h : Hdr) (op status : Nat) (result : List Byte) : (reply s h op status result).stream = s.stream := rfl
@[simp] theorem reply_sweep (s : State) (h : Hdr) (op status : Nat) (result : List Byte) : (reply s h op status result).sweep = s.sweep := rfl
@[simp] theorem reply_slates (s : State) (h : Hdr) (op status : Nat) (result : List Byte) : (reply s h op status result).slates = s.slates := rfl
@[simp] theorem reply_cal (s : State) (h : Hdr) (op status : Nat) (result : List Byte) : (reply s h op status result).cal = s.cal := rfl
@[simp] theorem reply_sense (s : State) (h : Hdr) (op status : Nat) (result : List Byte) : (reply s h op status result).sense = s.sense := rfl
@[simp] theorem reply_balance (s : State) (h : Hdr) (op status : Nat) (result : List Byte) : (reply s h op status result).balance = s.balance := rfl
@[simp] theorem reply_imp (s : State) (h : Hdr) (op status : Nat) (result : List Byte) : (reply s h op status result).imp = s.imp := rfl
@[simp] theorem reply_ring (s : State) (h : Hdr) (op status : Nat) (result : List Byte) : (reply s h op status result).ring = s.ring := rfl
@[simp] theorem reply_chain (s : State) (h : Hdr) (op status : Nat) (result : List Byte) : (reply s h op status result).chain = s.chain := rfl
@[simp] theorem reply_radio (s : State) (h : Hdr) (op status : Nat) (result : List Byte) : (reply s h op status result).radio = s.radio := rfl
@[simp] theorem reply_mport (s : State) (h : Hdr) (op status : Nat) (result : List Byte) : (reply s h op status result).mport = s.mport := rfl
@[simp] theorem reply_metro (s : State) (h : Hdr) (op status : Nat) (result : List Byte) : (reply s h op status result).metro = s.metro := rfl
@[simp] theorem reply_stage (s : State) (h : Hdr) (op status : Nat) (result : List Byte) : (reply s h op status result).stage = s.stage := rfl
@[simp] theorem reply_safety (s : State) (h : Hdr) (op status : Nat) (result : List Byte) : (reply s h op status result).safety = s.safety := rfl
@[simp] theorem reply_faults (s : State) (h : Hdr) (op status : Nat) (result : List Byte) : (reply s h op status result).faults = s.faults := rfl
@[simp] theorem reply_wd (s : State) (h : Hdr) (op status : Nat) (result : List Byte) : (reply s h op status result).wd = s.wd := rfl
@[simp] theorem reply_sup (s : State) (h : Hdr) (op status : Nat) (result : List Byte) : (reply s h op status result).sup = s.sup := rfl
@[simp] theorem reply_dailies (s : State) (h : Hdr) (op status : Nat) (result : List Byte) : (reply s h op status result).dailies = s.dailies := rfl
@[simp] theorem reply_power (s : State) (h : Hdr) (op status : Nat) (result : List Byte) : (reply s h op status result).power = s.power := rfl
@[simp] theorem reply_fw (s : State) (h : Hdr) (op status : Nat) (result : List Byte) : (reply s h op status result).fw = s.fw := rfl
@[simp] theorem reply_flash (s : State) (h : Hdr) (op status : Nat) (result : List Byte) : (reply s h op status result).flash = s.flash := rfl
@[simp] theorem reply_life (s : State) (h : Hdr) (op status : Nat) (result : List Byte) : (reply s h op status result).life = s.life := rfl
@[simp] theorem reply_nv (s : State) (h : Hdr) (op status : Nat) (result : List Byte) : (reply s h op status result).nv = s.nv := rfl
@[simp] theorem reply_aon (s : State) (h : Hdr) (op status : Nat) (result : List Byte) : (reply s h op status result).aon = s.aon := rfl
@[simp] theorem reply_segs (s : State) (h : Hdr) (op status : Nat) (result : List Byte) : (reply s h op status result).segs = s.segs := rfl
@[simp] theorem reply_mail_doorbell (s : State) (h : Hdr) (op status : Nat) (result : List Byte) :
    (reply s h op status result).mail.doorbell = s.mail.doorbell := rfl
@[simp] theorem reply_mail_outFull (s : State) (h : Hdr) (op status : Nat) (result : List Byte) :
    (reply s h op status result).mail.outFull = s.mail.outFull := rfl
@[simp] theorem reply_mail_waiting (s : State) (h : Hdr) (op status : Nat) (result : List Byte) :
    (reply s h op status result).mail.waiting = s.mail.waiting := rfl
@[simp] theorem reply_mail_ops (s : State) (h : Hdr) (op status : Nat) (result : List Byte) :
    (reply s h op status result).mail.ops = s.mail.ops := rfl
@[simp] theorem reply_mail_arb (s : State) (h : Hdr) (op status : Nat) (result : List Byte) :
    (reply s h op status result).mail.arb = s.mail.arb := rfl
@[simp] theorem reply_mail_switches (s : State) (h : Hdr) (op status : Nat) (result : List Byte) :
    (reply s h op status result).mail.switches = s.mail.switches := rfl
@[simp] theorem reply_mail_away (s : State) (h : Hdr) (op status : Nat) (result : List Byte) :
    (reply s h op status result).mail.away = s.mail.away := rfl

@[simp] theorem emit_pending (s : State) (medium kind dest : Nat) (data : List Byte) : (emit s medium kind dest data).pending = s.pending := rfl
@[simp] theorem emit_part (s : State) (medium kind dest : Nat) (data : List Byte) : (emit s medium kind dest data).part = s.part := rfl
@[simp] theorem emit_now (s : State) (medium kind dest : Nat) (data : List Byte) : (emit s medium kind dest data).now = s.now := rfl
@[simp] theorem emit_packTime (s : State) (medium kind dest : Nat) (data : List Byte) : (emit s medium kind dest data).packTime = s.packTime := rfl
@[simp] theorem emit_free (s : State) (medium kind dest : Nat) (data : List Byte) : (emit s medium kind dest data).free = s.free := rfl
@[simp] theorem emit_port (s : State) (medium kind dest : Nat) (data : List Byte) : (emit s medium kind dest data).port = s.port := rfl
@[simp] theorem emit_mem (s : State) (medium kind dest : Nat) (data : List Byte) : (emit s medium kind dest data).mem = s.mem := rfl
@[simp] theorem emit_mail (s : State) (medium kind dest : Nat) (data : List Byte) : (emit s medium kind dest data).mail = s.mail := rfl
@[simp] theorem emit_stream (s : State) (medium kind dest : Nat) (data : List Byte) : (emit s medium kind dest data).stream = s.stream := rfl
@[simp] theorem emit_sweep (s : State) (medium kind dest : Nat) (data : List Byte) : (emit s medium kind dest data).sweep = s.sweep := rfl
@[simp] theorem emit_slates (s : State) (medium kind dest : Nat) (data : List Byte) : (emit s medium kind dest data).slates = s.slates := rfl
@[simp] theorem emit_cal (s : State) (medium kind dest : Nat) (data : List Byte) : (emit s medium kind dest data).cal = s.cal := rfl
@[simp] theorem emit_sense (s : State) (medium kind dest : Nat) (data : List Byte) : (emit s medium kind dest data).sense = s.sense := rfl
@[simp] theorem emit_balance (s : State) (medium kind dest : Nat) (data : List Byte) : (emit s medium kind dest data).balance = s.balance := rfl
@[simp] theorem emit_imp (s : State) (medium kind dest : Nat) (data : List Byte) : (emit s medium kind dest data).imp = s.imp := rfl
@[simp] theorem emit_ring (s : State) (medium kind dest : Nat) (data : List Byte) : (emit s medium kind dest data).ring = s.ring := rfl
@[simp] theorem emit_chain (s : State) (medium kind dest : Nat) (data : List Byte) : (emit s medium kind dest data).chain = s.chain := rfl
@[simp] theorem emit_radio (s : State) (medium kind dest : Nat) (data : List Byte) : (emit s medium kind dest data).radio = s.radio := rfl
@[simp] theorem emit_mport (s : State) (medium kind dest : Nat) (data : List Byte) : (emit s medium kind dest data).mport = s.mport := rfl
@[simp] theorem emit_metro (s : State) (medium kind dest : Nat) (data : List Byte) : (emit s medium kind dest data).metro = s.metro := rfl
@[simp] theorem emit_stage (s : State) (medium kind dest : Nat) (data : List Byte) : (emit s medium kind dest data).stage = s.stage := rfl
@[simp] theorem emit_safety (s : State) (medium kind dest : Nat) (data : List Byte) : (emit s medium kind dest data).safety = s.safety := rfl
@[simp] theorem emit_faults (s : State) (medium kind dest : Nat) (data : List Byte) : (emit s medium kind dest data).faults = s.faults := rfl
@[simp] theorem emit_wd (s : State) (medium kind dest : Nat) (data : List Byte) : (emit s medium kind dest data).wd = s.wd := rfl
@[simp] theorem emit_sup (s : State) (medium kind dest : Nat) (data : List Byte) : (emit s medium kind dest data).sup = s.sup := rfl
@[simp] theorem emit_dailies (s : State) (medium kind dest : Nat) (data : List Byte) : (emit s medium kind dest data).dailies = s.dailies := rfl
@[simp] theorem emit_power (s : State) (medium kind dest : Nat) (data : List Byte) : (emit s medium kind dest data).power = s.power := rfl
@[simp] theorem emit_fw (s : State) (medium kind dest : Nat) (data : List Byte) : (emit s medium kind dest data).fw = s.fw := rfl
@[simp] theorem emit_flash (s : State) (medium kind dest : Nat) (data : List Byte) : (emit s medium kind dest data).flash = s.flash := rfl
@[simp] theorem emit_life (s : State) (medium kind dest : Nat) (data : List Byte) : (emit s medium kind dest data).life = s.life := rfl
@[simp] theorem emit_nv (s : State) (medium kind dest : Nat) (data : List Byte) : (emit s medium kind dest data).nv = s.nv := rfl
@[simp] theorem emit_aon (s : State) (medium kind dest : Nat) (data : List Byte) : (emit s medium kind dest data).aon = s.aon := rfl
@[simp] theorem emit_segs (s : State) (medium kind dest : Nat) (data : List Byte) : (emit s medium kind dest data).segs = s.segs := rfl

@[simp] theorem flashPush_pending (s : State) (j : FlashJob) : (flashPush s j).pending = s.pending := rfl
@[simp] theorem flashPush_part (s : State) (j : FlashJob) : (flashPush s j).part = s.part := rfl
@[simp] theorem flashPush_now (s : State) (j : FlashJob) : (flashPush s j).now = s.now := rfl
@[simp] theorem flashPush_packTime (s : State) (j : FlashJob) : (flashPush s j).packTime = s.packTime := rfl
@[simp] theorem flashPush_free (s : State) (j : FlashJob) : (flashPush s j).free = s.free := rfl
@[simp] theorem flashPush_sent (s : State) (j : FlashJob) : (flashPush s j).sent = s.sent := rfl
@[simp] theorem flashPush_port (s : State) (j : FlashJob) : (flashPush s j).port = s.port := rfl
@[simp] theorem flashPush_mem (s : State) (j : FlashJob) : (flashPush s j).mem = s.mem := rfl
@[simp] theorem flashPush_mail (s : State) (j : FlashJob) : (flashPush s j).mail = s.mail := rfl
@[simp] theorem flashPush_stream (s : State) (j : FlashJob) : (flashPush s j).stream = s.stream := rfl
@[simp] theorem flashPush_sweep (s : State) (j : FlashJob) : (flashPush s j).sweep = s.sweep := rfl
@[simp] theorem flashPush_slates (s : State) (j : FlashJob) : (flashPush s j).slates = s.slates := rfl
@[simp] theorem flashPush_cal (s : State) (j : FlashJob) : (flashPush s j).cal = s.cal := rfl
@[simp] theorem flashPush_sense (s : State) (j : FlashJob) : (flashPush s j).sense = s.sense := rfl
@[simp] theorem flashPush_balance (s : State) (j : FlashJob) : (flashPush s j).balance = s.balance := rfl
@[simp] theorem flashPush_imp (s : State) (j : FlashJob) : (flashPush s j).imp = s.imp := rfl
@[simp] theorem flashPush_ring (s : State) (j : FlashJob) : (flashPush s j).ring = s.ring := rfl
@[simp] theorem flashPush_chain (s : State) (j : FlashJob) : (flashPush s j).chain = s.chain := rfl
@[simp] theorem flashPush_radio (s : State) (j : FlashJob) : (flashPush s j).radio = s.radio := rfl
@[simp] theorem flashPush_mport (s : State) (j : FlashJob) : (flashPush s j).mport = s.mport := rfl
@[simp] theorem flashPush_metro (s : State) (j : FlashJob) : (flashPush s j).metro = s.metro := rfl
@[simp] theorem flashPush_stage (s : State) (j : FlashJob) : (flashPush s j).stage = s.stage := rfl
@[simp] theorem flashPush_safety (s : State) (j : FlashJob) : (flashPush s j).safety = s.safety := rfl
@[simp] theorem flashPush_faults (s : State) (j : FlashJob) : (flashPush s j).faults = s.faults := rfl
@[simp] theorem flashPush_wd (s : State) (j : FlashJob) : (flashPush s j).wd = s.wd := rfl
@[simp] theorem flashPush_sup (s : State) (j : FlashJob) : (flashPush s j).sup = s.sup := rfl
@[simp] theorem flashPush_dailies (s : State) (j : FlashJob) : (flashPush s j).dailies = s.dailies := rfl
@[simp] theorem flashPush_power (s : State) (j : FlashJob) : (flashPush s j).power = s.power := rfl
@[simp] theorem flashPush_fw (s : State) (j : FlashJob) : (flashPush s j).fw = s.fw := rfl
@[simp] theorem flashPush_life (s : State) (j : FlashJob) : (flashPush s j).life = s.life := rfl
@[simp] theorem flashPush_nv (s : State) (j : FlashJob) : (flashPush s j).nv = s.nv := rfl
@[simp] theorem flashPush_aon (s : State) (j : FlashJob) : (flashPush s j).aon = s.aon := rfl
@[simp] theorem flashPush_segs (s : State) (j : FlashJob) : (flashPush s j).segs = s.segs := rfl

@[simp] theorem State.updM_pending (s : State) (f : Metro → Metro) : (s.updM f).pending = s.pending := rfl
@[simp] theorem State.updM_part (s : State) (f : Metro → Metro) : (s.updM f).part = s.part := rfl
@[simp] theorem State.updM_now (s : State) (f : Metro → Metro) : (s.updM f).now = s.now := rfl
@[simp] theorem State.updM_packTime (s : State) (f : Metro → Metro) : (s.updM f).packTime = s.packTime := rfl
@[simp] theorem State.updM_free (s : State) (f : Metro → Metro) : (s.updM f).free = s.free := rfl
@[simp] theorem State.updM_sent (s : State) (f : Metro → Metro) : (s.updM f).sent = s.sent := rfl
@[simp] theorem State.updM_port (s : State) (f : Metro → Metro) : (s.updM f).port = s.port := rfl
@[simp] theorem State.updM_mem (s : State) (f : Metro → Metro) : (s.updM f).mem = s.mem := rfl
@[simp] theorem State.updM_mail (s : State) (f : Metro → Metro) : (s.updM f).mail = s.mail := rfl
@[simp] theorem State.updM_stream (s : State) (f : Metro → Metro) : (s.updM f).stream = s.stream := rfl
@[simp] theorem State.updM_sweep (s : State) (f : Metro → Metro) : (s.updM f).sweep = s.sweep := rfl
@[simp] theorem State.updM_slates (s : State) (f : Metro → Metro) : (s.updM f).slates = s.slates := rfl
@[simp] theorem State.updM_cal (s : State) (f : Metro → Metro) : (s.updM f).cal = s.cal := rfl
@[simp] theorem State.updM_sense (s : State) (f : Metro → Metro) : (s.updM f).sense = s.sense := rfl
@[simp] theorem State.updM_balance (s : State) (f : Metro → Metro) : (s.updM f).balance = s.balance := rfl
@[simp] theorem State.updM_imp (s : State) (f : Metro → Metro) : (s.updM f).imp = s.imp := rfl
@[simp] theorem State.updM_ring (s : State) (f : Metro → Metro) : (s.updM f).ring = s.ring := rfl
@[simp] theorem State.updM_chain (s : State) (f : Metro → Metro) : (s.updM f).chain = s.chain := rfl
@[simp] theorem State.updM_radio (s : State) (f : Metro → Metro) : (s.updM f).radio = s.radio := rfl
@[simp] theorem State.updM_mport (s : State) (f : Metro → Metro) : (s.updM f).mport = s.mport := rfl
@[simp] theorem State.updM_stage (s : State) (f : Metro → Metro) : (s.updM f).stage = s.stage := rfl
@[simp] theorem State.updM_safety (s : State) (f : Metro → Metro) : (s.updM f).safety = s.safety := rfl
@[simp] theorem State.updM_faults (s : State) (f : Metro → Metro) : (s.updM f).faults = s.faults := rfl
@[simp] theorem State.updM_wd (s : State) (f : Metro → Metro) : (s.updM f).wd = s.wd := rfl
@[simp] theorem State.updM_sup (s : State) (f : Metro → Metro) : (s.updM f).sup = s.sup := rfl
@[simp] theorem State.updM_dailies (s : State) (f : Metro → Metro) : (s.updM f).dailies = s.dailies := rfl
@[simp] theorem State.updM_power (s : State) (f : Metro → Metro) : (s.updM f).power = s.power := rfl
@[simp] theorem State.updM_fw (s : State) (f : Metro → Metro) : (s.updM f).fw = s.fw := rfl
@[simp] theorem State.updM_flash (s : State) (f : Metro → Metro) : (s.updM f).flash = s.flash := rfl
@[simp] theorem State.updM_life (s : State) (f : Metro → Metro) : (s.updM f).life = s.life := rfl
@[simp] theorem State.updM_nv (s : State) (f : Metro → Metro) : (s.updM f).nv = s.nv := rfl
@[simp] theorem State.updM_aon (s : State) (f : Metro → Metro) : (s.updM f).aon = s.aon := rfl
@[simp] theorem State.updM_segs (s : State) (f : Metro → Metro) : (s.updM f).segs = s.segs := rfl

@[simp] theorem State.updDolly_pending (s : State) (die j : Nat) (f : Dolly → Dolly) : (s.updDolly die j f).pending = s.pending := rfl
@[simp] theorem State.updDolly_part (s : State) (die j : Nat) (f : Dolly → Dolly) : (s.updDolly die j f).part = s.part := rfl
@[simp] theorem State.updDolly_now (s : State) (die j : Nat) (f : Dolly → Dolly) : (s.updDolly die j f).now = s.now := rfl
@[simp] theorem State.updDolly_packTime (s : State) (die j : Nat) (f : Dolly → Dolly) : (s.updDolly die j f).packTime = s.packTime := rfl
@[simp] theorem State.updDolly_free (s : State) (die j : Nat) (f : Dolly → Dolly) : (s.updDolly die j f).free = s.free := rfl
@[simp] theorem State.updDolly_sent (s : State) (die j : Nat) (f : Dolly → Dolly) : (s.updDolly die j f).sent = s.sent := rfl
@[simp] theorem State.updDolly_port (s : State) (die j : Nat) (f : Dolly → Dolly) : (s.updDolly die j f).port = s.port := rfl
@[simp] theorem State.updDolly_mem (s : State) (die j : Nat) (f : Dolly → Dolly) : (s.updDolly die j f).mem = s.mem := rfl
@[simp] theorem State.updDolly_mail (s : State) (die j : Nat) (f : Dolly → Dolly) : (s.updDolly die j f).mail = s.mail := rfl
@[simp] theorem State.updDolly_stream (s : State) (die j : Nat) (f : Dolly → Dolly) : (s.updDolly die j f).stream = s.stream := rfl
@[simp] theorem State.updDolly_sweep (s : State) (die j : Nat) (f : Dolly → Dolly) : (s.updDolly die j f).sweep = s.sweep := rfl
@[simp] theorem State.updDolly_slates (s : State) (die j : Nat) (f : Dolly → Dolly) : (s.updDolly die j f).slates = s.slates := rfl
@[simp] theorem State.updDolly_cal (s : State) (die j : Nat) (f : Dolly → Dolly) : (s.updDolly die j f).cal = s.cal := rfl
@[simp] theorem State.updDolly_sense (s : State) (die j : Nat) (f : Dolly → Dolly) : (s.updDolly die j f).sense = s.sense := rfl
@[simp] theorem State.updDolly_balance (s : State) (die j : Nat) (f : Dolly → Dolly) : (s.updDolly die j f).balance = s.balance := rfl
@[simp] theorem State.updDolly_imp (s : State) (die j : Nat) (f : Dolly → Dolly) : (s.updDolly die j f).imp = s.imp := rfl
@[simp] theorem State.updDolly_ring (s : State) (die j : Nat) (f : Dolly → Dolly) : (s.updDolly die j f).ring = s.ring := rfl
@[simp] theorem State.updDolly_chain (s : State) (die j : Nat) (f : Dolly → Dolly) : (s.updDolly die j f).chain = s.chain := rfl
@[simp] theorem State.updDolly_radio (s : State) (die j : Nat) (f : Dolly → Dolly) : (s.updDolly die j f).radio = s.radio := rfl
@[simp] theorem State.updDolly_mport (s : State) (die j : Nat) (f : Dolly → Dolly) : (s.updDolly die j f).mport = s.mport := rfl
@[simp] theorem State.updDolly_metro (s : State) (die j : Nat) (f : Dolly → Dolly) : (s.updDolly die j f).metro = s.metro := rfl
@[simp] theorem State.updDolly_stage (s : State) (die j : Nat) (f : Dolly → Dolly) : (s.updDolly die j f).stage = s.stage := rfl
@[simp] theorem State.updDolly_safety (s : State) (die j : Nat) (f : Dolly → Dolly) : (s.updDolly die j f).safety = s.safety := rfl
@[simp] theorem State.updDolly_faults (s : State) (die j : Nat) (f : Dolly → Dolly) : (s.updDolly die j f).faults = s.faults := rfl
@[simp] theorem State.updDolly_wd (s : State) (die j : Nat) (f : Dolly → Dolly) : (s.updDolly die j f).wd = s.wd := rfl
@[simp] theorem State.updDolly_sup (s : State) (die j : Nat) (f : Dolly → Dolly) : (s.updDolly die j f).sup = s.sup := rfl
@[simp] theorem State.updDolly_dailies (s : State) (die j : Nat) (f : Dolly → Dolly) : (s.updDolly die j f).dailies = s.dailies := rfl
@[simp] theorem State.updDolly_power (s : State) (die j : Nat) (f : Dolly → Dolly) : (s.updDolly die j f).power = s.power := rfl
@[simp] theorem State.updDolly_fw (s : State) (die j : Nat) (f : Dolly → Dolly) : (s.updDolly die j f).fw = s.fw := rfl
@[simp] theorem State.updDolly_flash (s : State) (die j : Nat) (f : Dolly → Dolly) : (s.updDolly die j f).flash = s.flash := rfl
@[simp] theorem State.updDolly_life (s : State) (die j : Nat) (f : Dolly → Dolly) : (s.updDolly die j f).life = s.life := rfl
@[simp] theorem State.updDolly_nv (s : State) (die j : Nat) (f : Dolly → Dolly) : (s.updDolly die j f).nv = s.nv := rfl
@[simp] theorem State.updDolly_aon (s : State) (die j : Nat) (f : Dolly → Dolly) : (s.updDolly die j f).aon = s.aon := rfl


@[simp] theorem useProof_pending (s : State) (h : Hdr) (p : Proof) : (useProof s h p).pending = s.pending := rfl
@[simp] theorem useProof_part (s : State) (h : Hdr) (p : Proof) : (useProof s h p).part = s.part := rfl
@[simp] theorem useProof_now (s : State) (h : Hdr) (p : Proof) : (useProof s h p).now = s.now := rfl
@[simp] theorem useProof_packTime (s : State) (h : Hdr) (p : Proof) : (useProof s h p).packTime = s.packTime := rfl
@[simp] theorem useProof_free (s : State) (h : Hdr) (p : Proof) : (useProof s h p).free = s.free := rfl
@[simp] theorem useProof_sent (s : State) (h : Hdr) (p : Proof) : (useProof s h p).sent = s.sent := rfl
@[simp] theorem useProof_port (s : State) (h : Hdr) (p : Proof) : (useProof s h p).port = s.port := rfl
@[simp] theorem useProof_mem (s : State) (h : Hdr) (p : Proof) : (useProof s h p).mem = s.mem := rfl
@[simp] theorem useProof_mail (s : State) (h : Hdr) (p : Proof) : (useProof s h p).mail = s.mail := rfl
@[simp] theorem useProof_stream (s : State) (h : Hdr) (p : Proof) : (useProof s h p).stream = s.stream := rfl
@[simp] theorem useProof_sweep (s : State) (h : Hdr) (p : Proof) : (useProof s h p).sweep = s.sweep := rfl
@[simp] theorem useProof_slates (s : State) (h : Hdr) (p : Proof) : (useProof s h p).slates = s.slates := rfl
@[simp] theorem useProof_cal (s : State) (h : Hdr) (p : Proof) : (useProof s h p).cal = s.cal := rfl
@[simp] theorem useProof_sense (s : State) (h : Hdr) (p : Proof) : (useProof s h p).sense = s.sense := rfl
@[simp] theorem useProof_balance (s : State) (h : Hdr) (p : Proof) : (useProof s h p).balance = s.balance := rfl
@[simp] theorem useProof_imp (s : State) (h : Hdr) (p : Proof) : (useProof s h p).imp = s.imp := rfl
@[simp] theorem useProof_ring (s : State) (h : Hdr) (p : Proof) : (useProof s h p).ring = s.ring := rfl
@[simp] theorem useProof_chain (s : State) (h : Hdr) (p : Proof) : (useProof s h p).chain = s.chain := rfl
@[simp] theorem useProof_radio (s : State) (h : Hdr) (p : Proof) : (useProof s h p).radio = s.radio := rfl
@[simp] theorem useProof_mport (s : State) (h : Hdr) (p : Proof) : (useProof s h p).mport = s.mport := rfl
@[simp] theorem useProof_metro (s : State) (h : Hdr) (p : Proof) : (useProof s h p).metro = s.metro := rfl
@[simp] theorem useProof_stage (s : State) (h : Hdr) (p : Proof) : (useProof s h p).stage = s.stage := rfl
@[simp] theorem useProof_faults (s : State) (h : Hdr) (p : Proof) : (useProof s h p).faults = s.faults := rfl
@[simp] theorem useProof_wd (s : State) (h : Hdr) (p : Proof) : (useProof s h p).wd = s.wd := rfl
@[simp] theorem useProof_sup (s : State) (h : Hdr) (p : Proof) : (useProof s h p).sup = s.sup := rfl
@[simp] theorem useProof_dailies (s : State) (h : Hdr) (p : Proof) : (useProof s h p).dailies = s.dailies := rfl
@[simp] theorem useProof_power (s : State) (h : Hdr) (p : Proof) : (useProof s h p).power = s.power := rfl
@[simp] theorem useProof_fw (s : State) (h : Hdr) (p : Proof) : (useProof s h p).fw = s.fw := rfl
@[simp] theorem useProof_flash (s : State) (h : Hdr) (p : Proof) : (useProof s h p).flash = s.flash := rfl
@[simp] theorem useProof_life (s : State) (h : Hdr) (p : Proof) : (useProof s h p).life = s.life := rfl
@[simp] theorem useProof_nv (s : State) (h : Hdr) (p : Proof) : (useProof s h p).nv = s.nv := rfl
@[simp] theorem useProof_aon (s : State) (h : Hdr) (p : Proof) : (useProof s h p).aon = s.aon := rfl
@[simp] theorem useProof_segs (s : State) (h : Hdr) (p : Proof) : (useProof s h p).segs = s.segs := rfl

@[simp] theorem dropOp_pending (s : State) (h : Hdr) : (dropOp s h).pending = s.pending := rfl
@[simp] theorem dropOp_part (s : State) (h : Hdr) : (dropOp s h).part = s.part := rfl
@[simp] theorem dropOp_now (s : State) (h : Hdr) : (dropOp s h).now = s.now := rfl
@[simp] theorem dropOp_packTime (s : State) (h : Hdr) : (dropOp s h).packTime = s.packTime := rfl
@[simp] theorem dropOp_free (s : State) (h : Hdr) : (dropOp s h).free = s.free := rfl
@[simp] theorem dropOp_sent (s : State) (h : Hdr) : (dropOp s h).sent = s.sent := rfl
@[simp] theorem dropOp_port (s : State) (h : Hdr) : (dropOp s h).port = s.port := rfl
@[simp] theorem dropOp_mem (s : State) (h : Hdr) : (dropOp s h).mem = s.mem := rfl
@[simp] theorem dropOp_stream (s : State) (h : Hdr) : (dropOp s h).stream = s.stream := rfl
@[simp] theorem dropOp_sweep (s : State) (h : Hdr) : (dropOp s h).sweep = s.sweep := rfl
@[simp] theorem dropOp_slates (s : State) (h : Hdr) : (dropOp s h).slates = s.slates := rfl
@[simp] theorem dropOp_cal (s : State) (h : Hdr) : (dropOp s h).cal = s.cal := rfl
@[simp] theorem dropOp_sense (s : State) (h : Hdr) : (dropOp s h).sense = s.sense := rfl
@[simp] theorem dropOp_balance (s : State) (h : Hdr) : (dropOp s h).balance = s.balance := rfl
@[simp] theorem dropOp_imp (s : State) (h : Hdr) : (dropOp s h).imp = s.imp := rfl
@[simp] theorem dropOp_ring (s : State) (h : Hdr) : (dropOp s h).ring = s.ring := rfl
@[simp] theorem dropOp_chain (s : State) (h : Hdr) : (dropOp s h).chain = s.chain := rfl
@[simp] theorem dropOp_radio (s : State) (h : Hdr) : (dropOp s h).radio = s.radio := rfl
@[simp] theorem dropOp_mport (s : State) (h : Hdr) : (dropOp s h).mport = s.mport := rfl
@[simp] theorem dropOp_metro (s : State) (h : Hdr) : (dropOp s h).metro = s.metro := rfl
@[simp] theorem dropOp_stage (s : State) (h : Hdr) : (dropOp s h).stage = s.stage := rfl
@[simp] theorem dropOp_safety (s : State) (h : Hdr) : (dropOp s h).safety = s.safety := rfl
@[simp] theorem dropOp_faults (s : State) (h : Hdr) : (dropOp s h).faults = s.faults := rfl
@[simp] theorem dropOp_wd (s : State) (h : Hdr) : (dropOp s h).wd = s.wd := rfl
@[simp] theorem dropOp_sup (s : State) (h : Hdr) : (dropOp s h).sup = s.sup := rfl
@[simp] theorem dropOp_dailies (s : State) (h : Hdr) : (dropOp s h).dailies = s.dailies := rfl
@[simp] theorem dropOp_power (s : State) (h : Hdr) : (dropOp s h).power = s.power := rfl
@[simp] theorem dropOp_fw (s : State) (h : Hdr) : (dropOp s h).fw = s.fw := rfl
@[simp] theorem dropOp_flash (s : State) (h : Hdr) : (dropOp s h).flash = s.flash := rfl
@[simp] theorem dropOp_life (s : State) (h : Hdr) : (dropOp s h).life = s.life := rfl
@[simp] theorem dropOp_nv (s : State) (h : Hdr) : (dropOp s h).nv = s.nv := rfl
@[simp] theorem dropOp_aon (s : State) (h : Hdr) : (dropOp s h).aon = s.aon := rfl
@[simp] theorem dropOp_segs (s : State) (h : Hdr) : (dropOp s h).segs = s.segs := rfl

@[simp] theorem accepted_pending (s : State) : (accepted s).pending = s.pending := rfl
@[simp] theorem accepted_part (s : State) : (accepted s).part = s.part := rfl
@[simp] theorem accepted_now (s : State) : (accepted s).now = s.now := rfl
@[simp] theorem accepted_packTime (s : State) : (accepted s).packTime = s.packTime := rfl
@[simp] theorem accepted_free (s : State) : (accepted s).free = s.free := rfl
@[simp] theorem accepted_sent (s : State) : (accepted s).sent = s.sent := rfl
@[simp] theorem accepted_mem (s : State) : (accepted s).mem = s.mem := rfl
@[simp] theorem accepted_mail (s : State) : (accepted s).mail = s.mail := rfl
@[simp] theorem accepted_stream (s : State) : (accepted s).stream = s.stream := rfl
@[simp] theorem accepted_sweep (s : State) : (accepted s).sweep = s.sweep := rfl
@[simp] theorem accepted_slates (s : State) : (accepted s).slates = s.slates := rfl
@[simp] theorem accepted_cal (s : State) : (accepted s).cal = s.cal := rfl
@[simp] theorem accepted_sense (s : State) : (accepted s).sense = s.sense := rfl
@[simp] theorem accepted_balance (s : State) : (accepted s).balance = s.balance := rfl
@[simp] theorem accepted_imp (s : State) : (accepted s).imp = s.imp := rfl
@[simp] theorem accepted_ring (s : State) : (accepted s).ring = s.ring := rfl
@[simp] theorem accepted_chain (s : State) : (accepted s).chain = s.chain := rfl
@[simp] theorem accepted_radio (s : State) : (accepted s).radio = s.radio := rfl
@[simp] theorem accepted_mport (s : State) : (accepted s).mport = s.mport := rfl
@[simp] theorem accepted_metro (s : State) : (accepted s).metro = s.metro := rfl
@[simp] theorem accepted_stage (s : State) : (accepted s).stage = s.stage := rfl
@[simp] theorem accepted_safety (s : State) : (accepted s).safety = s.safety := rfl
@[simp] theorem accepted_faults (s : State) : (accepted s).faults = s.faults := rfl
@[simp] theorem accepted_wd (s : State) : (accepted s).wd = s.wd := rfl
@[simp] theorem accepted_sup (s : State) : (accepted s).sup = s.sup := rfl
@[simp] theorem accepted_dailies (s : State) : (accepted s).dailies = s.dailies := rfl
@[simp] theorem accepted_power (s : State) : (accepted s).power = s.power := rfl
@[simp] theorem accepted_fw (s : State) : (accepted s).fw = s.fw := rfl
@[simp] theorem accepted_flash (s : State) : (accepted s).flash = s.flash := rfl
@[simp] theorem accepted_life (s : State) : (accepted s).life = s.life := rfl
@[simp] theorem accepted_nv (s : State) : (accepted s).nv = s.nv := rfl
@[simp] theorem accepted_aon (s : State) : (accepted s).aon = s.aon := rfl
@[simp] theorem accepted_segs (s : State) : (accepted s).segs = s.segs := rfl

@[simp] theorem answeredCmd_pending (s : State) (h : Hdr) (op status : Nat) (result : List Byte) :
    (answeredCmd s h op status result).pending = s.pending := rfl
@[simp] theorem answeredCmd_part (s : State) (h : Hdr) (op status : Nat) (result : List Byte) :
    (answeredCmd s h op status result).part = s.part := rfl
@[simp] theorem answeredCmd_now (s : State) (h : Hdr) (op status : Nat) (result : List Byte) : (answeredCmd s h op status result).now = s.now := rfl
@[simp] theorem answeredCmd_packTime (s : State) (h : Hdr) (op status : Nat) (result : List Byte) :
    (answeredCmd s h op status result).packTime = s.packTime := rfl
@[simp] theorem answeredCmd_free (s : State) (h : Hdr) (op status : Nat) (result : List Byte) :
    (answeredCmd s h op status result).free = s.free := rfl
@[simp] theorem answeredCmd_sent (s : State) (h : Hdr) (op status : Nat) (result : List Byte) :
    (answeredCmd s h op status result).sent = s.sent := rfl
@[simp] theorem answeredCmd_port (s : State) (h : Hdr) (op status : Nat) (result : List Byte) :
    (answeredCmd s h op status result).port = s.port := rfl
@[simp] theorem answeredCmd_mem (s : State) (h : Hdr) (op status : Nat) (result : List Byte) : (answeredCmd s h op status result).mem = s.mem := rfl
@[simp] theorem answeredCmd_stream (s : State) (h : Hdr) (op status : Nat) (result : List Byte) :
    (answeredCmd s h op status result).stream = s.stream := rfl
@[simp] theorem answeredCmd_sweep (s : State) (h : Hdr) (op status : Nat) (result : List Byte) :
    (answeredCmd s h op status result).sweep = s.sweep := rfl
@[simp] theorem answeredCmd_slates (s : State) (h : Hdr) (op status : Nat) (result : List Byte) :
    (answeredCmd s h op status result).slates = s.slates := rfl
@[simp] theorem answeredCmd_cal (s : State) (h : Hdr) (op status : Nat) (result : List Byte) : (answeredCmd s h op status result).cal = s.cal := rfl
@[simp] theorem answeredCmd_sense (s : State) (h : Hdr) (op status : Nat) (result : List Byte) :
    (answeredCmd s h op status result).sense = s.sense := rfl
@[simp] theorem answeredCmd_balance (s : State) (h : Hdr) (op status : Nat) (result : List Byte) :
    (answeredCmd s h op status result).balance = s.balance := rfl
@[simp] theorem answeredCmd_imp (s : State) (h : Hdr) (op status : Nat) (result : List Byte) : (answeredCmd s h op status result).imp = s.imp := rfl
@[simp] theorem answeredCmd_ring (s : State) (h : Hdr) (op status : Nat) (result : List Byte) :
    (answeredCmd s h op status result).ring = s.ring := rfl
@[simp] theorem answeredCmd_chain (s : State) (h : Hdr) (op status : Nat) (result : List Byte) :
    (answeredCmd s h op status result).chain = s.chain := rfl
@[simp] theorem answeredCmd_radio (s : State) (h : Hdr) (op status : Nat) (result : List Byte) :
    (answeredCmd s h op status result).radio = s.radio := rfl
@[simp] theorem answeredCmd_mport (s : State) (h : Hdr) (op status : Nat) (result : List Byte) :
    (answeredCmd s h op status result).mport = s.mport := rfl
@[simp] theorem answeredCmd_metro (s : State) (h : Hdr) (op status : Nat) (result : List Byte) :
    (answeredCmd s h op status result).metro = s.metro := rfl
@[simp] theorem answeredCmd_stage (s : State) (h : Hdr) (op status : Nat) (result : List Byte) :
    (answeredCmd s h op status result).stage = s.stage := rfl
@[simp] theorem answeredCmd_safety (s : State) (h : Hdr) (op status : Nat) (result : List Byte) :
    (answeredCmd s h op status result).safety = s.safety := rfl
@[simp] theorem answeredCmd_faults (s : State) (h : Hdr) (op status : Nat) (result : List Byte) :
    (answeredCmd s h op status result).faults = s.faults := rfl
@[simp] theorem answeredCmd_wd (s : State) (h : Hdr) (op status : Nat) (result : List Byte) : (answeredCmd s h op status result).wd = s.wd := rfl
@[simp] theorem answeredCmd_sup (s : State) (h : Hdr) (op status : Nat) (result : List Byte) : (answeredCmd s h op status result).sup = s.sup := rfl
@[simp] theorem answeredCmd_dailies (s : State) (h : Hdr) (op status : Nat) (result : List Byte) :
    (answeredCmd s h op status result).dailies = s.dailies := rfl
@[simp] theorem answeredCmd_power (s : State) (h : Hdr) (op status : Nat) (result : List Byte) :
    (answeredCmd s h op status result).power = s.power := rfl
@[simp] theorem answeredCmd_fw (s : State) (h : Hdr) (op status : Nat) (result : List Byte) : (answeredCmd s h op status result).fw = s.fw := rfl
@[simp] theorem answeredCmd_flash (s : State) (h : Hdr) (op status : Nat) (result : List Byte) :
    (answeredCmd s h op status result).flash = s.flash := rfl
@[simp] theorem answeredCmd_life (s : State) (h : Hdr) (op status : Nat) (result : List Byte) :
    (answeredCmd s h op status result).life = s.life := rfl
@[simp] theorem answeredCmd_nv (s : State) (h : Hdr) (op status : Nat) (result : List Byte) : (answeredCmd s h op status result).nv = s.nv := rfl
@[simp] theorem answeredCmd_aon (s : State) (h : Hdr) (op status : Nat) (result : List Byte) : (answeredCmd s h op status result).aon = s.aon := rfl
@[simp] theorem answeredCmd_segs (s : State) (h : Hdr) (op status : Nat) (result : List Byte) :
    (answeredCmd s h op status result).segs = s.segs := rfl

@[simp] theorem openedCmd_pending (s : State) (h : Hdr) (op : Nat) : (openedCmd s h op).pending = s.pending := rfl
@[simp] theorem openedCmd_part (s : State) (h : Hdr) (op : Nat) : (openedCmd s h op).part = s.part := rfl
@[simp] theorem openedCmd_now (s : State) (h : Hdr) (op : Nat) : (openedCmd s h op).now = s.now := rfl
@[simp] theorem openedCmd_packTime (s : State) (h : Hdr) (op : Nat) : (openedCmd s h op).packTime = s.packTime := rfl
@[simp] theorem openedCmd_free (s : State) (h : Hdr) (op : Nat) : (openedCmd s h op).free = s.free := rfl
@[simp] theorem openedCmd_sent (s : State) (h : Hdr) (op : Nat) : (openedCmd s h op).sent = s.sent := rfl
@[simp] theorem openedCmd_port (s : State) (h : Hdr) (op : Nat) : (openedCmd s h op).port = s.port := rfl
@[simp] theorem openedCmd_mem (s : State) (h : Hdr) (op : Nat) : (openedCmd s h op).mem = s.mem := rfl
@[simp] theorem openedCmd_stream (s : State) (h : Hdr) (op : Nat) : (openedCmd s h op).stream = s.stream := rfl
@[simp] theorem openedCmd_sweep (s : State) (h : Hdr) (op : Nat) : (openedCmd s h op).sweep = s.sweep := rfl
@[simp] theorem openedCmd_slates (s : State) (h : Hdr) (op : Nat) : (openedCmd s h op).slates = s.slates := rfl
@[simp] theorem openedCmd_cal (s : State) (h : Hdr) (op : Nat) : (openedCmd s h op).cal = s.cal := rfl
@[simp] theorem openedCmd_sense (s : State) (h : Hdr) (op : Nat) : (openedCmd s h op).sense = s.sense := rfl
@[simp] theorem openedCmd_balance (s : State) (h : Hdr) (op : Nat) : (openedCmd s h op).balance = s.balance := rfl
@[simp] theorem openedCmd_imp (s : State) (h : Hdr) (op : Nat) : (openedCmd s h op).imp = s.imp := rfl
@[simp] theorem openedCmd_ring (s : State) (h : Hdr) (op : Nat) : (openedCmd s h op).ring = s.ring := rfl
@[simp] theorem openedCmd_chain (s : State) (h : Hdr) (op : Nat) : (openedCmd s h op).chain = s.chain := rfl
@[simp] theorem openedCmd_radio (s : State) (h : Hdr) (op : Nat) : (openedCmd s h op).radio = s.radio := rfl
@[simp] theorem openedCmd_mport (s : State) (h : Hdr) (op : Nat) : (openedCmd s h op).mport = s.mport := rfl
@[simp] theorem openedCmd_metro (s : State) (h : Hdr) (op : Nat) : (openedCmd s h op).metro = s.metro := rfl
@[simp] theorem openedCmd_stage (s : State) (h : Hdr) (op : Nat) : (openedCmd s h op).stage = s.stage := rfl
@[simp] theorem openedCmd_safety (s : State) (h : Hdr) (op : Nat) : (openedCmd s h op).safety = s.safety := rfl
@[simp] theorem openedCmd_faults (s : State) (h : Hdr) (op : Nat) : (openedCmd s h op).faults = s.faults := rfl
@[simp] theorem openedCmd_wd (s : State) (h : Hdr) (op : Nat) : (openedCmd s h op).wd = s.wd := rfl
@[simp] theorem openedCmd_sup (s : State) (h : Hdr) (op : Nat) : (openedCmd s h op).sup = s.sup := rfl
@[simp] theorem openedCmd_dailies (s : State) (h : Hdr) (op : Nat) : (openedCmd s h op).dailies = s.dailies := rfl
@[simp] theorem openedCmd_power (s : State) (h : Hdr) (op : Nat) : (openedCmd s h op).power = s.power := rfl
@[simp] theorem openedCmd_fw (s : State) (h : Hdr) (op : Nat) : (openedCmd s h op).fw = s.fw := rfl
@[simp] theorem openedCmd_flash (s : State) (h : Hdr) (op : Nat) : (openedCmd s h op).flash = s.flash := rfl
@[simp] theorem openedCmd_life (s : State) (h : Hdr) (op : Nat) : (openedCmd s h op).life = s.life := rfl
@[simp] theorem openedCmd_nv (s : State) (h : Hdr) (op : Nat) : (openedCmd s h op).nv = s.nv := rfl
@[simp] theorem openedCmd_aon (s : State) (h : Hdr) (op : Nat) : (openedCmd s h op).aon = s.aon := rfl
@[simp] theorem openedCmd_segs (s : State) (h : Hdr) (op : Nat) : (openedCmd s h op).segs = s.segs := rfl

end Sys2Proof.Machine
end

