-- ==== Sys2Proof/Tests/Slice0.lean ====
section
/-! SUPPORT. The author's own tests: check values of the spec, the well-formedness smoke, single steps, and for every hypothesis of a
statement a state and operands that meet it. -/
set_option Elab.async false
namespace Sys2Proof.Tests
open Sys2Proof.Machine

set_option maxRecDepth 20000

/-- A state after reset whose Keeper and Studio run, at a package that is the primary head and locked. -/
def ready : State :=
  { State.reset with
    sup := { Supervision.reset with ready := true, keeper := true, stopped := false }
    chain := { Chain.reset with isHead := true, locked := true, master := true } }

/-- The same with quad instructions enabled. -/
def quadReady : State := { ready with port := { ready.port with quadEn := true } }

/-- The same with every doorbell set. -/
def rung : State := { ready with mail := { ready.mail with doorbell := 15 } }

/-- The same with 8 bytes pending in the stream window. -/
def pend : State := { ready with port := { ready.port with strWr := 8 } }

/-- The same with a raw result held. -/
def rawHeld : State := { ready with port := { ready.port with rawValid := true, rawHold := 0xF8FF1234 } }

/-- The same with an urgent request prepared for input A8 of S6. -/
def urgReady : State := { ready with port := { ready.port with urgDie := 7, urgIn := 31 } }

/-- S6 after a start. -/
def dieS6 : SegDie := SegDie.start 7 24 Trim.none [] 0

/-- S6 with its references valid. -/
def dieS6ref : SegDie := { dieS6 with refOk := [true, true, true] }

/-- The same with an urgent request on its way to S6. -/
def urgSent : State := { ready with ring := { ready.ring with urgent := [(7, 31)] } }

/-- The same with an urgent request accepted by S6. -/
def urgAccepted : State := { ready with segs := [dieS6ref], ring := { ready.ring with accepted := [(7, 23)] } }

/-- The same whose die has no valid reference; a raw result on the ring. -/
def urgNoRef : State := { urgAccepted with segs := [dieS6] }
def rawComes : State := { ready with ring := { ready.ring with raw := [0xFF001234] } }

/-- An open operation of this head. -/
def opA : Op := { origin := 0, prio := 1, tag := 77, opcode := 0x0701, source := 0, stop := false }

/-- The same operation, to be stopped. -/
def opStop : Op := { opA with stop := true }

/-- A state with one open operation. -/
def oneOp : State := { ready with mail := { ready.mail with ops := [opA] } }

/-- The same with an abort of it pending, at an odd tick. -/
def abortPend : State := { oneOp with now := 1, port := { oneOp.port with abortResult := 1, abortTag := 77, abortPrio := 1 } }

/-- A state with one operation to be stopped. -/
def stopOp : State := { ready with mail := { ready.mail with ops := [opStop] } }

/-- A frame of SET_CHAIN_MAP form in inbound mailbox 1, with its doorbell set. -/
def framed : State := { ready with
  mem := memWriteList [] 0x200 (frameBytes 0x0702 77 0 [2, 1, 0, 0])
  mail := { ready.mail with doorbell := 2 } }

/-- That frame as the engine reads it. -/
def gotFrame : Frame := { op := 0x0702, tag := 77, plen := 4, target := 0, reserved := 0, params := [2, 1, 0, 0], crcGood := true }

/-- A reply that waits for outbound mailbox 1. -/
def withReply : State := reply ready { origin := 0, prio := 1, tag := 77, target := 0 } 0x0704 0 [1, 2]

/-- The watchdog armed at reset, and the pack time at the middle of its window, before it and after its end. -/
def wdArmed : State := { ready with wd := { ready.wd with armed := true, question := 7, seq := 1 } }
def wdOpen : State := { wdArmed with packTime := 7000000 }
def wdEarly : State := { wdArmed with packTime := 100 }
def wdLate : State := { wdArmed with packTime := 10000000 }

/-- The first key of SWRST written. -/
def keyed : State := { ready with port := { ready.port with swrstAt := some 0 } }

/-- C out of reset and not started, with no reset evidence. -/
def asleepC : State := State.reset

/-- A boot that finds everything good. -/
def goodBoot : BootFindings :=
  { bootrec := false, bootSectorGood := [], keeperGood := [], studioGood := [], microGood := [], radioGood := [], patchRejected := []
    safetyGood := [], reactionGood := [], lifeGood := [], calBad := [], calBadB := [], trimBad := [], lbistPass := [], crystal32 := true }

/-- Headers of this head's commands in mailboxes 1, 2 and 3. -/
def h1 : Hdr := { origin := 0, prio := 1, tag := 7, target := 0 }
def h2 : Hdr := { origin := 0, prio := 2, tag := 0xFFFF, target := 0 }
def h3 : Hdr := { origin := 0, prio := 3, tag := 0, target := 0 }

/-- A part whose WAKEMASK enables none of the codes 2 to 5. -/
def noWake : State := { ready with nv := { ready.nv with settings := { ready.nv.settings with wakeMask := 0xC0 } } }

/-- A shutdown for SLEEP under way, and its LBIST runs. -/
def shutting : State := { ready with power := { ready.power with shutdown := some { hdr := none, target := .sleep } } }
def inLbist : State := { shutting with segs := shutting.segs.map fun d => { d with lbist := true } }

/-- SLEEP, MONITOR, a brown-out. -/
def sleeping : State := { ready with power := { ready.power with state := .sleep } }
def monitoring : State := { ready with power := { ready.power with state := .monitor } }
def browned : State := { sleeping with aon := { sleeping.aon with brownOut := true } }

/-- The PLL locked; a scrub under way. -/
def withPll : State := { ready with power := { ready.power with pllLocked := true } }
def scrubbing : State := { ready with power := { ready.power with scrub := some { hdr := none, done := 0, rewritten := 0, failed := 0, stepAt := 0 } } }

/-- The same 10 s later; its last step is due. -/
def scrubLater : State := { scrubbing with now := 10 * secT }
def scrubLast : State := { scrubLater with
  power := { ready.power with scrub := some { hdr := none, done := 1020, rewritten := 0, failed := 0, stepAt := 0 } } }

/-- Dwells that are over. -/
def warmTherm : Therm := { Therm.reset with dwell := [some 0, none, none, some 0] }
def warmDie : SegDie := { SegDie.start 2 24 Trim.none [] 0 with therm := warmTherm }
def warm : State := { ready with now := 2 * secT, power := { ready.power with therm := warmTherm }, segs := [warmDie] }

/-- A stopped die and a stopped C that have cooled. -/
def coolTherm : Therm := { Therm.reset with coolSince := some 0 }
def coolDie : SegDie := { SegDie.start 2 24 Trim.none [] 0 with stopped := true, therm := coolTherm }
def cool : State := { ready with now := 5 * secT, segs := [coolDie] }
def hotC : State := { sleeping with now := 5 * secT, power := { sleeping.power with therm := coolTherm }, aon := { sleeping.aon with cStopped := true } }

/-- Sweeps run. -/
def sweeping : State := { ready with sweep := { ready.sweep with running := true } }

/-- A switch that waits, of the operation `opA`. -/
def switchA : Switch := { hdr := opA.hdr, opcode := 0x0205, setting := .scheduling 1, func := 0x0205, acceptedAt := 0 }
def switching : State := { oneOp with mail := { oneOp.mail with switches := [switchA] } }

/-- The source is the pin, at a package that is no head. -/
def pinned : State := { ready with
  sweep := { ready.sweep with trig := { ready.sweep.trig with source := 1 } }
  chain := { ready.chain with isHead := false } }

/-- A Clapper is due, the first one and one too soon after another. -/
def clapOnce : State := { sweeping with
  packTime := 100
  sweep := { sweeping.sweep with trig := { ready.sweep.trig with source := 1 }, events := [{ event := 0, clap := 100 }] } }
def clapTwice : State := { clapOnce with sweep := { clapOnce.sweep with claps := 1, lastClap := 50 } }

/-- The last sweep of a Take under way. -/
def atBoundary : State := { sweeping with sweep := { sweeping.sweep with inSweep := true, sinceRestart := 39 } }

/-- S6 in its self-test, without and with an urgent request held. -/
def testing : SegDie := { dieS6 with test := { dieS6.test with running := true } }
def testHeld : SegDie := { dieS6 with test := { dieS6.test with running := true, heldUrgent := some 31 } }

/-- A Take without blocks: not published; published and awaiting a verdict; decided; with windows. -/
def takeA : Take :=
  { seq := 9, clap := 0, boundary := 0, publishedAt := 0, flags := 0, filterId := 0, hostCont := false, blocks := [], windows := []
    current := { order := 3, d := 40, samples := [] }, spanSweeps := 0, spanSkips := 0, spanFirst := 0, ownFirst := 0, published := false
    written := false, selected := false, prepared := false, planned := false, bytes := [], dieMask := 1, verdict := none, pairs := []
    charge := 0 }
def takeV : Take := { takeA with published := true, hostCont := true }
def takeC : Take := { takeV with verdict := some 0 }
def winFail : Window := { die := 7, left := 0, closedAt := some 0, fails := [24], sent := none, got := none }
def winOk : Window := { winFail with fails := [] }
def takeX : Take := { takeA with published := true, windows := [{ winFail with sent := some false, got := some 1 }] }

def unpub : State := { ready with slates := { ready.slates with takes := [takeA] } }
def awaiting : State := { ready with slates := { ready.slates with takes := [takeV] } }
def decided : State := { ready with slates := { ready.slates with takes := [takeC] } }
def voiding : State := { ready with slates := { ready.slates with takes := [takeX] } }
def windowed : State := { ready with slates := { ready.slates with takes := [{ takeA with windows := [winFail] }] } }
def windowedOk : State := { ready with slates := { ready.slates with takes := [{ takeA with windows := [winOk] }] } }

/-- A Slate of zeros in the history, and a read of it. -/
def withHistory : State := { ready with slates := { ready.slates with history := [zeros 660] } }
def histA : HistRead := { hdr := opA.hdr, left := [zeros 660], count := 0, firstTime := 0 }
def reading : State := { oneOp with slates := { oneOp.slates with reads := [histA] } }

/-- A preset that is due. -/
def presetting : State := { unpub with
  slates := { unpub.slates with presetWait := some (-5, 0) }
  sweep := { unpub.sweep with boundaryAt := 10000 } }

/-- S6 with an entry for A8, and a calibration session on it. -/
def entryA8 : SeqEntry := { first := 31, last := 31, acq := 2, gain := 2, ref := 1, filt := 0, div := 0, flags := 0 }
def dieAux : SegDie := { dieS6 with seq := [entryA8] }
def withAux : State := { ready with segs := [dieAux] }
def sessA : CalSession := { die := 7, input := 31, unit_ := 0, gain := 2, ref := 1, low := none, high := none }
def ptLow : CalPt := { applied := 0, mean := 0 }
def ptHigh : CalPt := { applied := 800000, mean := 85000 }
def sessB : CalSession := { sessA with low := some ptLow, high := some ptHigh }
def inSession : State := { withAux with cal := { withAux.cal with session := some sessA } }
def twoPoints : State := { withAux with cal := { withAux.cal with session := some sessB } }

/-- S6 with every cell at 3.7 V, and a tap calibration on it. -/
def dieRest : SegDie := { dieS6 with lastRead := List.replicate 24 3700000000, comps := List.replicate 24 { Comp.reset with last := some 3700000 } }
def tapRunA : TapRun := { hdr := opA.hdr, itest := 1000, step := 4, stepAt := 0, dies := [7], failed := [], started := true, sweeps := 0, sums := [], found := [] }
def tapping : State := { ready with segs := [dieRest], cal := { ready.cal with taps := some tapRunA } }
def tapRunB (k : Nat) : TapRun := { tapRunA with step := k, sweeps := 2048 }
def tapLate (k : Nat) : State := { tapping with cal := { ready.cal with taps := some (tapRunB k) } }

/-- A flash job in progress. -/
def flashing : State := { ready with flash := { ready.flash with jobs := [.reactionTable [] 1] } }

/-- S6 with a transfer of its first Dolly on cell 1, in host-stepped mode. -/
def transferA : DollyTransfer :=
  { mode := 1, cell := 1, set_ := 1000, running := 1000, start := 0, endAt := 250 * msT, lease := true, qlimit := 0, freq := 0, iamp := 0, t0 := 0
    hdr := none, remain := none, check := false }
def dollyTransfer : Dolly := { Dolly.reset with transfer := some transferA }
def dieTransfer : SegDie := { dieS6 with dollies := [dollyTransfer, Dolly.reset, Dolly.reset, Dolly.reset] }
def stepTransfer : State := { ready with segs := [dieTransfer], sense := { ready.sense with stepped := true } }

/-- The same package in QUIET mode with every reference settled. -/
def quietRun : State := stepTransfer

/-- S6 whose supply reference rose at tick 0; S6 whose cross-check waits for its test. -/
def dieRising : SegDie := { dieS6 with refSince := [none, none, some 0] }
def refRising : State := { ready with now := 100 * usT, segs := [dieRising] }
def dieXcWait : SegDie := { dieS6 with xcWait := true }

/-- A probe of T3 of S6 in progress, and check readings. -/
def rdA : ProbeReading := { cellM := 3000000, cellM1 := 3000000, span := 6000000 }
def rdOpen : ProbeReading := { cellM := 2800000, cellM1 := 3200000, span := 6000000 }
def probeA : Probe := { tap := 3, baseline := probeReading dieS6 3 rdA, current := 0, startedAt := 0, sched := false, hdr := none, retries := 0 }
def dieProbing : SegDie := { dieS6 with probe := some probeA, nextTap := 4 }
def probingA : State := { ready with now := 44400, segs := [dieProbing] }
def probingS : State := { probingA with segs := [{ dieProbing with probe := some { probeA with sched := true } }] }
def probingH : State := { probingA with segs := [{ dieProbing with probe := some { probeA with hdr := some h1 } }] }
def dieAsked : SegDie := { dieS6 with probeWait := some (h1, 24, 0) }
def probeAsked : State := { stepTransfer with segs := [dieAsked] }

/-- Blocks of the reference cross-check that end: too few pairs, and a difference beyond its limit. -/
def dieXcShort : SegDie := { dieS6 with xcSweeps := 256, xcPairs := 63, xcM := 1, xcD := 2 }
def dieXcOff : SegDie := { dieS6ref with xcSweeps := 256, xcPairs := 64, xcM := 100000, xcD := 100251 }
def xcShort : State := { ready with segs := [dieXcShort] }
def xcOff : State := { ready with segs := [dieXcOff] }

/-- Group tests of the first group of S6: at the first and the last matrix step, and a leakage test. -/
def testA : GroupTest := { group := 1, leak := false, step := 0, result := 0, tap := 0, rail := 0, at_ := 0 }
def testB : GroupTest := { testA with step := 20 }
def testL : GroupTest := { testA with leak := true }
def dollyMatrix : Dolly := { Dolly.reset with test := some testA, testDue := false }
def dollyMatrix20 : Dolly := { dollyMatrix with test := some testB }
def dollyLeak : Dolly := { dollyMatrix with test := some testL }
def dieMatrix : SegDie := { dieS6 with dollies := [dollyMatrix] }
def dieMatrix20 : SegDie := { dieS6 with dollies := [dollyMatrix20] }
def dieLeak : SegDie := { dieS6 with dollies := [dollyLeak] }
def matrixRun : State := { ready with now := 51 * msT, segs := [dieMatrix] }
def matrixLast : State := { ready with now := 51 * msT, segs := [dieMatrix20] }
def leaking : State := { ready with now := 51 * msT, segs := [dieLeak] }

/-- Host-assisted balancing with the open-tap test host-stepped; S6 with a transfer, at rest, withdrawn, and with cell 6 at CELLLO. -/
def hostTransfer : State := { stepTransfer with balance := { ready.balance with hostMode := true } }
def hostRest : State := { hostTransfer with segs := [dieRest] }
def dollyWithdrawn : Dolly := { Dolly.reset with withdrawn := [0x99] }
def dieWithdrawn : SegDie := { dieRest with dollies := [dollyWithdrawn] }
def hostWithdrawn : State := { hostTransfer with segs := [dieWithdrawn] }
def dieLow : SegDie := { dieS6 with lastRead := List.replicate 24 2800000000, comps := List.replicate 24 { Comp.reset with last := some 2800000 } }
def hostLow : State := { hostTransfer with segs := [dieLow] }

/-- A goal, and a published and prepared Take without items. -/
def takeP : Take := { takeA with published := true, prepared := true }
def planning : State := { ready with
  segs := [], balance := { ready.balance with goal := 2 }, slates := { ready.slates with takes := [takeP] } }

/-- The same whose Slate committed before its items were ready. -/
def planLate : State := { planning with slates := { ready.slates with late := [takeP] } }

/-- Released items: a new transfer of the fourth Dolly of S6, and a renewal of that of the first. -/
def itemA : PlanItem := { die := 7, dolly := 4, mode := 1, cell := 24, iset := 3000, remain := some 10, deps := [], released := true }
def itemB : PlanItem := { itemA with dolly := 1, cell := 1, remain := none }
def withItem : State := { stepTransfer with segs := [dieRest], balance := { ready.balance with items := [itemA] } }
def withRenewal : State := { stepTransfer with balance := { ready.balance with items := [itemB] } }

/-- A check transfer of a withdrawn Dolly. -/
def transferC : DollyTransfer := { transferA with check := true }
def dollyChecking : Dolly := { Dolly.reset with transfer := some transferC, withdrawn := [0x30] }
def dieChecking : SegDie := { dieS6 with dollies := [dollyChecking] }
def checking : State := { ready with segs := [dieChecking] }

/-- S6 in SLEEP with its sleep-balancing settings, before and after its wake. -/
def dieDozing : SegDie := { dieS6 with sleep := { dieS6.sleep with cfg := some (60, 3900000, 10000, 500, 600), nextWake := some 0 } }
def dieAwake : SegDie := { dieDozing with refOk := [true, false, false], sleep := { dieDozing.sleep with awake := true } }
def dozing : State := { sleeping with segs := [dieDozing] }
def awakened : State := { sleeping with now := secT, segs := [dieAwake] }

/-- A LOCAL session of cells 1 and 2 of S1 at one frequency: defined, stored in part, running, to be aborted. -/
def impDefA : ImpDef :=
  { number := 1, source := 2, settle := 2, nblocks := 4, auxDie := 7, auxIn := 31, iamp := 500, imin := 50, cells := 3, freqs := [100000]
    rounds := 2, nominal := 840 }
def pointDieA : PointDie := { die := 2, good := 0, discarded := 0, blocks := [], amp := 0, start := 0, last := 0, stored := false }
def impRunA : ImpRun := { hdr := opA.hdr, point := 0, startedAt := 0, t0 := 0, tried := 0, dies := [pointDieA], acc := [] }
def impDefined : State := { ready with imp := { ready.imp with def_ := some impDefA, lastNumber := 1 } }
def impStored : State := { impDefined with imp := { impDefined.imp with points := [(0, zeros 44)], next := 1 } }
def impRunning : State := { impDefined with imp := { impDefined.imp with run := some impRunA } }
def impBusy : State := { oneOp with imp := impRunning.imp }
def impTried (s : State) (r : ImpRun) : ImpRun :=
  { r with tried := r.tried + 1, dies := r.dies.map (blockDie s impDefA r []), acc := r.acc.filter fun a => decide (r.tried < a.block) }
def impAborting : State := { stopOp with imp := impRunning.imp }

/-- Impedance in host-assisted mode, S6 at rest; an order that is over; a read of a stored point. -/
def impHost : State := { stepTransfer with segs := [dieRest], imp := { ready.imp with hostMode := true } }
def orderA : ModOrder := { hdr := opA.hdr, die := 7, dolly := 1, freq := 1000000, start := 0, ended := none }
def ordered : State := { oneOp with packTime := 10 ^ 8, imp := { ready.imp with orders := [orderA] } }
def dieOrder : SegDie := { dieRest with dollies := [{ Dolly.reset with transfer := some { transferA with mode := 3, hdr := some opA.hdr } }] }
def orderRuns : State := { ordered with segs := [dieOrder] }
def pointReadA : PointRead := { hdr := opA.hdr, left := [zeros 44], count := 0 }
def impReading : State := { oneOp with imp := { ready.imp with reads := [pointReadA] } }

/-- S6 with its ring input lost. -/
def dieCut : SegDie := { dieS6 with ringLost := true }
def cutOff : State := { clapOnce with segs := [dieCut] }

/-- The header of a frame of address 2, and a map that holds it. -/
def frA : FrameHdr := { dest := 0xFF, src := 2, flags := 0, seq := 5, hops := 3, port := 0, goodCrc := true }
def entryA : MapEntry :=
  { addr := 2, uid := 0, state := 1, dieOut := 0, heard := 0, lost := false, locked := false, queue := 0, ports := 0, sweeping := false
    placeB := false, head := false }
def mapped : State := { ready with chain := { ready.chain with chainId := 5, addr := 1, count := 3, map := [entryA] } }

/-- A member on CHAIN at address 2, not locked, with the current source at address 1; the same near its lock; with its time port gone. -/
def onChain : State := { ready with
  sweep := { ready.sweep with trig := { ready.sweep.trig with source := 2 } }
  chain := { Chain.reset with addr := 2, count := 3, source := 1, portB := false, hopsB := 5 } }
def nearLock : State := { onChain with packTime := 99000, chain := { onChain.chain with syncs := 9 } }
def portGone : State := { onChain with packTime := 105000, now := 105000, chain := { onChain.chain with syncAt := 100000 } }

/-- The stages of the first superframe start of a head. -/
def sf1 : State := { ready with packTime := 100000 }
def sfA : State := takeMaster { sf1 with chain := { sf1.chain with sfnum := 1 } }
def sfB : State := radioSuperframe (drainBulk (applyPlacement sfA)) 0
def sfC : State := drainSlates (repeatNotices (checkRef (applySource (admitReady (applyServices sfB)))))
def sfD : State := sendHeartbeat (masterSends (decidePlacement sfC 0))

/-- The radio on, with a key; a partner heard; a data frame on its way. -/
def onAir : State := { ready with radio := { ready.radio with enable := true, key := zeros 16, chmask := 1 } }
def heardPeer : State := setPeer onAir { addr := 2, counter := some 6, rssi := 0, sent := 0, acks := [] }
def bulkA : BulkItem := { stream := 4, tid := 0, offset := 0, data := [1], dest := 2 }
def inAir : State := { onAir with radio := { onAir.radio with inFlight := some bulkA } }

/-- A part without M; M in METERING; four statements asked for; a read that M has answered; a sealed M; an M with its points taken. -/
def noM : State := { ready with part := .ish624 }
def metering : State := { ready with metro := { ready.metro with state := .metering } }
def stmtA : MReq := { hdr := h1, opcode := 0x0802, kind := .statement 0 0, sentAt := none }
def fourAsked : State := { ready with mport := { ready.mport with reqs := [stmtA, stmtA, stmtA, stmtA] } }
def reqA : MReq := { hdr := h1, opcode := 0x0801, kind := .read 0x10 8, sentAt := some 0 }
def awaitingM : State := { metering with mport := { metering.mport with reqs := [reqA], answers := [(false, true, zeros 8)] } }
def reqE : MReq := { hdr := h1, opcode := 0x0804, kind := .events 1023 2 [], sentAt := some 0 }
def awaitingEvents : State := { metering with mport := { metering.mport with reqs := [reqE], answers := [(false, true, zeros 16)] } }
def sealedM : State := { metering with
  metro := { metering.metro with sealed_ := true, calGen := 1, authority := zeros 64 } }
def calibrated2 : State := { metering with
  metro := { metering.metro with ptI := [(0, 0), (1000, 50000)], ptU := [(0, 0), (1000000, 800000000)] } }

/-- A session of the head at this port, and a proof that it accepts. -/
def sessionA : Session :=
  { head := 0, host := 5, number := 9, challenge := [], key := [], lastN := 0, lastProof := 0, staging := none }
def inSafety : State := { ready with safety := { ready.safety with sessions := [sessionA] } }
def goodProof (op : Nat) (pre : List Byte) : Proof :=
  { session := 9, count := 1, mac := (Config.hmac [] (proofMessage h1 op pre 1)).take 8 }

/-- A proof of the session is good wherever the session is open. -/
theorem goodProof_good (op : Nat) (pre : List Byte) {s : State} (hs : s.safety.sessions = [sessionA] := by rfl)
    (hn : s.now < 60 * secT := by decide) :
    proofGood s h1 op pre (goodProof op pre) = true := by
  simp [proofGood, sessionOf, headOf, h1, hs, hn, sessionA, goodProof]

/-- The same for a command in mailbox 3. -/
def goodProof3 (op : Nat) (pre : List Byte) : Proof :=
  { session := 9, count := 1, mac := (Config.hmac [] (proofMessage h3 op pre 1)).take 8 }

theorem goodProof3_good (op : Nat) (pre : List Byte) {s : State} (hs : s.safety.sessions = [sessionA] := by rfl)
    (hn : s.now < 60 * secT := by decide) :
    proofGood s h3 op pre (goodProof3 op pre) = true := by
  simp [proofGood, sessionOf, headOf, h3, hs, hn, sessionA, goodProof3]

/-- A number is not its successor. -/
theorem succ_ne (n : Nat) : n + 1 ≠ n := by omega

def withPassword : State := { inSafety with nv := { inSafety.nv with password := [65] } }
def pendCfg : PendingCfg := { hdr := opA.hdr, image := safetyDefault, gen := 1, changed := 0 }

/-- A state in which both outputs may close; a grace period runs; input 1 with a crash latch. -/
def closable : State := { inSafety with
  safety := { inSafety.safety with valid := true }
  life := { inSafety.life with state := 2 }
  stage := { inSafety.stage with supply := true } }
def graceA : Grace := { die := 7, cell := 2, under := false, endAt := 0, running := true, gone := false, hard := 0, direct := false }
def inGrace : State := { inSafety with stage := { inSafety.stage with graces := [graceA] } }
def crashedIn : SInput := { SInput.reset with chA := true, chB := true, crash := true }
def crashed : State := { inSafety with stage := { inSafety.stage with inputs := [crashedIn] } }

/-- Input 1 an EMERGENCY one, in operate; one channel down; the interlock loop enabled; output 1 closed; a trip in its grace period. -/
def inputUp : SInput := { SInput.reset with chA := true, chB := true }
def emergency : State := { ready with
  life := { ready.life with state := 2 }
  safety := { ready.safety with image := safetyDefault.set 24 1 }
  stage := { ready.stage with inputs := [inputUp, inputUp, inputUp, inputUp] } }
def inputHalf : SInput := { inputUp with chA := false, firstCh := some 0 }
def halfDown : State := { emergency with stage := { emergency.stage with inputs := [inputHalf] } }
def hvilOn : State := { ready with life := { ready.life with state := 2 }, safety := { ready.safety with image := safetyDefault.set 16 1 } }
def closed1 : State := { ready with now := 2 * msT, stage := { ready.stage with so1 := true } }
def closed2 : State := { ready with now := 2 * msT, stage := { ready.stage with so2 := true } }
def dieTrip : SegDie := { dieS6 with comps := upd dieS6.comps (fun _ => true) fun x => { x with ovTrip := true } }
def graceTrip : State := { ready with segs := [dieTrip], stage := { ready.stage with graces := [graceA] } }

/-- Records: of the watchdog, merged into nothing; a SAFE one; one without causes; one that waits; an INFO one. -/
def recOpen : FRec := newRec ready (faultMsg 0 8 0x80 3) 3 realMsg
def recSafe : FRec := recOpen
def recPlain : FRec := { recOpen with cls := 1, causes := [] }
def recWaits : FRec := { recOpen with cls := 2, decide_ := true }
def recInfo : FRec := newRec ready (faultMsg 0 9 0xC3 3) 0 realMsg
def oneRec : State := { ready with faults := { ready.faults with open_ := [recOpen], nextId := 1 } }
def oneSafe : State := oneRec
def oneInfo : State := { ready with faults := { ready.faults with open_ := [recInfo], nextId := 1 } }
def inSafe1 : State := { inSafety with faults := { inSafety.faults with open_ := [recOpen], nextId := 1 } }
def clearA : Clearing := { hdr := h1, source := 8, all := 0, proved := false, before := 1 }
def evA : Evidence := { cause := 0x80, question := 1, seq := 2, pc := 3, lastGood := 4, at_ := 5, checkin := List.replicate 16 0 }

/-- Task 2 must check in; a Dailies entry is held. -/
def needs2 : State := { ready with sup := { ready.sup with limits := ready.sup.limits.set 2 (1, 255) } }
def entD : DEntry := { dseq := 4, at_ := 0, source := 9, kind := 0xC3, dtype := 0, dflags := 0, data := List.replicate 28 0 }
def logged : State := { ready with nv := { ready.nv with dailies := [entD] } }

/-- A download of two bytes to STUDIO; Tadpole; an ACTIVATE that waits; a verified STUDIO image, and one whose activation is committed,
running and unconfirmed. -/
def xferA : Transfer := { target := 1, place := 1, length := 2, received := 0, lastOffset := 0, lastData := [] }
def downloading : State := { ready with fw := { ready.fw with transfer := some xferA } }
def tadpole : State := { State.reset with sup := { Supervision.reset with recovery := true } }
def actA : Activation := { hdr := some opA.hdr, tmask := 2, scope := 0, at_ := 500 * msT, committed := false, done := false }
def imageB : Image := { Image.factory 0x03030028 with rollback := 6 }
def verified2 : State := { oneOp with
  nv := { ready.nv with boot := { ready.nv.boot with verified := 2, complete := 2 }, images := ready.nv.images.set 3 (some imageB) } }
def armed2 : State := { verified2 with packTime := 400 * msT, fw := { verified2.fw with activation := some actA } }
def due2 : State := { verified2 with
  packTime := 500 * msT
  nv := { verified2.nv with boot := { verified2.nv.boot with pending := 2, actAt := 500 * msT } }
  fw := { verified2.fw with activation := some { actA with committed := true } } }
def trial2 : State := { due2 with
  nv := { due2.nv with boot := { due2.nv.boot with bootCount := 1 } }
  fw := { due2.fw with running := 2 }
  aon := { due2.aon with confirmEnd := some 0 } }

/-- Two contradictory orders of two heads for output 1: a close and an open. -/
def orderClose : Order := { resource := 1, unit_ := 1, value := 1, directed := true }
def arbA : Arb :=
  { hdr := h1, opcode := 0x0907, order := orderClose, params := [1, 1, 0, 0], takenAt := 0, boundary := 0, held := true, closed := none }
def arbB : Arb :=
  { arbA with hdr := { h1 with origin := 2 }, order := { orderClose with value := 0 }, params := [1, 0, 0, 0] }

/-- A part that may go to FIELD; one with a nonce issued at pack time 0; a passing run of LBIST on S1. -/
def fieldReady : State := { withPassword with
  nv := { withPassword.nv with customerKey := [1], safety := some (safetyDefault, 1) }
  safety := { withPassword.safety with valid := true } }
def noncedA : State := { inSafety with life := { inSafety.life with nonce := some ([1], 0) } }
def lbPass : LbistEnv := { die := 2, supplyOk := true, clockOk := true, wakeFired := false, result := 1, sigLow := 0 }

/-- The ASCII bytes "123456789" of the check values. -/
def digits : List Byte := [0x31, 0x32, 0x33, 0x34, 0x35, 0x36, 0x37, 0x38, 0x39]

/-- Check value of R47. -/
theorem test_crc16 : crc16 digits = 0x29B1 := by decide
/-- Check value of R64. -/
theorem test_crc32 : crc32 digits = 0xCBF43926 := by decide
/-- Check value of R298. -/
theorem test_crc8 : crc8 digits = 0xF4 := by decide
/-- Check value of R322. -/
theorem test_fcs : fcs16 digits = 0x2189 := by decide

/-- The memory of reset is canonical. -/
theorem reset_wf : Memory.wf State.reset.mem = true := by decide
/-- Reset meets the invariant. -/
theorem reset_kept : kept State.reset = true := by decide

/-- A part with 16 cells on every segment die (the worked example of R7): part cell 54 is S4 cell 6. -/
def sixteen : State := { ready with segs := ready.segs.map fun d => { d with cells := 16 } }
theorem test_part_cell : partCell sixteen 5 6 = 54 ∧ cellOf sixteen 54 = some (5, 6) := by decide

/-- The frame of FAULT_READ for closed records, 7 of them, from index 258, with TAG 0x1234, written out from R63 and R433. -/
theorem test_frame_fault_read :
    wireBytes false (.faultRead { h1 with tag := 0x1234 } 1 7 258) =
      some ([0x01, 0x0A, 0x34, 0x12, 0x08, 0x00, 0x00, 0x00, 0x01, 0x07, 0x02, 0x01, 0x00, 0x00, 0x00, 0x00] ++
        crcTail [0x01, 0x0A, 0x34, 0x12, 0x08, 0x00, 0x00, 0x00, 0x01, 0x07, 0x02, 0x01, 0x00, 0x00, 0x00, 0x00]) := by decide
/-- A signed field: SET_RADIO at −3 dBm, written out from R63 and R329. -/
theorem test_params_set_radio : paramBytes false (.setRadio h1 1 (-3) 0xFFFF) = some [0x01, 0xFD, 0xFF, 0xFF] := by decide
/-- SET_SEQUENCE of one entry, written out from R105 and R133. -/
theorem test_params_set_sequence : paramBytes false (.setSequence h1 0x80 [entryA8]) =
    some [0x80, 0x01, 0x00, 0x00, 31, 31, 2, 2, 1, 0, 0, 0] := by decide
/-- A reserved byte that is not 0 is refused (R72). -/
theorem test_reserved_byte : readParams [.u 1, .z 3] [] [] [1, 0, 0, 1] = none := by decide

/-- The well-formedness smoke: an ill-formed command for each check, and one that is well formed. -/
theorem test_wf_good : (Instr.faultRead h1 1 7 258).wf = true := by decide
theorem test_wf_number : (Instr.spiRead 0x10000 1 0 1).wf = false := by decide
theorem test_wf_die : (Instr.ringInputReturn 8).wf = false := by decide
theorem test_wf_dolly : (Instr.dollyApplyItem 7 5).wf = false := by decide
theorem test_wf_header : (Instr.getIdentity { h1 with prio := 4 }).wf = false := by decide
theorem test_wf_tag : (Instr.getIdentity { h1 with tag := 0x10000 }).wf = false := by decide
theorem test_wf_frame : (Instr.notLocked).wf = true ∧ frameOk { frA with hops := 32 } = false := by decide
theorem test_wf_field : (Instr.faultRead h1 256 7 0).wf = false := by decide
theorem test_wf_signed : (Instr.setRadio h1 1 128 0).wf = false := by decide
theorem test_wf_group : (Instr.setSequence h1 0 [{ entryA8 with first := 256 }]).wf = false := by decide
theorem test_wf_proof : (Instr.safetyLogout h1 { session := 0, count := 0, mac := [] }).wf = false := by decide
theorem test_wf_length : (Instr.updateData h1 0 (zeros 240)).wf = false := by decide

/-- The worked example of the watchdog: P is 50 ms, question 42 was issued at 31.2 ms, and a write at 48.0 ms is early with detail 16; the
outputs open, and question 43 is issued. -/
def early : State := { ready with
  packTime := 48 * msT
  stage := { ready.stage with so1 := true, so2 := true }
  wd := { ready.wd with armed := true, period := 50, nextPeriod := 50, question := 9, seq := 42, start := 3120 * 1000 } }
theorem test_wd_early :
    (match exec (.wdaWrite 0 true) early with
      | .next t => t.faults.open_.map (fun r => (msgKind r.msg, r.lastDetail)) == [(0x82, 16)] && !t.stage.so1 && !t.stage.so2 &&
          t.wd.seq == 43 && t.wd.start == 48 * msT
      | _ => false) = true := by decide

/-- The worked example of a calibration of A3: 0 A at 1 503 210 µV and 500 A at 2 505 410 µV give 149 566 mA at 1 803 000 µV. -/
theorem test_cal_a3 :
    f32Mul (calCoeffs { applied := 0, mean := 1503210 } { applied := 500000, mean := 2505410 }).1 1803000 +
      (calCoeffs { applied := 0, mean := 1503210 } { applied := 500000, mean := 2505410 }).2 = 149566 := by decide

/-- One legal sample of the worked example of M: 200 A and 800 V add 20 J, which is 5 mWh and a remainder, and 25 mAs. -/
theorem test_legal_sample :
    (match exec (.legalSample 10000000 640000000) { metering with metro := { metering.metro with eimp := 4210550000 } } with
      | .next t => t.metro.eimp == 4210550005 && t.metro.qimp == 25 && t.metro.eexp == 0 && t.metro.qexp == 0
      | _ => false) = true := by decide

/-- An empty queue lets a tick pass; a command at the front runs and leaves the queue's rest. -/
theorem test_idle : (match step ready with
      | .next t => t.now == 1 && t.packTime == 1 && t.mail == ready.mail
      | _ => false) = true := by decide
theorem test_front :
    (match step { ready with pending := [.getFilters h1, .notLocked] } with
      | .next t => t.pending == [.notLocked] && t.mail.replies.length == 1
      | _ => false) = true := by decide
theorem meets_IdleTicks_1 : ∃ (s : State), (s.pending = []) ∧ (s.port.abortResult ≠ 1) ∧ (s.chain.locked = false ∨ s.chain.slew = 0 ∨ s.now % 1000 ≠ 0) :=
  ⟨State.reset, by decide, by decide, by decide⟩

theorem meets_IdleTicks_2 : ∃ (s : State), (s.pending = []) ∧ (s.port.abortResult ≠ 1) ∧ (s.chain.locked = true) ∧ (0 < s.chain.slew) ∧ (s.now % 1000 = 0) :=
  ⟨{ State.reset with chain := { Chain.reset with locked := true, slew := 1 } }, by decide, by decide, by decide, by decide, by decide⟩

theorem meets_IdleTicks_3 : ∃ (s : State), (s.pending = []) ∧ (s.port.abortResult ≠ 1) ∧ (s.chain.locked = true) ∧ (s.chain.slew < 0) ∧ (s.now % 1000 = 0) :=
  ⟨{ State.reset with chain := { Chain.reset with locked := true, slew := -1 } }, by decide, by decide, by decide, by decide, by decide⟩

theorem meets_IdleTicks_4 : ∃ (s : State), (s.pending = []) ∧ (s.port.abortResult ≠ 1) ∧ ((∀ d ∈ s.segs, d.ringLost = false)) :=
  ⟨State.reset, by decide, by decide, by decide⟩

theorem meets_ReadsReturnMemory_1 : ∃ (s : State) (a : Nat) (n : Nat) (r : Nat), (portReady s = true) ∧ (0 < n) ∧ (n ≤ 4096) ∧ (regionOf a n = some r) ∧ (r ≠ 0) :=
  ⟨ready, 0x1FFF, 2, 3, by decide, by decide, by decide, by decide, by decide⟩

theorem meets_ReadsReturnMemory_2 : ∃ (s : State) (a : Nat) (n : Nat) (r : Nat), (portReady s = true) ∧ (s.port.quadEn = true) ∧ (0 < n) ∧ (n ≤ 4096) ∧ (regionOf a n = some r) ∧ (r ≠ 0) :=
  ⟨quadReady, 0x100, 1024, 1, by decide, by decide, by decide, by decide, by decide, by decide⟩

theorem meets_BadReadHasNoEffect_1 : ∃ (s : State) (a : Nat) (n : Nat) (k : Nat), (portReady s = true) ∧ (k ≠ (headerCrc true false a n).toNat) :=
  ⟨ready, 0x28, 4, 0x10000, by exact ⟨by decide, fun e => by have := (headerCrc true false 0x28 4).isLt; omega⟩⟩

theorem meets_WritesFillTheMailbox_1 : ∃ (s : State) (a : Nat) (data : List Byte), (portReady s = true) ∧ (data ≠ []) ∧ (regionOf a data.length = some 1) ∧ (writeRefused s a data = false) ∧ (Memory.wf s.mem = true) :=
  ⟨ready, 0x4FF, [7], by decide, by decide, by decide, by decide, by decide⟩

theorem meets_WritesFillTheMailbox_2 : ∃ (s : State) (a : Nat) (data : List Byte), (portReady s = true) ∧ (s.port.quadEn = true) ∧ (data ≠ []) ∧ (regionOf a data.length = some 1) ∧ (writeRefused s a data = false) ∧ (Memory.wf s.mem = true) :=
  ⟨quadReady, 0x100, [0, 7], by decide, by decide, by decide, by decide, by decide, by decide⟩

theorem meets_FullMailboxRefusesWrites_1 : ∃ (s : State) (a : Nat) (n : Nat) (data : List Byte), (portReady s = true) ∧ (n < 4) ∧ (s.mail.doorbell.getLsbD n = true) ∧ (data ≠ []) ∧ (0x100 + 256 * n ≤ a) ∧ (a + data.length ≤ 0x200 + 256 * n) :=
  ⟨rung, 0x4FF, 3, [1], by decide, by decide, by decide, by decide, by decide, by decide⟩

theorem meets_RegisterWritesAct_1 : ∃ (s : State), (portReady s = true) :=
  ⟨ready, by decide⟩

theorem meets_RegisterWritesAct_2 : ∃ (s : State), (portReady s = true) :=
  ⟨ready, by decide⟩

theorem meets_RegisterWritesAct_3 : ∃ (s : State), (portReady s = true) :=
  ⟨ready, by decide⟩

theorem meets_RegisterWritesAct_4 : ∃ (s : State), (portReady s = true) :=
  ⟨ready, by decide⟩

theorem meets_RegisterWritesAct_5 : ∃ (s : State), (portReady s = true) :=
  ⟨ready, by decide⟩

theorem meets_RegisterWritesAct_6 : ∃ (s : State) (n : Nat), (portReady s = true) ∧ (n < 4) :=
  ⟨ready, 3, by decide, by decide⟩

theorem meets_RegisterWritesAct_7 : ∃ (s : State) (n : Nat), (portReady s = true) ∧ (n < 4) :=
  ⟨ready, 3, by decide, by decide⟩

theorem meets_RawResultPath_1 : ∃ (s : State) (a : Nat) (n : Nat) (k : Nat) (y : Nat) (u : Bool) (b : Bool) (o : Bool) (r : List (BitVec 32)), (cUp s = true) ∧ (s.ring.raw = rawPair a n k y u b o :: r) ∧ (s.port.rawValid = false) :=
  ⟨rawComes, 0x1234, 31, 7, 0, false, false, false, [], by decide, by decide, by decide⟩

theorem meets_RawResultPath_2 : ∃ (s : State) (a : Nat) (n : Nat) (k : Nat) (y : Nat) (u : Bool) (b : Bool) (o : Bool), (cUp s = false ∨ s.ring.raw.head? ≠ some (rawPair a n k y u b o)) :=
  ⟨rawComes, 0x1234, 31, 6, 0, false, false, false, by decide⟩

theorem meets_RawResultPath_3 : ∃ (s : State), (portReady s = true) ∧ (s.port.rawValid = true) :=
  ⟨rawHeld, by decide, by decide⟩

theorem meets_RawResultPath_4 : ∃ (s : State), (portReady s = true) :=
  ⟨ready, by decide⟩

theorem meets_UrgentPath_1 : ∃ (s : State), (portReady s = true) ∧ ((s.die? s.port.urgDie.toNat).isSome = true) :=
  ⟨urgReady, by decide, by decide⟩

theorem meets_UrgentPath_2 : ∃ (s : State) (k : Nat) (x : Nat) (r : List (Nat × Nat)) (d : SegDie), (s.ring.urgent = (k, x) :: r) ∧ (s.die? k = some d) ∧ (urgRefuses s d = false) ∧ (d.test.heldUrgent = none) ∧ (d.test.running = false) ∧ (urgIdle { s with ring := { s.ring with urgent := r } } d = true) :=
  ⟨urgSent, 7, 31, [], dieS6, by refine ⟨by decide, by rfl, by decide, by decide, by decide, by decide⟩⟩

theorem meets_UrgentPath_3 : ∃ (s : State) (k : Nat), (s.ring.urgent.head?.map Prod.fst ≠ some k) :=
  ⟨urgSent, 6, by decide⟩

theorem meets_UrgentPath_4 : ∃ (s : State) (k : Nat) (x : Nat) (r : List (Nat × Nat)) (d : SegDie), (s.ring.accepted = (k, x) :: r) ∧ (s.die? k = some d) ∧ (d.hasInput x = true) ∧ (urgRefOk d x = true) ∧ (s.port.rawValid = false) :=
  ⟨urgAccepted, 7, 23, [], dieS6ref, by refine ⟨by decide, by rfl, by decide, by decide, by decide⟩⟩

theorem meets_UrgentPath_5 : ∃ (s : State) (k : Nat) (x : Nat) (r : List (Nat × Nat)) (d : SegDie), (s.ring.accepted = (k, x) :: r) ∧ (s.die? k = some d) ∧ (d.hasInput x = false ∨ urgRefOk d x = false) ∧ (s.port.rawValid = false) :=
  ⟨urgNoRef, 7, 23, [], dieS6, by refine ⟨by decide, by rfl, by decide, by decide⟩⟩

theorem meets_StreamPointer_1 : ∃ (s : State) (v : Nat), (portReady s = true) ∧ (v < 65536) ∧ (v % 4 = 0) ∧ ((BitVec.ofNat 12 v - s.port.strRd).toNat ≤ pendingBytes s) :=
  ⟨pend, 4, by decide, by decide, by decide, by decide⟩

theorem meets_StreamPointer_2 : ∃ (s : State) (v : Nat), (portReady s = true) ∧ (v < 65536) ∧ (v % 4 ≠ 0 ∨ pendingBytes s < (BitVec.ofNat 12 v - s.port.strRd).toNat) :=
  ⟨pend, 12, by decide, by decide, by decide⟩

theorem meets_AbortOfAnOperation_1 : ∃ (s : State) (p : Nat) (k : Nat), (portReady s = true) ∧ (p < 4) ∧ (k < 65536) ∧ (s.port.abortResult ≠ 1) :=
  ⟨oneOp, 1, 77, by decide, by decide, by decide, by decide⟩

theorem meets_AbortOfAnOperation_2 : ∃ (s : State), (portReady s = true) ∧ (s.port.abortResult = 1) :=
  ⟨abortPend, by decide, by decide⟩

theorem meets_AbortOfAnOperation_3 : ∃ (s : State) (o : Op), (s.pending = []) ∧ (s.port.abortResult = 1) ∧ (s.now % 2 = 1) ∧ (s.mail.doorbell.getLsbD s.port.abortPrio.toNat = false) ∧ (s.mail.waiting = []) ∧ (s.mail.arb = []) ∧ ((s.mail.ops.find? fun o => o.origin == 0 && o.prio == s.port.abortPrio.toNat && o.tag == s.port.abortTag.toNat) = some o) :=
  ⟨abortPend, opA, by decide, by decide, by decide, by decide, by decide, by decide, by decide⟩

theorem meets_AbortOfAnOperation_4 : ∃ (s : State), (s.pending = []) ∧ (s.port.abortResult = 1) ∧ (s.now % 2 = 1) ∧ (s.mail.doorbell.getLsbD s.port.abortPrio.toNat = false) ∧ (s.mail.waiting = []) ∧ (s.mail.arb = []) ∧ (s.mail.ops = []) ∧ (s.mail.replies = []) :=
  ⟨{ abortPend with mail := ready.mail }, by decide, by decide, by decide, by decide, by decide, by decide, by decide, by decide⟩

theorem meets_AbortOfAnOperation_5 : ∃ (s : State) (p : Nat) (k : Nat) (o : Op), ((s.mail.ops.find? fun o => o.stop && o.prio == p && o.tag == k) = some o) ∧ (inFlashStep s o.hdr = false) ∧ (isCommitted s o.hdr = false) ∧ (s.imp.run = none) :=
  ⟨stopOp, 1, 77, opStop, by decide, by decide, by decide, by decide⟩

theorem meets_MailboxTakesAFrame_1 : ∃ (s : State) (n : Nat) (f : Frame) (l : List Fld) (v : List Val), (cUp s = true) ∧ (nextMailbox s = some n) ∧ (readFrame (memReadList s.mem (0x100 + 256 * n) 256) = f) ∧ (frameBad s f = false) ∧ (f.target = 0 ∨ f.target = s.chain.addr) ∧ (layoutOf (decide (s.life.state = 4)) f.op = some l) ∧ (gate s { origin := 0, prio := n, tag := f.tag, target := f.target } f.op = none) ∧ (readParams l [] [] f.params = some v) ∧ (twoHeads s = false) :=
  ⟨framed, 1, gotFrame, [.u 1, .u 1, .z 2], [.n 2, .n 1], by decide, by decide, by decide, by decide, by decide, by decide, by decide, by decide, by decide⟩

theorem meets_MailboxTakesAFrame_2 : ∃ (s : State) (n : Nat) (f : Frame) (l : List Fld) (v : List Val), (cUp s = true) ∧ (nextMailbox s = some n) ∧ (readFrame (memReadList s.mem (0x100 + 256 * n) 256) = f) ∧ (frameBad s f = false) ∧ (f.target = 0 ∨ f.target = s.chain.addr) ∧ (layoutOf (decide (s.life.state = 4)) f.op = some l) ∧ (gate s { origin := 0, prio := n, tag := f.tag, target := f.target } f.op = none) ∧ (readParams l [] [] f.params = some v) ∧ (twoHeads s = false) ∧ (Memory.wf s.mem = true) :=
  ⟨framed, 1, gotFrame, [.u 1, .u 1, .z 2], [.n 2, .n 1], by decide, by decide, by decide, by decide, by decide, by decide, by decide, by decide, by decide, by decide⟩

theorem meets_MailboxTakesAFrame_3 : ∃ (s : State) (n : Nat) (f : Frame), (cUp s = true) ∧ (nextMailbox s = some n) ∧ (readFrame (memReadList s.mem (0x100 + 256 * n) 256) = f) ∧ (f.crcGood = false ∨ f.reserved ≠ 0 ∨ 32 < f.target ∨ (s.mail.ops.any fun o => o.origin == 0 && o.tag == f.tag) = true) :=
  ⟨rung, 0, readFrame (zeros 256), by decide, by decide, by decide, by decide⟩

theorem meets_MailboxTakesAFrame_4 : ∃ (s : State) (n : Nat) (r : Reply), (cUp s = true) ∧ (n < 4) ∧ (s.mail.outFull.getLsbD n = false) ∧ ((s.mail.replies.filter fun r => r.origin != 0 && r.prio == n) = []) ∧ (nextReply s n = some r) :=
  ⟨withReply, 1, mkReply { origin := 0, prio := 1, tag := 77, target := 0 } 0x0704 0 [1, 2], by decide, by decide, by decide, by decide, by decide⟩

theorem meets_MailboxTakesAFrame_6 : ∃ (s : State) (a : Arb), (s.mail.arb = [a]) ∧ (a.held = true) ∧ (a.closed = none) ∧ (windowOver s a = false) :=
  ⟨{ ready with mail := { ready.mail with arb := [arbA] } }, arbA, by decide, by decide, by decide, by decide⟩

theorem meets_MailboxTakesAFrame_7 : ∃ (s : State) (a : Arb), (s.mail.arb = [a]) ∧ (a.held = true) ∧ (a.closed = none) ∧ (windowOver s a = true) :=
  ⟨{ ready with now := 10 * msT, mail := { ready.mail with arb := [arbA] } }, arbA, by decide, by decide, by decide, by decide⟩

theorem meets_MailboxTakesAFrame_8 : ∃ (s : State) (a : Arb) (b : Arb), (s.mail.arb = [a, b]) ∧ (a.held = true) ∧ (b.held = true) ∧ (a.closed = none) ∧ (b.closed = none) ∧ (windowOver s a = true) ∧ (windowOver s b = true) ∧ (losesTo s a b = true) ∧ (losesTo s b a = false) :=
  ⟨{ ready with now := 11 * msT, mail := { ready.mail with arb := [arbA, arbB] } }, arbA, arbB, by decide, by decide, by decide, by decide, by decide, by decide, by decide, by decide, by decide⟩

theorem meets_WatchdogAnswers_1 : ∃ (s : State), (portReady s = true) ∧ (s.wd.armed = true) ∧ (wdOpens s ≤ wdElapsed s) ∧ (wdElapsed s ≤ wdCloses s) :=
  ⟨wdOpen, by decide, by decide, by decide, by decide⟩

theorem meets_WatchdogAnswers_2 : ∃ (s : State) (k : Nat), (portReady s = true) ∧ (s.wd.armed = true) ∧ (wdOpens s ≤ wdElapsed s) ∧ (wdElapsed s ≤ wdCloses s) ∧ (k < 2 ^ 32) ∧ (k ≠ wdToken s.wd) :=
  ⟨wdOpen, 0, by decide, by decide, by decide, by decide, by decide, by decide⟩

theorem meets_WatchdogAnswers_3 : ∃ (s : State), (portReady s = true) ∧ (s.wd.armed = true) ∧ (wdElapsed s < wdOpens s) :=
  ⟨wdEarly, by decide, by decide, by decide⟩

theorem meets_WatchdogAnswers_4 : ∃ (s : State), (portReady s = true) ∧ (s.wd.armed = false) :=
  ⟨ready, by decide, by decide⟩

theorem meets_WatchdogAnswers_5 : ∃ (s : State), (cUp s = true) ∧ (s.wd.armed = true) ∧ (wdCloses s ≤ wdElapsed s) :=
  ⟨wdLate, by decide, by decide, by decide⟩

theorem meets_ResetKey_1 : ∃ (s : State), (portReady s = true) :=
  ⟨ready, by decide⟩

theorem meets_ResetKey_2 : ∃ (s : State) (k : Tick), (cUp s = true) ∧ (s.chain.isHead = true) ∧ (s.port.swrstAt = some k) ∧ (s.now ≤ k + msT) :=
  ⟨keyed, 0, by decide, by decide, by decide, by decide⟩

theorem meets_ResetKey_3 : ∃ (s : State) (k : Tick), (cUp s = true) ∧ (s.chain.isHead = true) ∧ (s.port.swrstAt = some k) ∧ (s.now ≤ k + msT) :=
  ⟨keyed, 0, by decide, by decide, by decide, by decide⟩

theorem meets_ResetKey_4 : ∃ (s : State) (v : Nat), (cUp s = true) ∧ (s.chain.isHead = true) ∧ (s.port.swrstAt = none) ∧ (v < 2 ^ 32) ∧ (v ≠ 0xC1A9) :=
  ⟨ready, 0x3E56, by decide, by decide, by decide, by decide, by decide⟩

theorem meets_ResetKey_5 : ∃ (s : State) (k : Tick), (cUp s = true) ∧ (s.chain.isHead = true) ∧ (s.port.swrstAt = some k) :=
  ⟨keyed, 0, by decide, by decide, by decide⟩

theorem meets_ResetKey_6 : ∃ (s : State) (k : Tick) (v : Nat), (cUp s = true) ∧ (s.chain.isHead = true) ∧ (s.port.swrstAt = some k) ∧ (v < 2 ^ 32) ∧ (v ≠ 0xC1A9) ∧ (v ≠ 0x3E56 ∨ k + msT < s.now) :=
  ⟨keyed, 0, 7, by decide, by decide, by decide, by decide, by decide, by decide⟩

theorem meets_ResetPin_1 : ∃ (s : State), (s.port.rstnLow = false) ∧ (s.port.rstnIgn = false) :=
  ⟨ready, by decide, by decide⟩

theorem meets_ResetPin_2 : ∃ (s : State), (s.port.rstnLow = false) ∧ (s.port.rstnIgn = true) :=
  ⟨{ ready with port := { ready.port with rstnIgn := true } }, by decide, by decide⟩

theorem meets_ResetPin_3 : ∃ (s : State), (s.port.rstnLow = true) :=
  ⟨{ ready with port := { ready.port with rstnLow := true } }, by decide⟩

theorem meets_ResetPin_4 : ∃ (s : State), (s.port.inReset = true) ∧ (s.port.rstnLow = true) ∧ (s.port.rstnEdge + 200 * msT ≤ s.now) :=
  ⟨{ ready with now := 20000000, port := { ready.port with inReset := true, rstnLow := true } }, by decide, by decide, by decide⟩

theorem meets_ResetPin_5 : ∃ (s : State), (s.port.rstnIgn = true) ∧ (s.port.rstnLow = false) ∧ (s.port.rstnEdge + 20 * msT ≤ s.now) :=
  ⟨{ ready with now := 2000000, port := { ready.port with rstnIgn := true } }, by decide, by decide, by decide⟩

theorem meets_PartStarts_1 : ∃ (s : State) (b : BootFindings), (cUp s = true) ∧ (s.sup.keeper = false) ∧ (s.sup.recovery = false) ∧ (s.nv.boot.pending = 0) ∧ ((s.aon.recoveryFlag && b.bootrec) = false) ∧ (nth b.keeperGood 0 true = true) ∧ (nth b.keeperGood 1 true = true) ∧ (nth b.studioGood 0 true = true) ∧ (nth b.studioGood 1 true = true) ∧ (s.aon.carried = []) ∧ ((∀ d ∈ s.segs, d.aonRecs = [])) ∧ (b.bootSectorGood = []) :=
  ⟨asleepC, goodBoot, by refine ⟨by decide, by decide, by decide, by decide, by decide, by decide, by decide, by decide, by decide, by decide, by decide, by decide⟩⟩

theorem meets_PartStarts_2 : ∃ (s : State) (b : BootFindings), (cUp s = true) ∧ (s.sup.keeper = false) ∧ (s.sup.recovery = false) ∧ (s.nv.boot.pending = 0) ∧ (nth b.keeperGood 0 true = false) ∧ (nth b.keeperGood 1 true = false) :=
  ⟨asleepC, { goodBoot with keeperGood := [false, false] }, by decide, by decide, by decide, by decide, by decide, by decide⟩

theorem meets_PartStarts_3 : ∃ (s : State), (cUp s = true) ∧ (s.sup.keeper = true) ∧ (s.sup.ready = false) ∧ (s.sup.halted = false) ∧ (s.sup.fatal = false) ∧ (s.sup.recovery = false) :=
  ⟨{ ready with sup := { ready.sup with ready := false } }, by decide, by decide, by decide, by decide, by decide, by decide⟩

theorem meets_PartStarts_4 : ∃ (s : State) (h : Hdr) (k : Nat) (n : Nat), (served s h 0x0C05) ∧ (s.sup.recovery = true) ∧ (n ≠ 0 ∨ k ≠ 0) :=
  ⟨tadpole, h2, 0, 1, by decide, by decide, by decide⟩

theorem meets_PartStarts_5 : ∃ (s : State) (h : Hdr), (served s h 0x0C05) ∧ (s.sup.recovery = true) ∧ (s.nv.boot.verified % 4 = 0) :=
  ⟨tadpole, h2, by decide, by decide, by decide⟩

theorem meets_PartStarts_6 : ∃ (s : State) (h : Hdr), (served s h 0x0C05) ∧ (canOpen s h) ∧ (s.sup.recovery = true) ∧ (s.nv.boot.verified % 4 ≠ 0) :=
  ⟨{ tadpole with nv := verified2.nv }, h2, by exact ⟨by decide, by decide, by decide, by decide⟩⟩

theorem meets_PartStarts_7 : ∃ (s : State) (h : Hdr) (p : Proof), (served s h 0x0C08) ∧ (proofGood s h 0x0C08 (zeros 4) p = false) :=
  ⟨ready, h3, { session := 0, count := 1, mac := [] }, by decide, by decide⟩

theorem meets_PartStarts_8 : ∃ (s : State) (h : Hdr) (p : Proof), (served s h 0x0C08) ∧ (proofGood s h 0x0C08 (zeros 4) p = true) ∧ (s.aon.bootrec = false) :=
  ⟨inSafety, h3, (goodProof3 0x0C08 (zeros 4)), by exact ⟨by decide, goodProof3_good _ _, by decide⟩⟩

theorem meets_PartStarts_9 : ∃ (s : State) (h : Hdr) (p : Proof), (served s h 0x0C08) ∧ (proofGood s h 0x0C08 (zeros 4) p = true) ∧ (s.aon.bootrec = true) :=
  ⟨{ inSafety with aon := { inSafety.aon with bootrec := true } }, h3, (goodProof3 0x0C08 (zeros 4)), by exact ⟨by decide, goodProof3_good _ _, by decide⟩⟩

theorem meets_PartStarts_10 : ∃ (s : State) (b : Bool), (unconfirmed s = false ∨ b = false ∨ s.sup.ready = false) :=
  ⟨ready, true, by decide⟩

theorem meets_PartStarts_11 : ∃ (s : State), (unconfirmed s = true) ∧ (s.sup.ready = true) :=
  ⟨trial2, by decide, by decide⟩

theorem meets_PartStarts_12 : ∃ (s : State), (unconfirmed s = false ∨ (s.aon.confirmEnd.any fun k => decide (k ≤ s.now)) = false) :=
  ⟨ready, by decide⟩

theorem meets_PartStarts_13 : ∃ (s : State) (k : Tick), (unconfirmed s = true) ∧ (s.aon.confirmEnd = some k) ∧ (k ≤ s.now) :=
  ⟨trial2, 0, by decide, by decide, by decide⟩

theorem meets_PartStarts_14 : ∃ (s : State) (k : Tick), (unconfirmed s = true) ∧ (s.aon.confirmEnd = some k) ∧ (k ≤ s.now) ∧ (partLevel s.nv.boot.pending = false) ∧ (3 ≤ s.nv.boot.bootCount) :=
  ⟨{ trial2 with nv := { trial2.nv with boot := { trial2.nv.boot with bootCount := 3 } } }, 0, by decide, by decide, by decide, by decide, by decide⟩

theorem meets_PowerSettings_1 : ∃ (s : State) (h : Hdr), (served s h 0x0101) :=
  ⟨ready, h1, by decide⟩

theorem meets_PowerSettings_2 : ∃ (s : State) (h : Hdr), (served s h 0x0102) :=
  ⟨ready, h1, by decide⟩

theorem meets_PowerSettings_3 : ∃ (s : State) (h : Hdr) (w : Nat), (served s h 0x0104) ∧ (w = 2 ∨ w = 3) :=
  ⟨ready, h1, 3, by decide, by decide⟩

theorem meets_PowerSettings_4 : ∃ (s : State) (h : Hdr) (p : Nat) (o : Nat) (d : Nat), (served s h 0x0105) ∧ (100 ≤ p) ∧ (p ≤ 60000) ∧ (1 ≤ o) ∧ (o ≤ 4) ∧ (8 ≤ d) ∧ (d ≤ 256) :=
  ⟨ready, h1, 60000, 4, 256, by decide, by decide, by decide, by decide, by decide, by decide, by decide⟩

theorem meets_PowerSettings_5 : ∃ (s : State) (h : Hdr), (served s h 0x0106) :=
  ⟨ready, h1, by decide⟩

theorem meets_PowerSettings_6 : ∃ (s : State) (h : Hdr), (served s h 0x0107) :=
  ⟨ready, h1, by decide⟩

theorem meets_PowerSettings_7 : ∃ (s : State) (h : Hdr) (m : Nat), (served s h 0x0108) ∧ (m ≤ 1) :=
  ⟨ready, h1, 1, by decide, by decide⟩

theorem meets_PowerSettings_8 : ∃ (s : State) (h : Hdr) (c : Nat), (served s h 0x010A) ∧ (c ≤ 1) :=
  ⟨ready, h1, 1, by decide, by decide⟩

theorem meets_PowerMoves_1 : ∃ (s : State) (h : Hdr) (n : Nat) (sc : Nat), (served s h 0x0103) ∧ (canOpen s h) ∧ (stateOf n = some s.power.state) ∧ (s.power.state ≠ .ship) ∧ (s.power.shutdown = none) ∧ (sc ≤ 1) :=
  ⟨ready, h1, 3, 1, by decide, by decide, by decide, by decide, by decide, by decide⟩

theorem meets_PowerMoves_2 : ∃ (s : State) (h : Hdr) (n : Nat) (x : PState), (served s h 0x0103) ∧ (canOpen s h) ∧ (stateOf n = some x) ∧ (x ≠ s.power.state) ∧ (x.dark = false) ∧ (s.power.shutdown = none) ∧ (s.power.chainMove = none) ∧ (s.life.degraded = 0) :=
  ⟨ready, h1, 2, .monitor, by decide, by decide, by decide, by decide, by decide, by decide, by decide, by decide⟩

theorem meets_PowerMoves_3 : ∃ (s : State) (h : Hdr), (served s h 0x0103) ∧ (canOpen s h) ∧ (s.power.state ≠ .sleep) ∧ (s.nv.settings.wakeMask &&& 0x3C ≠ 0) ∧ (s.power.shutdown = none) ∧ (s.power.chainMove = none) ∧ (s.life.degraded = 0) :=
  ⟨ready, h1, by decide, by decide, by decide, by decide, by decide, by decide, by decide⟩

theorem meets_PowerMoves_4 : ∃ (s : State) (h : Hdr) (n : Nat) (sc : Nat), (served s h 0x0103) ∧ (4 < n) ∧ (sc ≤ 1) :=
  ⟨ready, h1, 5, 0, by decide, by decide, by decide⟩

theorem meets_PowerMoves_5 : ∃ (s : State) (h : Hdr), (served s h 0x0103) ∧ (s.power.state ≠ .sleep) ∧ (s.nv.settings.wakeMask &&& 0x3C = 0) ∧ (s.power.shutdown = none) ∧ (s.power.chainMove = none) ∧ (s.life.degraded = 0) :=
  ⟨noWake, h1, by decide, by decide, by decide, by decide, by decide, by decide⟩

theorem meets_PowerMoves_6 : ∃ (s : State) (h : Hdr) (sc : Nat), (served s h 0x0103) ∧ (sc ≤ 1) :=
  ⟨ready, h1, 1, by decide, by decide⟩

theorem meets_PowerMoves_7 : ∃ (s : State) (env : List LbistEnv) (x : Shutdown) (u : State), (s.power.shutdown = some x) ∧ (sweepsDone s = true) ∧ ((s.segs.any (·.lbist)) = false) ∧ (u = (s.segs.map SegDie.code ++ [0]).foldl (shutdownLbist env) (shutdownSteps s x)) ∧ ((u.segs.any (·.lbist)) = false) :=
  ⟨shutting, [], { hdr := none, target := .sleep }, (shutting.segs.map SegDie.code ++ [0]).foldl (shutdownLbist []) (shutdownSteps shutting { hdr := none, target := .sleep }), by decide, by decide, by decide, by decide, by decide⟩

theorem meets_PowerMoves_8 : ∃ (s : State) (x : Shutdown) (quiet : List Nat), (s.power.shutdown = some x) ∧ ((s.segs.any (·.lbist)) = true) ∧ ((quiet.filter fun c => (s.die? c).isSome) = []) :=
  ⟨inLbist, { hdr := none, target := .sleep }, [], by decide, by decide, by decide⟩

theorem meets_PowerMoves_9 : ∃ (s : State) (k : Nat), (isDark s = true) ∧ (s.aon.brownOut = false) ∧ (s.aon.cStopped = false) ∧ (wakeFires s k = true) ∧ (0 < k) :=
  ⟨sleeping, 3, by decide, by decide, by decide, by decide, by decide⟩

theorem meets_SupplyAndClockEvents_1 : ∃ (s : State) (v : Nat), (cUp s = true) ∧ (v < 6000) :=
  ⟨ready, 5999, by decide, by decide⟩

theorem meets_SupplyAndClockEvents_2 : ∃ (s : State) (v : Nat), (isDark s = false) ∧ (v < 5000) :=
  ⟨ready, 4999, by decide, by decide⟩

theorem meets_SupplyAndClockEvents_3 : ∃ (s : State) (v : Nat), (5500 < v) ∧ (s.aon.brownOut = true) :=
  ⟨browned, 5501, by decide, by decide⟩

theorem meets_SupplyAndClockEvents_4 : ∃ (s : State), (cUp s = true) ∧ (s.power.pllLocked = true) :=
  ⟨withPll, by decide, by decide⟩

theorem meets_SupplyAndClockEvents_5 : ∃ (s : State), (cUp s = true) ∧ (s.chain.timebaseOp = none) ∧ (s.chain.refLost = false) :=
  ⟨ready, by decide, by decide, by decide⟩

theorem meets_SupplyAndClockEvents_6 : ∃ (s : State), (cUp s = true) ∧ (s.power.crystal32 = true) :=
  ⟨{ ready with power := { ready.power with crystal32 := true } }, by decide, by decide⟩

theorem meets_SupplyAndClockEvents_7 : ∃ (s : State) (h : Hdr), (served s h 0x0109) ∧ (canOpen s h) ∧ (s.power.scrub = none) :=
  ⟨ready, h1, by decide, by decide, by decide⟩

theorem meets_SupplyAndClockEvents_8 : ∃ (s : State) (h : Hdr), (served s h 0x0109) ∧ (s.power.scrub.isSome = true) :=
  ⟨scrubbing, h1, by decide, by decide⟩

theorem meets_SupplyAndClockEvents_9 : ∃ (s : State) (x : Scrub), (cUp s = true) ∧ (s.power.scrub = some x) ∧ (s.aon.scrubReturn.isSome = true ∨ x.stepAt + 10000 * msT ≤ s.now) ∧ (x.done + 4 < 1024) :=
  ⟨scrubLater, { hdr := none, done := 0, rewritten := 0, failed := 0, stepAt := 0 }, by decide, by decide, by decide, by decide⟩

theorem meets_SupplyAndClockEvents_10 : ∃ (s : State) (x : Scrub), (cUp s = true) ∧ (s.power.scrub = some x) ∧ (s.aon.scrubReturn.isSome = true ∨ x.stepAt + 10000 * msT ≤ s.now) ∧ (1024 ≤ x.done + 4) :=
  ⟨scrubLast, { hdr := none, done := 1020, rewritten := 0, failed := 0, stepAt := 0 }, by decide, by decide, by decide, by decide⟩

theorem meets_SupplyAndClockEvents_11 : ∃ (s : State), (s.nv.settings.scrubMode = 0) ∧ (s.power.scrub = none) ∧ (cUp s = true) ∧ (s.sup.keeper = true) ∧ (730 * dayT ≤ scrubAge s) :=
  ⟨{ ready with now := 730 * dayT }, by decide, by decide, by decide, by decide, by decide⟩

theorem meets_SupplyAndClockEvents_12 : ∃ (s : State), (s.power.state = .monitor) ∧ (cUp s = true) ∧ (s.sweep.burst = false) ∧ (s.nv.settings.monPeriod ≠ 0) ∧ (s.packTime % (s.nv.settings.monPeriod * msT) = 0) :=
  ⟨monitoring, by decide, by decide, by decide, by decide, by decide⟩

theorem meets_SupplyAndClockEvents_13 : ∃ (s : State), (s.power.state = .monitor) :=
  ⟨monitoring, by decide⟩

theorem meets_SupplyAndClockEvents_14 : ∃ (s : State) (k : Nat) (d : SegDie), (s.die? k = some d) ∧ (s.power.state = .monitor) ∧ (d.checkAt + 10 * msT ≤ s.now) :=
  ⟨{ monitoring with now := 10 * msT }, 2, SegDie.start 2 24 Trim.none [] 0, by exact ⟨by decide, by decide, by decide⟩⟩

theorem meets_SupplyAndClockEvents_15 : ∃ (s : State), (s.power.state = .monitor) ∧ (s.power.studioAsleep = false) ∧ (s.sup.ready = true) ∧ (s.mail.doorbell = 0) ∧ (s.mail.waiting = []) ∧ (s.mail.replies = []) ∧ (s.power.lastReply + 50 * msT ≤ s.now) :=
  ⟨{ monitoring with now := 5000000 }, by decide, by decide, by decide, by decide, by decide, by decide, by decide⟩

theorem meets_TemperatureEvents_1 : ∃ (s : State) (x : Int) (u : State), (s.port.inReset = false) ∧ (isDark s = false) ∧ (roundDue s.now (roundPeriod s) s.power.therm = true) ∧ (u = throttle (thermMessages { s with power := { s.power with therm := riseTaken (thermRead s.now s.nv.settings.levels s.nv.settings.rise x s.power.therm) } } 0 13 s.power.therm (thermRead s.now s.nv.settings.levels s.nv.settings.rise x s.power.therm))) ∧ (u.power.therm.eff < 14000) :=
  ⟨ready, 13999, throttle (thermMessages { ready with power := { ready.power with therm := riseTaken (thermRead ready.now ready.nv.settings.levels ready.nv.settings.rise 13999 ready.power.therm) } } 0 13 ready.power.therm (thermRead ready.now ready.nv.settings.levels ready.nv.settings.rise 13999 ready.power.therm)), by decide, by decide, by decide, by decide, by decide⟩

theorem meets_TemperatureEvents_2 : ∃ (s : State) (x : Int) (u : State), (s.port.inReset = false) ∧ (isDark s = false) ∧ (roundDue s.now (roundPeriod s) s.power.therm = true) ∧ (u = throttle (thermMessages { s with power := { s.power with therm := riseTaken (thermRead s.now s.nv.settings.levels s.nv.settings.rise x s.power.therm) } } 0 13 s.power.therm (thermRead s.now s.nv.settings.levels s.nv.settings.rise x s.power.therm))) ∧ (14000 ≤ u.power.therm.eff) :=
  ⟨ready, 14000, throttle (thermMessages { ready with power := { ready.power with therm := riseTaken (thermRead ready.now ready.nv.settings.levels ready.nv.settings.rise 14000 ready.power.therm) } } 0 13 ready.power.therm (thermRead ready.now ready.nv.settings.levels ready.nv.settings.rise 14000 ready.power.therm)), by decide, by decide, by decide, by decide, by decide⟩

theorem meets_TemperatureEvents_3 : ∃ (s : State) (k : Nat) (d : SegDie), (s.die? k = some d) ∧ (0 < k) ∧ (d.unpowered = false) ∧ (cUp s = true) ∧ (d.lbist = false) ∧ (roundDue s.now (roundPeriod s) d.therm = true) :=
  ⟨ready, 2, SegDie.start 2 24 Trim.none [] 0, by exact ⟨by decide, by decide, by decide, by decide, by decide, by decide⟩⟩

theorem meets_TemperatureEvents_4 : ∃ (s : State) (n : Nat) (up : Bool), (cUp s = true) ∧ (crossDue s.now s.power.therm n up = true) :=
  ⟨warm, 4, true, by decide, by decide⟩

theorem meets_TemperatureEvents_5 : ∃ (s : State) (k : Nat) (n : Nat) (up : Bool) (d : SegDie), (s.die? k = some d) ∧ (0 < k) ∧ (cUp s = true) ∧ (crossDue s.now d.therm n up = true) :=
  ⟨warm, 2, 1, true, warmDie, by exact ⟨by decide, by decide, by decide, by decide⟩⟩

theorem meets_TemperatureEvents_6 : ∃ (s : State) (k : Nat) (d : SegDie), (s.die? k = some d) ∧ (0 < k) ∧ (d.stopped = true ∨ d.cutOff = true) ∧ (cooled s.now d.therm = true) ∧ (cUp s = true) :=
  ⟨cool, 2, coolDie, by exact ⟨by decide, by decide, by decide, by decide, by decide⟩⟩

theorem meets_TemperatureEvents_7 : ∃ (s : State), (s.aon.cStopped = true) ∧ (cooled s.now s.power.therm = true) :=
  ⟨hotC, by decide, by decide⟩

theorem meets_TemperatureEvents_8 : ∃ (s : State) (k : Nat) (d : SegDie), (s.die? k = some d) ∧ (d.unpowered = false) :=
  ⟨ready, 7, SegDie.start 7 24 Trim.none [] 0, by exact ⟨by decide, by decide⟩⟩

theorem meets_TemperatureEvents_9 : ∃ (s : State) (k : Nat) (d : SegDie), (s.die? k = some d) ∧ (d.unpowered = true) ∧ (d.trimBad = false) :=
  ⟨{ ready with segs := [{ SegDie.start 7 24 Trim.none [] 0 with unpowered := true }] }, 7, { SegDie.start 7 24 Trim.none [] 0 with unpowered := true }, by exact ⟨by decide, by decide, by decide⟩⟩

theorem meets_TemperatureEvents_10 : ∃ (s : State), (isDark s = false) :=
  ⟨ready, by decide⟩

theorem meets_TemperatureEvents_11 : ∃ (s : State) (k : Nat) (d : SegDie), (s.die? k = some d) ∧ (1 < k) ∧ (d.trimBad = false) :=
  ⟨ready, 2, SegDie.start 2 24 Trim.none [] 0, by exact ⟨by decide, by decide, by decide⟩⟩

theorem meets_TemperatureEvents_12 : ∃ (s : State), (s.part.hasM = true) :=
  ⟨ready, by decide⟩

theorem meets_TemperatureEvents_13 : ∃ (s : State) (k : Nat) (d : SegDie), (s.die? k = some d) ∧ (s.power.state = .sleep) ∧ (d.unpowered = false) ∧ (d.checkAt + s.nv.settings.sleepChk * secT ≤ s.now) ∧ (d.sleep.cfg = none) :=
  ⟨{ sleeping with now := secT }, 2, SegDie.start 2 24 Trim.none [] 0, by exact ⟨by decide, by decide, by decide, by decide, by decide⟩⟩

theorem meets_ModeSwitches_1 : ∃ (s : State) (h : Hdr) (m : Nat) (es : List SeqEntry), (served s h 0x0201) ∧ (canOpen s h) ∧ (noRival s h (0x0201 * 256 + m)) ∧ (s.sweep.running = true) ∧ (sweepState s = true) ∧ (1 ≤ es.length) ∧ (es.length ≤ 16) ∧ (maskUnfitted s m = false) ∧ (((s.segs.map fun d => if bit m d.code then withSeq d es else d).any fun d => bit m d.code && !slowFits d) = false) ∧ (tooLong s (s.segs.map fun d => if bit m d.code then withSeq d es else d) s.sweep.trig.source s.sweep.trig.period = false) :=
  ⟨sweeping, h1, 0xFF, [entryA8], by decide, by decide, by decide, by decide, by decide, by decide, by decide, by decide, by decide, by decide⟩

theorem meets_ModeSwitches_2 : ∃ (s : State) (h : Hdr) (a : Nat) (e : Nat) (w : Nat) (d : Nat) (p : Nat), (served s h 0x0203) ∧ (canOpen s h) ∧ (noRival s h (0x0203)) ∧ (s.sweep.running = true) ∧ (sweepState s = true) ∧ (a ≤ 4) ∧ (e ≤ 1) ∧ (w ≤ 1000) ∧ (d ≤ 100000) ∧ (2500 ≤ p) ∧ (p ≤ 1000000000) ∧ (tooLong s s.segs a p = false) ∧ (takeRateBad a p s.slates.takedec = false) :=
  ⟨sweeping, h1, 3, 1, 1000, 100000, 1000000, by decide, by decide, by decide, by decide, by decide, by decide, by decide, by decide, by decide, by decide, by decide, by decide, by decide⟩

theorem meets_ModeSwitches_3 : ∃ (s : State) (h : Hdr) (m : Nat), (served s h 0x0205) ∧ (canOpen s h) ∧ (noRival s h (0x0205)) ∧ (s.sweep.running = true) ∧ (sweepState s = true) ∧ (m ≤ 1) :=
  ⟨sweeping, h1, 1, by decide, by decide, by decide, by decide, by decide, by decide⟩

theorem meets_ModeSwitches_4 : ∃ (s : State) (h : Hdr) (k : Nat) (m : Nat), (served s h 0x0206) ∧ (canOpen s h) ∧ (noRival s h (0x0206 * 256 + k)) ∧ (s.sweep.running = true) ∧ (sweepState s = true) ∧ (m ≤ 1) ∧ (maskUnfitted s k = false) ∧ (m = 1 → (s.segs.any fun d => bit k d.code && !tapsCalibrated s d) = false) :=
  ⟨sweeping, h1, 0xFC, 0, by decide, by decide, by decide, by decide, by decide, by decide, by decide, by decide⟩

theorem meets_ModeSwitches_5 : ∃ (s : State) (h : Hdr) (n : Nat) (fs : List FilterSet), (served s h 0x0301) ∧ (canOpen s h) ∧ (noRival s h (0x0301)) ∧ (s.sweep.running = true) ∧ (sweepState s = true) ∧ (1 ≤ n) ∧ (n ≤ 1024) ∧ (fs.length = 4) ∧ (∀ x ∈ fs, 1 ≤ x.order ∧ x.order ≤ 4 ∧ 1 ≤ x.d ∧ x.d ≤ 1024) ∧ (takeRateBad s.sweep.trig.source s.sweep.trig.period n = false) :=
  ⟨sweeping, h1, 1024, List.replicate 4 { order := 4, d := 1024 }, by decide, by decide, by decide, by decide, by decide, by decide, by decide, by decide, by decide, by decide⟩

theorem meets_ModeSwitches_6 : ∃ (s : State) (h : Hdr) (m : Nat) (i : Nat) (k : Nat) (x : Nat) (r : Nat), (served s h 0x0303) ∧ (canOpen s h) ∧ (noRival s h (0x0303)) ∧ (s.sweep.running = true) ∧ (sweepState s = true) ∧ (m ≤ 1) ∧ (i ≤ 2) ∧ (r ≤ 1) ∧ (24 ≤ x) ∧ (x ≤ 31) ∧ (i = 1 → (s.die? k).isSome = true ∧ currentCal s k x = true) :=
  ⟨sweeping, h1, 1, 2, 7, 31, 1, by decide, by decide, by decide, by decide, by decide, by decide, by decide, by decide, by decide, by decide, by decide⟩

theorem meets_ModeSwitches_7 : ∃ (s : State) (h : Hdr) (m : Nat) (k : Nat), (served s h 0x0306) ∧ (canOpen s h) ∧ (noRival s h (0x0306)) ∧ (s.sweep.running = true) ∧ (sweepState s = true) ∧ (m ≤ 1) ∧ (m = 1 → (s.die? k).isSome = true) :=
  ⟨sweeping, h1, 1, 7, by decide, by decide, by decide, by decide, by decide, by decide, by decide⟩

theorem meets_ModeSwitches_8 : ∃ (s : State) (h : Hdr) (m : Nat) (t : Nat) (v : Nat), (served s h 0x0307) ∧ (canOpen s h) ∧ (noRival s h (0x0307)) ∧ (s.sweep.running = true) ∧ (sweepState s = true) ∧ (m ≤ 1) ∧ (10 ≤ t) ∧ (t ≤ 200) ∧ (1 ≤ v) ∧ (v ≤ 1000) :=
  ⟨sweeping, h1, 1, 200, 1000, by decide, by decide, by decide, by decide, by decide, by decide, by decide, by decide, by decide, by decide⟩

theorem meets_ModeSwitches_9 : ∃ (s : State) (h : Hdr) (g : Nat) (i : Nat) (b : Nat), (served s h 0x0502) ∧ (canOpen s h) ∧ (noRival s h (0x0502)) ∧ (s.sweep.running = true) ∧ (s.power.state = .run) ∧ (g ≤ 3) ∧ (50 ≤ i) ∧ (i ≤ 3000) ∧ (1000 ≤ b) ∧ (b ≤ 100000) :=
  ⟨sweeping, h1, 3, 3000, 10000, by decide, by decide, by decide, by decide, by decide, by decide, by decide, by decide, by decide, by decide⟩

theorem meets_ModeSwitches_10 : ∃ (s : State) (h : Hdr) (m : Nat), (served s h 0x0505) ∧ (canOpen s h) ∧ (noRival s h (0x0505)) ∧ (s.sweep.running = true) ∧ (s.power.state = .run) ∧ (m ≤ 1) :=
  ⟨sweeping, h1, 1, by decide, by decide, by decide, by decide, by decide, by decide⟩

theorem meets_ModeSwitches_11 : ∃ (s : State) (h : Hdr) (m : Nat) (es : List DerateEntry), (served s h 0x0508) ∧ (canOpen s h) ∧ (noRival s h (0x0508)) ∧ (s.sweep.running = true) ∧ (s.power.state = .run) ∧ (m ≤ 1) ∧ (1 ≤ es.length) ∧ (es.length ≤ 6) ∧ (∀ e ∈ es, e.therm ≠ 0 → e.knee + 500 ≤ e.stop) ∧ ((es.any fun e => (s.die? e.die).isNone) = false) ∧ ((es.any fun e => decide (e.therm ≠ 0) && !tempCal s e.die e.therm) = false) :=
  ⟨sweeping, h1, 1, [{ die := 7, therm := 0, cap := 3000, knee := 10500, stop := 13000 }], by decide, by decide, by decide, by decide, by decide, by decide, by decide, by decide, by decide, by decide, by decide⟩

theorem meets_ModeSwitches_12 : ∃ (s : State) (h : Hdr) (m : Nat), (served s h 0x0606) ∧ (canOpen s h) ∧ (noRival s h (0x0606)) ∧ (s.sweep.running = true) ∧ (s.power.state = .run) ∧ (m ≤ 1) :=
  ⟨sweeping, h1, 1, by decide, by decide, by decide, by decide, by decide, by decide⟩

theorem meets_ModeSwitches_13 : ∃ (s : State) (h : Hdr) (m : Nat), (served s h 0x0B01) ∧ (canOpen s h) ∧ (noRival s h (0x0B01)) ∧ (s.sweep.running = true) ∧ (m ≤ 1) :=
  ⟨sweeping, h1, 1, by decide, by decide, by decide, by decide, by decide⟩

theorem meets_ModeSwitches_14 : ∃ (s : State) (h : Hdr) (m : Nat), (served s h 0x0A0C) ∧ (canOpen s h) ∧ (noRival s h (0x0A0C)) ∧ (s.sweep.running = true) ∧ (m ≤ 1) :=
  ⟨sweeping, h1, 1, by decide, by decide, by decide, by decide, by decide⟩

theorem meets_ModeSwitches_15 : ∃ (s : State) (h : Hdr) (m : Nat), (served s h 0x0205) ∧ (canOpen s h) ∧ (noRival s h 0x0205) ∧ (s.sweep.running = false) ∧ (sweepState s = true) ∧ (m ≤ 1) :=
  ⟨ready, h1, 1, by decide, by decide, by decide, by decide, by decide, by decide⟩

theorem meets_ModeSwitches_16 : ∃ (s : State) (w : Switch) (o : Op), (s.sweep.running = false) ∧ (s.sweep.burst = false) ∧ (s.mail.switches = [w]) ∧ (opOf s w.hdr = some o) ∧ (o.stop = false) :=
  ⟨switching, switchA, opA, by decide, by decide, by decide, by decide, by decide⟩

theorem meets_ModeSwitches_17 : ∃ (s : State) (w : Switch) (o : Op), (s.sweep.running = true) ∧ (s.mail.switches = [w]) ∧ (w.acceptedAt + 100 * usT ≤ s.sweep.boundaryAt) ∧ (opOf s w.hdr = some o) ∧ (o.stop = false) :=
  ⟨{ switching with now := 20000, sweep := { switching.sweep with running := true, boundaryAt := 10000 } }, switchA, opA, by decide, by decide, by decide, by decide, by decide⟩

theorem meets_ModeSwitches_18 : ∃ (s : State) (w : Switch), (s.sweep.running = true) ∧ (s.mail.switches = [w]) ∧ (s.sweep.boundaryAt < w.acceptedAt + 100 * usT) ∧ (s.cal.waiting = []) :=
  ⟨{ switching with sweep := { switching.sweep with running := true } }, switchA, by decide, by decide, by decide, by decide⟩

theorem meets_SweepCommands_1 : ∃ (s : State) (h : Hdr), (served s h 0x0207) ∧ (canOpen s h) ∧ (s.sweep.running = false) ∧ (s.sweep.startPending = none) :=
  ⟨ready, h1, by decide, by decide, by decide, by decide⟩

theorem meets_SweepCommands_2 : ∃ (s : State) (h : Hdr), (served s h 0x0207) ∧ (canOpen s h) ∧ (s.sweep.running = true) ∧ (s.sweep.startPending = none) :=
  ⟨sweeping, h1, by decide, by decide, by decide, by decide⟩

theorem meets_SweepCommands_3 : ∃ (s : State) (h : Hdr) (k : Nat), (served s h 0x0207) ∧ (canOpen s h) ∧ (k = 1) ∧ (sweepState s = true) ∧ (s.sweep.running = false) ∧ (s.sweep.startPending = none) :=
  ⟨ready, h1, 1, by decide, by decide, by decide, by decide, by decide, by decide⟩

theorem meets_SweepCommands_4 : ∃ (s : State) (h : Hdr) (l : List Nat), (served s h 0x0204) ∧ (∀ t ∈ l, s.packTime + 25000 ≤ t) ∧ ((l.foldl (fun q t => insertTime t q) (pendingTimes s)).length ≤ 32) :=
  ⟨ready, h1, [30000, 25000, 30000], by decide, by decide, by decide⟩

theorem meets_SweepCommands_5 : ∃ (s : State) (h : Hdr) (l : List Nat), (served s h 0x0204) ∧ (∀ t ∈ l, s.packTime + 25000 ≤ t) ∧ (32 < (l.foldl (fun q t => insertTime t q) (pendingTimes s)).length) :=
  ⟨ready, h1, (List.range 33).map (· + 25000), by decide, by decide, by decide⟩

theorem meets_SweepCommands_6 : ∃ (s : State) (h : Hdr) (l : List Nat), (served s h 0x0204) ∧ (∃ t ∈ l, t < s.packTime + 25000) :=
  ⟨ready, h1, [24999], by refine ⟨by decide, ⟨24999, by decide, by decide⟩⟩⟩

theorem meets_SweepCommands_7 : ∃ (s : State) (h : Hdr), (served s h 0x0204) :=
  ⟨ready, h1, by decide⟩

theorem meets_SweepCommands_8 : ∃ (s : State) (h : Hdr) (k : Nat) (d : SegDie), (served s h 0x0202) ∧ (s.die? k = some d) :=
  ⟨ready, h1, 7, SegDie.start 7 24 Trim.none [] 0, by exact ⟨by decide, by decide⟩⟩

theorem meets_SweepCommands_9 : ∃ (s : State) (h : Hdr) (k : Nat), (served s h 0x0202) ∧ (s.die? k = none) :=
  ⟨ready, h1, 1, by decide, by decide⟩

theorem meets_SweepCommands_10 : ∃ (s : State) (h : Hdr), (served s h 0x0208) :=
  ⟨ready, h1, by decide⟩

theorem meets_SweepCommands_11 : ∃ (s : State) (h : Hdr) (p : Nat), (served s h 0x0209) ∧ (1 ≤ p) ∧ (p ≤ 60) :=
  ⟨ready, h1, 60, by decide, by decide, by decide⟩

theorem meets_Clappers_1 : ∃ (s : State) (up : Bool), (cUp s = true) ∧ (s.sweep.trig.source = 1) ∧ (edgeSelected s up = true) ∧ (leadsClap s = false) ∧ ((s.sweep.edgeAt.any fun t => decide (s.now < t + 5)) = false) :=
  ⟨pinned, true, by decide, by decide, by decide, by decide, by decide⟩

theorem meets_Clappers_2 : ∃ (s : State) (q : Sweep) (k : Nat), (dueClapper s = some (k, q)) ∧ (sweepsNow { s with sweep := q } k = true) ∧ (q.startPending = none) ∧ (0 < q.claps) ∧ (k < q.lastClap + minPeriod { s with sweep := q }) :=
  ⟨clapTwice, { clapTwice.sweep with events := [], late := true, lead := 0 }, 100, by decide, by decide, by decide, by decide, by decide⟩

theorem meets_Clappers_3 : ∃ (s : State) (q : Sweep) (k : Nat), (dueClapper s = some (k, q)) ∧ (sweepsNow { s with sweep := q } k = true) ∧ (q.startPending = none) ∧ (q.claps = 0 ∨ q.lastClap + minPeriod { s with sweep := q } ≤ k) :=
  ⟨clapOnce, { clapOnce.sweep with events := [], late := true, lead := 0 }, 100, by decide, by decide, by decide, by decide⟩

theorem meets_Clappers_4 : ∃ (s : State), (s.sweep.inSweep = true) ∧ (takeDec s = 0 ∨ (s.sweep.sinceRestart + 1) % takeDec s ≠ 0) :=
  ⟨{ ready with sweep := { ready.sweep with inSweep := true } }, by decide, by decide⟩

theorem meets_Clappers_5 : ∃ (s : State) (u : State), (s.sweep.inSweep = true) ∧ (u = { s with sweep := { s.sweep with inSweep := false, sinceRestart := s.sweep.sinceRestart + 1 }, segs := upd s.segs (fun d => d.sweeps && !d.lbist) fun d => { d with sentAt := s.now } }) ∧ (takeDec s ≠ 0) ∧ ((s.sweep.sinceRestart + 1) % takeDec s = 0) :=
  ⟨atBoundary, { atBoundary with sweep := { atBoundary.sweep with inSweep := false, sinceRestart := atBoundary.sweep.sinceRestart + 1 }, segs := upd atBoundary.segs (fun d => d.sweeps && !d.lbist) fun d => { d with sentAt := atBoundary.now } }, by decide, by decide, by decide, by decide⟩

theorem meets_Clappers_6 : ∃ (s : State) (q : List Nat), (cUp s = true) ∧ (((pendingTimes s).filter fun t => !s.sweep.queueSent.contains t) = q) ∧ (q ≠ []) ∧ (s.sweep.trig.source ≠ 4) ∧ (s.chain.isHead = true) ∧ (1 < s.chain.count) :=
  ⟨{ ready with sweep := { ready.sweep with queue := [90000] }, chain := { ready.chain with count := 2 } }, [90000], by decide, by decide, by decide, by decide, by decide, by decide⟩

theorem meets_Clappers_7 : ∃ (s : State) (q : List Nat), (cUp s = true) ∧ (((pendingTimes s).filter fun t => !s.sweep.queueSent.contains t) = q) ∧ (q ≠ []) ∧ (s.sweep.trig.source = 4) ∧ (s.chain.isHead = false ∨ s.chain.count ≤ 1) :=
  ⟨{ ready with sweep := { ready.sweep with queue := [90000], trig := { ready.sweep.trig with source := 4 } } }, [90000], by decide, by decide, by decide, by decide, by decide⟩

theorem meets_Clappers_8 : ∃ (s : State), (s.sweep.trig.source = 1 ∨ s.sweep.trig.source = 2) ∧ (s.sweep.trig.watch ≠ 0) ∧ (s.sweep.silent = false) ∧ (cUp s = true) ∧ (s.sweep.lastEvent + s.sweep.trig.watch * msT ≤ s.now) :=
  ⟨{ pinned with now := msT, sweep := { pinned.sweep with trig := { pinned.sweep.trig with watch := 1 } } }, by decide, by decide, by decide, by decide, by decide⟩

theorem meets_ConverterEvents_1 : ∃ (s : State) (k : Nat) (j : Nat) (x : Nat) (ma : Int) (d : SegDie), (s.die? k = some d) ∧ (gatesDolly s d j x = true) ∧ (20 < ma) :=
  ⟨quietRun, 7, 1, 0, 21, dieTransfer, by exact ⟨by decide, by decide, by decide⟩⟩

theorem meets_ConverterEvents_2 : ∃ (s : State) (k : Nat) (j : Nat) (x : Nat) (ma : Int) (d : SegDie), (s.die? k = some d) ∧ (gatesDolly s d j x = true) ∧ (ma ≤ 20) :=
  ⟨quietRun, 7, 1, 0, 20, dieTransfer, by exact ⟨by decide, by decide, by decide⟩⟩

theorem meets_ConverterEvents_3 : ∃ (s : State) (k : Nat) (j : Nat) (x : Nat) (d : SegDie), (s.die? k = some d) ∧ (gatesDolly s d j x = false) :=
  ⟨ready, 7, 4, 23, SegDie.start 7 24 Trim.none [] 0, by exact ⟨by decide, by decide⟩⟩

theorem meets_ConverterEvents_4 : ∃ (s : State) (k : Nat) (x : Nat) (v : Int) (d : SegDie), (s.die? k = some d) ∧ (d.unpowered = false) ∧ (d.stopped = false) ∧ (cUp s = true) ∧ (nth d.refOk x false = true) ∧ (refInUse d x = true) ∧ (refWindow x v = false) :=
  ⟨urgAccepted, 7, 0, 2999949, dieS6ref, by exact ⟨by decide, by decide, by decide, by decide, by decide, by decide, by decide⟩⟩

theorem meets_ConverterEvents_5 : ∃ (s : State) (k : Nat) (v : Int) (d : SegDie), (s.die? k = some d) ∧ (d.unpowered = false) ∧ (d.stopped = false) ∧ (refWindow 0 v = true) :=
  ⟨urgNoRef, 7, 3000050, dieS6, by exact ⟨by decide, by decide, by decide, by decide⟩⟩

theorem meets_ConverterEvents_6 : ∃ (s : State) (k : Nat) (x : Nat) (v : Int) (t : Tick) (d : SegDie), (s.die? k = some d) ∧ (d.unpowered = false) ∧ (d.stopped = false) ∧ (0 < x) ∧ (refWindow x v = true) ∧ (nth d.refSince x none = some t) ∧ (t + 100 * usT ≤ s.now) :=
  ⟨refRising, 7, 2, 2850000, 0, dieRising, by exact ⟨by decide, by decide, by decide, by decide, by decide, by decide, by decide⟩⟩

theorem meets_ConverterEvents_7 : ∃ (s : State) (k : Nat) (x : Nat) (d : SegDie), (s.die? k = some d) ∧ (nth d.refOk x true = false) ∧ (refInUse d x = true) ∧ (d.unpowered = false) ∧ (d.stopped = false) ∧ (nth d.refAt x 0 + 10 * msT ≤ s.now) :=
  ⟨{ ready with now := 10 * msT }, 7, 0, SegDie.start 7 24 Trim.none [] 0, by exact ⟨by decide, by decide, by decide, by decide, by decide, by decide⟩⟩

theorem meets_ConverterEvents_8 : ∃ (s : State) (k : Nat) (d : SegDie), (s.die? k = some d) ∧ (canTest s d = true) ∧ (d.xcWait = true) :=
  ⟨{ ready with segs := [dieXcWait] }, 7, dieXcWait, by exact ⟨by decide, by decide, by decide⟩⟩

theorem meets_ConverterEvents_9 : ∃ (s : State) (k : Nat) (d : SegDie), (s.die? k = some d) ∧ (canTest s d = true) ∧ (d.xcWait = false) ∧ (testMark s d = true) ∧ (testFits s d = true) :=
  ⟨{ ready with now := secT }, 7, SegDie.start 7 24 Trim.none [] 0, by exact ⟨by decide, by decide, by decide, by decide, by decide⟩⟩

theorem meets_ConverterEvents_10 : ∃ (s : State) (k : Nat) (d : SegDie), (s.die? k = some d) ∧ (d.test.running = true) ∧ (d.test.xcheck = false) ∧ (d.xcWait = false) :=
  ⟨{ ready with segs := [testing] }, 7, testing, by exact ⟨by decide, by decide, by decide, by decide⟩⟩

theorem meets_ConverterEvents_11 : ∃ (s : State) (k : Nat) (d : SegDie), (s.die? k = some d) ∧ (d.test.running = true) ∧ (d.test.xcheck = false) ∧ (d.xcWait = false) :=
  ⟨{ ready with segs := [testHeld] }, 7, testHeld, by exact ⟨by decide, by decide, by decide, by decide⟩⟩

theorem meets_ConverterEvents_12 : ∃ (s : State) (k : Nat) (d : SegDie), (s.die? k = some d) ∧ (d.unpowered = false) ∧ (d.lbist = false) ∧ (d.sentAt + 250 * usT ≤ s.now) :=
  ⟨{ ready with now := 25000 }, 7, SegDie.start 7 24 Trim.none [] 0, by exact ⟨by decide, by decide, by decide, by decide⟩⟩

theorem meets_ConverterEvents_13 : ∃ (s : State) (k : Nat) (d : SegDie), (s.die? k = some d) ∧ (guardRuns s d = true) ∧ (lastDiag s d + 2000 ≤ s.packTime) ∧ (guardFits s d = true) :=
  ⟨{ ready with packTime := 5000 }, 7, SegDie.start 7 24 Trim.none [] 0, by exact ⟨by decide, by decide, by decide, by decide⟩⟩

theorem meets_SlateCommands_1 : ∃ (s : State) (h : Hdr), (served s h 0x0302) :=
  ⟨ready, h1, by decide⟩

theorem meets_SlateCommands_2 : ∃ (s : State) (h : Hdr) (f : Nat) (l : List Nat), (served s h 0x0304) ∧ (sweepState s = true) ∧ (1 ≤ l.length) ∧ (l.length ≤ 120) ∧ (∀ x ∈ l, 1 ≤ x ∧ x ≤ 65535) ∧ (rangeUnmapped s f l.length = false) :=
  ⟨ready, h1, 144, [65535], by decide, by decide, by decide, by decide, by decide, by decide⟩

theorem meets_SlateCommands_3 : ∃ (s : State) (h : Hdr) (f : Nat) (n : Nat), (served s h 0x0305) ∧ (1 ≤ n) ∧ (n ≤ 80) ∧ (rangeUnmapped s f n = false) :=
  ⟨ready, h1, 65, 80, by decide, by decide, by decide, by decide⟩

theorem meets_SlateCommands_4 : ∃ (s : State) (h : Hdr) (q : Nat) (v : Nat), (served s h 0x0308) ∧ (sweepState s = true) ∧ (v ≤ 1) ∧ ((s.slates.takes.any fun t => t.seq == q && awaitsVerdict t) = true) :=
  ⟨awaiting, h1, 9, 1, by decide, by decide, by decide, by decide⟩

theorem meets_SlateCommands_5 : ∃ (s : State) (h : Hdr) (q : Nat) (v : Nat), (served s h 0x0308) ∧ (sweepState s = true) ∧ (v ≤ 1) ∧ ((s.slates.takes.any fun t => t.seq == q && awaitsVerdict t) = false) ∧ (s.slates.contHost = true) :=
  ⟨{ awaiting with slates := { awaiting.slates with contHost := true } }, h1, 8, 0, by decide, by decide, by decide, by decide, by decide⟩

theorem meets_SlateCommands_6 : ∃ (s : State) (h : Hdr) (q : Nat) (v : Nat), (served s h 0x0308) ∧ (sweepState s = true) ∧ (v ≤ 1) ∧ ((s.slates.takes.any fun t => t.seq == q && awaitsVerdict t) = false) ∧ (s.slates.contHost = false) :=
  ⟨ready, h1, 0, 0, by decide, by decide, by decide, by decide, by decide⟩

theorem meets_SlateCommands_7 : ∃ (s : State) (h : Hdr) (es : List StreamSel), (served s h 0x0309) ∧ (sweepState s = true) ∧ (1 ≤ es.length) ∧ (es.length ≤ 33) ∧ (∀ e ∈ es, e.form ≤ 2 ∧ 1 ≤ e.div ∧ e.div ≤ 1000) :=
  ⟨ready, h1, [{ pkg := 0, form := 2, div := 1000 }], by decide, by decide, by decide, by decide, by decide⟩

theorem meets_SlateCommands_8 : ∃ (s : State) (h : Hdr), (served s h 0x030B) ∧ (sweepState s = true) :=
  ⟨ready, h1, by decide, by decide⟩

theorem meets_SlateCommands_9 : ∃ (s : State) (h : Hdr), (served s h 0x030B) ∧ (sweepState s = true) ∧ (ownSource s = true) :=
  ⟨ready, h1, by decide, by decide, by decide⟩

theorem meets_SlateCommands_10 : ∃ (s : State) (h : Hdr), (served s h 0x030B) ∧ (sweepState s = true) ∧ (ownSource s = false) :=
  ⟨{ ready with part := .ish124 }, h1, by decide, by decide, by decide⟩

theorem meets_SlateCommands_11 : ∃ (s : State) (h : Hdr), (served s h 0x030C) :=
  ⟨ready, h1, by decide⟩

theorem meets_SlateCommands_12 : ∃ (s : State) (h : Hdr) (a : Nat) (b : Nat) (x : List Byte) (r : List (List Byte)), (served s h 0x030A) ∧ (canOpen s h) ∧ (sweepState s = true) ∧ ((s.slates.history.filter fun l => decide (a ≤ slateClap l) && decide (slateClap l ≤ b)) = x :: r) :=
  ⟨withHistory, h1, 0, 0, zeros 660, [], by decide, by decide, by decide, by decide⟩

theorem meets_SlateCommands_13 : ∃ (s : State) (h : Hdr) (a : Nat) (b : Nat), (served s h 0x030A) ∧ (sweepState s = true) ∧ ((s.slates.history.filter fun l => decide (a ≤ slateClap l) && decide (slateClap l ≤ b)) = []) :=
  ⟨ready, h1, 1, 0, by decide, by decide, by decide⟩

theorem meets_SlatePipeline_1 : ∃ (s : State) (k : Take), ((s.slates.takes.find? fun t => !t.published) = some k) :=
  ⟨unpub, takeA, by decide⟩

theorem meets_SlatePipeline_2 : ∃ (s : State), ((s.slates.takes.find? fun t => !t.published) = none) :=
  ⟨ready, by decide⟩

theorem meets_SlatePipeline_3 : ∃ (s : State) (k : Nat) (d : SegDie), (s.die? k = some d) :=
  ⟨unpub, 7, SegDie.start 7 24 Trim.none [] 0, by decide⟩

theorem meets_SlatePipeline_4 : ∃ (s : State) (k : Nat) (d : SegDie), (s.die? k = some d) :=
  ⟨unpub, 7, SegDie.start 7 24 Trim.none [] 0, by decide⟩

theorem meets_SlatePipeline_5 : ∃ (s : State) (k : Nat) (x : Nat) (l : List Nat) (d : SegDie) (w : Window), (s.die? k = some d) ∧ (findWindow s k windowDone = some w) ∧ (w.fails = x :: l) :=
  ⟨windowed, 7, 24, [], SegDie.start 7 24 Trim.none [] 0, winFail, by exact ⟨by decide, by decide, by decide⟩⟩

theorem meets_SlatePipeline_6 : ∃ (s : State) (k : Nat) (d : SegDie) (w : Window), (s.die? k = some d) ∧ (findWindow s k windowDone = some w) ∧ (w.fails = []) :=
  ⟨windowedOk, 7, SegDie.start 7 24 Trim.none [] 0, winOk, by exact ⟨by decide, by decide, by decide⟩⟩

theorem meets_SlatePipeline_7 : ∃ (s : State) (k : Nat) (d : SegDie), (s.die? k = some d) :=
  ⟨windowed, 7, SegDie.start 7 24 Trim.none [] 0, by decide⟩

theorem meets_SlatePipeline_8 : ∃ (s : State) (k : Nat) (d : SegDie), (s.die? k = some d) :=
  ⟨windowed, 7, SegDie.start 7 24 Trim.none [] 0, by decide⟩

theorem meets_SlatePipeline_9 : ∃ (s : State) (k : Nat) (d : SegDie), (s.die? k = some d) ∧ (sweepsQuiet s = true ∨ d.stopped = true) ∧ (d.cutOff = false) ∧ (d.unpowered = false) :=
  ⟨{ windowed with packTime := 100, sweep := { windowed.sweep with intervals := [50] } }, 7, SegDie.start 7 24 Trim.none [] 0, by exact ⟨by decide, by decide, by decide, by decide⟩⟩

theorem meets_SlatePipeline_10 : ∃ (s : State) (x : Take), ((s.slates.takes.find? fun t => awaitsVerdict t && decide (t.publishedAt + s.slates.verdictTmo * msT ≤ s.now)) = some x) :=
  ⟨{ awaiting with now := 5000000 }, takeV, by decide⟩

theorem meets_SlatePipeline_11 : ∃ (s : State) (x : Take) (r : List Take), (s.slates.takes = x :: r) ∧ (decision x = some (0, 0)) ∧ (s.imp.run = none) :=
  ⟨decided, takeC, [], by decide, by decide, by decide⟩

theorem meets_SlatePipeline_12 : ∃ (s : State) (x : Take) (r : List Take) (n : Nat) (m : Nat), (s.slates.takes = x :: r) ∧ (decision x = some (n, m)) ∧ (n ≠ 0) ∧ (s.imp.run = none) :=
  ⟨voiding, takeX, [], 1, 128, by decide, by decide, by decide, by decide⟩

theorem meets_SlatePipeline_13 : ∃ (s : State) (x : Take) (r : List Take), (s.slates.takes = x :: r) ∧ (decision x = none) :=
  ⟨unpub, takeA, [], by decide, by decide⟩

theorem meets_SlatePipeline_14 : ∃ (s : State) (p : Int × Nat) (k : Take), (s.slates.presetWait = some p) ∧ (s.slates.takes.getLast? = some k) ∧ (p.2 + 100 * usT ≤ s.sweep.boundaryAt) ∧ (k.boundary = s.sweep.boundaryPack) :=
  ⟨presetting, (-5, 0), takeA, by decide, by decide, by decide, by decide⟩

theorem meets_SlatePipeline_15 : ∃ (s : State) (q : HistRead) (l : List HistRead), (s.slates.reads = q :: l) ∧ (q.left ≠ []) ∧ (streamRoom s 5 660 664 = false) :=
  ⟨{ reading with port := { reading.port with strWr := 32000 } }, histA, [], by decide, by decide, by decide⟩

theorem meets_SlatePipeline_16 : ∃ (s : State) (q : HistRead) (l : List HistRead) (x : List Byte) (m : List (List Byte)), (s.slates.reads = q :: l) ∧ (q.left = x :: m) ∧ (m ≠ []) ∧ (streamRoom s 5 660 664 = true) :=
  ⟨{ reading with slates := { reading.slates with reads := [{ histA with left := [zeros 660, zeros 660] }] } }, { histA with left := [zeros 660, zeros 660] }, [], zeros 660, [zeros 660], by decide, by decide, by decide, by decide⟩

theorem meets_SlatePipeline_17 : ∃ (s : State) (q : HistRead) (l : List HistRead) (x : List Byte), (s.slates.reads = q :: l) ∧ (q.left = [x]) ∧ (streamRoom s 5 660 664 = true) :=
  ⟨reading, histA, [], zeros 660, by decide, by decide, by decide⟩

theorem meets_Calibration_1 : ∃ (s : State) (h : Hdr) (k : Nat) (x : Nat) (u : Nat) (d : SegDie) (e : SeqEntry), (served s h 0x0401) ∧ (s.die? k = some d) ∧ (calGate s k = none) ∧ (s.cal.session = none) ∧ (24 ≤ x) ∧ (x ≤ 31) ∧ (u ≤ 3) ∧ (d.entry? x = some e) :=
  ⟨withAux, h1, 7, 31, 3, dieAux, entryA8, by exact ⟨by decide, by decide, by decide, by decide, by decide, by decide, by decide, by decide⟩⟩

theorem meets_Calibration_2 : ∃ (s : State) (h : Hdr) (k : Nat) (x : Nat) (u : Nat) (d : SegDie), (served s h 0x0401) ∧ (s.die? k = some d) ∧ (calGate s k = none) ∧ (s.cal.session = none) ∧ (24 ≤ x) ∧ (x ≤ 31) ∧ (u ≤ 3) ∧ (d.entry? x = none) :=
  ⟨ready, h1, 7, 31, 0, SegDie.start 7 24 Trim.none [] 0, by exact ⟨by decide, by decide, by decide, by decide, by decide, by decide, by decide, by decide⟩⟩

theorem meets_Calibration_3 : ∃ (s : State) (h : Hdr) (n : Nat) (m : Nat) (q : CalSession) (d : SegDie), (served s h 0x0402) ∧ (canOpen s h) ∧ (s.cal.session = some q) ∧ (s.die? q.die = some d) ∧ (calGate s q.die = none) ∧ (sessionBreak s q = none) ∧ (s.cal.capture = none) ∧ (n ≤ 1) ∧ (16 ≤ m) ∧ (m ≤ 4096) :=
  ⟨inSession, h1, 1, 4096, sessA, dieAux, by exact ⟨by decide, by decide, by decide, by decide, by decide, by decide, by decide, by decide, by decide, by decide⟩⟩

theorem meets_Calibration_4 : ∃ (s : State) (h : Hdr) (n : Nat) (m : Nat), (served s h 0x0402) ∧ (s.power.state = .run) ∧ (s.cal.session = none) ∧ (n ≤ 1) ∧ (16 ≤ m) ∧ (m ≤ 4096) :=
  ⟨ready, h1, 0, 16, by decide, by decide, by decide, by decide, by decide, by decide⟩

theorem meets_Calibration_5 : ∃ (s : State) (h : Hdr) (q : CalSession) (d : SegDie) (a : CalPt) (b : CalPt), (served s h 0x0403) ∧ (canOpen s h) ∧ (s.cal.session = some q) ∧ (s.die? q.die = some d) ∧ (calGate s q.die = none) ∧ (sessionBreak s q = none) ∧ (s.cal.capture = none) ∧ (q.low = some a) ∧ (q.high = some b) ∧ (spanOf d q.input ≤ 10 * (b.mean - a.mean).natAbs) :=
  ⟨twoPoints, h1, sessB, dieAux, ptLow, ptHigh, by exact ⟨by decide, by decide, by decide, by decide, by decide, by decide, by decide, by decide, by decide, by decide⟩⟩

theorem meets_Calibration_6 : ∃ (s : State) (h : Hdr) (q : CalSession) (d : SegDie) (a : CalPt) (b : CalPt), (served s h 0x0403) ∧ (s.cal.session = some q) ∧ (s.die? q.die = some d) ∧ (calGate s q.die = none) ∧ (sessionBreak s q = none) ∧ (s.cal.capture = none) ∧ (q.low = some a) ∧ (q.high = some b) ∧ (10 * (b.mean - a.mean).natAbs < spanOf d q.input) :=
  ⟨{ twoPoints with cal := { twoPoints.cal with session := some { sessB with high := some ptLow } } }, h1, { sessB with high := some ptLow }, dieAux, ptLow, ptLow, by exact ⟨by decide, by decide, by decide, by decide, by decide, by decide, by decide, by decide, by decide⟩⟩

theorem meets_Calibration_7 : ∃ (s : State) (h : Hdr) (q : CalSession) (d : SegDie), (served s h 0x0403) ∧ (s.cal.session = some q) ∧ (s.die? q.die = some d) ∧ (calGate s q.die = none) ∧ (sessionBreak s q = none) ∧ (s.cal.capture = none) ∧ (q.low = none ∨ q.high = none) :=
  ⟨inSession, h1, sessA, dieAux, by exact ⟨by decide, by decide, by decide, by decide, by decide, by decide, by decide⟩⟩

theorem meets_Calibration_8 : ∃ (s : State) (h : Hdr) (q : CalSession) (d : SegDie), (served s h 0x0404) ∧ (s.cal.session = some q) ∧ (s.die? q.die = some d) ∧ (calGate s q.die = none) ∧ (s.cal.capture = none) :=
  ⟨inSession, h1, sessA, dieAux, by exact ⟨by decide, by decide, by decide, by decide, by decide⟩⟩

theorem meets_Calibration_9 : ∃ (s : State) (h : Hdr) (k : Nat) (es : List TrueCell) (d : SegDie), (served s h 0x0405) ∧ (canOpen s h) ∧ (s.die? k = some d) ∧ (calGate s k = none) ∧ (∀ e ∈ es, 1 ≤ e.cell ∧ e.cell ≤ d.cells) ∧ (s.cal.capture = none) :=
  ⟨ready, h1, 7, [{ cell := 24, vtrue := 4000000 }], SegDie.start 7 24 Trim.none [] 0, by exact ⟨by decide, by decide, by decide, by decide, by decide, by decide⟩⟩

theorem meets_Calibration_10 : ∃ (s : State) (h : Hdr) (m : Nat) (i : Nat), (served s h 0x0406) ∧ (canOpen s h) ∧ (s.power.state = .run) ∧ (200 ≤ i) ∧ (i ≤ 2000) ∧ (bit m 1 = false) ∧ (maskAbsent s m = false) ∧ (((s.segs.filter fun d => bit m d.code).any fun d => (calGate s d.code).isSome) = false) ∧ (s.cal.taps = none) ∧ (((s.segs.filter fun d => bit m d.code).any tapConditionsFail) = false) :=
  ⟨{ ready with segs := [dieRest] }, h1, 128, 2000, by decide, by decide, by decide, by decide, by decide, by decide, by decide, by decide, by decide, by decide⟩

theorem meets_Calibration_11 : ∃ (s : State) (q : TapRun), (s.cal.taps = some q) ∧ (tapFailures s q = []) ∧ (q.live ≠ []) ∧ (q.started = true) ∧ (q.sweeps < 2048) :=
  ⟨tapping, tapRunA, by decide, by decide, by decide, by decide, by decide⟩

theorem meets_Calibration_12 : ∃ (s : State) (q : TapRun), (s.cal.taps = some q) ∧ (tapFailures s q = []) ∧ (q.live ≠ []) ∧ (q.started = true) ∧ (2048 ≤ q.sweeps) ∧ (q.step < 5) :=
  ⟨tapLate 4, tapRunB 4, by decide, by decide, by decide, by decide, by decide, by decide⟩

theorem meets_Calibration_13 : ∃ (s : State) (q : TapRun), (s.cal.taps = some q) ∧ (tapFailures s q = []) ∧ (q.live ≠ []) ∧ (q.started = true) ∧ (2048 ≤ q.sweeps) ∧ (q.step = 5) :=
  ⟨tapLate 5, tapRunB 5, by decide, by decide, by decide, by decide, by decide, by decide⟩

theorem meets_Calibration_14 : ∃ (s : State) (h : Hdr) (k : Nat) (x : Nat) (d : SegDie), (served s h 0x0407) ∧ (canOpen s h) ∧ (s.die? k = some d) ∧ (calGate s k = none) ∧ (x ≤ 24) :=
  ⟨ready, h1, 7, 24, SegDie.start 7 24 Trim.none [] 0, by exact ⟨by decide, by decide, by decide, by decide, by decide⟩⟩

theorem meets_Calibration_15 : ∃ (s : State) (h : Hdr) (k : Nat) (n : Nat) (d : SegDie), (served s h 0x0408) ∧ (s.die? k = some d) ∧ (k ≠ 1) ∧ (n ≤ 2) :=
  ⟨ready, h1, 7, 2, SegDie.start 7 24 Trim.none [] 0, by exact ⟨by decide, by decide, by decide, by decide⟩⟩

theorem meets_Calibration_16 : ∃ (s : State) (h : Hdr) (k : Nat) (n : Nat) (d : SegDie), (served s h 0x0409) ∧ (canOpen s h) ∧ (s.die? k = some d) ∧ (calGate s k = none) ∧ (n ≤ 2) :=
  ⟨ready, h1, 7, 1, SegDie.start 7 24 Trim.none [] 0, by exact ⟨by decide, by decide, by decide, by decide, by decide⟩⟩

theorem meets_Calibration_17 : ∃ (s : State) (j : FlashJob) (r : List FlashJob), (s.flash.jobs = j :: r) ∧ (s.flash.deferred = none) :=
  ⟨flashing, .reactionTable [] 1, [], by decide, by decide⟩

theorem meets_Calibration_18 : ∃ (s : State) (j : FlashJob) (r : List FlashJob) (k : Tick) (u : State), (s.flash.jobs = j :: r) ∧ (s.flash.deferred = some k) ∧ (u = applyJob { s with flash := { s.flash with jobs := r, stepAt := s.now } } j) ∧ (u.flash.deferred = some k) :=
  ⟨{ flashing with flash := { flashing.flash with deferred := some 0 } }, .reactionTable [] 1, [], 0, applyJob { flashing with flash := { flashing.flash with jobs := [], deferred := some 0, stepAt := 0 } } (.reactionTable [] 1), by decide, by decide, by decide, by decide⟩

theorem meets_SenseCommands_1 : ∃ (s : State) (h : Hdr) (j : Nat), (served s h 0x0B02) ∧ (s.power.state ≠ .run) ∧ (j ≤ 24) :=
  ⟨sleeping, h1, 24, by decide, by decide, by decide⟩

theorem meets_SenseCommands_2 : ∃ (s : State) (h : Hdr) (k : Nat) (j : Nat), (served s h 0x0B02) ∧ (s.power.state = .run) ∧ (s.die? k = none) ∧ (j ≤ 24) :=
  ⟨ready, h1, 1, 0, by decide, by decide, by decide, by decide⟩

theorem meets_SenseCommands_3 : ∃ (s : State) (h : Hdr) (k : Nat) (j : Nat) (d : SegDie), (served s h 0x0B02) ∧ (s.power.state = .run) ∧ (s.die? k = some d) ∧ (s.sense.stepped = false) ∧ (j ≤ 24) :=
  ⟨ready, h1, 7, 0, SegDie.start 7 24 Trim.none [] 0, by exact ⟨by decide, by decide, by decide, by decide, by decide⟩⟩

theorem meets_SenseCommands_4 : ∃ (s : State) (h : Hdr) (k : Nat) (j : Nat) (d : SegDie), (served s h 0x0B02) ∧ (s.power.state = .run) ∧ (s.die? k = some d) ∧ (s.sense.stepped = true) ∧ (tapInUse d j = true) ∧ (j ≤ 24) :=
  ⟨stepTransfer, h1, 7, 1, dieTransfer, by exact ⟨by decide, by decide, by decide, by decide, by decide, by decide⟩⟩

theorem meets_SenseCommands_5 : ∃ (s : State) (h : Hdr) (k : Nat) (j : Nat) (d : SegDie), (served s h 0x0B02) ∧ (s.power.state = .run) ∧ (s.die? k = some d) ∧ (s.sense.stepped = true) ∧ (tapInUse d j = false) ∧ (d.probeWait = none) ∧ ((d.probe.any fun p => p.hdr.isSome) = false) ∧ (j ≤ 24) :=
  ⟨stepTransfer, h1, 7, 24, dieTransfer, by exact ⟨by decide, by decide, by decide, by decide, by decide, by decide, by decide, by decide⟩⟩

theorem meets_SenseCommands_6 : ∃ (s : State) (h : Hdr), (served s h 0x0B03) :=
  ⟨ready, h1, by decide⟩

theorem meets_SenseCommands_7 : ∃ (s : State) (h : Hdr), (served s h 0x0B04) ∧ (s.power.state ≠ .run) :=
  ⟨sleeping, h1, by decide, by decide⟩

theorem meets_SenseCommands_8 : ∃ (s : State) (h : Hdr) (l : Nat), (served s h 0x0B05) ∧ (s.power.state ≠ .run) ∧ (5 ≤ l) ∧ (l ≤ 1000) :=
  ⟨sleeping, h1, 5, by decide, by decide, by decide, by decide⟩

theorem meets_SenseCommands_9 : ∃ (s : State) (h : Hdr) (m : Nat), (served s h 0x0B04) ∧ (canOpen s h) ∧ (s.power.state = .run) ∧ (maskAbsent s m = false) ∧ (testsRun s m = false) :=
  ⟨ready, h1, 252, by decide, by decide, by decide, by decide, by decide⟩

theorem meets_SenseCommands_10 : ∃ (s : State) (h : Hdr) (m : Nat) (l : Nat), (served s h 0x0B05) ∧ (canOpen s h) ∧ (s.power.state = .run) ∧ (5 ≤ l) ∧ (l ≤ 1000) ∧ (maskAbsent s m = false) ∧ (testsRun s m = false) :=
  ⟨ready, h1, 252, 1000, by decide, by decide, by decide, by decide, by decide, by decide, by decide⟩

theorem meets_SenseCommands_11 : ∃ (s : State) (h : Hdr) (k : Nat) (m : Nat) (o : Nat) (v : Nat) (d : SegDie), (served s h 0x0B06) ∧ (s.die? k = some d) ∧ (m ≤ 255) ∧ (o ≤ 65535) ∧ (v ≤ 65535) :=
  ⟨ready, h1, 7, 255, 9850, 150, SegDie.start 7 24 Trim.none [] 0, by exact ⟨by decide, by decide, by decide, by decide, by decide⟩⟩

theorem meets_SenseTests_1 : ∃ (s : State) (k : Nat) (j : Nat) (b : Bool) (d : SegDie), (s.die? k = some d) ∧ (canProbe s d = true) ∧ ((d.probeWait.filter fun w => !tapInUse d w.2.1) = none) ∧ (nextProbe s d = some (j, b)) :=
  ⟨ready, 7, 0, true, SegDie.start 7 24 Trim.none [] 0, by exact ⟨by decide, by decide, by decide, by decide⟩⟩

theorem meets_SenseTests_2 : ∃ (s : State) (k : Nat) (j : Nat) (n : Nat) (d : SegDie) (w : Hdr), (s.die? k = some d) ∧ (canProbe s d = true) ∧ ((d.probeWait.filter fun w => !tapInUse d w.2.1) = some (w, j, n)) :=
  ⟨probeAsked, 7, 24, 0, dieAsked, h1, by exact ⟨by decide, by decide, by decide⟩⟩

theorem meets_SenseTests_3 : ∃ (s : State) (k : Nat) (d : SegDie), (s.die? k = some d) ∧ (canProbe s d = true) ∧ (nextProbe s d = none) :=
  ⟨stepTransfer, 7, dieTransfer, by exact ⟨by decide, by decide, by decide⟩⟩

theorem meets_SenseTests_4 : ∃ (s : State) (k : Nat) (i : Int) (d : SegDie) (p : Probe), (s.die? k = some d) ∧ (d.probe = some p) ∧ (p.startedAt + 444 * usT ≤ s.now) ∧ (p.hdr = none) ∧ (s.faults.clearing = none) ∧ (2000 < (i - p.current).natAbs) ∧ (p.sched = true) :=
  ⟨probingS, 7, 2001, { dieProbing with probe := some { probeA with sched := true } }, { probeA with sched := true }, by exact ⟨by decide, by decide, by decide, by decide, by decide, by decide, by decide⟩⟩

theorem meets_SenseTests_5 : ∃ (s : State) (k : Nat) (i : Int) (d : SegDie) (p : Probe), (s.die? k = some d) ∧ (d.probe = some p) ∧ (p.startedAt + 444 * usT ≤ s.now) ∧ (p.hdr = none) ∧ (s.faults.clearing = none) ∧ (2000 < (i - p.current).natAbs) ∧ (p.sched = false) :=
  ⟨probingA, 7, 2001, dieProbing, probeA, by exact ⟨by decide, by decide, by decide, by decide, by decide, by decide, by decide⟩⟩

theorem meets_SenseTests_6 : ∃ (s : State) (k : Nat) (a : ProbeReading) (i : Int) (d : SegDie) (p : Probe), (s.die? k = some d) ∧ (d.probe = some p) ∧ (p.startedAt + 444 * usT ≤ s.now) ∧ (p.hdr = none) ∧ (s.faults.clearing = none) ∧ ((i - p.current).natAbs ≤ 2000) ∧ (0 < p.tap) ∧ (p.tap < d.cells) ∧ (cellReading a.cellM ≤ p.baseline.cellM - 100000) ∧ (p.baseline.cellM1 + 100000 ≤ cellReading a.cellM1) ∧ ((spanReading a.span - p.baseline.span).natAbs ≤ 15000) :=
  ⟨probingA, 7, rdOpen, 0, dieProbing, probeA, by exact ⟨by decide, by decide, by decide, by decide, by decide, by decide, by decide, by decide, by decide, by decide, by decide⟩⟩

theorem meets_SenseTests_7 : ∃ (s : State) (k : Nat) (a : ProbeReading) (i : Int) (d : SegDie) (p : Probe), (s.die? k = some d) ∧ (d.probe = some p) ∧ (p.startedAt + 444 * usT ≤ s.now) ∧ (p.hdr = none) ∧ (s.faults.clearing = none) ∧ ((i - p.current).natAbs ≤ 2000) ∧ (0 < p.tap) ∧ (p.tap < d.cells) ∧ ((cellReading a.cellM - p.baseline.cellM).natAbs < 30000) ∧ ((cellReading a.cellM1 - p.baseline.cellM1).natAbs < 30000) :=
  ⟨probingA, 7, rdA, 0, dieProbing, probeA, by exact ⟨by decide, by decide, by decide, by decide, by decide, by decide, by decide, by decide, by decide, by decide⟩⟩

theorem meets_SenseTests_8 : ∃ (s : State) (k : Nat) (a : ProbeReading) (i : Int) (d : SegDie) (p : Probe) (w : Hdr), (s.die? k = some d) ∧ (d.probe = some p) ∧ (p.startedAt + 444 * usT ≤ s.now) ∧ (p.hdr = some w) ∧ (s.faults.clearing = none) ∧ ((i - p.current).natAbs ≤ 2000) ∧ (0 < p.tap) ∧ (p.tap < d.cells) ∧ ((cellReading a.cellM - p.baseline.cellM).natAbs < 30000) ∧ ((cellReading a.cellM1 - p.baseline.cellM1).natAbs < 30000) :=
  ⟨probingH, 7, rdA, 0, { dieProbing with probe := some { probeA with hdr := some h1 } }, { probeA with hdr := some h1 }, h1, by exact ⟨by decide, by decide, by decide, by decide, by decide, by decide, by decide, by decide, by decide, by decide⟩⟩

theorem meets_SenseTests_9 : ∃ (s : State) (k : Nat) (a : ProbeReading) (i : Int) (d : SegDie) (p : Probe), (s.die? k = some d) ∧ (d.probe = some p) ∧ (p.startedAt + 444 * usT ≤ s.now) ∧ (p.hdr = none) ∧ (s.faults.clearing = none) ∧ ((i - p.current).natAbs ≤ 2000) ∧ (0 < p.tap) ∧ (p.tap < d.cells) ∧ (30000 ≤ (cellReading a.cellM - p.baseline.cellM).natAbs) ∧ (p.baseline.cellM - 100000 < cellReading a.cellM) :=
  ⟨probingA, 7, { rdA with cellM := 2950000 }, 0, dieProbing, probeA, by exact ⟨by decide, by decide, by decide, by decide, by decide, by decide, by decide, by decide, by decide, by decide⟩⟩

theorem meets_SenseTests_10 : ∃ (s : State) (k : Nat) (d : SegDie), (s.die? k = some d) ∧ (256 ≤ d.xcSweeps) ∧ (d.xcSub = true ∨ d.xcPairs < 64) :=
  ⟨xcShort, 7, dieXcShort, by exact ⟨by decide, by decide, by decide⟩⟩

theorem meets_SenseTests_11 : ∃ (s : State) (k : Nat) (d : SegDie), (s.die? k = some d) ∧ (256 ≤ d.xcSweeps) ∧ (d.xcSub = false) ∧ (64 ≤ d.xcPairs) ∧ (0 < d.xcM) ∧ ((d.xcD - d.xcM).natAbs * 10000 ≤ 25 * d.xcM.toNat) :=
  ⟨{ xcOff with segs := [{ dieXcOff with xcD := 100250 }] }, 7, { dieXcOff with xcD := 100250 }, by exact ⟨by decide, by decide, by decide, by decide, by decide, by decide⟩⟩

theorem meets_SenseTests_12 : ∃ (s : State) (k : Nat) (d : SegDie), (s.die? k = some d) ∧ (256 ≤ d.xcSweeps) ∧ (d.xcSub = false) ∧ (64 ≤ d.xcPairs) ∧ (0 < d.xcM) ∧ (canTest s d = true) ∧ (25 * d.xcM.toNat < (d.xcD - d.xcM).natAbs * 10000) :=
  ⟨xcOff, 7, dieXcOff, by exact ⟨by decide, by decide, by decide, by decide, by decide, by decide, by decide⟩⟩

theorem meets_SenseTests_13 : ∃ (s : State) (k : Nat) (d : SegDie), (s.die? k = some d) ∧ (256 ≤ d.xcSweeps) ∧ (d.xcSub = false) ∧ (64 ≤ d.xcPairs) ∧ (0 < d.xcM) ∧ (canTest s d = false) ∧ (25 * d.xcM.toNat < (d.xcD - d.xcM).natAbs * 10000) :=
  ⟨{ xcOff with segs := [{ dieXcOff with stopped := true }] }, 7, { dieXcOff with stopped := true }, by exact ⟨by decide, by decide, by decide, by decide, by decide, by decide, by decide⟩⟩

theorem meets_SenseTests_14 : ∃ (s : State) (k : Nat) (g : Nat) (v : Nat) (e : Nat) (d : SegDie) (y : Dolly) (q : GroupTest), (s.die? k = some d) ∧ (d.dolly? g = some y) ∧ (y.test = some q) ∧ (q.leak = false) ∧ (q.at_ + 500 * usT ≤ s.now) ∧ (q.result = 0) ∧ (q.step < 20) ∧ (matrixStep d g (q.step + 1) v e = none) :=
  ⟨matrixRun, 7, 1, 49, 0, dieMatrix, dollyMatrix, testA, by exact ⟨by decide, by decide, by decide, by decide, by decide, by decide, by decide, by decide⟩⟩

theorem meets_SenseTests_15 : ∃ (s : State) (k : Nat) (g : Nat) (v : Nat) (e : Nat) (d : SegDie) (y : Dolly) (q : GroupTest), (s.die? k = some d) ∧ (d.dolly? g = some y) ∧ (y.test = some q) ∧ (q.leak = false) ∧ (q.at_ + 500 * usT ≤ s.now) ∧ (q.result = 0) ∧ (q.step = 0) ∧ (50 ≤ v) ∧ (e ≠ 0) :=
  ⟨matrixRun, 7, 1, 50, 3, dieMatrix, dollyMatrix, testA, by exact ⟨by decide, by decide, by decide, by decide, by decide, by decide, by decide, by decide, by decide⟩⟩

theorem meets_SenseTests_16 : ∃ (s : State) (k : Nat) (g : Nat) (v : Nat) (d : SegDie) (y : Dolly) (q : GroupTest), (s.die? k = some d) ∧ (d.dolly? g = some y) ∧ (y.test = some q) ∧ (q.leak = false) ∧ (q.at_ + 500 * usT ≤ s.now) ∧ (q.step = 20) ∧ (q.result = 0) ∧ (v < 50) ∧ (y.testDue = false) ∧ (s.faults.clearing = none) ∧ (s.sense.runs = []) :=
  ⟨matrixLast, 7, 1, 0, dieMatrix20, dollyMatrix20, testB, by exact ⟨by decide, by decide, by decide, by decide, by decide, by decide, by decide, by decide, by decide, by decide, by decide⟩⟩

theorem meets_SenseTests_17 : ∃ (s : State) (k : Nat) (g : Nat) (v : Nat) (w : Nat) (d : SegDie) (y : Dolly) (q : GroupTest), (s.die? k = some d) ∧ (d.dolly? g = some y) ∧ (y.test = some q) ∧ (q.leak = true) ∧ (q.at_ + 51 * msT ≤ s.now) ∧ (s.sense.cin * (v - w) ≤ 500 * s.sense.leakThr) ∧ (s.sense.runs = []) :=
  ⟨leaking, 7, 1, 3700, 3450, dieLeak, dollyLeak, testL, by exact ⟨by decide, by decide, by decide, by decide, by decide, by decide, by decide⟩⟩

theorem meets_SenseTests_18 : ∃ (s : State) (k : Nat) (g : Nat) (v : Nat) (w : Nat) (d : SegDie) (y : Dolly) (q : GroupTest), (s.die? k = some d) ∧ (d.dolly? g = some y) ∧ (y.test = some q) ∧ (q.leak = true) ∧ (q.at_ + 51 * msT ≤ s.now) ∧ (500 * s.sense.leakThr < s.sense.cin * (v - w)) :=
  ⟨leaking, 7, 1, 3700, 3449, dieLeak, dollyLeak, testL, by exact ⟨by decide, by decide, by decide, by decide, by decide, by decide⟩⟩

theorem meets_SenseTests_19 : ∃ (s : State) (k : Nat) (g : Nat) (d : SegDie) (y : Dolly), (s.die? k = some d) ∧ (d.dolly? g = some y) ∧ (s.sense.stepped = false) ∧ (s.power.state = .run) ∧ (d.unpowered = false) ∧ (d.stopped = false) ∧ ((y.testDue || y.testedAt.all fun t => !y.used && decide (t + 3600 * secT ≤ s.now)) = true) ∧ (y.transfer = none) ∧ (y.test = none) ∧ (y.withdrawn = []) :=
  ⟨ready, 7, 4, SegDie.start 7 24 Trim.none [] 0, Dolly.reset, by exact ⟨by decide, by decide, by decide, by decide, by decide, by decide, by decide, by decide, by decide, by decide⟩⟩

theorem meets_SenseTests_20 : ∃ (s : State) (k : Nat) (g : Nat) (d : SegDie) (y : Dolly), (s.die? k = some d) ∧ (d.dolly? g = some y) ∧ (s.sense.stepped = false) ∧ (s.power.state = .run) ∧ (d.unpowered = false) ∧ (d.stopped = false) ∧ ((y.testDue || y.testedAt.all fun t => !y.used && decide (t + 3600 * secT ≤ s.now)) = true) ∧ (y.transfer.isSome = true) :=
  ⟨{ stepTransfer with sense := ready.sense }, 7, 1, dieTransfer, dollyTransfer, by exact ⟨by decide, by decide, by decide, by decide, by decide, by decide, by decide, by decide⟩⟩

theorem meets_DollyCommands_1 : ∃ (s : State) (h : Hdr) (es : List SpanEntry), (served s h 0x0501) ∧ (s.power.state = .run) ∧ (1 ≤ es.length) ∧ (es.length ≤ 6) ∧ (∀ e ∈ es, 15 ≤ e.fsw ∧ e.fsw ≤ 40) ∧ ((es.any fun e => (s.die? e.die).isNone) = false) ∧ ((es.any fun e => decide (e.straddle % 16 ≠ 0) && (dieAbove s e.die).isNone) = false) ∧ ((es.any fun e => (s.die? e.die).any fun d => d.dollies.any fun y => y.transfer.isSome) = false) :=
  ⟨ready, h1, [{ die := 7, straddle := 0, fsw := 25 }], by decide, by decide, by decide, by decide, by decide, by decide, by decide, by decide⟩

theorem meets_DollyCommands_2 : ∃ (s : State) (h : Hdr) (es : List SpanEntry), (served s h 0x0501) ∧ (s.power.state ≠ .run) ∧ (1 ≤ es.length) ∧ (es.length ≤ 6) ∧ (∀ e ∈ es, 15 ≤ e.fsw ∧ e.fsw ≤ 40) :=
  ⟨sleeping, h1, [{ die := 7, straddle := 0, fsw := 40 }], by decide, by decide, by decide, by decide, by decide⟩

theorem meets_DollyCommands_3 : ∃ (s : State) (h : Hdr) (es : List SpanEntry), (served s h 0x0501) ∧ (s.power.state = .run) ∧ (1 ≤ es.length) ∧ (es.length ≤ 6) ∧ (∀ e ∈ es, 15 ≤ e.fsw ∧ e.fsw ≤ 40) ∧ ((es.any fun e => (s.die? e.die).isNone) = false) ∧ ((es.any fun e => decide (e.straddle % 16 ≠ 0) && (dieAbove s e.die).isNone) = true) :=
  ⟨ready, h1, [{ die := 7, straddle := 15, fsw := 25 }], by decide, by decide, by decide, by decide, by decide, by decide, by decide⟩

theorem meets_DollyCommands_4 : ∃ (s : State) (h : Hdr) (es : List SpanEntry), (served s h 0x0501) ∧ (s.power.state = .run) ∧ (1 ≤ es.length) ∧ (es.length ≤ 6) ∧ (∀ e ∈ es, 15 ≤ e.fsw ∧ e.fsw ≤ 40) ∧ ((es.any fun e => (s.die? e.die).isNone) = false) ∧ ((es.any fun e => decide (e.straddle % 16 ≠ 0) && (dieAbove s e.die).isNone) = false) ∧ ((es.any fun e => (s.die? e.die).any fun d => d.dollies.any fun y => y.transfer.isSome) = true) :=
  ⟨stepTransfer, h1, [{ die := 7, straddle := 0, fsw := 15 }], by decide, by decide, by decide, by decide, by decide, by decide, by decide, by decide⟩

theorem meets_DollyCommands_5 : ∃ (s : State) (h : Hdr) (n : Nat) (l : List Nat), (served s h 0x0503) ∧ (1 ≤ l.length) ∧ (l.length ≤ 120) ∧ (rangeUnmapped s n l.length = false) :=
  ⟨ready, h1, 144, [65535], by decide, by decide, by decide, by decide⟩

theorem meets_DollyCommands_6 : ∃ (s : State) (h : Hdr) (n : Nat) (l : List Nat), (served s h 0x0503) ∧ (1 ≤ l.length) ∧ (l.length ≤ 120) ∧ (rangeUnmapped s n l.length = true) :=
  ⟨ready, h1, 144, [1, 2], by decide, by decide, by decide, by decide⟩

theorem meets_DollyCommands_7 : ∃ (s : State) (h : Hdr) (n : Nat) (l : List Int), (served s h 0x0504) ∧ (s.power.state = .run) ∧ (1 ≤ l.length) ∧ (l.length ≤ 60) ∧ (rangeUnmapped s n l.length = false) :=
  ⟨ready, h1, 1, [-1], by decide, by decide, by decide, by decide, by decide⟩

theorem meets_DollyCommands_8 : ∃ (s : State) (h : Hdr) (n : Nat) (l : List Int), (served s h 0x0504) ∧ (s.power.state = .run) ∧ (1 ≤ l.length) ∧ (l.length ≤ 60) ∧ (rangeUnmapped s n l.length = true) :=
  ⟨ready, h1, 145, [-1], by decide, by decide, by decide, by decide, by decide⟩

theorem meets_DollyCommands_9 : ∃ (s : State) (h : Hdr) (l : List Int), (served s h 0x0504) ∧ (s.power.state ≠ .run) ∧ (1 ≤ l.length) ∧ (l.length ≤ 60) :=
  ⟨sleeping, h1, [0], by decide, by decide, by decide, by decide⟩

theorem meets_DollyCommands_10 : ∃ (s : State) (h : Hdr) (k : Nat) (m : Nat) (i : Nat) (u : Nat) (d : SegDie), (served s h 0x0506) ∧ (s.power.state = .run) ∧ (s.die? k = some d) ∧ (s.balance.hostMode = false) ∧ (m ≤ 2) ∧ (50 ≤ i) ∧ (i ≤ 3000) ∧ (10 ≤ u) ∧ (u ≤ 600000) :=
  ⟨ready, h1, 7, 1, 100, 10, SegDie.start 7 24 Trim.none [] 0, by exact ⟨by decide, by decide, by decide, by decide, by decide, by decide, by decide, by decide, by decide⟩⟩

theorem meets_DollyCommands_11 : ∃ (s : State) (h : Hdr) (k : Nat) (j : Nat) (d : SegDie) (y : Dolly), (served s h 0x0506) ∧ (s.power.state = .run) ∧ (s.balance.hostMode = true) ∧ (s.die? k = some d) ∧ (d.dolly? j = some y) ∧ (y.withdrawn = []) ∧ (y.transfer.any (·.holds) = false) :=
  ⟨hostTransfer, h1, 7, 1, dieTransfer, dollyTransfer, by exact ⟨by decide, by decide, by decide, by decide, by decide, by decide, by decide⟩⟩

theorem meets_DollyCommands_12 : ∃ (s : State) (h : Hdr) (k : Nat) (j : Nat) (m : Nat) (x : Nat) (i : Nat) (u : Nat) (d : SegDie) (y : Dolly), (served s h 0x0506) ∧ (s.power.state = .run) ∧ (s.balance.hostMode = true) ∧ (s.die? k = some d) ∧ (d.dolly? j = some y) ∧ (1 ≤ m) ∧ (m ≤ 2) ∧ (50 ≤ i) ∧ (i ≤ 3000) ∧ (10 ≤ u) ∧ (u ≤ 600000) ∧ (orderBlock s d j y m x = none) :=
  ⟨hostRest, h1, 7, 4, 2, 24, 3000, 600000, dieRest, Dolly.reset, by exact ⟨by decide, by decide, by decide, by decide, by decide, by decide, by decide, by decide, by decide, by decide, by decide, by decide⟩⟩

theorem meets_DollyCommands_13 : ∃ (s : State) (h : Hdr) (k : Nat) (j : Nat) (m : Nat) (x : Nat) (i : Nat) (u : Nat) (d : SegDie) (y : Dolly) (e : Nat), (served s h 0x0506) ∧ (s.power.state = .run) ∧ (s.balance.hostMode = true) ∧ (s.die? k = some d) ∧ (d.dolly? j = some y) ∧ (1 ≤ m) ∧ (m ≤ 2) ∧ (50 ≤ i) ∧ (i ≤ 3000) ∧ (10 ≤ u) ∧ (u ≤ 600000) ∧ (orderBlock s d j y m x = some e) :=
  ⟨hostRest, h1, 7, 4, 2, 18, 3000, 60000, dieRest, Dolly.reset, 0x87, by exact ⟨by decide, by decide, by decide, by decide, by decide, by decide, by decide, by decide, by decide, by decide, by decide, by decide⟩⟩

theorem meets_DollyCommands_14 : ∃ (s : State) (h : Hdr) (k : Nat) (j : Nat) (m : Nat) (i : Nat) (u : Nat) (d : SegDie) (y : Dolly), (served s h 0x0506) ∧ (s.power.state = .run) ∧ (s.balance.hostMode = true) ∧ (s.die? k = some d) ∧ (d.dolly? j = some y) ∧ (m ≤ 2) ∧ (50 ≤ i) ∧ (i ≤ 3000) ∧ (10 ≤ u) ∧ (u ≤ 600000) ∧ (y.withdrawn ≠ []) :=
  ⟨hostWithdrawn, h1, 7, 1, 0, 50, 10, dieWithdrawn, dollyWithdrawn, by exact ⟨by decide, by decide, by decide, by decide, by decide, by decide, by decide, by decide, by decide, by decide, by decide⟩⟩

theorem meets_DollyCommands_15 : ∃ (s : State) (h : Hdr) (k : Nat) (j : Nat) (m : Nat) (i : Nat) (u : Nat) (d : SegDie) (y : Dolly), (served s h 0x0506) ∧ (s.power.state = .run) ∧ (s.balance.hostMode = true) ∧ (s.die? k = some d) ∧ (d.dolly? j = some y) ∧ (1 ≤ m) ∧ (m ≤ 2) ∧ (50 ≤ i) ∧ (i ≤ 3000) ∧ (10 ≤ u) ∧ (u ≤ 600000) ∧ (y.withdrawn = []) ∧ (dollyHeld s d j = true) :=
  ⟨{ ready with balance := { ready.balance with hostMode := true } }, h1, 7, 1, 1, 50, 10, SegDie.start 7 24 Trim.none [] 0, Dolly.reset, by exact ⟨by decide, by decide, by decide, by decide, by decide, by decide, by decide, by decide, by decide, by decide, by decide, by decide, by decide⟩⟩

theorem meets_DollyCommands_16 : ∃ (s : State) (h : Hdr) (k : Nat) (j : Nat) (m : Nat) (x : Nat) (i : Nat) (u : Nat) (d : SegDie) (y : Dolly), (served s h 0x0506) ∧ (s.power.state = .run) ∧ (s.balance.hostMode = true) ∧ (s.die? k = some d) ∧ (d.dolly? j = some y) ∧ (1 ≤ m) ∧ (m ≤ 2) ∧ (50 ≤ i) ∧ (i ≤ 3000) ∧ (10 ≤ u) ∧ (u ≤ 600000) ∧ (y.withdrawn = []) ∧ (dollyHeld s d j = false) ∧ (inGroup d j x = false) :=
  ⟨hostRest, h1, 7, 4, 2, 18, 3000, 60000, dieRest, Dolly.reset, by exact ⟨by decide, by decide, by decide, by decide, by decide, by decide, by decide, by decide, by decide, by decide, by decide, by decide, by decide, by decide⟩⟩

theorem meets_DollyCommands_17 : ∃ (s : State) (h : Hdr) (k : Nat) (j : Nat) (m : Nat) (x : Nat) (i : Nat) (u : Nat) (d : SegDie) (y : Dolly), (served s h 0x0506) ∧ (s.power.state = .run) ∧ (s.balance.hostMode = true) ∧ (s.die? k = some d) ∧ (d.dolly? j = some y) ∧ (1 ≤ m) ∧ (m ≤ 2) ∧ (50 ≤ i) ∧ (i ≤ 3000) ∧ (10 ≤ u) ∧ (u ≤ 600000) ∧ (y.withdrawn = []) ∧ (dollyHeld s d j = false) ∧ (inGroup d j x = true) ∧ (meetsGuard s d m x = true) :=
  ⟨hostLow, h1, 7, 1, 1, 6, 50, 10, dieLow, Dolly.reset, by exact ⟨by decide, by decide, by decide, by decide, by decide, by decide, by decide, by decide, by decide, by decide, by decide, by decide, by decide, by decide, by decide⟩⟩

theorem meets_DollyCommands_18 : ∃ (s : State) (h : Hdr) (a : Nat) (b : Nat) (l : Nat), (served s h 0x0507) ∧ (1000000 ≤ a) ∧ (a ≤ 5000000) ∧ (1000000 ≤ b) ∧ (b ≤ 5000000) ∧ (10 ≤ l) ∧ (l ≤ 10000) :=
  ⟨ready, h1, 4600000, 2000000, 1000, by decide, by decide, by decide, by decide, by decide, by decide, by decide⟩

theorem meets_DollyCommands_19 : ∃ (s : State) (h : Hdr) (e : Nat) (p : Nat) (i : Nat) (m : Nat), (served s h 0x0509) ∧ (e ≤ 1) ∧ (10 ≤ p) ∧ (p ≤ 3600) ∧ (50 ≤ i) ∧ (i ≤ 3000) ∧ (10 ≤ m) ∧ (m ≤ 3600) :=
  ⟨ready, h1, 1, 60, 500, 600, by decide, by decide, by decide, by decide, by decide, by decide, by decide, by decide⟩

theorem meets_DollyCommands_20 : ∃ (s : State) (h : Hdr) (k : Nat) (d : SegDie), (served s h 0x050A) ∧ (s.die? k = some d) :=
  ⟨ready, h1, 7, SegDie.start 7 24 Trim.none [] 0, by exact ⟨by decide, by decide⟩⟩

theorem meets_DollyCommands_21 : ∃ (s : State) (h : Hdr) (k : Nat), (served s h 0x050A) ∧ (s.die? k = none) :=
  ⟨ready, h1, 1, by decide, by decide⟩

theorem meets_DollyCommands_22 : ∃ (s : State) (h : Hdr) (k : Nat) (d : SegDie), (served s h 0x050B) ∧ (s.die? k = some d) :=
  ⟨ready, h1, 7, SegDie.start 7 24 Trim.none [] 0, by exact ⟨by decide, by decide⟩⟩

theorem meets_DollyCommands_23 : ∃ (s : State) (h : Hdr) (k : Nat), (served s h 0x050B) ∧ (s.die? k = none) :=
  ⟨ready, h1, 8, by decide, by decide⟩

theorem meets_DollyEvents_1 : ∃ (s : State) (g : Take) (r : List Take), (s.power.state = .run) ∧ (s.balance.hostMode = false) ∧ (s.balance.goal ≠ 0) ∧ (s.balance.planned = true) ∧ (s.slates.late = g :: r) :=
  ⟨planLate, takeP, [], by decide, by decide, by decide, by decide, by decide⟩

theorem meets_DollyEvents_2 : ∃ (s : State) (g : Take), (s.power.state = .run) ∧ (s.balance.hostMode = false) ∧ (s.balance.goal ≠ 0) ∧ (s.balance.planned = true) ∧ (s.slates.late = []) ∧ ((s.slates.takes.find? fun t => t.published && t.prepared && !t.planned) = some g) :=
  ⟨planning, takeP, by decide, by decide, by decide, by decide, by decide, by decide⟩

theorem meets_DollyEvents_3 : ∃ (s : State), (s.balance.hostMode = true ∨ s.balance.goal = 0 ∨ s.power.state ≠ .run ∨ s.balance.planned = false) :=
  ⟨ready, by decide⟩

theorem meets_DollyEvents_4 : ∃ (s : State) (k : Nat) (j : Nat) (d : SegDie) (y : Dolly) (i : PlanItem), (s.die? k = some d) ∧ (d.dolly? j = some y) ∧ (s.power.state = .run) ∧ (s.balance.planned = true) ∧ (i.mode = 0 ∨ dollyHeld s d j = false) ∧ ((s.balance.items.find? fun i => i.die == k && i.dolly == j && (i.released || i.deps.isEmpty)) = some i) :=
  ⟨withItem, 7, 4, dieRest, Dolly.reset, itemA, by exact ⟨by decide, by decide, by decide, by decide, by decide, by decide⟩⟩

theorem meets_DollyEvents_5 : ∃ (s : State) (k : Nat) (j : Nat) (d : SegDie) (y : Dolly) (i : PlanItem) (p : DollyTransfer), (s.die? k = some d) ∧ (d.dolly? j = some y) ∧ (y.transfer = some p) ∧ (s.power.state = .run) ∧ (s.balance.planned = true) ∧ (dollyHeld s d j = false) ∧ ((s.balance.items.find? fun i => i.die == k && i.dolly == j && (i.released || i.deps.isEmpty)) = some i) ∧ (i.mode = p.mode) ∧ (i.cell = p.cell) ∧ (p.lease = true) ∧ (i.mode ≠ 0) :=
  ⟨withRenewal, 7, 1, dieTransfer, dollyTransfer, itemB, transferA, by exact ⟨by decide, by decide, by decide, by decide, by decide, by decide, by decide, by decide, by decide, by decide, by decide⟩⟩

theorem meets_DollyEvents_6 : ∃ (s : State) (k : Nat) (j : Nat) (d : SegDie), (s.die? k = some d) ∧ ((s.balance.items.find? fun i => i.die == k && i.dolly == j && (i.released || i.deps.isEmpty)) = none) :=
  ⟨ready, 7, 1, SegDie.start 7 24 Trim.none [] 0, by exact ⟨by decide, by decide⟩⟩

theorem meets_DollyEvents_7 : ∃ (s : State) (k : Nat) (j : Nat) (d : SegDie) (y : Dolly) (p : DollyTransfer), (s.die? k = some d) ∧ (d.dolly? j = some y) ∧ (y.transfer = some p) ∧ (p.lease = true) ∧ (p.endAt ≤ s.now) :=
  ⟨{ stepTransfer with now := 250 * msT }, 7, 1, dieTransfer, dollyTransfer, transferA, by exact ⟨by decide, by decide, by decide, by decide, by decide⟩⟩

theorem meets_DollyEvents_8 : ∃ (s : State) (k : Nat) (j : Nat) (d : SegDie) (y : Dolly) (p : DollyTransfer), (s.die? k = some d) ∧ (d.dolly? j = some y) ∧ (y.transfer = some p) ∧ (s.now < p.endAt) :=
  ⟨stepTransfer, 7, 1, dieTransfer, dollyTransfer, transferA, by exact ⟨by decide, by decide, by decide, by decide⟩⟩

theorem meets_DollyEvents_9 : ∃ (s : State) (k : Nat) (j : Nat) (v : Int) (d : SegDie) (y : Dolly) (p : DollyTransfer), (s.die? k = some d) ∧ (d.dolly? j = some y) ∧ (y.transfer = some p) ∧ (p.holds = false) ∧ (p.check = false) ∧ (p.qlimit ≠ 0) ∧ (p.qlimit ≤ v.natAbs) :=
  ⟨{ stepTransfer with segs := [{ dieTransfer with dollies := [{ dollyTransfer with transfer := some { transferA with qlimit := 5 } }] }] }, 7, 1, -5, { dieTransfer with dollies := [{ dollyTransfer with transfer := some { transferA with qlimit := 5 } }] }, { dollyTransfer with transfer := some { transferA with qlimit := 5 } }, { transferA with qlimit := 5 }, by exact ⟨by decide, by decide, by decide, by decide, by decide, by decide, by decide⟩⟩

theorem meets_DollyEvents_10 : ∃ (s : State) (k : Nat) (j : Nat) (d : SegDie) (y : Dolly) (p : DollyTransfer), (s.die? k = some d) ∧ (d.dolly? j = some y) ∧ (y.transfer = some p) ∧ (p.holds = false) ∧ (p.check = false) ∧ (p.qlimit = 0) ∧ (p.lease = false) ∧ (p.endAt ≤ s.now) :=
  ⟨{ stepTransfer with now := 250 * msT, segs := [{ dieTransfer with dollies := [{ dollyTransfer with transfer := some { transferA with lease := false } }] }] }, 7, 1, { dieTransfer with dollies := [{ dollyTransfer with transfer := some { transferA with lease := false } }] }, { dollyTransfer with transfer := some { transferA with lease := false } }, { transferA with lease := false }, by exact ⟨by decide, by decide, by decide, by decide, by decide, by decide, by decide, by decide⟩⟩

theorem meets_DollyEvents_11 : ∃ (s : State) (k : Nat) (j : Nat) (d : SegDie) (y : Dolly) (p : DollyTransfer), (s.die? k = some d) ∧ (d.dolly? j = some y) ∧ (y.transfer = some p) :=
  ⟨stepTransfer, 7, 1, dieTransfer, dollyTransfer, transferA, by exact ⟨by decide, by decide, by decide⟩⟩

theorem meets_DollyEvents_12 : ∃ (s : State) (k : Nat) (j : Nat) (d : SegDie) (y : Dolly) (p : DollyTransfer), (s.die? k = some d) ∧ (d.dolly? j = some y) ∧ (y.transfer = some p) :=
  ⟨stepTransfer, 7, 1, dieTransfer, dollyTransfer, transferA, by exact ⟨by decide, by decide, by decide⟩⟩

theorem meets_DollyEvents_13 : ∃ (s : State) (k : Nat) (j : Nat) (d : SegDie) (y : Dolly) (p : DollyTransfer), (s.die? k = some d) ∧ (d.dolly? j = some y) ∧ (y.transfer = some p) :=
  ⟨stepTransfer, 7, 1, dieTransfer, dollyTransfer, transferA, by exact ⟨by decide, by decide, by decide⟩⟩

theorem meets_DollyEvents_14 : ∃ (s : State) (k : Nat) (j : Nat) (d : SegDie) (y : Dolly) (p : DollyTransfer) (mv : Nat), (s.die? k = some d) ∧ (d.dolly? j = some y) ∧ (y.transfer = some p) ∧ (outside (2000 * (spanCells s d y.straddle).length) (4600 * (spanCells s d y.straddle).length) mv = true) :=
  ⟨stepTransfer, 7, 1, dieTransfer, dollyTransfer, transferA, 110401, by exact ⟨by decide, by decide, by decide, by decide⟩⟩

theorem meets_DollyEvents_15 : ∃ (s : State) (k : Nat) (j : Nat) (d : SegDie) (y : Dolly) (p : DollyTransfer) (mv : Nat), (s.die? k = some d) ∧ (d.dolly? j = some y) ∧ (y.transfer = some p) ∧ (outside (2000 * (spanCells s d y.straddle).length) (4600 * (spanCells s d y.straddle).length) mv = false) :=
  ⟨stepTransfer, 7, 1, dieTransfer, dollyTransfer, transferA, 110400, by exact ⟨by decide, by decide, by decide, by decide⟩⟩

theorem meets_DollyEvents_16 : ∃ (s : State) (k : Nat) (d : SegDie), (s.die? k = some d) ∧ (d.unpowered = false) ∧ (d.stopped = false) ∧ ((isDark s && !d.sleep.awake) = false) :=
  ⟨ready, 7, SegDie.start 7 24 Trim.none [] 0, by exact ⟨by decide, by decide, by decide, by decide⟩⟩

theorem meets_DollyEvents_17 : ∃ (s : State) (k : Nat) (j : Nat) (d : SegDie) (y : Dolly) (p : DollyTransfer), (s.die? k = some d) ∧ (d.dolly? j = some y) ∧ (y.transfer = some p) ∧ (p.check = true) ∧ (p.endAt ≤ s.now) :=
  ⟨{ checking with now := 250 * msT }, 7, 1, dieChecking, dollyChecking, transferC, by exact ⟨by decide, by decide, by decide, by decide, by decide⟩⟩

theorem meets_DollyEvents_18 : ∃ (s : State) (k : Nat) (j : Nat) (d : SegDie) (y : Dolly) (p : DollyTransfer), (s.die? k = some d) ∧ (d.dolly? j = some y) ∧ (y.transfer = some p) ∧ (p.check = true) ∧ (p.endAt ≤ s.now) :=
  ⟨{ checking with now := 250 * msT }, 7, 1, dieChecking, dollyChecking, transferC, by exact ⟨by decide, by decide, by decide, by decide, by decide⟩⟩

theorem meets_DollyEvents_19 : ∃ (s : State) (k : Nat) (a : Nat) (d : SegDie), (s.die? k = some d) ∧ (d.calmAt = some a) ∧ (a + 2 * secT ≤ s.now) :=
  ⟨{ ready with now := 2 * secT, segs := [{ dieS6 with calmAt := some 0 }] }, 7, 0, { dieS6 with calmAt := some 0 }, by exact ⟨by decide, by decide, by decide⟩⟩

theorem meets_SleepBalancing_1 : ∃ (s : State) (k : Nat) (p : Nat) (a : Nat) (b : Nat) (i : Nat) (m : Nat) (d : SegDie) (w : Nat), (s.die? k = some d) ∧ (d.sleep.cfg = some (p, a, b, i, m)) ∧ (s.power.state = .sleep) ∧ (d.sleep.awake = false) ∧ (d.unpowered = false) ∧ (d.sleep.nextWake = some w) ∧ (w ≤ s.now) :=
  ⟨dozing, 7, 60, 3900000, 10000, 500, 600, dieDozing, 0, by exact ⟨by decide, by decide, by decide, by decide, by decide, by decide, by decide⟩⟩

theorem meets_SleepBalancing_2 : ∃ (s : State) (k : Nat) (p : Nat) (a : Nat) (b : Nat) (i : Nat) (m : Nat) (d : SegDie), (s.die? k = some d) ∧ (d.sleep.cfg = some (p, a, b, i, m)) ∧ (d.sleep.awake = true) :=
  ⟨awakened, 7, 60, 3900000, 10000, 500, 600, dieAwake, by exact ⟨by decide, by decide, by decide⟩⟩

theorem meets_SleepBalancing_3 : ∃ (s : State) (k : Nat) (p : Nat) (a : Nat) (b : Nat) (i : Nat) (m : Nat) (d : SegDie), (s.die? k = some d) ∧ (d.sleep.cfg = some (p, a, b, i, m)) ∧ (d.sleep.awake = true) ∧ (nth d.refOk 0 false = true) ∧ (d.sleep.takeAt + 6400 * usT ≤ s.now) :=
  ⟨awakened, 7, 60, 3900000, 10000, 500, 600, dieAwake, by exact ⟨by decide, by decide, by decide, by decide, by decide⟩⟩

theorem meets_SleepBalancing_4 : ∃ (s : State) (k : Nat) (p : Nat) (a : Nat) (b : Nat) (i : Nat) (m : Nat) (d : SegDie), (s.die? k = some d) ∧ (d.sleep.cfg = some (p, a, b, i, m)) ∧ (d.sleep.awake = true) ∧ (nth d.refOk 0 false = true) ∧ (d.sleep.takeAt + 6400 * usT ≤ s.now) :=
  ⟨awakened, 7, 60, 3900000, 10000, 500, 600, dieAwake, by exact ⟨by decide, by decide, by decide, by decide, by decide⟩⟩

theorem meets_SleepBalancing_5 : ∃ (s : State) (k : Nat) (p : Nat) (a : Nat) (b : Nat) (i : Nat) (m : Nat) (l : List Int) (d : SegDie), (s.die? k = some d) ∧ (d.sleep.cfg = some (p, a, b, i, m)) ∧ (d.sleep.awake = true) ∧ (nth d.refOk 0 false = true) ∧ (d.sleep.takeAt + 6400 * usT ≤ s.now) ∧ (∀ v ∈ l, v ≤ (a : Int) + b) ∧ (∀ y ∈ d.dollies, y.transfer = none) :=
  ⟨awakened, 7, 60, 3900000, 10000, 500, 600, List.replicate 24 3910000, dieAwake, by exact ⟨by decide, by decide, by decide, by decide, by decide, by decide, by decide⟩⟩

theorem meets_SleepBalancing_6 : ∃ (s : State) (k : Nat) (d : SegDie), (s.die? k = some d) ∧ (d.sleep.cfg = none) :=
  ⟨sleeping, 7, SegDie.start 7 24 Trim.none [] 0, by exact ⟨by decide, by decide⟩⟩

theorem meets_SleepBalancing_7 : ∃ (s : State) (k : Nat) (d : SegDie), (s.die? k = some d) ∧ (d.sleep.awake = true) ∧ (d.sleep.takeAt + secT ≤ s.now) :=
  ⟨awakened, 7, dieAwake, by exact ⟨by decide, by decide, by decide⟩⟩

theorem meets_SleepBalancing_8 : ∃ (s : State) (k : Nat) (d : SegDie), (s.die? k = some d) ∧ (s.now < d.sleep.takeAt + secT) :=
  ⟨{ awakened with now := 1000 }, 7, dieAwake, by exact ⟨by decide, by decide⟩⟩

theorem meets_SleepBalancing_9 : ∃ (s : State) (k : Nat) (p : Nat) (a : Nat) (b : Nat) (i : Nat) (m : Nat) (d : SegDie), (s.die? k = some d) ∧ (d.sleep.cfg = some (p, a, b, i, m)) ∧ (d.sleep.awake = true) ∧ (d.sleep.wokeAt + m * secT ≤ s.now) :=
  ⟨{ awakened with now := 600 * secT }, 7, 60, 3900000, 10000, 500, 600, dieAwake, by exact ⟨by decide, by decide, by decide, by decide⟩⟩

theorem meets_SleepBalancing_10 : ∃ (s : State) (k : Nat) (p : Nat) (a : Nat) (b : Nat) (i : Nat) (m : Nat) (d : SegDie), (s.die? k = some d) ∧ (d.sleep.cfg = some (p, a, b, i, m)) ∧ (s.now < d.sleep.wokeAt + m * secT) :=
  ⟨awakened, 7, 60, 3900000, 10000, 500, 600, dieAwake, by exact ⟨by decide, by decide, by decide⟩⟩

theorem meets_ImpedanceCommands_1 : ∃ (s : State) (h : Hdr) (x : Nat) (t : Nat) (m : Nat) (i : Nat) (v : Nat) (u : Nat) (fs : List Nat), (served s h 0x0601) ∧ (x ≤ 2) ∧ (1 ≤ fs.length) ∧ (fs.length ≤ 32) ∧ (1 ≤ t) ∧ (t ≤ 8) ∧ (1 ≤ m) ∧ (m ≤ 16) ∧ (100 ≤ i) ∧ (i ≤ 1000) ∧ (50 ≤ v) ∧ (v ≤ 5000) ∧ (u < 2 ^ 144) ∧ (s.imp.run ≠ none) :=
  ⟨impRunning, h1, 2, 2, 4, 500, 50, 1, [1000], by decide, by decide, by decide, by decide, by decide, by decide, by decide, by decide, by decide, by decide, by decide, by decide, by decide, by decide⟩

theorem meets_ImpedanceCommands_2 : ∃ (s : State) (h : Hdr) (x : Nat) (t : Nat) (m : Nat) (i : Nat) (v : Nat) (u : Nat) (fs : List Nat), (served s h 0x0601) ∧ (x ≤ 2) ∧ (1 ≤ fs.length) ∧ (fs.length ≤ 32) ∧ (1 ≤ t) ∧ (t ≤ 8) ∧ (1 ≤ m) ∧ (m ≤ 16) ∧ (100 ≤ i) ∧ (i ≤ 1000) ∧ (50 ≤ v) ∧ (v ≤ 5000) ∧ (u < 2 ^ 144) ∧ (s.imp.run = none) ∧ (x = 0) ∧ (sourceThere s = false) :=
  ⟨ready, h1, 0, 2, 4, 500, 50, 1, [4000000], by decide, by decide, by decide, by decide, by decide, by decide, by decide, by decide, by decide, by decide, by decide, by decide, by decide, by decide, by decide, by decide⟩

theorem meets_ImpedanceCommands_3 : ∃ (s : State) (h : Hdr) (x : Nat) (t : Nat) (m : Nat) (a : Nat) (i : Nat) (v : Nat) (u : Nat) (fs : List Nat), (served s h 0x0601) ∧ (x ≤ 2) ∧ (1 ≤ fs.length) ∧ (fs.length ≤ 32) ∧ (1 ≤ t) ∧ (t ≤ 8) ∧ (1 ≤ m) ∧ (m ≤ 16) ∧ (100 ≤ i) ∧ (i ≤ 1000) ∧ (50 ≤ v) ∧ (v ≤ 5000) ∧ (u < 2 ^ 144) ∧ (s.imp.run = none) ∧ (x = 1) ∧ ((s.die? a).isNone = true) :=
  ⟨ready, h1, 1, 2, 4, 1, 500, 50, 1, [1000], by decide, by decide, by decide, by decide, by decide, by decide, by decide, by decide, by decide, by decide, by decide, by decide, by decide, by decide, by decide, by decide⟩

theorem meets_ImpedanceCommands_4 : ∃ (s : State) (h : Hdr) (x : Nat) (t : Nat) (m : Nat) (a : Nat) (k : Nat) (i : Nat) (v : Nat) (u : Nat) (fs : List Nat), (served s h 0x0601) ∧ (x ≤ 2) ∧ (1 ≤ fs.length) ∧ (fs.length ≤ 32) ∧ (1 ≤ t) ∧ (t ≤ 8) ∧ (1 ≤ m) ∧ (m ≤ 16) ∧ (100 ≤ i) ∧ (i ≤ 1000) ∧ (50 ≤ v) ∧ (v ≤ 5000) ∧ (u < 2 ^ 144) ∧ (s.imp.run = none) ∧ (x = 1) ∧ (¬ (x = 1 ∧ (s.die? a).isNone = true)) ∧ (currentCal s a k = false) :=
  ⟨ready, h1, 1, 2, 4, 7, 31, 500, 50, 1, [1000], by decide, by decide, by decide, by decide, by decide, by decide, by decide, by decide, by decide, by decide, by decide, by decide, by decide, by decide, by decide, by decide, by decide⟩

theorem meets_ImpedanceCommands_5 : ∃ (s : State) (h : Hdr) (x : Nat) (t : Nat) (m : Nat) (a : Nat) (k : Nat) (i : Nat) (v : Nat) (u : Nat) (fs : List Nat), (served s h 0x0601) ∧ (x ≤ 2) ∧ (1 ≤ fs.length) ∧ (fs.length ≤ 32) ∧ (1 ≤ t) ∧ (t ≤ 8) ∧ (1 ≤ m) ∧ (m ≤ 16) ∧ (100 ≤ i) ∧ (i ≤ 1000) ∧ (50 ≤ v) ∧ (v ≤ 5000) ∧ (u < 2 ^ 144) ∧ (s.imp.run = none) ∧ (¬ (x = 0 ∧ sourceThere s = false)) ∧ (¬ (x = 1 ∧ (s.die? a).isNone = true)) ∧ (¬ (x = 1 ∧ currentCal s a k = false)) ∧ ((fs.any (freqBad s x) || (decide (x = 1) && auxSlow s a k)) = true) :=
  ⟨ready, h1, 2, 2, 4, 7, 31, 500, 50, 1, [49], by decide, by decide, by decide, by decide, by decide, by decide, by decide, by decide, by decide, by decide, by decide, by decide, by decide, by decide, by decide, by decide, by decide, by decide⟩

theorem meets_ImpedanceCommands_6 : ∃ (s : State) (h : Hdr) (x : Nat) (t : Nat) (m : Nat) (a : Nat) (k : Nat) (i : Nat) (v : Nat) (u : Nat) (fs : List Nat), (served s h 0x0601) ∧ (x ≤ 2) ∧ (1 ≤ fs.length) ∧ (fs.length ≤ 32) ∧ (1 ≤ t) ∧ (t ≤ 8) ∧ (1 ≤ m) ∧ (m ≤ 16) ∧ (100 ≤ i) ∧ (i ≤ 1000) ∧ (50 ≤ v) ∧ (v ≤ 5000) ∧ (u < 2 ^ 144) ∧ (s.imp.run = none) ∧ (¬ (x = 0 ∧ sourceThere s = false)) ∧ (¬ (x = 1 ∧ (s.die? a).isNone = true)) ∧ (¬ (x = 1 ∧ currentCal s a k = false)) ∧ ((fs.any (freqBad s x) || (decide (x = 1) && auxSlow s a k)) = false) ∧ ((s.segs.all fun d => (dieCells s u d).isEmpty) = true) :=
  ⟨ready, h1, 2, 2, 4, 7, 31, 500, 50, 0, [1000], by decide, by decide, by decide, by decide, by decide, by decide, by decide, by decide, by decide, by decide, by decide, by decide, by decide, by decide, by decide, by decide, by decide, by decide, by decide⟩

theorem meets_ImpedanceCommands_7 : ∃ (s : State) (h : Hdr) (x : Nat) (t : Nat) (m : Nat) (a : Nat) (k : Nat) (i : Nat) (v : Nat) (u : Nat) (fs : List Nat), (served s h 0x0601) ∧ (x ≤ 2) ∧ (1 ≤ fs.length) ∧ (fs.length ≤ 32) ∧ (1 ≤ t) ∧ (t ≤ 8) ∧ (1 ≤ m) ∧ (m ≤ 16) ∧ (100 ≤ i) ∧ (i ≤ 1000) ∧ (50 ≤ v) ∧ (v ≤ 5000) ∧ (u < 2 ^ 144) ∧ (s.imp.run = none) ∧ (¬ (x = 0 ∧ sourceThere s = false)) ∧ (¬ (x = 1 ∧ (s.die? a).isNone = true)) ∧ (¬ (x = 1 ∧ currentCal s a k = false)) ∧ ((fs.any (freqBad s x) || (decide (x = 1) && auxSlow s a k)) = false) ∧ ((s.segs.all fun d => (dieCells s u d).isEmpty) = false) ∧ (1200000 * (nominalFrac t m fs).2 < roundsOf s x u * (nominalFrac t m fs).1) :=
  ⟨ready, h1, 2, 8, 16, 7, 31, 500, 50, 7, [50], by decide, by decide, by decide, by decide, by decide, by decide, by decide, by decide, by decide, by decide, by decide, by decide, by decide, by decide, by decide, by decide, by decide, by decide, by decide, by decide⟩

theorem meets_ImpedanceCommands_8 : ∃ (s : State) (h : Hdr) (x : Nat) (t : Nat) (m : Nat) (a : Nat) (k : Nat) (i : Nat) (v : Nat) (u : Nat) (fs : List Nat), (served s h 0x0601) ∧ (x ≤ 2) ∧ (1 ≤ fs.length) ∧ (fs.length ≤ 32) ∧ (1 ≤ t) ∧ (t ≤ 8) ∧ (1 ≤ m) ∧ (m ≤ 16) ∧ (100 ≤ i) ∧ (i ≤ 1000) ∧ (50 ≤ v) ∧ (v ≤ 5000) ∧ (u < 2 ^ 144) ∧ (s.imp.run = none) ∧ (¬ (x = 0 ∧ sourceThere s = false)) ∧ (¬ (x = 1 ∧ (s.die? a).isNone = true)) ∧ (¬ (x = 1 ∧ currentCal s a k = false)) ∧ ((fs.any (freqBad s x) || (decide (x = 1) && auxSlow s a k)) = false) ∧ ((s.segs.all fun d => (dieCells s u d).isEmpty) = false) ∧ (roundsOf s x u * (nominalFrac t m fs).1 ≤ 1200000 * (nominalFrac t m fs).2) :=
  ⟨ready, h1, 2, 2, 4, 7, 31, 500, 50, 33, [100000, 300000], by decide, by decide, by decide, by decide, by decide, by decide, by decide, by decide, by decide, by decide, by decide, by decide, by decide, by decide, by decide, by decide, by decide, by decide, by decide, by decide⟩

theorem meets_ImpedanceCommands_9 : ∃ (s : State) (h : Hdr), (served s h 0x0602) ∧ (s.power.state ≠ .run ∨ s.imp.hostMode = true) :=
  ⟨impHost, h1, by decide, by decide⟩

theorem meets_ImpedanceCommands_10 : ∃ (s : State) (h : Hdr), (served s h 0x0602) ∧ (s.power.state = .run) ∧ (s.imp.hostMode = false) ∧ (s.imp.run ≠ none) :=
  ⟨impRunning, h1, by decide, by decide, by decide, by decide⟩

theorem meets_ImpedanceCommands_11 : ∃ (s : State) (h : Hdr), (served s h 0x0602) ∧ (s.power.state = .run) ∧ (s.imp.hostMode = false) ∧ (s.imp.run = none) ∧ (s.imp.def_ = none) :=
  ⟨ready, h1, by decide, by decide, by decide, by decide, by decide⟩

theorem meets_ImpedanceCommands_12 : ∃ (s : State) (h : Hdr) (n : Nat) (f : ImpDef), (served s h 0x0602) ∧ (s.power.state = .run) ∧ (s.imp.hostMode = false) ∧ (s.imp.run = none) ∧ (s.imp.def_ = some f) ∧ (f.points ≤ n) :=
  ⟨impDefined, h1, 2, impDefA, by decide, by decide, by decide, by decide, by decide, by decide⟩

theorem meets_ImpedanceCommands_13 : ∃ (s : State) (h : Hdr) (n : Nat) (f : ImpDef), (served s h 0x0602) ∧ (canOpen s h) ∧ (s.power.state = .run) ∧ (s.imp.hostMode = false) ∧ (s.imp.run = none) ∧ (s.imp.def_ = some f) ∧ (n < f.points) :=
  ⟨impDefined, h1, 1, impDefA, by decide, by decide, by decide, by decide, by decide, by decide, by decide⟩

theorem meets_ImpedanceCommands_14 : ∃ (s : State) (h : Hdr), (served s h 0x0603) ∧ (s.imp.def_ = none) :=
  ⟨ready, h1, by decide, by decide⟩

theorem meets_ImpedanceCommands_15 : ∃ (s : State) (h : Hdr) (f : ImpDef), (served s h 0x0603) ∧ (s.imp.def_ = some f) ∧ (s.imp.run = none) :=
  ⟨impDefined, h1, impDefA, by decide, by decide, by decide⟩

theorem meets_ImpedanceCommands_16 : ∃ (s : State) (h : Hdr) (f : ImpDef) (r : ImpRun), (served s h 0x0603) ∧ (s.imp.def_ = some f) ∧ (s.imp.run = some r) :=
  ⟨impRunning, h1, impDefA, impRunA, by decide, by decide, by decide⟩

theorem meets_ImpedanceCommands_17 : ∃ (s : State) (h : Hdr) (n : Nat) (f : ImpDef), (served s h 0x0604) ∧ (s.imp.def_ = none ∨ s.imp.def_ = some f ∧ f.points ≤ n) :=
  ⟨impDefined, h1, 2, impDefA, by decide, by decide⟩

theorem meets_ImpedanceCommands_18 : ∃ (s : State) (h : Hdr) (n : Nat) (e : Nat) (f : ImpDef), (served s h 0x0604) ∧ (canOpen s h) ∧ (s.imp.def_ = some f) ∧ (n < f.points) ∧ ((s.imp.points.filter fun p => decide (n ≤ p.1) && decide (p.1 ≤ e)) = []) :=
  ⟨impDefined, h1, 0, 65535, impDefA, by decide, by decide, by decide, by decide, by decide⟩

theorem meets_ImpedanceCommands_19 : ∃ (s : State) (h : Hdr) (n : Nat) (e : Nat) (f : ImpDef), (served s h 0x0604) ∧ (canOpen s h) ∧ (s.imp.def_ = some f) ∧ (n < f.points) ∧ ((s.imp.points.filter fun p => decide (n ≤ p.1) && decide (p.1 ≤ e)) ≠ []) :=
  ⟨impStored, h1, 0, 0, impDefA, by decide, by decide, by decide, by decide, by decide⟩

theorem meets_ImpedanceCommands_20 : ∃ (s : State) (h : Hdr) (e : Nat) (l : List TempCoeff), (served s h 0x0605) ∧ (1 ≤ l.length) ∧ (l.length ≤ 19) ∧ (rangeUnmapped s e l.length = false) :=
  ⟨ready, h1, 144, [{ a0 := 1, a1 := 2, a2 := 0xBF800000 }], by decide, by decide, by decide, by decide⟩

theorem meets_ImpedanceCommands_21 : ∃ (s : State) (h : Hdr) (e : Nat) (l : List TempCoeff), (served s h 0x0605) ∧ (1 ≤ l.length) ∧ (l.length ≤ 19) ∧ (rangeUnmapped s e l.length = true) :=
  ⟨ready, h1, 145, [{ a0 := 1, a1 := 2, a2 := 0 }], by decide, by decide, by decide, by decide⟩

theorem meets_ImpedanceCommands_22 : ∃ (s : State) (h : Hdr) (u : Nat), (served s h 0x0607) ∧ (s.power.state ≠ .run) ∧ (10 ≤ u) ∧ (u ≤ 600000) :=
  ⟨sleeping, h1, 10, by decide, by decide, by decide, by decide⟩

theorem meets_ImpedanceCommands_23 : ∃ (s : State) (h : Hdr) (k : Nat) (u : Nat) (d : SegDie), (served s h 0x0607) ∧ (s.power.state = .run) ∧ (s.die? k = some d) ∧ (s.imp.hostMode = false) ∧ (10 ≤ u) ∧ (u ≤ 600000) :=
  ⟨ready, h1, 7, 10, SegDie.start 7 24 Trim.none [] 0, by exact ⟨by decide, by decide, by decide, by decide, by decide, by decide⟩⟩

theorem meets_ImpedanceCommands_24 : ∃ (s : State) (h : Hdr) (k : Nat) (j : Nat) (x : Nat) (u : Nat) (d : SegDie) (y : Dolly), (served s h 0x0607) ∧ (canOpen s h) ∧ (s.power.state = .run) ∧ (s.die? k = some d) ∧ (s.imp.hostMode = true) ∧ (d.dolly? j = some y) ∧ (orderBlock s d j y 3 x = none) ∧ (10 ≤ u) ∧ (u ≤ 600000) :=
  ⟨impHost, h1, 7, 1, 6, 600000, dieRest, Dolly.reset, by exact ⟨by decide, by decide, by decide, by decide, by decide, by decide, by decide, by decide, by decide⟩⟩

theorem meets_ImpedanceEvents_1 : ∃ (s : State), (s.imp.run = none) :=
  ⟨ready, by decide⟩

theorem meets_ImpedanceEvents_2 : ∃ (s : State) (f : ImpDef) (r : ImpRun) (x : Nat), (s.imp.run = some r) ∧ (s.imp.def_ = some f) ∧ (refLost s f = some x) :=
  ⟨{ impBusy with imp := { impBusy.imp with def_ := some { impDefA with source := 1 } } }, { impDefA with source := 1 }, impRunA, 31, by decide, by decide, by decide⟩

theorem meets_ImpedanceEvents_3 : ∃ (s : State) (f : ImpDef) (r : ImpRun), (s.imp.run = some r) ∧ (s.imp.def_ = some f) ∧ (refLost s f = none) ∧ ((opOf s r.hdr).any (·.stop) = true) :=
  ⟨impAborting, impDefA, impRunA, by decide, by decide, by decide, by decide⟩

theorem meets_ImpedanceEvents_4 : ∃ (s : State) (f : ImpDef) (r : ImpRun), (s.imp.run = some r) ∧ (s.imp.def_ = some f) ∧ (refLost s f = none) ∧ ((opOf s r.hdr).any (·.stop) = false) ∧ (sweepsDecided s (blockSpan f r r.tried).2 = false) :=
  ⟨impBusy, impDefA, impRunA, by decide, by decide, by decide, by decide, by decide⟩

theorem meets_ImpedanceEvents_5 : ∃ (s : State) (l : List SenseRun) (f : ImpDef) (r : ImpRun) (q : ImpRun) (p : State × ImpRun), (s.imp.run = some r) ∧ (s.imp.def_ = some f) ∧ (refLost s f = none) ∧ ((opOf s r.hdr).any (·.stop) = false) ∧ (sweepsDecided s (blockSpan f r r.tried).2 = true) ∧ (q = { r with tried := r.tried + 1, dies := r.dies.map (blockDie s f r l), acc := r.acc.filter fun a => decide (r.tried < a.block) }) ∧ (p = storeReady { s with imp := { s.imp with bad := s.imp.bad.filter fun b => decide ((blockSpan f r r.tried).2 ≤ b.2.1) } } f q false) ∧ ((q.dies.all fun x => decide (f.nblocks ≤ x.good)) = false) ∧ (q.tried < 3 * f.nblocks) :=
  ⟨{ impBusy with packTime := 10 ^ 12 }, [], impDefA, impRunA, (impTried ({ impBusy with packTime := 10 ^ 12 }) impRunA), (storeReady { ({ impBusy with packTime := 10 ^ 12 }) with imp := { ({ impBusy with packTime := 10 ^ 12 }).imp with bad := [] } } impDefA ((impTried ({ impBusy with packTime := 10 ^ 12 }) impRunA)) false), by exact ⟨by decide, by decide, by decide, by decide, by decide, by decide, rfl, by decide, by decide⟩⟩

theorem meets_ImpedanceEvents_6 : ∃ (s : State) (l : List SenseRun) (f : ImpDef) (r : ImpRun) (q : ImpRun) (p : State × ImpRun), (s.imp.run = some r) ∧ (s.imp.def_ = some f) ∧ (refLost s f = none) ∧ ((opOf s r.hdr).any (·.stop) = false) ∧ (sweepsDecided s (blockSpan f r r.tried).2 = true) ∧ (q = { r with tried := r.tried + 1, dies := r.dies.map (blockDie s f r l), acc := r.acc.filter fun a => decide (r.tried < a.block) }) ∧ (p = storeReady { s with imp := { s.imp with bad := s.imp.bad.filter fun b => decide ((blockSpan f r r.tried).2 ≤ b.2.1) } } f q false) ∧ ((q.dies.all fun x => decide (f.nblocks ≤ x.good)) = true ∨ 3 * f.nblocks ≤ q.tried) :=
  ⟨{ impBusy with packTime := 10 ^ 12, imp := { impBusy.imp with run := some { impRunA with tried := 11 } } }, [], impDefA, { impRunA with tried := 11 }, (impTried ({ impBusy with packTime := 10 ^ 12, imp := { impBusy.imp with run := some { impRunA with tried := 11 } } }) { impRunA with tried := 11 }), (storeReady { ({ impBusy with packTime := 10 ^ 12, imp := { impBusy.imp with run := some { impRunA with tried := 11 } } }) with imp := { ({ impBusy with packTime := 10 ^ 12, imp := { impBusy.imp with run := some { impRunA with tried := 11 } } }).imp with bad := [] } } impDefA ((impTried ({ impBusy with packTime := 10 ^ 12, imp := { impBusy.imp with run := some { impRunA with tried := 11 } } }) { impRunA with tried := 11 })) false), by exact ⟨by decide, by decide, by decide, by decide, by decide, by decide, rfl, by decide⟩⟩

theorem meets_ImpedanceEvents_7 : ∃ (s : State) (k : Nat) (j : Nat) (d : SegDie) (o : ModOrder), (s.die? k = some d) ∧ ((s.imp.orders.find? fun o => o.die == k && o.dolly == j) = some o) ∧ (((runs? d j).any fun t => t.hdr == some o.hdr && decide (s.now < t.endAt)) = false) :=
  ⟨ordered, 7, 1, SegDie.start 7 24 Trim.none [] 0, orderA, by exact ⟨by decide, by decide, by decide⟩⟩

theorem meets_ImpedanceEvents_8 : ∃ (s : State) (k : Nat) (j : Nat) (d : SegDie) (o : ModOrder), (s.die? k = some d) ∧ ((s.imp.orders.find? fun o => o.die == k && o.dolly == j) = some o) ∧ (((runs? d j).any fun t => t.hdr == some o.hdr && decide (s.now < t.endAt)) = true) :=
  ⟨orderRuns, 7, 1, dieOrder, orderA, by exact ⟨by decide, by decide, by decide⟩⟩

theorem meets_ImpedanceEvents_9 : ∃ (s : State) (k : Nat) (j : Nat) (d : SegDie), (s.die? k = some d) ∧ ((s.imp.orders.find? fun o => o.die == k && o.dolly == j) = none) :=
  ⟨ready, 7, 1, SegDie.start 7 24 Trim.none [] 0, by exact ⟨by decide, by decide⟩⟩

theorem meets_ImpedanceEvents_10 : ∃ (s : State) (r : PointRead) (l : List PointRead) (x : List Byte), (s.imp.reads = r :: l) ∧ (r.left = [x]) ∧ (streamRoom s 7 x.length 664 = true) :=
  ⟨impReading, pointReadA, [], zeros 44, by decide, by decide, by decide⟩

theorem meets_ImpedanceEvents_11 : ∃ (s : State) (r : PointRead) (l : List PointRead) (x : List Byte) (z : List (List Byte)), (s.imp.reads = r :: l) ∧ (r.left = x :: z) ∧ (z ≠ []) ∧ (streamRoom s 7 x.length 664 = true) :=
  ⟨{ impReading with imp := { impReading.imp with reads := [{ pointReadA with left := [zeros 44, zeros 56] }] } }, { pointReadA with left := [zeros 44, zeros 56] }, [], zeros 44, [zeros 56], by decide, by decide, by decide, by decide⟩

theorem meets_ImpedanceEvents_12 : ∃ (s : State) (r : PointRead) (l : List PointRead) (x : List Byte) (z : List (List Byte)), (s.imp.reads = r :: l) ∧ (r.left = x :: z) ∧ (streamRoom s 7 x.length 664 = false) :=
  ⟨{ impReading with port := { impReading.port with strWr := 4000 } }, pointReadA, [], zeros 44, [], by decide, by decide, by decide⟩

theorem meets_LinkCommands_1 : ∃ (s : State) (h : Hdr) (e : Nat), (served s h 0x0701) ∧ (e ≠ 1) ∧ (e ≤ 32) ∧ (primaryHead s = false) :=
  ⟨{ ready with chain := { ready.chain with secondary := true, addr := 5, count := 5 } }, h1, 32, by decide, by decide, by decide, by decide⟩

theorem meets_LinkCommands_2 : ∃ (s : State) (h : Hdr) (e : Nat), (served s h 0x0701) ∧ (e ≠ 1) ∧ (e ≤ 32) ∧ (primaryHead s = true) ∧ (anySweeps s = true) :=
  ⟨sweeping, h1, 0, by decide, by decide, by decide, by decide, by decide⟩

theorem meets_LinkCommands_3 : ∃ (s : State) (h : Hdr) (e : Nat), (served s h 0x0701) ∧ (e ≠ 1) ∧ (e ≤ 32) ∧ (primaryHead s = true) ∧ (anySweeps s = false) ∧ (s.chain.enumerating ≠ none) :=
  ⟨{ ready with chain := { ready.chain with enumerating := some (h1, 0, 0) } }, h1, 0, by decide, by decide, by decide, by decide, by decide, by decide⟩

theorem meets_LinkCommands_4 : ∃ (s : State) (h : Hdr) (e : Nat), (served s h 0x0701) ∧ (canOpen s h) ∧ (e ≠ 1) ∧ (e ≤ 32) ∧ (primaryHead s = true) ∧ (anySweeps s = false) ∧ (s.chain.enumerating = none) :=
  ⟨ready, h1, 2, by decide, by decide, by decide, by decide, by decide, by decide, by decide⟩

theorem meets_LinkCommands_5 : ∃ (s : State) (h : Hdr) (e : Nat) (k : Tick), (s.chain.enumerating = some (h, e, k)) ∧ (k + 10 * msT ≤ s.now) :=
  ⟨{ ready with now := 10 * msT, chain := { ready.chain with enumerating := some (h1, 0, 0) } }, h1, 0, 0, by decide, by decide⟩

theorem meets_LinkCommands_6 : ∃ (s : State), ((s.chain.enumerating.any fun x => decide (x.2.2 + 10 * msT ≤ s.now)) = false) :=
  ⟨{ ready with chain := { ready.chain with enumerating := some (h1, 0, 0) } }, by decide⟩

theorem meets_LinkCommands_7 : ∃ (s : State) (h : Hdr) (a : Nat) (n : Nat), (served s h 0x0702) ∧ (1 ≤ a) ∧ (a ≤ 32) ∧ (1 ≤ n) ∧ (n ≤ 16) :=
  ⟨ready, h1, 32, 16, by decide, by decide, by decide, by decide, by decide⟩

theorem meets_LinkCommands_8 : ∃ (s : State) (h : Hdr), (served s h 0x0703) :=
  ⟨ready, h1, by decide⟩

theorem meets_LinkCommands_9 : ∃ (s : State) (h : Hdr) (r : Nat) (f : Nat), (served s h 0x0704) ∧ (r ≤ 1) ∧ (16000 ≤ f) ∧ (f ≤ 40000) ∧ (primaryHead s = false) :=
  ⟨{ ready with chain := { ready.chain with secondary := true, addr := 5, count := 5 } }, h1, 1, 40000, by decide, by decide, by decide, by decide, by decide⟩

theorem meets_LinkCommands_10 : ∃ (s : State) (h : Hdr) (r : Nat) (f : Nat), (served s h 0x0704) ∧ (r ≤ 1) ∧ (16000 ≤ f) ∧ (f ≤ 40000) ∧ (primaryHead s = true) ∧ (anySweeps s = true) :=
  ⟨sweeping, h1, 1, 40000, by decide, by decide, by decide, by decide, by decide, by decide⟩

theorem meets_LinkCommands_11 : ∃ (s : State) (h : Hdr) (r : Nat) (f : Nat), (served s h 0x0704) ∧ (r ≤ 1) ∧ (16000 ≤ f) ∧ (f ≤ 40000) ∧ (primaryHead s = true) ∧ (anySweeps s = false) ∧ (s.chain.timebaseOp ≠ none) :=
  ⟨{ ready with chain := { ready.chain with timebaseOp := some h1 } }, h1, 1, 40000, by decide, by decide, by decide, by decide, by decide, by decide, by decide⟩

theorem meets_LinkCommands_12 : ∃ (s : State) (h : Hdr) (r : Nat) (f : Nat), (served s h 0x0704) ∧ (canOpen s h) ∧ (r ≤ 1) ∧ (16000 ≤ f) ∧ (f ≤ 40000) ∧ (primaryHead s = true) ∧ (anySweeps s = false) ∧ (s.chain.timebaseOp = none) :=
  ⟨ready, h1, 1, 16000, by decide, by decide, by decide, by decide, by decide, by decide, by decide, by decide⟩

theorem meets_LinkCommands_13 : ∃ (s : State) (h : Hdr), (served s h 0x0705) :=
  ⟨ready, h1, by decide⟩

theorem meets_LinkCommands_14 : ∃ (s : State) (h : Hdr) (p : Nat), (served s h 0x0705) ∧ (p < 2) :=
  ⟨ready, h1, 1, by decide, by decide⟩

theorem meets_LinkCommands_15 : ∃ (s : State) (h : Hdr) (p : Nat), (served s h 0x0705) ∧ (p ≤ 2) :=
  ⟨ready, h1, 2, by decide, by decide⟩

theorem meets_LinkCommands_16 : ∃ (s : State) (h : Hdr) (e : Nat), (served s h 0x0706) ∧ (e ≤ 1) :=
  ⟨ready, h1, 1, by decide, by decide⟩

theorem meets_LinkCommands_17 : ∃ (s : State) (h : Hdr), (served s h 0x0707) ∧ (primaryHead s = false) :=
  ⟨{ ready with chain := { ready.chain with secondary := true, addr := 5, count := 5 } }, h1, by decide, by decide⟩

theorem meets_LinkCommands_18 : ∃ (s : State) (h : Hdr), (served s h 0x0707) ∧ (primaryHead s = true) ∧ (keyGate s = false) :=
  ⟨{ ready with life := { ready.life with state := 4 } }, h1, by decide, by decide, by decide⟩

theorem meets_LinkCommands_19 : ∃ (s : State) (h : Hdr), (served s h 0x0707) ∧ (canOpen s h) ∧ (primaryHead s = true) ∧ (keyGate s = true) :=
  ⟨ready, h1, by decide, by decide, by decide, by decide⟩

theorem meets_LinkCommands_20 : ∃ (s : State) (h : Hdr) (o : Nat) (m : Nat), (served s h 0x0708) ∧ (o ≤ 1) ∧ (m % 4 = 0) ∧ (m < 256) ∧ (maskUnfitted s m = true) :=
  ⟨{ ready with segs := [dieS6] }, h1, 1, 4, by decide, by decide, by decide, by decide, by decide⟩

theorem meets_LinkCommands_21 : ∃ (s : State) (h : Hdr) (m : Nat), (served s h 0x0708) ∧ (m % 4 = 0) ∧ (m < 256) ∧ (m ≠ 0) ∧ (maskUnfitted s m = false) ∧ (leavesNone s m = true) :=
  ⟨ready, h1, 0xFC, by decide, by decide, by decide, by decide, by decide, by decide⟩

theorem meets_LinkCommands_22 : ∃ (s : State) (h : Hdr) (o : Nat) (m : Nat), (served s h 0x0708) ∧ (canOpen s h) ∧ (o ≤ 1) ∧ (m % 4 = 0) ∧ (m < 256) ∧ (maskUnfitted s m = false) ∧ (o = 1 ∨ m = 0 ∨ leavesNone s m = false) :=
  ⟨ready, h1, 0, 0x80, by decide, by decide, by decide, by decide, by decide, by decide, by decide⟩

theorem meets_LinkCommands_23 : ∃ (s : State) (h : Hdr) (a : Nat) (n : Nat), (served s h 0x0709) ∧ (1 ≤ a) ∧ (a ≤ 32) ∧ (1 ≤ n) ∧ (n ≤ 16) :=
  ⟨ready, h1, 17, 16, by decide, by decide, by decide, by decide, by decide⟩

theorem meets_LinkCommands_24 : ∃ (s : State), (s.chain.locked = false) :=
  ⟨{ ready with now := 10 * secT, chain := { ready.chain with locked := false, services := [(h1, 1, 0, 0)] } }, by decide⟩

theorem meets_LinkCommands_25 : ∃ (s : State), (s.chain.locked = true) :=
  ⟨ready, by decide⟩

theorem meets_RingMessages_1 : ∃ (s : State) (k : Nat) (d : SegDie) (e : ClapEvent) (l : List ClapEvent), (s.die? k = some d) ∧ (cUp s = true) ∧ (d.unpowered = false) ∧ (d.ringLost = false) ∧ (s.sweep.events = e :: l) :=
  ⟨clapOnce, 7, SegDie.start 7 24 Trim.none [] 0, { event := 0, clap := 100 }, [], by exact ⟨by decide, by decide, by decide, by decide, by decide⟩⟩

theorem meets_RingMessages_2 : ∃ (s : State) (k : Nat) (d : SegDie), (s.die? k = some d) ∧ (cUp s = false ∨ d.unpowered = true ∨ d.ringLost = true ∨ s.sweep.events = []) :=
  ⟨cutOff, 7, dieCut, by exact ⟨by decide, by decide⟩⟩

theorem meets_RingMessages_3 : ∃ (s : State) (k : Nat) (d : SegDie), (s.die? k = some d) :=
  ⟨clapOnce, 7, SegDie.start 7 24 Trim.none [] 0, by decide⟩

theorem meets_RingMessages_4 : ∃ (s : State) (k : Nat) (d : SegDie), (s.die? k = some d) :=
  ⟨cutOff, 7, dieCut, by decide⟩

theorem meets_RingMessages_5 : ∃ (s : State) (k : Nat) (d : SegDie), (s.die? k = some d) ∧ (cUp s = true) ∧ (d.ringLost = false) ∧ (d.unpowered = false) :=
  ⟨{ ready with packTime := 700 }, 7, SegDie.start 7 24 Trim.none [] 0, by exact ⟨by decide, by decide, by decide, by decide⟩⟩

theorem meets_RingMessages_6 : ∃ (s : State) (k : Nat) (d : SegDie), (s.die? k = some d) ∧ (d.ringLost = true ∨ d.unpowered = true) :=
  ⟨cutOff, 7, dieCut, by exact ⟨by decide, by decide⟩⟩

theorem meets_RingMessages_7 : ∃ (s : State) (k : Nat) (d : SegDie), (s.die? k = some d) ∧ (cUp s = true) :=
  ⟨ready, 7, SegDie.start 7 24 Trim.none [] 0, by exact ⟨by decide, by decide⟩⟩

theorem meets_RingMessages_8 : ∃ (s : State), (cUp s = true) :=
  ⟨ready, by decide⟩

theorem meets_RingMessages_9 : ∃ (s : State), (cUp s = true) :=
  ⟨ready, by decide⟩

theorem meets_RingMessages_10 : ∃ (s : State) (k : Nat) (d : SegDie), (s.die? k = some d) ∧ (cUp s = true) ∧ (injected s 2 = false) :=
  ⟨ready, 7, SegDie.start 7 24 Trim.none [] 0, by exact ⟨by decide, by decide, by decide⟩⟩

theorem meets_RingMessages_11 : ∃ (s : State) (k : Nat) (g : Bool) (d : SegDie) (l : List Tick) (u : State), (s.die? k = some d) ∧ (cUp s = true) ∧ (g = false ∨ injected s 2 = true) ∧ (l = s.now :: s.ring.errors.filter fun t => decide (s.now < t + secT)) ∧ (u = if 10 < l.length then settle (collect { useInject s 2 with ring := { s.ring with errors := l } } (faultMsg 0 3 0x5B k) (if injected s 2 then { forced := true, suppressed := false, until_ := s.now } else realMsg)) else { useInject s 2 with ring := { s.ring with errors := l } }) ∧ (d.msgFails < 2) :=
  ⟨ready, 7, false, SegDie.start 7 24 Trim.none [] 0, [0], { useInject ready 2 with ring := { ready.ring with errors := [0] } }, by exact ⟨by decide, by decide, by decide, by decide, rfl, by decide⟩⟩

theorem meets_RingMessages_12 : ∃ (s : State) (k : Nat) (g : Bool) (d : SegDie) (l : List Tick) (u : State), (s.die? k = some d) ∧ (cUp s = true) ∧ (g = false ∨ injected s 2 = true) ∧ (l = s.now :: s.ring.errors.filter fun t => decide (s.now < t + secT)) ∧ (u = if 10 < l.length then settle (collect { useInject s 2 with ring := { s.ring with errors := l } } (faultMsg 0 3 0x5B k) (if injected s 2 then { forced := true, suppressed := false, until_ := s.now } else realMsg)) else { useInject s 2 with ring := { s.ring with errors := l } }) ∧ (2 ≤ d.msgFails) :=
  ⟨{ ready with segs := [{ dieS6 with msgFails := 2 }] }, 7, false, { dieS6 with msgFails := 2 }, [0], (let w : State := { ready with segs := [{ dieS6 with msgFails := 2 }] }; { useInject w 2 with ring := { w.ring with errors := [0] } }), by exact ⟨by decide, by decide, by decide, by decide, rfl, by decide⟩⟩

theorem meets_RingMessages_13 : ∃ (s : State) (k : Nat) (d : SegDie), (s.die? k = some d) ∧ (cUp s = true) ∧ (d.unpowered = false) ∧ (d.lbist = false) :=
  ⟨ready, 7, SegDie.start 7 24 Trim.none [] 0, by exact ⟨by decide, by decide, by decide, by decide⟩⟩

theorem meets_RingMessages_14 : ∃ (s : State) (k : Nat) (d : SegDie), (s.die? k = some d) ∧ (cUp s = true) ∧ (d.unpowered = false) ∧ (d.lbist = false) :=
  ⟨ready, 7, SegDie.start 7 24 Trim.none [] 0, by exact ⟨by decide, by decide, by decide, by decide⟩⟩

theorem meets_RingMessages_15 : ∃ (s : State) (k : Nat) (g : Bool) (x : Bool) (d : SegDie), (s.die? k = some d) ∧ (d.unpowered = true ∨ d.lbist = true ∨ g = true ∧ x ≠ d.ringLost) :=
  ⟨{ ready with segs := [{ dieS6 with lbist := true }] }, 7, true, false, { dieS6 with lbist := true }, by exact ⟨by decide, by decide⟩⟩

theorem meets_RingMessages_17 : ∃ (s : State) (a : List Nat) (b : List Nat), (cUp s = true) ∧ (s.ring.lost = false) ∧ (a = (s.segs.filter (dieSilent s)).map SegDie.code) ∧ (b = (s.segs.filter (dieCutOff s)).map SegDie.code) ∧ (a ≠ [] ∨ b ≠ []) :=
  ⟨{ ready with now := ringLimit, segs := [dieS6] }, [7], [], by decide, by decide, by decide, by decide, by decide⟩

theorem meets_RingMessages_18 : ∃ (s : State), (s.ring.lost = true ∨ (s.segs.filter (dieSilent s)).map SegDie.code = [] ∧ (s.segs.filter (dieCutOff s)).map SegDie.code = []) :=
  ⟨{ ready with ring := { ready.ring with lost := true } }, by decide⟩

theorem meets_LinkFrames_1 : ∃ (s : State) (i : Instr) (f : FrameHdr) (n : Nat) (p : List Byte), (frameOf i = some (f, n, p)) ∧ (cUp s = false) :=
  ⟨{ ready with port := { ready.port with inReset := true } }, .fullSlateFrame frA [], frA, 1, [], by decide, by decide⟩

theorem meets_LinkFrames_2 : ∃ (s : State) (i : Instr) (f : FrameHdr) (n : Nat) (p : List Byte), (frameOf i = some (f, n, p)) ∧ (cUp s = true) ∧ (f.goodCrc = false) :=
  ⟨ready, .compactSlateFrame { frA with goodCrc := false } [], { frA with goodCrc := false }, 2, [], by decide, by decide, by decide⟩

theorem meets_LinkFrames_3 : ∃ (s : State) (i : Instr) (f : FrameHdr) (n : Nat) (p : List Byte), (frameOf i = some (f, n, p)) ∧ (f.goodCrc = true) ∧ (f.src = s.chain.addr) ∧ (s.chain.addr ≠ 0) :=
  ⟨{ ready with chain := { ready.chain with addr := 2 } }, .join frA 1 2 3 4, frA, 10, le 8 1 ++ le 4 2 ++ le 1 3 ++ le 3 4, by decide, by decide, by decide, by decide⟩

theorem meets_LinkFrames_4 : ∃ (s : State) (i : Instr) (f : FrameHdr) (n : Nat) (p : List Byte), (frameOf i = some (f, n, p)) ∧ (cUp s = true) ∧ (f.goodCrc = true) ∧ (¬ (f.src = s.chain.addr ∧ s.chain.addr ≠ 0)) ∧ (s.chain.seen.contains (f.src, n, f.seq) = true) :=
  ⟨{ ready with chain := { ready.chain with seen := [(2, 1, 5)] } }, .fullSlateFrame frA [], frA, 1, [], by decide, by decide, by decide, by decide, by decide⟩

theorem meets_LinkFrames_5 : ∃ (s : State) (i : Instr) (f : FrameHdr) (n : Nat) (p : List Byte), (frameOf i = some (f, n, p)) ∧ (n ≠ 1) ∧ (cUp s = true) ∧ (f.goodCrc = true) ∧ (¬ (f.src = s.chain.addr ∧ s.chain.addr ≠ 0)) ∧ (s.chain.seen.contains (f.src, n, f.seq) = false) ∧ (forMe s f.dest = false) :=
  ⟨ready, .compactSlateFrame { frA with dest := 9 } [], { frA with dest := 9 }, 2, [], by decide, by decide, by decide, by decide, by decide, by decide, by decide⟩

theorem meets_LinkFrames_6 : ∃ (s : State) (f : FrameHdr), (cUp s = true) ∧ (f.goodCrc = true) ∧ (¬ (f.src = s.chain.addr ∧ s.chain.addr ≠ 0)) ∧ (s.chain.seen.contains (f.src, 1, f.seq) = false) :=
  ⟨ready, frA, by decide, by decide, by decide, by decide⟩

theorem meets_LinkFrames_7 : ∃ (s : State) (f : FrameHdr) (p : List Byte), (freshFrame s f 0x02 = true) ∧ (s.chain.isHead = true) ∧ (p.length = 324) :=
  ⟨ready, frA, zeros 324, by decide, by decide, by decide⟩

theorem meets_LinkFrames_8 : ∃ (s : State) (f : FrameHdr) (p : List Byte), (freshFrame s f 0x02 = true) ∧ (s.chain.isHead = false ∨ p.length ≠ 324) :=
  ⟨ready, frA, zeros 325, by decide, by decide⟩

theorem meets_LinkFrames_9 : ∃ (s : State) (f : FrameHdr) (p : List Byte), (freshFrame s f 0x03 = true) ∧ (s.chain.isHead = true) ∧ (p.length = 8) :=
  ⟨ready, frA, zeros 8, by decide, by decide, by decide⟩

theorem meets_LinkFrames_10 : ∃ (s : State) (f : FrameHdr) (p : List Byte), (freshFrame s f 0x03 = true) ∧ (s.chain.isHead = false ∨ p.length ≠ 8) :=
  ⟨ready, frA, zeros 9, by decide, by decide⟩

theorem meets_LinkFrames_11 : ∃ (s : State) (f : FrameHdr), (freshFrame s f 0x04 = true) :=
  ⟨ready, frA, by decide⟩

theorem meets_LinkFrames_12 : ∃ (s : State) (f : FrameHdr) (n : Nat), (freshFrame s f 0x05 = true) ∧ (n < 4) :=
  ⟨ready, frA, 3, by decide, by decide⟩

theorem meets_LinkFrames_13 : ∃ (s : State) (f : FrameHdr) (n : Nat), (freshFrame s f 0x06 = true) ∧ (n < 4) :=
  ⟨ready, frA, 1, by decide, by decide⟩

theorem meets_LinkFrames_14 : ∃ (s : State) (f : FrameHdr) (p : List Byte), (freshFrame s f 0x07 = true) ∧ (s.chain.isHead = true) ∧ (p.length = 16) :=
  ⟨ready, frA, zeros 16, by decide, by decide, by decide⟩

theorem meets_LinkFrames_15 : ∃ (s : State) (f : FrameHdr) (p : List Byte), (freshFrame s f 0x07 = true) ∧ (s.chain.isHead = false ∨ p.length ≠ 16) :=
  ⟨ready, frA, zeros 15, by decide, by decide⟩

theorem meets_LinkFrames_16 : ∃ (s : State) (f : FrameHdr), (freshFrame s f 0x08 = true) :=
  ⟨ready, frA, by decide⟩

theorem meets_LinkFrames_17 : ∃ (s : State) (f : FrameHdr), (freshFrame s f 0x09 = true) :=
  ⟨mapped, frA, by decide⟩

theorem meets_LinkFrames_18 : ∃ (s : State) (f : FrameHdr), (freshFrame s f 0x0A = true) ∧ (s.chain.isHead = true) ∧ (primaryHead s = true) :=
  ⟨mapped, frA, by decide, by decide, by decide⟩

theorem meets_LinkFrames_19 : ∃ (s : State) (f : FrameHdr), (freshFrame s f 0x0A = true) ∧ (s.chain.isHead = true) ∧ (primaryHead s = false) :=
  ⟨{ ready with chain := { ready.chain with secondary := true, addr := 5, count := 5 } }, frA, by decide, by decide, by decide⟩

theorem meets_LinkFrames_20 : ∃ (s : State) (f : FrameHdr), (freshFrame s f 0x0A = true) ∧ (s.chain.isHead = false) :=
  ⟨onChain, { frA with src := 3 }, by decide, by decide⟩

theorem meets_LinkFrames_21 : ∃ (s : State) (f : FrameHdr), (cUp s = true) ∧ (f.goodCrc = false) :=
  ⟨ready, { frA with goodCrc := false }, by decide, by decide⟩

theorem meets_LinkFrames_22 : ∃ (s : State) (f : FrameHdr) (p : Nat) (h : Hdr) (w : Nat) (k : Tick), (cUp s = true) ∧ (f.goodCrc = true) ∧ (s.chain.enumerating = some (h, w, k)) ∧ (p = 1) :=
  ⟨{ ready with chain := { ready.chain with enumerating := some (h1, 3, 0) } }, frA, 1, h1, 3, 0, by decide, by decide, by decide, by decide⟩

theorem meets_LinkFrames_23 : ∃ (s : State) (f : FrameHdr), (cUp s = true) ∧ (f.goodCrc = true) ∧ (s.chain.enumerating = none) :=
  ⟨ready, frA, by decide, by decide, by decide⟩

theorem meets_LinkFrames_24 : ∃ (s : State) (f : FrameHdr), (freshFrame s f 0x0C = true) :=
  ⟨{ ready with sweep := { ready.sweep with trig := { ready.sweep.trig with source := 4 } } }, frA, by decide⟩

theorem meets_LinkFrames_25 : ∃ (s : State) (f : FrameHdr), (freshFrame s f 0x0D = true) :=
  ⟨ready, frA, by decide⟩

theorem meets_LinkFrames_26 : ∃ (s : State) (f : FrameHdr), (freshFrame s f 0x0E = true) :=
  ⟨{ ready with chain := { ready.chain with addrNext := some 4 } }, frA, by decide⟩

theorem meets_ExpressSets_1 : ∃ (s : State) (i : Instr) (n : Nat) (a : Nat) (k : Nat × Nat) (b : List Byte) (x : Nat) (y : Nat) (z : Int) (m : BitVec 32) (up : Bool), (setOf i = some (n, a, k, b)) ∧ (leadsClap s = false) ∧ (cUp s = true) ∧ (¬ (a = s.chain.addr ∧ s.chain.addr ≠ 0)) ∧ (s.chain.seen.contains (256 + n, k.1, k.2) = true) ∧ (i = .clapSet x up true ∨ i = .currentSet x y z true ∨ i = .alarmSet x m y true) :=
  ⟨{ onChain with chain := { onChain.chain with seen := [(272, 5000, 0)] } }, .clapSet 5000 true true, 16, 0, (5000, 0), le 4 5000, 5000, 0, 0, 0, true, by decide, by decide, by decide, by decide, by decide, by decide⟩

theorem meets_ExpressSets_2 : ∃ (i : Instr) (x : Nat) (y : Nat) (z : Int) (m : BitVec 32) (up : Bool), (i = .clapSet x up false ∨ i = .currentSet x y z false ∨ i = .alarmSet x m y false) :=
  ⟨.clapSet 5000 true false, 5000, 0, 0, 0, true, by decide⟩

theorem meets_ExpressSets_3 : ∃ (s : State) (a : Nat) (up : Bool), (freshSet s (0x10 + b2n (!up)) 0 (a % 2 ^ 32, 0) = true) ∧ (s.sweep.trig.source = 2) ∧ (s.chain.locked = true) ∧ (leadsClap s = false) ∧ (edgeSelected s up = true) :=
  ⟨{ onChain with chain := { onChain.chain with locked := true } }, 5000, true, by decide, by decide, by decide, by decide, by decide⟩

theorem meets_ExpressSets_4 : ∃ (s : State) (a : Nat) (up : Bool), (freshSet s (0x10 + b2n (!up)) 0 (a % 2 ^ 32, 0) = true) ∧ (leadsClap s = false) ∧ (s.sweep.trig.source ≠ 2 ∨ s.chain.locked = false ∨ edgeSelected s up = false) :=
  ⟨onChain, 5000, true, by decide, by decide, by decide⟩

theorem meets_ExpressSets_5 : ∃ (s : State) (a : Nat) (n : Nat), (freshSet s 0x20 a (n % 2 ^ 32, a) = true) ∧ (chainSource s = true) ∧ (a = s.chain.source) :=
  ⟨onChain, 1, 12500, by decide, by decide, by decide⟩

theorem meets_ExpressSets_6 : ∃ (s : State) (a : Nat) (n : Nat), (freshSet s 0x20 a (n % 2 ^ 32, a) = true) ∧ (chainSource s = false ∨ a ≠ s.chain.source) :=
  ⟨onChain, 3, 12500, by decide, by decide⟩

theorem meets_ExpressSets_7 : ∃ (s : State) (b : Bool), (ownSync s b = true) :=
  ⟨ready, true, by decide⟩

theorem meets_ExpressSets_8 : ∃ (s : State) (b : Bool), (ownSync s b = false) ∧ (cUp s = true) ∧ (primaryHead s = true) ∧ (s.chain.master = true) :=
  ⟨ready, false, by decide, by decide, by decide, by decide⟩

theorem meets_ExpressSets_9 : ∃ (s : State) (b : Bool), (ownSync s b = false) ∧ (cUp s = true) ∧ (primaryHead s = false ∨ s.chain.master = false) :=
  ⟨onChain, true, by decide, by decide, by decide⟩

theorem meets_ExpressSets_10 : ∃ (s : State) (a : Nat) (n : Nat) (p : Nat) (g : Nat), (s.chain.master = false) ∧ (s.chain.isHead = false) ∧ (cUp s = true) ∧ (g < 31) ∧ (timePortB (if p = 0 then g else s.chain.hopsA) (if p = 0 then s.chain.hopsB else g) = decide (p = 1)) ∧ (s.now ≤ s.chain.portSyncAt + 150000) ∧ (9 ≤ s.chain.syncs) ∧ (s.chain.locked = false) ∧ (s.packTime + 4 < a + (n + hopDelay s p) / 100) :=
  ⟨nearLock, 100000, 50, 0, 2, by decide, by decide, by decide, by decide, by decide, by decide, by decide, by decide, by decide⟩

theorem meets_ExpressSets_11 : ∃ (s : State) (a : Nat) (n : Nat) (p : Nat) (g : Nat), (s.chain.master = false) ∧ (cUp s = true) ∧ (g < 31) ∧ (timePortB (if p = 0 then g else s.chain.hopsA) (if p = 0 then s.chain.hopsB else g) = decide (p = 1)) ∧ (s.now ≤ s.chain.portSyncAt + 150000) ∧ (s.chain.locked = true) ∧ (s.packTime ≤ a + (n + hopDelay s p) / 100) ∧ (a + (n + hopDelay s p) / 100 ≤ s.packTime + 4) :=
  ⟨{ onChain with chain := { onChain.chain with locked := true } }, 0, 0, 0, 2, by decide, by decide, by decide, by decide, by decide, by decide, by decide, by decide⟩

theorem meets_ExpressSets_12 : ∃ (s : State) (a : Nat) (m : BitVec 32) (n : Nat), (freshSet s 0x40 a (a * 2 ^ 32 + n % 2 ^ 32, m.toNat) = true) :=
  ⟨ready, 2, 0x38010000, 77, by decide⟩

theorem meets_ExpressSets_13 : ∃ (s : State), (cUp s = true) :=
  ⟨ready, by decide⟩

theorem meets_ExpressSets_14 : ∃ (s : State), (cUp s = true) :=
  ⟨ready, by decide⟩

theorem meets_ExpressSets_15 : ∃ (s : State), (cUp s = true) :=
  ⟨ready, by decide⟩

theorem meets_ExpressSets_16 : ∃ (s : State), (cUp s = true) ∧ (s.chain.measuredAt + 16 * msT ≤ s.now) :=
  ⟨{ ready with now := 16 * msT }, by decide, by decide⟩

theorem meets_ExpressSets_17 : ∃ (s : State), (s.now < s.chain.measuredAt + 16 * msT) :=
  ⟨ready, by decide⟩

theorem meets_ExpressSets_18 : ∃ (s : State), (cUp s = true) ∧ (s.chain.master = false) ∧ (5000 ≤ s.packTime % 100000) ∧ (s.chain.portSyncAt + s.packTime % 100000 < s.now) ∧ (s.now ≤ s.chain.syncAt + s.packTime % 100000) :=
  ⟨portGone, by decide, by decide, by decide, by decide, by decide⟩

theorem meets_ExpressSets_19 : ∃ (s : State), (s.packTime % 100000 < 5000 ∨ s.now ≤ s.chain.portSyncAt + s.packTime % 100000 ∨ s.chain.syncAt + s.packTime % 100000 < s.now) :=
  ⟨ready, by decide⟩

theorem meets_ExpressSets_20 : ∃ (s : State), (cUp s = true) ∧ (s.chain.master = false) ∧ (s.chain.locked = true) ∧ (s.chain.syncAt + 2 * msT ≤ s.now) :=
  ⟨{ onChain with now := 2 * msT, chain := { onChain.chain with locked := true } }, by decide, by decide, by decide, by decide⟩

theorem meets_ExpressSets_21 : ∃ (s : State), (s.chain.master = true ∨ s.chain.locked = false ∨ s.now < s.chain.syncAt + 2 * msT) :=
  ⟨onChain, by decide⟩

theorem meets_ExpressSets_22 : ∃ (s : State), (cUp s = true) ∧ (s.chain.master = false) ∧ (s.chain.secondary = true) ∧ (s.chain.locked = true) ∧ (s.chain.primaryAt + 2 * msT ≤ s.now) :=
  ⟨{ onChain with now := 2 * msT, chain := { onChain.chain with locked := true, secondary := true } }, by decide, by decide, by decide, by decide, by decide⟩

theorem meets_ExpressSets_23 : ∃ (s : State), (cUp s = true) ∧ (primaryHead s = true) ∧ (s.chain.refLost = false) :=
  ⟨ready, by decide, by decide, by decide⟩

theorem meets_ExpressSets_24 : ∃ (s : State), (cUp s = true) ∧ (s.sup.keeper = true) ∧ (s.chain.savedAt + 3600 * secT ≤ s.now) :=
  ⟨{ ready with now := 3600 * secT }, by decide, by decide, by decide⟩

theorem meets_ExpressSets_25 : ∃ (s : State), (s.now < s.chain.savedAt + 3600 * secT) :=
  ⟨ready, by decide⟩

theorem meets_ExpressSets_26 : ∃ (s : State), (cUp s = true) :=
  ⟨ready, by decide⟩

theorem meets_ExpressSets_27 : ∃ (s : State), (cUp s = true) :=
  ⟨ready, by decide⟩

theorem meets_ExpressSets_28 : ∃ (s : State), (cUp s = true) :=
  ⟨ready, by decide⟩

theorem meets_ExpressSets_29 : ∃ (s : State), (cUp s = true) ∧ (bit s.chain.delayDone 0 = true) ∧ (s.chain.upA = false) ∧ (s.chain.downAtA + 100 * msT ≤ s.now) :=
  ⟨{ ready with now := 100 * msT, chain := { ready.chain with delayDone := 1 } }, by decide, by decide, by decide, by decide⟩

theorem meets_ExpressSets_30 : ∃ (s : State), (cUp s = true) ∧ (bit s.chain.delayDone 1 = true) ∧ (s.chain.upB = false) ∧ (s.chain.downAtB + 100 * msT ≤ s.now) :=
  ⟨{ ready with now := 100 * msT, chain := { ready.chain with delayDone := 2 } }, by decide, by decide, by decide, by decide⟩

theorem meets_ExpressSets_31 : ∃ (s : State) (a : Nat) (e : MapEntry), (entryOf s a = some e) ∧ (cUp s = true) ∧ (primaryHead s = true) ∧ (e.lost = false) ∧ (a ≠ s.chain.addr) ∧ (e.heard + 24 * msT ≤ s.now) :=
  ⟨{ mapped with now := 24 * msT }, 2, entryA, by decide, by decide, by decide, by decide, by decide, by decide⟩

theorem meets_ExpressSets_32 : ∃ (s : State) (a : Nat) (e : MapEntry), (entryOf s a = some e) ∧ (s.now < e.heard + 24 * msT) :=
  ⟨mapped, 2, entryA, by decide, by decide⟩

theorem meets_Superframes_1 : ∃ (s : State), (cUp s = true) ∧ (s.packTime / 100000 % 2 ^ 32 = s.chain.sfnum) :=
  ⟨ready, by decide, by decide⟩

theorem meets_Superframes_2 : ∃ (s : State) (n : Nat) (m : Nat) (a : State) (b : State) (k : State) (e : State), (cUp s = true) ∧ (m = s.packTime / 100000 % 2 ^ 32) ∧ (m ≠ s.chain.sfnum) ∧ (a = takeMaster { s with chain := { s.chain with sfnum := m } }) ∧ (b = radioSuperframe (drainBulk (applyPlacement a)) s.chain.sfnum) ∧ (k = drainSlates (repeatNotices (checkRef (applySource (admitReady (applyServices b)))))) ∧ (e = sendHeartbeat (masterSends (decidePlacement k n))) :=
  ⟨{ ready with packTime := 100000 }, 0, 1, sfA, sfB, sfC, sfD, by decide, by decide, by decide, by decide, by decide, by decide, by decide⟩

theorem meets_Superframes_3 : ∃ (s : State), (cUp s = true) ∧ (s.chain.addr = 0) ∧ (s.chain.sfnum = 0) ∧ (s.packTime = 100000) ∧ (s.chain.isHead = false) ∧ (s.chain.placeNext = none) ∧ (s.chain.placeB = false) ∧ (s.chain.services = []) ∧ (s.chain.sourceNext = none) ∧ (s.slates.chainQueue = []) ∧ (s.chain.notices = []) ∧ (s.power.chainMove = none) ∧ (s.imp.run = none) :=
  ⟨{ asleepC with sup := ready.sup, packTime := 100000 }, by decide, by decide, by decide, by decide, by decide, by decide, by decide, by decide, by decide, by decide, by decide, by decide, by decide⟩

theorem meets_PackRadio_1 : ∃ (s : State), (slotNow s % 40 = s.radio.slot) :=
  ⟨ready, by decide⟩

theorem meets_PackRadio_2 : ∃ (s : State) (u : State), (slotNow s % 40 ≠ s.radio.slot) ∧ (u = { s with radio := { s.radio with slot := slotNow s % 40 } }) ∧ (radioOn u = false ∨ slotLeft u (slotNow s % 40) = false) :=
  ⟨{ ready with packTime := 500000 }, { ready with packTime := 500000, radio := { ready.radio with slot := 1 } }, by decide, by decide, by decide⟩

theorem meets_PackRadio_3 : ∃ (s : State) (u : State), (u = { s with radio := { s.radio with slot := 0 } }) ∧ (slotNow s % 40 = 0) ∧ (s.radio.slot ≠ 0) ∧ (radioOn u = true) ∧ (slotLeft u 0 = true) :=
  ⟨{ onAir with packTime := 20000000, radio := { onAir.radio with slot := 39 } }, { onAir with packTime := 20000000, radio := { onAir.radio with slot := 0 } }, by decide, by decide, by decide, by decide, by decide⟩

theorem meets_PackRadio_4 : ∃ (s : State) (u : State) (k : Nat), (k = slotNow s % 40) ∧ (u = { s with radio := { s.radio with slot := k } }) ∧ (k ≠ s.radio.slot) ∧ (1 ≤ k) ∧ (k ≤ 4) ∧ (radioOn u = true) ∧ (slotLeft u k = true) :=
  ⟨{ onAir with packTime := 2000000 }, { onAir with packTime := 2000000, radio := { onAir.radio with slot := 4 } }, 4, by decide, by decide, by decide, by decide, by decide, by decide, by decide⟩

theorem meets_PackRadio_5 : ∃ (s : State) (u : State) (k : Nat), (k = slotNow s % 40) ∧ (u = { s with radio := { s.radio with slot := k } }) ∧ (k ≠ s.radio.slot) ∧ (5 ≤ k) ∧ (radioOn u = true) ∧ (slotLeft u k = true) :=
  ⟨{ onAir with packTime := 2500000 }, { onAir with packTime := 2500000, radio := { onAir.radio with slot := 5 } }, 5, by decide, by decide, by decide, by decide, by decide, by decide⟩

theorem meets_PackRadio_6 : ∃ (s : State), (radioOn s = false) :=
  ⟨ready, by decide⟩

theorem meets_PackRadio_7 : ∃ (s : State) (a : Nat) (n : Nat) (i : Nat), (radioOn s = true) ∧ ((peerOf s a).counter.any (fun c => decide (n ≤ c)) = false) ∧ (i = s.chain.chainId) :=
  ⟨onAir, 1, 0, 0, by decide, by decide, by decide⟩

theorem meets_PackRadio_8 : ∃ (s : State) (a : Nat) (n : Nat) (i : Nat) (g : Bool), (radioOn s = true) ∧ (g = false ∨ (peerOf s a).counter.any (fun c => decide (n ≤ c)) = true ∨ i ≠ s.chain.chainId) :=
  ⟨onAir, 1, 0, 9, true, by decide, by decide⟩

theorem meets_PackRadio_9 : ∃ (s : State), (radioOn s = false) :=
  ⟨ready, by decide⟩

theorem meets_PackRadio_10 : ∃ (s : State) (a : Nat) (n : Nat) (g : Bool), (radioOn s = true) ∧ (g = false ∨ (peerOf s a).counter.any (fun c => decide (n ≤ c)) = true) :=
  ⟨heardPeer, 2, 6, true, by decide, by decide⟩

theorem meets_PackRadio_11 : ∃ (s : State) (a : Nat) (n : Nat), (radioOn s = true) ∧ ((peerOf s a).counter.any (fun c => decide (n ≤ c)) = false) :=
  ⟨heardPeer, 2, 7, by decide, by decide⟩

theorem meets_PackRadio_12 : ∃ (s : State), (radioOn s = false) :=
  ⟨ready, by decide⟩

theorem meets_PackRadio_13 : ∃ (s : State) (a : Nat) (n : Nat) (g : Bool), (radioOn s = true) ∧ (g = false ∨ (peerOf s a).counter.any (fun c => decide (n ≤ c)) = true) :=
  ⟨heardPeer, 2, 6, true, by decide, by decide⟩

theorem meets_PackRadio_14 : ∃ (s : State) (a : Nat) (n : Nat), (radioOn s = true) ∧ ((peerOf s a).counter.any (fun c => decide (n ≤ c)) = false) :=
  ⟨heardPeer, 2, 7, by decide, by decide⟩

theorem meets_PackRadio_15 : ∃ (s : State) (x : BulkItem), (radioOn s = true) ∧ (s.radio.inFlight = some x) :=
  ⟨inAir, bulkA, by decide, by decide⟩

theorem meets_PackRadio_16 : ∃ (s : State) (x : BulkItem), (radioOn s = true) ∧ (s.radio.inFlight = some x) :=
  ⟨inAir, bulkA, by decide, by decide⟩

theorem meets_PackRadio_17 : ∃ (s : State), (s.radio.inFlight = none) :=
  ⟨onAir, by decide⟩

theorem meets_MetrologyCommands_1 : ∃ (s : State) (h : Hdr), (served s h 0x0801) ∧ (s.part.hasM = false) :=
  ⟨noM, h1, by decide, by decide⟩

theorem meets_MetrologyCommands_2 : ∃ (s : State) (h : Hdr), (served s h 0x0802) ∧ (s.part.hasM = false) :=
  ⟨noM, h1, by decide, by decide⟩

theorem meets_MetrologyCommands_3 : ∃ (s : State) (h : Hdr), (served s h 0x0803) ∧ (s.part.hasM = false) :=
  ⟨noM, h1, by decide, by decide⟩

theorem meets_MetrologyCommands_4 : ∃ (s : State) (h : Hdr), (served s h 0x0804) ∧ (s.part.hasM = false) :=
  ⟨noM, h1, by decide, by decide⟩

theorem meets_MetrologyCommands_5 : ∃ (s : State) (h : Hdr), (served s h 0x0805) ∧ (s.part.hasM = false) :=
  ⟨noM, h1, by decide, by decide⟩

theorem meets_MetrologyCommands_6 : ∃ (s : State) (h : Hdr) (n : Nat), (served s h 0x0801) ∧ (s.part.hasM = true) ∧ (1 ≤ n) ∧ (n ≤ 240) :=
  ⟨ready, h1, 64, by decide, by decide, by decide, by decide⟩

theorem meets_MetrologyCommands_7 : ∃ (s : State) (h : Hdr) (r : Nat), (served s h 0x0802) ∧ (s.part.hasM = true) ∧ (r ≤ 4) ∧ ((s.mport.reqs.filter (·.statement)).length < 4) ∧ (canOpen s h) :=
  ⟨ready, h1, 4, by decide, by decide, by decide, by decide, by decide⟩

theorem meets_MetrologyCommands_8 : ∃ (s : State) (h : Hdr) (r : Nat), (served s h 0x0802) ∧ (s.part.hasM = true) ∧ (r ≤ 4) ∧ (4 ≤ (s.mport.reqs.filter (·.statement)).length) :=
  ⟨fourAsked, h1, 0, by decide, by decide, by decide, by decide⟩

theorem meets_MetrologyCommands_9 : ∃ (s : State) (h : Hdr), (served s h 0x0803) ∧ (s.part.hasM = true) ∧ (s.power.state ≠ .run) :=
  ⟨monitoring, h1, by decide, by decide, by decide⟩

theorem meets_MetrologyCommands_10 : ∃ (s : State) (h : Hdr) (p : Nat) (l : List Byte), (served s h 0x0803) ∧ (s.part.hasM = true) ∧ (s.power.state = .run) ∧ (p ≤ 2) ∧ (l.length ≤ 16) :=
  ⟨ready, h1, 2, [2], by decide, by decide, by decide, by decide, by decide⟩

theorem meets_MetrologyCommands_11 : ∃ (s : State) (h : Hdr) (n : Nat), (served s h 0x0804) ∧ (s.part.hasM = true) ∧ (1 ≤ n) ∧ (n ≤ 14) :=
  ⟨ready, h1, 14, by decide, by decide, by decide, by decide⟩

theorem meets_MetrologyCommands_12 : ∃ (s : State) (h : Hdr), (served s h 0x0805) ∧ (s.part.hasM = true) :=
  ⟨ready, h1, by decide, by decide⟩

theorem meets_MetrologyCommands_13 : ∃ (s : State) (h : Hdr), (served s h 0x0806) ∧ (s.power.state ≠ .run) :=
  ⟨monitoring, h1, by decide, by decide⟩

theorem meets_MetrologyCommands_14 : ∃ (s : State) (h : Hdr) (a : Nat), (served s h 0x0806) ∧ (s.power.state = .run) ∧ (a ≤ 32) ∧ (primaryHead s = false) :=
  ⟨{ ready with chain := { ready.chain with secondary := true, addr := 5, count := 5 } }, h1, 32, by decide, by decide, by decide, by decide⟩

theorem meets_MetrologyCommands_15 : ∃ (s : State) (h : Hdr) (a : Nat), (served s h 0x0806) ∧ (s.power.state = .run) ∧ (a ≤ 32) ∧ (primaryHead s = true) ∧ (namesNoM s a = true) :=
  ⟨{ noM with chain := { noM.chain with addr := 1, count := 1 } }, h1, 1, by decide, by decide, by decide, by decide, by decide⟩

theorem meets_MetrologyCommands_16 : ∃ (s : State) (h : Hdr) (a : Nat), (served s h 0x0806) ∧ (s.power.state = .run) ∧ (a ≤ 32) ∧ (primaryHead s = true) ∧ (namesNoM s a = false) :=
  ⟨ready, h1, 0, by decide, by decide, by decide, by decide, by decide⟩

theorem meets_MetrologyRequests_1 : ∃ (s : State) (a : Nat) (n : Nat) (l : List Byte), (s.part.hasM = true) ∧ (mAnswers s.metro = true) ∧ (mRead s.metro a n = some l) :=
  ⟨metering, 0x30, 8, zeros 8, by decide, by decide, by decide⟩

theorem meets_MetrologyRequests_2 : ∃ (s : State) (a : Nat) (n : Nat), (s.part.hasM = true) ∧ (mAnswers s.metro = true) ∧ (mRead s.metro a n = none) :=
  ⟨metering, 0x30, 9, by decide, by decide, by decide⟩

theorem meets_MetrologyRequests_3 : ∃ (s : State), (s.part.hasM = true) ∧ (mAnswers s.metro = false) :=
  ⟨ready, by decide, by decide⟩

theorem meets_MetrologyRequests_4 : ∃ (s : State), (s.part.hasM = false) :=
  ⟨noM, by decide⟩

theorem meets_MetrologyRequests_5 : ∃ (s : State) (r : Nat) (m : Metro), (s.part.hasM = true) ∧ (mAnswers s.metro = true) ∧ (r ≤ 4) ∧ (m = mStore { s.metro with stmtCtr := (s.metro.stmtCtr + 1) % 2 ^ 64 }) :=
  ⟨metering, 4, mStore { metering.metro with stmtCtr := 1 }, by decide, by decide, by decide, by decide⟩

theorem meets_MetrologyRequests_6 : ∃ (s : State) (r : Nat), (s.part.hasM = true) ∧ (mAnswers s.metro = true) ∧ (4 < r) :=
  ⟨metering, 5, by decide, by decide, by decide⟩

theorem meets_MetrologyRequests_7 : ∃ (s : State), (s.part.hasM = true) ∧ (mAnswers s.metro = false) :=
  ⟨ready, by decide, by decide⟩

theorem meets_MetrologyRequests_8 : ∃ (s : State), (s.part.hasM = false) :=
  ⟨noM, by decide⟩

theorem meets_MetrologyRequests_9 : ∃ (s : State) (p : Nat) (l : List Byte) (m : Metro), (s.part.hasM = true) ∧ (mAnswers s.metro = true) ∧ (mDisplay s.metro p l = some m) :=
  ⟨metering, 1, [60], { metering.metro with avgWin := 60 }, by decide, by decide, by decide⟩

theorem meets_MetrologyRequests_10 : ∃ (s : State) (p : Nat) (l : List Byte), (s.part.hasM = true) ∧ (mAnswers s.metro = true) ∧ (mDisplay s.metro p l = none) :=
  ⟨metering, 1, [61], by decide, by decide, by decide⟩

theorem meets_MetrologyRequests_11 : ∃ (s : State), (s.part.hasM = true) ∧ (mAnswers s.metro = false) :=
  ⟨ready, by decide, by decide⟩

theorem meets_MetrologyRequests_12 : ∃ (s : State), (s.part.hasM = false) :=
  ⟨noM, by decide⟩

theorem meets_MetrologyRequests_13 : ∃ (s : State) (b : Bool) (g : Bool) (l : List Byte) (a : List (Bool × Bool × List Byte)) (r : MReq), (s.mport.answers = (b, g, l) :: a) ∧ ((s.mport.reqs.find? fun r => r.statement == b && r.sentAt.isSome) = some r) ∧ (r.rest g l = none) :=
  ⟨awaitingM, false, true, zeros 8, [], reqA, by decide, by decide, by decide⟩

theorem meets_MetrologyRequests_14 : ∃ (s : State) (b : Bool) (g : Bool) (l : List Byte) (a : List (Bool × Bool × List Byte)) (r : MReq) (q : MReq), (s.mport.answers = (b, g, l) :: a) ∧ ((s.mport.reqs.find? fun r => r.statement == b && r.sentAt.isSome) = some r) ∧ (r.rest g l = some q) :=
  ⟨awaitingEvents, false, true, zeros 16, [], reqE, { reqE with kind := .events 1023 2 (zeros 16), sentAt := none }, by decide, by decide, by decide⟩

theorem meets_MetrologyRequests_15 : ∃ (s : State) (b : Bool) (g : Bool) (l : List Byte) (a : List (Bool × Bool × List Byte)), (s.mport.answers = (b, g, l) :: a) ∧ ((s.mport.reqs.find? fun r => r.statement == b && r.sentAt.isSome) = none) :=
  ⟨{ awaitingM with mport := { awaitingM.mport with reqs := [] } }, false, true, zeros 8, [], by decide, by decide⟩

theorem meets_MetrologyRequests_16 : ∃ (s : State), (s.mport.answers = []) :=
  ⟨ready, by decide⟩

theorem meets_MetrologyRequests_18 : ∃ (s : State) (r : MReq), ((s.mport.reqs.filter fun r => r.sentAt.any fun t => decide (t + r.bound ≤ s.now)) = [r]) ∧ (r.statement = false) :=
  ⟨{ awaitingM with now := 2 * msT }, reqA, by decide, by decide⟩

theorem meets_MetrologyRequests_19 : ∃ (s : State) (r : MReq), ((s.mport.reqs.filter fun r => r.sentAt.any fun t => decide (t + r.bound ≤ s.now)) = [r]) ∧ (r.statement = true) :=
  ⟨{ awaitingM with now := 150 * msT, mport := { awaitingM.mport with reqs := [{ stmtA with sentAt := some 0 }] } }, { stmtA with sentAt := some 0 }, by decide, by decide⟩

theorem meets_MetrologyRequests_20 : ∃ (s : State), ((s.mport.reqs.filter fun r => r.sentAt.any fun t => decide (t + r.bound ≤ s.now)) = []) :=
  ⟨awaitingM, by decide⟩

theorem meets_LegalSamples_1 : ∃ (s : State), (s.part.hasM = true) ∧ (mCounts s.metro = true) :=
  ⟨metering, by decide, by decide⟩

theorem meets_LegalSamples_2 : ∃ (s : State) (x : Int) (v : Int), (s.part.hasM = true) ∧ (mCounts s.metro = true) ∧ (-37500000 ≤ x) ∧ (x ≤ 37500000) ∧ (-1200000000 ≤ v) ∧ (v ≤ 1200000000) ∧ (s.metro.overI = false) ∧ (s.metro.overU = false) ∧ (37500 ≤ (legalShunt s.metro x).natAbs) ∧ (0 ≤ legalCurrent s.metro x) :=
  ⟨metering, 37500000, 1200000000, by decide, by decide, by decide, by decide, by decide, by decide, by decide, by decide, by decide, by decide⟩

theorem meets_LegalSamples_3 : ∃ (s : State) (x : Int) (v : Int), (s.part.hasM = true) ∧ (mCounts s.metro = true) ∧ (-37500000 ≤ x) ∧ (x ≤ 37500000) ∧ (-1200000000 ≤ v) ∧ (v ≤ 1200000000) ∧ (s.metro.overI = false) ∧ (s.metro.overU = false) ∧ (37500 ≤ (legalShunt s.metro x).natAbs) ∧ (legalCurrent s.metro x < 0) :=
  ⟨metering, -37500, -1, by decide, by decide, by decide, by decide, by decide, by decide, by decide, by decide, by decide, by decide⟩

theorem meets_LegalSamples_4 : ∃ (s : State) (x : Int) (v : Int), (s.part.hasM = true) ∧ (mCounts s.metro = true) ∧ (-37500000 ≤ x) ∧ (x ≤ 37500000) ∧ (-1200000000 ≤ v) ∧ (v ≤ 1200000000) ∧ (s.metro.overI = false) ∧ (s.metro.overU = false) ∧ ((legalShunt s.metro x).natAbs < 37500) :=
  ⟨metering, 37499, 1200000000, by decide, by decide, by decide, by decide, by decide, by decide, by decide, by decide, by decide⟩

theorem meets_LegalSamples_5 : ∃ (s : State), (s.part.hasM = true) ∧ (mAnswers s.metro = true) ∧ (mCounts s.metro = false) :=
  ⟨{ metering with metro := { metering.metro with state := .halted } }, by decide, by decide, by decide⟩

theorem meets_LegalSamples_6 : ∃ (s : State), (s.part.hasM = false ∨ mAnswers s.metro = false) :=
  ⟨noM, by decide⟩

theorem meets_MetrologyStates_1 : ∃ (s : State) (k : Nat) (e : Nat) (w : Nat) (i : Bool) (m : Metro) (u : State), (s.part.hasM = true) ∧ (m = mEvent 0x01 (le 1 k) { mClear (mFromJournal s.metro i) with swid := w % 2 ^ 32, state := .starting }) ∧ (u = if i then mRaise { s with metro := mEvent 0x03 (le 4 m.journalGen) m } 1 0x67 (m.journalGen % 65536) else { s with metro := m }) ∧ (e = 0) ∧ (u.metro.journal ≠ []) :=
  ⟨ready, 1, 0, 5, false, mEvent 0x01 (le 1 1) { mClear (mFromJournal ready.metro false) with swid := 5, state := .starting }, { ready with metro := mEvent 0x01 (le 1 1) { mClear (mFromJournal ready.metro false) with swid := 5, state := .starting } }, by exact ⟨by decide, rfl, rfl, by decide, by decide⟩⟩

theorem meets_MetrologyStates_2 : ∃ (s : State) (k : Nat) (e : Nat) (w : Nat) (i : Bool) (m : Metro) (u : State), (s.part.hasM = true) ∧ (m = mEvent 0x01 (le 1 k) { mClear (mFromJournal s.metro i) with swid := w % 2 ^ 32, state := .starting }) ∧ (u = if i then mRaise { s with metro := mEvent 0x03 (le 4 m.journalGen) m } 1 0x67 (m.journalGen % 65536) else { s with metro := m }) ∧ (e = 0) ∧ (u.metro.journal = []) :=
  ⟨{ ready with metro := { ready.metro with journal := [] } }, 1, 0, 5, false, mEvent 0x01 (le 1 1) { mClear (mFromJournal { ready.metro with journal := [] } false) with swid := 5, state := .starting }, { ready with metro := mEvent 0x01 (le 1 1) { mClear (mFromJournal { ready.metro with journal := [] } false) with swid := 5, state := .starting } }, by exact ⟨by decide, rfl, rfl, by decide, by decide⟩⟩

theorem meets_MetrologyStates_3 : ∃ (s : State) (k : Nat) (e : Nat) (w : Nat) (i : Bool) (m : Metro) (u : State), (s.part.hasM = true) ∧ (m = mEvent 0x01 (le 1 k) { mClear (mFromJournal s.metro i) with swid := w % 2 ^ 32, state := .starting }) ∧ (u = if i then mRaise { s with metro := mEvent 0x03 (le 4 m.journalGen) m } 1 0x67 (m.journalGen % 65536) else { s with metro := m }) ∧ (e ≠ 0) :=
  ⟨ready, 1, 2, 5, true, mEvent 0x01 (le 1 1) { mClear (mFromJournal ready.metro true) with swid := 5, state := .starting }, mRaise { ready with metro := mEvent 0x03 (le 4 (mEvent 0x01 (le 1 1) { mClear (mFromJournal ready.metro true) with swid := 5, state := .starting }).journalGen) (mEvent 0x01 (le 1 1) { mClear (mFromJournal ready.metro true) with swid := 5, state := .starting }) } 1 0x67 ((mEvent 0x01 (le 1 1) { mClear (mFromJournal ready.metro true) with swid := 5, state := .starting }).journalGen % 65536), by exact ⟨by decide, rfl, rfl, by decide⟩⟩

theorem meets_MetrologyStates_4 : ∃ (s : State), (s.part.hasM = false) :=
  ⟨noM, by decide⟩

theorem meets_MetrologyStates_5 : ∃ (s : State), (s.part.hasM = true) ∧ (mCounts s.metro = true) :=
  ⟨metering, by decide, by decide⟩

theorem meets_MetrologyStates_6 : ∃ (s : State) (e : Nat), (s.part.hasM = true) ∧ (mCounts s.metro = true) ∧ (e ≠ 0) :=
  ⟨metering, 5, by decide, by decide, by decide⟩

theorem meets_MetrologyStates_7 : ∃ (s : State), (s.part.hasM = false ∨ mCounts s.metro = false) :=
  ⟨ready, by decide⟩

theorem meets_MetrologyStates_8 : ∃ (s : State), (s.part.hasM = true) ∧ (s.metro.state = .metering) ∧ (10 * sps ≤ s.metro.quietSamples) :=
  ⟨{ metering with metro := { metering.metro with quietSamples := 80000 } }, by decide, by decide, by decide⟩

theorem meets_MetrologyStates_9 : ∃ (s : State), (s.part.hasM = false ∨ s.metro.state ≠ .metering ∨ s.metro.quietSamples < 10 * sps) :=
  ⟨metering, by decide⟩

theorem meets_MetrologyStates_10 : ∃ (s : State), (s.part.hasM = true) ∧ (s.metro.state = .idle) ∧ (10 * sps ≤ s.metro.idleSamples) :=
  ⟨{ metering with metro := { metering.metro with state := .idle, idleSamples := 80000 } }, by decide, by decide, by decide⟩

theorem meets_MetrologyStates_11 : ∃ (s : State), (s.part.hasM = false ∨ s.metro.state ≠ .idle ∨ s.metro.idleSamples < 10 * sps) :=
  ⟨metering, by decide⟩

theorem meets_MetrologyStates_12 : ∃ (s : State) (k : Int), (s.part.hasM = true) ∧ (s.metro.state = .dormant) ∧ (mWakes s.metro k = true) :=
  ⟨{ metering with now := 5 * secT, metro := { metering.metro with state := .dormant } }, 1500, by decide, by decide, by decide⟩

theorem meets_MetrologyStates_13 : ∃ (s : State) (k : Int), (s.part.hasM = false ∨ s.metro.state ≠ .dormant ∨ mWakes s.metro k = false) :=
  ⟨metering, 1500, by decide⟩

theorem meets_MetrologyStates_14 : ∃ (s : State), (s.part.hasM = true) ∧ (mCounts s.metro = true) ∧ (s.metro.dirty = true) ∧ (10 * sps ≤ s.metro.storeSamples) :=
  ⟨{ metering with metro := { metering.metro with dirty := true, storeSamples := 80000 } }, by decide, by decide, by decide, by decide⟩

theorem meets_MetrologyStates_15 : ∃ (s : State), (s.part.hasM = false ∨ mCounts s.metro = false ∨ s.metro.dirty = false ∨ s.metro.storeSamples < 10 * sps) :=
  ⟨metering, by decide⟩

theorem meets_MetrologyStates_16 : ∃ (s : State), (s.part.hasM = true) ∧ (mCounts s.metro = true ∨ s.metro.state = .halted) :=
  ⟨metering, by decide, by decide⟩

theorem meets_MetrologyStates_17 : ∃ (s : State), (s.part.hasM = false ∨ mCounts s.metro = false ∧ s.metro.state ≠ .halted) :=
  ⟨noM, by decide⟩

theorem meets_SealAndCalibration_1 : ∃ (s : State) (a : Nat) (n : Nat) (l : List Byte), (mUart s = true) ∧ (mRead s.metro a n = some l) :=
  ⟨metering, 0x4C, 4, zeros 4, by decide, by decide⟩

theorem meets_SealAndCalibration_2 : ∃ (s : State) (a : Nat) (n : Nat), (mUart s = true) ∧ (mRead s.metro a n = none) :=
  ⟨metering, 0x4D, 4, by decide, by decide⟩

theorem meets_SealAndCalibration_3 : ∃ (s : State), (mUart s = false) :=
  ⟨ready, by decide⟩

theorem meets_SealAndCalibration_4 : ∃ (s : State) (x : Nat), (mUart s = true) ∧ (s.metro.sealed_ = false) ∧ (x ≤ 1) :=
  ⟨metering, 1, by decide, by decide, by decide⟩

theorem meets_SealAndCalibration_5 : ∃ (s : State) (x : Nat), (mUart s = false ∨ s.metro.sealed_ = true ∨ 1 < x) :=
  ⟨sealedM, 1, by decide⟩

theorem meets_SealAndCalibration_6 : ∃ (s : State) (a : Int), (mUart s = true) ∧ (4 * sps ≤ s.metro.ptN) ∧ (s.metro.ptRun = some (0, a)) :=
  ⟨{ metering with metro := { metering.metro with ptRun := some (0, 7), ptN := 32000, ptSum := 320000 } }, 7, by decide, by decide, by decide⟩

theorem meets_SealAndCalibration_7 : ∃ (s : State) (a : Int), (mUart s = true) ∧ (4 * sps ≤ s.metro.ptN) ∧ (s.metro.ptRun = some (1, a)) :=
  ⟨{ metering with metro := { metering.metro with ptRun := some (1, 7), ptN := 32000, ptSum := 320000 } }, 7, by decide, by decide, by decide⟩

theorem meets_SealAndCalibration_8 : ∃ (s : State) (x : Nat), (mUart s = false ∨ s.metro.ptN < 4 * sps ∨ s.metro.ptRun.map Prod.fst ≠ some x) :=
  ⟨metering, 0, by decide⟩

theorem meets_SealAndCalibration_9 : ∃ (s : State) (r : Int) (k : Int) (a : Int) (b : Int), (mUart s = true) ∧ (s.metro.sealed_ = false) ∧ (calFit s.metro.ptI s.metro.ptU = some (r, k, a, b)) :=
  ⟨calibrated2, 50000, 1250000, 0, 0, by decide, by decide, by decide⟩

theorem meets_SealAndCalibration_10 : ∃ (s : State), (mUart s = false ∨ s.metro.sealed_ = true ∨ calFit s.metro.ptI s.metro.ptU = none) :=
  ⟨sealedM, by decide⟩

theorem meets_SealAndCalibration_11 : ∃ (s : State) (l : List Byte), (mUart s = true) ∧ (s.metro.sealed_ = false) ∧ (l.length = 64) ∧ (s.metro.authority = [] ∨ s.metro.sealBroken = true) :=
  ⟨metering, zeros 64, by decide, by decide, by decide, by decide⟩

theorem meets_SealAndCalibration_12 : ∃ (s : State), (mUart s = false ∨ s.metro.sealed_ = true ∨ s.metro.authority ≠ [] ∧ s.metro.sealBroken = false) :=
  ⟨sealedM, by decide⟩

theorem meets_SealAndCalibration_13 : ∃ (s : State), (mUart s = true) ∧ (s.metro.sealed_ = false) ∧ (s.metro.calGen ≠ 0) ∧ (s.metro.authority ≠ []) :=
  ⟨{ sealedM with metro := { sealedM.metro with sealed_ := false } }, by decide, by decide, by decide, by decide⟩

theorem meets_SealAndCalibration_14 : ∃ (s : State), (mUart s = false ∨ s.metro.sealed_ = true ∨ s.metro.calGen = 0 ∨ s.metro.authority = []) :=
  ⟨metering, by decide⟩

theorem meets_SealAndCalibration_15 : ∃ (s : State), (mUart s = true) ∧ (s.metro.sealed_ = true) :=
  ⟨sealedM, by decide, by decide⟩

theorem meets_SealAndCalibration_16 : ∃ (s : State), (mUart s = false ∨ s.metro.sealed_ = false) :=
  ⟨metering, by decide⟩

theorem meets_SealAndCalibration_17 : ∃ (s : State), (mUart s = true) :=
  ⟨metering, by decide⟩

theorem meets_SealAndCalibration_18 : ∃ (s : State), (mUart s = false) :=
  ⟨ready, by decide⟩

theorem meets_CurrentStream_1 : ∃ (s : State) (n : BitVec 32) (p : BitVec 32) (v : BitVec 32) (m : BitVec 16) (k : BitVec 16), (cUp s = true) ∧ (s.part.hasM = true) ∧ (mAnswers s.metro = true) ∧ (s.mport.lastSample ≠ some s.metro.sample) ∧ (crc16 (streamFields n p v m) ≠ k) :=
  ⟨metering, 1, 2, 3, 1, 0, by decide, by decide, by decide, by decide, by decide⟩

theorem meets_CurrentStream_2 : ∃ (s : State), (cUp s = true) ∧ (s.part.hasM = true) ∧ (mAnswers s.metro = true) ∧ (s.mport.lastSample ≠ some s.metro.sample) :=
  ⟨metering, by decide, by decide, by decide, by decide⟩

theorem meets_CurrentStream_3 : ∃ (s : State), (cUp s = false ∨ s.part.hasM = false ∨ mAnswers s.metro = false ∨ s.mport.lastSample = some s.metro.sample) :=
  ⟨ready, by decide⟩

theorem meets_CurrentStream_4 : ∃ (s : State), (cUp s = true) ∧ (s.part.hasM = true) ∧ (s.mport.goodAt + msT ≤ s.now) :=
  ⟨{ metering with now := msT }, by decide, by decide, by decide⟩

theorem meets_CurrentStream_5 : ∃ (s : State), (cUp s = false ∨ s.part.hasM = false ∨ s.now < s.mport.goodAt + msT) :=
  ⟨metering, by decide⟩

theorem meets_CurrentStream_6 : ∃ (s : State) (k : Tick), (cUp s = true) ∧ (s.mport.withdrawn = true) ∧ (s.mport.goodSince = some k) ∧ (k + secT ≤ s.now) :=
  ⟨{ metering with now := secT, mport := { metering.mport with withdrawn := true, goodSince := some 0 } }, 0, by decide, by decide, by decide, by decide⟩

theorem meets_CurrentStream_7 : ∃ (s : State), (cUp s = false ∨ s.mport.withdrawn = false ∨ (s.mport.goodSince.any fun t => decide (t + secT ≤ s.now)) = false) :=
  ⟨metering, by decide⟩

theorem meets_CurrentStream_8 : ∃ (s : State), (cUp s = true) ∧ (s.part.hasM = true) ∧ (s.mport.polledAt + secT ≤ s.now) ∧ (s.power.state = .run ∨ s.power.state = .monitor ∨ s.power.state = .service) ∧ (mAnswers s.metro = true) :=
  ⟨{ metering with now := secT }, by decide, by decide, by decide, by decide, by decide⟩

theorem meets_CurrentStream_9 : ∃ (s : State), (cUp s = true) ∧ (s.part.hasM = true) ∧ (s.mport.polledAt + secT ≤ s.now) ∧ (s.power.state = .run ∨ s.power.state = .monitor ∨ s.power.state = .service) ∧ (mAnswers s.metro = false) :=
  ⟨{ ready with now := secT }, by decide, by decide, by decide, by decide, by decide⟩

theorem meets_CurrentStream_10 : ∃ (s : State), (cUp s = false ∨ s.part.hasM = false ∨ s.now < s.mport.polledAt + secT ∨ ¬ (s.power.state = .run ∨ s.power.state = .monitor ∨ s.power.state = .service)) :=
  ⟨sleeping, by decide⟩

theorem meets_SafetySessions_1 : ∃ (s : State) (h : Hdr), (served s h 0x0901) ∧ (loginLocked s = true) :=
  ⟨{ ready with safety := { ready.safety with lockEnd := some 1 } }, h1, by decide, by decide⟩

theorem meets_SafetySessions_2 : ∃ (s : State) (h : Hdr) (l : List Byte), (served s h 0x0901) ∧ (loginLocked s = false) ∧ (l ≠ s.nv.password) :=
  ⟨ready, h1, [65], by decide, by decide, by decide⟩

theorem meets_SafetySessions_3 : ∃ (s : State) (h : Hdr), (served s h 0x0901) ∧ (loginLocked s = false) :=
  ⟨ready, h1, by decide, by decide⟩

theorem meets_SafetySessions_4 : ∃ (s : State) (h : Hdr) (p : Proof), (served s h 0x0902) ∧ (proofGood s h 0x0902 ([]) p = true) :=
  ⟨inSafety, h1, (goodProof 0x0902 ([])), by exact ⟨by decide, goodProof_good _ _⟩⟩

theorem meets_SafetySessions_5 : ∃ (s : State) (h : Hdr) (p : Proof), (served s h 0x0902) ∧ (proofGood s h 0x0902 ([]) p = false) :=
  ⟨ready, h1, { session := 0, count := 1, mac := [] }, by decide, by decide⟩

theorem meets_SafetySessions_6 : ∃ (s : State) (h : Hdr) (p : Proof) (n : Nat) (l : List Byte), (served s h 0x0904) ∧ (proofGood s h 0x0904 (le 1 n ++ le 1 l.length ++ zeros 2 ++ l) p = false) :=
  ⟨ready, h1, { session := 0, count := 1, mac := [] }, 2, [0, 0], by decide, by decide⟩

theorem meets_SafetySessions_7 : ∃ (s : State) (h : Hdr) (p : Proof) (n : Nat), (served s h 0x0905) ∧ (proofGood s h 0x0905 (le 4 n) p = false) :=
  ⟨ready, h1, { session := 0, count := 1, mac := [] }, 2, by decide, by decide⟩

theorem meets_SafetySessions_8 : ∃ (s : State) (h : Hdr) (p : Proof) (a : List Byte) (l : List Byte), (served s h 0x0906) ∧ (proofGood s h 0x0906 (le 1 a.length ++ le 1 l.length ++ zeros 2 ++ a ++ l) p = false) :=
  ⟨ready, h1, { session := 0, count := 1, mac := [] }, [], [65], by decide, by decide⟩

theorem meets_SafetySessions_9 : ∃ (s : State) (h : Hdr) (p : Proof) (m : Nat) (a : Nat), (served s h 0x0907) ∧ (proofGood s h 0x0907 (le 1 m ++ le 1 a ++ zeros 2) p = false) :=
  ⟨ready, h1, { session := 0, count := 1, mac := [] }, 3, 1, by decide, by decide⟩

theorem meets_SafetySessions_10 : ∃ (s : State) (h : Hdr) (p : Proof) (n : Nat), (served s h 0x0908) ∧ (proofGood s h 0x0908 (le 1 n ++ zeros 3) p = false) :=
  ⟨ready, h1, { session := 0, count := 1, mac := [] }, 1, by decide, by decide⟩

theorem meets_SafetySessions_11 : ∃ (s : State) (h : Hdr) (p : Proof) (n : Nat), (served s h 0x090B) ∧ (proofGood s h 0x090B (le 1 n ++ zeros 3) p = false) :=
  ⟨ready, h1, { session := 0, count := 1, mac := [] }, 1, by decide, by decide⟩

theorem meets_SafetySessions_12 : ∃ (s : State) (h : Hdr) (p : Proof) (a : List Byte) (l : List Byte), (served s h 0x0906) ∧ (proofGood s h 0x0906 (le 1 a.length ++ le 1 l.length ++ zeros 2 ++ a ++ l) p = true) ∧ (passwordOk l = false) :=
  ⟨inSafety, h1, (goodProof 0x0906 (le 1 (zeros 0).length ++ le 1 ([0x7F]).length ++ zeros 2 ++ (zeros 0) ++ ([0x7F]))), zeros 0, [0x7F], by exact ⟨by decide, goodProof_good _ _, by decide⟩⟩

theorem meets_SafetySessions_13 : ∃ (s : State) (h : Hdr) (p : Proof) (l : List Byte), (served s h 0x0906) ∧ (proofGood s h 0x0906 (le 1 s.nv.password.length ++ le 1 l.length ++ zeros 2 ++ s.nv.password ++ l) p = true) ∧ (passwordOk l = true) :=
  ⟨inSafety, h1, (goodProof 0x0906 (le 1 inSafety.nv.password.length ++ le 1 ([65]).length ++ zeros 2 ++ inSafety.nv.password ++ ([65]))), [65], by exact ⟨by decide, goodProof_good _ _, by decide⟩⟩

theorem meets_SafetySessions_14 : ∃ (s : State) (h : Hdr) (p : Proof) (a : List Byte) (l : List Byte), (served s h 0x0906) ∧ (proofGood s h 0x0906 (le 1 a.length ++ le 1 l.length ++ zeros 2 ++ a ++ l) p = true) ∧ (passwordOk l = true) ∧ (a ≠ s.nv.password) :=
  ⟨inSafety, h1, (goodProof 0x0906 (le 1 ([66]).length ++ le 1 ([65]).length ++ zeros 2 ++ ([66]) ++ ([65]))), [66], [65], by exact ⟨by decide, goodProof_good _ _, by decide, by decide⟩⟩

theorem meets_SafetySessions_16 : ∃ (s : State) (k : Tick), (s.safety.lockEnd = some k) ∧ (k ≤ s.now) :=
  ⟨{ ready with now := 1, safety := { ready.safety with lockEnd := some 1 } }, 1, by decide, by decide⟩

theorem meets_SafetySessions_17 : ∃ (s : State), ((s.safety.lockEnd.any fun t => decide (t ≤ s.now)) = false) :=
  ⟨ready, by decide⟩

theorem meets_SafetyCommands_1 : ∃ (s : State) (h : Hdr) (w : Nat), (served s h 0x0903) ∧ (w ≠ 1) :=
  ⟨ready, h1, 0, by decide, by decide⟩

theorem meets_SafetyCommands_2 : ∃ (s : State) (h : Hdr), (served s h 0x0903) :=
  ⟨ready, h1, by decide⟩

theorem meets_SafetyCommands_3 : ∃ (s : State) (h : Hdr) (p : Proof) (n : Nat) (l : List Byte), (served s h 0x0904) ∧ (proofGood s h 0x0904 (le 1 n ++ le 1 l.length ++ zeros 2 ++ l) p = true) :=
  ⟨inSafety, h1, (goodProof 0x0904 (le 1 (2) ++ le 1 ([0xCC, 0x10]).length ++ zeros 2 ++ ([0xCC, 0x10]))), 2, [0xCC, 0x10], by exact ⟨by decide, goodProof_good _ _⟩⟩

theorem meets_SafetyCommands_4 : ∃ (s : State) (h : Hdr) (p : Proof) (n : Nat), (served s h 0x0905) ∧ (proofGood s h 0x0905 (le 4 n) p = true) ∧ (s.nv.password = []) :=
  ⟨inSafety, h1, (goodProof 0x0905 (le 4 (0))), 0, by exact ⟨by decide, goodProof_good _ _, by decide⟩⟩

theorem meets_SafetyCommands_5 : ∃ (s : State) (h : Hdr) (p : Proof) (n : Nat), (served s h 0x0905) ∧ (proofGood s h 0x0905 (le 4 n) p = true) ∧ (s.nv.password ≠ []) ∧ (n ≠ (crc32 (fit 124 (stagingOf s h))).toNat) :=
  ⟨withPassword, h1, (goodProof 0x0905 (le 4 ((crc32 (fit 124 (stagingOf withPassword h1))).toNat + 1))), (crc32 (fit 124 (stagingOf withPassword h1))).toNat + 1, by exact ⟨by decide, goodProof_good _ _, by decide, succ_ne _⟩⟩

theorem meets_SafetyCommands_6 : ∃ (s : State) (h : Hdr) (p : Proof) (n : Nat), (served s h 0x0905) ∧ (proofGood s h 0x0905 (le 4 n) p = true) ∧ (canOpen s h) ∧ (s.nv.password ≠ []) ∧ (n = (crc32 (fit 124 (stagingOf s h))).toNat) :=
  ⟨withPassword, h1, (goodProof 0x0905 (le 4 ((crc32 (fit 124 (stagingOf withPassword h1))).toNat))), (crc32 (fit 124 (stagingOf withPassword h1))).toNat, by exact ⟨by decide, goodProof_good _ _, by decide, by decide, rfl⟩⟩

theorem meets_SafetyCommands_7 : ∃ (s : State) (q : PendingCfg), (s.safety.applying = some q) :=
  ⟨{ ready with safety := { ready.safety with applying := some pendCfg } }, pendCfg, by decide⟩

theorem meets_SafetyCommands_8 : ∃ (s : State), (s.safety.applying = none) :=
  ⟨ready, by decide⟩

theorem meets_SafetyCommands_9 : ∃ (s : State) (h : Hdr) (p : Proof) (m : Nat) (a : Nat), (served s h 0x0907) ∧ (proofGood s h 0x0907 (le 1 m ++ le 1 a ++ zeros 2) p = true) ∧ (a ≠ 1) :=
  ⟨inSafety, h1, (goodProof 0x0907 (le 1 (3) ++ le 1 (0) ++ zeros 2)), 3, 0, by exact ⟨by decide, goodProof_good _ _, by decide⟩⟩

theorem meets_SafetyCommands_10 : ∃ (s : State) (h : Hdr) (p : Proof) (m : Nat), (served s h 0x0907) ∧ (proofGood s h 0x0907 (le 1 m ++ le 1 1 ++ zeros 2) p = true) ∧ (closeReason s (m % 4) ≠ 0) :=
  ⟨inSafety, h1, (goodProof 0x0907 (le 1 (3) ++ le 1 1 ++ zeros 2)), 3, by exact ⟨by decide, goodProof_good _ _, by decide⟩⟩

theorem meets_SafetyCommands_11 : ∃ (s : State) (h : Hdr) (p : Proof) (m : Nat), (served s h 0x0907) ∧ (proofGood s h 0x0907 (le 1 m ++ le 1 1 ++ zeros 2) p = true) ∧ (closeReason s (m % 4) = 0) :=
  ⟨closable, h1, (goodProof 0x0907 (le 1 (1) ++ le 1 1 ++ zeros 2)), 1, by exact ⟨by decide, goodProof_good _ _, by decide⟩⟩

theorem meets_SafetyCommands_12 : ∃ (s : State) (h : Hdr) (p : Proof) (n : Nat), (served s h 0x0908) ∧ (proofGood s h 0x0908 (le 1 n ++ zeros 3) p = true) ∧ ((s.stage.graces.any fun g => g.running) = false) :=
  ⟨inSafety, h1, (goodProof 0x0908 (le 1 (1) ++ zeros 3)), 1, by exact ⟨by decide, goodProof_good _ _, by decide⟩⟩

theorem meets_SafetyCommands_13 : ∃ (s : State) (h : Hdr) (p : Proof) (n : Nat), (served s h 0x0908) ∧ (proofGood s h 0x0908 (le 1 n ++ zeros 3) p = true) ∧ ((s.stage.graces.any fun g => g.running) = true) ∧ (n ≠ 1) :=
  ⟨inGrace, h1, (goodProof 0x0908 (le 1 (0) ++ zeros 3)), 0, by exact ⟨by decide, goodProof_good _ _, by decide, by decide⟩⟩

theorem meets_SafetyCommands_14 : ∃ (s : State) (h : Hdr) (p : Proof), (served s h 0x0908) ∧ (proofGood s h 0x0908 (le 1 1 ++ zeros 3) p = true) ∧ ((s.stage.graces.any fun g => g.running) = true) :=
  ⟨inGrace, h1, (goodProof 0x0908 (le 1 1 ++ zeros 3)), by exact ⟨by decide, goodProof_good _ _, by decide⟩⟩

theorem meets_SafetyCommands_15 : ∃ (s : State) (h : Hdr), (served s h 0x0909) :=
  ⟨ready, h1, by decide⟩

theorem meets_SafetyCommands_16 : ∃ (s : State) (h : Hdr), (served s h 0x090A) :=
  ⟨ready, h1, by decide⟩

theorem meets_SafetyCommands_17 : ∃ (s : State) (h : Hdr) (p : Proof) (n : Nat), (served s h 0x090B) ∧ (proofGood s h 0x090B (le 1 n ++ zeros 3) p = true) ∧ (n = 0 ∨ inputAt s n = none ∨ (inputAt s n).any (·.crash) = false) :=
  ⟨inSafety, h1, (goodProof 0x090B (le 1 (1) ++ zeros 3)), 1, by exact ⟨by decide, goodProof_good _ _, by decide⟩⟩

theorem meets_SafetyCommands_18 : ∃ (s : State) (h : Hdr) (p : Proof) (n : Nat) (i : SInput), (served s h 0x090B) ∧ (proofGood s h 0x090B (le 1 n ++ zeros 3) p = true) ∧ (1 ≤ n) ∧ (inputAt s n = some i) ∧ (i.crash = true) ∧ (inOperate s i = false ∨ s.now < i.operateAt + secT) :=
  ⟨crashed, h1, (goodProof 0x090B (le 1 (1) ++ zeros 3)), 1, crashedIn, by exact ⟨by decide, goodProof_good _ _, by decide, by decide, by decide, by decide⟩⟩

theorem meets_SafetyCommands_19 : ∃ (s : State) (h : Hdr) (p : Proof) (n : Nat) (i : SInput), (served s h 0x090B) ∧ (proofGood s h 0x090B (le 1 n ++ zeros 3) p = true) ∧ (1 ≤ n) ∧ (inputAt s n = some i) ∧ (i.crash = true) ∧ (inOperate s i = true) ∧ (i.operateAt + secT ≤ s.now) :=
  ⟨{ crashed with now := secT }, h1, (goodProof 0x090B (le 1 (1) ++ zeros 3)), 1, crashedIn, by exact ⟨by decide, goodProof_good _ _, by decide, by decide, by decide, by decide, by decide⟩⟩

theorem meets_SafetyStage_1 : ∃ (s : State) (n : Nat) (k : Nat) (m : Nat) (b : Bool) (i : SInput) (j : SInput) (r : SInput × Bool), (inputAt s n = some i) ∧ (1 ≤ n) ∧ (n ≤ 4) ∧ ((if k = 0 then i.chA else i.chB) ≠ b) ∧ (filterSamples s n ≤ m) ∧ (r = channelSet s.now (inDisc s n) k b i) ∧ (j = { r.1 with bothSafe := r.1.bothSafe || (r.1.latched && !r.1.chA && !r.1.chB), operateAt := if inOperate s r.1 && !inOperate s i then s.now else r.1.operateAt }) ∧ (inFunc s n = 0) :=
  ⟨ready, 1, 0, 12, true, SInput.reset, { SInput.reset with chA := true, firstCh := some 0 }, ({ SInput.reset with chA := true, firstCh := some 0 }, false), by decide, by decide, by decide, by decide, by decide, by decide, by decide, by decide⟩

theorem meets_SafetyStage_2 : ∃ (s : State) (n : Nat) (k : Nat) (m : Nat) (b : Bool) (i : SInput) (j : SInput) (r : SInput × Bool) (u : State) (v : State), (inputAt s n = some i) ∧ (1 ≤ n) ∧ (n ≤ 4) ∧ ((if k = 0 then i.chA else i.chB) ≠ b) ∧ (filterSamples s n ≤ m) ∧ (r = channelSet s.now (inDisc s n) k b i) ∧ (j = { r.1 with bothSafe := r.1.bothSafe || (r.1.latched && !r.1.chA && !r.1.chB), operateAt := if inOperate s r.1 && !inOperate s i then s.now else r.1.operateAt }) ∧ (inFunc s n ≠ 0) ∧ (u = updInput s n fun _ => { j with crash := j.crash || (inOperate s i && !b && inFunc s n == 3) }) ∧ (v = if inOperate s i && !b then raise u 0 7 0x70 (256 * n + inFunc s n) else u) :=
  ⟨emergency, 1, 0, 24, false, inputUp, { inputUp with chA := false, firstCh := some 0 }, ({ inputUp with chA := false, firstCh := some 0 }, false), (updInput emergency 1 fun _ => { inputUp with chA := false, firstCh := some 0 }), (raise (updInput emergency 1 fun _ => { inputUp with chA := false, firstCh := some 0 }) 0 7 0x70 257), by exact ⟨by decide, by decide, by decide, by decide, by decide, by decide, by decide, by decide, rfl, rfl⟩⟩

theorem meets_SafetyStage_3 : ∃ (s : State) (n : Nat) (m : Nat) (i : SInput), (inputAt s n = some i) ∧ (1 ≤ n) ∧ (n ≤ 4) ∧ (inFunc s n = 1) ∧ (4 * cfg8 s 15 ≤ m) ∧ (i.chA = true) ∧ (i.chB = true) ∧ (i.latched = false) ∧ (i.firstCh = none) ∧ (s.stage.overA = false) ∧ (s.stage.overB = false) :=
  ⟨emergency, 1, 24, inputUp, by decide, by decide, by decide, by decide, by decide, by decide, by decide, by decide, by decide, by decide, by decide⟩

theorem meets_SafetyStage_4 : ∃ (s : State) (n : Nat) (k : Nat) (m : Nat) (b : Bool) (i : SInput), (inputAt s n = some i) ∧ (1 ≤ n) ∧ (n ≤ 4) ∧ ((if k = 0 then i.chA else i.chB) = b ∨ m < filterSamples s n) :=
  ⟨emergency, 1, 1, 0, false, inputUp, by decide, by decide, by decide, by decide⟩

theorem meets_SafetyStage_5 : ∃ (s : State) (n : Nat), (n = 0 ∨ 4 < n ∨ inputAt s n = none) :=
  ⟨emergency, 5, by decide⟩

theorem meets_SafetyStage_6 : ∃ (s : State) (n : Nat) (k : Nat) (i : SInput), (inputAt s n = some i) ∧ (1 ≤ n) ∧ (n ≤ 4) ∧ (i.firstCh = some k) ∧ (i.firstAt / msT + inDisc s n + 1 ≤ s.now / msT) :=
  ⟨{ halfDown with now := 101 * msT }, 1, 0, inputHalf, by decide, by decide, by decide, by decide, by decide⟩

theorem meets_SafetyStage_7 : ∃ (s : State) (n : Nat), (1 ≤ n) ∧ (n ≤ 4) ∧ (((inputAt s n).any fun i => i.firstCh.isSome && decide (i.firstAt / msT + inDisc s n + 1 ≤ s.now / msT)) = false) :=
  ⟨{ halfDown with now := 101 * msT - 1 }, 1, by decide, by decide, by decide⟩

theorem meets_SafetyStage_11 : ∃ (s : State), (hvilEn s = false) :=
  ⟨ready, by decide⟩

theorem meets_SafetyStage_12 : ∃ (s : State) (a : Nat) (b : Nat) (l : Bool) (c : Stage), (hvilEn s = true) ∧ (c = hvilCounts s a b l) ∧ (c.hvilHigh = 2) :=
  ⟨{ hvilOn with stage := { hvilOn.stage with hvilHigh := 1 } }, 10, 10, false, hvilCounts { hvilOn with stage := { hvilOn.stage with hvilHigh := 1 } } 10 10 false, by decide, by decide, by decide⟩

theorem meets_SafetyStage_13 : ∃ (s : State) (a : Nat) (b : Nat) (l : Bool) (c : Stage), (hvilEn s = true) ∧ (c = hvilCounts s a b l) ∧ (c.hvilHigh ≠ 2) ∧ (c.hvilLow = 2) :=
  ⟨{ hvilOn with stage := { hvilOn.stage with hvilLow := 1 } }, 0, 0, true, hvilCounts { hvilOn with stage := { hvilOn.stage with hvilLow := 1 } } 0 0 true, by decide, by decide, by decide, by decide⟩

theorem meets_SafetyStage_14 : ∃ (s : State) (a : Nat) (b : Nat) (l : Bool) (c : Stage), (hvilEn s = true) ∧ (c = hvilCounts s a b l) ∧ (c.hvilHigh ≠ 2) ∧ (c.hvilLow ≠ 2) ∧ (c.hvilMiss = cfg8 s 17) :=
  ⟨{ hvilOn with stage := { hvilOn.stage with hvilMiss := 2 } }, 0, 0, false, hvilCounts { hvilOn with stage := { hvilOn.stage with hvilMiss := 2 } } 0 0 false, by decide, by decide, by decide, by decide, by decide⟩

theorem meets_SafetyStage_15 : ∃ (s : State) (a : Nat) (b : Nat) (l : Bool) (c : Stage), (hvilEn s = true) ∧ (c = hvilCounts s a b l) ∧ (c.hvilHigh ≠ 2) ∧ (c.hvilLow ≠ 2) ∧ (c.hvilMiss ≠ cfg8 s 17) :=
  ⟨hvilOn, 10, 0, false, hvilCounts hvilOn 10 0 false, by decide, by decide, by decide, by decide, by decide⟩

theorem meets_SafetyStage_16 : ∃ (s : State) (a : Nat) (b : Nat), (hvilEn s = true) ∧ (cfg8 s 18 ≤ 2 * a) ∧ (2 * b < cfg8 s 18) ∧ (emptySlot s = false) ∧ (2 ≤ cfg8 s 17) ∧ (s.stage.hvilGood < 15) :=
  ⟨hvilOn, 5, 4, by decide, by decide, by decide, by decide, by decide, by decide⟩

theorem meets_SafetyStage_17 : ∃ (s : State) (a : Nat) (b : Nat), (hvilEn s = true) ∧ (2 * a < cfg8 s 18) ∧ (2 * b < cfg8 s 18) ∧ (emptySlot s = false) ∧ (s.stage.hvilMiss + 1 = cfg8 s 17) :=
  ⟨{ hvilOn with stage := { hvilOn.stage with hvilMiss := 2 } }, 4, 0, by decide, by decide, by decide, by decide, by decide⟩

theorem meets_SafetyStage_18 : ∃ (s : State), (s.stage.so1 = true) ∧ (s.stage.test1 = none) ∧ (s.stage.at1 + 2 * msT ≤ s.now) :=
  ⟨closed1, by decide, by decide, by decide⟩

theorem meets_SafetyStage_19 : ∃ (s : State), (s.stage.so1 = true) ∧ (s.stage.test1 = none) ∧ (s.stage.at1 + 2 * msT ≤ s.now) :=
  ⟨closed1, by decide, by decide, by decide⟩

theorem meets_SafetyStage_20 : ∃ (s : State), (s.stage.so1 = false) ∧ (s.stage.test1 = none) ∧ (s.stage.at1 + 2 * msT ≤ s.now) :=
  ⟨{ ready with now := 2 * msT }, by decide, by decide, by decide⟩

theorem meets_SafetyStage_21 : ∃ (s : State), (s.stage.so1 = false) ∧ (s.stage.test1 = none) ∧ (s.stage.at1 + 2 * msT ≤ s.now) :=
  ⟨{ ready with now := 2 * msT }, by decide, by decide, by decide⟩

theorem meets_SafetyStage_22 : ∃ (s : State), (s.stage.so2 = true) ∧ (s.stage.test2 = none) ∧ (s.stage.at2 + 2 * msT ≤ s.now) :=
  ⟨closed2, by decide, by decide, by decide⟩

theorem meets_SafetyStage_23 : ∃ (s : State), (s.stage.so2 = true) ∧ (s.stage.test2 = none) ∧ (s.stage.at2 + 2 * msT ≤ s.now) :=
  ⟨closed2, by decide, by decide, by decide⟩

theorem meets_SafetyStage_24 : ∃ (s : State), (s.stage.so2 = false) ∧ (s.stage.test2 = none) ∧ (s.stage.at2 + 2 * msT ≤ s.now) :=
  ⟨closed1, by decide, by decide, by decide⟩

theorem meets_SafetyStage_25 : ∃ (s : State), (s.stage.so2 = false) ∧ (s.stage.test2 = none) ∧ (s.stage.at2 + 2 * msT ≤ s.now) :=
  ⟨closed1, by decide, by decide, by decide⟩

theorem meets_SafetyStage_26 : ∃ (s : State), (s.stage.test1 ≠ none ∨ s.now < s.stage.at1 + 2 * msT) :=
  ⟨ready, by decide⟩

theorem meets_SafetyStage_27 : ∃ (s : State), (s.stage.test2 ≠ none ∨ s.now < s.stage.at2 + 2 * msT) :=
  ⟨ready, by decide⟩

theorem meets_SafetyStage_28 : ∃ (s : State), (s.stage.so1 = true) ∧ (s.packTime % (500 * msT) = 0) :=
  ⟨closed1, by decide, by decide⟩

theorem meets_SafetyStage_29 : ∃ (s : State), (s.stage.so2 = true) ∧ (s.packTime % (500 * msT) = 250 * msT) :=
  ⟨{ closed2 with packTime := 250 * msT }, by decide, by decide⟩

theorem meets_SafetyStage_30 : ∃ (s : State), (s.stage.so1 = false ∨ s.packTime % (500 * msT) ≠ 0) :=
  ⟨ready, by decide⟩

theorem meets_SafetyStage_31 : ∃ (s : State), (s.stage.so2 = false ∨ s.packTime % (500 * msT) ≠ 250 * msT) :=
  ⟨closed1, by decide⟩

theorem meets_SafetyStage_32 : ∃ (s : State) (k : Tick) (l : Bool) (g : Bool), (s.stage.test1 = some k) ∧ (k + cfg8 s 14 * 10 * usT + (if l && !g then 200 * usT else 0) ≤ s.now) :=
  ⟨{ closed1 with stage := { closed1.stage with test1 := some 0 } }, 0, true, false, by decide, by decide⟩

theorem meets_SafetyStage_33 : ∃ (s : State) (k : Tick) (l : Bool) (g : Bool), (s.stage.test2 = some k) ∧ (k + cfg8 s 14 * 10 * usT + (if l && !g then 200 * usT else 0) ≤ s.now) :=
  ⟨{ closed1 with stage := { closed1.stage with test2 := some 0 } }, 0, true, false, by decide, by decide⟩

theorem meets_SafetyStage_34 : ∃ (s : State) (l : Bool) (g : Bool), ((s.stage.test1.any fun k => decide (k + cfg8 s 14 * 10 * usT + (if l && !g then 200 * usT else 0) ≤ s.now)) = false) :=
  ⟨closed1, true, true, by decide⟩

theorem meets_SafetyStage_35 : ∃ (s : State) (l : Bool) (g : Bool), ((s.stage.test2.any fun k => decide (k + cfg8 s 14 * 10 * usT + (if l && !g then 200 * usT else 0) ≤ s.now)) = false) :=
  ⟨closed1, true, true, by decide⟩

theorem meets_SafetyStage_36 : ∃ (e : Int), (-50 ≤ e) ∧ (e ≤ 50) :=
  ⟨50, by decide, by decide⟩

theorem meets_SafetyStage_37 : ∃ (e : Int), (50 < e ∨ e < -50) :=
  ⟨-51, by decide⟩

theorem meets_SafetyStage_38 : ∃ (s : State) (k : Nat) (x : Nat) (b : Bool) (g : Grace), ((s.stage.graces.find? fun g => g.die == k && g.cell == x && g.under == b && g.running && decide (g.endAt ≤ s.now)) = some g) ∧ (compHolds s k x b = true) :=
  ⟨graceTrip, 7, 2, false, graceA, by decide, by decide⟩

theorem meets_SafetyStage_39 : ∃ (s : State) (k : Nat) (x : Nat) (b : Bool) (g : Grace), ((s.stage.graces.find? fun g => g.die == k && g.cell == x && g.under == b && g.running && decide (g.endAt ≤ s.now)) = some g) ∧ (compHolds s k x b = false) :=
  ⟨{ graceTrip with stage := { graceTrip.stage with graces := [{ graceA with under := true }] } }, 7, 2, true, { graceA with under := true }, by decide, by decide⟩

theorem meets_SafetyStage_40 : ∃ (s : State) (k : Nat) (x : Nat) (b : Bool), ((s.stage.graces.find? fun g => g.die == k && g.cell == x && g.under == b && g.running && decide (g.endAt ≤ s.now)) = none) :=
  ⟨ready, 7, 2, true, by decide⟩

theorem meets_FaultCommands_1 : ∃ (s : State) (h : Hdr) (w : Nat) (f : Nat), (served s h 0x0A01) ∧ ((heldRecs s w).length ≤ f) :=
  ⟨ready, h1, 0, 0, by decide, by decide⟩

theorem meets_FaultCommands_2 : ∃ (s : State) (h : Hdr) (w : Nat) (f : Nat), (served s h 0x0A01) ∧ (f < (heldRecs s w).length) :=
  ⟨oneRec, h1, 0, 0, by decide, by decide⟩

theorem meets_FaultCommands_3 : ∃ (s : State) (h : Hdr), (served s h 0x0A02) ∧ (s.faults.clearing ≠ none) :=
  ⟨{ ready with faults := { ready.faults with clearing := some clearA } }, h1, by decide, by decide⟩

theorem meets_FaultCommands_4 : ∃ (s : State) (h : Hdr) (x : Nat), (served s h 0x0A02) ∧ (s.faults.clearing = none) ∧ (openOf s x = none) :=
  ⟨ready, h1, 8, by decide, by decide, by decide⟩

theorem meets_FaultCommands_5 : ∃ (s : State) (h : Hdr) (x : Nat) (p : Option Proof) (r : FRec), (served s h 0x0A02) ∧ (s.faults.clearing = none) ∧ (openOf s x = some r) ∧ (p.isSome ≠ decide (3 ≤ r.cls)) :=
  ⟨oneSafe, h1, 8, none, recSafe, by decide, by decide, by decide, by decide⟩

theorem meets_FaultCommands_6 : ∃ (s : State) (h : Hdr) (a : Nat), (served s h 0x0A02) ∧ (s.faults.clearing = none) ∧ (a ≠ 0) :=
  ⟨oneSafe, h1, 1, by decide, by decide, by decide⟩

theorem meets_FaultCommands_7 : ∃ (s : State) (h : Hdr) (x : Nat) (r : FRec), (served s h 0x0A02) ∧ (s.faults.clearing = none) ∧ (openOf s x = some r) ∧ (r.cls < 3) :=
  ⟨{ ready with faults := { ready.faults with open_ := [recPlain] } }, h1, 8, recPlain, by decide, by decide, by decide, by decide⟩

theorem meets_FaultCommands_8 : ∃ (s : State) (h : Hdr) (x : Nat) (r : FRec), (served s h 0x0A02) ∧ (s.faults.clearing = none) ∧ (s.faults.open_ = [r]) ∧ (openOf s x = some r) ∧ (r.cls < 3) ∧ (r.causes = []) ∧ (opOf s h = none) :=
  ⟨{ ready with faults := { ready.faults with open_ := [recPlain] } }, h1, 8, recPlain, by decide, by decide, by decide, by decide, by decide, by decide, by decide⟩

theorem meets_FaultCommands_9 : ∃ (s : State) (h : Hdr) (x : Nat) (a : Nat) (p : Proof), (served s h 0x0A02) ∧ (s.faults.clearing = none) ∧ (a ≠ 0 ∨ (openOf s x).any (fun r => decide (3 ≤ r.cls)) = true) ∧ (proofGood s h 0x0A02 (clearPre x a) p = false) :=
  ⟨oneSafe, h1, 0, 1, { session := 0, count := 1, mac := [] }, by decide, by decide, by decide, by decide⟩

theorem meets_FaultCommands_10 : ∃ (s : State) (h : Hdr) (p : Proof) (x : Nat) (a : Nat), (served s h 0x0A02) ∧ (proofGood s h 0x0A02 (clearPre x a) p = true) ∧ (s.faults.clearing = none) ∧ (a ≠ 0 ∨ (openOf s x).any (fun r => decide (3 ≤ r.cls)) = true) :=
  ⟨inSafe1, h1, (goodProof 0x0A02 (clearPre (8) (0))), 8, 0, by exact ⟨by decide, goodProof_good _ _, by decide, by decide⟩⟩

theorem meets_FaultCommands_11 : ∃ (s : State) (h : Hdr), (served s h 0x0A03) :=
  ⟨ready, h1, by decide⟩

theorem meets_FaultCommands_12 : ∃ (s : State) (h : Hdr) (n : Nat), (served s h 0x0A04) ∧ (4 < n) :=
  ⟨ready, h1, 5, by decide, by decide⟩

theorem meets_FaultCommands_13 : ∃ (s : State) (h : Hdr) (k : Nat) (n : Nat) (p : Proof), (served s h 0x0A04) ∧ (n ≤ 4) ∧ (proofGood s h 0x0A04 (le 1 k ++ le 1 n ++ zeros 2) p = false) :=
  ⟨ready, h1, 0, 3, { session := 0, count := 1, mac := [] }, by decide, by decide, by decide⟩

theorem meets_FaultCommands_14 : ∃ (s : State) (h : Hdr) (p : Proof) (k : Nat) (n : Nat), (served s h 0x0A04) ∧ (proofGood s h 0x0A04 (le 1 k ++ le 1 n ++ zeros 2) p = true) ∧ (n ≤ 4) ∧ (reactionFixed k n = true) :=
  ⟨inSafety, h1, (goodProof 0x0A04 (le 1 (0x80) ++ le 1 (1) ++ zeros 2)), 0x80, 1, by exact ⟨by decide, goodProof_good _ _, by decide, by decide⟩⟩

theorem meets_FaultCommands_15 : ∃ (s : State) (h : Hdr) (p : Proof) (k : Nat) (n : Nat), (served s h 0x0A04) ∧ (proofGood s h 0x0A04 (le 1 k ++ le 1 n ++ zeros 2) p = true) ∧ (n ≤ 4) ∧ (reactionFixed k n = false) :=
  ⟨inSafety, h1, (goodProof 0x0A04 (le 1 (0) ++ le 1 (3) ++ zeros 2)), 0, 3, by exact ⟨by decide, goodProof_good _ _, by decide, by decide⟩⟩

theorem meets_FaultCommands_16 : ∃ (s : State) (h : Hdr), (served s h 0x0A05) :=
  ⟨ready, h1, by decide⟩

theorem meets_FaultCommands_17 : ∃ (s : State) (h : Hdr), (served s h 0x0A06) ∧ (injectPermitted s = false) :=
  ⟨monitoring, h1, by decide, by decide⟩

theorem meets_FaultCommands_18 : ∃ (s : State) (h : Hdr) (x : Nat), (served s h 0x0A06) ∧ (injectPermitted s = true) ∧ (s.fitted (x / 32) = false) :=
  ⟨noM, h1, 32, by decide, by decide, by decide⟩

theorem meets_FaultCommands_19 : ∃ (s : State) (h : Hdr) (x : Nat) (k : Nat) (d : Nat) (m : Nat) (u : Nat) (p : Proof), (served s h 0x0A06) ∧ (injectPermitted s = true) ∧ (s.fitted (x / 32) = true) ∧ (proofGood s h 0x0A06 (le 1 x ++ le 1 k ++ le 2 d ++ le 2 m ++ le 1 u ++ [0]) p = false) :=
  ⟨ready, h1, 8, 0x80, 0, 0, 0, { session := 0, count := 1, mac := [] }, by decide, by decide, by decide, by decide⟩

theorem meets_FaultCommands_20 : ∃ (s : State) (h : Hdr) (p : Proof) (x : Nat) (k : Nat) (d : Nat) (m : Nat) (u : Nat), (served s h 0x0A06) ∧ (proofGood s h 0x0A06 (le 1 x ++ le 1 k ++ le 2 d ++ le 2 m ++ le 1 u ++ [0]) p = true) ∧ (injectPermitted s = true) ∧ (s.fitted (x / 32) = true) ∧ (sourceRaises (x / 32) (x % 32) k = false) :=
  ⟨inSafety, h1, (goodProof 0x0A06 (le 1 (8) ++ le 1 (0x83) ++ le 2 (0) ++ le 2 (0) ++ le 1 (0) ++ [0])), 8, 0x83, 0, 0, 0, by exact ⟨by decide, goodProof_good _ _, by decide, by decide, by decide⟩⟩

theorem meets_FaultCommands_21 : ∃ (s : State) (h : Hdr) (p : Proof) (x : Nat) (k : Nat) (d : Nat) (m : Nat) (u : Nat), (served s h 0x0A06) ∧ (proofGood s h 0x0A06 (le 1 x ++ le 1 k ++ le 2 d ++ le 2 m ++ le 1 u ++ [0]) p = true) ∧ (injectPermitted s = true) ∧ (s.fitted (x / 32) = true) ∧ (sourceRaises (x / 32) (x % 32) k = true) :=
  ⟨inSafety, h1, (goodProof 0x0A06 (le 1 (8) ++ le 1 (0x80) ++ le 2 (1) ++ le 2 (10000) ++ le 1 (1) ++ [0])), 8, 0x80, 1, 10000, 1, by exact ⟨by decide, goodProof_good _ _, by decide, by decide, by decide⟩⟩

theorem meets_FaultCommands_22 : ∃ (s : State) (h : Hdr), (served s h 0x0A07) ∧ (injectPermitted s = false) :=
  ⟨monitoring, h1, by decide, by decide⟩

theorem meets_FaultCommands_23 : ∃ (s : State) (h : Hdr) (x : Nat) (m : Nat) (n : Nat) (p : Proof), (served s h 0x0A07) ∧ (injectPermitted s = true) ∧ (proofGood s h 0x0A07 (le 1 x ++ le 1 m ++ le 1 n ++ [0]) p = false) :=
  ⟨ready, h1, 0, 0, 1, { session := 0, count := 1, mac := [] }, by decide, by decide, by decide⟩

theorem meets_FaultCommands_24 : ∃ (s : State) (h : Hdr) (p : Proof) (x : Nat) (m : Nat) (n : Nat), (served s h 0x0A07) ∧ (proofGood s h 0x0A07 (le 1 x ++ le 1 m ++ le 1 n ++ [0]) p = true) ∧ (injectPermitted s = true) :=
  ⟨inSafety, h1, (goodProof 0x0A07 (le 1 (4) ++ le 1 (0) ++ le 1 (16) ++ [0])), 4, 0, 16, by exact ⟨by decide, goodProof_good _ _, by decide⟩⟩

theorem meets_FaultCommands_25 : ∃ (s : State) (h : Hdr) (p : Proof) (a : Nat) (n : Nat) (x : Nat), (served s h 0x0A08) ∧ (proofGood s h 0x0A08 (le 1 a ++ [0] ++ le 2 n ++ le 4 x) p = false) :=
  ⟨ready, h1, { session := 0, count := 1, mac := [] }, 1, 100, 0, by decide, by decide⟩

theorem meets_FaultCommands_26 : ∃ (s : State) (h : Hdr) (p : Proof) (n : Nat) (x : Nat), (served s h 0x0A08) ∧ (proofGood s h 0x0A08 (le 1 0 ++ [0] ++ le 2 n ++ le 4 x) p = true) ∧ (s.wd.armed = true) :=
  ⟨{ inSafety with wd := wdArmed.wd }, h1, (goodProof 0x0A08 (le 1 0 ++ [0] ++ le 2 (100) ++ le 4 (0))), 100, 0, by exact ⟨by decide, goodProof_good _ _, by decide⟩⟩

theorem meets_FaultCommands_27 : ∃ (s : State) (h : Hdr) (p : Proof) (n : Nat) (x : Nat), (served s h 0x0A08) ∧ (proofGood s h 0x0A08 (le 1 0 ++ [0] ++ le 2 n ++ le 4 x) p = true) ∧ (s.wd.armed = false) :=
  ⟨inSafety, h1, (goodProof 0x0A08 (le 1 0 ++ [0] ++ le 2 (1000) ++ le 4 (4294967295))), 1000, 4294967295, by exact ⟨by decide, goodProof_good _ _, by decide⟩⟩

theorem meets_FaultCommands_28 : ∃ (s : State) (h : Hdr) (p : Proof) (n : Nat) (x : Nat), (served s h 0x0A08) ∧ (proofGood s h 0x0A08 (le 1 1 ++ [0] ++ le 2 n ++ le 4 x) p = true) :=
  ⟨inSafety, h1, (goodProof 0x0A08 (le 1 1 ++ [0] ++ le 2 (1) ++ le 4 (0))), 1, 0, by exact ⟨by decide, goodProof_good _ _⟩⟩

theorem meets_FaultCommands_29 : ∃ (s : State) (h : Hdr) (p : Proof) (n : Nat) (x : Nat), (served s h 0x0A08) ∧ (proofGood s h 0x0A08 (le 1 1 ++ [0] ++ le 2 n ++ le 4 x) p = true) ∧ (s.wd.armed = false) :=
  ⟨inSafety, h1, (goodProof 0x0A08 (le 1 1 ++ [0] ++ le 2 (1) ++ le 4 (0))), 1, 0, by exact ⟨by decide, goodProof_good _ _, by decide⟩⟩

theorem meets_FaultCommands_30 : ∃ (s : State) (h : Hdr), (served s h 0x0A09) :=
  ⟨ready, h1, by decide⟩

theorem meets_FaultCommands_31 : ∃ (s : State) (h : Hdr) (i : Nat) (e : Evidence), (served s h 0x0A0A) ∧ (s.aon.evidence[i]? = some e) :=
  ⟨{ ready with aon := { ready.aon with evidence := [evA] } }, h1, 0, evA, by decide, by decide⟩

theorem meets_FaultCommands_32 : ∃ (s : State) (h : Hdr) (i : Nat), (served s h 0x0A0A) ∧ (s.aon.evidence[i]? = none) :=
  ⟨ready, h1, 0, by decide, by decide⟩

theorem meets_FaultCommands_33 : ∃ (s : State) (h : Hdr) (a : Nat), (served s h 0x0A0B) ∧ (a ≠ 1) ∧ (a ≠ 2) :=
  ⟨ready, h1, 0, by decide, by decide, by decide⟩

theorem meets_FaultCommands_34 : ∃ (s : State) (h : Hdr) (x : Nat) (a : Nat), (served s h 0x0A0B) ∧ (a = 1 ∨ a = 2) ∧ (openOf s x = none) :=
  ⟨ready, h1, 8, 2, by decide, by decide, by decide⟩

theorem meets_FaultCommands_35 : ∃ (s : State) (h : Hdr) (x : Nat) (a : Nat) (r : FRec), (served s h 0x0A0B) ∧ (a = 1 ∨ a = 2) ∧ (openOf s x = some r) ∧ (s.faults.hostMode = false ∨ r.decide_ = false) :=
  ⟨{ ready with faults := { ready.faults with open_ := [recPlain] } }, h1, 8, 2, recPlain, by decide, by decide, by decide, by decide⟩

theorem meets_FaultCommands_36 : ∃ (s : State) (h : Hdr) (x : Nat) (a : Nat) (r : FRec), (served s h 0x0A0B) ∧ (a = 1 ∨ a = 2) ∧ (openOf s x = some r) ∧ (s.faults.hostMode = true) ∧ (r.decide_ = true) :=
  ⟨{ ready with faults := { ready.faults with open_ := [recWaits], hostMode := true } }, h1, 8, 2, recWaits, by decide, by decide, by decide, by decide, by decide⟩

theorem meets_FaultCommands_37 : ∃ (s : State) (h : Hdr), (served s h 0x0A0D) :=
  ⟨ready, h1, by decide⟩

theorem meets_FaultRecords_1 : ∃ (s : State) (m : BitVec 32), (openOf s (msgSource m) = none) ∧ (s.faults.open_.length < 64) :=
  ⟨ready, 0x07700101, by decide, by decide⟩

theorem meets_FaultRecords_2 : ∃ (s : State) (m : BitVec 32) (r : FRec), (openOf s (msgSource m) = some r) :=
  ⟨oneRec, 0x08000101, recOpen, by decide⟩

theorem meets_FaultRecords_3 : ∃ (s : State) (m : BitVec 32), (openOf s (msgSource m) = none) ∧ (64 ≤ s.faults.open_.length) :=
  ⟨{ ready with faults := { ready.faults with open_ := List.replicate 64 recOpen, nextId := 1 } }, 0x07700101, by decide, by decide⟩

theorem meets_FaultRecords_4 : ∃ (s : State) (m : BitVec 32), (openOf s (msgSource m) = none) ∧ (s.faults.open_.length < 64) ∧ (classOf s (msgKind m) = 0) :=
  ⟨ready, 0x09C30203, by decide, by decide, by decide⟩

theorem meets_FaultRecords_5 : ∃ (s : State) (m : BitVec 32), (openOf s (msgSource m) = none) ∧ (s.faults.open_.length < 64) ∧ (1 ≤ classOf s (msgKind m)) :=
  ⟨ready, 0x07700101, by decide, by decide, by decide⟩

theorem meets_FaultRecords_6 : ∃ (s : State) (m : BitVec 32), (openOf s (msgSource m) = none) ∧ (s.faults.open_.length < 64) ∧ (classOf s (msgKind m) = 4) :=
  ⟨closed1, 0x09870000, by decide, by decide, by decide⟩

theorem meets_FaultRecords_7 : ∃ (s : State) (x : Nat) (r : FRec), (openOf s x = some r) ∧ (r.cls = 0) ∧ (r.heard + secT ≤ s.now) :=
  ⟨{ oneInfo with now := secT }, 9, recInfo, by decide, by decide, by decide⟩

theorem meets_FaultRecords_8 : ∃ (s : State) (x : Nat), (((openOf s x).any fun r => decide (r.cls = 0) && decide (r.heard + secT ≤ s.now)) = false) :=
  ⟨oneInfo, 9, by decide⟩

theorem meets_Supervision_1 : ∃ (s : State) (k : Nat), (s.sup.stopped = false) ∧ (k < 16) :=
  ⟨ready, 15, by decide, by decide⟩

theorem meets_Supervision_2 : ∃ (s : State) (k : Nat), (s.sup.stopped = true ∨ 16 ≤ k) :=
  ⟨asleepC, 0, by decide⟩

theorem meets_Supervision_3 : ∃ (s : State), (s.sup.stopped = false) ∧ (studioAsleep s = false) :=
  ⟨needs2, by decide, by decide⟩

theorem meets_Supervision_4 : ∃ (s : State), (s.sup.stopped = true ∨ studioAsleep s = true) :=
  ⟨asleepC, by decide⟩

theorem meets_Supervision_9 : ∃ (s : State), (s.flash.jobs = []) :=
  ⟨closed1, by decide⟩

theorem meets_Supervision_10 : ∃ (s : State), (s.flash.jobs ≠ []) :=
  ⟨flashing, by decide⟩

theorem meets_Supervision_11 : ∃ (s : State), (s.flash.jobs ≠ []) :=
  ⟨flashing, by decide⟩

theorem meets_Supervision_12 : ∃ (s : State), (s.dailies.refillAt + 4 * secT ≤ s.now) ∧ (s.dailies.dropped = 0 ∨ min 512 (s.dailies.bucket + 1) < 64) :=
  ⟨{ ready with now := 4 * secT }, by decide, by decide⟩

theorem meets_Supervision_13 : ∃ (s : State), (s.dailies.refillAt + 4 * secT ≤ s.now) ∧ (s.dailies.dropped ≠ 0) ∧ (64 ≤ min 512 (s.dailies.bucket + 1)) :=
  ⟨{ ready with now := 4 * secT, dailies := { ready.dailies with dropped := 3 } }, by decide, by decide, by decide⟩

theorem meets_Supervision_14 : ∃ (s : State), (s.now < s.dailies.refillAt + 4 * secT) :=
  ⟨ready, by decide⟩

theorem meets_Supervision_15 : ∃ (s : State) (h : Hdr) (a : Nat) (b : Nat) (k : Nat), (served s h 0x0E01) ∧ (dailiesRange s a b k = []) :=
  ⟨ready, h1, 0, 4294967295, 127, by decide, by decide⟩

theorem meets_Supervision_16 : ∃ (s : State) (h : Hdr) (a : Nat) (b : Nat) (k : Nat) (d : Nat) (l : List Nat), (served s h 0x0E01) ∧ (canOpen s h) ∧ (dailiesRange s a b k = d :: l) :=
  ⟨logged, h1, 0, 9, 1, 4, [], by decide, by decide, by decide⟩

theorem meets_Supervision_17 : ∃ (s : State), (s.dailies.reads = []) :=
  ⟨ready, by decide⟩

theorem meets_Supervision_18 : ∃ (s : State) (h : Hdr) (d : Nat) (n : Nat) (f : Nat) (l : List Nat) (r : List (Hdr × List Nat × Nat × Nat)), (s.dailies.reads = (h, d :: l, n, f) :: r) ∧ ((s.nv.dailies.find? fun x => x.dseq == d) = none) :=
  ⟨{ logged with dailies := { logged.dailies with reads := [(opA.hdr, [9], 0, 4)] }, mail := oneOp.mail }, opA.hdr, 9, 0, 4, [], [], by decide, by decide⟩

theorem meets_Supervision_19 : ∃ (s : State) (h : Hdr) (d : Nat) (n : Nat) (f : Nat) (l : List Nat) (r : List (Hdr × List Nat × Nat × Nat)) (e : DEntry), (s.dailies.reads = (h, d :: l, n, f) :: r) ∧ ((s.nv.dailies.find? fun x => x.dseq == d) = some e) ∧ (streamRoom s 9 48 664 = false) :=
  ⟨(let u : State := { logged with dailies := { logged.dailies with reads := [(opA.hdr, [4], 0, 4)] }, mail := oneOp.mail }; { u with port := { u.port with strWr := 65000 } }), opA.hdr, 4, 0, 4, [], [], entD, by decide, by decide, by decide⟩

theorem meets_Supervision_20 : ∃ (s : State) (h : Hdr) (d : Nat) (n : Nat) (f : Nat) (l : List Nat) (r : List (Hdr × List Nat × Nat × Nat)) (e : DEntry), (s.dailies.reads = (h, d :: l, n, f) :: r) ∧ ((s.nv.dailies.find? fun x => x.dseq == d) = some e) ∧ (streamRoom s 9 48 664 = true) ∧ (l = []) :=
  ⟨{ logged with dailies := { logged.dailies with reads := [(opA.hdr, [4], 0, 4)] }, mail := oneOp.mail }, opA.hdr, 4, 0, 4, [], [], entD, by decide, by decide, by decide, by decide⟩

theorem meets_Supervision_21 : ∃ (s : State) (h : Hdr) (d : Nat) (n : Nat) (f : Nat) (l : List Nat) (r : List (Hdr × List Nat × Nat × Nat)) (e : DEntry), (s.dailies.reads = (h, d :: l, n, f) :: r) ∧ ((s.nv.dailies.find? fun x => x.dseq == d) = some e) ∧ (streamRoom s 9 48 664 = true) ∧ (l ≠ []) :=
  ⟨{ logged with dailies := { logged.dailies with reads := [(opA.hdr, [4, 5], 0, 4)] }, mail := oneOp.mail }, opA.hdr, 4, 0, 4, [5], [], entD, by decide, by decide, by decide, by decide⟩

theorem meets_Supervision_22 : ∃ (s : State) (h : Hdr) (n : Nat) (f : Nat) (r : List (Hdr × List Nat × Nat × Nat)), (s.dailies.reads = (h, [], n, f) :: r) :=
  ⟨{ logged with dailies := { logged.dailies with reads := [(opA.hdr, [], 0, 4)] }, mail := oneOp.mail }, opA.hdr, 0, 4, [], by decide⟩

theorem meets_Supervision_23 : ∃ (s : State) (h : Hdr), (served s h 0x0E02) :=
  ⟨ready, h1, by decide⟩

theorem meets_Supervision_24 : ∃ (s : State) (h : Hdr), (served s h 0x0E03) ∧ (s.dailies.bucket < 64) :=
  ⟨{ ready with dailies := { ready.dailies with bucket := 63 } }, h1, by decide, by decide⟩

theorem meets_Supervision_25 : ∃ (s : State) (h : Hdr), (served s h 0x0E03) ∧ (64 ≤ s.dailies.bucket) :=
  ⟨ready, h1, by decide, by decide⟩

theorem meets_UpdateTransfers_1 : ∃ (s : State) (h : Hdr) (n : Nat), (served s h 0x0C01) ∧ (s.fw.transfer ≠ none) ∧ (n ≤ 1) :=
  ⟨downloading, h2, 0, by decide, by decide, by decide⟩

theorem meets_UpdateTransfers_2 : ∃ (s : State) (h : Hdr), (served s h 0x0C01) ∧ (s.fw.transfer = none) :=
  ⟨ready, h2, by decide, by decide⟩

theorem meets_UpdateTransfers_3 : ∃ (s : State) (h : Hdr) (l : List Byte) (l0 : List Byte), (served s h 0x0C01) ∧ (s.fw.transfer = none) ∧ (s.fw.head = some l0) ∧ (s.sup.recovery = false ∨ hdrVal (l0 ++ l) 8 1 ≤ 1) :=
  ⟨{ ready with fw := { ready.fw with head := some (zeros 128) } }, h2, zeros 128, zeros 128, by decide, by decide, by decide, by decide⟩

theorem meets_UpdateTransfers_4 : ∃ (s : State) (h : Hdr), (served s h 0x0C01) ∧ (s.fw.transfer = none) ∧ (s.fw.head = none) :=
  ⟨ready, h2, by decide, by decide, by decide⟩

theorem meets_UpdateTransfers_5 : ∃ (s : State) (h : Hdr) (l : List Byte) (l0 : List Byte), (served s h 0x0C01) ∧ (s.fw.transfer = none) ∧ (s.fw.head = some l0) ∧ (s.sup.recovery = true) ∧ (1 < hdrVal (l0 ++ l) 8 1) :=
  ⟨{ tadpole with fw := { tadpole.fw with head := some (List.replicate 128 2) } }, h2, zeros 128, List.replicate 128 2, by decide, by decide, by decide, by decide, by decide⟩

theorem meets_UpdateTransfers_6 : ∃ (s : State) (h : Hdr), (served s h 0x0C02) ∧ (s.fw.transfer = none) :=
  ⟨ready, h2, by decide, by decide⟩

theorem meets_UpdateTransfers_7 : ∃ (s : State) (h : Hdr) (n : Nat) (l : List Byte) (q : Transfer), (served s h 0x0C02) ∧ (s.fw.transfer = some q) ∧ (n = q.received) ∧ (q.received + l.length < q.length) :=
  ⟨downloading, h2, 0, [1], xferA, by decide, by decide, by decide, by decide⟩

theorem meets_UpdateTransfers_8 : ∃ (s : State) (h : Hdr) (n : Nat) (l : List Byte) (q : Transfer), (served s h 0x0C02) ∧ (s.fw.transfer = some q) ∧ (n = q.received) ∧ (q.received + l.length = q.length) :=
  ⟨downloading, h2, 0, [1, 2], xferA, by decide, by decide, by decide, by decide⟩

theorem meets_UpdateTransfers_9 : ∃ (s : State) (h : Hdr) (n : Nat) (l : List Byte) (q : Transfer), (served s h 0x0C02) ∧ (s.fw.transfer = some q) ∧ (n ≠ q.received ∨ q.length < q.received + l.length) ∧ (n = q.lastOffset) ∧ (l = q.lastData) ∧ (0 < q.received) :=
  ⟨{ downloading with fw := { downloading.fw with transfer := some { xferA with received := 1, lastData := [1] } } }, h2, 0, [1], { xferA with received := 1, lastData := [1] }, by exact ⟨by decide, by decide, by decide, by decide, by decide, by decide⟩⟩

theorem meets_UpdateTransfers_10 : ∃ (s : State) (h : Hdr) (n : Nat) (l : List Byte) (q : Transfer), (served s h 0x0C02) ∧ (s.fw.transfer = some q) ∧ (n ≠ q.received ∨ q.length < q.received + l.length) ∧ (n ≠ q.lastOffset ∨ l ≠ q.lastData ∨ q.received = 0) :=
  ⟨downloading, h2, 1, [1], xferA, by decide, by decide, by decide, by decide⟩

theorem meets_UpdateTransfers_11 : ∃ (s : State) (h : Hdr), (served s h 0x0C03) ∧ (s.fw.transfer = none) :=
  ⟨ready, h2, by decide, by decide⟩

theorem meets_UpdateTransfers_12 : ∃ (s : State) (h : Hdr) (q : Transfer), (served s h 0x0C03) ∧ (s.fw.transfer = some q) ∧ (q.received < q.length) :=
  ⟨downloading, h2, xferA, by decide, by decide, by decide⟩

theorem meets_UpdateTransfers_13 : ∃ (s : State) (h : Hdr) (q : Transfer), (served s h 0x0C03) ∧ (canOpen s h) ∧ (s.fw.transfer = some q) ∧ (q.length ≤ q.received) :=
  ⟨{ downloading with fw := { downloading.fw with transfer := some { xferA with received := 2 } } }, h2, { xferA with received := 2 }, by exact ⟨by decide, by decide, by decide, by decide⟩⟩

theorem meets_UpdateTransfers_14 : ∃ (s : State) (h : Hdr), (served s h 0x0C04) ∧ (s.fw.transfer = none) :=
  ⟨ready, h2, by decide, by decide⟩

theorem meets_UpdateTransfers_15 : ∃ (s : State) (h : Hdr) (q : Transfer), (served s h 0x0C04) ∧ (s.fw.transfer = some q) :=
  ⟨downloading, h2, xferA, by decide, by decide⟩

theorem meets_UpdateTransfers_16 : ∃ (s : State) (h : Hdr), (served s h 0x0C06) :=
  ⟨ready, h2, by decide⟩

theorem meets_UpdateTransfers_17 : ∃ (s : State) (h : Hdr) (m : Nat), (served s h 0x0C07) ∧ (m ≤ 1) ∧ (s.nv.boot.pending ≠ 0 ∨ s.fw.activation ≠ none) :=
  ⟨due2, h2, 1, by decide, by decide, by decide⟩

theorem meets_UpdateTransfers_18 : ∃ (s : State) (h : Hdr) (m : Nat), (served s h 0x0C07) ∧ (m ≤ 1) ∧ (s.nv.boot.pending = 0) ∧ (s.fw.activation = none) :=
  ⟨ready, h2, 1, by decide, by decide, by decide, by decide⟩

theorem meets_UpdateTransfers_19 : ∃ (s : State) (h : Hdr) (p : Proof) (l : List Byte), (served s h 0x0C09) ∧ (proofGood s h 0x0C09 (zeros 4 ++ l) p = false) :=
  ⟨ready, h3, { session := 0, count := 1, mac := [] }, [1], by decide, by decide⟩

theorem meets_UpdateTransfers_20 : ∃ (s : State) (h : Hdr) (p : Proof) (l : List Byte), (served s h 0x0C09) ∧ (proofGood s h 0x0C09 (zeros 4 ++ l) p = true) ∧ (s.nv.customerKey ≠ []) :=
  ⟨{ inSafety with nv := { inSafety.nv with customerKey := [1] } }, h3, (goodProof3 0x0C09 (zeros 4 ++ ([1]))), [1], by exact ⟨by decide, goodProof3_good _ _, by decide⟩⟩

theorem meets_UpdateTransfers_21 : ∃ (s : State) (h : Hdr) (p : Proof) (l : List Byte), (served s h 0x0C09) ∧ (proofGood s h 0x0C09 (zeros 4 ++ l) p = true) ∧ (s.nv.customerKey = []) ∧ (lifeInUse s = false) :=
  ⟨{ inSafety with life := { inSafety.life with state := 4 } }, h3, (goodProof3 0x0C09 (zeros 4 ++ ([1]))), [1], by exact ⟨by decide, goodProof3_good _ _, by decide, by decide⟩⟩

theorem meets_UpdateTransfers_22 : ∃ (s : State) (h : Hdr) (p : Proof) (l : List Byte), (served s h 0x0C09) ∧ (proofGood s h 0x0C09 (zeros 4 ++ l) p = true) ∧ (s.nv.customerKey = []) ∧ (lifeInUse s = true) :=
  ⟨inSafety, h3, (goodProof3 0x0C09 (zeros 4 ++ ([1]))), [1], by exact ⟨by decide, goodProof3_good _ _, by decide, by decide⟩⟩

theorem meets_Activations_1 : ∃ (s : State) (h : Hdr), (served s h 0x0C05) ∧ (s.sup.recovery = false) ∧ (s.nv.boot.pending ≠ 0 ∨ s.fw.activation ≠ none) :=
  ⟨{ ready with fw := { ready.fw with activation := some actA } }, h2, by decide, by decide, by decide⟩

theorem meets_Activations_2 : ∃ (s : State) (h : Hdr) (n : Nat), (served s h 0x0C05) ∧ (s.sup.recovery = false) ∧ (s.nv.boot.pending = 0) ∧ (s.fw.activation = none) ∧ (s.fw.hostMode = true) ∧ (n ≠ 0) :=
  ⟨{ ready with fw := { ready.fw with hostMode := true } }, h2, 1, by decide, by decide, by decide, by decide, by decide, by decide⟩

theorem meets_Activations_3 : ∃ (s : State) (h : Hdr) (k : Nat), (served s h 0x0C05) ∧ (s.sup.recovery = false) ∧ (s.nv.boot.pending = 0) ∧ (s.fw.activation = none) ∧ (s.fw.hostMode = true) ∧ (k ≠ 0) :=
  ⟨{ ready with fw := { ready.fw with hostMode := true } }, h2, 1, by decide, by decide, by decide, by decide, by decide, by decide⟩

theorem meets_Activations_4 : ∃ (s : State) (h : Hdr) (n : Nat), (served s h 0x0C05) ∧ (s.sup.recovery = false) ∧ (s.nv.boot.pending = 0) ∧ (s.fw.activation = none) ∧ (s.fw.hostMode = false) ∧ (n < s.packTime + 500 * msT ∨ s.packTime + 86400 * secT < n) :=
  ⟨ready, h2, 0, by decide, by decide, by decide, by decide, by decide, by decide⟩

theorem meets_Activations_5 : ∃ (s : State) (h : Hdr) (n : Nat), (served s h 0x0C05) ∧ (s.sup.recovery = false) ∧ (s.nv.boot.pending = 0) ∧ (s.fw.activation = none) ∧ (s.fw.hostMode = false) ∧ (s.packTime + 500 * msT ≤ n) ∧ (n ≤ s.packTime + 86400 * secT) ∧ (primaryHead s = false) :=
  ⟨{ ready with chain := { ready.chain with secondary := true, addr := 5, count := 5 } }, h2, 500 * msT, by decide, by decide, by decide, by decide, by decide, by decide, by decide, by decide⟩

theorem meets_Activations_6 : ∃ (s : State) (h : Hdr) (m : Nat) (k : Nat) (n : Nat), (served s h 0x0C05) ∧ (s.sup.recovery = false) ∧ (s.nv.boot.pending = 0) ∧ (s.fw.activation = none) ∧ (s.fw.hostMode = false) ∧ (s.packTime + 500 * msT ≤ n) ∧ (n ≤ s.packTime + 86400 * secT) ∧ ((k = 0 ∨ k = 1 ∧ primaryHead s = true)) ∧ (m % 32 = 0 ∨ allVerified s m = false) :=
  ⟨ready, h2, 2, 0, 500 * msT, by decide, by decide, by decide, by decide, by decide, by decide, by decide, by decide, by decide⟩

theorem meets_Activations_7 : ∃ (s : State) (h : Hdr) (m : Nat), (served s h 0x0C05) ∧ (s.sup.recovery = false) ∧ (s.nv.boot.pending = 0) ∧ (s.fw.activation = none) ∧ (s.fw.hostMode = true) ∧ (m % 32 = 0 ∨ allVerified s m = false) :=
  ⟨{ ready with fw := { ready.fw with hostMode := true } }, h2, 2, by decide, by decide, by decide, by decide, by decide, by decide⟩

theorem meets_Activations_8 : ∃ (s : State) (h : Hdr) (m : Nat) (k : Nat) (n : Nat), (served s h 0x0C05) ∧ (s.sup.recovery = false) ∧ (s.nv.boot.pending = 0) ∧ (s.fw.activation = none) ∧ (s.fw.hostMode = false) ∧ (s.packTime + 500 * msT ≤ n) ∧ (n ≤ s.packTime + 86400 * secT) ∧ ((k = 0 ∨ k = 1 ∧ primaryHead s = true)) ∧ (m % 32 ≠ 0) ∧ (allVerified s m = true) ∧ (rolledBack s m = true) :=
  ⟨{ verified2 with nv := { verified2.nv with boot := { verified2.nv.boot with rollIdx := [0, 7, 0, 0, 0] } } }, h2, 2, 1, 500 * msT, by decide, by decide, by decide, by decide, by decide, by decide, by decide, by decide, by decide, by decide, by decide⟩

theorem meets_Activations_9 : ∃ (s : State) (h : Hdr) (m : Nat) (k : Nat) (n : Nat), (served s h 0x0C05) ∧ (s.sup.recovery = false) ∧ (s.nv.boot.pending = 0) ∧ (s.fw.activation = none) ∧ (s.fw.hostMode = false) ∧ (s.packTime + 500 * msT ≤ n) ∧ (n ≤ s.packTime + 86400 * secT) ∧ ((k = 0 ∨ k = 1 ∧ primaryHead s = true)) ∧ (m % 32 ≠ 0) ∧ (allVerified s m = true) ∧ (rolledBack s m = false) ∧ (conditionsHold s m = false) :=
  ⟨{ ready with nv := { ready.nv with boot := { ready.nv.boot with verified := 1 } } }, h2, 1, 0, 500 * msT, by decide, by decide, by decide, by decide, by decide, by decide, by decide, by decide, by decide, by decide, by decide, by decide⟩

theorem meets_Activations_10 : ∃ (s : State) (h : Hdr) (m : Nat) (n : Nat), (served s h 0x0C05) ∧ (canOpen s h) ∧ (s.sup.recovery = false) ∧ (s.nv.boot.pending = 0) ∧ (s.fw.activation = none) ∧ (s.fw.hostMode = false) ∧ (s.packTime + 500 * msT ≤ n) ∧ (n ≤ s.packTime + 86400 * secT) ∧ (m % 32 ≠ 0) ∧ (allVerified s m = true) ∧ (rolledBack s m = false) ∧ (conditionsHold s m = true) :=
  ⟨verified2, h2, 2, 500 * msT, by exact ⟨by decide, by decide, by decide, by decide, by decide, by decide, by decide, by decide, by decide, by decide, by decide, by decide⟩⟩

theorem meets_Activations_11 : ∃ (s : State) (h : Hdr) (m : Nat) (n : Nat), (served s h 0x0C05) ∧ (canOpen s h) ∧ (s.sup.recovery = false) ∧ (s.nv.boot.pending = 0) ∧ (s.fw.activation = none) ∧ (s.fw.hostMode = false) ∧ (s.packTime + 500 * msT ≤ n) ∧ (n ≤ s.packTime + 86400 * secT) ∧ (primaryHead s = true) ∧ (m % 32 ≠ 0) ∧ (allVerified s m = true) ∧ (rolledBack s m = false) ∧ (conditionsHold s m = true) :=
  ⟨verified2, h2, 2, 500 * msT, by exact ⟨by decide, by decide, by decide, by decide, by decide, by decide, by decide, by decide, by decide, by decide, by decide, by decide, by decide⟩⟩

theorem meets_Activations_12 : ∃ (s : State) (h : Hdr) (m : Nat), (served s h 0x0C05) ∧ (canOpen s h) ∧ (s.sup.recovery = false) ∧ (s.nv.boot.pending = 0) ∧ (s.fw.activation = none) ∧ (s.fw.hostMode = true) ∧ (m % 32 ≠ 0) ∧ (allVerified s m = true) ∧ (rolledBack s m = false) ∧ (conditionsHold s m = true) :=
  ⟨{ verified2 with fw := { verified2.fw with hostMode := true } }, h2, 2, by exact ⟨by decide, by decide, by decide, by decide, by decide, by decide, by decide, by decide, by decide, by decide⟩⟩

theorem meets_Activations_13 : ∃ (s : State), (s.fw.activation = none ∨ (s.fw.activation.any fun a => a.committed || decide (s.packTime + 100 * msT < a.at_)) = true) :=
  ⟨ready, by decide⟩

theorem meets_Activations_14 : ∃ (s : State) (q : Activation), (s.fw.activation = some q) ∧ (q.committed = false) ∧ (q.at_ ≤ s.packTime + 100 * msT) ∧ (conditionsHold s q.tmask = true) ∧ (allVerified s q.tmask = true) :=
  ⟨armed2, actA, by decide, by decide, by decide, by decide, by decide⟩

theorem meets_Activations_15 : ∃ (s : State) (q : Activation) (l : List Nat) (n : Nat), (s.fw.activation = some q) ∧ (q.committed = false) ∧ (q.at_ ≤ s.packTime + 100 * msT) ∧ ((if (conditionsHold s q.tmask && allVerified s q.tmask) = true then l else s.chain.addr :: l).head? = some n) :=
  ⟨armed2, actA, [7], 7, by decide, by decide, by decide, by decide⟩

theorem meets_Activations_16 : ∃ (s : State), (s.nv.boot.pending = 0 ∨ s.fw.running ≠ s.nv.boot.active ∨ s.packTime < s.nv.boot.actAt) :=
  ⟨ready, by decide⟩

theorem meets_Activations_17 : ∃ (s : State), (s.nv.boot.pending ≠ 0) ∧ (s.fw.running = s.nv.boot.active) ∧ (s.nv.boot.actAt ≤ s.packTime) ∧ (partLevel s.nv.boot.pending = true) :=
  ⟨{ due2 with nv := { due2.nv with boot := { due2.nv.boot with pending := 3 } } }, by decide, by decide, by decide, by decide⟩

theorem meets_Activations_18 : ∃ (s : State), (s.nv.boot.pending ≠ 0) ∧ (s.fw.running = s.nv.boot.active) ∧ (s.nv.boot.actAt ≤ s.packTime) ∧ (partLevel s.nv.boot.pending = false) ∧ (bit s.nv.boot.pending 3 = false) ∧ (bit s.nv.boot.pending 1 = true ∨ bit s.nv.boot.pending 4 = true) :=
  ⟨due2, by decide, by decide, by decide, by decide, by decide, by decide⟩

theorem meets_Activations_19 : ∃ (s : State), (s.nv.boot.pending ≠ 0) ∧ (s.fw.running = s.nv.boot.active) ∧ (s.nv.boot.actAt ≤ s.packTime) ∧ (partLevel s.nv.boot.pending = false) ∧ (bit s.nv.boot.pending 3 = true) ∧ (bit s.nv.boot.pending 1 = true ∨ bit s.nv.boot.pending 4 = true) :=
  ⟨{ due2 with nv := { due2.nv with boot := { due2.nv.boot with pending := 10 } } }, by decide, by decide, by decide, by decide, by decide, by decide⟩

theorem meets_Activations_20 : ∃ (s : State), (s.nv.boot.pending ≠ 0) ∧ (s.fw.running = s.nv.boot.active) ∧ (s.nv.boot.actAt ≤ s.packTime) ∧ (partLevel s.nv.boot.pending = false) ∧ (bit s.nv.boot.pending 1 = false) ∧ (bit s.nv.boot.pending 4 = false) ∧ (bit s.nv.boot.pending 3 = true) :=
  ⟨{ due2 with nv := { due2.nv with boot := { due2.nv.boot with pending := 8 } } }, by decide, by decide, by decide, by decide, by decide, by decide, by decide⟩

theorem meets_Activations_21 : ∃ (s : State), (s.nv.boot.pending = 2) ∧ (s.fw.running = s.nv.boot.active) ∧ (s.nv.boot.actAt ≤ s.packTime) :=
  ⟨due2, by decide, by decide, by decide⟩

theorem meets_LifeCycle_1 : ∃ (s : State) (h : Hdr), (served s h 0x0D01) :=
  ⟨ready, h3, by decide⟩

theorem meets_LifeCycle_2 : ∃ (s : State) (h : Hdr) (p : Proof) (n : Nat) (l : List Byte), (served s h 0x0D02) ∧ (proofGood s h 0x0D02 (le 1 n ++ zeros 3 ++ l) p = false) :=
  ⟨ready, h3, { session := 0, count := 1, mac := [] }, 3, [], by decide, by decide⟩

theorem meets_LifeCycle_3 : ∃ (s : State) (h : Hdr) (p : Proof), (served s h 0x0D03) ∧ (proofGood s h 0x0D03 ([]) p = false) :=
  ⟨ready, h3, { session := 0, count := 1, mac := [] }, by decide, by decide⟩

theorem meets_LifeCycle_4 : ∃ (s : State) (h : Hdr) (p : Proof) (l : List Byte), (served s h 0x0D04) ∧ (proofGood s h 0x0D04 (l) p = false) :=
  ⟨ready, h3, { session := 0, count := 1, mac := [] }, zeros 168, by decide, by decide⟩

theorem meets_LifeCycle_5 : ∃ (s : State) (h : Hdr) (p : Proof) (m : Nat), (served s h 0x0D06) ∧ (proofGood s h 0x0D06 (le 1 m ++ zeros 3) p = false) :=
  ⟨ready, h3, { session := 0, count := 1, mac := [] }, 4, by decide, by decide⟩

theorem meets_LifeCycle_6 : ∃ (s : State) (h : Hdr) (p : Proof) (l : List Byte), (served s h 0x0D02) ∧ (proofGood s h 0x0D02 (le 1 3 ++ zeros 3 ++ l) p = true) ∧ (s.life.state = 2) ∧ (fieldNeeds s = true) :=
  ⟨fieldReady, h3, (goodProof3 0x0D02 (le 1 3 ++ zeros 3 ++ ([]))), [], by exact ⟨by decide, goodProof3_good _ _, by decide, by decide⟩⟩

theorem meets_LifeCycle_7 : ∃ (s : State) (h : Hdr) (p : Proof) (n : Nat) (l : List Byte), (served s h 0x0D02) ∧ (proofGood s h 0x0D02 (le 1 n ++ zeros 3 ++ l) p = true) ∧ (s.life.state ≠ 2 ∨ n ≠ 3 ∨ fieldNeeds s = false) ∧ (s.life.state ≠ 4 ∨ n ≠ 2) :=
  ⟨inSafety, h3, (goodProof3 0x0D02 (le 1 (3) ++ zeros 3 ++ ([]))), 3, [], by exact ⟨by decide, goodProof3_good _ _, by decide, by decide⟩⟩

theorem meets_LifeCycle_8 : ∃ (s : State) (h : Hdr) (p : Proof) (l : List Byte), (served s h 0x0D02) ∧ (proofGood s h 0x0D02 (le 1 2 ++ zeros 3 ++ l) p = true) ∧ (s.life.state = 4) ∧ ((s.life.nonce.filter fun x => !nonceOld s x) = none) :=
  ⟨{ inSafety with life := { inSafety.life with state := 4 } }, h3, (goodProof3 0x0D02 (le 1 2 ++ zeros 3 ++ (zeros 168))), zeros 168, by exact ⟨by decide, goodProof3_good _ _, by decide, by decide⟩⟩

theorem meets_LifeCycle_9 : ∃ (s : State) (h : Hdr) (p : Proof) (l : List Byte) (n : List Byte) (k : Nat), (served s h 0x0D02) ∧ (proofGood s h 0x0D02 (le 1 2 ++ zeros 3 ++ l) p = true) ∧ (s.life.state = 4) ∧ (s.life.nonce = some (n, k)) ∧ (s.packTime < k + 7 * dayT) :=
  ⟨{ noncedA with life := { noncedA.life with state := 4 } }, h3, (goodProof3 0x0D02 (le 1 2 ++ zeros 3 ++ (zeros 168))), zeros 168, [1], 0, by exact ⟨by decide, goodProof3_good _ _, by decide, by decide, by decide⟩⟩

theorem meets_LifeCycle_10 : ∃ (s : State) (h : Hdr) (p : Proof), (served s h 0x0D03) ∧ (proofGood s h 0x0D03 ([]) p = true) :=
  ⟨inSafety, h3, (goodProof3 0x0D03 ([])), by exact ⟨by decide, goodProof3_good _ _⟩⟩

theorem meets_LifeCycle_11 : ∃ (s : State) (h : Hdr) (p : Proof) (l : List Byte), (served s h 0x0D04) ∧ (proofGood s h 0x0D04 (l) p = true) ∧ (lifeInUse s = false) :=
  ⟨{ inSafety with life := { inSafety.life with state := 4 } }, h3, (goodProof3 0x0D04 (([]))), [], by exact ⟨by decide, goodProof3_good _ _, by decide⟩⟩

theorem meets_LifeCycle_12 : ∃ (s : State) (h : Hdr) (p : Proof) (l : List Byte), (served s h 0x0D04) ∧ (proofGood s h 0x0D04 (l) p = true) ∧ (lifeInUse s = true) ∧ (s.nv.boot.pending ≠ 0 ∨ s.fw.activation ≠ none) :=
  ⟨{ inSafety with fw := { inSafety.fw with activation := some actA } }, h3, (goodProof3 0x0D04 ((zeros 168))), zeros 168, by exact ⟨by decide, goodProof3_good _ _, by decide, by decide⟩⟩

theorem meets_LifeCycle_13 : ∃ (s : State) (h : Hdr) (p : Proof) (l : List Byte), (served s h 0x0D04) ∧ (proofGood s h 0x0D04 (l) p = true) ∧ (lifeInUse s = true) ∧ (s.nv.boot.pending = 0) ∧ (s.fw.activation = none) ∧ ((s.life.nonce.filter fun x => !nonceOld s x) = none) :=
  ⟨inSafety, h3, (goodProof3 0x0D04 (([]))), [], by exact ⟨by decide, goodProof3_good _ _, by decide, by decide, by decide, by decide⟩⟩

theorem meets_LifeCycle_14 : ∃ (s : State) (h : Hdr) (p : Proof) (l : List Byte) (n : List Byte) (k : Nat), (served s h 0x0D04) ∧ (proofGood s h 0x0D04 (l) p = true) ∧ (lifeInUse s = true) ∧ (s.nv.boot.pending = 0) ∧ (s.fw.activation = none) ∧ (s.life.nonce = some (n, k)) ∧ (s.packTime < k + 7 * dayT) :=
  ⟨noncedA, h3, (goodProof3 0x0D04 (([]))), [], [1], 0, by exact ⟨by decide, goodProof3_good _ _, by decide, by decide, by decide, by decide, by decide⟩⟩

theorem meets_LifeCycle_15 : ∃ (s : State) (h : Hdr) (p : Proof) (n : Nat) (l : List Byte), (served s h 0x0D05) ∧ (proofGood s h 0x0D05 (le 4 n ++ l) p = true) ∧ (n ≠ 0x5C4A0D0D) :=
  ⟨inSafety, h3, (goodProof3 0x0D05 (le 4 (0) ++ ([]))), 0, [], by exact ⟨by decide, goodProof3_good _ _, by decide⟩⟩

theorem meets_LifeCycle_16 : ∃ (s : State) (h : Hdr) (p : Proof) (l : List Byte), (served s h 0x0D05) ∧ (proofGood s h 0x0D05 (le 4 0x5C4A0D0D ++ l) p = true) ∧ (s.life.state = 2 ∨ s.life.state = 3 ∨ s.life.state = 4) :=
  ⟨inSafety, h3, (goodProof3 0x0D05 (le 4 0x5C4A0D0D ++ ([]))), [], by exact ⟨by decide, goodProof3_good _ _, by decide⟩⟩

theorem meets_LifeCycle_17 : ∃ (s : State) (h : Hdr) (p : Proof) (l : List Byte), (served s h 0x0D05) ∧ (proofGood s h 0x0D05 (le 4 0x5C4A0D0D ++ l) p = true) ∧ (s.life.state ≠ 2) ∧ (s.life.state ≠ 3) ∧ (s.life.state ≠ 4) :=
  ⟨{ inSafety with life := { inSafety.life with state := 1 } }, h3, (goodProof3 0x0D05 (le 4 0x5C4A0D0D ++ ([]))), [], by exact ⟨by decide, goodProof3_good _ _, by decide, by decide, by decide⟩⟩

theorem meets_LifeCycle_18 : ∃ (s : State) (h : Hdr) (n : Nat) (l : List Byte) (p : Proof), (served s h 0x0D05) ∧ (proofGood s h 0x0D05 (le 4 n ++ l) p = false) ∧ (s.life.state ≠ 4) :=
  ⟨ready, h3, 0x5C4A0D0D, [], { session := 0, count := 1, mac := [] }, by decide, by decide, by decide⟩

theorem meets_LifeCycle_19 : ∃ (s : State) (h : Hdr) (n : Nat) (l : List Byte) (p : Proof), (served s h 0x0D05) ∧ (proofGood s h 0x0D05 (le 4 n ++ l) p = false) ∧ (s.life.state = 4) ∧ (n ≠ 0x5C4A0D0D) :=
  ⟨{ inSafety with life := { inSafety.life with state := 4 } }, h3, 0, [], { session := 0, count := 1, mac := [] }, by decide, by decide, by decide, by decide⟩

theorem meets_LifeCycle_20 : ∃ (s : State) (h : Hdr) (l : List Byte) (p : Proof), (served s h 0x0D05) ∧ (proofGood s h 0x0D05 (le 4 0x5C4A0D0D ++ l) p = false) ∧ (s.life.state = 4) ∧ ((s.life.nonce.filter fun x => !nonceOld s x) = none) :=
  ⟨{ inSafety with life := { inSafety.life with state := 4 } }, h3, [], { session := 0, count := 1, mac := [] }, by decide, by decide, by decide, by decide⟩

theorem meets_LifeCycle_21 : ∃ (s : State) (h : Hdr) (l : List Byte) (n : List Byte) (k : Nat) (p : Proof), (served s h 0x0D05) ∧ (proofGood s h 0x0D05 (le 4 0x5C4A0D0D ++ l) p = false) ∧ (s.life.state = 4) ∧ (s.life.nonce = some (n, k)) ∧ (s.packTime < k + 7 * dayT) :=
  ⟨{ noncedA with life := { noncedA.life with state := 4 } }, h3, [], [1], 0, { session := 0, count := 1, mac := [] }, by decide, by decide, by decide, by decide, by decide⟩

theorem meets_LifeCycle_22 : ∃ (s : State) (h : Hdr) (p : Proof) (m : Nat), (served s h 0x0D06) ∧ (proofGood s h 0x0D06 (le 1 m ++ zeros 3) p = true) ∧ (bit m 0 = true ∨ bit m 1 = true) :=
  ⟨inSafety, h3, (goodProof3 0x0D06 (le 1 (3) ++ zeros 3)), 3, by exact ⟨by decide, goodProof3_good _ _, by decide⟩⟩

theorem meets_LifeCycle_23 : ∃ (s : State) (h : Hdr) (p : Proof) (m : Nat), (served s h 0x0D06) ∧ (proofGood s h 0x0D06 (le 1 m ++ zeros 3) p = true) ∧ (bit m 0 = false) ∧ (bit m 1 = false) ∧ (maskUnfitted s m = true) :=
  ⟨{ inSafety with segs := [dieS6] }, h3, (goodProof3 0x0D06 (le 1 (8) ++ zeros 3)), 8, by exact ⟨by decide, goodProof3_good _ _, by decide, by decide, by decide⟩⟩

theorem meets_LifeCycle_24 : ∃ (s : State) (h : Hdr) (p : Proof) (m : Nat) (e : List LbistEnv), (served s h 0x0D06) ∧ (proofGood s h 0x0D06 (le 1 m ++ zeros 3) p = true) ∧ (bit m 0 = false) ∧ (bit m 1 = false) ∧ (maskUnfitted s m = false) ∧ (s.power.state ≠ .service ∨ s.sweep.running = true ∨ s.sweep.inSweep = true ∨ s.stage.so1 = true ∨ s.stage.so2 = true ∨ lifeInUse s = false ∨ ((s.segs.filter fun d => bit m d.code).map (·.code)).all (lbAllowed e) = false) :=
  ⟨inSafety, h3, (goodProof3 0x0D06 (le 1 (4) ++ zeros 3)), 4, [], by exact ⟨by decide, goodProof3_good _ _, by decide, by decide, by decide, by decide⟩⟩

theorem meets_LifeCycle_25 : ∃ (s : State) (h : Hdr) (p : Proof) (m : Nat) (e : List LbistEnv), (served s h 0x0D06) ∧ (proofGood s h 0x0D06 (le 1 m ++ zeros 3) p = true) ∧ (canOpen s h) ∧ (bit m 0 = false) ∧ (bit m 1 = false) ∧ (maskUnfitted s m = false) ∧ (s.power.state = .service) ∧ (s.sweep.running = false) ∧ (s.sweep.inSweep = false) ∧ (s.stage.so1 = false) ∧ (s.stage.so2 = false) ∧ (lifeInUse s = true) ∧ (((s.segs.filter fun d => bit m d.code).map (·.code)).all (lbAllowed e) = true) :=
  ⟨{ inSafety with power := { inSafety.power with state := .service } }, h3, (goodProof3 0x0D06 (le 1 (4) ++ zeros 3)), 4, [lbPass], by exact ⟨by decide, goodProof3_good _ _, by decide, by decide, by decide, by decide, by decide, by decide, by decide, by decide, by decide, by decide, by decide⟩⟩

theorem meets_LifeCycle_26 : ∃ (s : State) (l : List Byte) (k : Nat), (s.life.nonce = some (l, k)) ∧ (k + 7 * dayT ≤ s.packTime) :=
  ⟨{ noncedA with packTime := 7 * dayT }, [1], 0, by decide, by decide⟩

theorem meets_LifeCycle_27 : ∃ (s : State), ((s.life.nonce.filter fun x => !nonceOld s x) = s.life.nonce) :=
  ⟨ready, by decide⟩

theorem meets_LifeCycle_28 : ∃ (s : State) (k : Nat), (cUp s = true) ∧ (s.life.state ≠ 1) ∧ (s.life.state ≠ 4) ∧ (s.life.attempted = false) ∧ (k ≠ 1) ∧ (s.fitted k = true) :=
  ⟨ready, 0, by decide, by decide, by decide, by decide, by decide, by decide⟩

theorem meets_LifeCycle_29 : ∃ (s : State) (k : Nat), (cUp s = false ∨ s.life.state = 1 ∨ s.life.state = 4 ∨ s.life.attempted = true ∨ k = 1 ∨ s.fitted k = false) :=
  ⟨{ ready with life := { ready.life with attempted := true } }, 0, by decide⟩

theorem meets_EveryStepKeeps : ∃ (s t : State), kept s = true ∧ step s = .next t :=
  ⟨State.reset, tick State.reset, by decide, rfl⟩

theorem meets_NothingElseReachesM : ∃ (i : Instr) (s t : State), reachesM i = false ∧ exec i s = .next t :=
  ⟨.keeperWatchdog 0, State.reset, _, rfl, rfl⟩

theorem meets_FramesReadBack : ∃ (i : Instr) (op : Nat) (h : Hdr) (vs : List Val), i.wf = true ∧ spelled i = some (op, h, vs) :=
  ⟨.setReaction h1 255 4 { session := 2 ^ 32 - 1, count := 1, mac := zeros 8 }, _, _, _, by decide, rfl⟩

theorem meets_GateAnswersFirst_1 : ∃ (s : State) (n : Nat) (f : Frame), (cUp s = true) ∧ (nextMailbox s = some n) ∧ (readFrame (memReadList s.mem (0x100 + 256 * n) 256) = f) ∧ (frameBad s f = false) ∧ (f.target = 0 ∨ f.target = s.chain.addr) ∧ (layoutOf (decide (s.life.state = 4)) f.op ≠ none) ∧ (s.sup.recovery = false) ∧ (s.sup.ready = false) :=
  ⟨{ framed with sup := { framed.sup with ready := false } }, 1, gotFrame, by decide, by decide, by decide, by decide, by decide, by decide, by decide, by decide⟩

theorem meets_GateAnswersFirst_2 : ∃ (s : State) (i : Instr) (op : Nat) (h : Hdr) (vs : List Val), (spelled i = some (op, h, vs)) ∧ (turn s h op = true) ∧ (s.sup.recovery = false) ∧ (s.sup.ready = false) :=
  ⟨{ ready with sup := { ready.sup with ready := false } }, .getIdentity h1, 0x0101, h1, [], by decide, by decide, by decide, by decide⟩

theorem meets_GateAnswersFirst_3 : ∃ (s : State) (n : Nat) (f : Frame), (cUp s = true) ∧ (nextMailbox s = some n) ∧ (readFrame (memReadList s.mem (0x100 + 256 * n) 256) = f) ∧ (frameBad s f = false) ∧ (f.target = 0 ∨ f.target = s.chain.addr) ∧ (layoutOf (decide (s.life.state = 4)) f.op ≠ none) ∧ (s.sup.recovery = true) ∧ (tadpoleAccepts f.op = false) :=
  ⟨{ tadpole with mem := framed.mem, mail := framed.mail }, 1, gotFrame, by decide, by decide, by decide, by decide, by decide, by decide, by decide, by decide⟩

theorem meets_GateAnswersFirst_4 : ∃ (s : State) (i : Instr) (op : Nat) (h : Hdr) (vs : List Val), (spelled i = some (op, h, vs)) ∧ (turn s h op = true) ∧ (s.sup.recovery = true) ∧ (tadpoleAccepts op = false) :=
  ⟨tadpole, .getPowerStatus h1, 0x0102, h1, [], by decide, by decide, by decide, by decide⟩

theorem meets_GateAnswersFirst_5 : ∃ (s : State) (n : Nat) (f : Frame), (cUp s = true) ∧ (nextMailbox s = some n) ∧ (readFrame (memReadList s.mem (0x100 + 256 * n) 256) = f) ∧ (frameBad s f = false) ∧ (f.target = 0 ∨ f.target = s.chain.addr) ∧ (layoutOf (decide (s.life.state = 4)) f.op ≠ none) ∧ (s.sup.recovery = false) ∧ (s.sup.ready = true) ∧ (n ∉ classMailboxes (f.op / 256)) :=
  ⟨{ ready with mem := memWriteList [] 0x200 (frameBytes 0x0C06 77 0 []), mail := { ready.mail with doorbell := 2 } }, 1, { op := 0x0C06, tag := 77, plen := 0, target := 0, reserved := 0, params := [], crcGood := true }, by decide, by decide, by decide, by decide, by decide, by decide, by decide, by decide, by decide⟩

theorem meets_GateAnswersFirst_6 : ∃ (s : State) (i : Instr) (op : Nat) (h : Hdr) (vs : List Val), (spelled i = some (op, h, vs)) ∧ (turn s h op = true) ∧ (s.sup.recovery = false) ∧ (s.sup.ready = true) ∧ (h.prio ∉ classMailboxes (op / 256)) :=
  ⟨ready, .getUpdateStatus h1, 0x0C06, h1, [], by decide, by decide, by decide, by decide, by decide⟩

end Sys2Proof.Tests
end

section
/-! The mailbox frame (R11, R63, R64): what is read from the bytes that were written, field by field up to the whole frame, and its check
value. -/
namespace Sys2Proof.Machine

/-! Little-endian numbers (R11). -/

@[simp] theorem length_leBytes (n v : Nat) : (le n v).length = n := by
  induction n generalizing v with
  | zero => rfl
  | succ n ih => simp [le, ih]

@[simp] theorem length_zeros (n : Nat) : (zeros n).length = n := List.length_replicate

theorem leVal_le (n v : Nat) : leVal (le n v) = v % 256 ^ n := by
  induction n generalizing v with
  | zero => simp [le, leVal, Nat.mod_one]
  | succ n ih => simp [le, leVal, ih, Nat.pow_succ', Nat.mod_mul]

/-- A number that its field can hold is read as it was written. -/
theorem leVal_le_of_lt {n v : Nat} (h : v < 256 ^ n) : leVal (le n v) = v := by
  rw [leVal_le, Nat.mod_eq_of_lt h]

/-- So is a signed one: its field holds the values from minus half of its 256 ^ n codes to below half of them. -/
theorem signed_leInt {n : Nat} {v : Int} (h0 : 0 < n) (hl : -(256 ^ n : Nat) ≤ 2 * v) (hu : 2 * v < (256 ^ n : Nat)) :
    signed (8 * n) (leVal (leInt n v)) = v := by
  have hp : 2 ^ (8 * n) = 256 ^ n := by rw [Nat.pow_mul]
  have hh : 256 ^ n = 2 * 2 ^ (8 * n - 1) := by rw [← hp, ← Nat.pow_succ']; congr 1; omega
  simp only [signed, leInt, leVal_le, hp]
  generalize 256 ^ n = p at *
  generalize 2 ^ (8 * n - 1) = q at *
  subst hh
  have hm : v % ((2 * q : Nat) : Int) = if 0 ≤ v then v else v + (2 * q : Nat) := by
    split
    · exact Int.emod_eq_of_lt ‹_› (by omega)
    · rw [← Int.add_emod_right, Int.emod_eq_of_lt (by omega) (by omega)]
  rw [hm, Nat.mod_mod, Nat.mod_eq_of_lt (by split <;> omega)]
  split <;> split <;> omega

/-! One field of the parameters: the bytes that were written are taken, and the rest is left. -/

theorem takeN_append {n : Nat} {a : List Byte} (t : List Byte) (h : a.length = n) : takeN n (a ++ t) = some (a, t) := by
  simp [takeN, ← h]

@[simp] theorem takeN_le (n v : Nat) (t : List Byte) : takeN n (le n v ++ t) = some (le n v, t) := takeN_append t (length_leBytes n v)

@[simp] theorem takeN_leInt (n : Nat) (v : Int) (t : List Byte) : takeN n (leInt n v ++ t) = some (leInt n v, t) := takeN_le n _ t

@[simp] theorem takeN_zeros (n : Nat) (t : List Byte) : takeN n (zeros n ++ t) = some (zeros n, t) := takeN_append t (length_zeros n)

/-- A proof that fits its 16 bytes is read as it was written (R388). -/
theorem readProof_proofBytes {p : Proof} (t : List Byte) (h : proofFits p = true) : readProof (proofBytes p ++ t) = some (p, t) := by
  obtain ⟨session, count, mac⟩ := p
  simp only [proofFits, Bool.and_eq_true, decide_eq_true_eq, beq_iff_eq] at h
  obtain ⟨⟨hs, hc⟩, hm⟩ := h
  have hf : fit 8 mac = mac := by simp [fit, zeros, ← hm]
  have hs' : leVal (le 4 session) = session := leVal_le_of_lt hs
  have hc' : leVal (le 4 count) = count := leVal_le_of_lt hc
  rw [readProof, takeN_append t (by simp [proofBytes, hf, hm])]
  simp [proofBytes, hf, List.drop_append, hs', hc']

/-- A written proof is not nothing, so that a proof left out is told from it (R472). -/
@[simp] theorem proofBytes_ne_nil (p : Proof) : proofBytes p ≠ [] := by simp [proofBytes, le]

theorem readRow_rowBytes {cs : List Cel} {vs : List Int} (t : List Byte) (h : rowFits cs vs = true) :
    readRow cs (rowBytes cs vs ++ t) = some (vs, t) := by
  fun_induction rowFits cs vs with
  | case1 => rfl
  | case2 n cs v vs ih =>
    simp only [Bool.and_eq_true, decide_eq_true_eq] at h
    obtain ⟨⟨h0, hu⟩, hr⟩ := h
    have hv : leVal (le n v.toNat) = v.toNat := leVal_le_of_lt (by omega)
    simp [rowBytes, readRow, ih hr, hv, h0]
  | case3 n cs v vs ih =>
    simp only [Bool.and_eq_true, decide_eq_true_eq] at h
    obtain ⟨⟨⟨h0, hl⟩, hu⟩, hr⟩ := h
    simp [rowBytes, readRow, ih hr, signed_leInt h0 hl hu]
  | case4 n cs vs ih => simp [rowBytes, readRow, ih h]
  | case5 => cases h

/-- A group whose entries all fit is read entry by entry. -/
theorem readRows_flatMap {c : List Cel} {l : List (List Int)} (t : List Byte) (h : l.all (rowFits c) = true) :
    readRows c l.length (l.flatMap (rowBytes c) ++ t) = some (l, t) := by
  induction l with
  | nil => rfl
  | cons r l ih =>
    simp only [List.all_cons, Bool.and_eq_true] at h
    obtain ⟨hr, hl⟩ := h
    simp [readRows, readRow_rowBytes _ hr, ih hl]

/-! The parameters of a command: values that fit a layout are read from their bytes, whatever counts and values were read before. -/

/-- One case for each kind of field, in the order of `fits`; numbers and counts, the two kinds of byte lists and the two kinds of groups
share one. -/
theorem readParams_writeParams {fs : List Fld} {cs : List Nat} {vs r : List Val} (h : fits fs cs vs r = true) :
    readParams fs cs vs (writeParams fs r) = some (vs ++ r) := by
  fun_induction fits fs cs vs r with
  | case1 => simp [readParams, writeParams]
  | case2 n fs cs vs v r ih | case6 n fs cs vs v r ih =>
    simp only [Bool.and_eq_true, decide_eq_true_eq] at h
    obtain ⟨hv, hr⟩ := h
    simp [readParams, writeParams, leVal_le_of_lt hv, ih hr]
  | case3 n fs cs vs v r ih =>
    simp only [Bool.and_eq_true, decide_eq_true_eq] at h
    obtain ⟨⟨⟨h0, hl⟩, hu⟩, hr⟩ := h
    simp [readParams, writeParams, signed_leInt h0 hl hu, ih hr]
  | case4 n fs cs vs r ih => simp [readParams, writeParams, ih h]
  | case5 n fs cs vs l r ih | case7 fs cs vs l r ih =>
    simp only [Bool.and_eq_true, beq_iff_eq] at h
    obtain ⟨hl, hr⟩ := h
    simp [readParams, writeParams, takeN_append _ hl, ih hr]
  | case8 c fs cs vs l r ih | case9 k c fs cs vs l r ih =>
    simp only [Bool.and_eq_true, beq_iff_eq] at h
    obtain ⟨⟨hl, hc⟩, hr⟩ := h
    simp [readParams, writeParams, ← hl, readRows_flatMap _ hc, ih hr]
  | case10 fs cs vs x r ih =>
    simp only [Bool.and_eq_true] at h
    obtain ⟨hx, hr⟩ := h
    obtain ⟨p, rfl, hp⟩ := (Option.any_eq_true _ _).1 hx
    simp [readParams, writeParams, readProof_proofBytes _ hp, ih hr]
  | case11 k v fs cs vs x r ih =>
    simp only [Bool.and_eq_true] at h
    obtain ⟨hx, hr⟩ := h
    split at hx
    · obtain ⟨p, rfl, hp⟩ := (Option.any_eq_true _ _).1 hx
      simp [readParams, writeParams, readProof_proofBytes _ hp, ih hr, *]
    · obtain rfl := Option.isNone_iff_eq_none.1 hx
      simp [readParams, writeParams, ih hr, *]
  | case12 fs cs vs x r ih =>
    simp only [Bool.and_eq_true] at h
    obtain ⟨⟨hx, hf⟩, hr⟩ := h
    obtain rfl := List.isEmpty_iff.1 hf
    obtain rfl : r = [] := by
      cases r with
      | nil => rfl
      | cons => simp [fits] at hr
    cases x with
    | none => simp [readParams, writeParams]
    | some p =>
      have hp : readProof (proofBytes p) = some (p, []) := by simpa using readProof_proofBytes [] hx
      simp [readParams, writeParams, hp]
  | case13 => cases h

/-! The layouts: an opcode of the table is a 16-bit number. -/

theorem opcode_lt_of_layoutOf {r : Bool} {op : Nat} {l : List Fld} (h : layoutOf r op = some l) : op < 2 ^ 16 := by
  have table : (layouts r).all (fun x => decide (x.1 < 2 ^ 16)) = true := by cases r <;> rfl
  obtain ⟨x, hx, -⟩ := Option.map_eq_some_iff.1 h
  have hop : x.1 = op := by simpa using List.find?_some hx
  exact hop ▸ of_decide_eq_true (List.all_eq_true.1 table x (List.mem_of_find?_eq_some hx))

/-! The frame (R63, R64). -/

/-- The bytes of a frame that its check value covers. -/
def frameBody (op tag target : Nat) (params : List Byte) : List Byte :=
  le 2 op ++ le 2 tag ++ le 2 params.length ++ le 1 target ++ [0] ++ params

theorem frameBytes_eq (op tag target : Nat) (params : List Byte) :
    frameBytes op tag target params = frameBody op tag target params ++ crcTail (frameBody op tag target params) := rfl

@[simp] theorem length_frameBody (op tag target : Nat) (params : List Byte) :
    (frameBody op tag target params).length = 8 + params.length := by
  simp [frameBody]; omega

@[simp] theorem length_crcTail (l : List Byte) : (crcTail l).length = 4 := length_leBytes 4 _

@[simp] theorem length_frameBytes (op tag target : Nat) (params : List Byte) :
    (frameBytes op tag target params).length = 8 + params.length + 4 := by
  simp [frameBytes_eq]

/-- The engine reads from the mailbox what the head wrote, whatever bytes stand behind the frame. -/
theorem readFrame_frameBytes {op tag target : Nat} {params : List Byte} (ho : op < 2 ^ 16) (ht : tag < 2 ^ 16) (hg : target < 2 ^ 8)
    (hp : params.length ≤ 244) (tail : List Byte) :
    readFrame (frameBytes op tag target params ++ tail) =
      { op := op, tag := tag, plen := params.length, target := target, reserved := 0, params := params, crcGood := true } := by
  have hl : params.length < 256 ^ 2 := by omega
  have plen : leVal (((frameBytes op tag target params ++ tail).drop 4).take 2) = params.length := by
    simp [frameBytes_eq, frameBody, List.drop_append, List.drop_of_length_le, leVal_le_of_lt hl]
  have check : ((frameBytes op tag target params ++ tail).drop (8 + params.length)).take 4 =
      crcTail ((frameBytes op tag target params ++ tail).take (8 + params.length)) := by
    simp [frameBytes_eq]
  have zero : leVal [0#8] = 0 := rfl
  simp only [readFrame, plen, check]
  simp [hp, zero, frameBytes_eq, frameBody, List.take_append, List.drop_append, List.drop_of_length_le,
    leVal_le_of_lt (n := 2) ho, leVal_le_of_lt (n := 2) ht, leVal_le_of_lt (n := 1) hg]

/-! Mailbox commands. -/

/-- Of a mailbox command only the header is in the operands that have a range of their own. -/
theorem operandsOk_of_spelled {i : Instr} {op : Nat} {h : Hdr} {vs : List Val} (e : spelled i = some (op, h, vs)) :
    operandsOk i = headerOk h := by
  cases i
  all_goals cases e
  all_goals rfl

/-- The frame of a mailbox command, whose layout is in the table (R63). -/
theorem wireBytes_of_spelled {r : Bool} {i : Instr} {op : Nat} {h : Hdr} {vs : List Val} {l : List Fld}
    (e : spelled i = some (op, h, vs)) (hl : layoutOf r op = some l) :
    wireBytes r i = some (frameBytes op h.tag h.target (writeParams l vs)) := by
  simp [wireBytes, paramBytes, e, hl]

/-- What being well-formed says of a mailbox command: its header is in range, and its parameters fit a layout of its opcode and the
244 bytes of a frame. -/
theorem parts_of_wf {i : Instr} {op : Nat} {h : Hdr} {vs : List Val} (w : i.wf = true) (e : spelled i = some (op, h, vs)) :
    headerOk h = true ∧ ∃ r l, layoutOf r op = some l ∧ fits l [] [] vs = true ∧ (writeParams l vs).length ≤ 244 := by
  simp only [Instr.wf, Bool.and_eq_true, operandsOk_of_spelled e] at w
  obtain ⟨hh, hp⟩ := w
  refine ⟨hh, ?_⟩
  simp only [paramsOk, e, List.any_eq_true, Option.any_eq_true, Bool.and_eq_true, decide_eq_true_eq] at hp
  obtain ⟨r, -, l, hl⟩ := hp
  exact ⟨r, l, hl⟩

/-! The check value (R64). -/

/-- The reversed polynomial is the one that the model shifts with. -/
theorem crc32Bit_eq_crcShift : crc32Bit = crcShift := by
  have poly : (0x04C11DB7 : BitVec 32).reverse = 0xEDB88320 := by decide +kernel
  funext c
  rw [crc32Bit, crcShift, poly]

theorem steps_eq_foldl {α : Type} (f : α → α) (n : Nat) (a : α) : steps f n a = (List.range n).foldl (fun c _ => f c) a := by
  induction n generalizing a with
  | zero => rfl
  | succ n ih => rw [steps, ih, List.range_succ_eq_map, List.foldl_cons, List.foldl_map]

theorem crc32_eq_foldl_crcShift (l : List Byte) :
    crc32 l = (l.foldl (fun c b => (List.range 8).foldl (fun c _ => crcShift c) (c ^^^ b.zeroExtend 32)) 0xFFFFFFFF) ^^^ 0xFFFFFFFF := by
  have byte : crc32Byte = fun c b => (List.range 8).foldl (fun c _ => crcShift c) (c ^^^ b.zeroExtend 32) := by
    funext c b
    rw [crc32Byte, crc32Bit_eq_crcShift, steps_eq_foldl]
  rw [crc32, byte]

/-- A frame ends with the check value of the bytes before (R63, R64). -/
theorem frameBytes_ends_with_crc32 (op tag target : Nat) (params : List Byte) :
    let b := frameBytes op tag target params
    b.drop (b.length - 4) = le 4 (crc32 (b.take (b.length - 4))).toNat := by
  simp [frameBytes_eq, crcTail]

/-- Settles O59: the check value is the one of R64, and the frame of a well-formed command is read field by field as it was written. -/
theorem framesReadBack : Obligations.FramesReadBack := by
  refine ⟨crc32_eq_foldl_crcShift, by decide +kernel, fun i op h vs w e => ?_⟩
  obtain ⟨hh, r, l, hl, hf, hp⟩ := parts_of_wf w e
  refine ⟨r, l, _, hl, wireBytes_of_spelled e hl, by rw [length_frameBytes]; omega, frameBytes_ends_with_crc32 _ _ _ _, fun tail => ?_⟩
  simp only [headerOk, uOk, Bool.and_eq_true, decide_eq_true_eq] at hh
  obtain ⟨⟨⟨-, ht⟩, hg⟩, -⟩ := hh
  rw [readFrame_frameBytes (opcode_lt_of_layoutOf hl) ht hg hp]
  exact ⟨rfl, rfl, rfl, rfl, rfl, readParams_writeParams hf⟩

end Sys2Proof.Machine
end

section
/-! The gate (R71, R73, R501): what it says, and that its answer is the one effect of a command or a frame that it turns away. -/
namespace Sys2Proof.Machine

/-- A Studio that does not serve turns every command away, unless Tadpole runs (R73). -/
theorem gate_of_not_serving {s : State} (h : Hdr) (op : Nat) (hr : s.sup.recovery = false) (hs : s.sup.ready = false) :
    gate s h op = some stBusy := by
  simp [gate, hr, hs]

/-- Tadpole turns every command away but those of its own set (R501). -/
theorem gate_of_tadpole {s : State} (h : Hdr) {op : Nat} (hr : s.sup.recovery = true) (ha : tadpoleAccepts op = false) :
    gate s h op = some stRejected := by
  simp [gate, hr, ha]

/-- A Studio that serves turns a command away that came through a mailbox not meant for its class (R71). -/
theorem gate_of_wrong_mailbox {s : State} {h : Hdr} {op : Nat} (hr : s.sup.recovery = false) (hs : s.sup.ready = true)
    (hm : h.prio ∉ classMailboxes (op / 256)) : gate s h op = some stWrongMailbox := by
  simp [gate, hr, hs, hm]

/-- Every mailbox command runs under the header and the opcode that it is spelled with (R69, R71). -/
theorem exec_of_spelled {i : Instr} {op : Nat} {h : Hdr} {vs : List Val} (e : spelled i = some (op, h, vs)) (s : State) :
    ∃ body, exec i s = .next (runCmd s h op body) := by
  cases i
  all_goals cases e
  all_goals exact ⟨_, rfl⟩

/-- A mailbox command that the gate turns away at its turn is answered, and that is all that it does. -/
theorem exec_of_gate {s : State} {i : Instr} {op st : Nat} {h : Hdr} {vs : List Val} (e : spelled i = some (op, h, vs))
    (t : turn s h op = true) (g : gate s h op = some st) (n : st ≠ stFrameInvalid) : exec i s = .next (answeredCmd s h op st []) := by
  obtain ⟨body, hb⟩ := exec_of_spelled e s
  rw [hb, runCmd_turnedAway s h op st body t g, refuse_plain _ h op st n]
  rfl

/-! A frame that the engine takes: it leaves its mailbox, and the gate judges it as it stands before. -/

@[simp] theorem clearInbound_chain (s : State) (n : Nat) : (clearInbound s n).chain = s.chain := by simp only [clearInbound]

@[simp] theorem clearInbound_life (s : State) (n : Nat) : (clearInbound s n).life = s.life := by simp only [clearInbound]

@[simp] theorem clearInbound_sup (s : State) (n : Nat) : (clearInbound s n).sup = s.sup := by simp only [clearInbound]

@[simp] theorem clearInbound_power (s : State) (n : Nat) : (clearInbound s n).power = s.power := by simp only [clearInbound]

@[simp] theorem frameBad_clearInbound (s : State) (n : Nat) (f : Frame) : frameBad (clearInbound s n) f = frameBad s f := by
  simp only [frameBad, clearInbound]

@[simp] theorem gate_clearInbound (s : State) (n : Nat) (h : Hdr) (op : Nat) : gate (clearInbound s n) h op = gate s h op := by
  simp only [gate, clearInbound_chain, clearInbound_life, clearInbound_sup, clearInbound_power]

/-- The engine takes a frame of a good form, with a known opcode and this package as its target (R69, R72, R74). -/
structure Takes (s : State) (n : Nat) (f : Frame) : Prop where
  up : cUp s = true
  next : nextMailbox s = some n
  read : readFrame (memReadList s.mem (0x100 + 256 * n) 256) = f
  good : frameBad s f = false
  mine : f.target = 0 ∨ f.target = s.chain.addr
  known : layoutOf (decide (s.life.state = 4)) f.op ≠ none

/-- The header of a frame that the head at this port wrote (R63, R69). -/
def portHdr (n : Nat) (f : Frame) : Hdr := { origin := 0, prio := n, tag := f.tag, target := f.target }

/-- A taken frame leaves its mailbox and goes to the gate. -/
theorem exec_of_takes {s : State} {n : Nat} {f : Frame} (k : Takes s n f) :
    exec .mailboxTakeFrame s = .next (takeCommand (clearInbound s n) (portHdr n f) f) := by
  obtain ⟨up, next, read, good, mine, -⟩ := k
  have here : ¬(f.target ≠ 0 ∧ f.target ≠ s.chain.addr) := fun far => mine.elim far.1 far.2
  change execMailboxTakeFrame s = _
  simp only [execMailboxTakeFrame, up, next, read, frameBad_clearInbound, good, clearInbound_chain, if_neg here]
  rfl

/-- A command of a known opcode that the gate turns away is answered with the gate's status. -/
theorem takeCommand_turnedAway {s : State} {h : Hdr} {f : Frame} {st : Nat} (known : layoutOf (decide (s.life.state = 4)) f.op ≠ none)
    (g : gate s h f.op = some st) : takeCommand s h f = refuse s h f.op st := by
  obtain ⟨l, hl⟩ := Option.ne_none_iff_exists'.1 known
  simp only [takeCommand, hl, g]

/-- A taken frame that the gate turns away leaves its mailbox and is answered, and that is all that taking it does. -/
theorem exec_takeFrame_of_gate {s : State} {n st : Nat} {f : Frame} (k : Takes s n f) (g : gate s (portHdr n f) f.op = some st)
    (ns : st ≠ stFrameInvalid) : exec .mailboxTakeFrame s = .next (reply (clearInbound s n) (portHdr n f) f.op st []) := by
  have g' : gate (clearInbound s n) (portHdr n f) f.op = some st := by rw [gate_clearInbound, g]
  have known : layoutOf (decide ((clearInbound s n).life.state = 4)) f.op ≠ none := by rw [clearInbound_life]; exact k.known
  rw [exec_of_takes k, takeCommand_turnedAway known g', refuse_plain _ _ _ _ ns]

/-! The two tables of the gate (R71, R501). -/

theorem tadpoleAccepts_iff (op : Nat) : tadpoleAccepts op = true ↔ op = 0x0101 ∨ 0x0C01 ≤ op ∧ op ≤ 0x0C06 := by
  simp only [tadpoleAccepts, List.contains_iff_mem, List.mem_cons, List.not_mem_nil, or_false]
  omega

theorem classMailboxes_table (k : Nat) :
    (k ∈ [1, 2, 3, 4, 5, 6, 7, 8, 0x0B, 0x0E] → classMailboxes k = [1, 2, 3]) ∧ (k ∈ [9, 0x0A] → classMailboxes k = [0, 1, 3]) ∧
      classMailboxes 0x0C = [2, 3] ∧ classMailboxes 0x0D = [3] := by
  refine ⟨fun hk => ?_, fun hk => ?_, rfl, rfl⟩
  · fin_cases hk <;> rfl
  · fin_cases hk <;> rfl

/-- Settles O60: each clause is one case of the gate, for a frame by `exec_takeFrame_of_gate` and for a command by `exec_of_gate`. -/
theorem gateAnswersFirst : Obligations.GateAnswersFirst := by
  refine fun s => ⟨?busyFrame, ?busyCommand, ?tadpoleFrame, ?tadpoleCommand, ?wrongFrame, ?wrongCommand, tadpoleAccepts_iff,
    classMailboxes_table⟩
  case busyFrame =>
    exact fun n f up next read good mine known hr hs =>
      exec_takeFrame_of_gate ⟨up, next, read, good, mine, known⟩ (gate_of_not_serving _ _ hr hs) (by decide)
  case busyCommand => exact fun i op h vs e t hr hs => exec_of_gate e t (gate_of_not_serving h op hr hs) (by decide)
  case tadpoleFrame =>
    exact fun n f up next read good mine known hr ha =>
      exec_takeFrame_of_gate ⟨up, next, read, good, mine, known⟩ (gate_of_tadpole _ hr ha) (by decide)
  case tadpoleCommand => exact fun i op h vs e t hr ha => exec_of_gate e t (gate_of_tadpole h hr ha) (by decide)
  case wrongFrame =>
    exact fun n f up next read good mine known hr hs hm =>
      exec_takeFrame_of_gate ⟨up, next, read, good, mine, known⟩ (gate_of_wrong_mailbox hr hs hm) (by decide)
  case wrongCommand => exact fun i op h vs e t hr hs hm => exec_of_gate e t (gate_of_wrong_mailbox hr hs hm) (by decide)

end Sys2Proof.Machine
end

section
/-! What a fault message cannot reach: `Told w r t` says that the state `t`, reached from `r` by the collector's work, has the same clock,
mailboxes, Slates, configuration, power and metrology die, and that what a reaction sets stays set (R402 to R417); `Told true r t` says that
the open records and the next RECID stand too. -/
namespace Sys2Proof.Machine

/-- The parts of a state that no fault message changes; the others are blank. -/
def untold (s : State) : State :=
  { State.reset with
    pending := s.pending, part := s.part, now := s.now, packTime := s.packTime, mail := s.mail, slates := s.slates, cal := s.cal
    sense := s.sense, ring := s.ring, metro := s.metro, safety := s.safety, wd := s.wd, power := s.power, fw := s.fw, life := s.life
    chain := { s.chain with seqs := [], placeB := false }
    faults := { s.faults with open_ := [], nextId := 0, injects := [] }
    imp := { s.imp with orders := [], bad := [] }
    nv := { s.nv with dseq := 0, dailiesDropped := 0 }, aon := { s.aon with carried := [] }
    sup := { s.sup with ready := false, stopped := false, fatal := false, restartAt := none } }

/-- What stands between a state and one that the collector leaves. -/
structure Told (w : Bool) (r t : State) : Prop where
  same : untold t = untold r
  irq : ∀ m, r.port.irq &&& m = m → t.port.irq &&& m = m
  so1 : r.stage.so1 = false → t.stage.so1 = false
  so2 : r.stage.so2 = false → t.stage.so2 = false
  ready : r.sup.ready = false → t.sup.ready = false
  fatal : r.sup.fatal = true → t.sup.fatal = true
  running : r.sweep.running = false → t.sweep.running = false
  records : w = true → t.faults.open_ = r.faults.open_ ∧ t.faults.nextId = r.faults.nextId

variable {w : Bool}

namespace Told

theorem refl (r : State) : Told w r r := ⟨rfl, fun _ h => h, id, id, id, id, id, fun _ => ⟨rfl, rfl⟩⟩

theorem trans {r s t : State} (h : Told w r s) (g : Told w s t) : Told w r t :=
  ⟨g.same.trans h.same, fun m k => g.irq m (h.irq m k), g.so1 ∘ h.so1, g.so2 ∘ h.so2, g.ready ∘ h.ready, g.fatal ∘ h.fatal,
    g.running ∘ h.running, fun c => ⟨(g.records c).1.trans (h.records c).1, (g.records c).2.trans (h.records c).2⟩⟩

/-- An operation that leaves alone what a reaction sets. -/
theorem plain {r t : State} (same : untold t = untold r) (irq : t.port.irq = r.port.irq) (stage : t.stage = r.stage) (sup : t.sup = r.sup)
    (running : t.sweep.running = r.sweep.running)
    (records : w = true → t.faults.open_ = r.faults.open_ ∧ t.faults.nextId = r.faults.nextId) : Told w r t :=
  ⟨same, fun _ h => irq ▸ h, fun h => stage ▸ h, fun h => stage ▸ h, fun h => sup ▸ h, fun h => sup ▸ h, fun h => running ▸ h, records⟩

theorem ite {r a b : State} {c : Prop} [Decidable c] (ha : Told w r a) (hb : Told w r b) : Told w r (if c then a else b) := by
  split <;> assumption

theorem foldl {r s : State} {α : Type} {f : State → α → State} (l : List α) (h : Told w r s) (g : ∀ u x, Told w u (f u x)) :
    Told w r (l.foldl f s) := by
  induction l generalizing s with
  | nil => exact h
  | cons x l ih => exact ih (h.trans (g s x))

variable {r t : State} (h : Told w r t)
include h

theorem pending : t.pending = r.pending := congrArg (·.pending) h.same
theorem part : t.part = r.part := congrArg (·.part) h.same
theorem now : t.now = r.now := congrArg (·.now) h.same
theorem packTime : t.packTime = r.packTime := congrArg (·.packTime) h.same
theorem mail : t.mail = r.mail := congrArg (·.mail) h.same
theorem slates : t.slates = r.slates := congrArg (·.slates) h.same
theorem cal : t.cal = r.cal := congrArg (·.cal) h.same
theorem sense : t.sense = r.sense := congrArg (·.sense) h.same
theorem ring : t.ring = r.ring := congrArg (·.ring) h.same
theorem metro : t.metro = r.metro := congrArg (·.metro) h.same
theorem safety : t.safety = r.safety := congrArg (·.safety) h.same
theorem wd : t.wd = r.wd := congrArg (·.wd) h.same
theorem power : t.power = r.power := congrArg (·.power) h.same
theorem fw : t.fw = r.fw := congrArg (·.fw) h.same
theorem life : t.life = r.life := congrArg (·.life) h.same
theorem closed : t.faults.closed = r.faults.closed := congrArg (·.faults.closed) h.same
theorem forces : t.faults.forces = r.faults.forces := congrArg (·.faults.forces) h.same
theorem table : t.faults.table = r.faults.table := congrArg (·.faults.table) h.same
theorem chainAddr : t.chain.addr = r.chain.addr := congrArg (·.chain.addr) h.same
theorem impRun : t.imp.run = r.imp.run := congrArg (·.imp.run) h.same
theorem boot : t.nv.boot = r.nv.boot := congrArg (·.nv.boot) h.same

end Told

/-! The operations that a fault message runs through. -/

theorem setIrq_told (s : State) (m : BitVec 32) : Told w s (s.setIrq m) := by
  refine ⟨rfl, fun k h => ?_, id, id, id, id, id, fun _ => ⟨rfl, rfl⟩⟩
  refine BitVec.eq_of_getLsbD_eq fun i hi => ?_
  have hb := congrArg (BitVec.getLsbD · i) h
  simp only [BitVec.getLsbD_and, Bool.and_eq_right_iff_imp] at hb
  simp only [State.setIrq, BitVec.getLsbD_and, BitVec.getLsbD_or, Bool.and_eq_right_iff_imp, Bool.or_eq_true]
  exact fun c => .inl (hb c)

theorem updDie_told (s : State) (c : Nat) (f : SegDie → SegDie) : Told w s (s.updDie c f) := .plain rfl rfl rfl rfl rfl fun _ => ⟨rfl, rfl⟩
theorem updDolly_told (s : State) (c j : Nat) (f : Dolly → Dolly) : Told w s (s.updDolly c j f) := .plain rfl rfl rfl rfl rfl fun _ => ⟨rfl, rfl⟩
theorem draw_told (s : State) : Told w s s.draw := .plain rfl rfl rfl rfl rfl fun _ => ⟨rfl, rfl⟩
theorem emit_told (s : State) (a b c : Nat) (l : List Byte) : Told w s (emit s a b c l) := .plain rfl rfl rfl rfl rfl fun _ => ⟨rfl, rfl⟩
theorem flashPush_told (s : State) (j : FlashJob) : Told w s (flashPush s j) := .plain rfl rfl rfl rfl rfl fun _ => ⟨rfl, rfl⟩
theorem useInject_told (s : State) (n : Nat) : Told w s (useInject s n) := .plain rfl rfl rfl rfl rfl fun _ => ⟨rfl, rfl⟩
theorem endRun_told (s : State) (n : Nat) : Told w s (endRun s n) := .plain rfl rfl rfl rfl rfl fun _ => ⟨rfl, rfl⟩
theorem stepFrameSeq_told (s : State) (n : Nat) : Told w s (stepFrameSeq s n) := .plain rfl rfl rfl rfl rfl fun _ => ⟨rfl, rfl⟩
theorem substitute_told (s : State) (a b : Nat) : Told w s (substitute s a b) := .plain rfl rfl rfl rfl rfl fun _ => ⟨rfl, rfl⟩
theorem withdrawMetro_told (s : State) (k : Nat) : Told w s (withdrawMetro s k) := .plain rfl rfl rfl rfl rfl fun _ => ⟨rfl, rfl⟩

theorem streamWrite_told (s : State) (type pkg : Nat) (l : List Byte) : Told w s (streamWrite s type pkg l) :=
  (Told.plain (r := s) (t := { s with
    mem := winWrite s.mem s.port.strWr.toNat (recordBytes type pkg l)
    port := { s.port with strWr := s.port.strWr + BitVec.ofNat 12 (recordSize l.length) } }) rfl rfl rfl rfl rfl fun _ => ⟨rfl, rfl⟩).trans (setIrq_told _ _)

theorem streamDrop_told (s : State) (pkg : Nat) : Told w s (streamDrop s pkg) :=
  (Told.plain (r := s) (t := { s with
    port := { s.port with drops := BitVec.ofNat 16 (sat 16 (s.port.drops.toNat + 1)) }
    stream := { s.stream with
      dropRuns := (pkg, dropRun s pkg + 1) :: s.stream.dropRuns.filter fun r => r.1 != pkg
      owed := pkg :: s.stream.owed.filter (· != pkg) } }) rfl rfl rfl rfl rfl fun _ => ⟨rfl, rfl⟩).trans (setIrq_told _ _)

theorem streamPut_told (s : State) (type pkg : Nat) (l : List Byte) : Told w s (streamPut s type pkg l) :=
  .ite ((streamWrite_told s type pkg l).trans (endRun_told _ _)) (streamDrop_told s pkg)

/-! Frames and alarms that leave the package. -/

theorem emitCopy_told (s : State) (p type dest flags seq : Nat) (l : List Byte) : Told w s (emitCopy s p type dest flags seq l) :=
  (emit_told _ _ _ _ _).trans (useInject_told _ _)

theorem linkFrame_told (s : State) (type dest prio : Nat) (b r : Bool) (seq : Nat) (l : List Byte) :
    Told w s (linkFrame s type dest prio b r seq l) :=
  (emitCopy_told _ _ _ _ _ _ _).trans (emitCopy_told _ _ _ _ _ _ _)

theorem sendFrameAs_told (s : State) (type dest prio stream : Nat) (b r : Bool) (l : List Byte) :
    Told w s (sendFrameAs s type dest prio stream b r l) :=
  (stepFrameSeq_told s type).trans (.ite (.plain rfl rfl rfl rfl rfl fun _ => ⟨rfl, rfl⟩) (linkFrame_told _ _ _ _ _ _ _ _))

theorem sendFrame_told (s : State) (type dest prio : Nat) (b r : Bool) (l : List Byte) : Told w s (sendFrame s type dest prio b r l) :=
  sendFrameAs_told ..

theorem toHeads_told (s : State) (type : Nat) (l : List Byte) : Told w s (toHeads s type l) := .ite (.refl s) (sendFrame_told ..)

theorem sendRecord_told (s : State) (type : Nat) (l : List Byte) : Told w s (sendRecord s type l) := .ite (sendFrame_told ..) (.refl s)

theorem alarmSend_told (s : State) (m : BitVec 32) : Told w s (alarmSend s m) := by
  unfold alarmSend
  extract_lets body s1 drawn radio s2
  have h1 : Told w s s1 := emit_told ..
  have h2 : Told w s s2 := h1.trans (.ite (.plain rfl rfl rfl rfl rfl fun _ => ⟨rfl, rfl⟩) (.refl _))
  exact h2.trans (.ite (streamPut_told ..) (.refl _))

/-! Transfers that end, withdrawals and substitutes. -/

theorem noteBad_told (s : State) (a b m : Nat) : Told w s (noteBad s a b m) := .ite (.refl s) (.plain rfl rfl rfl rfl rfl fun _ => ⟨rfl, rfl⟩)

theorem stopDolly_told (s : State) (die j endc : Nat) (q : Int) (loss : Nat) : Told w s (stopDolly s die j endc q loss) := by
  unfold stopDolly
  split
  · exact .refl s
  · split
    · exact .refl s
    · rename_i y _ t _
      extract_lets mv s1 s2 s3 imp s4 balance s5 s6 counted s7
      have h1 : Told w s s1 := updDolly_told ..
      have h2 : Told w s s2 := h1.trans (updDie_told ..)
      have h3 : Told w s s3 := h2.trans (.ite (.refl _) (noteBad_told ..))
      have h4 : Told w s s4 := h3.trans (.ite (.plain rfl rfl rfl rfl rfl fun _ => ⟨rfl, rfl⟩) (.refl _))
      have h5 : Told w s s5 := h4.trans (.ite (.plain rfl rfl rfl rfl rfl fun _ => ⟨rfl, rfl⟩) (.refl _))
      refine h5.trans (.ite (updDie_told ..) (.ite (.refl _) ?_))
      have h6 : Told w s5 s6 := sendRecord_told ..
      have h7 : Told w s5 s7 := h6.trans (.ite (.refl _) (.plain rfl rfl rfl rfl rfl fun _ => ⟨rfl, rfl⟩))
      exact h7.trans (streamPut_told ..)

theorem stopFree_told (s : State) (die j endc : Nat) : Told w s (stopFree s die j endc) := by
  unfold stopFree
  split
  · exact .refl s
  · exact (stopDolly_told ..).trans (draw_told _)

theorem stopDie_told (s : State) (die endc : Nat) : Told w s (stopDie s die endc) := .foldl _ (.refl s) fun _ _ => stopFree_told ..

theorem stopAllDollies_told (s : State) (endc : Nat) : Told w s (stopAllDollies s endc) := .foldl _ (.refl s) fun _ _ => stopDie_told ..

theorem withdrawDolly_told (s : State) (die j kind : Nat) : Told w s (withdrawDolly s die j kind) :=
  (updDolly_told ..).trans (stopFree_told ..)

theorem refSubstitute_told (s : State) (die ref kind : Nat) : Told w s (refSubstitute s die ref kind) :=
  .ite (substitute_told ..) (.ite (updDie_told ..) (updDie_told ..))

theorem withdraw_told (s : State) (kind die detail : Nat) : Told w s (withdraw s kind die detail) := by
  unfold withdraw
  split
  iterate 3 exact refSubstitute_told ..
  iterate 4 exact substitute_told ..
  iterate 7 exact withdrawDolly_told ..
  · exact .foldl _ (.refl s) fun _ _ => withdrawDolly_told ..
  · exact .foldl _ (updDie_told ..) fun _ _ => withdrawDolly_told ..
  · exact .plain rfl rfl rfl rfl rfl fun _ => ⟨rfl, rfl⟩
  iterate 3 exact withdrawMetro_told ..
  exact .refl s

theorem openOutputs_told (s : State) (mask : Nat) : Told w s (openOutputs s mask) :=
  ⟨rfl, fun _ h => h, fun h => by simp [openOutputs, h], fun h => by simp [openOutputs, h], id, id, id, fun _ => ⟨rfl, rfl⟩⟩

theorem fatalStop_told (s : State) : Told w s (fatalStop s) :=
  (stopAllDollies_told s 8).trans ⟨rfl, fun _ h => h, id, id, fun _ => rfl, fun _ => rfl, fun _ => rfl, fun _ => ⟨rfl, rfl⟩⟩

theorem reaction_told (s : State) (cls : Nat) (m : BitVec 32) : Told w s (reaction s cls m) := by
  unfold reaction
  extract_lets s1 s2 s3
  have h1 : Told w s s1 := .ite (setIrq_told _ _) (.refl s)
  have h2 : Told w s s2 := h1.trans (.ite (withdraw_told ..) (.refl _))
  have h3 : Told w s s3 := h2.trans (.ite ((openOutputs_told ..).trans (alarmSend_told _ _)) (.refl _))
  exact h3.trans (.ite (fatalStop_told _) (.refl _))

/-! Records. -/

theorem dailiesPut_told (s : State) (e : DEntry) (b : Bool) : Told w s (dailiesPut s e b) :=
  .ite (.plain rfl rfl rfl rfl rfl fun _ => ⟨rfl, rfl⟩) (.plain rfl rfl rfl rfl rfl fun _ => ⟨rfl, rfl⟩)

theorem dailiesRecord_told (s : State) (r : FRec) (n : Nat) : Told w s (dailiesRecord s r n) := dailiesPut_told ..

theorem faultRecordOut_told (s : State) (r : FRec) (a b : Nat) : Told w s (faultRecordOut s r a b) :=
  (streamPut_told ..).trans (toHeads_told ..)

theorem keepFatal_told (s : State) (r : FRec) : Told w s (keepFatal s r) := .ite (.plain rfl rfl rfl rfl rfl fun _ => ⟨rfl, rfl⟩) (.refl s)

theorem releaseWaiting_told (s : State) (r r' : FRec) : Told w s (releaseWaiting s r r') :=
  .ite (.foldl _ (.refl s) fun _ _ => withdraw_told ..) (.refl s)

theorem openRec_told (s : State) (r : FRec) : Told false s (openRec s r) := by
  unfold openRec
  extract_lets faults s1 s2
  have h1 : Told false s s1 := .plain rfl rfl rfl rfl rfl fun c => nomatch c
  have h2 : Told false s s2 := h1.trans (.ite (faultRecordOut_told ..) (.refl _))
  exact (h2.trans (.ite (dailiesRecord_told ..) (.refl _))).trans (keepFatal_told _ _)

theorem mergeInto_told (s : State) (r r' : FRec) : Told false s (mergeInto s r r') := by
  unfold mergeInto
  extract_lets faults s1 s2
  have h1 : Told false s s1 := .plain rfl rfl rfl rfl rfl fun c => nomatch c
  have h2 : Told false s s2 := h1.trans (.ite ((faultRecordOut_told ..).trans (dailiesRecord_told ..)) (.refl _))
  exact h2.trans (.ite (keepFatal_told _ _) (.refl _))

theorem collectNew_told (s : State) (m : BitVec 32) (k : MsgKind) : Told false s (collectNew s m k) :=
  (openRec_told ..).trans (.ite (setIrq_told _ _) (reaction_told _ _ _))

theorem collectMerge_told (s : State) (r : FRec) (m : BitVec 32) (k : MsgKind) : Told false s (collectMerge s r m k) :=
  ((mergeInto_told ..).trans (releaseWaiting_told ..)).trans
    (.ite (setIrq_told _ _) (.ite (reaction_told _ _ _) (.ite (withdraw_told ..) (.refl _))))

theorem collectOverflow_told (s : State) (m : BitVec 32) (k : MsgKind) : Told false s (collectOverflow s m k) := by
  unfold collectOverflow
  extract_lets o s1
  have h1 : Told false s s1 := .ite (setIrq_told _ _) (reaction_told _ _ _)
  split
  · exact h1.trans (collectMerge_told ..)
  · exact h1.trans (collectNew_told ..)

theorem collect_told (s : State) (m : BitVec 32) (k : MsgKind) : Told false s (collect s m k) := by
  unfold collect
  split
  · exact collectMerge_told ..
  · exact .ite (collectNew_told ..) (collectOverflow_told ..)

theorem settle_told (s : State) : Told false s (settle s) := .foldl _ (.plain rfl rfl rfl rfl rfl fun c => nomatch c) fun _ _ => collect_told ..

theorem raise_told (s : State) (die block kind detail : Nat) : Told false s (raise s die block kind detail) :=
  (collect_told ..).trans (settle_told _)

end Sys2Proof.Machine
end

section
/-! What every step keeps, what the part holds after reset, and what a tick does (R1, R6, R10, R16, R17, R41, R414). -/
namespace Sys2Proof.Machine

/-- A step runs the command at the front of the queue over the rest, and an empty queue ticks; either way the state keeps `Apart`. -/
theorem step_apart {s t : State} (e : step s = .next t) : Apart false { s with pending := s.pending.tail } t := by
  unfold step at e
  split at e
  case h_1 hp =>
    cases e
    have hs : { s with pending := s.pending.tail } = s := by rw [show s.pending.tail = s.pending by rw [hp, List.tail_nil]]
    rw [hs]
    exact (tick_keeps s).weaken
  case h_2 c r hp =>
    rw [hp]
    exact (exec_apart_any c _).of t e

/-- Settles O57: whatever a step does keeps `Apart` from the state with the queue's rest, and `Apart` keeps `kept`. -/
theorem everyStepKeeps : Obligations.EveryStepKeeps := by
  intro s t h e
  have a := step_apart e
  exact ⟨a.kept h, a.part, a.pending⟩

/-- Settles O58: a command that does not act in M keeps `Apart` with M the same. -/
theorem nothingElseReachesM : Obligations.NothingElseReachesM :=
  fun i s t n e => ((exec_apart i s n).of t e).metro rfl

/-- Settles O1, by the meaning of a step on a queue that is not empty. -/
theorem stepRunsTheFront : Obligations.StepRunsTheFront := fun _ _ _ => rfl

/-- Settles O56: each part of the state after reset is a literal. -/
theorem resetState : Obligations.ResetState := by
  refine ⟨?kept, rfl, rfl, rfl, rfl, rfl, rfl, rfl, rfl, rfl, rfl, rfl, rfl, rfl, rfl, rfl, rfl, rfl, rfl, rfl, rfl, rfl, ?cells⟩
  case kept => decide
  case cells => decide

/-! A tick while no abort is pending. -/

/-- An abort that is not pending is not answered. -/
theorem abortCycle_of_not_pending {s : State} (h : s.port.abortResult ≠ 1) : abortCycle s = s := by
  rw [abortCycle, if_neg fun c => h c.1]

/-- On an empty queue, with no abort pending, the clocks move on and nothing else happens. -/
theorem step_idle {s : State} (hp : s.pending = []) (ha : s.port.abortResult ≠ 1) :
    step s = .next { s with
      now := s.now + 1, packTime := s.packTime + packStep s, chain := { s.chain with slew := slewLeft s }
      sweep := lapse s s.sweep, segs := s.segs.map (SegDie.tick (s.now + 1) (packStep s)) } := by
  have e : step s = .next (tick s) := by simp only [step, hp]
  rw [e]
  exact congrArg Host.Outcome.next (abortCycle_of_not_pending ha)

/-- Pack time moves by one where nothing is slewed, and the slew stays. -/
theorem packStep_unslewed {s : State} (h : s.chain.locked = false ∨ s.chain.slew = 0 ∨ s.now % 1000 ≠ 0) :
    packStep s = 1 ∧ slewLeft s = s.chain.slew := by
  have n : ¬(s.chain.locked = true ∧ s.chain.slew ≠ 0 ∧ s.now % 1000 = 0) := by
    rintro ⟨l, w, m⟩
    rcases h with h | h | h
    · simp [h] at l
    · exact w h
    · exact h m
  simp only [packStep, slewLeft, if_neg n, and_self]

/-- In the thousandth tick of a locked package that runs behind, pack time moves by two. -/
theorem packStep_forward {s : State} (l : s.chain.locked = true) (w : 0 < s.chain.slew) (m : s.now % 1000 = 0) :
    packStep s = 2 ∧ slewLeft s = s.chain.slew - 1 := by
  have c : s.chain.locked = true ∧ s.chain.slew ≠ 0 ∧ s.now % 1000 = 0 := ⟨l, by omega, m⟩
  simp only [packStep, slewLeft, if_pos c, if_pos w, and_self]

/-- In the thousandth tick of a locked package that runs ahead, pack time stands still. -/
theorem packStep_back {s : State} (l : s.chain.locked = true) (w : s.chain.slew < 0) (m : s.now % 1000 = 0) :
    packStep s = 0 ∧ slewLeft s = s.chain.slew + 1 := by
  have c : s.chain.locked = true ∧ s.chain.slew ≠ 0 ∧ s.now % 1000 = 0 := ⟨l, by omega, m⟩
  have n : ¬0 < s.chain.slew := by omega
  simp only [packStep, slewLeft, if_pos c, if_neg n, and_self]

/-- A die's copy of pack time after a tick. -/
theorem SegDie.tick_packTime (now step : Nat) (d : SegDie) :
    (SegDie.tick now step d).packTime = d.packTime + if d.ringLost then 1 else step := rfl

/-- While no ring input is lost, every die's copy moves as pack time does. -/
theorem copies_follow {l : List SegDie} (now step : Nat) (h : ∀ d ∈ l, d.ringLost = false) :
    (l.map (SegDie.tick now step)).map (·.packTime) = l.map fun d => d.packTime + step := by
  rw [List.map_map]
  exact List.map_congr_left fun d hd => by simp [SegDie.tick_packTime, h d hd]

/-- Settles O2: `step_idle`, with the change of pack time in each case. -/
theorem idleTicks : Obligations.IdleTicks := by
  refine fun s => ⟨?unslewed, ?forward, ?back, ?copies⟩
  case unslewed =>
    intro hp ha h
    obtain ⟨hk, hl⟩ := packStep_unslewed h
    rw [step_idle hp ha, hk, hl]
  case forward =>
    intro hp ha l w m
    obtain ⟨hk, hl⟩ := packStep_forward l w m
    rw [step_idle hp ha, hk, hl]
  case back =>
    intro hp ha l w m
    obtain ⟨hk, hl⟩ := packStep_back l w m
    rw [step_idle hp ha, hk, hl]
  case copies =>
    intro hp ha hr
    refine ⟨_, step_idle hp ha, rfl, ?_⟩
    rw [copies_follow _ _ hr]
    simp

end Sys2Proof.Machine
end

section
/-! The host port: reads, writes, registers, raw and urgent results, aborts and resets (R45 to R68, R80 to R88, R123, R124). -/
namespace Sys2Proof.Machine

/-! Reads (R45 to R50). -/

theorem takeHeadRole_of_ready {s u : State} (p : portReady s = true) (e : u.chain = s.chain) : takeHeadRole u = u := by
  obtain ⟨-, -, -, h⟩ := portReady_parts p
  exact takeHeadRole_settled u (e ▸ h)

/-- A good read of a region other than the registers answers with its bytes. -/
theorem spiReadT_memory {s : State} {quad : Bool} {a n r : Nat} (p : portReady s = true) (q : quad = true → s.port.quadEn = true)
    (h0 : 0 < n) (hn : n ≤ 4096) (hr : regionOf a n = some r) (r0 : r ≠ 0) :
    spiReadT s quad a n (headerCrc true quad a n).toNat (clockCount true quad n) =
      answeredRead s ((List.range n).map fun k => memRead s.mem (byteAddr r a k)) := by
  have hb : readBytes s a n = (List.range n).map fun k => memRead s.mem (byteAddr r a k) := by
    obtain ⟨k, rfl⟩ := Nat.exists_eq_succ_of_ne_zero r0
    simp only [readBytes, hr]
  have t : takeHeadRole (drive (xstatSent s) (readBytes s a n) (crc16 (readBytes s a n))) = _ := takeHeadRole_of_ready p rfl
  rw [spiReadT_accepted s quad a n r p q h0 hn hr, readEffects_memory _ _ _ (by simpa [hr] using r0), t, hb]
  rfl

/-- Settles O3, for both widths by `spiReadT_memory`. -/
theorem readsReturnMemory : Obligations.ReadsReturnMemory := by
  refine fun s => ⟨?single, ?quad⟩
  case single =>
    intro a n r p h0 hn hr r0
    exact congrArg Host.Outcome.next (spiReadT_memory p (fun e => nomatch e) h0 hn hr r0)
  case quad =>
    intro a n r p q h0 hn hr r0
    exact congrArg Host.Outcome.next (spiReadT_memory p (fun _ => q) h0 hn hr r0)

/-- Settles O4: a wrong header is judged a CRC error, and the lines carry zeros. -/
theorem badReadHasNoEffect : Obligations.BadReadHasNoEffect := by
  intro s a n k p hk
  obtain ⟨h1, h2, h3, -⟩ := portReady_parts p
  have j : judge (xstatSent s) true false a n (clockCount true false n) false false = 1 := by simp [judge]
  have d : driveRefused (xstatSent s) false a n k (clockCount true false n) = drive (xstatSent s) (zeros n) (~~~(crc16 (zeros n))) := by
    simp [driveRefused, headerRejected, hk]
  refine congrArg Host.Outcome.next ?_
  rw [spiReadT]
  simp only [h1, h2, beginTransaction_ready s _ h3, hk, decide_false, j, d, Bool.false_eq_true, if_false, Nat.one_ne_zero]
  rfl

/-! Writes of memory (R48, R65). -/

/-- Bytes written are read back where they were written. -/
theorem memRead_memWriteList_same (l : List Byte) (m : List Host.Cell) (a k : Nat) (h : Memory.wf m = true) (hk : k < l.length) :
    memRead (memWriteList m a l) (a + k) = l.getD k 0 := by
  induction l generalizing m a k with
  | nil => simp at hk
  | cons v r ih =>
    rw [memWriteList]
    cases k with
    | zero =>
      rw [memRead_memWriteList_other _ _ _ _ (by omega)]
      exact memRead_memWrite_same m a v h
    | succ k =>
      rw [show a + (k + 1) = a + 1 + k by omega, ih _ _ _ (memWrite_wf m a v h) (by simpa using hk)]
      rfl

/-- A region ends below 4096 bytes, but for the stream window, which wraps. -/
theorem regionOf_length {a n r : Nat} (hr : regionOf a n = some r) (h : r ≠ 3) : n ≤ 4096 := by
  unfold regionOf at hr
  split at hr
  · omega
  · split at hr
    · omega
    · split at hr
      · omega
      · split at hr
        · exact absurd (Option.some.inj hr).symm h
        · cases hr

/-- A good write into the inbound mailboxes stores its bytes over the accepted transaction. -/
theorem spiWriteT_mailbox {s : State} {quad : Bool} {a : Nat} {data : List Byte} (p : portReady s = true)
    (q : quad = true → s.port.quadEn = true) (h0 : data ≠ []) (hr : regionOf a data.length = some 1) (w : writeRefused s a data = false)
    (hm : Memory.wf s.mem = true) :
    ∃ t, spiWriteT s quad a data.length (headerCrc false quad a data.length).toNat data (crc16 data).toNat
          (clockCount false quad data.length) = t ∧
      t = { accepted s with mem := t.mem } ∧ (∀ k, k < data.length → memRead t.mem (a + k) = data.getD k 0) ∧
      (∀ x, x < a ∨ a + data.length ≤ x → memRead t.mem x = memRead s.mem x) := by
  refine ⟨{ accepted s with mem := memWriteList s.mem a data }, ?_, rfl, ?_, ?_⟩
  · rw [spiWriteT_accepted s quad a data 1 p q h0 (regionOf_length hr (by decide)) hr w]
    simp only [writeEffects, hr]
    rfl
  · exact fun k hk => memRead_memWriteList_same data s.mem a k hm hk
  · exact fun x hx => memRead_memWriteList_other data s.mem a x hx

/-- Settles O5, for both widths by `spiWriteT_mailbox`. -/
theorem writesFillTheMailbox : Obligations.WritesFillTheMailbox := by
  refine fun s => ⟨?single, ?quad⟩
  case single =>
    intro a data p h0 hr w hm
    obtain ⟨t, e, h⟩ := spiWriteT_mailbox (quad := false) p (fun e => nomatch e) h0 hr w hm
    exact ⟨t, congrArg Host.Outcome.next e, h⟩
  case quad =>
    intro a data p q h0 hr w hm
    obtain ⟨t, e, h⟩ := spiWriteT_mailbox (quad := true) p (fun _ => q) h0 hr w hm
    exact ⟨t, congrArg Host.Outcome.next e, h⟩

/-- A range within inbound mailbox n meets no other inbound mailbox. -/
theorem overlaps_mailbox {a n k len : Nat} (h0 : 0 < len) (ha : 0x100 + 256 * n ≤ a) (hb : a + len ≤ 0x200 + 256 * n) :
    (decide (a < 0x200 + 256 * k) && decide (0x100 + 256 * k < a + len)) = decide (k = n) := by
  rw [← Bool.decide_and]
  exact decide_eq_decide.2 (by omega)

/-- Settles O6: only the mailbox whose doorbell is set meets the write. -/
theorem fullMailboxRefusesWrites : Obligations.FullMailboxRefusesWrites := by
  intro s a n data p hn hd h0 ha hb
  have hl : 0 < data.length := List.length_pos_iff.2 h0
  have hr : regionOf a data.length = some 1 := by rw [regionOf, if_neg (by omega), if_pos (by omega)]
  have w : writeRefused s a data = true := by
    simp only [writeRefused, hr, Bool.and_assoc, overlaps_mailbox hl ha hb, List.any_eq_true, List.mem_range]
    exact ⟨n, hn, by simp [hd]⟩
  have f : ((List.range 4).find? fun k => s.mail.doorbell.getLsbD k && decide (a < 0x200 + 256 * k) && decide (0x100 + 256 * k < a + data.length)) =
      some n := by
    simp only [Bool.and_assoc, overlaps_mailbox hl ha hb]
    refine List.find?_eq_some_iff_append.2 ⟨by simp [hd], List.range n, (List.range (4 - n - 1)).map (n + 1 + ·), ?_, ?_⟩
    · interval_cases n <;> rfl
    · intro k hk
      have := List.mem_range.1 hk
      simp only [Nat.ne_of_lt this, decide_false, Bool.and_false, Bool.not_false]
  refine congrArg Host.Outcome.next ?_
  rw [hostWrite_refused s a data 1 p h0 (by omega) hr w]
  simp only [endTransaction, hr]
  change (match (List.range 4).find? fun k => s.mail.doorbell.getLsbD k && decide (a < 0x200 + 256 * k) && decide (0x100 + 256 * k < a + data.length) with
    | some n => raise ((setPrev (xstatSent s) 3).setHpErr 0x400) 0 0 0xD2 n
    | none => setPrev (xstatSent s) 3) = _
  rw [f]

end Sys2Proof.Machine
end

section
/-! Direct writes of registers (R13, R51 to R68). -/
namespace Sys2Proof.Machine

/-- Byte `i` of a word, put back in its place, has the bits of the word there. -/
theorem getLsbD_byte (v : BitVec 32) (i j : Nat) (hj : j < 32) :
    (BitVec.ofNat 32 ((BitVec.ofNat 8 (v.toNat / 256 ^ i)).toNat * 256 ^ i)).getLsbD j =
      (decide (8 * i ≤ j) && decide (j < 8 * i + 8) && v.getLsbD j) := by
  have e : (256 : Nat) ^ i = 2 ^ (8 * i) := by rw [Nat.pow_mul]
  have e8 : (2 : Nat) ^ 8 = 256 := rfl
  rw [BitVec.getLsbD_ofNat, BitVec.toNat_ofNat, e, Nat.testBit_mul_two_pow, Nat.testBit_mod_two_pow, Nat.testBit_div_two_pow]
  by_cases h : 8 * i ≤ j
  · simp only [hj, h, decide_true, Bool.true_and, BitVec.getLsbD, show j - 8 * i + 8 * i = j by omega,
      show (j - 8 * i < 8) = (j < 8 * i + 8) from propext (by omega)]
  · simp [h]

/-- A write of a whole word covers its four bytes. -/
theorem wordSlice_word (a : Nat) (v : BitVec 32) : wordSlice a (le 4 v.toNat) a = (v, 0xFFFFFFFF) := by
  have hl : le 4 v.toNat = [BitVec.ofNat 8 (v.toNat / 256 ^ 0), BitVec.ofNat 8 (v.toNat / 256 ^ 1), BitVec.ofNat 8 (v.toNat / 256 ^ 2),
      BitVec.ofNat 8 (v.toNat / 256 ^ 3)] := by simp [le, Nat.div_div_eq_div_mul]
  have hc : ∀ k, k ∈ List.range 4 → (a ≤ a + k ∧ a + k < a + (le 4 v.toNat).length) := by
    intro k hk
    have := List.mem_range.1 hk
    simp only [length_leBytes]
    omega
  have hr : List.range 4 = [0, 1, 2, 3] := rfl
  rw [hr] at hc
  simp only [wordSlice, hr, List.foldl_cons, List.foldl_nil, if_pos (hc 0 (by simp)), if_pos (hc 1 (by simp)), if_pos (hc 2 (by simp)),
    if_pos (hc 3 (by simp)), Nat.add_sub_cancel_left]
  refine Prod.ext ?_ rfl
  refine BitVec.eq_of_getLsbD_eq fun j hj => ?_
  rw [hl]
  simp only [BitVec.getLsbD_or, List.getD_cons_zero, List.getD_cons_succ, getLsbD_byte _ _ _ hj, BitVec.ofNat_eq_ofNat, BitVec.getLsbD_zero,
    Bool.false_or]
  cases v.getLsbD j
  · simp
  · simp only [Bool.and_true, Bool.or_eq_true, Bool.and_eq_true, decide_eq_true_eq]
    omega

theorem wordsTouched_word : ∀ k < 64, wordsTouched (4 * k) 4 = [4 * k] := by decide

/-- A register write of the port that no rule refuses acts word by word. -/
theorem hostWrite_register {s : State} {a : Nat} {data : List Byte} (p : portReady s = true) (h0 : data ≠ [])
    (ha : a + data.length ≤ 0x100) (w : writeRefused s a data = false) : hostWrite s a data = regWrite (accepted s) a data := by
  have hr : regionOf a data.length = some 0 := by rw [regionOf, if_pos ha]
  rw [hostWrite_accepted s a data 0 p h0 (by omega) hr w]
  simp only [writeEffects, hr]

/-- A write that meets neither STRRD nor ABORT is not refused. -/
theorem writeRefused_register {s : State} {a : Nat} {data : List Byte} (ha : a + data.length ≤ 0x100)
    (h1 : 0x4C ∉ wordsTouched a data.length) (h2 : 0x40 ∉ wordsTouched a data.length) : writeRefused s a data = false := by
  have hr : regionOf a data.length = some 0 := by rw [regionOf, if_pos ha]
  simp only [writeRefused, hr, List.any_eq_false]
  intro wa hw
  have n1 : wa ≠ 0x4C := fun e => h1 (e ▸ hw)
  have n2 : wa ≠ 0x40 := fun e => h2 (e ▸ hw)
  simp [n1, n2]

/-- A write of one word other than STRRD and ABORT has the effect of that word. -/
theorem hostWrite_word {s : State} (p : portReady s = true) (k : Nat) (hk : k < 64) (h1 : k ≠ 19) (h2 : k ≠ 16) (v : BitVec 32) :
    hostWrite s (4 * k) (le 4 v.toNat) = regWriteWord (accepted s) (4 * k) v 0xFFFFFFFF := by
  have hl : (le 4 v.toNat).length = 4 := length_leBytes 4 _
  have ht : wordsTouched (4 * k) (le 4 v.toNat).length = [4 * k] := by rw [hl, wordsTouched_word k hk]
  have w : writeRefused s (4 * k) (le 4 v.toNat) = false :=
    writeRefused_register (by omega) (by rw [ht, List.mem_singleton]; omega) (by rw [ht, List.mem_singleton]; omega)
  rw [hostWrite_register p (List.ne_nil_of_length_pos (by omega)) (by omega) w, regWrite, ht, List.foldl_cons, List.foldl_nil,
    wordSlice_word]

/-- A write of one byte other than of STRRD and ABORT has the effect of its word, under the mask of that byte. -/
theorem hostWrite_byte {s : State} (p : portReady s = true) (a wa : Nat) (b : Byte) (ha : a < 0x100) (ht : wordsTouched a 1 = [wa])
    (h1 : wa ≠ 0x4C) (h2 : wa ≠ 0x40) :
    hostWrite s a [b] = regWriteWord (accepted s) wa (wordSlice a [b] wa).1 (wordSlice a [b] wa).2 := by
  have w : writeRefused s a [b] = false :=
    writeRefused_register (by simpa using ha) (by simp [ht, Ne.symm h1]) (by simp [ht, Ne.symm h2])
  rw [hostWrite_register p (by simp) (by simpa using ha) w, regWrite]
  simp [ht]

theorem and_word (v : BitVec 32) : v &&& 0xFFFFFFFF = v := BitVec.and_allOnes

/-- The lowest byte of a word, written alone. -/
theorem wordSlice_lowByte (a : Nat) (b : Byte) : wordSlice a [b] a = (b.zeroExtend 32, 0xFF) := by
  have hr : List.range 4 = [0, 1, 2, 3] := rfl
  simp only [wordSlice, hr, List.foldl_cons, List.foldl_nil, List.length_singleton]
  simp

/-- A write keeps a field that its mask leaves out. -/
theorem merge32_field_outside (old new mask : BitVec 32) (i w : Nat) (hw : i + w ≤ 32) (h : ∀ j < w, mask.getLsbD (i + j) = false) :
    ((merge32 old new mask >>> i).truncate w : BitVec w) = (old >>> i).truncate w := by
  refine BitVec.eq_of_getLsbD_eq fun j hj => ?_
  have hm : mask[i + j] = false := h j hj
  simp [merge32, hj, hm, show i + j < 32 by omega]

/-- A write of the triggers of RAWCTL alone leaves its fields. -/
theorem rawctl_fields_kept (u : BitVec 5) (d : BitVec 3) (v : BitVec 32) :
    ((merge32 (BitVec.ofNat 32 (256 * u.toNat + 8192 * d.toNat)) v 0xFF0000 >>> 8).truncate 5 : BitVec 5) = u ∧
      ((merge32 (BitVec.ofNat 32 (256 * u.toNat + 8192 * d.toNat)) v 0xFF0000 >>> 13).truncate 3 : BitVec 3) = d := by
  have hu := u.isLt
  have hd := d.isLt
  rw [merge32_field_outside _ _ _ _ _ (by decide) (by decide), merge32_field_outside _ _ _ _ _ (by decide) (by decide)]
  constructor
  · refine BitVec.eq_of_toNat_eq ?_
    simp [Nat.shiftRight_eq_div_pow]
    omega
  · refine BitVec.eq_of_toNat_eq ?_
    simp [Nat.shiftRight_eq_div_pow]
    omega

/-- URGCLR clears URGDROP and leaves the fields of RAWCTL. -/
theorem rawctlSet_urgclr (s : State) : rawctlSet s 0x20000 0xFF0000 = { s with port := { s.port with urgDrop := 0 } } := by
  obtain ⟨hu, hd⟩ := rawctl_fields_kept s.port.urgIn s.port.urgDie 0x20000
  simp only [rawctlSet, hu, hd]
  rfl

/-- Settles O7: each register's word acts under the mask of the bytes written. -/
theorem registerWritesAct : Obligations.RegisterWritesAct := by
  refine fun s => ⟨?irqen, ?irqstat, ?hpstat, ?hpcfg, ?urgclr, ?outack, ?doorbell⟩
  case irqen =>
    intro v p
    refine congrArg Host.Outcome.next ((hostWrite_word p 3 (by decide) (by decide) (by decide) v).trans ?_)
    rfl
  case irqstat =>
    intro v p
    refine congrArg Host.Outcome.next ((hostWrite_word p 2 (by decide) (by decide) (by decide) v).trans ?_)
    simp only [regWriteWord, and_word]
    rfl
  case hpstat =>
    intro v p
    refine congrArg Host.Outcome.next ((hostWrite_word p 1 (by decide) (by decide) (by decide) v).trans ?_)
    simp only [regWriteWord, and_word]
    rfl
  case hpcfg =>
    intro v p
    refine congrArg Host.Outcome.next ((hostWrite_byte p 0x14 0x14 v (by decide) (by decide) (by decide) (by decide)).trans ?_)
    rw [wordSlice_lowByte]
    simp [regWriteWord]
  case urgclr =>
    intro p
    exact congrArg Host.Outcome.next ((hostWrite_byte p 0x22 0x20 2 (by decide) (by decide) (by decide) (by decide)).trans (rawctlSet_urgclr _))
  case outack =>
    intro n p hn
    refine congrArg Host.Outcome.next ((hostWrite_byte p 0x11 0x10 (BitVec.ofNat 8 (2 ^ n)) (by decide) (by decide) (by decide) (by decide)).trans ?_)
    interval_cases n <;> rfl
  case doorbell =>
    intro n p hn
    refine congrArg Host.Outcome.next ((hostWrite_byte p 0x10 0x10 (BitVec.ofNat 8 (2 ^ n)) (by decide) (by decide) (by decide) (by decide)).trans ?_)
    interval_cases n <;> rfl

end Sys2Proof.Machine
end

section
/-! Raw and urgent results, the stream pointer, aborts, the watchdog answer and the two resets of the host port (R56 to R62, R80 to R88,
R123, R124). -/
namespace Sys2Proof.Machine

/-! Raw results (R57 to R60). -/

/-- A result fills an empty holding register. -/
theorem rawArrive_empty (s : State) (w : BitVec 32) (h : s.port.rawValid = false) :
    rawArrive s w = { s with port := { s.port with rawValid := true, rawHold := w, ovrn := s.port.ovrn || s.port.shadowOpen } } := by
  simp only [rawArrive, h, Bool.or_false, Bool.false_eq_true, if_false]

/-- An accepted read of two bytes of the registers answers with them and then has its side effects. -/
theorem hostRead_half {s : State} (p : portReady s = true) (a : Nat) (ha : a + 2 ≤ 0x100) :
    hostRead s a 2 = setPrev (takeHeadRole (readEffects (drive (xstatSent s) (readBytes s a 2) (crc16 (readBytes s a 2))) a 2)) 0 :=
  spiReadT_accepted s false a 2 0 p (fun e => nomatch e) (by decide) (by decide) (by rw [regionOf, if_pos ha])

/-- The code half reads the held code. -/
theorem readBytes_code {s : State} (v : s.port.rawValid = true) : readBytes s 0x28 2 = le 2 s.port.rawHold.toNat := by
  have e : readBytes s 0x28 2 = [regByte s true 0x28, regByte s true 0x29] := rfl
  rw [e]
  simp only [regByte, regWord, rawresWord, v, if_true, le]
  simp

/-- The tag half of RAWRES, read without the code, is the shadow. -/
theorem tagHalf (t : BitVec 16) (r : BitVec 32) : ((t.zeroExtend 32 <<< 16) ||| (r &&& 0xFFFF)).toNat / 65536 = t.toNat := by
  have ht := t.isLt
  have hm : ((0xFFFF : BitVec 32)).toNat = 2 ^ 16 - 1 := rfl
  have hz : (t.zeroExtend 32 <<< 16).toNat = t.toNat <<< 16 := by
    simp [Nat.shiftLeft_eq]
    omega
  have hr := Nat.mod_lt r.toNat (show 0 < 2 ^ 16 by decide)
  rw [BitVec.toNat_or, BitVec.toNat_and, hm, Nat.and_two_pow_sub_one_eq_mod, hz, ← Nat.shiftLeft_add_eq_or_of_lt hr, Nat.shiftLeft_eq]
  omega

/-- A read of the tag half reads the shadow. -/
theorem readBytes_tag (s : State) : readBytes s 0x2A 2 = le 2 s.port.shadowTag.toNat := by
  have e : readBytes s 0x2A 2 = [regByte s false 0x2A, regByte s false 0x2B] := rfl
  have h2 : ∀ n : Nat, n / 256 ^ (0x2A % 4) = n / 65536 := fun n => rfl
  have h3 : ∀ n : Nat, n / 256 ^ (0x2B % 4) = n / 65536 / 256 := fun n => by rw [Nat.div_div_eq_div_mul]; rfl
  rw [e]
  simp only [regByte, h2, h3]
  simp only [regWord, Bool.false_eq_true, if_false, tagHalf, le]

/-- Settles O8: an arrival at an empty register, and the two reads of RAWRES. -/
theorem rawResultPath : Obligations.RawResultPath := by
  refine fun s => ⟨?arrives, ?another, ?code, ?tag⟩
  case arrives =>
    intro a n k y u b o r hc hr hv
    change execRawResultArrival a n k y u b o s = _
    simp only [execRawResultArrival, hr, hc, beq_self_eq_true, Bool.and_self, if_true]
    exact congrArg Host.Outcome.next (rawArrive_empty _ _ hv)
  case another =>
    intro a n k y u b o h
    change execRawResultArrival a n k y u b o s = _
    cases hr : s.ring.raw with
    | nil => simp only [execRawResultArrival, hr]
    | cons w r =>
      have c : (cUp s && w == rawPair a n k y u b o) = false := by
        rcases h with h | h
        · rw [h, Bool.false_and]
        · have hw : w ≠ rawPair a n k y u b o := by simpa [hr] using h
          simp [hw]
      simp only [execRawResultArrival, hr, c, Bool.false_eq_true, if_false]
  case code =>
    intro p v
    refine congrArg Host.Outcome.next ?_
    rw [hostRead_half p 0x28 (by decide), readBytes_code v]
    have e : readEffects (drive (xstatSent s) (le 2 s.port.rawHold.toNat) (crc16 (le 2 s.port.rawHold.toNat))) 0x28 2 =
        consumeRaw (drive (xstatSent s) (le 2 s.port.rawHold.toNat) (crc16 (le 2 s.port.rawHold.toNat))) := rfl
    have v' : (drive (xstatSent s) (le 2 s.port.rawHold.toNat) (crc16 (le 2 s.port.rawHold.toNat))).port.rawValid = true := v
    rw [e, consumeRaw, if_pos v', takeHeadRole_of_ready (s := s) p (by rfl)]
    rfl
  case tag =>
    intro p
    refine congrArg Host.Outcome.next ?_
    rw [hostRead_half p 0x2A (by decide), readBytes_tag]
    have e : readEffects (drive (xstatSent s) (le 2 s.port.shadowTag.toNat) (crc16 (le 2 s.port.shadowTag.toNat))) 0x2A 2 =
        closeShadow (drive (xstatSent s) (le 2 s.port.shadowTag.toNat) (crc16 (le 2 s.port.shadowTag.toNat))) := rfl
    rw [e, takeHeadRole_of_ready (s := s) p (by rfl)]
    rfl

/-! Urgent requests (R56, R123, R124). -/

/-- URGGO issues the request for the input that RAWCTL holds. -/
theorem rawctlSet_urggo (s : State) : rawctlSet s 0x10000 0xFF0000 = urgIssue s := by
  obtain ⟨hu, hd⟩ := rawctl_fields_kept s.port.urgIn s.port.urgDie 0x10000
  simp only [rawctlSet, hu, hd]
  rfl

/-- The oldest accepted request converts an input that exists and whose reference is valid. -/
theorem urgentConversion_converts {s : State} {k x : Nat} {r : List (Nat × Nat)} {d : SegDie} (hr : s.ring.accepted = (k, x) :: r)
    (hd : s.die? k = some d) (hi : d.hasInput x = true) (ho : urgRefOk d x = true) (v : Int) :
    exec (.urgentConversion v) s = .next
      (let u := { s with ring := { s.ring with accepted := r } }
       rawArrive ((if x < 24 then noteGate u k (x + 1) 1 else u).updDie k fun d' =>
          { d' with residue := d'.residue.set x (convert d x (v * 1000)).residue })
        (rawPair ((convert d x (v * 1000)).code % 65536).toNat x k d.sweepNo true false (decide ((convert d x (v * 1000)).ovr ≠ 0)))) := by
  have hd' : State.die? { s with ring := { s.ring with accepted := r } } k = some d := hd
  change execUrgentConversion v s = _
  simp only [execUrgentConversion, nextUrgent, hr, hd', hi, ho, Bool.not_true, Bool.or_self, Bool.false_eq_true, if_false]

/-- Settles O9: the issue, the arrival at the die, and the conversion of the oldest accepted request. -/
theorem urgentPath : Obligations.UrgentPath := by
  refine fun s => ⟨?issue, ?arrives, ?another, ?converts, ?noReference⟩
  case issue =>
    intro p hd
    refine congrArg Host.Outcome.next ((hostWrite_byte p 0x22 0x20 1 (by decide) (by decide) (by decide) (by decide)).trans
      ((rawctlSet_urggo _).trans ?_))
    have hd' : ((accepted s).die? (accepted s).port.urgDie.toNat).isSome = true := hd
    rw [urgIssue, if_pos hd']
    rfl
  case arrives =>
    intro k x r d hr hd ref hh ht hi
    have hd' : State.die? { s with ring := { s.ring with urgent := r } } k = some d := hd
    have ref' : urgRefuses { s with ring := { s.ring with urgent := r } } d = false := ref
    change execUrgentRequestArrival k s = _
    simp only [execUrgentRequestArrival, hr, ne_eq, not_true_eq_false, if_false, hd', urgArrive, ref', hh, ht, hi, Option.isSome_none,
      Bool.or_self, Bool.false_eq_true, if_true]
  case another =>
    intro k h
    change execUrgentRequestArrival k s = _
    cases hr : s.ring.urgent with
    | nil => simp only [execUrgentRequestArrival, hr]
    | cons w r =>
      have hw : w.1 ≠ k := by simpa [hr] using h
      simp only [execUrgentRequestArrival, hr, ne_eq, hw, not_false_eq_true, if_true]
  case converts =>
    intro k x r d v hr hd hi ho hv
    refine ⟨_, urgentConversion_converts hr hd hi ho v, ?_⟩
    rw [rawArrive_empty _ _ (by split <;> exact hv)]
    split <;> exact ⟨rfl, rfl, rfl, rfl, rfl, rfl⟩
  case noReference =>
    intro k x r d v hr hd h hv
    have hd' : State.die? { s with ring := { s.ring with accepted := r } } k = some d := hd
    have c : (!d.hasInput x || !urgRefOk d x) = true := by rcases h with h | h <;> simp [h]
    change execUrgentConversion v s = _
    simp only [execUrgentConversion, nextUrgent, hr, hd', c, if_true]
    exact congrArg Host.Outcome.next (rawArrive_empty _ _ hv)

/-! The stream pointer (R80). -/

/-- A write of half a word covers its two bytes. -/
theorem wordSlice_half (a v : Nat) (h : v < 65536) : wordSlice a (le 2 v) a = (BitVec.ofNat 32 v, 0xFFFF) := by
  have hl : le 2 v = [BitVec.ofNat 8 v, BitVec.ofNat 8 (v / 256)] := rfl
  have hr : List.range 4 = [0, 1, 2, 3] := rfl
  have e : v % 256 ||| (v / 256) <<< 8 = v := by
    rw [Nat.or_comm, ← Nat.shiftLeft_add_eq_or_of_lt (Nat.mod_lt v (by decide)), Nat.shiftLeft_eq]
    omega
  simp only [wordSlice, hr, hl, List.foldl_cons, List.foldl_nil, List.length_cons, List.length_nil]
  simp only [Nat.add_zero, le_refl, Nat.lt_add_right_iff_pos, Nat.add_lt_add_iff_left, Nat.le_add_right, and_self, true_and, if_true,
    Nat.reduceLT, if_false, Nat.sub_self, Nat.add_sub_cancel_left, List.getD_cons_zero, List.getD_cons_succ, Nat.zero_add, Nat.lt_add_one,
    Nat.reduceAdd, Nat.zero_lt_succ]
  refine Prod.ext (BitVec.eq_of_toNat_eq ?_) rfl
  have h2 : v / 256 % 256 * 256 % 4294967296 = (v / 256) <<< 8 := by rw [Nat.shiftLeft_eq]; omega
  have h3 : v % 256 % 4294967296 = v % 256 := by omega
  have h4 : v % 4294967296 = v := by omega
  simp [h2, h3, h4, e]

theorem zeroExtend_and_not_mask (r : BitVec 12) (m : BitVec 32) (h : ∀ j < 12, m.getLsbD j = true) : r.zeroExtend 32 &&& ~~~m = 0 := by
  refine BitVec.eq_of_getLsbD_eq fun j hj => ?_
  by_cases k : j < 12
  · have hm : m[j] = true := h j k
    simp [hj, hm]
  · have hr : r.getLsbD j = false := BitVec.getLsbD_of_ge r j (by omega)
    simp [hj, hr]

/-- What a write of two bytes makes of STRRD: its low 12 bits; the record shows all 16. -/
theorem strrd_merged (r : BitVec 12) (v : Nat) (h : v < 65536) :
    (merge32 (r.zeroExtend 32) (BitVec.ofNat 32 v) 0xFFF).toNat = v % 4096 ∧
      (merge32 (r.zeroExtend 32) (BitVec.ofNat 32 v) 0xFFFF).toNat = v := by
  have h4 : v % 4294967296 = v := by omega
  have m12 : (0xFFF : BitVec 32).toNat = 2 ^ 12 - 1 := rfl
  have m16 : (0xFFFF : BitVec 32).toNat = 2 ^ 16 - 1 := rfl
  rw [merge32, merge32, zeroExtend_and_not_mask r 0xFFF (by decide), zeroExtend_and_not_mask r 0xFFFF (by decide), BitVec.toNat_or,
    BitVec.toNat_or, BitVec.toNat_and, BitVec.toNat_and, m12, m16, Nat.and_two_pow_sub_one_eq_mod, Nat.and_two_pow_sub_one_eq_mod]
  simp [h4, Nat.mod_eq_of_lt h]

/-- What a value for STRRD is judged on: its low 12 bits. -/
theorem strrdOk_low (s : State) (v : Nat) :
    strrdOk s (v % 4096) = (decide (v % 4 = 0) && decide ((BitVec.ofNat 12 v - s.port.strRd).toNat ≤ pendingBytes s)) := by
  have h1 : v % 4096 % 4 = v % 4 := by omega
  have h2 : v % 4096 < 4096 := by omega
  have h3 : BitVec.ofNat 12 (v % 4096) = BitVec.ofNat 12 v := BitVec.eq_of_toNat_eq (by simp)
  simp [strrdOk, h1, h2, h3]

/-- Is a write of two bytes to STRRD refused? -/
theorem writeRefused_strrd (s : State) (v : Nat) (h : v < 65536) : writeRefused s 0x4C (le 2 v) = !strrdOk s (v % 4096) := by
  have hr : regionOf 0x4C (le 2 v).length = some 0 := rfl
  have ht : wordsTouched 0x4C (le 2 v).length = [0x4C] := by rw [length_leBytes]; decide
  have hm : (0xFFFF &&& 0xFFF : BitVec 32) = 0xFFF := rfl
  simp only [writeRefused, hr, ht, wordSlice_half 0x4C v h, hm, regWord, (strrd_merged s.port.strRd v h).1, List.any_cons, List.any_nil]
  simp

/-- Settles O10: the low 12 bits decide. -/
theorem streamPointer : Obligations.StreamPointer := by
  refine fun s => ⟨?moves, ?refused⟩
  case moves =>
    intro v p hv h4 hp
    have ok : strrdOk s (v % 4096) = true := by rw [strrdOk_low, decide_eq_true h4, decide_eq_true hp]; rfl
    have ok' : strrdOk (accepted s) (v % 4096 % 4096) = true := by rw [Nat.mod_mod]; exact ok
    have hm : (0xFFFF &&& 0xFFF : BitVec 32) = 0xFFF := rfl
    have ht : wordsTouched 0x4C (le 2 v).length = [0x4C] := by rw [length_leBytes]; decide
    have h3 : BitVec.ofNat 12 (v % 4096) = BitVec.ofNat 12 v := BitVec.eq_of_toNat_eq (by simp)
    have e : hostWrite s 0x4C (le 2 v) = strrdSet (accepted s) (v % 4096) := by
      rw [hostWrite_register p (by simp [le]) (by rw [length_leBytes]; decide) (by rw [writeRefused_strrd s v hv, ok]; rfl), regWrite, ht,
        List.foldl_cons, List.foldl_nil, wordSlice_half 0x4C v hv]
      simp only [regWriteWord, hm]
      rw [show regWord (accepted s) 0x4C false = s.port.strRd.zeroExtend 32 from rfl, (strrd_merged s.port.strRd v hv).1]
    refine congrArg Host.Outcome.next (e.trans ?_)
    rw [strrdSet, if_pos ok', h3]
  case refused =>
    intro v p hv h
    have bad : strrdOk s (v % 4096) = false := by
      rw [strrdOk_low]
      rcases h with h | h
      · rw [decide_eq_false h, Bool.false_and]
      · rw [decide_eq_false (Nat.not_le.2 h), Bool.and_false]
    have hr : regionOf 0x4C (le 2 v).length = some 0 := rfl
    have ht : wordsTouched 0x4C (le 2 v).length = [0x4C] := by rw [length_leBytes]; decide
    have hm : (0xFFFF &&& 0xFFFF : BitVec 32) = 0xFFFF := rfl
    refine congrArg Host.Outcome.next ?_
    rw [hostWrite_refused s 0x4C (le 2 v) 0 p (by simp [le]) (by rw [length_leBytes]; decide) hr (by rw [writeRefused_strrd s v hv, bad]; rfl)]
    simp only [endTransaction, hr, ht, wordSlice_half 0x4C v hv, hm]
    rw [show regWord (setPrev (xstatSent s) 3) 0x4C false = s.port.strRd.zeroExtend 32 from rfl, (strrd_merged s.port.strRd v hv).2]
    rfl

end Sys2Proof.Machine
end

section
/-! Aborts, the watchdog answer, and the two resets of the host port (R62, R81, R82, R86 to R88, R420 to R422). -/
namespace Sys2Proof.Machine

/-- Only the low bytes of a number are written. -/
theorem le_mod (n v : Nat) : le n (v % 256 ^ n) = le n v := by
  induction n generalizing v with
  | zero => rfl
  | succ n ih =>
    have h1 : v % 256 ^ (n + 1) / 256 = v / 256 % 256 ^ n := by rw [Nat.pow_succ', Nat.mod_mul_right_div_self]
    have h2 : BitVec.ofNat 8 (v % 256 ^ (n + 1)) = BitVec.ofNat 8 v :=
      BitVec.eq_of_toNat_eq (by
        simp only [BitVec.toNat_ofNat]
        exact Nat.mod_mod_of_dvd v ⟨256 ^ n, Nat.pow_succ'⟩)
    rw [le, le, h1, h2, ih]

theorem le_word (v : Nat) : le 4 v = le 4 (BitVec.ofNat 32 v).toNat := by
  rw [BitVec.toNat_ofNat]
  exact (le_mod 4 v).symm

theorem merge32_word (o v : BitVec 32) : merge32 o v 0xFFFFFFFF = v := by
  have h : (~~~(0xFFFFFFFF : BitVec 32)) = 0#32 := rfl
  rw [merge32, and_word, h, BitVec.and_zero, BitVec.zero_or]

/-! Aborts (R81, R82). -/

theorem writeRefused_abort (s : State) (w : Nat) : writeRefused s 0x40 (le 4 w) = (s.port.abortResult == 1) := by
  have hr : regionOf 0x40 (le 4 w).length = some 0 := rfl
  have ht : wordsTouched 0x40 (le 4 w).length = [0x40] := by rw [length_leBytes]; decide
  simp only [writeRefused, hr, ht, List.any_cons, List.any_nil]
  simp

/-- A write to ABORT while none is pending. -/
theorem hostWrite_abort {s : State} (p : portReady s = true) (h : s.port.abortResult ≠ 1) (w : Nat) :
    hostWrite s 0x40 (le 4 w) = abortSet (accepted s) (BitVec.ofNat 32 w) := by
  have ht : wordsTouched 0x40 (le 4 w).length = [0x40] := by rw [length_leBytes]; decide
  have hw : writeRefused s 0x40 (le 4 w) = false := by rw [writeRefused_abort]; simpa using h
  rw [hostWrite_register p (by simp [le]) (by rw [length_leBytes]; decide) hw, regWrite, ht, List.foldl_cons, List.foldl_nil, le_word w,
    wordSlice_word]
  simp only [regWriteWord, merge32_word]

/-- The fields of a word of ABORT with GO. -/
theorem abortWord_fields {p k : Nat} (hp : p < 4) (hk : k < 65536) :
    (BitVec.ofNat 32 (2 ^ 31 + 65536 * p + k)).truncate 16 = BitVec.ofNat 16 k ∧
      (BitVec.ofNat 32 (2 ^ 31 + 65536 * p + k) >>> 16).truncate 2 = BitVec.ofNat 2 p ∧
      (BitVec.ofNat 32 (2 ^ 31 + 65536 * p + k)).msb = true := by
  refine ⟨BitVec.eq_of_toNat_eq ?_, BitVec.eq_of_toNat_eq ?_, ?_⟩
  · simp only [BitVec.truncate_eq_setWidth, BitVec.toNat_setWidth, BitVec.toNat_ofNat]
    omega
  · simp [Nat.shiftRight_eq_div_pow]
    omega
  · simp [BitVec.msb_eq_decide]
    omega

/-- At the end of an engine cycle a step on an empty queue answers the pending abort. -/
theorem step_abort {s : State} (hp : s.pending = []) (ha : s.port.abortResult = 1) (hn : s.now % 2 = 1) :
    step s = .next (abortFind { s with
        now := s.now + 1, packTime := s.packTime + packStep s, chain := { s.chain with slew := slewLeft s }
        sweep := lapse s s.sweep, segs := s.segs.map (SegDie.tick (s.now + 1) (packStep s)) }
      s.port.abortPrio.toNat s.port.abortTag.toNat) := by
  have e : step s = .next (tick s) := by simp only [step, hp]
  have he : (s.now + 1) % 2 = 0 := Nat.succ_mod_two_eq_zero_iff.2 hn
  rw [e, tick, abortCycle, if_pos ⟨ha, he⟩]

/-- An abort meets the open operation of its priority and TAG, where no frame, no command and no order waits. -/
theorem abortFind_op {s : State} {n k : Nat} {o : Op} (hd : s.mail.doorbell.getLsbD n = false) (hw : s.mail.waiting = [])
    (ha : s.mail.arb = []) (ho : (s.mail.ops.find? fun o => o.origin == 0 && o.prio == n && o.tag == k) = some o) :
    abortFind s n k = abortAnswer { s with mail := { s.mail with ops := upd s.mail.ops (fun x => x == o) fun x => { x with stop := true } } } k 2 := by
  rw [abortFind, if_neg (by simp [hd])]
  simp only [hw, ha, List.find?_nil, ho]

/-- An abort that meets nothing. -/
theorem abortFind_nothing {s : State} {n k : Nat} (hd : s.mail.doorbell.getLsbD n = false) (hw : s.mail.waiting = [])
    (ha : s.mail.arb = []) (ho : s.mail.ops = []) (hr : s.mail.replies = []) : abortFind s n k = abortAnswer s k 3 := by
  rw [abortFind, if_neg (by simp [hd])]
  simp only [hw, ha, ho, hr, List.find?_nil, List.any_nil, Bool.false_eq_true, if_false]

/-- Settles O11: the write, the refusal, the answer at the end of a cycle, and the stop. -/
theorem abortOfAnOperation : Obligations.AbortOfAnOperation := by
  refine fun s => ⟨?pends, ?refused, ?marks, ?nothing, ?stops⟩
  case pends =>
    intro p k pr hp hk h
    obtain ⟨h1, h2, h3⟩ := abortWord_fields hp hk
    refine congrArg Host.Outcome.next ((hostWrite_abort pr h _).trans ?_)
    have h' : (accepted s).port.abortResult ≠ 1 := h
    simp only [abortSet, if_neg h', h1, h2, h3, if_true]
  case refused =>
    intro w pr h
    have hr : regionOf 0x40 (le 4 w).length = some 0 := rfl
    have ht : (wordsTouched 0x40 (le 4 w).length).contains 0x4C = false := by rw [length_leBytes]; decide
    refine congrArg Host.Outcome.next ((hostWrite_refused s 0x40 (le 4 w) 0 pr (by simp [le]) (by rw [length_leBytes]; decide) hr
      (by rw [writeRefused_abort]; simp [h])).trans ?_)
    simp only [endTransaction, hr, ht, Bool.false_eq_true, if_false]
  case marks =>
    intro o hp ha hn hd hw hb ho
    refine ⟨_, (step_abort hp ha hn).trans (congrArg Host.Outcome.next (abortFind_op hd hw hb ho)), rfl, ?_, rfl, rfl, rfl, rfl, rfl⟩
    exact BitVec.eq_of_toNat_eq (by simp [abortAnswer])
  case nothing =>
    intro hp ha hn hd hw hb ho hr
    refine ⟨_, (step_abort hp ha hn).trans (congrArg Host.Outcome.next (abortFind_nothing hd hw hb ho hr)), rfl, ?_, rfl, rfl, rfl, rfl, rfl⟩
    exact BitVec.eq_of_toNat_eq (by simp [abortAnswer])
  case stops =>
    intro p k o ho hf hc hi
    change execOperationAbortStop p k s = _
    simp only [execOperationAbortStop, ho, hf, hc, abortOp, hi, Bool.or_self, Bool.false_eq_true, if_false, Option.map_none,
      reduceCtorEq]

/-! The watchdog answer (R420 to R422). -/

/-- A new question is never 0 and never the last one (R420). -/
theorem drawQuestion_new (q : BitVec 8) (k : Nat) : drawQuestion q k ≠ q ∧ drawQuestion q k ≠ 0 := by
  have hq := q.isLt
  have toNat_question : ∀ n, (BitVec.ofNat 8 (1 + n % 255)).toNat = 1 + n % 255 := fun n => by
    rw [BitVec.toNat_ofNat]; omega
  have zero : (0 : BitVec 8).toNat = 0 := rfl
  constructor
  · intro e
    have e := congrArg BitVec.toNat e
    unfold drawQuestion at e
    split at e
    · rename_i h
      rw [toNat_question, h, zero] at e
      omega
    · rename_i h
      have h0 : q.toNat ≠ 0 := fun c => h (BitVec.eq_of_toNat_eq c)
      rw [toNat_question] at e
      omega
  · intro e
    have e := congrArg BitVec.toNat e
    unfold drawQuestion at e
    split at e <;> rw [toNat_question, zero] at e <;> omega

/-- A write of all four bytes of WDA is judged with its token. -/
theorem hostWrite_token {s : State} (p : portReady s = true) {k : Nat} (hk : k < 2 ^ 32) :
    hostWrite s 0x38 (le 4 k) = wdAnswer (accepted s) k true := by
  rw [le_word, hostWrite_word p 14 (by decide) (by decide) (by decide)]
  simp only [regWriteWord, and_word, decide_true, BitVec.toNat_ofNat, Nat.mod_eq_of_lt hk]

/-- Any write of WDA is judged with some token. -/
theorem exec_wdaWrite {s : State} (p : portReady s = true) (k : Nat) (whole : Bool) :
    ∃ j, exec (.wdaWrite k whole) s = .next (wdAnswer (accepted s) j whole) := by
  cases whole with
  | true =>
    refine ⟨(BitVec.ofNat 32 k).toNat, congrArg Host.Outcome.next ?_⟩
    rw [if_pos rfl, le_word, hostWrite_token p (BitVec.isLt _)]
  | false =>
    have e := hostWrite_byte p 0x38 0x38 (BitVec.ofNat 8 k) (by decide) (by decide) (by decide) (by decide)
    rw [wordSlice_lowByte] at e
    exact ⟨_, congrArg Host.Outcome.next e⟩

/-- Settles O13, by the judgement of an answer while the watchdog is armed, and by its expiry. -/
theorem watchdogAnswers : Obligations.WatchdogAnswers := by
  refine fun s => ⟨?good, ?wrong, ?early, ?disarmed, ?timeout⟩
  case good =>
    intro p ha ho hc
    obtain ⟨hq, h0⟩ := drawQuestion_new s.wd.question s.freeNat
    have e : wdAnswer (accepted s) (wdToken s.wd) true = wdAccept (accepted s) := by
      have ha' : (accepted s).wd.armed = true := ha
      have ho' : ¬wdElapsed (accepted s) < wdOpens (accepted s) := Nat.not_lt.2 ho
      have hc' : ¬wdCloses (accepted s) < wdElapsed (accepted s) := Nat.not_lt.2 hc
      have ht : (true && wdToken s.wd == wdToken (accepted s).wd) = true := by simp
      simp only [wdAnswer, ha', ho', hc', ht, Bool.not_true, Bool.false_eq_true, if_false, if_true]
    exact ⟨_, congrArg Host.Outcome.next ((hostWrite_token p (BitVec.isLt _)).trans e), hq, h0, rfl, rfl, rfl, rfl, rfl, rfl⟩
  case wrong =>
    intro k p ha ho hc hk hn
    refine congrArg Host.Outcome.next ((hostWrite_token p hk).trans ?_)
    have ha' : (accepted s).wd.armed = true := ha
    have ho' : ¬wdElapsed (accepted s) < wdOpens (accepted s) := Nat.not_lt.2 ho
    have hc' : ¬wdCloses (accepted s) < wdElapsed (accepted s) := Nat.not_lt.2 hc
    have ht : (true && k == wdToken (accepted s).wd) = false := by simpa using hn
    simp only [wdAnswer, ha', ho', hc', ht, Bool.not_true, Bool.false_eq_true, if_false]
    rfl
  case early =>
    intro k whole p ha ho
    obtain ⟨j, e⟩ := exec_wdaWrite p k whole
    have ha' : (accepted s).wd.armed = true := ha
    have ho' : wdElapsed (accepted s) < wdOpens (accepted s) := ho
    rw [e]
    simp only [wdAnswer, ha', ho', Bool.not_true, Bool.false_eq_true, if_false, if_true]
    rfl
  case disarmed =>
    intro k whole p ha
    obtain ⟨j, e⟩ := exec_wdaWrite p k whole
    have ha' : (accepted s).wd.armed = false := ha
    rw [e]
    simp only [wdAnswer, ha', Bool.not_false, if_true]
  case timeout =>
    intro hu ha hc
    change execWdTimeout s = _
    simp only [execWdTimeout, hu, if_true, wdExpire, ha, decide_eq_true hc, Bool.and_self]

/-! The reset key (R88). -/

/-- A write of SWRST acts on the word, whether or not a sequence is open. -/
theorem hostWrite_swrst {s : State} (hu : cUp s = true) (hh : s.chain.isHead = true ∨ s.chain.badHead = true) {v : Nat} (hv : v < 2 ^ 32) :
    hostWrite s 0x54 (le 4 v) = swrstSet (accepted s) v := by
  obtain ⟨h1, h2⟩ := cUp_parts hu
  have hl : (le 4 v).length = 4 := length_leBytes 4 v
  have ht : wordsTouched 0x54 4 = [0x54] := by decide
  have hw : writeRefused (xstatSent s) 0x54 (le 4 v) = false :=
    writeRefused_register (by rw [hl]; decide) (by rw [hl, ht]; decide) (by rw [hl, ht]; decide)
  have hb : beginTransaction s true = xstatSent s := by simp [beginTransaction]
  have hr : regionOf 0x54 4 = some 0 := rfl
  have t : takeHeadRole (setPrev (xstatSent s) 0) = accepted s := takeHeadRole_settled _ hh
  have e : hostWrite s 0x54 (le 4 v) = writeEffects (accepted s) 0x54 (le 4 v) := by
    simp [hostWrite, h1, h2, hl, hb, hw, hr, endTransaction_accepted, t]
  rw [e]
  simp only [writeEffects, hl, hr, regWrite, ht, List.foldl_cons, List.foldl_nil]
  rw [le_word, wordSlice_word]
  simp only [regWriteWord, and_word, BitVec.toNat_ofNat, Nat.mod_eq_of_lt hv]

/-- Closing a sequence that is not open changes nothing. -/
theorem swrstClosed {s : State} (h : s.port.swrstAt = none) : { s with port := { s.port with swrstAt := none } } = s := by
  rw [← h]

/-- The second key within 1 ms resets the part. -/
theorem swrstSet_second {s : State} {k : Tick} (hk : s.port.swrstAt = some k) (hn : s.now ≤ k + msT) :
    swrstSet s 0x3E56 = partReset s 1 := by
  have h1 : ¬(0x3E56 : Nat) = 0xC1A9 := by decide
  simp only [swrstSet, hk, if_neg h1, hn, and_self, if_true]

/-- Settles O14: `swrstSet` on the word written. -/
theorem resetKey : Obligations.ResetKey := by
  refine fun s => ⟨?opens, ?resets, ?resetState, ?wrongFirst, ?again, ?discards⟩
  case opens =>
    intro p
    obtain ⟨h1, h2, h3, hh⟩ := portReady_parts p
    refine congrArg Host.Outcome.next ((hostWrite_swrst (by simp [cUp, h1, h2]) hh (by decide)).trans ?_)
    have h3' : (accepted s).port.swrstAt = none := h3
    simp only [swrstSet, h3', if_true]
    rfl
  case resets =>
    intro k hu hh hk hn
    refine congrArg Host.Outcome.next ((hostWrite_swrst hu (.inl hh) (by decide)).trans ?_)
    have hk' : (accepted s).port.swrstAt = some k := hk
    have hn' : (accepted s).now ≤ k + msT := hn
    exact swrstSet_second hk' hn'
  case resetState =>
    intro k hu hh hk hn
    have hk' : (accepted s).port.swrstAt = some k := hk
    have hn' : (accepted s).now ≤ k + msT := hn
    exact ⟨_, congrArg Host.Outcome.next ((hostWrite_swrst hu (.inl hh) (by decide)).trans (swrstSet_second hk' hn')), rfl, rfl, rfl, rfl, rfl, rfl, rfl, rfl, rfl, rfl⟩
  case wrongFirst =>
    intro v hu hh hk hv hn
    refine congrArg Host.Outcome.next ((hostWrite_swrst hu (.inl hh) hv).trans ?_)
    have hk' : (accepted s).port.swrstAt = none := hk
    simp only [swrstSet, hk', if_neg hn, swrstBreak, swrstClosed hk']
  case again =>
    intro k hu hh hk
    refine congrArg Host.Outcome.next ((hostWrite_swrst hu (.inl hh) (by decide)).trans ?_)
    have hk' : (accepted s).port.swrstAt = some k := hk
    have hn : (swrstBreak (accepted s) 0xC1A9).now = s.now := (raise_told ..).now
    simp only [swrstSet, hk', if_true, hn]
  case discards =>
    intro k v hu hh hk hv hn h
    refine congrArg Host.Outcome.next ((hostWrite_swrst hu (.inl hh) hv).trans ?_)
    have hk' : (accepted s).port.swrstAt = some k := hk
    have c : ¬(v = 0x3E56 ∧ (accepted s).now ≤ k + msT) := fun c => h.elim (fun g => g c.1) (fun g => Nat.not_le.2 g c.2)
    simp only [swrstSet, hk', if_neg hn, if_neg c]

/-! The pin RSTN (R86, R87). -/

/-- Settles O15, case by case of the pin. -/
theorem resetPin : Obligations.ResetPin := by
  refine fun s => ⟨?low, ?ignored, ?rises, ?stuck, ?ignoreEnds⟩
  case low =>
    intro hl hi
    have e : exec .rstnAssert s = .next
        (let t := partReset { s with port := { s.port with rstnLow := true, rstnEdge := s.now } } 1
         { t with port := { t.port with inReset := true }, aon := { t.aon with brownOut := s.aon.brownOut } }) := by
      change execRstnAssert s = _
      simp only [execRstnAssert, hl, hi, Bool.false_eq_true, if_false]
    exact ⟨_, e, rfl, rfl, rfl, rfl, rfl, rfl, rfl, rfl, rfl⟩
  case ignored =>
    intro hl hi
    change execRstnAssert s = _
    simp only [execRstnAssert, hl, hi, Bool.false_eq_true, if_false, if_true]
  case rises =>
    intro hl
    change execRstnRelease s = _
    simp only [execRstnRelease, hl, if_true]
  case stuck =>
    intro hr hl he
    change execRstnStuck s = _
    simp only [execRstnStuck, hr, hl, decide_eq_true he, Bool.and_self, if_true]
  case ignoreEnds =>
    intro hi hl he
    change execRstnIgnoreEnd s = _
    simp only [execRstnIgnoreEnd, hi, hl, decide_eq_true he, Bool.not_false, Bool.and_self, if_true]

end Sys2Proof.Machine
end

section
/-! The mailbox engine takes frames, writes replies and closes arbitration windows (R65 to R72, R84, R85). -/
namespace Sys2Proof.Machine

/-- Where zeros were written, zeros are read. -/
theorem memRead_zeros (m : List Host.Cell) (a n k : Nat) (h : Memory.wf m = true) (hk : k < n) :
    memRead (memWriteList m a (zeros n)) (a + k) = 0 := by
  rw [memRead_memWriteList_same _ m a k h (by rw [length_zeros]; exact hk)]
  simp [zeros, List.getD_eq_getElem?_getD, hk]

@[simp] theorem twoHeads_clearInbound (s : State) (n : Nat) : twoHeads (clearInbound s n) = twoHeads s := by
  simp only [twoHeads, clearInbound_chain]

@[simp] theorem clearInbound_metro (s : State) (n : Nat) : (clearInbound s n).metro = s.metro := by simp only [clearInbound]

@[simp] theorem clearInbound_port (s : State) (n : Nat) : (clearInbound s n).port = s.port := by simp only [clearInbound]

@[simp] theorem ownHdr_clearInbound (s : State) (n : Nat) (h : Hdr) : ownHdr (clearInbound s n) h = ownHdr s h := by
  simp only [ownHdr, clearInbound_chain]

theorem clearInbound_mem (s : State) (n : Nat) : (clearInbound s n).mem = memWriteList s.mem (0x100 + 256 * n) (zeros 256) := by
  simp only [clearInbound]

@[simp] theorem enqueue_mem (s : State) (h : Hdr) (op : Nat) (p : List Byte) : (enqueue s h op p).mem = s.mem := rfl

/-- The next mailbox is one of the four inbound ones. -/
theorem nextMailbox_lt {s : State} {n : Nat} (h : nextMailbox s = some n) : n < 4 := List.mem_range.1 (List.mem_of_find?_eq_some h)

/-- While no second head is known no order is held. -/
theorem arbitrate_oneHead {s : State} (h : twoHeads s = false) (hd : Hdr) (op : Nat) (p : List Byte) :
    arbitrate s hd op p = enqueue s hd op p := by
  unfold arbitrate
  split
  · rfl
  · rw [h]
    rfl

/-- A command of a good form that no status turns away enters the queue. -/
theorem exec_takeFrame_enqueues {s : State} {n : Nat} {f : Frame} {l : List Fld} {v : List Val} (up : cUp s = true)
    (next : nextMailbox s = some n) (read : readFrame (memReadList s.mem (0x100 + 256 * n) 256) = f) (good : frameBad s f = false)
    (mine : f.target = 0 ∨ f.target = s.chain.addr) (known : layoutOf (decide (s.life.state = 4)) f.op = some l)
    (g : gate s (portHdr n f) f.op = none) (form : readParams l [] [] f.params = some v) (one : twoHeads s = false) :
    exec .mailboxTakeFrame s = .next (enqueue (clearInbound s n) (portHdr n f) f.op f.params) := by
  have one' : twoHeads (clearInbound s n) = false := by rw [twoHeads_clearInbound, one]
  have g' : gate (clearInbound s n) (portHdr n f) f.op = none := by rw [gate_clearInbound, g]
  rw [exec_of_takes ⟨up, next, read, good, mine, by rw [known]; exact Option.some_ne_none l⟩]
  simp only [takeCommand, clearInbound_life, known, g', form, arbitrate_oneHead one']

/-- A malformed frame for the engine: a bad check value, a reserved byte, a bad TARGET or a TAG in use. -/
theorem frameBad_of {s : State} {f : Frame}
    (h : f.crcGood = false ∨ f.reserved ≠ 0 ∨ 32 < f.target ∨ (s.mail.ops.any fun o => o.origin == 0 && o.tag == f.tag) = true) :
    frameBad s f = true := by
  rcases h with h | h | h | h <;> simp [frameBad, h]

/-! Arbitration (R84, R85). -/

/-- A state whose list of held orders is written as it stands. -/
theorem arb_self {s : State} {l : List Arb} (h : s.mail.arb = l) : { s with mail := { s.mail with arb := l } } = s := by rw [← h]

/-- What is compared of two orders does not hold whether they wait or when their window closed. -/
theorem contradicts_closed (a b : Arb) (h : Bool) (e : Option Tick) : contradicts { a with held := h, closed := e } b = contradicts a b := rfl

/-- The windows of two orders overlap while both are open. -/
theorem overlaps_open {a b : Arb} (ha : a.closed = none) (hb : b.closed = none) : overlaps a b = true := by simp [overlaps, ha, hb]

/-- Orders of which one loses come from different heads. -/
theorem hdr_ne_of_losesTo {s : State} {a b : Arb} (h : losesTo s a b = true) : b.hdr ≠ a.hdr := by
  intro e
  simp [losesTo, contradicts, e] at h

/-- An order that does not lose to an open one does not lose to it once that is closed. -/
theorem losesTo_closed {s u : State} {a b : Arb} (hu : u.chain.addr = s.chain.addr) (ha : a.closed = none) (hb : b.closed = none)
    (h : losesTo s b a = false) (e : Option Tick) : losesTo u b { a with held := false, closed := e } = false := by
  have f : ∀ x, fromPrimary u x = fromPrimary s x := fun x => by simp only [fromPrimary, hu]
  simp only [losesTo, overlaps_open hb ha, Bool.true_and] at h
  simp only [losesTo, f, contradicts_closed, Bool.and_assoc, h, Bool.and_false]

/-- Refusing keeps the orders that wait, and the address. -/
theorem refuse_conflict (s : State) (h : Hdr) (op : Nat) : refuse s h op stConflict = reply s h op stConflict [] :=
  refuse_plain s h op stConflict (by decide)

/-- The window of an order closes that loses to another held one: it completes with CONFLICT, which is recorded. -/
theorem closeArb_loser {s : State} {a b : Arb} (hab : s.mail.arb = [a, b]) (ha : a.held = true) (l : losesTo s a b = true) :
    closeArb s a = raise (refuse { s with mail := { s.mail with arb := [{ a with held := false, closed := some s.now }, b] } }
      a.hdr a.opcode stConflict) 0 0 0xD7 a.opcode := by
  have ne := hdr_ne_of_losesTo l
  have h1 : (s.mail.arb.any fun x => x.hdr != a.hdr && losesTo s a x) = true := by simp [hab, l, ne]
  have h2 : (upd s.mail.arb (fun x => x.hdr == a.hdr && x.opcode == a.opcode) fun x => { x with held := false, closed := some s.now }) =
      [{ a with held := false, closed := some s.now }, b] := by simp [hab, upd, ne]
  simp only [closeArb, h1, h2, ha, Bool.not_true, Bool.false_eq_true, if_false, if_true]

/-- The window of an order closes that loses to none: it enters the queue. -/
theorem closeArb_winner {s : State} {b : Arb} (hb : b.held = true) (l : (s.mail.arb.any fun x => x.hdr != b.hdr && losesTo s b x) = false) :
    closeArb s b = enqueue { s with mail := { s.mail with
      arb := upd s.mail.arb (fun x => x.hdr == b.hdr && x.opcode == b.opcode) fun x => { x with held := false, closed := some s.now } } }
      b.hdr b.opcode b.params := by
  simp only [closeArb, l, hb, Bool.not_true, Bool.false_eq_true, if_false]

/-- Settles O12: taking, refusing and answering frames, and closing arbitration windows. -/
theorem mailboxTakesAFrame : Obligations.MailboxTakesAFrame := by
  refine fun s => ⟨?enqueues, ?effects, ?bad, ?replies, ?closes, ?open_, ?alone, ?loser⟩
  case enqueues => exact fun n f l v up next read good mine known g form one => exec_takeFrame_enqueues up next read good mine known g form one
  case effects =>
    intro n f l v up next read good mine known g form one wf
    refine ⟨_, exec_takeFrame_enqueues up next read good mine known g form one, ?_, ?_, ?_, ?_, ?_⟩
    · have hn := nextMailbox_lt next
      simp only [enqueue, clearInbound]
      interval_cases n <;> simp
    · intro k hk
      rw [enqueue_mem, clearInbound_mem]
      exact memRead_zeros s.mem _ 256 k wf hk
    · intro x hx
      rw [enqueue_mem, clearInbound_mem]
      exact memRead_memWriteList_other _ _ _ _ (by rw [length_zeros]; omega)
    · simp only [enqueue, clearInbound_metro]
    · simp only [enqueue, clearInbound_port]
  case bad =>
    intro n f up next read h
    change execMailboxTakeFrame s = _
    simp only [execMailboxTakeFrame, up, next, read, frameBad_clearInbound, frameBad_of h, if_true, Bool.not_true, Bool.false_eq_true,
      if_false, refuse_malformed]
    refine congrArg Host.Outcome.next ?_
    have ht : (ownHdr (clearInbound s n) { origin := 0, prio := n, tag := f.tag, target := f.target }).tag = f.tag := by
      unfold ownHdr
      split <;> rfl
    rw [ht, ownHdr_clearInbound]
  case replies =>
    intro n r up hn free far next
    have keep : (s.mail.replies.filter fun r => !(r.origin != 0 && r.prio == n)) = s.mail.replies :=
      List.filter_eq_self.2 fun x hx => by rw [Bool.not_eq_true']; simpa using List.filter_eq_nil_iff.1 far x hx
    have e : exec (.replyWrite n) s = .next
        { s with
          mem := memWriteList s.mem (0x500 + 256 * n) (replyBytes r)
          mail := { s.mail with replies := s.mail.replies.erase r, outFull := s.mail.outFull ||| BitVec.ofNat 4 (2 ^ n) }
          power := { s.power with lastReply := s.now } } := by
      change execReplyWrite n s = _
      simp only [execReplyWrite, up, far, keep, List.foldl_nil, List.isEmpty_nil, if_true, Bool.not_true, Bool.false_eq_true, if_false]
      rw [next]
      simp only [decide_eq_false (Nat.not_le.2 hn), free, Bool.or_self, Bool.false_eq_true, if_false]
    exact ⟨_, e, rfl, rfl, rfl, rfl, rfl, rfl, rfl⟩
  case closes => rfl
  case open_ =>
    intro a ha hh hc hw
    change execArbitrationWindowClose s = _
    simp only [execArbitrationWindowClose, ha, List.filter_cons, List.filter_nil, hc, hw, Option.isNone_none, Bool.and_false,
      Bool.false_eq_true, if_false, List.foldl_nil, Bool.true_or, if_true]
    rw [arb_self ha]
  case alone =>
    intro a ha hh hc hw
    change execArbitrationWindowClose s = _
    simp [execArbitrationWindowClose, ha, hc, hw, closeArb, hh, enqueue, upd]
  case loser =>
    intro a b hab ha hb ca cb wa wb l n
    have ne := hdr_ne_of_losesTo l
    have due : (s.mail.arb.filter fun x => x.closed.isNone && windowOver s x) = [a, b] := by simp [hab, ca, cb, wa, wb]
    have first := closeArb_loser hab ha l
    rw [refuse_conflict] at first
    generalize hu : closeArb s a = u at first
    have told : Told false _ u := first ▸ raise_told ..
    have arb : u.mail.arb = [{ a with held := false, closed := some s.now }, b] := by rw [told.mail]; rfl
    have wins : (u.mail.arb.any fun x => x.hdr != b.hdr && losesTo u b x) = false := by
      simp [arb, losesTo_closed told.chainAddr ca cb n]
    have second := closeArb_winner hb wins
    change execArbitrationWindowClose s = _
    simp only [execArbitrationWindowClose, due, List.foldl_cons, List.foldl_nil, hu, second, refuse_conflict]
    simp [arb, upd, Ne.symm ne, ← first, enqueue]

end Sys2Proof.Machine
end

section
/-! The power commands, the moves between power states, and the wakes (R440 to R458, R469 to R473). -/
namespace Sys2Proof.Machine

/-! How a mailbox command is run: what its meaning does once it is served. -/

/-- A served command does what its body does without it in the queue. -/
theorem run_served {s : State} {h : Hdr} {op : Nat} (g : served s h op) {body : State → State} {u : State} (e : body (dequeue s h op) = u) :
    (Host.Outcome.next (runCmd s h op body) : Host.Outcome State Fault Refusal) = .next u :=
  congrArg Host.Outcome.next ((runCmd_accepted s h op body g).trans e)

/-- A status of no malformed frame is the whole answer. -/
theorem refuse_answered (s : State) (h : Hdr) (op st : Nat) (n : st ≠ stFrameInvalid) :
    refuse (dequeue s h op) h op st = answeredCmd s h op st [] := refuse_plain _ h op st n

/-- Settles O17: each command reads or stores its fields and answers OK. -/
theorem powerSettings : Obligations.PowerSettings := by
  refine fun s => ⟨?identity, ?status, ?wake, ?monitor, ?thermal, ?readThermal, ?scrub, ?clocks⟩
  case identity => exact fun h g => run_served g rfl
  case status => exact fun h g => run_served g rfl
  case wake =>
    intro h m w c k p g hw
    have n : ¬(w ≠ 2 ∧ w ≠ 3) := fun c => hw.elim c.1 c.2
    exact run_served g (if_neg n)
  case monitor => exact fun h p o d g _ _ _ _ _ _ => run_served g rfl
  case thermal => exact fun h a b c d r g => run_served g rfl
  case readThermal => exact fun h g => run_served g rfl
  case scrub => exact fun h m g hm => run_served g (if_neg (Nat.not_lt.2 hm))
  case clocks => exact fun h c g hc => run_served g (if_neg (Nat.not_lt.2 hc))

/-! SET_POWER_STATE (R442, R472, R473). -/

/-- An order of a known state other than SHIP goes on without a proof. -/
theorem exec_setPowerState {s : State} {h : Hdr} {n sc : Nat} {x : PState} (g : served s h 0x0103) (hx : stateOf n = some x)
    (ns : x ≠ .ship) (hs : sc ≤ 1) (p : Option Proof) :
    exec (.setPowerState h n sc p) s = .next (powerOrder (dequeue s h 0x0103) h x sc) := by
  refine run_served g ?_
  simp only [if_neg (Nat.not_lt.2 hs), hx, if_neg ns]

/-- An order of another state, while nothing is under way and LBIST passed everywhere, is refused only without a wake source. -/
theorem powerOrder_idle {u : State} {h : Hdr} {x : PState} (hx : x ≠ u.power.state) (h1 : u.power.shutdown = none)
    (h2 : u.power.chainMove = none) (h3 : u.life.degraded = 0) :
    powerOrder u h x 0 = if x.dark ∧ u.nv.settings.wakeMask &&& 0x3C = 0 then refuse u h 0x0103 0x81
      else startOp u h 0x0103 fun s => doMove s (some h) x := by
  simp [powerOrder, hx, h1, h2, h3]

theorem stateOf_above {n : Nat} (h : 4 < n) : stateOf n = none := List.getElem?_eq_none h

/-- A die is found under its code whatever else of the dies changes. -/
theorem die?_isSome_of_map {s : State} {f : SegDie → SegDie} (hf : ∀ d, (f d).code = d.code) (c : Nat) :
    (State.die? { s with segs := s.segs.map f } c).isSome = (s.die? c).isSome := by
  simp only [State.die?, List.find?_map, Function.comp_def, hf, Option.isSome_map]

/-- Settles O18: the orders, the two steps of a shutdown, and the wake. -/
theorem powerMoves : Obligations.PowerMoves := by
  refine fun s => ⟨?present, ?awake, ?sleep, ?invalid, ?wakeNone, ?noProof, ?sequence, ?resume, ?wake⟩
  case present =>
    intro h n sc p g c hn ns hd hs
    rw [exec_setPowerState g hn ns hs p]
    have e : (dequeue s h 0x0103).power.shutdown.isNone = true := by simp [hd]
    simp only [powerOrder, dequeue_power, hd, Option.isNone_none, and_self, if_true, startOp_opens s h 0x0103 _ c]
  case awake =>
    intro h n x p g c hn hx hk h1 h2 h3
    have ns : x ≠ .ship := fun e => by simp [e, PState.dark] at hk
    rw [exec_setPowerState g hn ns (Nat.zero_le 1) p, powerOrder_idle (u := dequeue s h 0x0103) hx h1 h2 h3, if_neg (by simp [hk]), startOp_opens s h 0x0103 _ c, doMove,
      if_neg (by simp [hk])]
  case sleep =>
    intro h p g c hx hm h1 h2 h3
    rw [exec_setPowerState g (x := .sleep) rfl (by decide) (Nat.zero_le 1) p, powerOrder_idle (u := dequeue s h 0x0103) hx.symm h1 h2 h3, if_neg (fun k => hm k.2),
      startOp_opens s h 0x0103 _ c]
    rfl
  case invalid =>
    intro h n sc p g hn hs
    refine run_served g ?_
    simp only [if_neg (Nat.not_lt.2 hs), stateOf_above hn]
    exact refuse_answered s h 0x0103 0x80 (by decide)
  case wakeNone =>
    intro h p g hx hm h1 h2 h3
    rw [exec_setPowerState g (x := .sleep) rfl (by decide) (Nat.zero_le 1) p, powerOrder_idle (u := dequeue s h 0x0103) hx.symm h1 h2 h3, if_pos ⟨rfl, hm⟩]
    exact congrArg Host.Outcome.next (refuse_answered s h 0x0103 0x81 (by decide))
  case noProof =>
    intro h sc g hs
    refine run_served g ?_
    rw [if_neg (Nat.not_lt.2 hs)]
    exact refuse_answered s h 0x0103 stAuthFailed (by decide)
  case sequence =>
    intro env x u hx hd hl hu hul
    have codes : (shutdownSteps s x).segs.map SegDie.code = s.segs.map SegDie.code := (shutdownSteps_apart s x (.refl true s)).codes
    change execShutdownSequence env s = _
    simp only [execShutdownSequence, hx, hd, hl, Bool.not_true, Bool.or_self, Bool.false_eq_true, if_false, codes, ← hu, hul]
  case resume =>
    intro x quiet hx hl hq
    have e : (quiet.filter fun c =>
        (State.die? { s with segs := s.segs.map fun d => { d with lbist := false, statusAt := s.now } } c).isSome) = [] := by
      rw [← hq]
      exact List.filter_congr fun c _ => die?_isSome_of_map (s := s) (f := fun d => { d with lbist := false, statusAt := s.now }) (fun d => rfl) c
    change execLbistSupervisionResume quiet s = _
    simp only [execLbistSupervisionResume, hx, hl, e, Bool.not_true, Bool.false_eq_true, if_false, List.isEmpty_nil, if_true]
  case wake =>
    intro k hd hb hc hf hk
    have e : exec (.wake k) s = .next (wakeUp s k) := by
      change execWake k s = _
      simp only [execWake, hd, hb, hc, hf, Bool.or_self, Bool.false_and, Bool.false_eq_true, if_false, if_true]
    refine ⟨_, e, rfl, ?_⟩
    simp only [wakeUp, if_neg (Nat.ne_of_gt hk)]
    split <;> exact ⟨rfl, rfl, rfl, rfl, rfl, rfl⟩

end Sys2Proof.Machine
end

section
/-! Supply, clock, scrub and MONITOR events, and the temperature of C and of the segment dies (R41, R447 to R471, R534, R535). -/
namespace Sys2Proof.Machine

/-- A step of a scrub pass that is due and finds all its blocks good. -/
theorem scrubStep_clean {s : State} {x : Scrub} (hu : cUp s = true) (hx : s.power.scrub = some x)
    (hd : s.aon.scrubReturn.isSome = true ∨ x.stepAt + 10000 * msT ≤ s.now) :
    exec (.scrubStep [] []) s = .next
      (if 1024 ≤ x.done + 4 then scrubDone s { x with done := x.done + 4, stepAt := s.now }
       else { s with power := { s.power with scrub := some { x with done := x.done + 4, stepAt := s.now } } }) := by
  have due : (s.aon.scrubReturn.isNone && decide (s.now < x.stepAt + 10000 * msT)) = false := by
    rcases hd with hd | hd
    · rw [Option.isNone_eq_false_iff.2 hd, Bool.false_and]
    · rw [decide_eq_false (Nat.not_lt.2 hd), Bool.and_false]
  change execScrubStep [] [] s = _
  simp only [execScrubStep, hx, hu, due, Bool.not_true, Bool.or_self, Bool.false_eq_true, if_false, List.foldl_nil, List.length_nil,
    Nat.add_zero]

/-- Settles O19, event by event. -/
theorem supplyAndClockEvents : Obligations.SupplyAndClockEvents := by
  refine fun s => ⟨?low, ?brownOut, ?returns, ?unlock, ?lock, ?crystal, ?scrubNow, ?scrubRuns, ?step, ?lastStep, ?due, ?burst, ?ring, ?guard,
    ?studio⟩
  case low => exact fun v hu hv => congrArg Host.Outcome.next (if_pos ⟨hv, hu⟩)
  case brownOut =>
    intro v hd hv
    have e : exec (.vlvBrownOut v) s = .next (dropC (setVlv s v) true false) := congrArg Host.Outcome.next (if_pos hv)
    have hd' : ¬isDark (setVlv s v) = true := by rw [show isDark (setVlv s v) = isDark s from rfl, hd]; exact Bool.false_ne_true
    refine ⟨_, e, ?_⟩
    simp only [dropC, if_neg hd']
    exact ⟨Bool.or_true _, rfl, rfl, rfl, rfl, rfl, rfl⟩
  case returns =>
    intro v hv hb
    exact ⟨_, congrArg Host.Outcome.next (if_pos ⟨hv, hb⟩), rfl, rfl, rfl, rfl, rfl⟩
  case unlock =>
    intro k hu hl
    change execPllUnlock k s = _
    simp only [execPllUnlock, hu, hl, Bool.not_true, Bool.or_self, Bool.false_eq_true, if_false]
  case lock =>
    intro hu ht hr
    change execPllLock s = _
    simp only [execPllLock, hu, ht, hr, Bool.not_true, Bool.not_false, Bool.or_true, Bool.false_and, Bool.false_eq_true, if_false]
  case crystal =>
    intro hu hc
    have hu' : cUp { s with power := { s.power with crystal32 := false } } = true := hu
    change execClock32kFault s = _
    simp only [execClock32kFault, hc, hu', Bool.not_true, Bool.false_eq_true, if_false, if_true]
  case scrubNow =>
    intro h g c hn
    refine run_served g ?_
    rw [if_neg (by simp [hn]), startOp_opens s h 0x0109 _ c]
    rfl
  case scrubRuns =>
    intro h g hs
    exact run_served g ((if_pos hs).trans (refuse_answered s h 0x0109 0x82 (by decide)))
  case step =>
    intro x hu hx hd hl
    rw [scrubStep_clean hu hx hd, if_neg (Nat.not_le.2 hl)]
  case lastStep =>
    intro x hu hx hd hl
    rw [scrubStep_clean hu hx hd, if_pos hl]
  case due => exact fun hm hn hu hk ha => congrArg Host.Outcome.next (if_pos ⟨hm, by simp [hn], hu, hk, ha⟩)
  case burst => exact fun hm hu hb hp ht => congrArg Host.Outcome.next (if_pos ⟨hm, hu, by simp [hb], hp, ht⟩)
  case ring => exact fun l hm => congrArg Host.Outcome.next (if_pos hm)
  case guard =>
    intro k l d hd hm hc
    exact (onDie_fitted s k _ d hd).trans (congrArg Host.Outcome.next (if_neg fun c => c.elim (· hm) (Nat.not_lt.2 hc)))
  case studio =>
    exact fun hm ha hr hd hw hp ht => congrArg Host.Outcome.next (if_pos ⟨hm, by simp [ha], hr, hd, hw, hp, ht⟩)

/-! The sleep check (R450). -/

theorem endFree_told (s : State) (die j endc : Nat) : Told false s (endFree s die j endc) := (stopFree_told ..).trans (settle_told _)

@[simp] theorem askWake_now (s : State) (k : Nat) : (askWake s k).now = s.now := by unfold askWake; split <;> rfl

@[simp] theorem sleepRec_now (s : State) (die kind detail : Nat) : (sleepRec s die kind detail).now = s.now := rfl

@[simp] theorem endFree_now (s : State) (die j endc : Nat) : (endFree s die j endc).now = s.now := (endFree_told ..).now

@[simp] theorem sleepCell_now (die : Nat) (volts : List Int) (s : State) (k : Nat) : (sleepCell die volts s k).now = s.now := by
  unfold sleepCell
  split
  · rfl
  · dsimp only
    split <;> split <;> simp [apply_ite]

@[simp] theorem sleepGuard_now (diags : List Int) (die : Nat) (s : State) (j : Nat) : (sleepGuard diags die s j).now = s.now := by
  unfold sleepGuard
  split
  · rfl
  · split <;> simp

theorem foldl_now {α : Type} {f : State → α → State} (hf : ∀ s x, (f s x).now = s.now) (l : List α) (s : State) :
    (l.foldl f s).now = s.now := by
  induction l generalizing s with
  | nil => rfl
  | cons x l ih => rw [List.foldl_cons, ih, hf]

/-- What a sleep check has noted at a die. -/
def checkedAt (temp : Int) (t : Tick) (d : SegDie) : Prop := d.therm.temp = temp ∧ d.tempAt = some t ∧ d.checkAt = t

/-- A state whose die of a code has a property. -/
def dieHas (p : SegDie → Prop) (k : Nat) (s : State) : Prop := ∃ e, s.die? k = some e ∧ p e

/-- What is known of a die stays where its other fields change. -/
theorem dieHas_updDie {p : SegDie → Prop} {k : Nat} {s : State} (h : dieHas p k s) (c : Nat) {f : SegDie → SegDie}
    (hc : ∀ d, (f d).code = d.code) (hp : ∀ d, p d → p (f d)) : dieHas p k (s.updDie c f) := by
  obtain ⟨e, he, pe⟩ := h
  refine ⟨if e.code == c then f e else e, ?_, by split <;> simp_all⟩
  have g : ∀ d : SegDie, (if d.code == c then f d else d).code = d.code := fun d => by split <;> simp [hc]
  simp only [State.die?, State.updDie, upd, List.find?_map, Function.comp_def, g] at he ⊢
  rw [he]
  rfl

/-- Where the dies have the same codes, the same ones are found. -/
theorem die?_isSome_of_codes {s t : State} (h : t.segs.map (·.code) = s.segs.map (·.code)) (k : Nat) :
    (t.die? k).isSome = (s.die? k).isSome := by
  have g : ∀ u : State, (u.die? k).isSome = (u.segs.map (·.code)).any (· == k) := fun u => by
    rw [State.die?, List.any_map, Bool.eq_iff_iff, List.find?_isSome, List.any_eq_true]
    rfl
  rw [g, g, h]

theorem dieHas_sleepRecOnce {temp : Int} {t : Tick} {k : Nat} {s : State} (h : dieHas (checkedAt temp t) k s) (die kind detail : Nat) :
    dieHas (checkedAt temp t) k (sleepRecOnce s die kind detail) := by
  unfold sleepRecOnce
  split
  · exact h
  · exact dieHas_updDie h die (fun _ => rfl) fun _ p => p

theorem dieHas_askWake {p : SegDie → Prop} {k : Nat} {s : State} (h : dieHas p k s) (n : Nat) : dieHas p k (askWake s n) := by
  unfold askWake
  split
  · exact h
  · exact h

/-- A die that is there has the property that is written to it. -/
theorem dieHas_written {p : SegDie → Prop} {k : Nat} {s : State} (h : (s.die? k).isSome = true) {f : SegDie → SegDie}
    (hc : ∀ d, (f d).code = d.code) (hp : ∀ d, p (f d)) : dieHas p k (s.updDie k f) := by
  obtain ⟨e, he⟩ := Option.isSome_iff_exists.1 h
  have hk : (e.code == k) = true := List.find?_some (p := fun d : SegDie => d.code == k) he
  refine ⟨f e, ?_, hp e⟩
  have g : ∀ d : SegDie, (if d.code == k then f d else d).code = d.code := fun d => by split <;> simp [hc]
  simp only [State.die?, State.updDie, upd, List.find?_map, Function.comp_def, g] at he ⊢
  rw [he, Option.map_some, if_pos hk]

@[simp] theorem sleepRecOnce_now (s : State) (die kind detail : Nat) : (sleepRecOnce s die kind detail).now = s.now := by
  unfold sleepRecOnce
  split <;> rfl

/-- Settles O20, event by event; the sleep check keeps what it noted at its die. -/
theorem temperatureEvents : Obligations.TemperatureEvents := by
  refine fun s => ⟨?cool, ?hot, ?die, ?levelC, ?levelDie, ?restartDie, ?restartC, ?supplyLow, ?supplyReturn, ?coreC, ?coreDie, ?coreM, ?check⟩
  case cool =>
    intro x u hr hd due hu hc
    change execHousekeepingRound 0 x true true s = _
    simp only [execHousekeepingRound, if_true, hr, hd, due, Bool.not_true, Bool.or_self, Bool.false_eq_true, if_false, roundC, ← hu,
      if_neg (Int.not_le.2 hc)]
  case hot =>
    intro x u hr hd due hu hc
    change execHousekeepingRound 0 x true true s = _
    simp only [execHousekeepingRound, if_true, hr, hd, due, Bool.not_true, Bool.or_self, Bool.false_eq_true, if_false, roundC, ← hu,
      if_pos hc]
  case die =>
    intro k x a b d hd hk hp hu hl due
    refine (if_neg (Nat.ne_of_gt hk)).trans ((onDie_fitted s k _ d hd).trans ?_)
    simp only [hp, hu, hl, due, Bool.not_true, Bool.or_self, Bool.false_eq_true, if_false]
  case levelC =>
    intro n up hu hc
    change execThermalLevel 0 n up s = _
    simp only [execThermalLevel, if_true, hu, hc, Bool.and_self]
  case levelDie =>
    intro k n up d hd hk hu hc
    refine (if_neg (Nat.ne_of_gt hk)).trans ((onDie_fitted s k _ d hd).trans ?_)
    simp only [hu, hc, Bool.and_self, if_true]
  case restartDie =>
    intro k d hd hk hs hc hu
    have c : ((d.stopped || d.cutOff) && cooled s.now d.therm) = true := by
      rw [hc, Bool.and_true]
      exact Bool.or_eq_true_iff.2 hs
    refine (if_neg (Nat.ne_of_gt hk)).trans ((onDie_fitted s k _ d hd).trans ?_)
    rw [if_pos c]
    exact congrArg Host.Outcome.next (if_pos hu)
  case restartC =>
    intro hs hc
    have e : exec (.thermalRestart 0) s = .next (wakeUp (carry s 13 0xA6 (s.power.therm.temp % 65536).toNat) 10) := by
      change execThermalRestart 0 s = _
      simp only [execThermalRestart, if_true, hs, hc, Bool.and_self]
    exact ⟨_, e, rfl, rfl, rfl⟩
  case supplyLow =>
    intro k d hd hp
    exact (onDie_fitted s k _ d hd).trans (congrArg Host.Outcome.next (if_neg (by simp [hp])))
  case supplyReturn =>
    intro k d hd hp ht
    refine (onDie_fitted s k _ d hd).trans (congrArg Host.Outcome.next ((if_neg (by simp [hp])).trans ?_))
    rw [trimAgain, if_neg (by simp [ht])]
  case coreC =>
    intro hd
    exact congrArg Host.Outcome.next (if_neg (by simp [hd]))
  case coreDie =>
    intro k d hd hk ht
    have h1 : ¬(k = 1 ∧ s.part.hasM = true) := fun c => Nat.ne_of_gt hk c.1
    refine (if_neg (by omega)).trans ((if_neg h1).trans ((onDie_fitted s k _ d hd).trans (congrArg Host.Outcome.next ?_)))
    rw [trimAgain, if_neg (by simp [ht])]
  case coreM =>
    intro hm
    change execCoreSupplyReset 1 s = _
    simp only [execCoreSupplyReset, hm, Nat.one_ne_zero, if_false, and_self, if_true]
  case check =>
    intro k l x a b y d hd hm hp hc hn
    have nd : ¬(s.power.state ≠ .sleep ∨ d.unpowered = true ∨ s.now < d.checkAt + s.nv.settings.sleepChk * secT) := by
      simp [hm, hp, Nat.not_lt.2 hc]
    have e : exec (.sleepCheck k l ⟨x, a, b, y⟩) s = .next _ := (onDie_fitted s k _ d hd).trans (congrArg Host.Outcome.next (if_neg nd))
    refine ⟨_, e, ?noted, ((exec_apart _ s rfl).of _ e).metro rfl⟩
    case noted =>
      extract_lets s1 s2 s3 s4 s5 s6 s7
      have now2 : s2.now = s.now := (foldl_now (sleepGuard_now l k) _ _).trans (foldl_now (sleepCell_now k l) _ _)
      have now3 : s3.now = s.now := by unfold s3; split <;> simp [now2]
      have now4 : s4.now = s.now := by unfold s4; split <;> simp [now3]
      have apart2 : Apart true s s2 :=
        Apart.foldl _ (Apart.foldl _ (.refl _ _) fun u j h => sleepCell_apart k l u j h) fun u j h => sleepGuard_apart l k u j h
      have apart4 : Apart true s s4 :=
        have apart3 : Apart true s s3 := .ite apart2 (sleepRecOnce_apart _ _ _ _ apart2)
        .ite apart3 (sleepRecOnce_apart _ _ _ _ apart3)
      have found : (s4.die? k).isSome = true := by rw [die?_isSome_of_codes apart4.codes, hd, Option.isSome_some]
      have h5 : dieHas (checkedAt x s.now) k s5 :=
        dieHas_written found (fun _ => rfl) fun d => ⟨rfl, congrArg some now4, now4⟩
      have h6 : dieHas (checkedAt x s.now) k s6 := by
        unfold s6
        split
        · exact dieHas_sleepRecOnce h5 k 0xA7 _
        · exact h5
      have h7 : dieHas (checkedAt x s.now) k s7 := by rw [show s7 = s6 by simp only [s7, hn]]; exact h6
      split
      · exact dieHas_askWake h7 7
      · exact h7

end Sys2Proof.Machine
end

section
/-! Clappers, sweep ends and the schedule queue; the events of the converters (R95 to R136, R204, R205). -/
namespace Sys2Proof.Machine

/-- With no start that waits, a Clapper that starts a sweep leaves the sweeps as they are. -/
theorem beginSweeps_of_none {s : State} (h : s.sweep.startPending = none) : beginSweeps s = s := by
  rw [beginSweeps, h]

/-- With no start that waits, sweeps run or a burst does where a Clapper starts a sweep. -/
theorem runs_of_sweepsNow {s : State} {k : Nat} (h : sweepsNow s k = true) (hp : s.sweep.startPending = none) :
    (s.sweep.burst || s.sweep.running) = true := by
  simp only [sweepsNow, hp, Option.isSome_none, Bool.false_and, Bool.or_false, Bool.and_eq_true, Bool.or_eq_true] at h ⊢
  exact h.2.imp id And.left

/-- A Clapper that is due with no start that waits starts a sweep or is skipped. -/
theorem clapper_due {s : State} {k : Nat} {q : Sweep} (l : List DieMeas) (hd : dueClapper s = some (k, q))
    (hs : sweepsNow { s with sweep := q } k = true) (hp : q.startPending = none) :
    exec (.clapper l) s = .next (if 0 < q.claps ∧ k < q.lastClap + minPeriod { s with sweep := q } then skipClapper { s with sweep := q }
      else startSweep { s with sweep := q } k l) := by
  have hr := runs_of_sweepsNow hs hp
  change execClapper l s = _
  simp only [execClapper, hd, hs, beginSweeps_of_none (s := { s with sweep := q }) hp, hr, Bool.not_true, Bool.false_eq_true, if_false]

/-- Times that a package takes reach nothing but its sweeps and its records. -/
theorem takeTimes_told (s : State) (ts : List Nat) : Told false s (takeTimes s ts) :=
  .foldl ts (.refl s) fun u _ => .ite (raise_told u 0 2 0x02 _) (.plain rfl rfl rfl rfl rfl fun c => nomatch c)

/-- No frame is sent after a package alone, or one that is no head, has taken its times. -/
theorem takeTimes_unsent (s : State) (ts : List Nat) (h : s.chain.isHead = false ∨ s.chain.count ≤ 1) :
    ¬((takeTimes s ts).chain.isHead && decide (1 < (takeTimes s ts).chain.count)) = true := by
  have same := (takeTimes_told s ts).same
  rw [show (takeTimes s ts).chain.isHead = s.chain.isHead from congrArg (·.chain.isHead) same,
    show (takeTimes s ts).chain.count = s.chain.count from congrArg (·.chain.count) same]
  rcases h with h | h
  · rw [h, Bool.false_and]
    exact Bool.false_ne_true
  · rw [decide_eq_false (Nat.not_lt.2 h), Bool.and_false]
    exact Bool.false_ne_true

/-- Settles O23, event by event. -/
theorem clappers : Obligations.Clappers := by
  refine fun s => ⟨?edge, ?skip, ?start, ?plainEnd, ?boundary, ?sent, ?taken, ?silent⟩
  case edge =>
    intro up hu hs he hl hg
    change execClapPinEdge up s = _
    have hl' : leadsClap { s with sweep := { s.sweep with edgeAt := some s.now } } = false := hl
    have he' : edgeSelected { s with sweep := { s.sweep with edgeAt := some s.now } } up = true := he
    simp only [execClapPinEdge, hu, hg, Bool.not_true, Bool.or_self, Bool.false_eq_true, if_false, clapEdge, hl', he', Bool.false_and,
      hs, if_true, clapEvent, clapOf]
    exact congrArg Host.Outcome.next (if_neg fun c => absurd c.1 (by decide))
  case skip =>
    intro q k l hd hs hp hc hk
    rw [clapper_due l hd hs hp, if_pos ⟨hc, hk⟩]
  case start =>
    intro q k l hd hs hp hc
    rw [clapper_due l hd hs hp, if_neg (by omega)]
  case plainEnd =>
    intro hi ht
    change execSweepEnd s = _
    simp only [execSweepEnd, hi, Bool.not_true, Bool.false_eq_true, if_false]
    exact congrArg Host.Outcome.next (if_neg fun c => ht.elim c.1 (· c.2))
  case boundary =>
    rintro u hi rfl ht hz
    change execSweepEnd s = _
    simp only [execSweepEnd, hi, Bool.not_true, Bool.false_eq_true, if_false]
    exact congrArg Host.Outcome.next (if_pos ⟨ht, hz⟩)
  case sent =>
    intro q hu hq hn hs hh hc
    obtain ⟨x, r, rfl⟩ := List.exists_cons_of_ne_nil hn
    change execScheduleSend s = _
    simp only [execScheduleSend, hu, hq, hs, hh, decide_eq_true hc, Bool.and_self, Bool.not_true, Bool.false_eq_true, if_false, if_true]
    rfl
  case taken =>
    intro q hu hq hn hs hh
    obtain ⟨x, r, rfl⟩ := List.exists_cons_of_ne_nil hn
    change execScheduleSend s = _
    simp only [execScheduleSend, hu, hq, hs, Bool.not_true, Bool.false_eq_true, if_false, if_true]
    refine congrArg Host.Outcome.next (if_neg ?_)
    exact takeTimes_unsent _ _ hh
  case silent =>
    intro hs hw hq hu hl
    refine congrArg Host.Outcome.next (if_pos ?_)
    simp only [hq, hu, decide_eq_true hw, decide_eq_true hl, Bool.not_false, Bool.and_true, Bool.or_eq_true, beq_iff_eq, hs]

/-- A state with two dies of one code, which have seen their internal reference for different times. -/
def twinDies : State :=
  { State.reset with segs :=
      [SegDie.start 2 24 Trim.none [] 0, { SegDie.start 2 24 Trim.none [] 0 with refSince := [some 5, none, none] }] }

/-- Refutes O24: the model gives every die of the code the time of the first one, the statement leaves each its own, and they differ where
two dies have one code. -/
theorem not_converterEvents : ¬ Obligations.ConverterEvents := by
  intro h
  obtain ⟨-, -, -, -, internal, -⟩ := h twinDies
  have e := internal 2 3000000 (SegDie.start 2 24 Trim.none [] 0) rfl rfl rfl rfl
  change execRefokChange 2 0 3000000 twinDies = _ at e
  rw [execRefokChange, onDie_fitted twinDies 2 _ (SegDie.start 2 24 Trim.none [] 0) rfl] at e
  exact absurd (congrArg (fun t : State => t.segs.map fun d => nth d.refSince 0 none) (Host.Outcome.next.inj e)) (by decide)

end Sys2Proof.Machine
end

section
/-! The commands of the sense path (R218 to R229) and the events of the Dollies and the planner (R239 to R260). -/
namespace Sys2Proof.Machine

/-- In RUN, a PROBE_TAP of a fitted die goes on to the checks of its tap. -/
theorem probeTap_fitted {s : State} {h : Hdr} {k j : Nat} {d : SegDie} {u : State} (g : served s h 0x0B02) (hr : s.power.state = .run)
    (hd : s.die? k = some d)
    (e : (if !s.sense.stepped then refuse (dequeue s h 0x0B02) h 0x0B02 0x80
        else if tapInUse d j then refuse (dequeue s h 0x0B02) h 0x0B02 0x82
        else if d.probeWait.isSome ∨ d.probe.any fun p => p.hdr.isSome then refuse (dequeue s h 0x0B02) h 0x0B02 stBusy
        else (dequeue s h 0x0B02).updDie k fun d => { d with probeWait := some (h, j, 0) }) = u) :
    exec (.probeTap h k j) s = .next u := by
  refine run_served g ((if_neg (not_not_intro hr)).trans ?_)
  rw [show (dequeue s h 0x0B02).die? k = some d from hd]
  exact e

/-- Settles O28, command by command. -/
theorem senseCommands : Obligations.SenseCommands := by
  refine fun s => ⟨?probeState, ?probeDie, ?probeMode, ?probeUsed, ?probe, ?status, ?matrixState, ?leakState, ?matrix, ?leak, ?thermistors⟩
  case probeState =>
    intro h k j g hr _
    exact run_served g ((if_pos hr).trans (refuse_answered s h _ _ (by decide)))
  case probeDie =>
    intro h k j g hr hd _
    refine run_served g ((if_neg (not_not_intro hr)).trans ?_)
    rw [show (dequeue s h 0x0B02).die? k = none from hd]
    exact refuse_answered s h _ _ (by decide)
  case probeMode =>
    intro h k j d g hr hd hm _
    exact probeTap_fitted g hr hd ((if_pos (by rw [hm]; rfl)).trans (refuse_answered s h _ _ (by decide)))
  case probeUsed =>
    intro h k j d g hr hd hm hu _
    refine probeTap_fitted g hr hd ?_
    rw [if_neg (by simp [hm]), if_pos hu]
    exact refuse_answered s h _ _ (by decide)
  case probe =>
    intro h k j d g hr hd hm hu hw hp _
    refine probeTap_fitted g hr hd ?_
    rw [if_neg (by simp [hm]), if_neg (by simp [hu]), if_neg (by simp [hw, hp])]
  case status => exact fun h g => run_served g rfl
  case matrixState =>
    intro h m g hr
    exact run_served g ((if_pos hr).trans (refuse_answered s h _ _ (by decide)))
  case leakState =>
    intro h m l v g hr _ _
    exact run_served g ((if_pos hr).trans (refuse_answered s h _ _ (by decide)))
  case matrix =>
    intro h m g c hr ha ht
    have ha' : ¬maskAbsent (dequeue s h 0x0B04) m = true := by simp [ha]
    have ht' : ¬testsRun (dequeue s h 0x0B04) m = true := by simp [ht]
    refine run_served g ((if_neg (not_not_intro hr)).trans ?_)
    rw [if_neg ha', if_neg ht', startOp_opens s h _ _ c]
  case leak =>
    intro h m l v g c hr _ _ ha ht
    have ha' : ¬maskAbsent (dequeue s h 0x0B05) m = true := by simp [ha]
    have ht' : ¬testsRun (dequeue s h 0x0B05) m = true := by simp [ht]
    refine run_served g ((if_neg (not_not_intro hr)).trans ?_)
    rw [if_neg ha', if_neg ht', startOp_opens s h _ _ c]
    rfl
  case thermistors =>
    intro h k m o v d g hd _ _ _
    refine run_served g ?_
    rw [show (dequeue s h 0x0B06).die? k = some d from hd]
    rfl

/-- A die is found under its own code. -/
theorem die?_code {s : State} {k : Nat} {d : SegDie} (h : s.die? k = some d) : d.code = k :=
  eq_of_beq (List.find?_some (p := fun d : SegDie => d.code == k) h)

/-- The running transfer of a Dolly is found. -/
theorem runs?_of {d : SegDie} {j : Nat} {y : Dolly} {p : DollyTransfer} (hj : d.dolly? j = some y) (ht : y.transfer = some p) :
    runs? d j = some p := by
  rw [runs?, hj, Option.bind_some, ht]

/-- A fault of a running Dolly is recorded with its cell. -/
theorem dollyFault_runs {s : State} {k j : Nat} {d : SegDie} {p : DollyTransfer} (hd : s.die? k = some d) (ht : runs? d j = some p)
    (kind : Nat) : dollyFault s d j kind = finishClear (dieFault s k (2 + j) kind (256 * j + p.cell)) := by
  rw [dollyFault, ht, die?_code hd]

/-- Settles O31, event by event. -/
theorem dollyEvents : Obligations.DollyEvents := by
  refine fun s => ⟨?late, ?oldest, ?unplanned, ?item, ?renewal, ?noItem, ?leaseOver, ?leaseRuns, ?charge, ?duration, ?current, ?regulation,
    ?noTransfer, ?span, ?spanGood, ?driver, ?clean, ?unclean, ?resume⟩
  case late =>
    intro g r hr hh hg hp hl
    have c : ¬(s.power.state ≠ .run ∨ s.balance.hostMode = true ∨ s.balance.goal = 0 ∨ (!s.balance.planned) = true) := by
      simp [hr, hh, hg, hp]
    refine congrArg Host.Outcome.next ((if_neg c).trans ?_)
    rw [hl]
  case oldest =>
    intro g hr hh hg hp hl hf
    have c : ¬(s.power.state ≠ .run ∨ s.balance.hostMode = true ∨ s.balance.goal = 0 ∨ (!s.balance.planned) = true) := by
      simp [hr, hh, hg, hp]
    refine congrArg Host.Outcome.next ((if_neg c).trans ?_)
    simp only [hl, hf]
    rfl
  case unplanned =>
    intro c
    refine congrArg Host.Outcome.next (if_pos ?_)
    rcases c with c | c | c | c <;> simp [c]
  case item =>
    intro k j d y i hd hj hr hp hm hf
    have c : ¬(s.power.state ≠ .run ∨ (!s.balance.planned) = true ∨ (i.mode ≠ 0 ∧ dollyHeld s d j = true)) := by
      rcases hm with hm | hm <;> simp [hr, hp, hm]
    refine (onDie_fitted s k _ d hd).trans (congrArg Host.Outcome.next ?_)
    simp only [hf, hj]
    exact if_neg c
  case renewal =>
    intro k j d y i p hd hj ht hr hp hh hf hm hc hl hz
    have c : ¬(s.power.state ≠ .run ∨ (!s.balance.planned) = true ∨ (i.mode ≠ 0 ∧ dollyHeld s d j = true)) := by simp [hr, hp, hh]
    refine (onDie_fitted s k _ d hd).trans (congrArg Host.Outcome.next ?_)
    simp only [hf, hj]
    rw [if_neg c]
    simp only [applyItem, ht, if_neg hz, if_pos (And.intro hl (And.intro hm.symm hc.symm)), die?_code hd, Option.map_some, Option.getD_some]
    rfl
  case noItem =>
    intro k j d hd hf
    refine (onDie_fitted s k _ d hd).trans (congrArg Host.Outcome.next ?_)
    simp only [hf]
  case leaseOver =>
    intro k j v w d y p hd hj ht hl he
    refine (onDie_fitted s k _ d hd).trans (congrArg Host.Outcome.next ?_)
    simp only [runs?_of hj ht]
    exact if_pos ⟨hl, he⟩
  case leaseRuns =>
    intro k j v w d y p hd hj ht he
    refine (onDie_fitted s k _ d hd).trans (congrArg Host.Outcome.next ?_)
    simp only [runs?_of hj ht]
    exact if_neg fun c => Nat.not_le.2 he c.2
  case charge =>
    intro k j v w d y p hd hj ht hh hc hq hv
    refine (onDie_fitted s k _ d hd).trans (congrArg Host.Outcome.next ?_)
    simp only [runs?_of hj ht]
    rw [if_neg (by simp [hh, hc]), if_pos ⟨hq, hv⟩]
  case duration =>
    intro k j v w d y p hd hj ht hh hc hq hl he
    refine (onDie_fitted s k _ d hd).trans (congrArg Host.Outcome.next ?_)
    simp only [runs?_of hj ht]
    rw [if_neg (by simp [hh, hc]), if_neg fun c => c.1 hq, if_pos ⟨by simp [hl], he⟩]
  case current =>
    intro k j d y p hd hj ht
    exact (onDie_fitted s k _ d hd).trans (congrArg Host.Outcome.next (dollyFault_runs hd (runs?_of hj ht) _))
  case regulation =>
    intro k j d y p hd hj ht
    exact (onDie_fitted s k _ d hd).trans (congrArg Host.Outcome.next (dollyFault_runs hd (runs?_of hj ht) _))
  case noTransfer =>
    intro k j d y p hd hj ht
    exact (onDie_fitted s k _ d hd).trans (congrArg Host.Outcome.next (dollyFault_runs hd (runs?_of hj ht) _))
  case span =>
    intro k j d y p mv hd hj ht ho
    refine (onDie_fitted s k _ d hd).trans (congrArg Host.Outcome.next ?_)
    simp only [hj, Option.map_some, Option.getD_some, ho, if_true]
    exact dollyFault_runs hd (runs?_of hj ht) _
  case spanGood =>
    intro k j d y p mv hd hj ht ho
    refine (onDie_fitted s k _ d hd).trans (congrArg Host.Outcome.next ?_)
    simp only [hj, Option.map_some, Option.getD_some, ho, Bool.false_eq_true, if_false]
  case driver =>
    intro k d hd hp hs ha
    refine (onDie_fitted s k _ d hd).trans (congrArg Host.Outcome.next (if_neg ?_))
    simp only [hp, hs, ha, Bool.or_self, Bool.false_eq_true, not_false_eq_true]
  case clean =>
    intro k j d y p hd hj ht hc he
    refine (onDie_fitted s k _ d hd).trans (congrArg Host.Outcome.next ?_)
    simp only [runs?_of hj ht, Option.any_some, hc, decide_eq_true he, Bool.and_self, if_true]
  case unclean =>
    intro k j d y p hd hj ht hc he
    refine (onDie_fitted s k _ d hd).trans (congrArg Host.Outcome.next ?_)
    simp only [runs?_of hj ht, Option.any_some, hc, decide_eq_true he, Bool.and_self, if_true, Bool.false_eq_true, if_false]
  case resume =>
    intro k a d hd ha ht
    refine (onDie_fitted s k _ d hd).trans (congrArg Host.Outcome.next (if_pos ?_))
    rw [ha, Option.any_some, decide_eq_true ht]

end Sys2Proof.Machine
end

section
/-! The commands and events of the impedance engine (R262 to R288). -/
namespace Sys2Proof.Machine

theorem noSession_isSome {s : State} (h : s.imp.run = none) : ¬s.imp.run.isSome = true := by rw [h]; exact Bool.false_ne_true

theorem session_isSome {s : State} (h : s.imp.run ≠ none) : s.imp.run.isSome = true := Option.isSome_iff_ne_none.2 h

/-- A DEFINE_SESSION that finds no session and its source, its die and its calibration goes on to its frequencies. -/
theorem defineSession_sourced {s : State} {h : Hdr} {x t m a k i v c : Nat} {fs : List Nat} {u : State} (g : served s h 0x0601)
    (hr : s.imp.run = none) (h0 : ¬(x = 0 ∧ sourceThere s = false)) (h1 : ¬(x = 1 ∧ (s.die? a).isNone = true))
    (h2 : ¬(x = 1 ∧ currentCal s a k = false))
    (e : (if fs.any (freqBad s x) || (decide (x = 1) && auxSlow s a k) then refuse (dequeue s h 0x0601) h 0x0601 0x81
        else if s.segs.all fun d => (dieCells s c d).isEmpty then refuse (dequeue s h 0x0601) h 0x0601 0x87
        else if 1200000 * (nominalFrac t m fs).2 < roundsOf s x c * (nominalFrac t m fs).1 then refuse (dequeue s h 0x0601) h 0x0601 0x80
        else answeredCmd { s with imp := { s.imp with lastNumber := (s.imp.lastNumber + 1) % 65536, next := 0, points := [], def_ := some { number := (s.imp.lastNumber + 1) % 65536, source := x, settle := t, nblocks := m, auxDie := a, auxIn := k, iamp := i, imin := v, cells := c, freqs := fs, rounds := roundsOf s x c, nominal := (roundsOf s x c * (nominalFrac t m fs).1 + (nominalFrac t m fs).2 - 1) / (nominalFrac t m fs).2 } } } h 0x0601 stOk
          (le 2 ((s.imp.lastNumber + 1) % 65536) ++ le 1 (roundsOf s x c) ++ [0] ++ le 2 (roundsOf s x c * fs.length) ++ zeros 2 ++
            le 4 ((roundsOf s x c * (nominalFrac t m fs).1 + (nominalFrac t m fs).2 - 1) / (nominalFrac t m fs).2))) = u) :
    exec (.defineSession h x t m a k i v c fs) s = .next u := by
  refine run_served g ((if_neg (noSession_isSome hr)).trans ?_)
  rw [if_neg (by simpa using h0), if_neg (show ¬(x = 1 ∧ ((dequeue s h 0x0601).die? a).isNone = true) from h1), if_neg (by simpa using h2)]
  exact e

/-- Settles O33, command by command. -/
theorem impedanceCommands : Obligations.ImpedanceCommands := by
  refine fun s => ⟨?busy, ?noSource, ?noDie, ?noCal, ?freq, ?noCells, ?long, ?define, ?startState, ?startBusy, ?startNone, ?startBeyond, ?start,
    ?statusNone, ?statusIdle, ?statusRuns, ?readNone, ?readEmpty, ?read, ?coeffs, ?coeffsUnmapped, ?orderState, ?orderMode, ?order⟩
  case busy =>
    intro h x t m a k i v u fs g _ _ _ _ _ _ _ _ _ _ _ _ hr
    exact run_served g ((if_pos (session_isSome hr)).trans (refuse_answered s h _ _ (by decide)))
  case noSource =>
    intro h x t m a k i v u fs g _ _ _ _ _ _ _ _ _ _ _ _ hr hx hs
    refine run_served g ((if_neg (noSession_isSome hr)).trans ((if_pos ?_).trans (refuse_answered s h _ _ (by decide))))
    simp [hx, hs]
  case noDie =>
    intro h x t m a k i v u fs g _ _ _ _ _ _ _ _ _ _ _ _ hr hx hd
    refine run_served g ((if_neg (noSession_isSome hr)).trans ((if_neg ?_).trans ((if_pos ⟨hx, hd⟩).trans (refuse_answered s h _ _ (by decide)))))
    simp [hx]
  case noCal =>
    intro h x t m a k i v u fs g _ _ _ _ _ _ _ _ _ _ _ _ hr hx hd hc
    refine run_served g ((if_neg (noSession_isSome hr)).trans ((if_neg ?_).trans ((if_neg hd).trans ((if_pos ?_).trans
      (refuse_answered s h _ _ (by decide))))))
    · simp [hx]
    · simp [hx, hc]
  case freq =>
    intro h x t m a k i v u fs g _ _ _ _ _ _ _ _ _ _ _ _ hr h0 h1 h2 hf
    exact defineSession_sourced g hr h0 h1 h2 ((if_pos hf).trans (refuse_answered s h _ _ (by decide)))
  case noCells =>
    intro h x t m a k i v u fs g _ _ _ _ _ _ _ _ _ _ _ _ hr h0 h1 h2 hf hc
    refine defineSession_sourced g hr h0 h1 h2 ?_
    rw [hf, if_neg Bool.false_ne_true, if_pos hc]
    exact refuse_answered s h _ _ (by decide)
  case long =>
    intro h x t m a k i v u fs g _ _ _ _ _ _ _ _ _ _ _ _ hr h0 h1 h2 hf hc hl
    refine defineSession_sourced g hr h0 h1 h2 ?_
    rw [hf, hc, if_neg Bool.false_ne_true, if_neg Bool.false_ne_true, if_pos hl]
    exact refuse_answered s h _ _ (by decide)
  case define =>
    intro h x t m a k i v u fs g _ _ _ _ _ _ _ _ _ _ _ _ hr h0 h1 h2 hf hc hl
    refine defineSession_sourced g hr h0 h1 h2 ?_
    rw [hf, hc, if_neg Bool.false_ne_true, if_neg Bool.false_ne_true, if_neg (Nat.not_lt.2 hl)]
  case startState =>
    intro h n g hs
    exact run_served g ((if_pos hs).trans (refuse_answered s h _ _ (by decide)))
  case startBusy =>
    intro h n g hr hm hn
    refine run_served g ((if_neg ?_).trans ((if_pos (session_isSome hn)).trans (refuse_answered s h _ _ (by decide))))
    simp [hr, hm]
  case startNone =>
    intro h n g hr hm hn hd
    refine run_served g ((if_neg (by simp [hr, hm])).trans ((if_neg (noSession_isSome hn)).trans ?_))
    simp only [show (dequeue s h 0x0602).imp.def_ = none from hd]
    exact refuse_answered s h _ _ (by decide)
  case startBeyond =>
    intro h n f g hr hm hn hd hp
    refine run_served g ((if_neg (by simp [hr, hm])).trans ((if_neg (noSession_isSome hn)).trans ?_))
    simp only [show (dequeue s h 0x0602).imp.def_ = some f from hd]
    exact (if_pos hp).trans (refuse_answered s h _ _ (by decide))
  case start =>
    intro h n f g c hr hm hn hd hp
    refine run_served g ((if_neg (by simp [hr, hm])).trans ((if_neg (noSession_isSome hn)).trans ?_))
    simp only [show (dequeue s h 0x0602).imp.def_ = some f from hd]
    rw [if_neg (Nat.not_le.2 hp), startOp_opens s h _ _ c]
    rfl
  case statusNone =>
    intro h g hd
    refine run_served g ?_
    simp only [show (dequeue s h 0x0603).imp.def_ = none from hd]
    rfl
  case statusIdle =>
    intro h f g hd hr
    refine run_served g ?_
    simp only [show (dequeue s h 0x0603).imp.def_ = some f from hd, show (dequeue s h 0x0603).imp.run = none from hr]
    rfl
  case statusRuns =>
    intro h f r g hd hr
    refine run_served g ?_
    simp only [show (dequeue s h 0x0603).imp.def_ = some f from hd, show (dequeue s h 0x0603).imp.run = some r from hr]
    rfl
  case readNone =>
    intro h n e f g hd
    refine run_served g ?_
    rcases hd with hd | ⟨hd, hp⟩
    · simp only [show (dequeue s h 0x0604).imp.def_ = none from hd]
      exact refuse_answered s h _ _ (by decide)
    · simp only [show (dequeue s h 0x0604).imp.def_ = some f from hd]
      exact (if_pos hp).trans (refuse_answered s h _ _ (by decide))
  case readEmpty =>
    intro h n e f g c hd hp hl
    refine run_served g ?_
    simp only [show (dequeue s h 0x0604).imp.def_ = some f from hd]
    rw [if_neg (Nat.not_le.2 hp), startOp_opens s h _ _ c, show (openedCmd s h 0x0604).imp.points = s.imp.points from rfl, hl]
  case read =>
    intro h n e f g c hd hp hl
    refine run_served g ?_
    simp only [show (dequeue s h 0x0604).imp.def_ = some f from hd]
    rw [if_neg (Nat.not_le.2 hp), startOp_opens s h _ _ c, show (openedCmd s h 0x0604).imp.points = s.imp.points from rfl]
    split
    · next he => exact absurd he hl
    · rfl
  case coeffs =>
    intro h n e l g _ _ hm
    refine run_served g ((if_neg ?_).trans rfl)
    rw [rangeUnmapped_of_dequeue, hm]
    exact Bool.false_ne_true
  case coeffsUnmapped =>
    intro h n e l g _ _ hm
    exact run_served g ((if_pos ((rangeUnmapped_of_dequeue ..).trans hm)).trans (refuse_answered s h _ _ (by decide)))
  case orderState =>
    intro h k j x n i v u g hr _ _
    exact run_served g ((if_pos hr).trans (refuse_answered s h _ _ (by decide)))
  case orderMode =>
    intro h k j x n i v u d g hr hd hm _ _
    refine run_served g ((if_neg (not_not_intro hr)).trans ?_)
    simp only [show (dequeue s h 0x0607).die? k = some d from hd]
    exact (if_pos (by simp [hm])).trans (refuse_answered s h _ _ (by decide))
  case order =>
    intro h k j x n i v u d y g c hr hd hm hj ho _ _
    refine run_served g ((if_neg (not_not_intro hr)).trans ?_)
    simp only [show (dequeue s h 0x0607).die? k = some d from hd, hj, orderBlock_of_dequeue, ho, Option.isSome_none,
      Bool.false_eq_true, if_false]
    rw [if_neg (by simp [hm]), startOp_opens s h _ _ c]
    rfl

/-- A session that has ended runs no more. -/
theorem endSession_run (s : State) (n : Nat) : (endSession s n).imp.run = none := by
  unfold endSession
  split
  · assumption
  · next r hr =>
    extract_lets s1 s2 s3 s4 k
    have h4 : s4.imp.run = none := by
      unfold s4
      split
      · exact (raise_told ..).impRun
      · rfl
    split
    · exact h4
    · exact h4

/-- A block without a session changes nothing. -/
theorem lockinBlock_idle {s : State} (l : List SenseRun) (h : (checkRef s).imp.run = none) :
    exec (.lockinBlock l) s = .next (checkRef s) := by
  change execLockinBlock l s = _
  simp only [execLockinBlock, h]

/-- While the current reference is there, a block acts on the session that runs. -/
theorem checkRef_there {s : State} {f : ImpDef} {r : ImpRun} (hr : s.imp.run = some r) (hd : s.imp.def_ = some f)
    (hl : refLost s f = none) : checkRef s = s := by
  simp only [checkRef, hr, hd, hl]

/-- Settles O34, event by event. -/
theorem impedanceEvents : Obligations.ImpedanceEvents := by
  refine fun s => ⟨?idle, ?lost, ?aborted, ?undecided, ?goesOn, ?complete, ?ended, ?running, ?noOrder, ?lastRecord, ?nextRecord, ?noRoom⟩
  case idle =>
    intro l hr
    have e : checkRef s = s := by simp only [checkRef, hr]
    exact (lockinBlock_idle l (e.symm ▸ hr)).trans (congrArg Host.Outcome.next e)
  case lost =>
    intro l f r x hr hd hl
    have e : checkRef s = endSession (raise s 0 18 0x43 x) 6 := by simp only [checkRef, hr, hd, hl]
    exact (lockinBlock_idle l (e ▸ endSession_run _ 6)).trans (congrArg Host.Outcome.next e)
  case aborted =>
    intro l f r hr hd hl hs
    change execLockinBlock l s = _
    simp only [execLockinBlock, checkRef_there hr hd hl, hr, hd, hs, if_true]
  case undecided =>
    intro l f r hr hd hl hs hw
    change execLockinBlock l s = _
    simp only [execLockinBlock, checkRef_there hr hd hl, hr, hd, hs, hw, Bool.not_false, Bool.false_eq_true, if_false, if_true]
  case goesOn =>
    rintro l f r q p hr hd hl hs hw rfl rfl hg ht
    change execLockinBlock l s = _
    simp only [execLockinBlock, checkRef_there hr hd hl, hr, hd, hs, hw, Bool.not_true, Bool.false_eq_true, if_false]
    exact congrArg Host.Outcome.next (if_neg (by simp_all))
  case complete =>
    rintro l f r q p hr hd hl hs hw rfl rfl hg
    change execLockinBlock l s = _
    simp only [execLockinBlock, checkRef_there hr hd hl, hr, hd, hs, hw, Bool.not_true, Bool.false_eq_true, if_false]
    exact congrArg Host.Outcome.next (if_pos (Bool.or_eq_true_iff.2 (hg.imp id decide_eq_true)))
  case ended =>
    intro k j m p d o hd ho hr
    refine (onDie_fitted s k _ d hd).trans (congrArg Host.Outcome.next ?_)
    simp only [ho, hr, Bool.false_eq_true, if_false]
  case running =>
    intro k j m p d o hd ho hr
    refine (onDie_fitted s k _ d hd).trans (congrArg Host.Outcome.next ?_)
    simp only [ho, hr, if_true]
  case noOrder =>
    intro k j m p d hd ho
    refine (onDie_fitted s k _ d hd).trans (congrArg Host.Outcome.next ?_)
    simp only [ho]
  case lastRecord =>
    intro r l x hl hx hr
    change execPointReadbackWrite s = _
    simp only [execPointReadbackWrite, hl, hx, hr, Bool.not_true, Bool.false_eq_true, if_false, List.isEmpty_nil, if_true]
  case nextRecord =>
    intro r l x z hl hx hz hr
    change execPointReadbackWrite s = _
    simp only [execPointReadbackWrite, hl, hx, hr, Bool.not_true, Bool.false_eq_true, if_false, List.isEmpty_eq_false_iff.2 hz]
  case noRoom =>
    intro r l x z hl hx hr
    change execPointReadbackWrite s = _
    simp only [execPointReadbackWrite, hl, hx, hr, Bool.not_false, if_true]

end Sys2Proof.Machine
end

section
/-! The commands of class 0x07 (R304 to R330) and the messages of the in-package ring (R42, R290 to R293). -/
namespace Sys2Proof.Machine

theorem notPrimary {s : State} (h : primaryHead s = false) : (!primaryHead s) = true := by rw [h]; rfl

theorem isPrimary {s : State} (h : primaryHead s = true) : ¬(!primaryHead s) = true := by rw [h]; exact Bool.false_ne_true

/-- An ENUMERATE of the primary head with a valid count goes on to the sweeps. -/
theorem enumerate_primary {s : State} {h : Hdr} {e : Nat} {u : State} (g : served s h 0x0701) (he : e ≠ 1) (hl : e ≤ 32)
    (hp : primaryHead s = true)
    (k : (if anySweeps s then refuse (dequeue s h 0x0701) h 0x0701 0x81
        else if s.chain.enumerating.isSome then refuse (dequeue s h 0x0701) h 0x0701 stBusy
        else startOp (dequeue s h 0x0701) h 0x0701 fun s =>
          emitCopy (stepFrameSeq { s with chain := { s.chain with enumerating := some (h, e, s.now) } } 0x0B) 0 0x0B 0xFF 1 (nextFrameSeq s 0x0B)
            (enumBytes s.chain.chainId 2 e)) = u) :
    exec (.enumerate h e) s = .next u :=
  run_served g ((if_neg fun c => c.elim he (Nat.not_lt.2 hl)).trans ((if_neg (isPrimary hp)).trans k))

/-- A SET_TIMEBASE of the primary head with valid fields goes on to the sweeps. -/
theorem setTimebase_primary {s : State} {h : Hdr} {r f : Nat} {u : State} (g : served s h 0x0704) (hr : r ≤ 1) (h1 : 16000 ≤ f)
    (h2 : f ≤ 40000) (hp : primaryHead s = true)
    (k : (if anySweeps s then refuse (dequeue s h 0x0704) h 0x0704 0x81
        else if s.chain.timebaseOp.isSome then refuse (dequeue s h 0x0704) h 0x0704 stBusy
        else startOp (dequeue s h 0x0704) h 0x0704 fun s =>
          { s with chain := { s.chain with refClkin := r == 1, freq := f, timebaseOp := some h }, power := { s.power with pllLocked := false } }) = u) :
    exec (.setTimebase h r f) s = .next u := by
  refine run_served g ((if_neg ?_).trans ((if_neg (isPrimary hp)).trans k))
  simp [outside, Nat.not_lt.2 hr, Nat.not_lt.2 h1, Nat.not_lt.2 h2]

/-- A SET_SERVICE with a valid mask goes on to the dies it names. -/
theorem setService_valid {s : State} {h : Hdr} {o m : Nat} {u : State} (g : served s h 0x0708) (ho : o ≤ 1) (hm : m % 4 = 0)
    (k : (if maskUnfitted s m then refuse (dequeue s h 0x0708) h 0x0708 stNotFitted
        else if o = 0 ∧ m ≠ 0 ∧ leavesNone s m then refuse (dequeue s h 0x0708) h 0x0708 stRejected
        else startOp (dequeue s h 0x0708) h 0x0708 fun s =>
          { s with chain := { s.chain with services := s.chain.services ++ [(h, o, m, s.now)] } }) = u) :
    exec (.setService h o m) s = .next u :=
  run_served g ((if_neg fun c => c.elim (Nat.not_lt.2 ho) (· hm)).trans k)

theorem newKey_keyGen {s : State} (h : keyGate s = true) : (newKey s).radio.keyGen = (s.radio.keyGen + 1) % 2 ^ 32 := by
  rw [newKey, h]
  rfl

/-- Settles O35, command by command. -/
theorem linkCommands : Obligations.LinkCommands := by
  refine fun s => ⟨?enumNotPrimary, ?enumSweeps, ?enumBusy, ?enum, ?enumLate, ?enumWaits, ?map, ?status, ?baseNotPrimary, ?baseSweeps, ?baseBusy,
    ?base, ?placeRadio, ?placeA, ?placeB, ?radio, ?rekeyNotPrimary, ?rekeyGate, ?rekey, ?serviceNotFitted, ?serviceNone, ?service, ?radioStatus,
    ?unlocked, ?locked⟩
  case enumNotPrimary =>
    intro h e g he hl hp
    exact run_served g ((if_neg fun c => c.elim he (Nat.not_lt.2 hl)).trans ((if_pos (notPrimary hp)).trans (refuse_answered s h _ _ (by decide))))
  case enumSweeps =>
    intro h e g he hl hp hs
    exact enumerate_primary g he hl hp ((if_pos hs).trans (refuse_answered s h _ _ (by decide)))
  case enumBusy =>
    intro h e g he hl hp hs hb
    refine enumerate_primary g he hl hp ?_
    rw [hs, if_neg Bool.false_ne_true, if_pos (Option.isSome_iff_ne_none.2 hb)]
    exact refuse_answered s h _ _ (by decide)
  case enum =>
    intro h e g c he hl hp hs hb
    refine enumerate_primary g he hl hp ?_
    rw [hs, hb, if_neg Bool.false_ne_true, Option.isSome_none, if_neg Bool.false_ne_true, startOp_opens s h _ _ c]
    rfl
  case enumLate =>
    intro h e k he hk
    change execEnumerationTimeout s = _
    simp only [execEnumerationTimeout, he, if_pos hk]
  case enumWaits =>
    intro hw
    change execEnumerationTimeout s = _
    rw [execEnumerationTimeout]
    split
    · next h e k he =>
      rw [he, Option.any_some, decide_eq_false_iff_not] at hw
      rw [if_neg hw]
    · rfl
  case map =>
    intro h a n g h1 h2 h3 h4
    exact run_served g ((if_neg (by simp [outside, Nat.not_lt.2, *])).trans rfl)
  case status => exact fun h g => run_served g rfl
  case baseNotPrimary =>
    intro h r f g hr h1 h2 hp
    refine run_served g ((if_neg ?_).trans ((if_pos (notPrimary hp)).trans (refuse_answered s h _ _ (by decide))))
    simp [outside, Nat.not_lt.2 hr, Nat.not_lt.2 h1, Nat.not_lt.2 h2]
  case baseSweeps =>
    intro h r f g hr h1 h2 hp hs
    exact setTimebase_primary g hr h1 h2 hp ((if_pos hs).trans (refuse_answered s h _ _ (by decide)))
  case baseBusy =>
    intro h r f g hr h1 h2 hp hs hb
    refine setTimebase_primary g hr h1 h2 hp ?_
    rw [hs, if_neg Bool.false_ne_true, if_pos (Option.isSome_iff_ne_none.2 hb)]
    exact refuse_answered s h _ _ (by decide)
  case base =>
    intro h r f g c hr h1 h2 hp hs hb
    refine setTimebase_primary g hr h1 h2 hp ?_
    rw [hs, hb, if_neg Bool.false_ne_true, Option.isSome_none, if_neg Bool.false_ne_true, startOp_opens s h _ _ c]
    rfl
  case placeRadio => exact fun h g => run_served g (refuse_answered s h 0x0705 0x85 (by decide))
  case placeA =>
    intro h p g hp
    exact run_served g ((if_neg (by omega)).trans (if_neg (Nat.ne_of_lt hp)))
  case placeB =>
    intro h p g hp
    exact run_served g ((if_neg (by omega)).trans rfl)
  case radio => exact fun h e p m g he => run_served g (if_neg (Nat.not_lt.2 he))
  case rekeyNotPrimary =>
    intro h g hp
    exact run_served g ((if_pos (notPrimary hp)).trans (refuse_answered s h _ _ (by decide)))
  case rekeyGate =>
    intro h g hp hk
    refine run_served g ((if_neg (isPrimary hp)).trans ((if_pos ?_).trans (refuse_answered s h _ _ (by decide))))
    rw [keyGate_of_dequeue, hk]
    rfl
  case rekey =>
    intro h g c hp hk
    refine run_served g ((if_neg (isPrimary hp)).trans ((if_neg ?_).trans ?_))
    · rw [keyGate_of_dequeue, hk]
      exact Bool.false_ne_true
    · rw [startOp_opens s h _ _ c]
      exact congrArg (fun n => completeOp _ h stOk (le 4 n)) (newKey_keyGen (s := openedCmd s h 0x0707) hk)
  case serviceNotFitted =>
    intro h o m g ho hm _ hf
    exact setService_valid g ho hm ((if_pos hf).trans (refuse_answered s h _ _ (by decide)))
  case serviceNone =>
    intro h m g hm _ hz hf hn
    refine setService_valid g (Nat.zero_le 1) hm ?_
    rw [hf, if_neg Bool.false_ne_true, if_pos ⟨rfl, hz, hn⟩]
    exact refuse_answered s h _ _ (by decide)
  case service =>
    intro h o m g c ho hm _ hf hn
    refine setService_valid g ho hm ?_
    rw [hf, if_neg Bool.false_ne_true, if_neg ?_, startOp_opens s h _ _ c]
    · rfl
    · rintro ⟨ho, hz, hl⟩
      rcases hn with hn | hn | hn
      · omega
      · exact hz hn
      · exact absurd (hn.symm.trans hl) (by decide)
  case radioStatus =>
    intro h a n g h1 h2 h3 h4
    exact run_served g ((if_neg (by simp [outside, Nat.not_lt.2, *])).trans rfl)
  case unlocked => exact fun hl => congrArg Host.Outcome.next (if_neg (by simp [hl]))
  case locked => exact fun hl => congrArg Host.Outcome.next (if_pos hl)

/-- A state with two dies of one code, of which the first alone has lost its ring input. -/
def twinHearers : State :=
  { State.reset with segs := [{ SegDie.start 2 24 Trim.none [] 0 with ringLost := true }, SegDie.start 2 24 Trim.none [] 0] }

/-- Refutes O36: the model holds the loss at every die of the code, the statement at each die that has lost its own input, and they differ
where two dies have one code. -/
theorem not_ringMessages : ¬ Obligations.RingMessages := by
  intro h
  obtain ⟨-, -, -, -, -, -, -, -, -, -, -, -, word, -⟩ := h twinHearers
  have e := word 2 { SegDie.start 2 24 Trim.none [] 0 with ringLost := true } rfl rfl rfl rfl
  change execStatusWord 2 true true twinHearers = _ at e
  rw [execStatusWord, onDie_fitted twinHearers 2 _ { SegDie.start 2 24 Trim.none [] 0 with ringLost := true } rfl] at e
  exact absurd (congrArg (fun t : State => t.segs.map SegDie.lostSince) (Host.Outcome.next.inj e)) (by decide)

end Sys2Proof.Machine
end

section
/-! The frames of DeariLink (R295 to R307). -/
namespace Sys2Proof.Machine

/-! What passing a frame on leaves as it was. -/

theorem passOn_chain (s : State) (f : FrameHdr) (n : Nat) (p : List Byte) : (passOn s f n p).chain = s.chain := by
  unfold passOn
  split
  · rfl
  · split <;> rfl

theorem passOn_sweep (s : State) (f : FrameHdr) (n : Nat) (p : List Byte) : (passOn s f n p).sweep = s.sweep := by
  unfold passOn
  split
  · rfl
  · split <;> rfl

theorem takenFrame_sweep (s : State) (f : FrameHdr) (n : Nat) (p : List Byte) : (takenFrame s f n p).sweep = s.sweep :=
  passOn_sweep (heardFrom s f.src) f n p

theorem takenFrame_isHead (s : State) (f : FrameHdr) (n : Nat) (p : List Byte) : (takenFrame s f n p).chain.isHead = s.chain.isHead := by
  change (passOn (heardFrom s f.src) f n p).chain.isHead = _
  rw [passOn_chain]
  rfl

theorem takenFrame_count (s : State) (f : FrameHdr) (n : Nat) (p : List Byte) : (takenFrame s f n p).chain.count = s.chain.count := by
  change (passOn (heardFrom s f.src) f n p).chain.count = _
  rw [passOn_chain]
  rfl

theorem takenFrame_secondary (s : State) (f : FrameHdr) (n : Nat) (p : List Byte) :
    (takenFrame s f n p).chain.secondary = s.chain.secondary := by
  change (passOn (heardFrom s f.src) f n p).chain.secondary = _
  rw [passOn_chain]
  rfl

theorem takenFrame_addr (s : State) (f : FrameHdr) (n : Nat) (p : List Byte) : (takenFrame s f n p).chain.addr = s.chain.addr := by
  change (passOn (heardFrom s f.src) f n p).chain.addr = _
  rw [passOn_chain]
  rfl

theorem primaryHead_takenFrame (s : State) (f : FrameHdr) (n : Nat) (p : List Byte) : primaryHead (takenFrame s f n p) = primaryHead s := by
  rw [primaryHead, takenFrame_isHead, takenFrame_secondary, primaryHead]

theorem forMe_takenFrame (s : State) (f : FrameHdr) (n : Nat) (p : List Byte) (d : Nat) : forMe (takenFrame s f n p) d = forMe s d := by
  rw [forMe, takenFrame_isHead, takenFrame_addr, forMe]

/-! What an arriving frame does (R296, R300). -/

section
variable {s : State} {f : FrameHdr} {n : Nat} {p : List Byte} {use : State → State}

theorem frameAny_down (h : cUp s = false) : frameAny s f n p use = s := if_pos (by rw [h]; rfl)

theorem frameAny_badCrc (h : cUp s = true) (hg : f.goodCrc = false) : frameAny s f n p use = passOn (frameError s f.port) f n p := by
  rw [frameAny, h, hg]
  rfl

theorem frameAny_own (hg : f.goodCrc = true) (ha : f.src = s.chain.addr) (hz : s.chain.addr ≠ 0) : frameAny s f n p use = s := by
  rw [frameAny, hg, if_pos (And.intro ha hz)]
  exact ite_self s

theorem frameAny_seen (h : cUp s = true) (hg : f.goodCrc = true) (ho : ¬(f.src = s.chain.addr ∧ s.chain.addr ≠ 0))
    (hs : s.chain.seen.contains (f.src, n, f.seq) = true) : frameAny s f n p use = passOn (heardFrom s f.src) f n p := by
  simp only [frameAny, h, hg, Bool.not_true, Bool.false_eq_true, if_false, if_neg ho, passOn_chain]
  exact if_pos hs

theorem frameAny_new (h : cUp s = true) (hg : f.goodCrc = true) (ho : ¬(f.src = s.chain.addr ∧ s.chain.addr ≠ 0))
    (hs : s.chain.seen.contains (f.src, n, f.seq) = false) : frameAny s f n p use = use (takenFrame s f n p) := by
  simp only [frameAny, h, hg, Bool.not_true, Bool.false_eq_true, if_false, if_neg ho, passOn_chain]
  exact if_neg (Bool.eq_false_iff.1 hs)

/-- A frame that is used here has been taken. -/
theorem frameIn_fresh (h : freshFrame s f n = true) : frameIn s f n p use = use (takenFrame s f n p) := by
  simp only [freshFrame, Bool.and_eq_true, Bool.not_eq_true', Bool.and_eq_false_iff, beq_eq_false_iff_ne, bne_eq_false_iff_eq] at h
  obtain ⟨⟨⟨⟨hu, hg⟩, ho⟩, hs⟩, hm⟩ := h
  have ho' : ¬(f.src = s.chain.addr ∧ s.chain.addr ≠ 0) := fun c => ho.elim (· c.1) c.2
  rw [frameIn, frameAny_new hu hg ho' hs, if_pos (by rw [forMe_takenFrame, hm])]

end

/-- The row of a frame is its arrival with a use; the use of any but a full Slate looks at the address first. -/
theorem exec_of_frame {i : Instr} {f : FrameHdr} {n : Nat} {p : List Byte} (h : frameOf i = some (f, n, p)) (s : State) :
    ∃ use, exec i s = .next (frameAny s f n p use) ∧ (n ≠ 1 → ∃ v : State → State, use = fun u => if forMe u f.dest then v u else u) := by
  unfold frameOf at h
  split at h
  case h_14 => exact nomatch h
  all_goals
    obtain ⟨rfl, rfl, rfl⟩ : _ ∧ _ ∧ _ := by simpa only [Option.some.injEq, Prod.mk.injEq] using h
  case h_1 => exact ⟨_, rfl, fun c => absurd rfl c⟩
  all_goals exact ⟨_, rfl, fun _ => ⟨_, rfl⟩⟩

/-- A member's copy of CHARGE leaves the chain as it was. -/
theorem copyCharge_chain (s : State) (src : Nat) (p : List Byte) : (copyCharge s src p).chain = s.chain := by
  unfold copyCharge
  dsimp only
  split <;> rfl

/-- Settles O37: the arrival once for every frame, then the use of each type. -/
theorem linkFrames : Obligations.LinkFrames := by
  refine fun s => ⟨?down, ?bad, ?own, ?again, ?notForMe, ?full, ?compact, ?compactNot, ?notice, ?noticeNot, ?record, ?command, ?reply, ?fault,
    ?faultNot, ?superframe, ?heartbeat, ?joinPrimary, ?joinSecondary, ?joinMember, ?enumBad, ?enumHead, ?enumMember, ?schedule, ?bulk, ?config⟩
  case down =>
    intro i f n p hi hu
    obtain ⟨use, e, -⟩ := exec_of_frame hi s
    rw [e, frameAny_down hu]
  case bad =>
    intro i f n p hi hu hg
    obtain ⟨use, e, -⟩ := exec_of_frame hi s
    rw [e, frameAny_badCrc hu hg]
  case own =>
    intro i f n p hi hg ha hz
    obtain ⟨use, e, -⟩ := exec_of_frame hi s
    rw [e, frameAny_own hg ha hz]
  case again =>
    intro i f n p hi hu hg ho hs
    obtain ⟨use, e, -⟩ := exec_of_frame hi s
    rw [e, frameAny_seen hu hg ho hs]
  case notForMe =>
    intro i f n p hi hn hu hg ho hs hm
    obtain ⟨use, e, g⟩ := exec_of_frame hi s
    obtain ⟨v, rfl⟩ := g hn
    rw [e, frameAny_new hu hg ho hs, if_neg (by rw [forMe_takenFrame, hm]; exact Bool.false_ne_true)]
  case full =>
    intro f p hu hg ho hs
    refine congrArg Host.Outcome.next ((frameAny_new hu hg ho hs).trans ?_)
    have hf : forMe (copyCharge (takenFrame s f 1 p) f.src p) f.dest = forMe s f.dest :=
      (congrArg (fun c : Chain => f.dest == 0xFF || (f.dest == 0 && c.isHead) || (f.dest != 0 && f.dest == c.addr))
        (copyCharge_chain ..)).trans (forMe_takenFrame ..)
    have hh : (copyCharge (takenFrame s f 1 p) f.src p).chain.isHead = s.chain.isHead :=
      (congrArg Chain.isHead (copyCharge_chain ..)).trans (takenFrame_isHead ..)
    simp only [hf, hh, Bool.and_eq_true, beq_iff_eq, and_assoc]
  case compact =>
    intro f p hf hh hl
    exact congrArg Host.Outcome.next ((frameIn_fresh hf).trans (if_pos (by rw [takenFrame_isHead, hh, hl]; rfl)))
  case compactNot =>
    intro f p hf hh
    refine congrArg Host.Outcome.next ((frameIn_fresh hf).trans (if_neg ?_))
    rw [takenFrame_isHead]
    rcases hh with hh | hh <;> simp [hh]
  case notice =>
    intro f p hf hh hl
    exact congrArg Host.Outcome.next ((frameIn_fresh hf).trans (if_pos (by rw [takenFrame_isHead, hh, hl]; rfl)))
  case noticeNot =>
    intro f p hf hh
    refine congrArg Host.Outcome.next ((frameIn_fresh hf).trans (if_neg ?_))
    rw [takenFrame_isHead]
    rcases hh with hh | hh <;> simp [hh]
  case record =>
    intro f n p hf
    refine congrArg Host.Outcome.next ((frameIn_fresh hf).trans ?_)
    rw [takenFrame_isHead]
  case command => exact fun f n p hf hn => congrArg Host.Outcome.next ((frameIn_fresh hf).trans (if_pos hn))
  case reply => exact fun f n p hf hn => congrArg Host.Outcome.next ((frameIn_fresh hf).trans (if_pos hn))
  case fault =>
    intro f p hf hh hl
    exact congrArg Host.Outcome.next ((frameIn_fresh hf).trans (if_pos (by rw [takenFrame_isHead, hh, hl]; rfl)))
  case faultNot =>
    intro f p hf hh
    refine congrArg Host.Outcome.next ((frameIn_fresh hf).trans (if_neg ?_))
    rw [takenFrame_isHead]
    rcases hh with hh | hh <;> simp [hh]
  case superframe => exact fun f n m k a i z r l hf => congrArg Host.Outcome.next (frameIn_fresh hf)
  case heartbeat => exact fun f a q p hf => congrArg Host.Outcome.next (frameIn_fresh hf)
  case joinPrimary =>
    intro f u i a p hf hh hp
    refine congrArg Host.Outcome.next ((frameIn_fresh hf).trans ((if_neg ?_).trans ((if_pos ?_).trans ?_)))
    · rw [takenFrame_isHead, hh]
      exact Bool.false_ne_true
    · exact (primaryHead_takenFrame ..).trans hp
    · have hc : positionOf (freshSender (takenFrame s f 0x0A (le 8 u ++ le 4 i ++ le 1 a ++ le 3 p)) f.src) f = positionOf s f :=
        congrArg (fun c => if f.port = 0 then f.hops + 2 else c - f.hops) (takenFrame_count ..)
      rw [hc]
  case joinSecondary =>
    intro f u i a p hf hh hp
    refine congrArg Host.Outcome.next ((frameIn_fresh hf).trans ((if_neg ?_).trans (if_neg ?_)))
    · rw [takenFrame_isHead, hh]
      exact Bool.false_ne_true
    · exact fun c => Bool.false_ne_true (hp.symm.trans ((primaryHead_takenFrame ..).symm.trans c))
  case joinMember =>
    intro f u i a p hf hh
    refine congrArg Host.Outcome.next ((frameIn_fresh hf).trans (if_pos ?_))
    rw [takenFrame_isHead, hh]
    rfl
  case enumBad =>
    intro f i n e p hu hg
    change execEnumeration f i n e p s = _
    simp only [execEnumeration, hu, hg, Bool.not_true, Bool.not_false, Bool.false_eq_true, if_false, if_true]
  case enumHead =>
    intro f i n e p h w k hu hg he hp
    change execEnumeration f i n e p s = _
    simp only [execEnumeration, hu, hg, he, if_pos hp, Bool.not_true, Bool.false_eq_true, if_false]
  case enumMember =>
    intro f i n e p hu hg he
    change execEnumeration f i n e p s = _
    simp only [execEnumeration, hu, hg, he, Bool.not_true, Bool.false_eq_true, if_false]
  case schedule =>
    intro f l hf
    refine congrArg Host.Outcome.next ((frameIn_fresh hf).trans ?_)
    rw [takenFrame_sweep]
  case bulk => exact fun f a b o l hf => congrArg Host.Outcome.next (frameIn_fresh hf)
  case config => exact fun f k v w hf => congrArg Host.Outcome.next (frameIn_fresh hf)

end Sys2Proof.Machine
end

section
/-! Express sets, the time of the chain, its ports and lost packages (R298 to R315). -/
namespace Sys2Proof.Machine

section
variable {s : State} {n a : Nat} {k : Nat × Nat} {b : List Byte} {use : State → State}

/-- A set whose key was seen is sent on and not used (R300). -/
theorem setIn_seen (hu : cUp s = true) (ho : ¬(a = s.chain.addr ∧ s.chain.addr ≠ 0))
    (hs : s.chain.seen.contains (256 + n, k.1, k.2) = true) : setIn s n a true k b use = sendSet s n b := by
  simp only [setIn, hu, Bool.not_true, Bool.or_self, Bool.false_eq_true, if_false, if_neg ho]
  exact if_pos hs

/-- A bad set is dropped. -/
theorem setIn_bad : setIn s n a false k b use = s := if_pos (Bool.or_true _)

/-- The first copy of a set is used. -/
theorem setIn_fresh (h : freshSet s n a k = true) : setIn s n a true k b use = use (takenSet s n k b) := by
  simp only [freshSet, Bool.and_eq_true, Bool.not_eq_true', Bool.and_eq_false_iff, beq_eq_false_iff_ne, bne_eq_false_iff_eq] at h
  obtain ⟨⟨hu, ho⟩, hs⟩ := h
  have ho' : ¬(a = s.chain.addr ∧ s.chain.addr ≠ 0) := fun c => ho.elim (· c.1) c.2
  simp only [setIn, hu, Bool.not_true, Bool.or_self, Bool.false_eq_true, if_false, if_neg ho']
  exact if_neg (Bool.eq_false_iff.1 hs)

end

/-- The row of an express set is its arrival with a use; a package that leads the Clapper drops CLAP sets. -/
theorem exec_of_set {i : Instr} {n a : Nat} {k : Nat × Nat} {b : List Byte} {x y : Nat} {z : Int} {m : BitVec 32} {up : Bool}
    (h : setOf i = some (n, a, k, b)) {s : State} (hl : leadsClap s = false)
    (hi : i = .clapSet x up true ∨ i = .currentSet x y z true ∨ i = .alarmSet x m y true) :
    ∃ use, exec i s = .next (setIn s n a true k b use) := by
  rcases hi with rfl | rfl | rfl <;>
    obtain ⟨rfl, rfl, rfl, rfl⟩ : _ ∧ _ ∧ _ ∧ _ := by simpa only [setOf, Option.some.injEq, Prod.mk.injEq] using h
  · exact ⟨_, congrArg Host.Outcome.next (if_neg (Bool.eq_false_iff.1 hl))⟩
  · exact ⟨_, rfl⟩
  · exact ⟨_, rfl⟩

/-- A good SYNC set that is no own one goes on out of the other port and is used, but at a primary head that is the time master. -/
theorem syncSet_good {s : State} {a n p g : Nat} {b : Bool} (ho : ownSync s b = false) (hu : cUp s = true) :
    exec (.syncSet a n p g b true) s = .next
      (let z := le 8 a ++ le 3 (n + hopDelay s p + residence s)
       let u := if g < 31 then (emit s 1 0x30 (1 - p) (z ++ [crc8 (0x30 :: z)])).draw else s
       if primaryHead s && s.chain.master then u else syncUse u a (n + hopDelay s p) p g b) := by
  change execSyncSet a n p g b true s = _
  simp only [execSyncSet, hu, ho, Bool.not_true, Bool.or_self, Bool.false_eq_true, if_false]
  split <;> rfl

/-- What the use of a SYNC set of the time port leaves as it was, at a package that is locked then. -/
structure Synced (u v : State) : Prop where
  locked : v.chain.locked = true
  packTime : v.packTime = u.packTime
  isHead : v.chain.isHead = u.chain.isHead
  metro : v.metro = u.metro
  mem : v.mem = u.mem
  segs : v.segs = u.segs

/-- A SYNC set of the time port disciplines pack time at a package that is locked or counts the tenth. -/
theorem syncUse_timePort {u : State} {a r p g : Nat} (hm : u.chain.master = false)
    (hp : timePortB (if p = 0 then g else u.chain.hopsA) (if p = 0 then u.chain.hopsB else g) = decide (p = 1))
    (hw : u.now ≤ u.chain.portSyncAt + 150000) (hl : u.chain.locked = true ∨ 9 ≤ u.chain.syncs) :
    ∃ v, Synced u v ∧ syncUse u a r p g true = discipline v (a + r / 100) := by
  have lock : (u.chain.locked || decide (10 ≤ u.chain.syncs + 1)) = true := by
    rcases hl with hl | hl
    · rw [hl, Bool.true_or]
    · rw [decide_eq_true (Nat.succ_le_succ hl), Bool.or_true]
  simp only [syncUse, followsSync, hm, hp, Bool.false_and, Bool.not_false, Bool.not_true, bne_self_eq_false, Bool.or_self, Bool.false_eq_true,
    if_false, countSync, if_neg (Nat.not_lt.2 hw), lock]
  refine ⟨_, ?_, rfl⟩
  exact ⟨rfl, rfl, rfl, rfl, rfl, rfl⟩

/-- A locked member takes a pack time 0 to 4 ticks ahead. -/
theorem discipline_follows {v : State} {n : Nat} (hl : v.chain.locked = true) (h : v.packTime ≤ n) (k : n ≤ v.packTime + 4) :
    discipline v n = { v with packTime := n, chain := { v.chain with slew := 0 } } := by
  refine if_pos (.inl ⟨hl, ?_, ?_⟩)
  · exact Int.sub_nonneg_of_le (Int.ofNat_le.2 h)
  · have : (n : Int) ≤ v.packTime + 4 := by exact_mod_cast k
    exact Int.sub_left_le_of_le_add this

/-- A locked member slews what lies more than 4 ticks ahead. -/
theorem discipline_slews {v : State} {n : Nat} (hl : v.chain.locked = true) (k : v.packTime + 4 < n) :
    discipline v n = { v with chain := { v.chain with slew := (n : Int) - v.packTime } } := by
  have far : ¬(n : Int) - v.packTime ≤ 4 := by
    have : (v.packTime : Int) + 4 < n := by exact_mod_cast k
    exact fun c => absurd (Int.le_add_of_sub_left_le c) (Int.not_le.2 this)
  exact if_neg fun c => c.elim (fun c => far c.2.2) fun c => Bool.false_ne_true (c.2.2.symm.trans hl)

/-- A SYNC set that goes on in less than 31 hops is used after it was sent. -/
theorem syncSet_member {s : State} {a n p g : Nat} (hm : s.chain.master = false) (hu : cUp s = true) (hg : g < 31) :
    ∃ z, exec (.syncSet a n p g true true) s = .next (syncUse (emit s 1 0x30 (1 - p) z).draw a (n + hopDelay s p) p g true) := by
  have ho : ownSync s true = false := by rw [ownSync, hm, Bool.false_and]
  have e := syncSet_good (a := a) (n := n) (p := p) (g := g) ho hu
  simp only [if_pos hg, hm, Bool.and_false, Bool.false_eq_true, if_false] at e
  exact ⟨_, e⟩

/-- Settles O38, event by event. -/
theorem expressSets : Obligations.ExpressSets := by
  refine fun s => ⟨?seen, ?bad, ?clap, ?clapNot, ?current, ?currentNot, ?ownSync, ?syncMaster, ?sync, ?locks, ?follows, ?alarm, ?delayReq,
    ?delayA, ?delayB, ?measure, ?measureNot, ?portChange, ?portKept, ?unlocked, ?unlockedNot, ?takeover, ?refLost, ?save, ?saveNot, ?gaps,
    ?downA, ?downB, ?upA, ?upB, ?lost, ?lostNot⟩
  case seen =>
    intro i n a k b x y z m up hi hl hu ho hs hw
    obtain ⟨use, e⟩ := exec_of_set hi hl hw
    rw [e, setIn_seen hu ho hs]
  case bad =>
    intro i x y z m up hi
    rcases hi with rfl | rfl | rfl
    · exact congrArg Host.Outcome.next ((congrArg (ite _ s) setIn_bad).trans (ite_self s))
    · exact congrArg Host.Outcome.next setIn_bad
    · exact congrArg Host.Outcome.next setIn_bad
  case clap =>
    intro a up hf ht hk hl he
    refine congrArg Host.Outcome.next ((if_neg (Bool.eq_false_iff.1 hl)).trans ((setIn_fresh hf).trans ?_))
    exact if_pos ⟨ht, hk, he⟩
  case clapNot =>
    intro a up hf hl hn
    refine congrArg Host.Outcome.next ((if_neg (Bool.eq_false_iff.1 hl)).trans ((setIn_fresh hf).trans (if_neg ?_)))
    rintro ⟨ht, hk, he⟩
    rcases hn with hn | hn | hn
    · exact hn ht
    · exact Bool.false_ne_true (hn.symm.trans hk)
    · exact Bool.false_ne_true (hn.symm.trans he)
  case current =>
    intro a n i hf hc ha
    refine congrArg Host.Outcome.next ((setIn_fresh hf).trans (if_pos ?_))
    exact Bool.and_eq_true_iff.2 ⟨hc, beq_iff_eq.2 ha⟩
  case currentNot =>
    intro a n i hf hn
    refine congrArg Host.Outcome.next ((setIn_fresh hf).trans (if_neg fun c => ?_))
    obtain ⟨hc, ha⟩ := Bool.and_eq_true_iff.1 c
    exact hn.elim (fun h => Bool.false_ne_true (h.symm.trans hc)) fun h => h (beq_iff_eq.1 ha)
  case ownSync =>
    intro a n p g b ho
    refine congrArg Host.Outcome.next (if_pos ?_)
    rw [ho, Bool.or_true]
  case syncMaster =>
    intro a n p g b ho hu hp hm
    refine (syncSet_good ho hu).trans (congrArg Host.Outcome.next (if_pos ?_))
    rw [hp, hm, Bool.and_self]
  case sync =>
    intro a n p g b ho hu hn
    refine (syncSet_good ho hu).trans (congrArg Host.Outcome.next (if_neg fun c => ?_))
    obtain ⟨hp, hm⟩ := Bool.and_eq_true_iff.1 c
    exact hn.elim (fun h => Bool.false_ne_true (h.symm.trans hp)) fun h => Bool.false_ne_true (h.symm.trans hm)
  case locks =>
    intro a n p g hm hh hu hg hp hw hs hl ht
    obtain ⟨z, e⟩ := syncSet_member (a := a) (n := n) (p := p) hm hu hg
    obtain ⟨v, sv, d⟩ := syncUse_timePort (u := (emit s 1 0x30 (1 - p) z).draw) (a := a) (r := n + hopDelay s p) hm hp hw (.inr hs)
    rw [d, discipline_slews sv.locked (by rw [sv.packTime]; exact ht)] at e
    refine ⟨_, e, sv.locked, sv.packTime, ?_, sv.metro, sv.mem, sv.segs⟩
    change ((a + (n + hopDelay s p) / 100 : Nat) : Int) - v.packTime = _
    rw [sv.packTime]
    rfl
  case follows =>
    intro a n p g hm hu hg hp hw hl h1 h2
    obtain ⟨z, e⟩ := syncSet_member (a := a) (n := n) (p := p) hm hu hg
    obtain ⟨v, sv, d⟩ := syncUse_timePort (u := (emit s 1 0x30 (1 - p) z).draw) (a := a) (r := n + hopDelay s p) hm hp hw (.inl hl)
    rw [d, discipline_follows sv.locked (by rw [sv.packTime]; exact h1) (by rw [sv.packTime]; exact h2)] at e
    exact ⟨_, e, sv.locked, rfl, sv.metro, sv.mem, sv.segs⟩
  case alarm => exact fun a m n hf => congrArg Host.Outcome.next (setIn_fresh hf)
  case delayReq => exact fun p n hu => congrArg Host.Outcome.next (if_neg (by rw [hu]; exact Bool.false_ne_true))
  case delayA => exact fun n e hu => congrArg Host.Outcome.next ((if_neg (by rw [hu]; exact Bool.false_ne_true)).trans (if_pos rfl))
  case delayB => exact fun n e hu => congrArg Host.Outcome.next ((if_neg (by rw [hu]; exact Bool.false_ne_true)).trans (if_neg Nat.one_ne_zero))
  case measure =>
    intro hu hd
    refine congrArg Host.Outcome.next (if_neg ?_)
    rw [hu, decide_eq_false (Nat.not_lt.2 hd)]
    exact Bool.false_ne_true
  case measureNot =>
    intro hd
    refine congrArg Host.Outcome.next (if_pos ?_)
    rw [decide_eq_true hd, Bool.or_true]
  case portChange =>
    intro hu hm hs hp hc
    refine congrArg Host.Outcome.next (if_neg ?_)
    rw [hu, hm, decide_eq_false (Nat.not_lt.2 hs), decide_eq_false (Nat.not_lt.2 hp), decide_eq_false (Nat.not_lt.2 hc)]
    exact Bool.false_ne_true
  case portKept =>
    intro hn
    refine congrArg Host.Outcome.next (if_pos ?_)
    simp only [Bool.or_eq_true, decide_eq_true_eq]
    rcases hn with hn | hn | hn
    · exact .inl (.inl (.inr hn))
    · exact .inl (.inr (Nat.lt_succ_of_le hn))
    · exact .inr hn
  case unlocked =>
    intro hu hm hl ht
    refine congrArg Host.Outcome.next (if_neg ?_)
    rw [hu, hm, hl, decide_eq_false (Nat.not_lt.2 ht)]
    exact Bool.false_ne_true
  case unlockedNot =>
    intro hn
    refine congrArg Host.Outcome.next (if_pos ?_)
    rcases hn with hn | hn | hn <;> simp [hn]
  case takeover =>
    intro hu hm hs hl ht
    refine congrArg Host.Outcome.next (if_neg ?_)
    rw [hu, hm, hs, hl, decide_eq_false (Nat.not_lt.2 ht)]
    exact Bool.false_ne_true
  case refLost =>
    intro hu hp hr
    refine congrArg Host.Outcome.next (if_neg ?_)
    rw [hu, hp, hr]
    exact Bool.false_ne_true
  case save =>
    intro hu hk ht
    refine congrArg Host.Outcome.next (if_neg ?_)
    rw [hu, hk, decide_eq_false (Nat.not_lt.2 ht)]
    exact Bool.false_ne_true
  case saveNot =>
    intro ht
    refine congrArg Host.Outcome.next (if_pos ?_)
    rw [decide_eq_true ht, Bool.or_true]
  case gaps => exact fun hu => congrArg Host.Outcome.next (if_neg (by rw [hu]; exact Bool.false_ne_true))
  case downA => exact fun hu => congrArg Host.Outcome.next (if_neg (by rw [hu]; exact Bool.false_ne_true))
  case downB => exact fun hu => congrArg Host.Outcome.next (if_neg (by rw [hu]; exact Bool.false_ne_true))
  case upA =>
    intro hu hd hp ht
    change execLinkUp 0 s = _
    simp [execLinkUp, b2n, hu, hd, hp, Nat.not_lt.2 ht]
  case upB =>
    intro hu hd hp ht
    change execLinkUp 1 s = _
    simp [execLinkUp, b2n, hu, hd, hp, Nat.not_lt.2 ht]
  case lost =>
    intro a e he hu hp hl ha ht
    change execPackageLost a s = _
    simp only [execPackageLost, he, hu, hp, hl, decide_eq_false ha, decide_eq_false (Nat.not_lt.2 ht), Bool.not_true, Bool.or_self,
      Bool.false_eq_true, if_false]
    rfl
  case lostNot =>
    intro a e he ht
    change execPackageLost a s = _
    simp only [execPackageLost, he, decide_eq_true ht, Bool.or_true, if_true]

end Sys2Proof.Machine
end

section
/-! Superframes (R304) and the pack radio (R320 to R325). -/
namespace Sys2Proof.Machine

/-- The roles of the time master change in the chain alone. -/
theorem takeMaster_chain (s : State) :
    ∃ (m : Bool) (w : Int), takeMaster s = { s with chain := { s.chain with takeover := false, master := m, slew := w } } := by
  unfold takeMaster
  dsimp only
  split
  · exact ⟨_, _, rfl⟩
  · exact ⟨_, _, rfl⟩

/-! The steps of a superframe that find nothing to do. -/

theorem applyPlacement_none {s : State} (h : s.chain.placeNext = none) : applyPlacement s = s := by rw [applyPlacement, h]

theorem drainBulk_off {s : State} (h : s.chain.placeB = false) : drainBulk s = s := if_pos (by rw [h]; rfl)

theorem applyServices_nil {s : State} (h : s.chain.services = []) : applyServices s = s := by rw [applyServices, h, List.foldl_nil]

theorem admitReady_member {s : State} (h : primaryHead s = false) : admitReady s = s := if_pos (by rw [h]; rfl)

theorem applySource_none {s : State} (h : s.chain.sourceNext = none) : applySource s = s := by rw [applySource, h]

theorem checkRef_none {s : State} (h : s.imp.run = none) : checkRef s = s := by simp only [checkRef, h]

theorem repeatNotices_nil {s : State} (h : s.chain.notices = []) : repeatNotices s = s := by rw [repeatNotices, h, List.foldl_nil]

theorem drainSlates_nil {s : State} (h : s.slates.chainQueue = []) :
    drainSlates s = { s with slates := { s.slates with chainQueue := [], chainRun := 0 } } := by rw [drainSlates, h, List.foldl_nil]

theorem decidePlacement_member {s : State} (h : primaryHead s = false) (n : Nat) : decidePlacement s n = s := if_pos (by rw [h]; rfl)

theorem masterSends_unaddressed {s : State} (h : s.chain.addr = 0) : masterSends s = s :=
  if_pos (by rw [decide_eq_true h, Bool.or_true])

theorem sendHeartbeat_unaddressed {s : State} (h : s.chain.addr = 0) : sendHeartbeat s = s := if_pos (.inl (h ▸ Nat.zero_le 1))

theorem applyChainMove_none {s : State} (h : s.power.chainMove = none) : applyChainMove s = s := by rw [applyChainMove, h]

/-- A superframe with a new number takes its steps in their order. -/
theorem superframeStart_new {s : State} {n m : Nat} (hu : cUp s = true) (hm : m = s.packTime / 100000 % 2 ^ 32) (hn : m ≠ s.chain.sfnum) :
    exec (.superframeStart n) s = .next (applyChainMove (sendHeartbeat (masterSends (decidePlacement (drainSlates (repeatNotices (checkRef
      (applySource (admitReady (applyServices (radioSuperframe (drainBulk (applyPlacement
        (takeMaster { s with chain := { s.chain with sfnum := m } }))) s.chain.sfnum))))))) n)))) := by
  subst hm
  refine congrArg Host.Outcome.next (if_neg ?_)
  rw [hu, beq_eq_false_iff_ne.2 hn]
  exact Bool.false_ne_true

/-- A package without an address, and with no move of the chain, sends nothing. -/
theorem sends_unaddressed {s : State} (ha : s.chain.addr = 0) (hh : primaryHead s = false) (hm : s.power.chainMove = none) (n : Nat) :
    applyChainMove (sendHeartbeat (masterSends (decidePlacement s n))) = s := by
  rw [decidePlacement_member hh, masterSends_unaddressed ha, sendHeartbeat_unaddressed ha, applyChainMove_none hm]

/-- Where nothing waits, the steps before the sending find nothing to do. -/
theorem steps_idle {s : State} (hh : primaryHead s = false) (hp : s.chain.placeNext = none) (hb : s.chain.placeB = false)
    (hs : s.chain.services = []) (hc : s.chain.sourceNext = none) (hl : s.chain.notices = []) (hr : s.imp.run = none) {old : Nat}
    (ho : old / 200 = s.chain.sfnum / 200) :
    repeatNotices (checkRef (applySource (admitReady (applyServices (radioSuperframe (drainBulk (applyPlacement s)) old))))) = s := by
  rw [applyPlacement_none hp, drainBulk_off hb, radioSuperframe, if_pos ho, applyServices_nil hs, admitReady_member hh, applySource_none hc,
    checkRef_none hr, repeatNotices_nil hl]

/-- Settles O39: at a new number the steps run in the model's order, and at the number that runs none does. -/
theorem superframes : Obligations.Superframes := by
  refine fun s => ⟨?begun, ?steps, ?quiet⟩
  case begun =>
    intro n hu hn
    refine congrArg Host.Outcome.next (if_pos ?_)
    rw [beq_iff_eq.2 hn, Bool.or_true]
  case steps =>
    rintro n m a b k e hu hn hm rfl rfl rfl rfl
    exact superframeStart_new hu hn hm
  case quiet =>
    intro n hu ha hn ht hh hp hb hs hc hq hl hm hr
    have e := superframeStart_new (n := n) (m := 1) hu (by rw [ht]; rfl) (by rw [hn]; exact Nat.one_ne_zero)
    obtain ⟨m, w, hk⟩ := takeMaster_chain { s with chain := { s.chain with sfnum := 1 } }
    have member : (s.chain.isHead && !s.chain.secondary) = false := by rw [hh, Bool.false_and]
    rw [hk, hn] at e
    have i := steps_idle (s := { s with chain := { s.chain with sfnum := 1, takeover := false, master := m, slew := w } }) member hp hb hs hc hl hr
      (old := 0) (show 0 / 200 = 1 / 200 by decide)
    have d := drainSlates_nil (s := { s with chain := { s.chain with sfnum := 1, takeover := false, master := m, slew := w } }) hq
    have f := sends_unaddressed (s := { s with
        chain := { s.chain with sfnum := 1, takeover := false, master := m, slew := w }
        slates := { s.slates with chainQueue := [], chainRun := 0 } }) ha member hm n
    exact ⟨_, e.trans (congrArg Host.Outcome.next ((congrArg (fun u => applyChainMove (sendHeartbeat (masterSends (decidePlacement u n))))
      ((congrArg drainSlates i).trans d)).trans f)), rfl, rfl, rfl, rfl, rfl, rfl⟩

section
variable {s : State} {a n : Nat} {g : Bool} {use : State → State}

theorem radioIn_off (h : radioOn s = false) : radioIn s a n g use = s := if_pos (by rw [h]; rfl)

/-- A frame that fails its check or repeats a counter is rejected (R323). -/
theorem radioIn_rejected (h : radioOn s = true) (hb : g = false ∨ (peerOf s a).counter.any (fun c => decide (n ≤ c)) = true) :
    radioIn s a n g use = raise s 0 5 0x5D a := by
  refine (if_neg (by rw [h]; exact Bool.false_ne_true)).trans (if_pos ?_)
  rcases hb with hb | hb
  · rw [hb]
    rfl
  · rw [hb, Bool.or_true]

/-- An accepted frame stores its counter and a signal strength, and is used. -/
theorem radioIn_accepted (h : radioOn s = true) (hc : (peerOf s a).counter.any (fun c => decide (n ≤ c)) = false) :
    radioIn s a n true use = use (setPeer s { peerOf s a with counter := some n, rssi := Config.freeInt s.free % 256 - 128 }).draw := by
  refine (if_neg (by rw [h]; exact Bool.false_ne_true)).trans (if_neg ?_)
  rw [hc]
  exact Bool.false_ne_true

end

/-- A slot that begins with the radio on and left to its transmitter. -/
theorem radioSlot_sends {s u : State} (hs : slotNow s % 40 ≠ s.radio.slot) (hu : u = { s with radio := { s.radio with slot := slotNow s % 40 } })
    (ho : radioOn u = true) (hl : slotLeft u (slotNow s % 40) = true) :
    exec .radioSlot s = .next (if slotNow s % 40 = 0 then (if s.chain.master then radioSend u 1 0xFF false (le 8 s.packTime ++ le 4 s.chain.chainId) else u)
      else if slotNow s % 40 ≤ 4 then alarmSlot u (slotNow s % 40) else dataSlot u (slotNow s % 40)) := by
  subst hu
  refine congrArg Host.Outcome.next ((if_neg hs).trans (if_neg ?_))
  rw [ho, hl]
  exact Bool.false_ne_true

/-- Settles O40, event by event. -/
theorem packRadio : Obligations.PackRadio := by
  refine fun s => ⟨?begun, ?left, ?beaconSlot, ?alarmSlot, ?dataSlot, ?beaconOff, ?beacon, ?beaconBad, ?alarmOff, ?alarmBad, ?alarm, ?dataOff,
    ?dataBad, ?data, ?acked, ?notAcked, ?noFrame⟩
  case begun => exact fun h => congrArg Host.Outcome.next (if_pos h)
  case left =>
    rintro u hs rfl hn
    refine congrArg Host.Outcome.next ((if_neg hs).trans (if_pos ?_))
    rcases hn with hn | hn
    · rw [hn]
      rfl
    · rw [hn]
      exact Bool.or_true _
  case beaconSlot =>
    intro u hu hk hs ho hl
    rw [radioSlot_sends (hk ▸ hs.symm) (hk ▸ hu) ho (hk ▸ hl), if_pos hk]
  case alarmSlot =>
    rintro u k rfl hu hs h1 h4 ho hl
    rw [radioSlot_sends hs hu ho hl, if_neg (Nat.ne_of_gt h1), if_pos h4]
  case dataSlot =>
    rintro u k rfl hu hs h5 ho hl
    rw [radioSlot_sends hs hu ho hl, if_neg (by omega), if_neg (by omega)]
  case beaconOff => exact fun a n k i g ho => congrArg Host.Outcome.next (radioIn_off ho)
  case beacon =>
    rintro a n k i ho hc rfl
    change Host.Outcome.next (radioIn s a n (true && s.chain.chainId == s.chain.chainId) id) = _
    rw [beq_self_eq_true, Bool.and_self, radioIn_accepted ho hc]
    rfl
  case beaconBad =>
    intro a n k i g ho hb
    refine congrArg Host.Outcome.next (radioIn_rejected ho ?_)
    rcases hb with hb | hb | hb
    · exact .inl (by rw [hb, Bool.false_and])
    · exact .inr hb
    · exact .inl (by rw [beq_eq_false_iff_ne.2 hb, Bool.and_false])
  case alarmOff => exact fun a n m k g ho => congrArg Host.Outcome.next (radioIn_off ho)
  case alarmBad => exact fun a n m k g ho hb => congrArg Host.Outcome.next (radioIn_rejected ho hb)
  case alarm => exact fun a n m k ho hc => congrArg Host.Outcome.next (radioIn_accepted ho hc)
  case dataOff => exact fun a n x y o l g ho => congrArg Host.Outcome.next (radioIn_off ho)
  case dataBad => exact fun a n x y o l g ho hb => congrArg Host.Outcome.next (radioIn_rejected ho hb)
  case data => exact fun a n x y o l ho hc => congrArg Host.Outcome.next (radioIn_accepted ho hc)
  case acked =>
    intro a x ho hx
    change execRadioAcknowledgement a true s = _
    simp only [execRadioAcknowledgement, hx, ho, Bool.not_true, Bool.false_eq_true, if_false, if_true]
  case notAcked =>
    intro a x ho hx
    change execRadioAcknowledgement a false s = _
    simp only [execRadioAcknowledgement, hx, ho, Bool.not_true, Bool.false_eq_true, if_false]
    rw [← hx]
    rfl
  case noFrame =>
    intro a g hx
    change execRadioAcknowledgement a g s = _
    simp only [execRadioAcknowledgement, hx]

end Sys2Proof.Machine
end

section
/-! The commands of class 0x08 (R353 to R361). -/
namespace Sys2Proof.Machine

/-- A metrology command answers NOT_FITTED on a part without M. -/
theorem mCmd_absent {s : State} {h : Hdr} {op : Nat} (g : served s h op) (hm : s.part.hasM = false) (body : State → State) :
    (Host.Outcome.next (mCmd s h op body) : Host.Outcome State Fault Refusal) = .next (answeredCmd s h op stNotFitted []) := by
  refine run_served g ((if_pos ?_).trans (refuse_answered s h op _ (by decide)))
  rw [show (dequeue s h op).part.hasM = false from hm]
  rfl

/-- A metrology command does what its body does on a part with M. -/
theorem mCmd_fitted {s : State} {h : Hdr} {op : Nat} (g : served s h op) (hm : s.part.hasM = true) {body : State → State} {u : State}
    (e : body (dequeue s h op) = u) :
    (Host.Outcome.next (mCmd s h op body) : Host.Outcome State Fault Refusal) = .next u := by
  refine run_served g ((if_neg ?_).trans e)
  rw [show (dequeue s h op).part.hasM = true from hm]
  exact Bool.false_ne_true

/-- Sending a frame moves no superframe start. -/
theorem nextSuperframe_sendFrame (s : State) (type dest prio : Nat) (b r : Bool) (l : List Byte) :
    nextSuperframe (sendFrame s type dest prio b r l) = nextSuperframe s := by
  rw [nextSuperframe, (sendFrame_told (w := true) s type dest prio b r l).packTime, nextSuperframe]

/-- Settles O41, command by command. -/
theorem metrologyCommands : Obligations.MetrologyCommands := by
  refine fun s => ⟨?readAbsent, ?signAbsent, ?displayAbsent, ?eventsAbsent, ?statusAbsent, ?read, ?sign, ?signBusy, ?displayState, ?display,
    ?events, ?status, ?sourceState, ?sourceNotPrimary, ?sourceNoM, ?source⟩
  case readAbsent => exact fun h a n g hm => mCmd_absent g hm _
  case signAbsent => exact fun h r g hm => mCmd_absent g hm _
  case displayAbsent => exact fun h p l g hm => mCmd_absent g hm _
  case eventsAbsent => exact fun h f n g hm => mCmd_absent g hm _
  case statusAbsent => exact fun h g hm => mCmd_absent g hm _
  case read => exact fun h a n g hm h1 h2 => mCmd_fitted g hm (if_neg (by omega))
  case sign =>
    intro h r g hm hr hn c
    refine mCmd_fitted g hm ((if_neg (Nat.not_lt.2 hr)).trans ((if_neg (Nat.not_le.2 hn)).trans ?_))
    rw [startOp_opens s h _ _ c]
    rfl
  case signBusy =>
    intro h r g hm hr hn
    exact mCmd_fitted g hm ((if_neg (Nat.not_lt.2 hr)).trans ((if_pos hn).trans (refuse_answered s h _ _ (by decide))))
  case displayState =>
    intro h p l g hm hs
    exact mCmd_fitted g hm ((if_pos hs).trans (refuse_answered s h _ _ (by decide)))
  case display =>
    intro h p l g hm hs hp hl
    exact mCmd_fitted g hm ((if_neg (not_not_intro hs)).trans (if_neg (by omega)))
  case events => exact fun h f n g hm h1 h2 => mCmd_fitted g hm (if_neg (by omega))
  case status => exact fun h g hm => mCmd_fitted g hm rfl
  case sourceState =>
    intro h a g hs
    exact run_served g ((if_pos hs).trans (refuse_answered s h _ _ (by decide)))
  case sourceNotPrimary =>
    intro h a g hs ha hp
    refine run_served g ((if_neg (not_not_intro hs)).trans ((if_neg (Nat.not_lt.2 ha)).trans ?_))
    exact (if_pos (notPrimary hp)).trans (refuse_answered s h _ _ (by decide))
  case sourceNoM =>
    intro h a g hs ha hp hn
    refine run_served g ((if_neg (not_not_intro hs)).trans ((if_neg (Nat.not_lt.2 ha)).trans ((if_neg (isPrimary hp)).trans ?_)))
    exact (if_pos hn).trans (refuse_answered s h _ _ (by decide))
  case source =>
    intro h a g hs ha hp hn
    refine run_served g ((if_neg (not_not_intro hs)).trans ((if_neg (Nat.not_lt.2 ha)).trans ((if_neg (isPrimary hp)).trans ?_)))
    refine (if_neg (Bool.eq_false_iff.1 hn)).trans ?_
    dsimp only
    rw [nextSuperframe_sendFrame]
    rfl

end Sys2Proof.Machine
end

section
/-! M at its return path, its legal samples and its states (R334 to R355). -/
namespace Sys2Proof.Machine

/-! Requests (R17, R353, R361). -/

theorem mAnswer_silent {s : State} (h : mAnswers s.metro = false) (k : Nat) (x : Option (List Byte)) : mAnswer s k x = s.updM mActive := by
  simp only [mAnswer, h, Bool.not_false, if_true]

theorem mAnswer_given {s : State} (h : mAnswers s.metro = true) (k : Nat) (l : List Byte) :
    mAnswer s k (some l) = { s.updM mActive with mport := { s.mport with answers := s.mport.answers ++ [(k == 1, true, l)] } } := by
  simp only [mAnswer, h, Bool.not_true, Bool.false_eq_true, if_false, Option.isSome_some, if_true, Option.getD_some]
  rfl

theorem mAnswer_refused {s : State} (h : mAnswers s.metro = true) (k : Nat) :
    mAnswer s k none =
      mRaise { s.updM mActive with mport := { s.mport with answers := s.mport.answers ++ [(k == 1, false, [])] } } 2 0x69 k := by
  simp only [mAnswer, h, Bool.not_true, Bool.false_eq_true, if_false, Option.isSome_none, Option.getD_none]
  rfl

/-- A display parameter is no state of M. -/
theorem mDisplay_state {m n : Metro} {p : Nat} {l : List Byte} (h : mDisplay m p l = some n) : n.state = m.state := by
  unfold mDisplay at h
  split at h
  · split at h
    · exact Option.some.inj h ▸ rfl
    · exact nomatch h
  · split at h
    · exact Option.some.inj h ▸ rfl
    · exact nomatch h
  · split at h
    · exact Option.some.inj h ▸ rfl
    · exact nomatch h
  · exact nomatch h

theorem noM {s : State} (h : s.part.hasM = false) : (!s.part.hasM) = true := by rw [h]; rfl

theorem withM {s : State} (h : s.part.hasM = true) : ¬(!s.part.hasM) = true := by rw [h]; exact Bool.false_ne_true

/-- An answer at C's port goes to the request of its kind that is with M. -/
theorem metroAnswer_taken {s : State} {b g : Bool} {l : List Byte} {a : List (Bool × Bool × List Byte)} (h : s.mport.answers = (b, g, l) :: a) :
    exec .metroAnswer s = .next (match s.mport.reqs.find? fun r => r.statement == b && r.sentAt.isSome with
      | none => { s with mport := { s.mport with answers := a } }
      | some r => match r.rest g l with
        | some q => sendNext { s with mport := { s.mport with answers := a, reqs := upd s.mport.reqs (fun x => x == r) fun _ => q } } b
        | none => sendNext (answered { s with mport := { s.mport with answers := a, reqs := s.mport.reqs.filter fun x => x != r } } r g l) b) := by
  change execMetroAnswer s = _
  simp only [execMetroAnswer, h] <;> rfl

/-- Settles O42, event by event. -/
theorem metrologyRequests : Obligations.MetrologyRequests := by
  refine fun s => ⟨?read, ?readBad, ?readSilent, ?readAbsent, ?sign, ?signBad, ?signSilent, ?signAbsent, ?display, ?displayBad, ?displaySilent,
    ?displayAbsent, ?answer, ?answerRest, ?answerLate, ?noAnswer, ?withdrawn, ?withdrawnOne, ?withdrawnStatement, ?withdrawnNone⟩
  case read =>
    intro a n l hm ha hr
    refine congrArg Host.Outcome.next ((if_pos hm).trans ?_)
    rw [hr, mAnswer_given ha]
    rfl
  case readBad =>
    intro a n hm ha hr
    refine congrArg Host.Outcome.next ((if_pos hm).trans ?_)
    rw [hr, mAnswer_refused ha]
    rfl
  case readSilent => exact fun a n hm ha => congrArg Host.Outcome.next ((if_pos hm).trans (mAnswer_silent ha ..))
  case readAbsent => exact fun a n hm => congrArg Host.Outcome.next (if_neg (by rw [hm]; exact Bool.false_ne_true))
  case sign =>
    rintro r k m hm ha hr rfl
    refine congrArg Host.Outcome.next ((if_neg (withM hm)).trans ((if_pos ⟨ha, hr⟩).trans ?_))
    exact mAnswer_given (s := s.updM fun m => mStore { m with stmtCtr := (m.stmtCtr + 1) % 2 ^ 64 }) ha 1 _
  case signBad =>
    intro r k hm ha hr
    refine congrArg Host.Outcome.next ((if_neg (withM hm)).trans ((if_neg fun c => Nat.not_le.2 hr c.2).trans ?_))
    exact mAnswer_refused ha 1
  case signSilent =>
    intro r k hm ha
    refine congrArg Host.Outcome.next ((if_neg (withM hm)).trans ((if_neg fun c => Bool.false_ne_true (ha.symm.trans c.1)).trans ?_))
    exact mAnswer_silent ha ..
  case signAbsent => exact fun r k hm => congrArg Host.Outcome.next (if_pos (noM hm))
  case display =>
    intro p l m hm ha hd
    have ha' : mAnswers m = true := by rw [mAnswers, mDisplay_state hd]; exact ha
    refine congrArg Host.Outcome.next ((if_neg (withM hm)).trans ?_)
    simp only [hd]
    rw [if_pos ha, mAnswer_given (s := s.updM fun _ => m) ha']
    rfl
  case displayBad =>
    intro p l hm ha hd
    refine congrArg Host.Outcome.next ((if_neg (withM hm)).trans ?_)
    simp only [hd]
    exact mAnswer_refused ha 2
  case displaySilent =>
    intro p l hm ha
    refine congrArg Host.Outcome.next ((if_neg (withM hm)).trans ?_)
    split
    · exact mAnswer_silent ha ..
    · rw [if_neg (Bool.eq_false_iff.1 ha)]
      exact mAnswer_silent ha ..
  case displayAbsent => exact fun p l hm => congrArg Host.Outcome.next (if_pos (noM hm))
  case answer =>
    intro b g l a r ha hr hq
    rw [metroAnswer_taken ha]
    simp only [hr, hq]
  case answerRest =>
    intro b g l a r q ha hr hq
    rw [metroAnswer_taken ha]
    simp only [hr, hq]
  case answerLate =>
    intro b g l a ha hr
    rw [metroAnswer_taken ha]
    simp only [hr]
  case noAnswer =>
    intro ha
    change execMetroAnswer s = _
    simp only [execMetroAnswer, ha]
  case withdrawn => rfl
  case withdrawnOne =>
    intro r hr hs
    refine congrArg Host.Outcome.next ((congrArg (List.foldl unanswered s) hr).trans ?_)
    simp only [List.foldl_cons, List.foldl_nil, unanswered, hs, Bool.false_eq_true, if_false]
  case withdrawnStatement =>
    intro r hr hs
    refine congrArg Host.Outcome.next ((congrArg (List.foldl unanswered s) hr).trans ?_)
    simp only [List.foldl_cons, List.foldl_nil, unanswered, hs, if_true]
  case withdrawnNone => exact fun hr => congrArg Host.Outcome.next (congrArg (List.foldl unanswered s) hr)

/-! Legal samples (R335 to R342). -/

/-- M without what a sample moves beside the registers: the sample counter, the averages, the pulse and the seconds. -/
def registers (m : Metro) : Metro :=
  { m with
    sample := 0, ptSum := 0, ptN := 0, pulseRem := 0, pulse := false, sumU := 0, sumI := 0, sumP := 0, sumN := 0, uavg := 0, iavg := 0, pavg := 0
    opsamples := 0, opsec := 0, voltage := 0, overISamples := 0, overUSamples := 0 }

theorem registers_takeSample (m : Metro) (x v : Int) : registers (takeSample m x v) = registers m := by
  unfold takeSample
  dsimp only
  split
  · rfl
  · split <;> rfl

theorem registers_averageSample (m : Metro) (i u : Int) : registers (averageSample m i u) = registers m := by
  unfold averageSample
  dsimp only
  split <;> rfl

theorem registers_secondSample (m : Metro) : registers (secondSample m) = registers m := by
  unfold secondSample
  split <;> rfl

theorem registers_overloadRun (m : Metro) : registers (overloadRun m) = registers m := rfl

theorem registers_voltage (m : Metro) (u : Int) : registers { m with voltage := u } = registers m := rfl

theorem registers_pulseSample (m : Metro) (i u : Int) (b : Bool) : registers (pulseSample m i u b) = registers m := rfl

theorem registers_countSample (m : Metro) (i u : Int) : registers (countSample m i u) = countSample (registers m) i u := by
  unfold countSample
  dsimp only
  split <;> rfl

/-- What a sample makes of the registers: it counts, if it flows, and moves the states. -/
def sampled (m : Metro) (x v : Int) : Metro :=
  stateSample (if 37500 ≤ (legalShunt m x).natAbs then countSample m (legalCurrent m x) (legalVoltage m v) else m)
    (decide (37500 ≤ (legalShunt m x).natAbs))

/-- What a sample leaves of M's registers. -/
structure Metered (m n : Metro) : Prop where
  calGen : n.calGen = m.calGen
  sealed_ : n.sealed_ = m.sealed_
  events : n.events = m.events
  journal : n.journal = m.journal
  stmtCtr : n.stmtCtr = m.stmtCtr
  overI : n.overI = m.overI
  overU : n.overU = m.overU

theorem countSample_metered (m : Metro) (i u : Int) : Metered m (countSample m i u) := by
  unfold countSample
  dsimp only
  split <;> exact ⟨rfl, rfl, rfl, rfl, rfl, rfl, rfl⟩

theorem sampled_metered (m : Metro) (x v : Int) : Metered m (sampled m x v) := by
  unfold sampled
  split
  · obtain ⟨a, b, c, d, e, f, g⟩ := countSample_metered m (legalCurrent m x) (legalVoltage m v)
    exact ⟨a, b, c, d, e, f, g⟩
  · exact ⟨rfl, rfl, rfl, rfl, rfl, rfl, rfl⟩

theorem registers_meterSample (m : Metro) (x v : Int) : registers (meterSample m x v) = sampled (registers m) x v := by
  have state : ∀ (n : Metro) (b : Bool), registers (stateSample n b) = stateSample (registers n) b := fun _ _ => rfl
  have counted : registers (if 37500 ≤ (legalShunt m x).natAbs then countSample m (legalCurrent m x) (legalVoltage m v) else m) =
      if 37500 ≤ (legalShunt m x).natAbs then countSample (registers m) (legalCurrent m x) (legalVoltage m v) else registers m := by
    rw [apply_ite registers, registers_countSample]
  have shunt : legalShunt (registers m) x = legalShunt m x := rfl
  have current : legalCurrent (registers m) x = legalCurrent m x := rfl
  have voltage : legalVoltage (registers m) v = legalVoltage m v := rfl
  unfold meterSample
  simp only [decide_eq_true_eq]
  rw [registers_voltage, state, registers_secondSample, registers_averageSample, registers_pulseSample, counted, sampled, shunt, current, voltage]

theorem overloadEnd_none {m : Metro} (hi : m.overI = false) (hu : m.overU = false) (oi ou : Bool) : overloadEnd m oi ou = m := by
  simp only [overloadEnd, hi, hu, Bool.false_and, Bool.false_eq_true, if_false]

theorem overloadBegin_none (s : State) : overloadBegin s false false = s := by
  simp only [overloadBegin, Bool.false_and, b2n, Bool.false_eq_true, if_false, if_true]

/-- The sample of a counting M. -/
theorem legalSample_counts {s : State} {x v : Int} (hm : s.part.hasM = true) (hc : mCounts s.metro = true) :
    exec (.legalSample x v) s = .next ((overloadBegin ((s.updM (takeSample · x v)).updM fun m => overloadEnd (meterSample m x v) (decide (37500000 < x.natAbs)) (decide (1200000000 < v.natAbs))) (decide (37500000 < x.natAbs)) (decide (1200000000 < v.natAbs))).updM overloadRun) := by
  have ha : mAnswers s.metro = true := by
    rw [mCounts, Bool.or_eq_true, beq_iff_eq, beq_iff_eq] at hc
    rcases hc with hc | hc <;> rw [mAnswers, hc] <;> rfl
  change execLegalSample x v s = _
  simp only [execLegalSample, hm, ha, hc, Bool.not_true, Bool.or_self, Bool.false_eq_true, if_false]

/-- A sample in range, with no overload open, is taken and metered. -/
theorem legalSample_inRange {s : State} {x v : Int} (hm : s.part.hasM = true) (hc : mCounts s.metro = true) (x0 : -37500000 ≤ x)
    (x1 : x ≤ 37500000) (v0 : -1200000000 ≤ v) (v1 : v ≤ 1200000000) (oi : s.metro.overI = false) (ou : s.metro.overU = false) :
    ∃ m, exec (.legalSample x v) s = .next { s with metro := m } ∧ registers m = sampled (registers s.metro) x v := by
  have hr : registers (meterSample (takeSample s.metro x v) x v) = sampled (registers s.metro) x v := by
    rw [registers_meterSample, registers_takeSample]
  have keeps := sampled_metered (registers s.metro) x v
  rw [← hr] at keeps
  have calm : (meterSample (takeSample s.metro x v) x v).overI = false ∧ (meterSample (takeSample s.metro x v) x v).overU = false :=
    ⟨keeps.overI.trans oi, keeps.overU.trans ou⟩
  refine ⟨overloadRun (meterSample (takeSample s.metro x v) x v), ?_, (registers_overloadRun _).trans hr⟩
  rw [legalSample_counts hm hc, decide_eq_false (by omega), decide_eq_false (by omega), overloadBegin_none]
  exact congrArg (fun m => Host.Outcome.next { s with metro := overloadRun m }) (overloadEnd_none calm.1 calm.2 false false)

/-- A sample of at least Ist counts. -/
theorem sampled_flows {m : Metro} {x v : Int} (h : 37500 ≤ (legalShunt m x).natAbs) :
    sampled (registers m) x v = stateSample (countSample (registers m) (legalCurrent m x) (legalVoltage m v)) true := by
  have h' : 37500 ≤ (legalShunt (registers m) x).natAbs := h
  rw [sampled, if_pos h', decide_eq_true h']
  rfl

/-- A smaller sample counts nothing. -/
theorem sampled_quiet {m : Metro} {x v : Int} (h : (legalShunt m x).natAbs < 37500) :
    sampled (registers m) x v = stateSample (registers m) false := by
  have h' : ¬37500 ≤ (legalShunt (registers m) x).natAbs := Nat.not_le.2 h
  rw [sampled, if_neg h', decide_eq_false h']

/-- Settles O43: the sample of a counting M, what it adds in each direction, and where M counts nothing. -/
theorem legalSamples : Obligations.LegalSamples := by
  refine fun s => ⟨fun x v => legalSample_counts, ?forward, ?backward, ?quiet, ?halted, ?silent⟩
  case forward =>
    intro x v hm hc x0 x1 v0 v1 oi ou hf hi
    obtain ⟨m, e, r⟩ := legalSample_inRange hm hc x0 x1 v0 v1 oi ou
    obtain ⟨calGen, sealed_, events, journal, stmtCtr, -, -⟩ := r ▸ sampled_metered (registers s.metro) x v
    have counted := r.trans (sampled_flows (v := v) hf)
    rw [countSample, if_pos hi] at counted
    exact ⟨_, e, (congrArg Metro.eimp counted :), (congrArg Metro.remEimp counted :), (congrArg Metro.qimp counted :), (congrArg Metro.remQimp counted :),
      (congrArg Metro.eexp counted :), (congrArg Metro.qexp counted :), (congrArg Metro.state counted :), rfl, rfl, rfl, rfl, calGen, sealed_, events, journal,
      stmtCtr⟩
  case backward =>
    intro x v hm hc x0 x1 v0 v1 oi ou hf hi
    obtain ⟨m, e, r⟩ := legalSample_inRange hm hc x0 x1 v0 v1 oi ou
    obtain ⟨calGen, sealed_, events, journal, stmtCtr, -, -⟩ := r ▸ sampled_metered (registers s.metro) x v
    have counted := r.trans (sampled_flows (v := v) hf)
    rw [countSample, if_neg (Int.not_le.2 hi)] at counted
    exact ⟨_, e, (congrArg Metro.eexp counted :), (congrArg Metro.remEexp counted :), (congrArg Metro.qexp counted :), (congrArg Metro.remQexp counted :),
      (congrArg Metro.eimp counted :), (congrArg Metro.qimp counted :), (congrArg Metro.state counted :), rfl, rfl, rfl, rfl, calGen, sealed_, events, journal,
      stmtCtr⟩
  case quiet =>
    intro x v hm hc x0 x1 v0 v1 oi ou hf
    obtain ⟨m, e, r⟩ := legalSample_inRange hm hc x0 x1 v0 v1 oi ou
    obtain ⟨calGen, sealed_, events, journal, stmtCtr, -, -⟩ := r ▸ sampled_metered (registers s.metro) x v
    have quiet := r.trans (sampled_quiet (v := v) hf)
    exact ⟨_, e, (congrArg Metro.eimp quiet :), (congrArg Metro.eexp quiet :), (congrArg Metro.qimp quiet :), (congrArg Metro.qexp quiet :),
      (congrArg Metro.state quiet :), (congrArg Metro.quietSamples quiet :), rfl, rfl, rfl, rfl, calGen, sealed_, events, journal, stmtCtr⟩
  case halted =>
    intro x v hm ha hc
    change execLegalSample x v s = _
    simp only [execLegalSample, hm, ha, hc, Bool.not_true, Bool.not_false, Bool.or_self, Bool.false_eq_true, if_false, if_true]
  case silent =>
    intro x v h
    refine congrArg Host.Outcome.next (if_pos ?_)
    rcases h with h | h
    · rw [h]
      rfl
    · rw [h]
      exact Bool.or_true _

end Sys2Proof.Machine
end

section
/-! The states of M, its journal, its calibration interface and its stream at C (R341 to R363). -/
namespace Sys2Proof.Machine

/-- M with its flags cleared at a start, with the newest good slot, its software and the logged cause. -/
def startedM (s : State) (k w : Nat) (i : Bool) : Metro :=
  mEvent 0x01 (le 1 k) { mClear (mFromJournal s.metro i) with swid := w % 2 ^ 32, state := .starting }

/-- A start of M as it stands after the event of an incomplete store. -/
def storeTold (s : State) (m : Metro) (i : Bool) : State :=
  if i then mRaise { s with metro := mEvent 0x03 (le 4 m.journalGen) m } 1 0x67 (m.journalGen % 65536) else { s with metro := m }

/-- A start of M ends in METERING or halted. -/
theorem mStart_fitted {s : State} (hm : s.part.hasM = true) (k e w : Nat) (i : Bool) :
    exec (.mStart k e i w) s = .next (mStartFaults
      (if (if e = 0 ∧ (storeTold s (startedM s k w i) i).metro.journal.isEmpty then 4 else e) = 0
       then (storeTold s (startedM s k w i) i).updM fun m => { m with state := .metering }
       else mHalt (storeTold s (startedM s k w i) i) (if e = 0 ∧ (storeTold s (startedM s k w i) i).metro.journal.isEmpty then 4 else e))) :=
  congrArg Host.Outcome.next (if_neg (withM hm))

/-- Settles O44, event by event. -/
theorem metrologyStates : Obligations.MetrologyStates := by
  refine fun s => ⟨?start, ?startEmpty, ?startFails, ?startAbsent, ?check, ?checkFails, ?checkNot, ?idle, ?idleNot, ?dormant, ?dormantNot, ?wake,
    ?wakeNot, ?store, ?storeNot, ?powerFail, ?powerFailNot⟩
  case start =>
    rintro k e w i m u hm rfl rfl he hj
    have ok : ¬(e = 0 ∧ (storeTold s (startedM s k w i) i).metro.journal.isEmpty = true) := fun c => hj (List.isEmpty_iff.1 c.2)
    rw [mStart_fitted hm, if_neg ok, if_pos he]
    rfl
  case startEmpty =>
    rintro k e w i m u hm rfl rfl he hj
    have none : e = 0 ∧ (storeTold s (startedM s k w i) i).metro.journal.isEmpty = true := ⟨he, List.isEmpty_iff.2 hj⟩
    rw [mStart_fitted hm, if_pos none, if_neg (by decide)]
    rfl
  case startFails =>
    rintro k e w i m u hm rfl rfl he
    have bad : ¬(e = 0 ∧ (storeTold s (startedM s k w i) i).metro.journal.isEmpty = true) := fun c => he c.1
    rw [mStart_fitted hm, if_neg bad, if_neg he]
    rfl
  case startAbsent => exact fun k e w i hm => congrArg Host.Outcome.next (if_pos (noM hm))
  case check =>
    intro k hm hc
    change execMPeriodicCheck 0 k s = _
    simp only [execMPeriodicCheck, hm, hc, Bool.not_true, Bool.or_self, Bool.false_eq_true, if_false, if_true]
  case checkFails =>
    intro e k hm hc he
    change execMPeriodicCheck e k s = _
    simp only [execMPeriodicCheck, hm, hc, Bool.not_true, Bool.or_self, Bool.false_eq_true, if_false, if_neg he]
    rfl
  case checkNot =>
    intro e k hn
    refine congrArg Host.Outcome.next (if_pos ?_)
    rcases hn with hn | hn <;> simp [hn]
  case idle => exact fun hm hs hq => congrArg Host.Outcome.next (if_pos ⟨hm, hs, hq⟩)
  case idleNot =>
    refine fun hn => congrArg Host.Outcome.next (if_neg ?_)
    rintro ⟨hm, hs, hq⟩
    rcases hn with hn | hn | hn
    · exact Bool.false_ne_true (hn.symm.trans hm)
    · exact hn hs
    · exact Nat.not_le.2 hn hq
  case dormant => exact fun hm hs hq => congrArg Host.Outcome.next (if_pos ⟨hm, hs, hq⟩)
  case dormantNot =>
    refine fun hn => congrArg Host.Outcome.next (if_neg ?_)
    rintro ⟨hm, hs, hq⟩
    rcases hn with hn | hn | hn
    · exact Bool.false_ne_true (hn.symm.trans hm)
    · exact hn hs
    · exact Nat.not_le.2 hn hq
  case wake => exact fun k hm hs hw => congrArg Host.Outcome.next (if_pos ⟨hm, hs, hw⟩)
  case wakeNot =>
    refine fun k hn => congrArg Host.Outcome.next (if_neg ?_)
    rintro ⟨hm, hs, hw⟩
    rcases hn with hn | hn | hn
    · exact Bool.false_ne_true (hn.symm.trans hm)
    · exact hn hs
    · exact Bool.false_ne_true (hn.symm.trans hw)
  case store => exact fun hm hc hd ht => congrArg Host.Outcome.next (if_pos ⟨hm, hc, hd, ht⟩)
  case storeNot =>
    refine fun hn => congrArg Host.Outcome.next (if_neg ?_)
    rintro ⟨hm, hc, hd, ht⟩
    rcases hn with hn | hn | hn | hn
    · exact Bool.false_ne_true (hn.symm.trans hm)
    · exact Bool.false_ne_true (hn.symm.trans hc)
    · exact Bool.false_ne_true (hn.symm.trans hd)
    · exact Nat.not_le.2 hn ht
  case powerFail => exact fun hm hc => congrArg Host.Outcome.next (if_pos ⟨hm, hc⟩)
  case powerFailNot =>
    refine fun hn => congrArg Host.Outcome.next (if_neg ?_)
    rintro ⟨hm, hc⟩
    rcases hn with hn | ⟨h1, h2⟩
    · exact Bool.false_ne_true (hn.symm.trans hm)
    · exact hc.elim (fun c => Bool.false_ne_true (h1.symm.trans c)) h2

/-- Settles O45, event by event. -/
theorem sealAndCalibration : Obligations.SealAndCalibration := by
  refine fun s => ⟨?read, ?readBad, ?readNot, ?point, ?pointNot, ?doneCurrent, ?doneVoltage, ?doneNot, ?store, ?storeNot, ?authority,
    ?authorityNot, ?sealing, ?sealNot, ?unsealing, ?unsealNot, ?access, ?accessNot⟩
  case read =>
    intro a n l hu hr
    change execMetroCalRead a n s = _
    simp only [execMetroCalRead, hu, Bool.not_true, Bool.false_eq_true, if_false, State.updM, hr]
  case readBad =>
    intro a n hu hr
    change execMetroCalRead a n s = _
    simp only [execMetroCalRead, hu, Bool.not_true, Bool.false_eq_true, if_false, State.updM, hr]
  case readNot => exact fun a n hu => congrArg Host.Outcome.next (if_pos (by rw [hu]; rfl))
  case point => exact fun x v hu hs hx => congrArg Host.Outcome.next (if_pos ⟨hu, hs, hx⟩)
  case pointNot =>
    refine fun x v hn => congrArg Host.Outcome.next (if_neg ?_)
    rintro ⟨hu, hs, hx⟩
    rcases hn with hn | hn | hn
    · exact Bool.false_ne_true (hn.symm.trans hu)
    · exact Bool.false_ne_true (hs.symm.trans hn)
    · exact Nat.not_le.2 hn hx
  case doneCurrent =>
    intro a hu hn hp
    change execMetroCalPointDone 0 s = _
    simp only [execMetroCalPointDone, hu, decide_eq_false (Nat.not_lt.2 hn), hp, Option.map_some, bne_self_eq_false, Bool.not_true, Bool.or_self,
      Bool.false_eq_true, if_false, State.updM]
  case doneVoltage =>
    intro a hu hn hp
    change execMetroCalPointDone 1 s = _
    simp only [execMetroCalPointDone, hu, decide_eq_false (Nat.not_lt.2 hn), hp, Option.map_some, bne_self_eq_false, Bool.not_true, Bool.or_self,
      Bool.false_eq_true, if_false, State.updM]
  case doneNot =>
    refine fun x hn => congrArg Host.Outcome.next (if_pos ?_)
    rcases hn with hn | hn | hn <;> simp [hn]
  case store =>
    intro r k a b hu hs hc
    change execCalStore s = _
    simp only [execCalStore, hu, hs, hc, Bool.not_true, Bool.or_self, Bool.false_eq_true, if_false]
  case storeNot =>
    intro hn
    change execCalStore s = _
    rcases hn with hn | hn | hn
    · simp only [execCalStore, hn, Bool.not_false, Bool.true_or, if_true]
    · simp only [execCalStore, hn, Bool.or_true, if_true]
    · simp only [execCalStore, hn, ite_self]
  case authority =>
    intro l hu hs hl ha
    exact congrArg Host.Outcome.next (if_pos ⟨hu, hs, hl, ha.imp_left List.isEmpty_iff.2⟩)
  case authorityNot =>
    refine fun l hn => congrArg Host.Outcome.next (if_neg ?_)
    rintro ⟨hu, hs, -, ha⟩
    rcases hn with hn | hn | ⟨h1, h2⟩
    · exact Bool.false_ne_true (hn.symm.trans hu)
    · exact Bool.false_ne_true (hs.symm.trans hn)
    · exact ha.elim (fun c => h1 (List.isEmpty_iff.1 c)) fun c => Bool.false_ne_true (h2.symm.trans c)
  case sealing => exact fun hu hs hc ha => congrArg Host.Outcome.next (if_pos ⟨hu, hs, hc, List.isEmpty_eq_false_iff.2 ha⟩)
  case sealNot =>
    refine fun hn => congrArg Host.Outcome.next (if_neg ?_)
    rintro ⟨hu, hs, hc, ha⟩
    rcases hn with hn | hn | hn | hn
    · exact Bool.false_ne_true (hn.symm.trans hu)
    · exact Bool.false_ne_true (hs.symm.trans hn)
    · exact hc hn
    · exact List.isEmpty_eq_false_iff.1 ha hn
  case unsealing =>
    intro l hu hs
    exact congrArg Host.Outcome.next (by simp only [hu, hs, true_and])
  case unsealNot =>
    refine fun l hn => congrArg Host.Outcome.next (if_neg ?_)
    rintro ⟨hu, hs, -⟩
    exact hn.elim (fun h => Bool.false_ne_true (h.symm.trans hu)) fun h => Bool.false_ne_true (h.symm.trans hs)
  case access =>
    intro l hu
    exact congrArg Host.Outcome.next (by simp only [hu, true_and])
  case accessNot => exact fun l hu => congrArg Host.Outcome.next (if_neg fun c => Bool.false_ne_true (hu.symm.trans c.1))

/-- A stream frame that is due, while C hears it. -/
theorem streamFrame_due {s : State} (hu : cUp s = true) (hm : s.part.hasM = true) (ha : mAnswers s.metro = true)
    (hl : s.mport.lastSample ≠ some s.metro.sample) :
    (!cUp s || !s.part.hasM || !mAnswers s.metro || s.mport.lastSample == some s.metro.sample) = false := by
  rw [hu, hm, ha, beq_eq_false_iff_ne.2 hl]
  rfl

/-- Settles O46, event by event. -/
theorem currentStream : Obligations.CurrentStream := by
  refine fun s => ⟨?bad, ?good, ?frameNot, ?lost, ?lostNot, ?restored, ?restoredNot, ?poll, ?pollSilent, ?pollNot⟩
  case bad =>
    intro i n p v m k hu hm ha hl hc
    refine congrArg Host.Outcome.next ((if_neg ?_).trans (if_pos hc))
    rw [streamFrame_due hu hm ha hl]
    exact Bool.false_ne_true
  case good =>
    intro i n p v m hu hm ha hl
    refine congrArg Host.Outcome.next ((if_neg ?_).trans (if_neg (not_not_intro rfl)))
    rw [streamFrame_due hu hm ha hl]
    exact Bool.false_ne_true
  case frameNot =>
    refine fun i n p v m k hn => congrArg Host.Outcome.next (if_pos ?_)
    rcases hn with hn | hn | hn | hn <;> simp [hn]
  case lost => exact fun hu hm ht => congrArg Host.Outcome.next (if_pos ⟨hu, hm, ht⟩)
  case lostNot =>
    refine fun hn => congrArg Host.Outcome.next (if_neg ?_)
    rintro ⟨hu, hm, ht⟩
    rcases hn with hn | hn | hn
    · exact Bool.false_ne_true (hn.symm.trans hu)
    · exact Bool.false_ne_true (hn.symm.trans hm)
    · exact Nat.not_le.2 hn ht
  case restored =>
    intro k hu hw hg ht
    exact congrArg Host.Outcome.next (if_pos ⟨hu, hw, by rw [hg, Option.any_some, decide_eq_true ht]⟩)
  case restoredNot =>
    refine fun hn => congrArg Host.Outcome.next (if_neg ?_)
    rintro ⟨hu, hw, hg⟩
    rcases hn with hn | hn | hn
    · exact Bool.false_ne_true (hn.symm.trans hu)
    · exact Bool.false_ne_true (hn.symm.trans hw)
    · exact Bool.false_ne_true (hn.symm.trans hg)
  case poll =>
    intro hu hm ht hs ha
    refine congrArg Host.Outcome.next ((if_pos ⟨hu, hm, ht, hs⟩).trans ?_)
    rw [if_pos ha]
  case pollSilent =>
    intro hu hm ht hs ha
    refine congrArg Host.Outcome.next ((if_pos ⟨hu, hm, ht, hs⟩).trans ?_)
    rw [if_neg (Bool.eq_false_iff.1 ha)]
  case pollNot =>
    refine fun hn => congrArg Host.Outcome.next (if_neg ?_)
    rintro ⟨hu, hm, ht, hs⟩
    rcases hn with hn | hn | hn | hn
    · exact Bool.false_ne_true (hn.symm.trans hu)
    · exact Bool.false_ne_true (hn.symm.trans hm)
    · exact Nat.not_le.2 hn ht
    · exact hn hs

end Sys2Proof.Machine
end

section
/-! Safety sessions and the commands of class 0x09 (R387 to R400). -/
namespace Sys2Proof.Machine

/-! A command with a proof (R388). -/

/-- A served command whose proof is not accepted answers AUTH_FAILED. -/
theorem proof_refused {s : State} {h : Hdr} {op : Nat} {pre : List Byte} {p : Proof} (g : served s h op) (hp : proofGood s h op pre p = false)
    (body : State → State) :
    (Host.Outcome.next (runCmd s h op fun s => withProof s h op pre p body) : Host.Outcome State Fault Refusal) =
      .next (answeredCmd s h op stAuthFailed []) := by
  refine run_served g ((if_neg ?_).trans (refuse_answered s h op _ (by decide)))
  rw [proofGood_of_dequeue, hp]
  exact Bool.false_ne_true

/-- A served command whose proof is accepted does what its body does after the proof has counted. -/
theorem proof_accepted {s : State} {h : Hdr} {op : Nat} {pre : List Byte} {p : Proof} (g : served s h op) (hp : proofGood s h op pre p = true)
    {body : State → State} {u : State} (e : body (useProof (dequeue s h op) h p) = u) :
    (Host.Outcome.next (runCmd s h op fun s => withProof s h op pre p body) : Host.Outcome State Fault Refusal) = .next u :=
  run_served g ((if_pos (show proofGood (dequeue s h op) h op pre p = true from hp)).trans e)

/-- An accepted proof moves the count and the time of its session. -/
theorem sessionOf_useProof (s : State) (h : Hdr) (p : Proof) (k : Nat) :
    sessionOf (useProof s h p) k =
      (sessionOf s k).map fun x => if x.head == headOf h then { x with lastN := p.count, lastProof := s.now } else x := by
  have same : ∀ x : Session, (if x.head == headOf h then { x with lastN := p.count, lastProof := s.now } else x).head = x.head :=
    fun x => by split <;> rfl
  simp only [sessionOf, useProof, upd, List.find?_map, Function.comp_def, same]

theorem sessionHost_useProof (s : State) (h : Hdr) (p : Proof) (k : Hdr) : sessionHost (useProof s h p) k = sessionHost s k := by
  rw [sessionHost, sessionOf_useProof, Option.map_map, sessionHost]
  congr 2
  funext x
  simp only [Function.comp_apply]
  split <;> rfl

theorem stagingOf_useProof (s : State) (h : Hdr) (p : Proof) (k : Hdr) : stagingOf (useProof s h p) k = stagingOf s k := by
  rw [stagingOf, sessionOf_useProof, Option.bind_map, stagingOf]
  refine congrArg (Option.getD · s.safety.image) (congrArg (Option.bind (sessionOf s (headOf k))) (funext fun x => ?_))
  simp only [Function.comp_apply]
  split <;> rfl

theorem commitLog_useProof (s : State) (h : Hdr) (p : Proof) (k : Hdr) (l : List Byte) (n : Nat) :
    commitLog (useProof s h p) k l n = commitLog s k l n := by
  rw [commitLog, sessionHost_useProof, commitLog]
  rfl

/-- Settles O47, command by command. -/
theorem safetySessions : Obligations.SafetySessions := by
  refine fun s => ⟨?locked, ?wrong, ?login, ?logout, ?logoutBad, ?stageBad, ?commitBad, ?passwordBad, ?outputsBad, ?decideBad, ?releaseBad,
    ?passwordForm, ?password, ?passwordOld, ?timeout, ?lockEnd, ?lockRuns⟩
  case locked =>
    intro h a l g hl
    exact run_served g ((if_pos hl).trans (refuse_answered s h _ _ (by decide)))
  case wrong =>
    intro h a l g hl hw
    refine run_served g ((if_neg (Bool.eq_false_iff.1 hl)).trans ((if_pos hw).trans ?_))
    exact refuse_plain _ h _ _ (by decide)
  case login =>
    intro h a g hl
    exact run_served g ((if_neg (Bool.eq_false_iff.1 hl)).trans (if_neg (not_not_intro rfl)))
  case logout => exact fun h p g hp => proof_accepted g hp rfl
  case logoutBad => exact fun h p g hp => proof_refused g hp _
  case stageBad => exact fun h p n l g hp => proof_refused g hp _
  case commitBad => exact fun h p n g hp => proof_refused g hp _
  case passwordBad => exact fun h p a l g hp => proof_refused g hp _
  case outputsBad => exact fun h p m a g hp => proof_refused g hp _
  case decideBad => exact fun h p n g hp => proof_refused g hp _
  case releaseBad => exact fun h p n g hp => proof_refused g hp _
  case passwordForm => exact fun h p a l g hp hl => proof_accepted g hp (if_pos (by rw [hl]; rfl))
  case password =>
    intro h p l g hp hl
    refine proof_accepted g hp ((if_neg (by rw [hl]; exact Bool.false_ne_true)).trans ((if_neg (not_not_intro rfl)).trans ?_))
    rw [sessionHost_useProof]
    rfl
  case passwordOld =>
    intro h p a l g hp hl ha
    refine proof_accepted g hp ((if_neg (by rw [hl]; exact Bool.false_ne_true)).trans ((if_pos ha).trans ?_))
    rw [sessionHost_useProof]
    exact refuse_plain _ h _ _ (by decide)
  case timeout => exact fun n => rfl
  case lockEnd =>
    intro k hk ht
    change execLoginLockEnd s = _
    simp only [execLoginLockEnd, hk, if_pos ht]
  case lockRuns =>
    intro hn
    change execLoginLockEnd s = _
    rw [execLoginLockEnd]
    split
    · next k hk =>
      rw [hk, Option.any_some, decide_eq_false_iff_not] at hn
      rw [if_neg hn]
    · rfl

theorem outputsByte_wdArm (s : State) : outputsByte (wdArm s) = outputsByte s := by
  unfold wdArm
  split <;> rfl

/-- Settles O48, command by command. -/
theorem safetyCommands : Obligations.SafetyCommands := by
  refine fun s => ⟨?read, ?readStaging, ?stage, ?noPassword, ?wrongCrc, ?commit, ?apply, ?applyNot, ?opens, ?closeRefused, ?closes, ?noGrace,
    ?decideOther, ?decideOpen, ?status, ?log, ?noLatch, ?early, ?release⟩
  case read =>
    intro h w g hw
    refine run_served g ?_
    rw [if_neg hw]
    rfl
  case readStaging => exact fun h g => run_served g rfl
  case stage =>
    intro h p n l g hp
    refine proof_accepted g hp ?_
    rw [stagingOf_useProof]
    rfl
  case noPassword =>
    intro h p n g hp hw
    exact proof_accepted g hp ((if_pos hw).trans (refuse_plain _ h _ _ (by decide)))
  case wrongCrc =>
    intro h p n g hp hw hc
    refine proof_accepted g hp ((if_neg hw).trans ((if_pos ?_).trans (refuse_plain _ h _ _ (by decide))))
    rw [stagingOf_useProof]
    exact hc
  case commit =>
    intro h p n g hp c hw hc
    refine proof_accepted g hp ((if_neg hw).trans ((if_neg ?_).trans ?_))
    · rw [stagingOf_useProof]
      exact not_not_intro hc
    · refine (startOp_opens (useProof s h p) h _ _ c).trans ?_
      have e : commitLog (openedCmd (useProof s h p) h 0x0905) h (stagingOf s h) (s.safety.gen + 1) =
          commitLog s h (stagingOf s h) (s.safety.gen + 1) := commitLog_useProof s h p h _ _
      rw [stagingOf_useProof, ← e]
      rfl
  case apply =>
    intro q hq
    change execSafetyConfigApply s = _
    simp only [execSafetyConfigApply, hq]
  case applyNot =>
    intro hq
    change execSafetyConfigApply s = _
    simp only [execSafetyConfigApply, hq]
  case opens => exact fun h p m a g hp ha => proof_accepted g hp (if_neg ha)
  case closeRefused => exact fun h p m g hp hc => proof_accepted g hp (if_pos hc)
  case closes =>
    intro h p m g hp hc
    refine proof_accepted g hp ((if_neg (not_not_intro hc)).trans ?_)
    dsimp only
    split
    · rfl
    · rw [outputsByte_wdArm]
  case noGrace =>
    intro h p n g hp hn
    refine proof_accepted g hp ((if_pos ?_).trans (refuse_plain _ h _ _ (by decide)))
    rw [show (useProof (dequeue s h 0x0908) h p).stage = s.stage from rfl, hn]
    rfl
  case decideOther =>
    intro h p n g hp hn h1
    refine proof_accepted g hp ((if_neg ?_).trans (if_neg h1))
    rw [show (useProof (dequeue s h 0x0908) h p).stage = s.stage from rfl, hn]
    exact Bool.false_ne_true
  case decideOpen =>
    intro h p g hp hn
    refine proof_accepted g hp ((if_neg ?_).trans (if_pos rfl))
    rw [show (useProof (dequeue s h 0x0908) h p).stage = s.stage from rfl, hn]
    exact Bool.false_ne_true
  case status => exact fun h g => run_served g rfl
  case log => exact fun h f n g => run_served g rfl
  case noLatch =>
    intro h p n g hp hn
    refine proof_accepted g hp ?_
    split
    · next i hi =>
      split at hi
      · next h1 =>
        have ha : inputAt s n = some i := hi
        rcases hn with hn | hn | hn
        · omega
        · exact nomatch hn.symm.trans ha
        · rw [ha, Option.any_some] at hn
          exact (if_pos (by rw [hn]; rfl)).trans (refuse_plain _ h _ _ (by decide))
      · exact nomatch hi
    · exact refuse_plain _ h _ _ (by decide)
  case early =>
    intro h p n i g hp h1 hi hc hn
    refine proof_accepted g hp ?_
    simp only [if_pos h1, show inputAt (useProof (dequeue s h 0x090B) h p) n = some i from hi, hc, Bool.not_true, Bool.false_eq_true, if_false]
    refine (if_pos ?_).trans (refuse_plain _ h _ _ (by decide))
    rcases hn with hn | hn
    · rw [show inOperate (useProof (dequeue s h 0x090B) h p) i = false from hn]
      rfl
    · rw [decide_eq_true (show (useProof (dequeue s h 0x090B) h p).now < _ from hn), Bool.or_true]
  case release =>
    intro h p n i g hp h1 hi hc ho ht
    refine proof_accepted g hp ?_
    simp only [if_pos h1, show inputAt (useProof (dequeue s h 0x090B) h p) n = some i from hi, hc, Bool.not_true, Bool.false_eq_true, if_false]
    refine if_neg ?_
    rw [show inOperate (useProof (dequeue s h 0x090B) h p) i = true from ho,
      decide_eq_false (show ¬(useProof (dequeue s h 0x090B) h p).now < _ from Nat.not_lt.2 ht)]
    exact Bool.false_ne_true

end Sys2Proof.Machine
end

section
/-! The safety stage: inputs, test pulses, the interlock loop, feedback, and its clock (R365 to R383). -/
namespace Sys2Proof.Machine

/-- The feedback check of output 1 outside a test, 2 ms after its switching. -/
theorem feedback_first (s : State) (b : Bool) (ht : s.stage.test1 = none) (hn : s.stage.at1 + 2 * msT ≤ s.now) :
    execSoFeedbackCheck 1 b s = .next (finishClear (if s.stage.so1 && !b then stuckOff (setFb s 1 b) 1
      else if !s.stage.so1 && b then stuckOn (setFb s 1 b) 1 else setFb s 1 b)) :=
  congrArg Host.Outcome.next ((if_neg fun c => c.1 rfl).trans (if_neg (by
    rw [if_pos rfl, if_pos rfl, ht, decide_eq_false (Nat.not_lt.2 hn)]
    exact Bool.false_ne_true)))

/-- The feedback check of output 2 outside a test, 2 ms after its switching. -/
theorem feedback_second (s : State) (b : Bool) (ht : s.stage.test2 = none) (hn : s.stage.at2 + 2 * msT ≤ s.now) :
    execSoFeedbackCheck 2 b s = .next (finishClear (if s.stage.so2 && !b then stuckOff (setFb s 2 b) 2
      else if !s.stage.so2 && b then stuckOn (setFb s 2 b) 2 else setFb s 2 b)) :=
  congrArg Host.Outcome.next ((if_neg fun c => c.2 rfl).trans (if_neg (by
    rw [if_neg (by decide), if_neg (by decide), ht, decide_eq_false (Nat.not_lt.2 hn)]
    exact Bool.false_ne_true)))

/-- A channel change that the filter recognises is judged with its pair. -/
theorem channelChange_recognised (s : State) (n k m : Nat) (b : Bool) (i j : SInput) (r : SInput × Bool) (hi : inputAt s n = some i) (h1 : 1 ≤ n)
    (h4 : n ≤ 4) (hb : (if k = 0 then i.chA else i.chB) ≠ b) (hm : filterSamples s n ≤ m) (hr : r = channelSet s.now (inDisc s n) k b i)
    (hj : j = { r.1 with
      bothSafe := r.1.bothSafe || (r.1.latched && !r.1.chA && !r.1.chB)
      operateAt := if inOperate s r.1 && !inOperate s i then s.now else r.1.operateAt }) :
    execSafetyChannelChange n k ⟨b, m⟩ s = .next (
      if inFunc s n = 0 then updInput s n fun _ => { j with firstCh := none }
      else
        let u := updInput s n fun _ => { j with crash := j.crash || (inOperate s i && !b && inFunc s n == 3) }
        let v := if inOperate s i && !b then raise u 0 7 0x70 (256 * n + inFunc s n) else u
        if r.2 then discrepancy v n (if j.firstCh == some k then 1 - k else k) else v) := by
  subst hj
  subst hr
  simp only [execSafetyChannelChange, if_pos (⟨h1, h4⟩ : 1 ≤ n ∧ n ≤ 4), hi]
  exact congrArg Host.Outcome.next (if_neg (not_or.2 ⟨hb, Nat.not_lt.2 hm⟩))

/-- A slot of the loop while it is enabled: the counts, and the first of the three faults that they reach. -/
theorem hvilSlot_enabled (s : State) (a b : Nat) (l : Bool) (c : Stage) (he : hvilEn s = true) (hc : c = hvilCounts s a b l) :
    execHvilSlot a b l s = .next (
      let v := if c.hvilHigh = 2 then 4 else if c.hvilLow = 2 then 3 else if c.hvilMiss = cfg8 s 17 then 2 else 0
      let u : State := { s with stage := { c with hvil := if v ≠ 0 then v else if c.hvilGood = 16 then 1 else max 1 c.hvil } }
      if v = 4 then raise u 0 7 0x75 1 else if v = 3 then raise u 0 7 0x75 0 else if v = 2 then raise u 0 7 0x74 0 else u) := by
  subst hc
  exact congrArg Host.Outcome.next (if_neg (by rw [he]; exact Bool.false_ne_true))

/-- The third fault of a slot: the pulses missed. -/
theorem hvilSlot_open (s : State) (a b : Nat) (l : Bool) (c : Stage) (he : hvilEn s = true) (hc : c = hvilCounts s a b l) (h1 : c.hvilHigh ≠ 2)
    (h2 : c.hvilLow ≠ 2) (h3 : c.hvilMiss = cfg8 s 17) :
    execHvilSlot a b l s = .next (raise { s with stage := { c with hvil := 2 } } 0 7 0x74 0) := by
  rw [hvilSlot_enabled s a b l c he hc, if_neg h1, if_neg h2, if_pos h3]
  rfl

/-- A slot without a fault. -/
theorem hvilSlot_quiet (s : State) (a b : Nat) (l : Bool) (c : Stage) (he : hvilEn s = true) (hc : c = hvilCounts s a b l) (h1 : c.hvilHigh ≠ 2)
    (h2 : c.hvilLow ≠ 2) (h3 : c.hvilMiss ≠ cfg8 s 17) :
    execHvilSlot a b l s = .next { s with stage := { c with hvil := if c.hvilGood = 16 then 1 else max 1 c.hvil } } := by
  rw [hvilSlot_enabled s a b l c he hc, if_neg h1, if_neg h2, if_neg h3]
  rfl

/-- The counts after a slot whose pulse came back. -/
theorem hvilCounts_returned (s : State) (a b : Nat) (ha : cfg8 s 18 ≤ 2 * a) (hb : 2 * b < cfg8 s 18) (he : emptySlot s = false) :
    hvilCounts s a b false =
      { s.stage with hvilMiss := 0, hvilHigh := 0, hvilLow := 0, hvilGood := min 16 (s.stage.hvilGood + 1) } := by
  simp only [hvilCounts, he, decide_eq_true ha, decide_eq_false (Nat.not_le.2 hb), Bool.not_false, Bool.not_true, Bool.and_false, Bool.and_true,
    Bool.or_false, Bool.false_eq_true, if_false, if_true]

/-- The counts after a slot whose pulse was missed, the loop's low end apart. -/
theorem hvilCounts_missed (s : State) (a b : Nat) (ha : 2 * a < cfg8 s 18) (hb : 2 * b < cfg8 s 18) (he : emptySlot s = false) :
    hvilCounts s a b false =
      { s.stage with hvilMiss := s.stage.hvilMiss + 1, hvilHigh := 0, hvilLow := 0, hvilGood := 0 } := by
  simp only [hvilCounts, he, decide_eq_false (Nat.not_le.2 ha), decide_eq_false (Nat.not_le.2 hb), Bool.not_false, Bool.not_true, Bool.and_false,
    Bool.and_true, Bool.or_false, Bool.false_eq_true, if_false, if_true]

/-- The end of a test of output 1 that is due. -/
theorem testEnd_first (s : State) (k : Tick) (l g : Bool) (hk : s.stage.test1 = some k)
    (hn : k + cfg8 s 14 * 10 * usT + (if l && !g then 200 * usT else 0) ≤ s.now) :
    execOffPulseTestEnd 1 l g s = .next (
      let u := setFb (endTest s 1) 1 g
      if !l then stuckOn u 1 else if !g then stuckOff u 1 else u) := by
  simp only [execOffPulseTestEnd, if_true, hk]
  exact congrArg Host.Outcome.next (if_neg (Nat.not_lt.2 hn))

/-- The end of a test of output 2 that is due. -/
theorem testEnd_second (s : State) (k : Tick) (l g : Bool) (hk : s.stage.test2 = some k)
    (hn : k + cfg8 s 14 * 10 * usT + (if l && !g then 200 * usT else 0) ≤ s.now) :
    execOffPulseTestEnd 2 l g s = .next (
      let u := setFb (endTest s 2) 2 g
      if !l then stuckOn u 2 else if !g then stuckOff u 2 else u) := by
  simp only [execOffPulseTestEnd, if_neg (by decide : ¬2 = 1), if_true, hk]
  exact congrArg Host.Outcome.next (if_neg (Nat.not_lt.2 hn))

/-- Settles O49, event by event. -/
theorem safetyStage : Obligations.SafetyStage := by
  refine fun s => ⟨?disabled, ?judged, ?first, ?unrecognised, ?noInput, ?lag, ?noLag, ?pulseA, ?pulseB, ?overload, ?loopOff, ?shortHigh,
    ?shortLow, ?loopOpen, ?loopGood, ?returned, ?missed, ?off1, ?high1, ?on1, ?low1, ?off2, ?high2, ?on2, ?low2, ?early1, ?early2, ?test1, ?test2,
    ?noTest1, ?noTest2, ?end1, ?end2, ?noEnd1, ?noEnd2, ?clock, ?clockBad, ?grace, ?graceGone, ?graceNone⟩
  case disabled =>
    intro n k m b i j r hi h1 h4 hb hm hr hj hf
    exact (channelChange_recognised s n k m b i j r hi h1 h4 hb hm hr hj).trans (congrArg Host.Outcome.next (if_pos hf))
  case judged =>
    intro n k m b i j r u v hi h1 h4 hb hm hr hj hf hu hv
    subst hv
    subst hu
    exact (channelChange_recognised s n k m b i j r hi h1 h4 hb hm hr hj).trans (congrArg Host.Outcome.next (if_neg hf))
  case first =>
    intro n m i hi h1 h4 hf hm ha hb hl hc oa ob
    have was : inOperate s i = true := by simp only [inOperate, ha, hb, hl, oa, ob]; rfl
    have hs : filterSamples s n ≤ m := by rw [filterSamples, hf]; exact hm
    have hr : channelSet s.now (inDisc s n) 0 false i = ({ i with chA := false, firstCh := some 0, firstAt := s.now }, false) := by
      simp only [channelSet, if_true, hc, hb, Bool.false_eq_true, if_false]
    refine (channelChange_recognised s n 0 m false i _ _ hi h1 h4 (by rw [if_pos rfl, ha]; decide) hs hr.symm rfl).trans
      (congrArg Host.Outcome.next ((if_neg (by rw [hf]; decide)).trans ?_))
    simp only [was, hf, hl, Bool.not_false, Bool.and_self, if_true, Bool.false_and, Bool.or_false, Bool.false_eq_true, if_false, Bool.not_true,
      Bool.and_false, Nat.reduceBEq]
  case unrecognised =>
    intro n k m b i hi h1 h4 hb
    change execSafetyChannelChange n k ⟨b, m⟩ s = _
    simp only [execSafetyChannelChange, if_pos (⟨h1, h4⟩ : 1 ≤ n ∧ n ≤ 4), hi]
    exact congrArg Host.Outcome.next (if_pos hb)
  case noInput =>
    intro n k m b hn
    change execSafetyChannelChange n k ⟨b, m⟩ s = _
    have none_ : (if 1 ≤ n ∧ n ≤ 4 then inputAt s n else none) = none := by
      split
      · exact hn.elim (by omega) fun h => h.elim (by omega) id
      · rfl
    rw [execSafetyChannelChange, none_]
  case lag =>
    intro n k i hi h1 h4 hk ht
    change execSiDiscrepancy n s = _
    simp only [execSiDiscrepancy, if_pos (⟨h1, h4⟩ : 1 ≤ n ∧ n ≤ 4), hi, hk, if_pos ht]
  case noLag =>
    intro n h1 h4 hn
    change execSiDiscrepancy n s = _
    simp only [execSiDiscrepancy, if_pos (⟨h1, h4⟩ : 1 ≤ n ∧ n ≤ 4)]
    cases hi : inputAt s n with
    | none => rfl
    | some i =>
      rw [hi, Option.any_some] at hn
      cases hk : i.firstCh with
      | none => simp only [hk]
      | some k =>
        rw [hk, Option.isSome_some, Bool.true_and, decide_eq_false_iff_not] at hn
        simp only [hk, if_neg hn]
  case pulseA =>
    intro a b
    change execTestPulse 0 a b s = _
    simp only [execTestPulse, Nat.zero_mod, decide_false, decide_true, Bool.and_false, Bool.and_true, zero_ne_one]
  case pulseB =>
    intro a b
    change execTestPulse 1 a b s = _
    simp only [execTestPulse, Nat.one_mod, decide_false, decide_true, Bool.and_false, Bool.and_true, one_ne_zero]
  case overload =>
    intro n
    change execTpOverload n s = _
    have mask : [1, 2, 3, 4].foldl (fun m n => m ||| inputOpens s n) 0 =
        ((inputOpens s 1 ||| inputOpens s 2) ||| inputOpens s 3) ||| inputOpens s 4 := by
      simp only [List.foldl_cons, List.foldl_nil, Nat.zero_or]
    rw [← mask]
    rfl
  case loopOff => exact fun a b l he => congrArg Host.Outcome.next (if_pos (by rw [he]; rfl))
  case shortHigh =>
    intro a b l c he hc h1
    refine (hvilSlot_enabled s a b l c he hc).trans ?_
    rw [if_pos h1]
    rfl
  case shortLow =>
    intro a b l c he hc h1 h2
    refine (hvilSlot_enabled s a b l c he hc).trans ?_
    rw [if_neg h1, if_pos h2]
    rfl
  case loopOpen => exact hvilSlot_open s
  case loopGood => exact hvilSlot_quiet s
  case returned =>
    intro a b he ha hb hs h17 hg
    have hc := hvilCounts_returned s a b ha hb hs
    rw [Nat.min_eq_right (by omega)] at hc
    refine (hvilSlot_quiet s a b false _ he hc.symm (Nat.zero_ne_add_one 1) (Nat.zero_ne_add_one 1) (Nat.ne_of_lt (Nat.lt_of_lt_of_le Nat.zero_lt_two h17))).trans ?_
    simp only [if_neg (by omega : ¬s.stage.hvilGood + 1 = 16)]
  case missed =>
    intro a b he ha hb hs hm
    exact (hvilSlot_open s a b false _ he (hvilCounts_missed s a b ha hb hs).symm (Nat.zero_ne_add_one 1) (Nat.zero_ne_add_one 1) hm).trans rfl
  case off1 =>
    intro ho ht hn
    refine (feedback_first s false ht hn).trans ?_
    rw [ho]
    rfl
  case high1 =>
    intro ho ht hn
    refine (feedback_first s true ht hn).trans ?_
    rw [ho]
    rfl
  case on1 =>
    intro ho ht hn
    refine (feedback_first s true ht hn).trans ?_
    rw [ho]
    rfl
  case low1 =>
    intro ho ht hn
    refine (feedback_first s false ht hn).trans ?_
    rw [ho]
    rfl
  case off2 =>
    intro ho ht hn
    refine (feedback_second s false ht hn).trans ?_
    rw [ho]
    rfl
  case high2 =>
    intro ho ht hn
    refine (feedback_second s true ht hn).trans ?_
    rw [ho]
    rfl
  case on2 =>
    intro ho ht hn
    refine (feedback_second s true ht hn).trans ?_
    rw [ho]
    rfl
  case low2 =>
    intro ho ht hn
    refine (feedback_second s false ht hn).trans ?_
    rw [ho]
    rfl
  case early1 =>
    intro b hn
    refine congrArg Host.Outcome.next ((if_neg fun c => c.1 rfl).trans (if_pos ?_))
    rw [Bool.or_eq_true, decide_eq_true_iff, if_pos rfl, if_pos rfl, Option.isSome_iff_ne_none]
    exact hn
  case early2 =>
    intro b hn
    refine congrArg Host.Outcome.next ((if_neg fun c => c.2 rfl).trans (if_pos ?_))
    rw [Bool.or_eq_true, decide_eq_true_iff, if_neg (by decide), if_neg (by decide), Option.isSome_iff_ne_none]
    exact hn
  case test1 => exact fun ho hp => congrArg Host.Outcome.next (if_pos ⟨rfl, ho, hp⟩)
  case test2 => exact fun ho hp => congrArg Host.Outcome.next ((if_neg fun c => absurd c.1 (by decide)).trans (if_pos ⟨rfl, ho, hp⟩))
  case noTest1 =>
    intro hn
    refine congrArg Host.Outcome.next ((if_neg fun c => ?_).trans (if_neg fun c => absurd c.1 (by decide)))
    exact hn.elim (fun h => Bool.false_ne_true (h.symm.trans c.2.1)) fun h => h c.2.2
  case noTest2 =>
    intro hn
    refine congrArg Host.Outcome.next ((if_neg fun c => absurd c.1 (by decide)).trans (if_neg fun c => ?_))
    exact hn.elim (fun h => Bool.false_ne_true (h.symm.trans c.2.1)) fun h => h c.2.2
  case end1 =>
    intro k l g hk hn
    refine (testEnd_first s k l g hk hn).trans ?_
    simp only [Bool.not_eq_true']
  case end2 =>
    intro k l g hk hn
    refine (testEnd_second s k l g hk hn).trans ?_
    simp only [Bool.not_eq_true']
  case noEnd1 =>
    intro l g hn
    change execOffPulseTestEnd 1 l g s = _
    simp only [execOffPulseTestEnd, if_true]
    cases hk : s.stage.test1 with
    | none => rfl
    | some k =>
      rw [hk, Option.any_some, decide_eq_false_iff_not, Nat.not_le] at hn
      exact congrArg Host.Outcome.next (if_pos hn)
  case noEnd2 =>
    intro l g hn
    change execOffPulseTestEnd 2 l g s = _
    simp only [execOffPulseTestEnd, if_neg (by decide : ¬2 = 1), if_true]
    cases hk : s.stage.test2 with
    | none => rfl
    | some k =>
      rw [hk, Option.any_some, decide_eq_false_iff_not, Nat.not_le] at hn
      exact congrArg Host.Outcome.next (if_pos hn)
  case clock =>
    intro e h1 h2
    change execSafetyClockCheck e s = _
    simp only [execSafetyClockCheck, decide_eq_false (by omega : ¬e < -50), decide_eq_false (by omega : ¬50 < e), Bool.or_self,
      Bool.false_eq_true, if_false]
  case clockBad =>
    intro e he
    have hb : (decide (e < -50) || decide (50 < e)) = true := by rw [Bool.or_eq_true, decide_eq_true_iff, decide_eq_true_iff]; exact he.symm
    change execSafetyClockCheck e s = _
    simp only [execSafetyClockCheck, hb, if_true]
  case grace =>
    intro k x b g hg hc
    change execGraceExpired k x b s = _
    simp only [execGraceExpired, hg]
    exact congrArg Host.Outcome.next (if_pos hc)
  case graceGone =>
    intro k x b g hg hc
    change execGraceExpired k x b s = _
    simp only [execGraceExpired, hg]
    exact congrArg Host.Outcome.next (if_neg (Bool.eq_false_iff.1 hc))
  case graceNone =>
    intro k x b hg
    change execGraceExpired k x b s = _
    simp only [execGraceExpired, hg]

end Sys2Proof.Machine
end

section
/-! The commands of class 0x0A: records, the reaction table, injection, the watchdog and evidence (R406 to R434). -/
namespace Sys2Proof.Machine

/-! A record without causes closes beside the queue of waiting commands. -/

theorem streamPut_dequeue (s : State) (h : Hdr) (op type pkg : Nat) (l : List Byte) :
    streamPut (dequeue s h op) type pkg l = dequeue (streamPut s type pkg l) h op :=
  (apply_ite (dequeue · h op) (streamRoom s type l.length 0 = true) (endRun (streamWrite s type pkg l) pkg) (streamDrop s pkg)).symm

theorem toHeads_dequeue (s : State) (h : Hdr) (op type : Nat) (l : List Byte) :
    toHeads (dequeue s h op) type l = dequeue (toHeads s type l) h op :=
  (apply_ite (dequeue · h op) (s.chain.addr = 0) s (sendFrame s type 0 1 false false l)).symm

theorem faultRecordOut_dequeue (s : State) (h : Hdr) (op : Nat) (r : FRec) (event cls : Nat) :
    faultRecordOut (dequeue s h op) r event cls = dequeue (faultRecordOut s r event cls) h op := by
  have e := streamPut_dequeue s h op 0x0A 0 (faultPayload s r event cls)
  exact (congrArg (toHeads · 0x07 (faultPayload s r event cls)) e).trans (toHeads_dequeue _ h op _ _)

theorem dailiesPut_dequeue (s : State) (h : Hdr) (op : Nat) (e : DEntry) (strong : Bool) :
    dailiesPut (dequeue s h op) e strong = dequeue (dailiesPut s e strong) h op :=
  (apply_ite (dequeue · h op) (s.dailies.bucket = 0 ∨ (s.dailies.bucket < 64 ∧ strong = false))
    { s with
      dailies := { s.dailies with dropped := s.dailies.dropped + 1 }
      nv := { s.nv with dailiesDropped := s.nv.dailiesDropped + 1 } }
    (flashPush { s with
      dailies := { s.dailies with bucket := s.dailies.bucket - 1 }
      nv := { s.nv with dseq := s.nv.dseq + 1 } } (.dailies { e with dseq := s.nv.dseq }))).symm

theorem dailiesRecord_dequeue (s : State) (h : Hdr) (op : Nat) (r : FRec) (dtype : Nat) :
    dailiesRecord (dequeue s h op) r dtype = dequeue (dailiesRecord s r dtype) h op := dailiesPut_dequeue s h op _ _

theorem afterClear_causeless (s : State) (r : FRec) (hc : r.causes = []) : afterClear s r = s := by
  rw [afterClear, hc]
  rfl

/-- The state in which a record has left the open ones for the closed ones. -/
def movedRec (s : State) (r : FRec) : State :=
  { s with faults := { s.faults with
    open_ := s.faults.open_.filter fun x => x.recid != r.recid
    closed := (s.faults.closed ++ [{ r with open_ := false, decide_ := false }]).drop (s.faults.closed.length + 1 - 256) } }

/-- What closing a record without causes does: it moves, is sent out from WARN up, and enters the Dailies. -/
theorem closeRec_causeless (s : State) (r : FRec) (hc : r.causes = []) :
    closeRec s r = dailiesRecord
      (if 1 ≤ r.cls then faultRecordOut (movedRec s r) { r with open_ := false, decide_ := false } 1 r.cls else movedRec s r)
      { r with open_ := false, decide_ := false } 1 :=
  afterClear_causeless _ { r with open_ := false, decide_ := false } hc

theorem closeRec_dequeue (s : State) (h : Hdr) (op : Nat) (r : FRec) (hc : r.causes = []) :
    closeRec (dequeue s h op) r = dequeue (closeRec s r) h op := by
  have out : (if 1 ≤ r.cls then faultRecordOut (movedRec (dequeue s h op) r) { r with open_ := false, decide_ := false } 1 r.cls
      else movedRec (dequeue s h op) r) =
      dequeue (if 1 ≤ r.cls then faultRecordOut (movedRec s r) { r with open_ := false, decide_ := false } 1 r.cls else movedRec s r) h op := by
    rw [show movedRec (dequeue s h op) r = dequeue (movedRec s r) h op from rfl, faultRecordOut_dequeue]
    exact (apply_ite (dequeue · h op) _ _ _).symm
  rw [closeRec_causeless _ r hc, closeRec_causeless _ r hc, out, dailiesRecord_dequeue]

theorem closeRec_told (s : State) (r : FRec) (hc : r.causes = []) : Told true (movedRec s r) (closeRec s r) := by
  rw [closeRec_causeless s r hc]
  exact Told.trans (.ite (faultRecordOut_told ..) (.refl _)) (dailiesRecord_told ..)

/-- The state in which a FAULT_CLEAR waits for its checks. -/
def clearingState (s : State) (c : Clearing) : State := { s with faults := { s.faults with clearing := some c } }

/-- Of one open record without causes a FAULT_CLEAR runs no check. -/
theorem runClear_causeless (s : State) (c : Clearing) (r : FRec) (ho : s.faults.open_ = [r]) (hc : r.causes = []) :
    runClear s c = clearNow (clearingState s c) c := by
  have start : startClear s r = s := by rw [startClear, hc]; rfl
  have checks : ([r].any fun r => clearMay c r && r.causes.any fun x => checkRuns (clearingState s c) (msgDie r.msg) x) = false := by
    rw [List.any_cons, hc, List.any_nil, Bool.and_false, List.any_nil]
    rfl
  rw [runClear, ho, List.foldl_cons, List.foldl_nil, start, ite_self, finishClear]
  refine if_neg ?_
  rw [ho]
  exact Bool.eq_false_iff.1 checks

/-- Where FAULT_CLEAR names the one open record and that has no causes, the record closes and the answer counts it. -/
theorem clearNow_causeless (s : State) (c : Clearing) (r : FRec) (ho : s.faults.open_ = [r]) (hc : r.causes = []) (hn : s.faults.clearing = none)
    (ha : c.all = 0) (hm : clearMay c r = true) (hop : opOf s c.hdr = none) :
    clearNow (clearingState s c) c = reply (closeRec s r) c.hdr 0x0A02 stOk (le 1 1 ++ le 1 0 ++ zeros 2) := by
  have back : { clearingState s c with faults := { (clearingState s c).faults with clearing := none } } = s := by
    rw [← hn]
    rfl
  have persists : recPersists s r = false := by rw [recPersists, hc]; rfl
  have gone : (closeRec s r).faults.open_ = [] := by
    rw [((closeRec_told s r hc).records rfl).1, movedRec, ho]
    simp only [List.filter_cons, bne_self_eq_false, Bool.false_eq_true, if_false, List.filter_nil]
  have none_ : openOf (closeRec s r) c.source = none := by rw [openOf, gone]; rfl
  have quiet : opOf (closeRec s r) c.hdr = none := by
    rw [opOf, (closeRec_told s r hc).mail]
    exact hop
  rw [clearNow, back, ho]
  simp only [List.foldl_cons, List.foldl_nil, hm, persists, Bool.not_false, Bool.and_self, if_true, ha, ne_eq, not_true_eq_false, if_false, none_,
    Option.isSome_none, Bool.false_eq_true, clearAnswer, quiet]

/-- Settles O50, command by command. -/
theorem faultCommands : Obligations.FaultCommands := by
  refine fun s => ⟨?noRecord, ?read, ?clearBusy, ?clearNone, ?clearForm, ?clearAll, ?clearOne, ?clearClosed, ?clearRefused, ?clearProved, ?status,
    ?tableForm, ?tableRefused, ?tableFixed, ?table, ?readTable, ?forceState, ?forceDie, ?forceRefused, ?forceKind, ?force, ?injectState,
    ?injectRefused, ?inject, ?wdRefused, ?wdLocked, ?wdStore, ?wdArms, ?wdIssues, ?wdStatus, ?evidence, ?noEvidence, ?decideForm, ?decideNone,
    ?decideNot, ?decides, ?checkpoints⟩
  case noRecord => exact fun h w n f g hl => run_served g ((if_pos hl).trans (refuse_answered s h _ _ (by decide)))
  case read => exact fun h w n f g hl => run_served g (if_neg (Nat.not_le.2 hl))
  case clearBusy =>
    exact fun h x a p g hc => run_served g ((if_pos (Option.isSome_iff_ne_none.2 hc)).trans (refuse_answered s h _ _ (by decide)))
  case clearNone =>
    intro h x p g hc ho
    refine run_served g ((if_neg (by rw [dequeue_faults, hc]; exact Bool.false_ne_true)).trans ((if_neg (not_not_intro rfl)).trans ?_))
    rw [show openOf (dequeue s h 0x0A02) x = none from ho]
    exact refuse_answered s h _ _ (by decide)
  case clearForm =>
    intro h x p r g hc ho hp
    refine run_served g ((if_neg (by rw [dequeue_faults, hc]; exact Bool.false_ne_true)).trans ((if_neg (not_not_intro rfl)).trans ?_))
    rw [show openOf (dequeue s h 0x0A02) x = some r from ho]
    exact if_neg hp
  case clearAll =>
    intro h x a g hc ha
    exact run_served g ((if_neg (by rw [dequeue_faults, hc]; exact Bool.false_ne_true)).trans (if_pos ha))
  case clearOne =>
    intro h x r g hc ho hr
    refine run_served g ((if_neg (by rw [dequeue_faults, hc]; exact Bool.false_ne_true)).trans ((if_neg (not_not_intro rfl)).trans ?_))
    rw [show openOf (dequeue s h 0x0A02) x = some r from ho]
    exact if_pos (decide_eq_false (Nat.not_le.2 hr)).symm
  case clearClosed =>
    intro h x r g hc hl ho hr hn hop
    refine run_served g ((if_neg (by rw [dequeue_faults, hc]; exact Bool.false_ne_true)).trans ((if_neg (not_not_intro rfl)).trans ?_))
    rw [show openOf (dequeue s h 0x0A02) x = some r from ho]
    refine (if_pos (decide_eq_false (Nat.not_le.2 hr)).symm).trans ?_
    have may : clearMay { hdr := h, source := x, all := 0, proved := false, before := 1 } r = true := by
      have named : (msgSource r.msg == x) = true := List.find?_some (p := fun y : FRec => msgSource y.msg == x) ho
      simp only [clearMay, named, decide_eq_true hr, Bool.or_true, Bool.and_self]
    have short : ((dequeue s h 0x0A02).faults.open_.any fun y =>
        clearMay { hdr := h, source := x, all := 0, proved := false, before := (dequeue s h 0x0A02).faults.open_.length } y &&
          y.causes.any longCheck) = false := by
      rw [dequeue_faults, hl, List.any_cons, hn, List.any_nil, Bool.and_false, List.any_nil]
      rfl
    refine (if_neg (Bool.eq_false_iff.1 short)).trans ?_
    rw [dequeue_faults, hl, runClear_causeless (dequeue s h 0x0A02) _ r hl hn]
    refine (clearNow_causeless (dequeue s h 0x0A02) _ r hl hn hc rfl may hop).trans ?_
    rw [closeRec_dequeue s h _ r hn]
    rfl
  case clearRefused =>
    intro h x a p g hc ha hp
    have bad : faultClear (dequeue s h 0x0A02) h x a (some p) = answeredCmd s h 0x0A02 stAuthFailed [] :=
      (if_neg (by rw [proofGood_of_dequeue, hp]; exact Bool.false_ne_true)).trans (refuse_answered s h _ _ (by decide))
    refine run_served g ((if_neg (by rw [dequeue_faults, hc]; exact Bool.false_ne_true)).trans ?_)
    split
    · exact bad
    · next h0 =>
      cases ho : openOf s x with
      | none =>
        rw [ho] at ha
        exact absurd (ha.resolve_left h0) Bool.false_ne_true
      | some r =>
        rw [ho, Option.any_some] at ha
        rw [show openOf (dequeue s h 0x0A02) x = some r from ho]
        exact (if_pos (ha.resolve_left h0).symm).trans bad
  case clearProved =>
    intro h p x a g hp hc ha
    have good : faultClear (dequeue s h 0x0A02) h x a (some p) = beginClear (useProof (dequeue s h 0x0A02) h p) h x a true :=
      if_pos (by rw [proofGood_of_dequeue, hp])
    refine run_served g ((if_neg (by rw [dequeue_faults, hc]; exact Bool.false_ne_true)).trans ?_)
    split
    · exact good
    · next h0 =>
      cases ho : openOf s x with
      | none =>
        rw [ho] at ha
        exact absurd (ha.resolve_left h0) Bool.false_ne_true
      | some r =>
        rw [ho, Option.any_some] at ha
        rw [show openOf (dequeue s h 0x0A02) x = some r from ho]
        exact (if_pos (ha.resolve_left h0).symm).trans good
  case status => exact fun h g => run_served g rfl
  case tableForm => exact fun h k n p g hn => run_served g (if_pos hn)
  case tableRefused =>
    intro h k n p g hn hp
    refine run_served g ((if_neg (Nat.not_lt.2 hn)).trans ((if_neg ?_).trans (refuse_answered s h _ _ (by decide))))
    rw [proofGood_of_dequeue, hp]
    exact Bool.false_ne_true
  case tableFixed =>
    intro h p k n g hp hn hf
    exact run_served g ((if_neg (Nat.not_lt.2 hn)).trans ((if_pos (by rw [proofGood_of_dequeue, hp])).trans
      ((if_pos hf).trans (refuse_plain _ h _ _ (by decide)))))
  case table =>
    intro h p k n g hp hn hf
    exact run_served g ((if_neg (Nat.not_lt.2 hn)).trans ((if_pos (by rw [proofGood_of_dequeue, hp])).trans (if_neg (Bool.eq_false_iff.1 hf))))
  case readTable => exact fun h f n g => run_served g rfl
  case forceState =>
    intro h x k d m u p g hi
    refine run_served g ((if_pos ?_).trans (refuse_answered s h _ _ (by decide)))
    rw [show injectPermitted (dequeue s h 0x0A06) = false from hi]
    rfl
  case forceDie =>
    intro h x k d m u p g hi hf
    refine run_served g ((if_neg ?_).trans ((if_pos ?_).trans (refuse_answered s h _ _ (by decide))))
    · rw [show injectPermitted (dequeue s h 0x0A06) = true from hi]
      exact Bool.false_ne_true
    · rw [show (dequeue s h 0x0A06).fitted (x / 32) = false from hf]
      rfl
  case forceRefused =>
    intro h x k d m u p g hi hf hp
    refine run_served g ((if_neg ?_).trans ((if_neg ?_).trans ((if_neg ?_).trans (refuse_answered s h _ _ (by decide)))))
    · rw [show injectPermitted (dequeue s h 0x0A06) = true from hi]
      exact Bool.false_ne_true
    · rw [show (dequeue s h 0x0A06).fitted (x / 32) = true from hf]
      exact Bool.false_ne_true
    · rw [proofGood_of_dequeue, hp]
      exact Bool.false_ne_true
  case forceKind =>
    intro h p x k d m u g hp hi hf hr
    refine run_served g ((if_neg ?_).trans ((if_neg ?_).trans ((if_pos ?_).trans ((if_pos ?_).trans (refuse_plain _ h _ _ (by decide))))))
    · rw [show injectPermitted (dequeue s h 0x0A06) = true from hi]
      exact Bool.false_ne_true
    · rw [show (dequeue s h 0x0A06).fitted (x / 32) = true from hf]
      exact Bool.false_ne_true
    · rw [proofGood_of_dequeue, hp]
    · rw [hr]
      rfl
  case force =>
    intro h p x k d m u g hp hi hf hr
    refine run_served g ((if_neg ?_).trans ((if_neg ?_).trans ((if_pos ?_).trans (if_neg ?_))))
    · rw [show injectPermitted (dequeue s h 0x0A06) = true from hi]
      exact Bool.false_ne_true
    · rw [show (dequeue s h 0x0A06).fitted (x / 32) = true from hf]
      exact Bool.false_ne_true
    · rw [proofGood_of_dequeue, hp]
    · rw [hr]
      exact Bool.false_ne_true
  case injectState =>
    intro h x m n p g hi
    refine run_served g ((if_pos ?_).trans (refuse_answered s h _ _ (by decide)))
    rw [show injectPermitted (dequeue s h 0x0A07) = false from hi]
    rfl
  case injectRefused =>
    intro h x m n p g hi hp
    refine run_served g ((if_neg ?_).trans ((if_neg ?_).trans (refuse_answered s h _ _ (by decide))))
    · rw [show injectPermitted (dequeue s h 0x0A07) = true from hi]
      exact Bool.false_ne_true
    · rw [proofGood_of_dequeue, hp]
      exact Bool.false_ne_true
  case inject =>
    intro h p x m n g hp hi
    refine run_served g ((if_neg ?_).trans (if_pos ?_))
    · rw [show injectPermitted (dequeue s h 0x0A07) = true from hi]
      exact Bool.false_ne_true
    · rw [proofGood_of_dequeue, hp]
  case wdRefused => exact fun h p a n x g hp => proof_refused g hp _
  case wdLocked => exact fun h p n x g hp ha => proof_accepted g hp ((if_pos ⟨rfl, ha⟩).trans (refuse_plain _ h _ _ (by decide)))
  case wdStore => exact fun h p n x g hp ha => proof_accepted g hp (if_neg fun c => Bool.false_ne_true (ha.symm.trans c.2))
  case wdArms => exact fun h p n x g hp => proof_accepted g hp (if_neg fun c => absurd c.1 (by decide))
  case wdIssues =>
    intro h p n x g hp ha
    refine proof_accepted g hp ((if_neg fun c => absurd c.1 (by decide)).trans ?_)
    have arms : wdArm { useProof (dequeue s h 0x0A08) h p with wd := { s.wd with nextPeriod := n, nextSeed := x } } =
        wdIssue { useProof (dequeue s h 0x0A08) h p with wd := { s.wd with armed := true, nextPeriod := n, nextSeed := x } } :=
      if_neg (Bool.eq_false_iff.1 ha)
    exact congrArg (fun u : State => reply u h 0x0A08 stOk (le 2 u.wd.seq.toNat ++ zeros 2)) arms
  case wdStatus => exact fun h g => run_served g rfl
  case evidence =>
    intro h i e g he
    refine run_served g ?_
    rw [show (dequeue s h 0x0A0A).aon.evidence[i]? = some e from he]
    rfl
  case noEvidence =>
    intro h i g he
    refine run_served g ?_
    rw [show (dequeue s h 0x0A0A).aon.evidence[i]? = none from he]
    exact refuse_answered s h _ _ (by decide)
  case decideForm => exact fun h x a g h1 h2 => run_served g (if_pos ⟨h1, h2⟩)
  case decideNone =>
    intro h x a g ha ho
    refine run_served g ((if_neg fun c => ha.elim c.1 c.2).trans ?_)
    rw [show openOf (dequeue s h 0x0A0B) x = none from ho]
    exact refuse_answered s h _ _ (by decide)
  case decideNot =>
    intro h x a r g ha ho hd
    refine run_served g ((if_neg fun c => ha.elim c.1 c.2).trans ?_)
    rw [show openOf (dequeue s h 0x0A0B) x = some r from ho]
    refine (if_pos ?_).trans (refuse_answered s h _ _ (by decide))
    rw [Bool.or_eq_true, Bool.not_eq_true', Bool.not_eq_true']
    exact hd
  case decides =>
    intro h x a r g ha ho hm hd
    refine run_served g ((if_neg fun c => ha.elim c.1 c.2).trans ?_)
    rw [show openOf (dequeue s h 0x0A0B) x = some r from ho]
    refine if_neg ?_
    rw [show (dequeue s h 0x0A0B).faults.hostMode = true from hm, hd]
    exact Bool.false_ne_true
  case checkpoints => exact fun h g => run_served g rfl

end Sys2Proof.Machine
end

section
/-! The collector: records that open, merge and close, and what a message leaves as it was (R405 to R415). -/
namespace Sys2Proof.Machine

/-! Where a message goes. -/

theorem collect_new {s : State} {m : BitVec 32} (k : MsgKind) (ho : openOf s (msgSource m) = none) (hl : s.faults.open_.length < 64) :
    collect s m k = collectNew s m k := by
  rw [collect, ho]
  exact if_pos hl

theorem collect_overflow {s : State} {m : BitVec 32} (k : MsgKind) (ho : openOf s (msgSource m) = none) (hl : 64 ≤ s.faults.open_.length) :
    collect s m k = collectOverflow s m k := by
  rw [collect, ho]
  exact if_neg (Nat.not_lt.2 hl)

theorem collect_merge {s : State} {m : BitVec 32} {r : FRec} (k : MsgKind) (ho : openOf s (msgSource m) = some r) :
    collect s m k = collectMerge s r m k := by
  rw [collect, ho]

/-! The list of open records. -/

/-- Opening a record appends it and takes the next RECID. -/
theorem openRec_records (s : State) (r : FRec) :
    (openRec s r).faults.open_ = s.faults.open_ ++ [r] ∧ (openRec s r).faults.nextId = s.faults.nextId + 1 := by
  unfold openRec
  extract_lets faults s1 s2
  have h2 : Told true s1 s2 := .ite (faultRecordOut_told ..) (.refl _)
  exact ((h2.trans (.ite (dailiesRecord_told ..) (.refl _))).trans (keepFatal_told _ r)).records rfl

/-- A merge replaces the record and takes no RECID. -/
theorem mergeInto_records (s : State) (r r' : FRec) :
    (mergeInto s r r').faults.open_ = upd s.faults.open_ (fun x => x.recid == r.recid) (fun _ => r') ∧
      (mergeInto s r r').faults.nextId = s.faults.nextId := by
  unfold mergeInto
  extract_lets faults s1 s2
  have h2 : Told true s1 s2 := .ite ((faultRecordOut_told ..).trans (dailiesRecord_told ..)) (.refl _)
  exact (h2.trans (.ite (keepFatal_told _ r') (.refl _))).records rfl

theorem collectNew_records (s : State) (m : BitVec 32) (k : MsgKind) :
    (collectNew s m k).faults.open_ = s.faults.open_ ++ [newRec s m (classOf s (msgKind m)) k] ∧
      (collectNew s m k).faults.nextId = s.faults.nextId + 1 := by
  have after : Told true (openRec s (newRec s m (classOf s (msgKind m)) k)) (collectNew s m k) := .ite (setIrq_told _ _) (reaction_told _ _ _)
  obtain ⟨opens, next⟩ := openRec_records s (newRec s m (classOf s (msgKind m)) k)
  exact ⟨(after.records rfl).1.trans opens, (after.records rfl).2.trans next⟩

theorem collectMerge_records (s : State) (r : FRec) (m : BitVec 32) (k : MsgKind) :
    (collectMerge s r m k).faults.open_ =
        upd s.faults.open_ (fun x => x.recid == r.recid) (fun _ => mergeRec s r m (classOf s (msgKind m)) k) ∧
      (collectMerge s r m k).faults.nextId = s.faults.nextId := by
  have after : Told true (mergeInto s r (mergeRec s r m (classOf s (msgKind m)) k)) (collectMerge s r m k) :=
    (releaseWaiting_told _ r _).trans (.ite (setIrq_told _ _) (.ite (reaction_told _ _ _) (.ite (withdraw_told ..) (.refl _))))
  obtain ⟨opens, next⟩ := mergeInto_records s r (mergeRec s r m (classOf s (msgKind m)) k)
  exact ⟨(after.records rfl).1.trans opens, (after.records rfl).2.trans next⟩

/-! What a reaction sets. -/

/-- A reaction from WARN up sets IRQSTAT.FAULT. -/
theorem reaction_irq (s : State) (cls : Nat) (m : BitVec 32) (hc : 1 ≤ cls) : (reaction s cls m).port.irq &&& irqFault = irqFault := by
  unfold reaction
  extract_lets s1 s2 s3
  have set_ : s1.port.irq &&& irqFault = irqFault := by
    have absorbs : ∀ x y : Bool, ((x || y) && y) = y := by decide
    refine (congrArg (fun u : State => u.port.irq &&& irqFault) (if_pos hc)).trans (BitVec.eq_of_getLsbD_eq fun i _ => ?_)
    rw [State.setIrq, BitVec.getLsbD_and, BitVec.getLsbD_or, absorbs]
  have h2 : Told true s1 s2 := .ite (withdraw_told ..) (.refl _)
  have h3 : Told true s1 s3 := h2.trans (.ite ((openOutputs_told ..).trans (alarmSend_told _ _)) (.refl _))
  exact (h3.trans (.ite (fatalStop_told _) (.refl _))).irq irqFault set_

/-- Both outputs are open after an opening of both. -/
theorem openOutputs_both (s : State) : (openOutputs s 3).stage.so1 = false ∧ (openOutputs s 3).stage.so2 = false :=
  ⟨Bool.and_false _, Bool.and_false _⟩

/-- A FATAL reaction opens both outputs and stops the Studio and the sweeps. -/
theorem reaction_fatal (s : State) (m : BitVec 32) :
    (reaction s 4 m).stage.so1 = false ∧ (reaction s 4 m).stage.so2 = false ∧ (reaction s 4 m).sup.ready = false ∧
      (reaction s 4 m).sup.fatal = true ∧ (reaction s 4 m).sweep.running = false := by
  unfold reaction
  extract_lets s1 s2 s3
  have opens : Told true (openOutputs s2 3) s3 := alarmSend_told (openOutputs s2 3) m
  have stops : Told true (openOutputs s2 3) (fatalStop s3) := opens.trans (fatalStop_told s3)
  exact ⟨stops.so1 (openOutputs_both s2).1, stops.so2 (openOutputs_both s2).2, rfl, rfl, rfl⟩

/-- A message of class INFO that opens a record only opens it. -/
theorem collectNew_info (s : State) (m : BitVec 32) (hc : classOf s (msgKind m) = 0) :
    collectNew s m realMsg =
      { s with faults := { s.faults with open_ := s.faults.open_ ++ [newRec s m 0 realMsg], nextId := s.faults.nextId + 1 } } := by
  rw [collectNew, hc]
  rfl

/-- Settles O51: the records from the collector, and what no message changes from `Told`. -/
theorem faultRecords : Obligations.FaultRecords := by
  refine fun s => ⟨?opens, ?merges, ?overflow, ?info, ?warn, ?fatal, ?close, ?closeNot, ?hold⟩
  case opens =>
    intro m ho hl
    have told : Told false s (settle (collect s m realMsg)) := (collect_told ..).trans (settle_told _)
    obtain ⟨opens, next⟩ := collectNew_records s m realMsg
    rw [← collect_new realMsg ho hl] at opens next
    exact ⟨_, rfl, rfl, opens, next, told.closed, told.power, told.safety, told.slates, told.metro⟩
  case merges =>
    intro m r ho
    have told : Told false s (settle (collect s m realMsg)) := (collect_told ..).trans (settle_told _)
    obtain ⟨opens, next⟩ := collectMerge_records s r m realMsg
    rw [← collect_merge realMsg ho] at opens next
    exact ⟨_, rfl, rfl, opens, next, told.closed, told.power, told.safety, told.slates, told.metro⟩
  case overflow =>
    intro m ho hl
    have told : Told false s (settle (collect s m realMsg)) := (collect_told ..).trans (settle_told _)
    exact ⟨_, rfl, congrArg settle (collect_overflow realMsg ho hl), told.closed, told.power, told.safety, told.slates, told.metro⟩
  case info =>
    intro m ho hl hc
    exact congrArg (Host.Outcome.next <| settle ·) ((collect_new realMsg ho hl).trans (collectNew_info s m hc))
  case warn =>
    intro m ho hl hc
    refine ⟨_, rfl, (settle_told (collect s m realMsg)).irq irqFault ?_⟩
    rw [collect_new realMsg ho hl]
    exact reaction_irq _ _ m hc
  case fatal =>
    intro m ho hl hc
    have now_ : collect s m realMsg = reaction (openRec s (newRec s m 4 realMsg)) 4 m := by
      rw [collect_new realMsg ho hl, collectNew, hc]
      rfl
    obtain ⟨so1, so2, ready, fatal_, running⟩ := reaction_fatal (openRec s (newRec s m 4 realMsg)) m
    have told := settle_told (reaction (openRec s (newRec s m 4 realMsg)) 4 m)
    refine ⟨_, congrArg (Host.Outcome.next <| settle ·) now_, ?_⟩
    exact ⟨told.so1 so1, told.so2 so2, told.ready ready, told.fatal fatal_, told.running running⟩
  case close =>
    intro x r ho h0 hh
    change execInfoRecordClose x s = _
    simp only [execInfoRecordClose, ho]
    exact congrArg Host.Outcome.next (if_pos ⟨h0, hh⟩)
  case closeNot =>
    intro x hn
    change execInfoRecordClose x s = _
    rw [execInfoRecordClose]
    split
    · next r ho =>
      rw [ho, Option.any_some] at hn
      rw [if_neg fun c => by rw [decide_eq_true c.1, decide_eq_true c.2] at hn; exact nomatch hn]
    · rfl
  case hold => exact fun x => rfl

end Sys2Proof.Machine
end

section
/-! Downloads, the update status, the activation mode and the customer key (R482 to R505). -/
namespace Sys2Proof.Machine

/-- The second half of a header that Tadpole does not turn away for its target is checked. -/
theorem updateBegin_checked {s : State} {h : Hdr} {l l0 : List Byte} (g : served s h 0x0C01) (ht : s.fw.transfer = none)
    (hh : s.fw.head = some l0) (hr : s.sup.recovery = false ∨ hdrVal (l0 ++ l) 8 1 ≤ 1) :
    execUpdateBegin h 1 l s = .next (
      let d := dequeue s h 0x0C01
      let k := headerCheck s (l0 ++ l)
      if k ≠ 0 then raise (reply { d with fw := { s.fw with head := none } } h 0x0C01 (checkStatus k) (le 1 k ++ zeros 3)) 0 9 0xB2
        (256 * hdrVal (l0 ++ l) 8 1 + k)
      else reply (openTransfer d (l0 ++ l)) h 0x0C01 stOk (le 1 0 ++ zeros 3)) := by
  refine run_served g ((if_neg ?_).trans ((if_neg Nat.one_ne_zero).trans ?_))
  · rw [show (dequeue s h 0x0C01).fw = s.fw from rfl, ht]
    exact Bool.false_ne_true
  · rw [show (dequeue s h 0x0C01).fw = s.fw from rfl, hh]
    refine if_neg fun c => ?_
    exact hr.elim (fun f => Bool.false_ne_true (f.symm.trans c.1)) (Nat.not_le.2 c.2.2)

/-- A chunk that comes next and fits is appended. -/
theorem updateData_next {s : State} {h : Hdr} {l : List Byte} {q : Transfer} (g : served s h 0x0C02) (ht : s.fw.transfer = some q)
    (hl : q.received + l.length ≤ q.length) :
    execUpdateData h q.received l s = .next (
      let u : State := { dequeue s h 0x0C02 with
        nv := { s.nv with images := updAt s.nv.images (placeIdx q.target (q.place == 1)) fun i => i.map fun i => { i with payload := i.payload ++ l } }
        fw := { s.fw with transfer := some { q with received := q.received + l.length, lastOffset := q.received, lastData := l } } }
      reply (if q.received + l.length = q.length then writeBoot u { s.nv.boot with complete := setBit s.nv.boot.complete q.target true } else u)
        h 0x0C02 stOk (le 4 (q.received + l.length))) := by
  refine run_served g ?_
  rw [show (dequeue s h 0x0C02).fw.transfer = some q from ht]
  exact if_pos ⟨rfl, hl⟩

/-- Settles O53, command by command. -/
theorem updateTransfers : Obligations.UpdateTransfers := by
  refine fun s => ⟨?beginBusy, ?beginFirst, ?beginSecond, ?beginAlone, ?beginTadpole, ?dataNone, ?dataNext, ?dataLast, ?dataRepeat, ?dataWrong,
    ?verifyNone, ?verifyEarly, ?verify, ?cancelNone, ?cancel, ?status, ?modePending, ?mode, ?keyRefused, ?keyStored, ?keyState, ?key⟩
  case beginBusy =>
    exact fun h n l g ht _ => run_served g ((if_pos (Option.isSome_iff_ne_none.2 ht)).trans (refuse_answered s h _ _ (by decide)))
  case beginFirst =>
    intro h l g ht
    refine run_served g ((if_neg ?_).trans (if_pos rfl))
    rw [show (dequeue s h 0x0C01).fw = s.fw from rfl, ht]
    exact Bool.false_ne_true
  case beginSecond =>
    intro h l l0 g ht hh hr
    refine (updateBegin_checked g ht hh hr).trans (congrArg Host.Outcome.next ?_)
    exact ite_not ..
  case beginAlone =>
    intro h l g ht hh
    have same : { dequeue s h 0x0C01 with fw := { s.fw with head := none } } = dequeue s h 0x0C01 := by
      rw [← hh]
      rfl
    refine run_served g ((if_neg ?_).trans ((if_neg Nat.one_ne_zero).trans ?_))
    · rw [show (dequeue s h 0x0C01).fw = s.fw from rfl, ht]
      exact Bool.false_ne_true
    · rw [show (dequeue s h 0x0C01).fw = s.fw from rfl, same, hh]
      exact (if_neg fun c => Bool.false_ne_true c.2.1).trans (if_pos Nat.one_ne_zero)
  case beginTadpole =>
    intro h l l0 g ht hh hr hd
    refine run_served g ((if_neg ?_).trans ((if_neg Nat.one_ne_zero).trans ?_))
    · rw [show (dequeue s h 0x0C01).fw = s.fw from rfl, ht]
      exact Bool.false_ne_true
    · rw [show (dequeue s h 0x0C01).fw = s.fw from rfl, hh]
      exact (if_pos ⟨hr, rfl, hd⟩).trans (refuse_plain _ h _ _ (by decide))
  case dataNone =>
    intro h n l g ht
    refine run_served g ?_
    rw [show (dequeue s h 0x0C02).fw.transfer = none from ht]
    exact refuse_answered s h _ _ (by decide)
  case dataNext =>
    intro h n l q g ht hn hl
    subst hn
    refine (updateData_next g ht (Nat.le_of_lt hl)).trans (congrArg Host.Outcome.next ?_)
    dsimp only
    rw [if_neg (Nat.ne_of_lt hl)]
  case dataLast =>
    intro h n l q g ht hn hl
    subst hn
    refine (updateData_next g ht (Nat.le_of_eq hl)).trans (congrArg Host.Outcome.next ?_)
    dsimp only
    rw [if_pos hl, hl]
    rfl
  case dataRepeat =>
    intro h n l q g ht hw hn hl h0
    refine run_served g ?_
    rw [show (dequeue s h 0x0C02).fw.transfer = some q from ht]
    exact (if_neg fun c => hw.elim (fun w => w c.1) (Nat.not_lt.2 c.2)).trans (if_pos ⟨hn, hl, h0⟩)
  case dataWrong =>
    intro h n l q g ht hw hn
    refine run_served g ?_
    rw [show (dequeue s h 0x0C02).fw.transfer = some q from ht]
    refine (if_neg fun c => hw.elim (fun w => w c.1) (Nat.not_lt.2 c.2)).trans ((if_neg fun c => ?_).trans (refuse_answered s h _ _ (by decide)))
    obtain ⟨ho, hl, h0⟩ := c
    exact hn.elim (· ho) fun r => r.elim (· hl) (Nat.ne_of_gt h0)
  case verifyNone =>
    intro h g ht
    refine run_served g ?_
    rw [show (dequeue s h 0x0C03).fw.transfer = none from ht]
    exact refuse_answered s h _ _ (by decide)
  case verifyEarly =>
    intro h q g ht hl
    refine run_served g ?_
    rw [show (dequeue s h 0x0C03).fw.transfer = some q from ht]
    exact (if_pos hl).trans (refuse_answered s h _ _ (by decide))
  case verify =>
    intro h q g c ht hl
    refine run_served g ?_
    rw [show (dequeue s h 0x0C03).fw.transfer = some q from ht]
    exact (if_neg (Nat.not_lt.2 hl)).trans (startOp_opens s h _ _ c)
  case cancelNone =>
    intro h g ht
    refine run_served g ?_
    rw [show (dequeue s h 0x0C04).fw.transfer = none from ht]
    exact refuse_answered s h _ _ (by decide)
  case cancel =>
    intro h q g ht
    refine run_served g ?_
    rw [show (dequeue s h 0x0C04).fw.transfer = some q from ht]
    rfl
  case status => exact fun h g => run_served g rfl
  case modePending =>
    intro h m g _ hp
    exact run_served g ((if_pos (hp.imp_right Option.isSome_iff_ne_none.2)).trans (refuse_answered s h _ _ (by decide)))
  case mode =>
    intro h m g _ hp ha
    refine run_served g (if_neg fun c => c.elim (· hp) fun i => ?_)
    rw [show (dequeue s h 0x0C07).fw.activation = none from ha] at i
    exact Bool.false_ne_true i
  case keyRefused => exact fun h p l g hp => proof_refused g hp _
  case keyStored => exact fun h p l g hp hk => proof_accepted g hp ((if_pos hk).trans (refuse_plain _ h _ _ (by decide)))
  case keyState =>
    intro h p l g hp hk hl
    refine proof_accepted g hp ((if_neg (not_not_intro hk)).trans ((if_pos ?_).trans (refuse_plain _ h _ _ (by decide))))
    rw [show lifeInUse (useProof (dequeue s h 0x0C09) h p) = false from hl]
    rfl
  case key =>
    intro h p l g hp hk hl
    refine proof_accepted g hp ((if_neg (not_not_intro hk)).trans (if_neg ?_))
    rw [show lifeInUse (useProof (dequeue s h 0x0C09) h p) = true from hl]
    exact Bool.false_ne_true

end Sys2Proof.Machine
end

section
/-! Life-cycle transitions, return tokens, self-test on command and test access (R510 to R523). -/
namespace Sys2Proof.Machine

/-! A token decides (R518, R522). -/

/-- Without a nonce that has not expired a token answers NO_NONCE. -/
theorem withToken_none {s : State} {h : Hdr} {op : Nat} {t : List Byte} {target : Nat} (body : State → State)
    (hn : (s.life.nonce.filter fun x => !nonceOld s x) = none) : withToken s h op t target body = reply s h op 0x82 [] := by
  rw [withToken, hn]
  exact refuse_plain s h op _ (by decide)

/-- With such a nonce it costs the nonce, and its fields and signatures decide. -/
theorem withToken_held {s : State} {h : Hdr} {op : Nat} {t : List Byte} {target : Nat} {n : List Byte} {k : Nat} (body : State → State)
    (hn : s.life.nonce = some (n, k)) (hk : s.packTime < k + 7 * dayT) :
    withToken s h op t target body =
      if tokenFault s t target n = 0 then body { s with life := { s.life with nonce := none } }
      else raise (reply { s with life := { s.life with nonce := none } } h op 0x81 []) 0 9 0xC5 (tokenFault s t target n) := by
  have fresh : (s.life.nonce.filter fun x => !nonceOld s x) = some (n, k) := by
    rw [hn, Option.filter_some, nonceOld, decide_eq_false (Nat.not_le.2 hk)]
    rfl
  rw [withToken, fresh]
  dsimp only
  rw [refuse_plain _ h op _ (by decide)]

/-! The commands behind their checks. -/

/-- An LC_ADVANCE from RETURN to CONFIGURED is its token's. -/
theorem lcAdvance_token {s : State} {h : Hdr} {p : Proof} {l : List Byte} {u : State} (g : served s h 0x0D02)
    (hp : proofGood s h 0x0D02 (le 1 2 ++ zeros 3 ++ l) p = true) (h4 : s.life.state = 4)
    (e : withToken (useProof (dequeue s h 0x0D02) h p) h 0x0D02 l 2
      (fun u => reply (lifeSet u 2) h 0x0D02 stOk (le 4 (lifeSet u 2).life.gen)) = u) :
    execLcAdvance h 2 l p s = .next u := by
  refine proof_accepted g hp ((if_neg fun c => ?_).trans ((if_pos ⟨h4, rfl⟩).trans e))
  exact absurd c.2.1 (by decide)

/-- An ENTER_RETURN in CONFIGURED or FIELD without an activation is its token's. -/
theorem enterReturn_token {s : State} {h : Hdr} {p : Proof} {l : List Byte} {u : State} (g : served s h 0x0D04)
    (hp : proofGood s h 0x0D04 l p = true) (hl : lifeInUse s = true) (hb : s.nv.boot.pending = 0) (ha : s.fw.activation = none)
    (e : withToken (useProof (dequeue s h 0x0D04) h p) h 0x0D04 l 4
      (fun u => partReset (replyNow (flashAll (openOutputs (eraseKeys (lifeSet u 4)) 3)) h 0x0D04 stOk []) 1) = u) :
    execEnterReturn h l p s = .next u := by
  refine proof_accepted g hp ((if_neg ?_).trans ((if_neg fun c => c.elim (· hb) fun i => ?_).trans e))
  · rw [show lifeInUse (useProof (dequeue s h 0x0D04) h p) = true from hl]
    exact Bool.false_ne_true
  · rw [show (useProof (dequeue s h 0x0D04) h p).fw.activation = none from ha] at i
    exact Bool.false_ne_true i

/-- An LC_SCRAP with an accepted proof is decided by CONFIRM and the state. -/
theorem lcScrap_proved {s : State} {h : Hdr} {p : Proof} {n : Nat} {l : List Byte} {u : State} (g : served s h 0x0D05)
    (hp : proofGood s h 0x0D05 (le 4 n ++ l) p = true)
    (e : (if n ≠ 0x5C4A0D0D then refuse (useProof (dequeue s h 0x0D05) h p) h 0x0D05 0x84
      else if s.life.state = 2 ∨ s.life.state = 3 ∨ s.life.state = 4 then scrap (useProof (dequeue s h 0x0D05) h p) h
      else refuse (useProof (dequeue s h 0x0D05) h p) h 0x0D05 0x80) = u) : execLcScrap h n l p s = .next u :=
  run_served g ((if_pos (by rw [proofGood_of_dequeue, hp])).trans e)

/-- An LC_SCRAP without one is a token's in RETURN, and refused elsewhere. -/
theorem lcScrap_unproved {s : State} {h : Hdr} {p : Proof} {n : Nat} {l : List Byte} {u : State} (g : served s h 0x0D05)
    (hp : proofGood s h 0x0D05 (le 4 n ++ l) p = false)
    (e : (if s.life.state ≠ 4 then refuse (dequeue s h 0x0D05) h 0x0D05 stAuthFailed
      else if n ≠ 0x5C4A0D0D then refuse (dequeue s h 0x0D05) h 0x0D05 0x84
      else withToken (dequeue s h 0x0D05) h 0x0D05 l 5 fun s => scrap s h) = u) : execLcScrap h n l p s = .next u :=
  run_served g ((if_neg (by rw [proofGood_of_dequeue, hp]; exact Bool.false_ne_true)).trans e)

/-- An LBIST_RUN for segment dies that are fitted goes on to its conditions. -/
theorem lbistRun_fitted {s : State} {h : Hdr} {p : Proof} {m : Nat} {e : List LbistEnv} {u : State} (g : served s h 0x0D06)
    (hp : proofGood s h 0x0D06 (le 1 m ++ zeros 3) p = true) (h0 : bit m 0 = false) (h1 : bit m 1 = false) (hm : maskUnfitted s m = false)
    (eq : (let dies := (s.segs.filter fun d => bit m d.code).map (·.code)
      if s.power.state ≠ .service ∨ s.sweep.running = true ∨ s.sweep.inSweep = true ∨ s.stage.so1 = true ∨ s.stage.so2 = true ∨
          (!lifeInUse s) = true ∨ (!(dies.all (lbAllowed e))) = true then refuse (useProof (dequeue s h 0x0D06) h p) h 0x0D06 0x83
      else startOp (useProof (dequeue s h 0x0D06) h p) h 0x0D06 fun s =>
        let s := dies.foldl (fun s c => match lbEnv e c with
          | some e => restartDie (lbistEnd s e) c
          | none => s) s
        completeOp s h stOk (dies.flatMap fun c => le 4 (lbWordOf s c).toNat)) = u) : execLbistRun h m e p s = .next u := by
  refine proof_accepted g hp ((if_neg ?_).trans ((if_neg ?_).trans eq))
  · rw [h0, h1]
    exact Bool.false_ne_true
  · rw [show maskUnfitted (useProof (dequeue s h 0x0D06) h p) m = false from hm]
    exact Bool.false_ne_true

/-- Settles O55, command by command and event by event. -/
theorem lifeCycle : Obligations.LifeCycle := by
  refine fun s => ⟨?read, ?advanceAuth, ?challengeAuth, ?returnAuth, ?lbistAuth, ?advanceField, ?advanceNot, ?advanceNoNonce, ?advanceToken,
    ?challenge, ?returnState, ?returnPending, ?returnNoNonce, ?returnToken, ?scrapConfirm, ?scraps, ?scrapState, ?scrapAuth, ?scrapReturnConfirm,
    ?scrapNoNonce, ?scrapToken, ?lbistForm, ?lbistDie, ?lbistConditions, ?lbist, ?nonceEnds, ?nonceStays, ?attempt, ?noAttempt⟩
  case read => exact fun h g => run_served g rfl
  case advanceAuth => exact fun h p n l g hp => proof_refused g hp _
  case challengeAuth => exact fun h p g hp => proof_refused g hp _
  case returnAuth => exact fun h p l g hp => proof_refused g hp _
  case lbistAuth => exact fun h p m e g hp => proof_refused g hp _
  case advanceField => exact fun h p l g hp h2 hf => proof_accepted g hp (if_pos ⟨h2, rfl, hf⟩)
  case advanceNot =>
    intro h p n l g hp h23 h42
    refine proof_accepted g hp ((if_neg fun c => ?_).trans ((if_neg fun c => ?_).trans (refuse_plain _ h _ _ (by decide))))
    · obtain ⟨c2, c3, cf⟩ := c
      exact h23.elim (· c2) fun r => r.elim (· c3) fun f => Bool.false_ne_true (f.symm.trans cf)
    · exact h42.elim (· c.1) (· c.2)
  case advanceNoNonce => exact fun h p l g hp h4 hn => lcAdvance_token g hp h4 (withToken_none _ hn)
  case advanceToken => exact fun h p l n k g hp h4 hn hk => lcAdvance_token g hp h4 (withToken_held _ hn hk)
  case challenge => exact fun h p g hp => proof_accepted g hp rfl
  case returnState =>
    intro h p l g hp hl
    refine proof_accepted g hp ((if_pos ?_).trans (refuse_plain _ h _ _ (by decide)))
    rw [show lifeInUse (useProof (dequeue s h 0x0D04) h p) = false from hl]
    rfl
  case returnPending =>
    intro h p l g hp hl ha
    refine proof_accepted g hp ((if_neg ?_).trans ((if_pos (ha.imp_right Option.isSome_iff_ne_none.2)).trans
      (refuse_plain _ h _ _ (by decide))))
    rw [show lifeInUse (useProof (dequeue s h 0x0D04) h p) = true from hl]
    exact Bool.false_ne_true
  case returnNoNonce => exact fun h p l g hp hl hb ha hn => enterReturn_token g hp hl hb ha (withToken_none _ hn)
  case returnToken => exact fun h p l n k g hp hl hb ha hn hk => enterReturn_token g hp hl hb ha (withToken_held _ hn hk)
  case scrapConfirm => exact fun h p n l g hp hn => lcScrap_proved g hp ((if_pos hn).trans (refuse_plain _ h _ _ (by decide)))
  case scraps => exact fun h p l g hp hs => lcScrap_proved g hp ((if_neg (not_not_intro rfl)).trans (if_pos hs))
  case scrapState =>
    intro h p l g hp h2 h3 h4
    exact lcScrap_proved g hp ((if_neg (not_not_intro rfl)).trans
      ((if_neg fun c => c.elim h2 fun c => c.elim h3 h4).trans (refuse_plain _ h _ _ (by decide))))
  case scrapAuth => exact fun h n l p g hp h4 => lcScrap_unproved g hp ((if_pos h4).trans (refuse_answered s h _ _ (by decide)))
  case scrapReturnConfirm =>
    intro h n l p g hp h4 hn
    exact lcScrap_unproved g hp ((if_neg (not_not_intro h4)).trans ((if_pos hn).trans (refuse_answered s h _ _ (by decide))))
  case scrapNoNonce =>
    intro h l p g hp h4 hn
    exact lcScrap_unproved g hp ((if_neg (not_not_intro h4)).trans ((if_neg (not_not_intro rfl)).trans (withToken_none _ hn)))
  case scrapToken =>
    intro h l n k p g hp h4 hn hk
    exact lcScrap_unproved g hp ((if_neg (not_not_intro h4)).trans ((if_neg (not_not_intro rfl)).trans (withToken_held _ hn hk)))
  case lbistForm =>
    intro h p m e g hp hm
    exact proof_accepted g hp (if_pos (by rw [Bool.or_eq_true]; exact hm))
  case lbistDie =>
    intro h p m e g hp h0 h1 hm
    refine proof_accepted g hp ((if_neg ?_).trans ((if_pos hm).trans (refuse_plain _ h _ _ (by decide))))
    rw [h0, h1]
    exact Bool.false_ne_true
  case lbistConditions =>
    intro h p m e g hp h0 h1 hm hc
    refine lbistRun_fitted g hp h0 h1 hm ((if_pos ?_).trans (refuse_plain _ h _ _ (by decide)))
    rw [Bool.not_eq_true', Bool.not_eq_true']
    exact hc
  case lbist =>
    intro h p m e g hp c h0 h1 hm hs hr hi ho1 ho2 hl ha
    refine lbistRun_fitted g hp h0 h1 hm ((if_neg ?_).trans (startOp_opens (useProof s h p) h _ _ c))
    simp only [hs, hr, hi, ho1, ho2, hl, ha, ne_eq, not_true_eq_false, Bool.not_true, Bool.false_eq_true, or_self, not_false_eq_true]
  case nonceEnds =>
    intro l k hn hk
    refine congrArg Host.Outcome.next (if_pos ?_)
    rw [hn, Option.any_some, nonceOld]
    exact decide_eq_true hk
  case nonceStays =>
    intro hn
    refine congrArg Host.Outcome.next (if_neg fun c => ?_)
    cases hx : s.life.nonce with
    | none =>
      rw [hx] at c
      exact Bool.false_ne_true c
    | some x =>
      rw [hx, Option.any_some] at c
      rw [hx, Option.filter_some, c] at hn
      exact nomatch hn
  case attempt =>
    intro k hu h1 h4 ha hk hf
    refine congrArg Host.Outcome.next (if_neg ?_)
    simp only [hu, decide_eq_false h1, decide_eq_false h4, ha, decide_eq_false hk, hf, Bool.not_true, Bool.or_self, Bool.false_eq_true,
      not_false_eq_true]
  case noAttempt =>
    intro k hn
    refine congrArg Host.Outcome.next (if_pos ?_)
    simp only [Bool.or_eq_true, Bool.not_eq_true', decide_eq_true_eq, or_assoc]
    exact hn

end Sys2Proof.Machine
end

section
/-! Starts of C, Tadpole, the confirmation of a set and its fallback (R480 to R505). -/
namespace Sys2Proof.Machine

/-! A start that finds nothing to report. -/

/-- Without records in the always-on domains none are carried in. -/
theorem carriedRecords_none (s : State) (hc : s.aon.carried = []) (hd : ∀ d ∈ s.segs, d.aonRecs = []) : carriedRecords s = s := by
  have dies : s.segs.map (fun d => { d with aonRecs := [] }) = s.segs := by
    refine (List.map_congr_left fun d m => ?_).trans (List.map_id s.segs)
    rw [← hd d m]
    rfl
  have same : { s with aon := { s.aon with carried := [] }, segs := s.segs.map fun d => { d with aonRecs := [] } } = s := by
    rw [dies, ← hc]
  have quiet : ∀ (l : List SegDie) (u : State), (∀ d ∈ l, d.aonRecs = []) →
      l.foldl (fun u d => d.aonRecs.foldl (fun u r => sleepRecord u d.code r) u) u = u := by
    intro l
    induction l with
    | nil => exact fun _ _ => rfl
    | cons d l ih =>
      intro u hl
      rw [List.foldl_cons, hl d List.mem_cons_self]
      exact ih u fun x m => hl x (List.mem_cons_of_mem d m)
  rw [carriedRecords, same, quiet s.segs s hd, hc]
  rfl

/-- A slot whose two copies are good is the current one. -/
theorem pickSlot_good (s : State) (target : Nat) (good : List Bool) (h0 : nth good 0 true = true) (h1 : nth good 1 true = true) :
    pickSlot s target good = some (bit s.fw.running target) := by
  have cur : nth good (b2n (bit s.fw.running target)) true = true := by
    cases bit s.fw.running target
    · exact h0
    · exact h1
  exact if_pos cur

/-- No slot is there whose two copies are bad. -/
theorem pickSlot_bad (s : State) (target : Nat) (good : List Bool) (h0 : nth good 0 true = false) (h1 : nth good 1 true = false) :
    pickSlot s target good = none := by
  have bad : ∀ b, ¬nth good (b2n b) true = true := by
    intro b
    cases b
    · exact Bool.eq_false_iff.1 h0
    · exact Bool.eq_false_iff.1 h1
  exact (if_neg (bad _)).trans (if_neg (bad _))

/-- A start that finds both Keeper slots bad runs Tadpole. -/
theorem startC_badKeeper (s : State) (b : BootFindings) (h0 : nth b.keeperGood 0 true = false) (h1 : nth b.keeperGood 1 true = false) :
    ∃ u n, startC s b = startTadpole u n := by
  rw [startC]
  extract_lets aon u
  split
  · exact ⟨_, 1, rfl⟩
  · refine ⟨u, 0, ?_⟩
    rw [pickSlot_bad _ 0 _ h0 h1]

/-- A PART_START with no pending set starts C. -/
theorem partStart_unset {s : State} (b : BootFindings) (hu : cUp s = true) (hk : s.sup.keeper = false) (hr : s.sup.recovery = false)
    (hp : s.nv.boot.pending = 0) : execPartStart b s = .next (startC s b) := by
  refine congrArg Host.Outcome.next ((if_neg ?_).trans (if_neg fun c => c.1 hp))
  rw [hu, hk, hr]
  exact Bool.false_ne_true

/-! The readiness of the Studio. -/

theorem readSettings_nv (s : State) : ∃ n, readSettings s = { s with nv := n } := by
  unfold readSettings
  split
  · exact ⟨s.nv, rfl⟩
  · split
    · exact ⟨s.nv, rfl⟩
    · exact ⟨_, rfl⟩

theorem readCheckpoints_table (s : State) : ∃ w l, readCheckpoints s = { s with sup := { s.sup with window := w, limits := l } } := by
  unfold readCheckpoints
  split
  · exact ⟨s.sup.window, s.sup.limits, rfl⟩
  · split
    · exact ⟨s.sup.window, s.sup.limits, rfl⟩
    · exact ⟨_, _, rfl⟩

/-- The state in which the Studio serves. -/
def servingStudio (s : State) : State :=
  { s.setIrq irqReady with
    sup := { s.sup with ready := true, stopped := false, restartAt := none, counts := List.replicate 16 0 }
    balance := { s.balance with planned := true } }

/-- A Studio that the Keeper started, with readable settings, reads settings and checkpoint table and serves. -/
theorem studioReady_serves {s : State} (hu : cUp s = true) (hk : s.sup.keeper = true) (hr : s.sup.ready = false) (hh : s.sup.halted = false)
    (hf : s.sup.fatal = false) (hc : s.sup.recovery = false) :
    ∃ n w l, execStudioReady true s = .next (servingStudio { s with nv := n, sup := { s.sup with window := w, limits := l } }) := by
  obtain ⟨n, settings⟩ := readSettings_nv s
  obtain ⟨w, l, table⟩ := readCheckpoints_table { s with nv := n }
  rw [← settings] at table
  refine ⟨n, w, l, congrArg Host.Outcome.next ((if_neg ?_).trans ((if_neg Bool.false_ne_true).trans ((if_neg ?_).trans ?_)))⟩
  · rw [hu, hk, hr, hh, hf, hc]
    exact Bool.false_ne_true
  · rw [if_pos rfl, table, settings]
    dsimp only
    rw [hf, hh]
    exact Bool.false_ne_true
  · rw [if_pos rfl, table, settings]
    rfl

/-- An ACTIVATE in Tadpole without AT and SCOPE activates the verified Keeper and Studio images. -/
theorem activateTadpole_now (s : State) (h : Hdr) :
    activateTadpole s h 0 0 =
      if s.nv.boot.verified % 4 = 0 then refuse s h 0x0C05 0x88
      else startOp s h 0x0C05 fun u => partReset (commitBoot u (s.nv.boot.verified % 4) (max 1 u.packTime)) 1 := by
  unfold activateTadpole
  exact if_neg fun c => c.elim (· rfl) (· rfl)

/-! The end of a confirmation timer. -/

/-- Two states with one boot record and the same running places. -/
def SamePlaces (r t : State) : Prop := t.nv.boot = r.nv.boot ∧ t.fw.running = r.fw.running

theorem SamePlaces.trans {r s t : State} (h : SamePlaces r s) (g : SamePlaces s t) : SamePlaces r t := ⟨g.1.trans h.1, g.2.trans h.2⟩

theorem Told.places {w : Bool} {r t : State} (h : Told w r t) : SamePlaces r t := ⟨h.boot, congrArg (·.running) h.fw⟩

theorem completeOp_places (s : State) (h : Hdr) (st : Nat) (l : List Byte) : SamePlaces s (completeOp s h st l) := by
  unfold completeOp
  split <;> exact ⟨rfl, rfl⟩

theorem endActivation_places (s : State) (st : Nat) (l : List Byte) : SamePlaces s (endActivation s st l) := by
  unfold endActivation
  split
  · exact SamePlaces.trans ⟨rfl, rfl⟩ (completeOp_places _ _ st l)
  · exact ⟨rfl, rfl⟩

/-- A session that a warm restart ends only leaves its operation and its reply. -/
theorem endSession_places (s : State) : SamePlaces s (endSession s 2) := by
  unfold endSession
  split
  · exact ⟨rfl, rfl⟩
  · extract_lets a b c n
    split <;> exact ⟨rfl, rfl⟩

theorem stopWhere_told (s : State) (p : DollyTransfer → Bool) (endc : Nat) : Told false s (stopWhere s p endc) :=
  .foldl _ (.refl s) fun _ _ => .foldl _ (.refl _) fun _ _ => .ite (endFree_told ..) (.refl _)

theorem cancelArmed_places (s : State) (h : Hdr) : SamePlaces s (cancelArmed s h) := by
  unfold cancelArmed
  split
  · exact Told.places (w := false) (.ite (sendFrame_told ..) (.refl s))
  · exact ⟨rfl, rfl⟩

theorem restartDies_places (l : List Nat) (s : State) : SamePlaces s (l.foldl restartDie s) := by
  induction l generalizing s with
  | nil => exact ⟨rfl, rfl⟩
  | cons k l ih => exact SamePlaces.trans ⟨rfl, rfl⟩ (ih (restartDie s k))

theorem cancelWork_places (s : State) (h : Hdr) : SamePlaces s (cancelWork s h) := by
  have armed : SamePlaces s (cancelArmed (stopWhere s (fun t => t.hdr == some h) 3) h) :=
    (stopWhere_told s _ 3).places.trans (cancelArmed_places _ h)
  unfold cancelWork
  extract_lets a cal b
  have taps : SamePlaces a b := by
    unfold b
    split
    · split
      · exact SamePlaces.trans ⟨rfl, rfl⟩ (restartDies_places _ _)
      · exact ⟨rfl, rfl⟩
    · exact ⟨rfl, rfl⟩
  exact armed.trans (taps.trans ⟨rfl, rfl⟩)

theorem abortOp_places (s : State) (o : Op) : SamePlaces s (abortOp s o 2) := by
  unfold abortOp
  split
  · exact endSession_places s
  · exact (cancelWork_places s o.hdr).trans (completeOp_places _ _ _ _)

theorem abortCals_places (l : List Op) (s : State) : SamePlaces s (l.foldl (fun s o => if calOp o.opcode then abortOp s o 2 else s) s) := by
  induction l generalizing s with
  | nil => exact ⟨rfl, rfl⟩
  | cons o l ih =>
    refine SamePlaces.trans ?_ (ih _)
    dsimp only
    split
    · exact abortOp_places s o
    · exact ⟨rfl, rfl⟩

/-- A warm restart of the Studio keeps the boot record and the running places. -/
theorem studioRestart_places (s : State) (halt : Bool) : SamePlaces s (studioRestart s halt) := by
  have ended : SamePlaces s { stopPlanner (endSession s 2) with cal := { (stopPlanner (endSession s 2)).cal with session := none } } :=
    (endSession_places s).trans ⟨rfl, rfl⟩
  exact (ended.trans (abortCals_places _ _)).trans ⟨rfl, rfl⟩

/-- The fallback of a Studio-level set clears PENDING and runs the active places. -/
theorem fallback_studio (s : State) (cause : Nat) (hp : partLevel s.nv.boot.pending = false) :
    (fallback s cause).nv.boot = { s.nv.boot with
      pending := 0, bootCount := 0, actAt := 0, migrate := 0, brgen := (s.nv.boot.brgen + 1) % 2 ^ 32 } ∧
    (fallback s cause).fw.running = s.nv.boot.active ∧ (fallback s cause).sup.ready = false := by
  unfold fallback
  extract_lets b s1 old nv faults fw aon s2 s3
  have boot : nv.boot = { b with pending := 0, bootCount := 0, actAt := 0, migrate := 0, brgen := (b.brgen + 1) % 2 ^ 32 } := by
    unfold nv
    split <;> rfl
  have kept_ : SamePlaces s2 (studioRestart (endActivation s3 0x8D (le 1 1 ++ zeros 3 ++ outcomeBytes s3.chain.addr 1 cause)) false) :=
    ((raise_told s2 0 9 0xB5 _).places.trans (endActivation_places s3 _ _)).trans (studioRestart_places _ false)
  rw [if_neg (Bool.eq_false_iff.1 hp)]
  exact ⟨kept_.1.trans boot, kept_.2, rfl⟩

/-- CONFIRM_TIMEOUT over the timer of an unconfirmed set. -/
theorem confirmTimeout_over {s : State} {k : Tick} (hu : unconfirmed s = true) (hk : s.aon.confirmEnd = some k) (ht : k ≤ s.now) :
    execConfirmTimeout s =
      .next (attemptFailed (raise { s with aon := { s.aon with confirmEnd := none } } 0 9 0xB4 s.nv.boot.bootCount) 0xB4) := by
  refine congrArg Host.Outcome.next (if_pos ?_)
  rw [hu, hk, Option.any_some, decide_eq_true ht]
  rfl

/-- Settles O16, clause by clause. -/
theorem partStarts : Obligations.PartStarts := by
  refine fun s => ⟨?start, ?tadpole, ?ready, ?tadpoleOperands, ?tadpoleNone, ?tadpoleActivate, ?recoveryAuth, ?recoveryLow, ?recovery, ?confirmNot,
    ?confirm, ?timeoutNot, ?timeout, ?fallsBack⟩
  case start =>
    intro b hu hk hr hp hf k0 k1 s0 s1 hc hd hb
    have none_ : carriedRecords { s with aon := { s.aon with bootrec := b.bootrec } } = { s with aon := { s.aon with bootrec := b.bootrec } } :=
      carriedRecords_none _ hc hd
    have pending : startPending { s with aon := { s.aon with bootrec := b.bootrec } } =
        { s with aon := { s.aon with bootrec := b.bootrec }, fw := { s.fw with running := s.nv.boot.active } } := if_pos (.inl hp)
    refine (partStart_unset b hu hk hr hp).trans (congrArg Host.Outcome.next ?_)
    rw [startC, none_, hb]
    refine (if_neg (Bool.eq_false_iff.1 hf)).trans ?_
    rw [show bootSectors { s with aon := { s.aon with bootrec := b.bootrec } } [] = { s with aon := { s.aon with bootrec := b.bootrec } } from rfl,
      pending]
    dsimp only
    rw [pickSlot_good _ 0 _ k0 k1]
    dsimp only
    rw [if_pos rfl, pickSlot_good _ 1 _ s0 s1]
    dsimp only
    rw [if_pos rfl]
  case tadpole =>
    intro b hu hk hr hp k0 k1
    have e : exec (.partStart b) s = .next (startC s b) := partStart_unset b hu hk hr hp
    obtain ⟨u, n, start⟩ := startC_badKeeper s b k0 k1
    refine ⟨startC s b, e, ?_, ?_, ?_, ((exec_apart _ s rfl).of _ e).metro rfl⟩
    · rw [start]
      rfl
    · rw [start]
      rfl
    · rw [start]
      rfl
  case ready =>
    intro hu hk hr hh hf hc
    obtain ⟨n, w, l, e⟩ := studioReady_serves hu hk hr hh hf hc
    exact ⟨_, e, rfl, rfl, rfl, rfl, rfl, rfl, rfl⟩
  case tadpoleOperands =>
    exact fun h m k n g hr ha => run_served g ((if_pos hr).trans ((if_pos ha).trans (refuse_answered s h _ _ (by decide))))
  case tadpoleNone =>
    intro h m g hr hv
    exact run_served g ((if_pos hr).trans ((activateTadpole_now _ h).trans
      ((if_pos hv).trans (refuse_answered s h _ _ (by decide)))))
  case tadpoleActivate =>
    intro h m g c hr hv
    exact run_served g ((if_pos hr).trans ((activateTadpole_now _ h).trans ((if_neg hv).trans (startOp_opens s h _ _ c))))
  case recoveryAuth => exact fun h p g hp => proof_refused g hp _
  case recoveryLow =>
    intro h p g hp hb
    refine proof_accepted g hp ((if_pos ?_).trans (refuse_plain _ h _ _ (by decide)))
    rw [show (useProof (dequeue s h 0x0C08) h p).aon.bootrec = false from hb]
    rfl
  case recovery =>
    intro h p g hp hb
    refine proof_accepted g hp (if_neg ?_)
    rw [show (useProof (dequeue s h 0x0C08) h p).aon.bootrec = true from hb]
    exact Bool.false_ne_true
  case confirmNot =>
    intro b l hn
    refine congrArg Host.Outcome.next (if_pos ?_)
    simp only [Bool.or_eq_true, Bool.not_eq_true', or_assoc]
    exact hn
  case confirm =>
    intro l hu hr
    refine congrArg Host.Outcome.next (if_neg ?_)
    rw [hu, hr]
    exact Bool.false_ne_true
  case timeoutNot =>
    intro hn
    refine congrArg Host.Outcome.next (if_neg ?_)
    rw [Bool.and_eq_true, not_and_or, Bool.not_eq_true, Bool.not_eq_true]
    exact hn
  case timeout => exact fun k hu hk ht => confirmTimeout_over hu hk ht
  case fallsBack =>
    intro k hu hk ht hp hc
    have e : exec .confirmTimeout s =
        .next (attemptFailed (raise { s with aon := { s.aon with confirmEnd := none } } 0 9 0xB4 s.nv.boot.bootCount) 0xB4) :=
      confirmTimeout_over hu hk ht
    have told := raise_told { s with aon := { s.aon with confirmEnd := none } } 0 9 0xB4 s.nv.boot.bootCount
    have boot : (raise { s with aon := { s.aon with confirmEnd := none } } 0 9 0xB4 s.nv.boot.bootCount).nv.boot = s.nv.boot := told.boot
    obtain ⟨record, running, ready⟩ :=
      fallback_studio (raise { s with aon := { s.aon with confirmEnd := none } } 0 9 0xB4 s.nv.boot.bootCount) 0xB4 (by rw [boot]; exact hp)
    have falls : attemptFailed (raise { s with aon := { s.aon with confirmEnd := none } } 0 9 0xB4 s.nv.boot.bootCount) 0xB4 =
        fallback (raise { s with aon := { s.aon with confirmEnd := none } } 0 9 0xB4 s.nv.boot.bootCount) 0xB4 :=
      if_pos (by rw [boot]; exact hc)
    have metro := ((exec_apart _ s rfl).of _ e).metro rfl
    rw [boot] at record running
    rw [falls] at e metro
    exact ⟨_, e, congrArg (·.pending) record, congrArg (·.active) record, congrArg (·.rollIdx) record, congrArg (·.verified) record, running,
      ready, metro⟩

end Sys2Proof.Machine
end
